-- ==== Sys2Proof/Word.lean ====
section
/-! DEFINITION. The word types of the TK-8440 block: bytes, the 32-bit words of BAR0 (R10), 64-bit counts,
table records of at most 256 bytes, and sparse tables as plain lists. -/
namespace Sys2Proof

/-- One byte of a frame, of DDR5 or of flash. -/
abbrev Byte := BitVec 8
/-- One aligned BAR0 word (R10). -/
abbrev Word := BitVec 32
/-- One 64-bit count or program-core register (R10, R267). -/
abbrev Dword := BitVec 64
/-- One table record as an `_IND_DATA` window carries it, byte 0 in bits 7:0 (at most 256 bytes, R162). -/
abbrev Rec := BitVec 2048
/-- One shuttle of 128 bytes, byte 0 in bits 7:0 (R19). -/
abbrev ShuttleWord := BitVec 1024
/-- A sparse table: key and value pairs, keys rising. -/
abbrev SMap (α : Type) := List (Nat × α)

/-- The bit field of width `w` at bit `lo` of a number. -/
def bitsOf (x lo w : Nat) : Nat := (x >>> lo) % 2 ^ w

/-- A number with the bit field of width `w` at `lo` replaced by `v`. -/
def bitsSet (x lo w v : Nat) : Nat :=
  x % 2 ^ lo + 2 ^ lo * (v % 2 ^ w) + 2 ^ (lo + w) * (x >>> (lo + w))

/-- A register field: BAR0 byte address of its register, its low bit and its width (a 64-bit register has bits 0 to 63). -/
structure Fld where
  addr : Nat
  lo : Nat
  width : Nat
  deriving DecidableEq, Repr

/-- A field of a shuttle or of a table record: low bit and width. -/
structure Bits where
  lo : Nat
  width : Nat
  deriving DecidableEq, Repr

end Sys2Proof
end

