-- ==== Sys2Proof/Syntax.lean ====
section
/-! DEFINITION. The commands that the TK-8440 block takes: one constructor for each row of the opcode table, with its operands. Operands are
what comes from outside with the command: the fields of a register write or of an instruction, the bytes of a frame or of a completion, the
choice of an arbiter among equals, and what an expiry or a measurement reports. -/
namespace Sys2Proof

/-- What reading a frame from the packet buffer meets (R363): nothing, an uncorrectable error in the 8-byte word of a cell that holds the frame
byte `at_`, or one in its shuttle. -/
inductive PbufError where
  | none
  | cell (at_ : Nat)
  | shuttle
  deriving DecidableEq, Repr

/-- The choice of an egress point (R240), and what the read of the chosen frame meets (R363). -/
structure PointChoice where
  point : Nat
  pbuf : PbufError
  deriving DecidableEq, Repr

/-- The next release of a host link (R55): whether posted-write credits are there, and what the read of the frame meets (R363). -/
structure LinkRelease where
  link : Nat
  credits : Bool
  pbuf : PbufError
  deriving DecidableEq, Repr

/-- A frame's departure: its measured jitter (R87), and what the read of its bytes meets (R363). -/
structure Departure where
  measured : Int
  pbuf : PbufError
  deriving DecidableEq, Repr

/-- A write to a doorbell page: whether it came in one TLP (R326), and when its last byte crosses the lands, in 2^-6 ns after the present step
(R91). -/
structure Arrival where
  single : Bool
  fine : Nat
  deriving DecidableEq, Repr

/-- A received pause time, and whether the watchdog's limit falls in the same cycle as the end that the frame brings (R70). -/
structure PauseTime where
  quanta : Nat
  also : Bool
  deriving DecidableEq, Repr

/-- The pause times of the eight priorities, and the priorities whose watchdog limit falls in the same cycle as such an end (R70). -/
structure PfcTimes where
  quanta : List Nat
  also : Nat
  deriving DecidableEq, Repr

/-- A measured edge of CLK10_IN: its offset in the present step, and the frequency word with which firmware steers by it (R94, R100). -/
structure Clk10Edge where
  offset : Nat
  steer : Int
  deriving DecidableEq, Repr

/-- The entries that a lookup reads and that fail their parity check: a forwarding entry's place, and a flow (R145, R185). -/
structure LookupParity where
  entry : Option Nat
  flow : Option Nat
  deriving DecidableEq, Repr

/-- The SEL field of LKF, and the forwarding entry that its lookup reads and that fails its parity check (R185, R267). -/
structure LkfSel where
  sel : Nat
  parity : Option Nat
  deriving DecidableEq, Repr

/-- A command. -/
inductive Instr where
  /-- REGISTER_WRITE (R11). A BAR0 write to a register field with no row of its own stores or ignores the value according to its access code. -/
  | registerWrite (addr : Nat) (value : Word) (byteEnables : Nat)
  /-- SNAPSHOT_TAKE (R10). A write of TAKE to a block's snapshot register latches every counter of that block for reading. -/
  | snapshotTake (addr : Nat)
  /-- LOG_TAIL_WRITE (R455). A write of TAIL to a log _INDEX register moves TAIL when the named place lies between the current TAIL and HEAD. -/
  | logTailWrite (index tail : Nat)
  /-- LOST_READ (R455). A read of a log _INDEX register returns LOST and clears it. -/
  | lostRead (index : Nat)
  /-- GEN_RESET (R35). A write of MODULE with KEY 0x7E55 starts a module reset; a write without the key is ignored. -/
  | genReset (key : Nat) (module_ : Bool)
  /-- POWER_GOOD_RISE (R433). Power-good rises after every rail is in regulation and starts a cold reset and the boot sequence. -/
  | powerGoodRise
  /-- POWER_GOOD_FALL (R434). Power-good falls: outputs go to high impedance, host links drop, rails go down and the cause is recorded for the next start. -/
  | powerGoodFall (cause : Nat)
  /-- PERST_ASSERT (R32). PERST_N going low puts the module into module reset and takes down both host links. -/
  | perstAssert
  /-- PERST_DEASSERT (R32). PERST_N going high ends module reset once RST_N is also high and starts the configuration-readiness time. -/
  | perstDeassert
  /-- RST_N_ASSERT (R32). RST_N going low puts the module into module reset. -/
  | rstNAssert
  /-- RST_N_DEASSERT (R32). RST_N going high ends module reset once PERST_N is also high. -/
  | rstNDeassert
  /-- CROSSING_ARRIVE (R25). An item presented to an island crossing becomes usable in the receiving island, in order, within the crossing bound. -/
  | crossingArrive (island : Nat)
  /-- AUTO_GATE_OFF (R28). An AUTO power domain idle for its hold-off time is gated off, unless work arrives in the same cycle. -/
  | autoGateOff (kind unit : Nat) (workArrives : Bool)
  /-- DOMAIN_WAKE_DONE (R29). A gated AUTO domain finishes waking and serves the work or register access that waited for it. -/
  | domainWakeDone (kind unit : Nat)
  /-- SFD_RX (R87). A frame's SFD crosses a network receive land and the port takes its ingress stamp. -/
  | sfdRx (port offset : Nat) (measured : Int)
  /-- FIRST_WINDOW_READY (R136). The first parse window of a received frame is in cells, so its shuttle is created and offered to its ingress pipeline. -/
  | firstWindowReady (port : Nat) (bytes : List Byte)
  /-- SECOND_WINDOW_READY (R136). Frame bytes 128-255 arrive and Heddle parses the second window of a frame whose headers continue past byte 127. -/
  | secondWindowReady (port : Nat) (bytes : List Byte)
  /-- FRAME_END_RX (R40). The MAC reports the end of a received frame, fixing LENGTH, the FCS result and the wire-to-host deadline. -/
  | frameEndRx (port : Nat) (bytes : List Byte) (offset : Nat) (measured : Int) (corrected uncorrected symbols : Nat)
  /-- PIPELINE_ENTRY (R17). A pipeline's entry arbiter admits one shuttle per weave-clock cycle, guaranteed shuttles earliest deadline first. -/
  | pipelineEntry (pipe : Nat)
  /-- HEDDLE_PASS (R146). A shuttle's pass through a pipeline parses the frame, resolves its match, applies its action list and runs the requested stages. -/
  | heddlePass (shuttle : Nat) (fwdParity keyParity : Option Nat)
  /-- DDR5_LOOKUP_RESULT (R145). A DDR5 flow or forwarding lookup returns and the waiting shuttle resumes its match. -/
  | ddr5LookupResult (shuttle err addr row : Nat) (parity : LookupParity)
  /-- STALE_VERSION_EXPIRE (R160). An AS or BE shuttle of the retiring version older than 2 ms is discarded with STALE_VERSION. -/
  | staleVersionExpire (shuttle : Nat)
  /-- DEADLINE_TAIL_EXPIRE (R56). Quartz passes DEADLINE less T_tail before a guaranteed shuttle enters its final stage, so the Loom declares a miss. -/
  | deadlineTailExpire (shuttle : Nat)
  /-- COMMIT_GO (R51). A write of GO starts a commit that runs the admission checks over the shadow set; while PENDING it sets GO_IGNORED. -/
  | commitGo
  /-- COMMIT_DRY_RUN (R51). A write of GO with DRY_RUN runs the admission checks without any swap. -/
  | commitDryRun
  /-- COMMIT_CHECKS_DONE (R49). The Loom finishes the FORMAT, book and delay checks and rejects, completes a dry run, swaps, or waits for the retiring slot. -/
  | commitChecksDone
  /-- RETIRING_SLOT_DRAIN (R159). The last shuttle of the retiring version leaves and the swap notice has crossed, so a pending commit rechecks and swaps. -/
  | retiringSlotDrain
  /-- COMMIT_LIMIT_EXPIRE (R51). LOOM_COMMIT_LIMIT elapses with the retiring slot still carried and the commit is rejected with RETIRING_BUSY. -/
  | commitLimitExpire
  /-- SHEDDING_READMIT (R59). After a capacity change the Loom reruns admission over the active set and demotes envelopes by rank until it passes. -/
  | sheddingReadmit
  /-- RECORD_RECLAIM (R157). After the retiring slot drains, one record with DIED equal to the active version is reclaimed per weave-clock cycle. -/
  | recordReclaim
  /-- SHADOW_DISCARD (R158). A write of DISCARD reverts the shadow set to the active set. -/
  | shadowDiscard
  /-- HED_READ (R162). The Heddle indirect READ returns a table record into HED_IND_DATA. -/
  | hedRead (table set index : Nat)
  /-- HED_WRITE (R161). The Heddle indirect WRITE stages a record into the shadow set. -/
  | hedWrite (table set index : Nat)
  /-- HED_DELETE (R161). The Heddle indirect DELETE removes a record from the shadow set. -/
  | hedDelete (table set index : Nat)
  /-- INSERT_KEY (R162). INSERT_KEY places a flow record in a free record of the named tier and returns its FLOW_ID. -/
  | insertKey (table set index : Nat)
  /-- HED_FIND_KEY (R162). FIND_KEY returns the FLOW_ID of the flow record holding a key. -/
  | hedFindKey (table set : Nat)
  /-- INDIRECT_OP_COMPLETE (R161). An indirect table operation of any block finishes, clearing BUSY and setting RESULT. -/
  | indirectOpComplete (ctrl : Nat)
  /-- AN_COMPLETE (R66). Clause 73 negotiation ends; the configured mode proceeds to training, otherwise AN_FAIL is counted and negotiation restarts. -/
  | anComplete (port : Nat) (matches_ : Bool)
  /-- TRAINING_COMPLETE (R66). Link training completes, or is skipped for C2M, and the port moves to ALIGN. -/
  | trainingComplete (port : Nat)
  /-- TRAINING_TIMEOUT (R66). The training timer of its clause expires and the port restarts negotiation or training. -/
  | trainingTimeout (port : Nat)
  /-- LINK_UP (R66). Block lock, alignment and FEC lock are reached; LINK is set and the port book capacity is written. -/
  | linkUp (port : Nat)
  /-- LINK_LOSS (R67). A port leaves UP; its book capacity becomes 0, queued frames are discarded and guaranteed ones recorded as misses. -/
  | linkLoss (port : Nat)
  /-- RCLK_RESTORE (R81). After 10 ms of continuous lock a squelched recovered clock output is restored. -/
  | rclkRestore (output : Nat)
  /-- PAUSE_FRAME_RX (R68). A received PAUSE frame holds the port's transmission for its quanta. -/
  | pauseFrameRx (port : Nat) (pause : PauseTime)
  /-- PFC_FRAME_RX (R68). A received PFC frame pauses the traffic classes mapped from the priorities it names. -/
  | pfcFrameRx (port enables : Nat) (pauses : PfcTimes)
  /-- PAUSE_QUANTA_EXPIRE (R70). The quanta of a received pause expire and the pause ends. -/
  | pauseQuantaExpire (port priority : Nat) (also : Bool)
  /-- PAUSE_WATCHDOG_EXPIRE (R70). A pause lasts LIMIT_US without a break, so received pause is ignored for HOLDOFF_MS. -/
  | pauseWatchdogExpire (port priority : Nat)
  /-- PAUSE_HOLDOFF_EXPIRE (R70). The pause hold-off ends and received pause is honoured again. -/
  | pauseHoldoffExpire (port priority : Nat)
  /-- XOFF_REFRESH (R69). Every half quanta period while XOFF holds, the port transmits the pause again. -/
  | xoffRefresh (port priority : Nat)
  /-- TX_UNDERRUN (R72). Host data fails to keep ahead of the MAC; the frame ends stomped, completes UNDERRUN and the ring threshold rises. -/
  | txUnderrun (port : Nat)
  /-- PRP_ENTRY_FORGET (R78). A PRP source unseen for FORGET_MS is removed from the duplicate-discard table. -/
  | prpEntryForget (pair mac : Nat)
  /-- AB_GAP_TIMEOUT (R80). An open A/B gap reaches its timeout and is logged as kind GAP and closed. -/
  | abGapTimeout (group first : Nat)
  /-- FRAME_TRANSMIT (R87). A frame's SFD crosses a network transmit land; the egress stamp is taken and the departure test is applied. -/
  | frameTransmit (port offset : Nat) (departure : Departure)
  /-- TXSTAMP_POP (R110). A write of POP discards the head entry of a port's transmit stamp FIFO. -/
  | txstampPop (port : Nat)
  /-- FREQ_WRITE (R84). A write of the high word of TIME_FREQ sets F in the next cycle, clamped to its range. -/
  | freqWrite (high : Word)
  /-- TIME_LATCH (R86). A write of LATCH latches Quartz time into TIME_NOW_NS and TIME_NOW_FRAC. -/
  | timeLatch
  /-- STEP_GO (R101). A write of GO requests a clock step at a set delay or at AT; a GO while a step is pending is ignored. -/
  | stepGo (frac : Nat)
  /-- STEP_APPLY (R105). A step is applied to Quartz and every follower, the epoch advances and a STEP record is written. -/
  | stepApply
  /-- STEP_FOLD (R104). A step held for 10 ms folds the old epoch's shuttles into the next epoch and is applied. -/
  | stepFold
  /-- PPS_IN_EDGE (R93). A declared PPS_IN edge is stamped into TIME_PPS_IN_NS and raises PPS_IN. -/
  | ppsInEdge (rising : Bool) (offset : Nat)
  /-- PPS_IN_LOSS (R93). No PPS_IN edge for 1.5 s raises PPS_IN_LOSS and clears PPS_IN_OK. -/
  | ppsInLoss (edgeToo : Bool)
  /-- PPS_IN_READ (R93). A read of TIME_PPS_IN_NS returns the stamp and marks it consumed. -/
  | ppsInRead
  /-- CLK10_MEASURE (R94). Every 1,000th CLK10_IN edge's offset from Quartz is written to TIME_CLK10_PHASE. -/
  | clk10Measure (edge : Clk10Edge)
  /-- CLK10_LOSS (R94). No CLK10_IN edge for 1 µs raises CLK10_LOSS and clears CLK10_OK. -/
  | clk10Loss
  /-- TOD_RX_CHAR (R95). A UART character received on TOD_RX is stored in the window and HEAD advances. -/
  | todRxChar (char : Byte) (afterIdle framingError : Bool)
  /-- PPS_OUT_PULSE (R96). Quartz reaches a multiple of the PPS_OUT period and PPS_OUT rises. -/
  | ppsOutPulse
  /-- PPS_OUT_END (R96). WIDTH_US after its rise, PPS_OUT falls. -/
  | ppsOutEnd
  /-- TOD_TX_SEND (R98). After a whole-second PPS_OUT edge, TOD_TX sends a message naming that second. -/
  | todTxSend
  /-- SERVO_SOURCE_USABLE (R99). A usable time source appears and the servo enters ACQUIRING with a step or steering. -/
  | servoSourceUsable (source : Nat) (offsetNs steer : Int)
  /-- SERVO_SOURCE_LOST (R99). The servo's source is lost and it moves to FREE_RUN, HOLDOVER or a lower-priority source. -/
  | servoSourceLost (fallback : Option Nat)
  /-- SERVO_LOCKED (R99). The offset stays within ±10 ns for 16 samples and the servo enters LOCKED. -/
  | servoLocked
  /-- SERVO_OFFSET_EXCEED (R99). A LOCKED offset exceeds STEP_THRESH and the servo steps and re-enters ACQUIRING. -/
  | servoOffsetExceed (offsetNs : Int)
  /-- SERVO_TRACE_LIMIT (R99). The holdover error estimate exceeds TRACE_LIMIT and TRACEABLE is cleared. -/
  | servoTraceLimit (errorNs : Nat)
  /-- SERVO_HOLDOVER_EXPIRE (R99). 86,400 s in HOLDOVER elapse and the servo enters FREE_RUN. -/
  | servoHoldoverExpire
  /-- SEAL_INTERVAL_EXPIRE (R123). SEAL_US elapses since the previous cut and the stream cuts a batch. -/
  | sealIntervalExpire (stream : Nat)
  /-- SEAL_NOW (R123). A write of LEDG_SEAL_NOW cuts each named stream at once. -/
  | sealNow (streams : Nat)
  /-- SEAL_WRITE (R124). The signer signs and checks a seal and writes it into the stream's reserved slots, re-signing once on failure. -/
  | sealWrite (failures : Nat)
  /-- LEDGER_EXPORT_BURST (R132). A stream's export channel copies slots to the host buffer and writes the exported count to MIRROR. -/
  | ledgerExportBurst (stream : Nat)
  /-- LEDGER_TAIL_DOORBELL (R132). A LEDGER_TAIL doorbell write reports a stream's consumed slots. -/
  | ledgerTailDoorbell (inst stream slots : Nat) (single poisoned : Bool)
  /-- LEDGER_HOST_TAIL_WRITE (R132). The manager writes LEDG_STREAM_s_HOST_TAIL to report consumed slots. -/
  | ledgerHostTailWrite (stream slots : Nat)
  /-- EXPORT_STOP (R133). A write of EXPORT 0 stops a stream's export and writes a HEALTH record. -/
  | exportStop (stream : Nat)
  /-- EXPORT_RESUME (R133). A write of EXPORT 1 resumes export from the first slot not exported and writes a HEALTH record. -/
  | exportResume (stream : Nat)
  /-- HEALTH_SELF_TEST_RECORD (R134). Every HEALTH_S seconds a SELF_TEST health record is written. -/
  | healthSelfTestRecord
  /-- FWD_READ (R187). The forwarding indirect READ returns an entry, domain record or map entry. -/
  | fwdRead (table set index : Nat)
  /-- FWD_WRITE (R186). The forwarding indirect WRITE writes an entry live, or stages a domain record or map. -/
  | fwdWrite (table set index : Nat)
  /-- DELETE_KEY (R187). DELETE_KEY removes a forwarding entry. -/
  | deleteKey (table set : Nat)
  /-- WRITE_KEY (R187). WRITE_KEY inserts a static forwarding entry or makes an existing one static. -/
  | writeKey (table set : Nat)
  /-- FWD_FIND_KEY (R187). FIND_KEY returns the index of a forwarding entry. -/
  | fwdFindKey (table set : Nat)
  /-- FWD_FLUSH (R188). A write of FWD_FLUSH GO starts removing learned, non-frozen entries of one FD or DEST_PORT. -/
  | fwdFlush (by_ target : Nat)
  /-- FLUSH_BUCKET (R188). The flush reads one bucket at the ager's rate and removes its matching entries. -/
  | flushBucket (ddr5 : Bool) (bucket : Nat)
  /-- LEARN_DECIDE (R179). The learn unit takes the next queued request, searches both tables and inserts, refreshes, moves or refuses. -/
  | learnDecide (parity : Option Nat)
  /-- AGE_TICK (R182). The ageing tick register advances by one every AGE_TICK_MS. -/
  | ageTick
  /-- AGER_BUCKET_READ (R183). The ager reads a bucket and issues conditional removes for stale entries and clears expired freezes. -/
  | agerBucketRead (bucket : Nat) (sweepLate : Bool) (parity : Option Nat)
  /-- CIPHER_LANE_ENTER (R191). A lane of the frame's group takes the head frame of an SA, guaranteed frames earliest deadline first. -/
  | cipherLaneEnter (lane : Nat)
  /-- CIPHER_TAG_RESULT (R214). The lane's tag result arrives and the frame is verified, or discarded, stomped or marked AUTH_FAIL. -/
  | cipherTagResult (shuttle : Nat)
  /-- SA_FETCH_DONE (R198). An uncached SA is fetched and unwrapped and the waiting frame proceeds. -/
  | saFetchDone (sa err addr row : Nat)
  /-- SA_READ (R221). The CIPH indirect READ returns an SA record without its key. -/
  | saRead (index : Nat)
  /-- SA_WRITE (R200). WRITE installs a FREE SA with the loaded key and makes it ACTIVE. -/
  | saWrite (index : Nat)
  /-- SA_RETIRE (R200). RETIRE makes an ACTIVE SA RETIRED at once. -/
  | saRetire (index : Nat)
  /-- SA_REKEY (R212). REKEY loads a new TLS key and static IV from a given TCP sequence number. -/
  | saRekey (index : Nat)
  /-- SA_RESYNC (R212). RESYNC restores TLS SYNC at a given record start. -/
  | saResync (index : Nat)
  /-- TEMPLATE_READ (R221). READ of CIPH table 1 returns a tunnel template. -/
  | templateRead (set index : Nat)
  /-- TEMPLATE_WRITE (R221). WRITE of CIPH table 1 stages a tunnel template in the shadow set. -/
  | templateWrite (set index : Nat)
  /-- KEY_WRITE (R201). A write to the CIPH_KEY window stores key bytes and marks the window loaded. -/
  | keyWrite (offset : Nat) (value : Word)
  /-- RNG_READ (R220). A read of CIPH_RNG returns 32 fresh DRBG bits, or 0 with RNG_EMPTY while the DRBG is not ready. -/
  | rngRead
  /-- ENTROPY_HEALTH_FAIL (R220). An entropy health test fails; the DRBG stops and ENTROPY_FAIL and FLT_ENTROPY are raised. -/
  | entropyHealthFail
  /-- ENTROPY_RETEST (R220). Every 1 s after a failure the start-up test is repeated and a pass reseeds the DRBG. -/
  | entropyRetest (pass : Bool)
  /-- DRBG_RESEED (R219). After RESEED_MS, or 2^20 requests, the CTR_DRBG is reseeded. -/
  | drbgReseed
  /-- MASK_RESEED (R218). A lane's mask generator is reseeded from the DRBG every 4,096 blocks. -/
  | maskReseed (lane : Nat)
  /-- STOR_READ (R236). The STOR indirect READ returns a queue context. -/
  | storRead (index : Nat)
  /-- STOR_WRITE (R236). The STOR indirect WRITE installs a queue context, or gives EXISTS. -/
  | storWrite (index : Nat)
  /-- STOR_DELETE (R231). DELETE removes a queue context and drops its cached entries. -/
  | storDelete (index : Nat)
  /-- RESYNC_RX (R224). RESYNC_RX restores a context's receive SYNC at a given PDU header. -/
  | resyncRx (index : Nat)
  /-- RESYNC_TX (R229). RESYNC_TX sets a context's TX_SEQ. -/
  | resyncTx (index : Nat)
  /-- CID_ENTRY_FETCH (R227). A command table entry read completes and placement of the C2HData data proceeds or faults. -/
  | cidEntryFetch (context cid : Nat)
  /-- CRC_START (R233). A source starts a CRC unit, or receives BUSY when another source owns it. -/
  | crcStart (unit kind owner poly : Nat) (alive : Option Nat)
  /-- CRC_FEED (R233). Bytes from the owner advance a running CRC unit. -/
  | crcFeed (unit kind owner : Nat) (bytes : List Byte)
  /-- CRC_END (R233). An END mark closes a message, writes RESULT and runs the alive check. -/
  | crcEnd (unit kind owner : Nat)
  /-- CRC_STOP (R233). STOP from the owner frees the unit and discards a partial message. -/
  | crcStop (unit kind owner : Nat)
  /-- CRC_RELEASE (R233). A write of RELEASE forces a CRC unit FREE and sets ABANDONED. -/
  | crcRelease (unit : Nat)
  /-- CRC_PARITY_FAULT (R233). A parity error inside a CRC unit makes it FAULTED and tells its owner. -/
  | crcParityFault (unit : Nat)
  /-- CRC_STATUS_READ (R234). A read of STOR_CRC_u_STATUS latches RESULT for the next read. -/
  | crcStatusRead (unit : Nat)
  /-- REED_ENQUEUE (R238). A shuttle reaches Reed and enters its deadline set or queue, or is dropped at LIMIT. -/
  | reedEnqueue (shuttle : Nat)
  /-- REED_CHOOSE (R241). Reed chooses the next eligible frame for an egress point and charges its shapers. -/
  | reedChoose (choice : PointChoice)
  /-- SHAPER_REFILL (R247). Every 1,000 ns each shaper gains RATE bits up to its cap and staged shaper changes take effect. -/
  | shaperRefill
  /-- GATE_ENTRY_CHANGE (R250). A port's gate list moves to its next entry and the gate states change. -/
  | gateEntryChange (port : Nat)
  /-- GATE_LIST_START (R252). A pending gate list starts at S, PENDING clears and GATE_CHANGE is raised. -/
  | gateListStart (port : Nat)
  /-- REED_READ (R257). The REED indirect READ returns a queue or group record. -/
  | reedRead (table set index : Nat)
  /-- REED_WRITE (R257). The REED indirect WRITE stages a queue or group record. -/
  | reedWrite (table set index : Nat)
  /-- PROGRAM_DISPATCH (R265). A core's dispatcher hands a waiting shuttle to an idle thread and starts it at the program's ENTRY. -/
  | programDispatch (core thread : Nat)
  /-- ADD (R268). ALU FN 0 adds two registers. -/
  | add (core thread wd wa wb : Nat)
  /-- SUB (R268). ALU FN 1 subtracts two registers. -/
  | sub (core thread wd wa wb : Nat)
  /-- AND (R268). ALU FN 2 ANDs two registers. -/
  | and_ (core thread wd wa wb : Nat)
  /-- OR (R268). ALU FN 3 ORs two registers. -/
  | or_ (core thread wd wa wb : Nat)
  /-- XOR (R268). ALU FN 4 XORs two registers. -/
  | xor (core thread wd wa wb : Nat)
  /-- SHL (R268). ALU FN 5 shifts left. -/
  | shl (core thread wd wa wb : Nat)
  /-- SHR (R268). ALU FN 6 shifts right logically. -/
  | shr (core thread wd wa wb : Nat)
  /-- SAR (R268). ALU FN 7 shifts right arithmetically. -/
  | sar (core thread wd wa wb : Nat)
  /-- SLT (R268). ALU FN 8 sets wd when wa is less than wb, signed. -/
  | slt (core thread wd wa wb : Nat)
  /-- SLTU (R268). ALU FN 9 sets wd when wa is less than wb, unsigned. -/
  | sltu (core thread wd wa wb : Nat)
  /-- BSWAP (R268). ALU FN 10 byte-reverses wa. -/
  | bswap (core thread wd wa : Nat)
  /-- ADDI (R268). ADDI adds a sign-extended immediate. -/
  | addi (core thread wd wa : Nat) (imm : BitVec 16)
  /-- ANDI (R268). ANDI ANDs a zero-extended immediate. -/
  | andi (core thread wd wa : Nat) (imm : BitVec 16)
  /-- ORI (R268). ORI ORs a zero-extended immediate. -/
  | ori (core thread wd wa : Nat) (imm : BitVec 16)
  /-- SHI (R268). SHI shifts by an immediate count in the direction its immediate selects. -/
  | shi (core thread wd wa : Nat) (imm : BitVec 16)
  /-- SHIN (R268). SHIN shifts wa left 16 and ORs in an immediate. -/
  | shin (core thread wd wa : Nat) (imm : BitVec 16)
  /-- MUL (R268). MUL writes the low 64 bits of a product. -/
  | mul (core thread wd wa wb : Nat)
  /-- BEQ (R268). BEQ branches when two registers are equal. -/
  | beq (core thread wd wa : Nat) (imm : BitVec 16)
  /-- BNE (R268). BNE branches when two registers differ. -/
  | bne (core thread wd wa : Nat) (imm : BitVec 16)
  /-- BLTU (R268). BLTU branches when wd is below wa, unsigned. -/
  | bltu (core thread wd wa : Nat) (imm : BitVec 16)
  /-- BGEU (R268). BGEU branches when wd is at least wa, unsigned. -/
  | bgeu (core thread wd wa : Nat) (imm : BitVec 16)
  /-- JAL (R268). JAL saves the next PC and jumps by an immediate. -/
  | jal (core thread wd : Nat) (imm : BitVec 16)
  /-- JR (R268). JR jumps to the address in wa. -/
  | jr (core thread wa : Nat)
  /-- ILLEGAL_INSTRUCTION (R268). A reserved OP, FN or SZ faults the thread with cause ILLEGAL. -/
  | illegalInstruction (core thread : Nat)
  /-- LD (R269). LD loads from local memory. -/
  | ld (core thread wd wa sz : Nat) (disp : BitVec 13)
  /-- ST (R269). ST stores to local memory. -/
  | st (core thread ws wa sz : Nat) (disp : BitVec 13)
  /-- SLD (R269). SLD loads from the thread's shuttle copy. -/
  | sld (core thread wd wa sz : Nat) (disp : BitVec 13)
  /-- SST (R269). SST stores to the shuttle copy, faulting on a changed read-only or reserved bit. -/
  | sst (core thread ws wa sz : Nat) (disp : BitVec 13)
  /-- FLD (R269). FLD loads from the frame window, waiting for bytes not yet arrived. -/
  | fld (core thread wd wa sz : Nat) (disp : BitVec 13)
  /-- FST (R269). FST stores to the frame window below LENGTH. -/
  | fst (core thread ws wa sz : Nat) (disp : BitVec 13)
  /-- LKF (R269). LKF performs a forwarding lookup of a key. -/
  | lkf (core thread wd wa : Nat) (sel : LkfSel)
  /-- LKK (R269). LKK performs a flow lookup of a 40-byte key. -/
  | lkk (core thread wd wa sel : Nat)
  /-- HASH (R269). HASH computes a CRC-32C over 8 bytes. -/
  | hash (core thread wd wa wb : Nat)
  /-- CRCS (R233). CRCS starts a CRC unit for the thread. -/
  | crcs (core thread wd wa sel : Nat) (imm : BitVec 8)
  /-- CRCF (R233). CRCF feeds bytes to an owned CRC unit, optionally with END. -/
  | crcf (core thread wa sel : Nat) (imm : BitVec 8)
  /-- CRCX_STOP (R233). CRCX with IMM8 0 stops an owned CRC unit. -/
  | crcxStop (core thread sel : Nat)
  /-- CRCX_READ (R233). CRCX with IMM8 1 returns the unit's last RESULT. -/
  | crcxRead (core thread wd sel : Nat)
  /-- LOCK (R270). LOCK acquires a lock or waits in its FIFO. -/
  | lock (core thread wa : Nat)
  /-- TRYL (R271). TRYL acquires a lock only if it is free. -/
  | tryl (core thread wd wa : Nat)
  /-- ULK (R271). ULK releases a lock and passes it to the head of its FIFO. -/
  | ulk (core thread wa : Nat)
  /-- CHW (R273). CHW writes a staging word. -/
  | chw (core thread wa : Nat) (imm : BitVec 8)
  /-- CHS (R274). CHS sends the staged words to a channel, or returns FULL or UNBOUND, or waits. -/
  | chs (core thread wd wa : Nat) (imm : BitVec 8)
  /-- CHANNEL_MESSAGE_ARRIVE (R273). A sent message becomes visible whole in its channel queue and sets CHANNEL for its thread. -/
  | channelMessageArrive (channel : Nat)
  /-- CHR (R273). CHR takes the head message of an own queue into the receive buffer. -/
  | chr (core thread wd sel : Nat) (imm : BitVec 8)
  /-- CHL (R273). CHL reads a receive buffer word. -/
  | chl (core thread wd : Nat) (imm : BitVec 8)
  /-- WAITT (R277). WAITT waits until Quartz reaches a time. -/
  | waitt (core thread wd wa : Nat)
  /-- WAITE (R277). WAITE waits for masked events, with an optional timer. -/
  | waite (core thread wd wa : Nat) (imm : BitVec 8)
  /-- THREAD_WAKE (R277). A waiting thread wakes on a timer, event, grant, space, message, result or bytes and receives its wake word. -/
  | threadWake (core thread : Nat)
  /-- SIG (R276). SIG sets SIGNAL for a thread of the same core. -/
  | sig (core thread sel : Nat)
  /-- TSET (R278). TSET sets a register of an idle non-dispatch thread. -/
  | tset (core thread wa sel : Nat) (imm : BitVec 8)
  /-- TGO (R278). TGO starts a non-dispatch thread at a PC with its BARM budget. -/
  | tgo (core thread wd wa sel : Nat)
  /-- TEND (R266). TEND ends the thread, writing back a dispatched shuttle and frame and releasing its locks. -/
  | tend (core thread : Nat)
  /-- TSTOP (R278). TSTOP ends a thread without write-back. -/
  | tstop (core thread wd sel : Nat)
  /-- BRD (R280). BRD reads the thread's remaining budget. -/
  | brd (core thread wd : Nat)
  /-- BARM (R280). BARM sets the budget of a thread for its next TGO. -/
  | barm (core thread wa sel : Nat)
  /-- STALL_DETECT (R284). After 256 stalled cycles the stall detector wakes thread 0 or resets the core. -/
  | stallDetect (core : Nat)
  /-- CORE_RESET_WRITE (R31). A write of RESET with KEY 0xC0E5 to BARB_CORE_n_CTRL resets a program core. -/
  | coreResetWrite (core key : Nat)
  /-- DEBUG_HALT (R285). A HALT bit halts a thread at its next instruction boundary, or is refused. -/
  | debugHalt (core thread : Nat)
  /-- DEBUG_RESUME (R285). A RESUME bit resumes a halted thread. -/
  | debugResume (core thread : Nat)
  /-- DEBUG_STEP (R285). A STEP bit issues one instruction of a halted thread that is not waiting. -/
  | debugStep (core thread : Nat)
  /-- DEBUG_DATA_WRITE (R285). A write of DBG_DATA sets a register or the PC of a halted thread. -/
  | debugDataWrite (core : Nat) (value : Dword)
  /-- BARB_READ (R287). The BARB indirect READ returns a program entry or channel binding. -/
  | barbRead (table set index : Nat)
  /-- BARB_WRITE (R287). The BARB indirect WRITE stages a program entry or channel binding. -/
  | barbWrite (table set index : Nat)
  /-- PCIE_LINK_UP (R288). A host link trains or retrains, and its host link book capacities are rewritten. -/
  | pcieLinkUp (link speed width : Nat)
  /-- PCIE_LINK_DOWN (R420). A host link goes down; its books change and its host-bound frames are discarded. -/
  | pcieLinkDown (link : Nat)
  /-- CONFIG_REQUEST (R308). A configuration request is served, or answered with Request Retry Status while not ready or RESETTING. -/
  | configRequest (inst field value : Nat)
  /-- INITIATE_FLR (R307). A configuration write of Initiate FLR starts a function-level reset. -/
  | initiateFlr (inst : Nat)
  /-- FLR_QUARANTINE (R307). At 9 ms of an FLR every read still outstanding is quarantined. -/
  | flrQuarantine (inst : Nat)
  /-- FLR_COMPLETE (R307). An FLR completes and the function's configuration space holds its reset values. -/
  | flrComplete (inst : Nat)
  /-- BUS_MASTER_CLEAR (R309). Clearing Bus Master Enable stops the function's requests and puts its rings into ERROR. -/
  | busMasterClear (inst : Nat)
  /-- BUS_MASTER_SET (R309). Setting Bus Master Enable lets the function issue requests again. -/
  | busMasterSet (inst : Nat)
  /-- VF_ENABLE_SET (R305). Setting VF Enable activates the VFs that NumVFs covers. -/
  | vfEnableSet (pf numVfs : Nat)
  /-- VF_ENABLE_CLEAR (R306). Clearing VF Enable or lowering NumVFs tears down QUIESCED VFs, or is refused with REMOVE_REFUSED. -/
  | vfEnableClear (pf numVfs : Nat)
  /-- HOST_READ_COMPLETION (R295). A read completion arrives, the read tracker measures it against H and its data goes to the work that asked. -/
  | hostReadCompletion (tag : Nat) (bytes : List Byte) (last : Bool) (status : Nat) (poisoned : Bool)
  /-- COMPLETION_TIMEOUT (R297). A read reaches the completion timeout; its work ends with HOST_ABORT and its tag is quarantined. -/
  | completionTimeout (tag : Nat)
  /-- TAG_QUARANTINE_END (R297). Twice the timeout after a timeout, a quarantined tag is freed. -/
  | tagQuarantineEnd (tag : Nat)
  /-- PEER_WINDOW_READ (R293). A read TLP to BAR4 returns DDR5 data, or UR when unsupported. -/
  | peerWindowRead (offset length err addr row : Nat)
  /-- PEER_WINDOW_WRITE (R293). A posted write TLP to BAR4 writes DDR5, or is discarded when unsupported. -/
  | peerWindowWrite (offset : Nat) (bytes : List Byte) (poisoned : Bool)
  /-- PEER_COMMIT (R294). A write of COMMIT applies the staged peer window or refuses it with RANGE. -/
  | peerCommit
  /-- PEER_DRAINED (R294). Every TLP decoded against the old peer window has been served and DRAINED is set. -/
  | peerDrained
  /-- ROM_READ (R292). An expansion ROM read returns option image bytes from flash. -/
  | romRead (inst offset length : Nat)
  /-- XLATE_WALK_DONE (R301). A translation walk or ATS translation finishes, filling the cache or failing with XLATE_FAULT. -/
  | xlateWalkDone (inst page : Nat) (entries : List Dword) (status : Nat)
  /-- XLATE_INVALIDATE (R304). A write of HIF_XLATE_INV GO removes cached translations of a range. -/
  | xlateInvalidate (instance_ pages : Nat)
  /-- XLATE_INV_DONE (R304). Every request using a removed translation has left or been quarantined and DONE is set. -/
  | xlateInvDone
  /-- ATS_INVALIDATE_REQUEST (R304). An ATS Invalidate Request from the host removes cached translations. -/
  | atsInvalidateRequest (inst page pages : Nat)
  /-- SELVEDGE_READ (R316). The HIF indirect READ returns a Selvedge context. -/
  | selvedgeRead (table index : Nat)
  /-- SELVEDGE_WRITE (R300). The HIF indirect WRITE sets a Selvedge context and loads its pinned translations. -/
  | selvedgeWrite (table index : Nat)
  /-- QUIESCE (R305). QUIESCE stops new work of a function and starts its drain. -/
  | quiesce (inst : Nat)
  /-- FN_RESUME (R305). RESUME returns a function to ACTIVE. -/
  | fnResume (inst : Nat)
  /-- FN_RESET (R305). RESET starts a function reset of a QUIESCED function. -/
  | fnReset (inst : Nat)
  /-- FREEZE (R305). FREEZE stops new work while dirty logging continues. -/
  | freeze (inst : Nat)
  /-- SAVE (R311). SAVE starts writing a FROZEN function into an encrypted blob. -/
  | save (inst : Nat)
  /-- RESTORE (R313). RESTORE starts installing a blob into a QUIESCED function. -/
  | restore (inst : Nat)
  /-- FN_RELEASE (R314). RELEASE clears a SAVED function and stages deletion of its records. -/
  | fnRelease (inst : Nat)
  /-- FN_DRAINED (R305). A quiescing or freezing function has no work in flight and becomes QUIESCED or FROZEN. -/
  | fnDrained (inst : Nat)
  /-- QUIESCE_LIMIT_EXPIRE (R305). QUIESCE_LIMIT elapses and the remaining AS and BE work is discarded. -/
  | quiesceLimitExpire (inst : Nat)
  /-- FREEZE_LIMIT_EXPIRE (R310). The freeze limit elapses and the function becomes FROZEN with remaining work discarded. -/
  | freezeLimitExpire (inst : Nat)
  /-- SAVE_DONE (R311). The blob is written, outbound SAs are retired and the function is SAVED, or stays FROZEN on error. -/
  | saveDone (inst : Nat)
  /-- RESTORE_DONE (R313). RESTORE's checks and commit end and the function is FROZEN, or stays QUIESCED. -/
  | restoreDone (inst : Nat)
  /-- FN_RESET_DONE (R305). A function reset or VF teardown completes. -/
  | fnResetDone (inst : Nat)
  /-- DIRTY_SWAP (R315). A write of SWAP ends a dirty-logging epoch and starts writing its touched words. -/
  | dirtySwap (slot : Nat)
  /-- SWAP_DONE (R315). Every write of the old epoch has left the lands and SWAP_DONE is set. -/
  | swapDone (slot : Nat)
  /-- MAX_READ_READ (R295). A read of HIF_LINK_n_STATUS returns and clears MAX_READ_NS. -/
  | maxReadRead (link : Nat)
  /-- MIG_KEY_WRITE (R311). A write to HIF_MIG_KEY stores key bytes and marks the key loaded. -/
  | migKeyWrite (offset : Nat) (value : Word)
  /-- DOORBELL_PRODUCER (R325). A PRODUCER doorbell is stamped and reports the producer's next index, or is ignored as bad. -/
  | doorbellProducer (inst page index lap : Nat) (arrival : Arrival) (poisoned : Bool)
  /-- RING_INVALIDATE (R329). CONTROL CMD 1 discards cached entries not taken and writes the mirror with the TOKEN. -/
  | ringInvalidate (inst page token : Nat) (single poisoned : Bool)
  /-- RING_RESET_DOORBELL (R339). CONTROL CMD 2 starts a ring reset. -/
  | ringResetDoorbell (inst page token : Nat) (single poisoned : Bool)
  /-- DOORBELL_CONSUMER (R335). A CONSUMER doorbell frees completion space and may arm the ring. -/
  | doorbellConsumer (inst page index lap : Nat) (arm single poisoned : Bool)
  /-- INLINE_PUSH (R332). A push TLP is stamped and held, discarded, or puts the ring into ERROR. -/
  | inlinePush (inst page offset : Nat) (bytes : List Byte) (arrival : Arrival) (poisoned : Bool)
  /-- DESCRIPTOR_FETCH (R327). The ring engine issues descriptor reads within the doorbell index or prefetch window. -/
  | descriptorFetch (ring : Nat)
  /-- TX_FRAME_TAKE (R328). The ring engine takes the next conforming frame of a ring and creates its shuttle with class and deadline. -/
  | txFrameTake (ring : Nat)
  /-- HOST_TLP_RELEASE (R55). With posted credits reserved, the ring engine releases a host-bound frame's TLPs and then its completion. -/
  | hostTlpRelease (release : LinkRelease)
  /-- INTERRUPT_MOD_TIMER (R338). MOD_US passes since the first unread completion and an armed ring sends its MSI-X interrupt. -/
  | interruptModTimer (ring : Nat)
  /-- RING_READ (R340). The RING indirect READ returns a ring context. -/
  | ringRead (table set index : Nat)
  /-- RING_WRITE (R340). The RING indirect WRITE stages a ring context. -/
  | ringWrite (table set index : Nat)
  /-- RING_RESET (R340). The RING indirect RESET starts a ring reset on the live ring. -/
  | ringReset (table index : Nat)
  /-- RING_RESET_DONE (R339). Taken work has ended with no read outstanding and the ring returns to ACTIVE with its mirror written. -/
  | ringResetDone (ring : Nat)
  /-- MAILBOX_WRITE (R342). A sender writes a mailbox word; word 15 sends the message, and a write while FULL sets COLLISION. -/
  | mailboxWrite (side unit word : Nat) (value : Word)
  /-- MAILBOX_READ_LAST (R341). A read of word 15 while FULL clears FULL and raises the sender's EMPTY event. -/
  | mailboxReadLast (side unit : Nat)
  /-- MOVER_START (R356). A write of START starts a bulk mover channel's LINEAR descriptor or chain. -/
  | moverStart (channel party : Nat)
  /-- MOVER_ABORT (R356). A write of ABORT stops a channel's requests and returns it to IDLE once responses are in. -/
  | moverAbort (channel party : Nat)
  /-- CHAIN_KICK (R358). A write of CHAIN_KICK makes a channel reread its chain tail. -/
  | chainKick (channel party : Nat)
  /-- MOVER_BURST (R354). A channel issues its next burst once its path pacing allows. -/
  | moverBurst (channel : Nat)
  /-- MOVER_RESPONSE (R353). A response to a channel request arrives, completing a descriptor or leading to DONE, PARKED, ERROR or a retry. -/
  | moverResponse (channel err addr row : Nat)
  /-- SCRUB_READ (R370). Patrol scrub reads a DDR5 word and writes back a corrected one. -/
  | scrubRead (addr row err : Nat) (passEnd late : Bool)
  /-- PPR_REPAIR (R371). A row scheduled for repair is read, repaired by soft post-package repair and written back. -/
  | pprRepair (row addr : Nat) (rowLeft : Bool)
  /-- LOCKSTEP_MISMATCH (R374). The outputs of the lockstep sides differ; the verdicts lead to a takeover, a standby loss or a retry. -/
  | lockstepMismatch (activeFlags standbyFlags : Bool)
  /-- GAP_END (R379). The replay ends, the held cycle's outputs are applied and held inputs are drained. -/
  | gapEnd
  /-- SINGLE_CHECK_FLAG (R376). In SINGLE operation the active side's checks flag and it retries from its checkpoint. -/
  | singleCheckFlag
  /-- GATE_CLAIM_CONFLICT (R378). Equal claims or a non-unanimous vote stop the gate and raise FLT_GATE_CLAIM. -/
  | gateClaimConflict
  /-- RESYNC_DONE (R382). A resynchronising side finishes its state copy and joins lockstep as STANDBY. -/
  | resyncDone (side : Nat)
  /-- SIDE_POWER_ON (R372). Side C's domain is powered on and it enters SELF_TEST. -/
  | sidePowerOn (side : Nat)
  /-- SIDE_SELF_TEST_DONE (R383). Side C's vector set passes and it enters RESYNC, or a confirmed failure retires it. -/
  | sideSelfTestDone (side : Nat) (pass : Bool)
  /-- SWITCH (R377). A write of SWITCH with KEY 0xFA17 starts a planned takeover, or is refused when SINGLE. -/
  | switch (key : Nat)
  /-- INJECT (R454). A write of INJECT with KEY forces a check flag on a side while debug is unlocked. -/
  | inject (key side : Nat)
  /-- SELF_TEST_VECTOR (R384). A test vector runs in an idle cycle of a decision unit and is compared. -/
  | selfTestVector (side unit vector : Nat) (pass : Bool)
  /-- SELF_TEST_PERIOD (R384). A coverage pass that overruns PERIOD_MS is counted in SELFTEST_LATE. -/
  | selfTestPeriod (overrun : Bool)
  /-- UNIT_TRANSIENT (R386). A unit suffers a transient, which may make it permanent-faulty and bring in a spare or mark it OUT. -/
  | unitTransient (kind unit row : Nat) (uncorrectable spareRow : Bool)
  /-- WEAR_READ (R388). Once per second drift sensors are read and worn units are moved or WEAR is set. -/
  | wearRead (kind unit slow : Nat)
  /-- WEAR_CORE_MOVE (R388). A worn core's threads reach TEND, or 1 ms passes, and the spare takes over. -/
  | wearCoreMove (core : Nat)
  /-- FLT_PEND_CLEAR (R390). A W1C write of FLT_PEND clears codes and releases ALERT_N when none unmasked remains. -/
  | fltPendClear (codes : Word)
  /-- BOOT_START (R402). The boot ROM reads fuses and the store, advances BOOT_NUMBER and applies retirements. -/
  | bootStart
  /-- CANDIDATE_FAIL (R400). A candidate fails and the module moves to the next candidate. -/
  | candidateFail
  /-- CONFIG_SPACE_READY (R402). Configuration space becomes ready after the board description and host section are loaded. -/
  | configSpaceReady
  /-- DDR5_TRAINED (R402). DDR5 training and clearing finish. -/
  | ddr5Trained
  /-- DATAPLANE_READY (R402). Ports are enabled, READY and FAULT_N rise and ledger streams start. -/
  | dataplaneReady
  /-- BOOT_READ (R414). READ copies 256 flash bytes into BOOT_DATA. -/
  | bootRead
  /-- ERASE (R406). ERASE erases a block of the slot not running and clears its VERIFIED. -/
  | erase (failure : Nat)
  /-- PROGRAM (R406). PROGRAM writes BOOT_DATA into the slot not running. -/
  | program (failure : Nat)
  /-- VERIFY (R406). VERIFY checks the slot not running as an image and sets its VERIFIED. -/
  | verify
  /-- NEXT (R406). NEXT sets TRIAL or PREFERRED to a verified slot. -/
  | next
  /-- CONFIRM (R406). CONFIRM sets PREFERRED to the running slot and clears TRIAL. -/
  | confirm
  /-- ROLLBACK (R398). ROLLBACK burns rollback fuses up to a target. -/
  | rollback (key : Nat)
  /-- ENROLL (R396). ENROLL burns the running owner key's hash into the next place. -/
  | enroll (key : Nat)
  /-- REVOKE (R396). REVOKE burns a place's REVOKED bit. -/
  | revoke (key : Nat)
  /-- BOOT_OP_COMPLETE (R414). A BOOT_CTRL operation ends, clearing BUSY, setting RESULT and raising OP_DONE. -/
  | bootOpComplete
  /-- DEBUG_NONCE_READ (R413). A read of BOOT_DEBUG_NONCE returns a freshly drawn nonce. -/
  | debugNonceRead
  /-- DEBUG_CERT_SUBMIT (R413). SUBMIT checks the debug certificate and grants its scope or sets SIGNATURE. -/
  | debugCertSubmit
  /-- DBG_IO_COMMAND (R412). A command on the DBG_IO port is served within the current debug unlock. -/
  | dbgIoCommand (command core thread item : Nat) (bytes : List Byte)
  /-- GET_VERSION (R409). The SPDM responder answers GET_VERSION. -/
  | getVersion (transport : Nat) (early : Bool)
  /-- GET_CAPABILITIES (R409). The SPDM responder answers GET_CAPABILITIES. -/
  | getCapabilities (transport : Nat) (early : Bool)
  /-- NEGOTIATE_ALGORITHMS (R409). The SPDM responder answers NEGOTIATE_ALGORITHMS. -/
  | negotiateAlgorithms (transport : Nat) (ed25519 sha512_ dmtf early : Bool)
  /-- GET_DIGESTS (R409). The SPDM responder returns its certificate chain digests. -/
  | getDigests (transport : Nat) (early : Bool)
  /-- GET_CERTIFICATE (R409). The SPDM responder returns a certificate chain of slot 0 or 1. -/
  | getCertificate (transport slot offset length : Nat) (early : Bool)
  /-- CHALLENGE (R409). The SPDM responder answers a CHALLENGE signed with the attestation key. -/
  | challenge (transport slot : Nat) (nonce : List Byte) (early : Bool)
  /-- GET_MEASUREMENTS (R410). The SPDM responder latches and returns measurement indices, signed. -/
  | getMeasurements (transport index : Nat) (sign : Bool) (nonce : List Byte) (early : Bool)
  /-- SPDM_UNSUPPORTED (R409). An SPDM message outside the supported list is answered with UnsupportedRequest. -/
  | spdmUnsupported (transport : Nat) (early : Bool)
  /-- READ_HEALTH (R411). The MCTP vendor command returns FLT_HEALTH and BOOT_STATUS. -/
  | readHealth
  /-- READ_ID (R411). The MCTP vendor command returns GEN_ID and the serial number. -/
  | readId
  /-- VIN_ACCEPT (R424). An input rises within its thresholds and is accepted. -/
  | vinAccept (input millivolts otherMillivolts : Nat)
  /-- VIN_DROP (R425). An input leaves its thresholds and is disconnected, raising FLT_POWER_INPUT. -/
  | vinDrop (input : Nat) (tooHigh : Bool)
  /-- HOLDUP_EXPIRE (R426). The internal hold-up runs out with no input accepted and power-good falls. -/
  | holdupExpire
  /-- PHASE_FAIL (R435). A regulator phase fails its check and a spare takes over, or the rail runs short. -/
  | phaseFail (rail phase : Nat)
  /-- THERMAL_SAMPLE (R436). Every 1 ms the lid estimate and hottest junction are updated. -/
  | thermalSample (lid junction : Int)
  /-- THERMAL_STAGE_ENTER (R437). The lid estimate stays at a stage threshold for 10 ms and the higher stage is entered. -/
  | thermalStageEnter (stage : Nat)
  /-- THERMAL_STAGE_EXIT (R437). The lid estimate stays 3 °C below a threshold for 100 ms and a lower stage is entered. -/
  | thermalStageExit (stage : Nat)
  /-- THERMAL_SHUTDOWN (R438). A thermal trip lasting 1 ms drives FAULT_N low, stops frames, records the cause and lets power-good fall. -/
  | thermalShutdown
  /-- ETH_REFCLK_STABLE (R433). ETH_REFCLK becomes stable and the dataplane start may proceed. -/
  | ethRefclkStable
  /-- CDR_LOCK_LOSS (R81). The first lane's CDR of a port loses lock, clearing CDR_LOCK and squelching a recovered clock output that selects the port within 1 µs. -/
  | cdrLockLoss (port : Nat)
  /-- CDR_LOCK_GAIN (R81). The first lane's CDR of a port gains lock, setting CDR_LOCK and starting the 10 ms of continuous lock after which a squelched RCLK output is restored. -/
  | cdrLockGain (port : Nat)
  /-- ENTROPY_STARTUP_TEST (R219). At module reset the noise source's 1,024-sample start-up test completes, and a pass makes the CTR_DRBG ready so that DRBG_READY is set and the ledger key and hash seeds can be drawn. -/
  | entropyStartupTest (pass : Bool)
  /-- FIRMWARE_LOADED (R402). Every remaining image section has been read from flash and hashed, the measurements have been extended and firmware is loaded into cores 0-7. -/
  | firmwareLoaded
  /-- SPARE_BANK_COPY_DONE (R386). The copy of a retired table-store bank into its spare bank completes, and reads move from the old bank to the spare. -/
  | spareBankCopyDone (bank : Nat)
  deriving DecidableEq, Repr

end Sys2Proof
end

