-- ==== Sys2Proof/Config.lean ====
section
/-! DEFINITION. What an implementation fixes and the spec leaves open: free values (opaque, no body; nothing can evaluate
them), and contents whose byte format the spec does not give. -/
namespace Sys2Proof.Config

/-- A fresh value the spec leaves open (random draws of R126, R168, R219, R220; reads whose data is not defined). The
step supplies a counter of the state as argument (DESIGN CHOICE, assumption log 4). -/
opaque freeValue : Nat → Dword

/-- Bytes of a port's receive allotment for a priority, 8 standing for the whole port under PAUSE: R69 names the allotment and gives
no size (DESIGN CHOICE, assumption log 4). -/
opaque allotment : Nat → Nat → Nat

/-- The bucket hash of a flow's exact key in the hot index (`true`) or the DDR5 index, which R145 leaves open (DESIGN CHOICE,
assumption log 86). -/
opaque flowHash : Bool → Nat → Nat

/-- The bank of the table store that holds an on-die forwarding entry, or a hot-tier flow record, and the bank of the wildcard store that holds a
rule: R361 and ch. 1, Table 8 give the banks, and no rule places an entry in one (DESIGN CHOICE, assumption log 91). -/
opaque tableBank : Nat → Nat
opaque flowBank : Nat → Nat
opaque wildBank : Nat → Nat

/-- The die key that the root island derives at a module reset, and the bytes of an SA in DDR5: its record, its wrapped key and the values marked in
its window, whose places in the 256 bytes R197 leaves open (DESIGN CHOICE, assumption log 92). -/
opaque dieKey : Nat → List Byte
opaque saImage : List Byte → List Byte → List Nat → Nat → Byte

/-- What the module measures and no command brings: the input voltage of VIN_A and VIN_B (0 and 1), their currents (2 and 3), the input power (4)
and the input energy since power-good (5) in a weave-clock cycle (R439; ch. 19; DESIGN CHOICE, assumption log 96). -/
opaque sensor : Nat → Nat → Nat

/-- A byte of a core's local memory as the image loads it, by the image's measurements, core and address: R260 loads code and data from
the running image, whose section format the spec does not give (DESIGN CHOICE, assumption log 4). -/
opaque localImage : List Byte → Nat → Nat → Byte

/-- The words of a core's code region, as the image divides its local memory (R260). -/
opaque codeWords : List Byte → Nat → Nat

/-- The entry of thread 0 of a core, as the image gives it (ch. 11, Table 9). -/
opaque masterEntry : List Byte → Nat → Nat

/-! ## Boot (ch. 17): what production, the boot ROM and an image hold, and section formats the spec does not give (DESIGN CHOICE, assumption log 35) -/

/-- The module serial number, 16 ASCII bytes. -/
opaque serial : List Byte

/-- The 32-byte fused seed of the identity key (R407). -/
opaque identitySeed : List Byte

/-- The seed of the attestation key for a rollback count: HKDF-SHA-512 of the identity seed, whose salt and label bytes the spec does not
give (R407). -/
opaque attestSeed : Nat → List Byte

/-- The device identity certificate chain, and the attestation certificate for a public key (R407). -/
opaque certChain : List Byte
opaque attestCert : List Byte → List Byte

/-- The Tyulkan image keys and debug keys that the boot ROM holds (R394, R413). -/
opaque imageKeys : List (List Byte)
opaque debugKeys : List (List Byte)

/-- What a host section gives (R394): log2 of the BAR2 size of each PF, TotalVFs of PF_1 to PF_3, the channels that firmware reserves, the
MBOX_DATA_m_BIND words by mailbox, and whether the image holds an option image. -/
structure HostSection where
  bar2Log2 : List Nat
  totalVfs : List Nat
  fwChannels : List Nat
  bindings : SMap Word
  option_ : Bool
  /-- the peer area that the image reserves: base and bytes (R294). -/
  peerArea : Nat × Nat
  deriving DecidableEq, Repr

/-- What a configuration set section gives (R394, R405): the SH words and table records, the words of the other fields marked image,
and the version. -/
structure ConfigSet where
  words : SMap Word
  recs : SMap Rec
  live : SMap Word
  version : Nat
  deriving DecidableEq, Repr

/-- A host section read; none when it breaks its format. -/
opaque hostSection : List Byte → Option HostSection

/-- A configuration set section read; none when it breaks its format or leaves a field marked image out. -/
opaque configSet : List Byte → Option ConfigSet

end Sys2Proof.Config
end

