-- ==== Sys2Proof/Machine/RegFields.lean ====
section
/-! DEFINITION. Names for the register fields of spec/ (one definition per field row of its register tables) and for its
64-bit counters (R10). Definitions are addresses and bit positions only. -/
namespace Sys2Proof.Machine.F
open Sys2Proof

def GEN_ID_DEVICE : Fld := ⟨0x0, 16, 16⟩
def GEN_ID_VARIANT : Fld := ⟨0x0, 8, 8⟩
def GEN_ID_STEP_LETTER : Fld := ⟨0x0, 4, 4⟩
def GEN_ID_STEP_DIGIT : Fld := ⟨0x0, 0, 4⟩
def GEN_RESET_CAUSE_FAULT : Fld := ⟨0x4, 4, 1⟩
def GEN_RESET_CAUSE_MANAGER : Fld := ⟨0x4, 3, 1⟩
def GEN_RESET_CAUSE_RST_N : Fld := ⟨0x4, 2, 1⟩
def GEN_RESET_CAUSE_PERST : Fld := ⟨0x4, 1, 1⟩
def GEN_RESET_CAUSE_COLD : Fld := ⟨0x4, 0, 1⟩
def GEN_RESET_KEY : Fld := ⟨0x8, 16, 16⟩
def GEN_RESET_MODULE : Fld := ⟨0x8, 0, 1⟩
def LOOM_COMMIT_DRY_RUN : Fld := ⟨0xA00000, 1, 1⟩
def LOOM_COMMIT_GO : Fld := ⟨0xA00000, 0, 1⟩
def LOOM_COMMIT_STATUS_BOOK : Fld := ⟨0xA00004, 13, 7⟩
def LOOM_COMMIT_STATUS_RECHECKED : Fld := ⟨0xA00004, 12, 1⟩
def LOOM_COMMIT_STATUS_GO_IGNORED : Fld := ⟨0xA00004, 11, 1⟩
def LOOM_COMMIT_STATUS_DRY : Fld := ⟨0xA00004, 10, 1⟩
def LOOM_COMMIT_STATUS_VERSION : Fld := ⟨0xA00004, 6, 4⟩
def LOOM_COMMIT_STATUS_REASON : Fld := ⟨0xA00004, 2, 4⟩
def LOOM_COMMIT_STATUS_STATE : Fld := ⟨0xA00004, 0, 2⟩
def LOOM_COMMIT_DETAIL_EXCESS : Fld := ⟨0xA00008, 16, 16⟩
def LOOM_COMMIT_DETAIL_NO_ENVELOPE : Fld := ⟨0xA00008, 14, 1⟩
def LOOM_COMMIT_DETAIL_ENVELOPE : Fld := ⟨0xA00008, 0, 14⟩
def LOOM_COMMIT_LIMIT_LIMIT_US : Fld := ⟨0xA0000C, 0, 20⟩
def LOOM_HOST_CEIL_HOST_MTU (n : Nat) : Fld := ⟨0xA00010 + 0x4 * n, 16, 14⟩
def LOOM_HOST_CEIL_CEIL_NS (n : Nat) : Fld := ⟨0xA00010 + 0x4 * n, 0, 14⟩
def LOOM_SNAPSHOT_TAKE : Fld := ⟨0xA00020, 0, 1⟩
def LOOM_MISS_INDEX_LOST : Fld := ⟨0xA00024, 16, 16⟩
def LOOM_MISS_INDEX_TAIL : Fld := ⟨0xA00024, 8, 8⟩
def LOOM_MISS_INDEX_HEAD : Fld := ⟨0xA00024, 0, 8⟩
def LOOM_SHED_LAST_BOOK : Fld := ⟨0xA00028, 14, 7⟩
def LOOM_SHED_LAST_ENVELOPE : Fld := ⟨0xA00028, 0, 14⟩
def LOOM_BOOK_SHARE_SHARE (n : Nat) : Fld := ⟨0xA01000 + 0x4 * n, 0, 8⟩
def LOOM_BOOK_ALLOT_ALLOT (n : Nat) : Fld := ⟨0xA01200 + 0x4 * n, 0, 24⟩
def LOOM_BOOK_CAP_CAP (n : Nat) : Fld := ⟨0xA01400 + 0x4 * n, 0, 32⟩
def LOOM_BOOK_USED_USED (n : Nat) : Fld := ⟨0xA01600 + 0x4 * n, 0, 9⟩
def PORT_CFG_MTU (n : Nat) : Fld := ⟨0x200000 + 0x10000 * n, 16, 14⟩
def PORT_CFG_MODE (n : Nat) : Fld := ⟨0x200000 + 0x10000 * n, 8, 3⟩
def PORT_CFG_FEC (n : Nat) : Fld := ⟨0x200000 + 0x10000 * n, 6, 2⟩
def PORT_CFG_AN (n : Nat) : Fld := ⟨0x200000 + 0x10000 * n, 5, 1⟩
def PORT_CFG_ENABLE (n : Nat) : Fld := ⟨0x200000 + 0x10000 * n, 4, 1⟩
def PORT_STATUS_FEC_ACTIVE (n : Nat) : Fld := ⟨0x200004 + 0x10000 * n, 17, 2⟩
def PORT_STATUS_CDR_LOCK (n : Nat) : Fld := ⟨0x200004 + 0x10000 * n, 16, 1⟩
def PORT_STATUS_PFC_PAUSED (n : Nat) : Fld := ⟨0x200004 + 0x10000 * n, 8, 8⟩
def PORT_STATUS_WATCHDOG_ALSO (n : Nat) : Fld := ⟨0x200004 + 0x10000 * n, 6, 1⟩
def PORT_STATUS_PAUSE_STATE (n : Nat) : Fld := ⟨0x200004 + 0x10000 * n, 4, 2⟩
def PORT_STATUS_LINK_STATE (n : Nat) : Fld := ⟨0x200004 + 0x10000 * n, 1, 3⟩
def PORT_STATUS_LINK (n : Nat) : Fld := ⟨0x200004 + 0x10000 * n, 0, 1⟩
def PORT_EVENT_FEC_UNCORR (n : Nat) : Fld := ⟨0x200008 + 0x10000 * n, 4, 1⟩
def PORT_EVENT_PRP_FULL (n : Nat) : Fld := ⟨0x200008 + 0x10000 * n, 3, 1⟩
def PORT_EVENT_UNDERRUN (n : Nat) : Fld := ⟨0x200008 + 0x10000 * n, 2, 1⟩
def PORT_EVENT_PAUSE_WDOG (n : Nat) : Fld := ⟨0x200008 + 0x10000 * n, 1, 1⟩
def PORT_EVENT_LINK_CHANGE (n : Nat) : Fld := ⟨0x200008 + 0x10000 * n, 0, 1⟩
def PORT_PAUSE_QUANTA (n : Nat) : Fld := ⟨0x20000C + 0x10000 * n, 16, 16⟩
def PORT_PAUSE_PFC_EN (n : Nat) : Fld := ⟨0x20000C + 0x10000 * n, 8, 8⟩
def PORT_PAUSE_TX_MODE (n : Nat) : Fld := ⟨0x20000C + 0x10000 * n, 2, 2⟩
def PORT_PAUSE_RX_MODE (n : Nat) : Fld := ⟨0x20000C + 0x10000 * n, 0, 2⟩
def PORT_WDOG_HOLDOFF_MS (n : Nat) : Fld := ⟨0x200010 + 0x10000 * n, 20, 12⟩
def PORT_WDOG_LIMIT_US (n : Nat) : Fld := ⟨0x200010 + 0x10000 * n, 0, 20⟩
def PORT_CT_DECAY (n : Nat) : Fld := ⟨0x200014 + 0x10000 * n, 16, 16⟩
def PORT_CT_START (n : Nat) : Fld := ⟨0x200014 + 0x10000 * n, 0, 14⟩
def PORT_PRP_FORGET_MS (n : Nat) : Fld := ⟨0x200018 + 0x10000 * n, 8, 12⟩
def PORT_PRP_STRIP (n : Nat) : Fld := ⟨0x200018 + 0x10000 * n, 4, 1⟩
def PORT_PRP_PARTNER (n : Nat) : Fld := ⟨0x200018 + 0x10000 * n, 1, 3⟩
def PORT_PRP_ENABLE (n : Nat) : Fld := ⟨0x200018 + 0x10000 * n, 0, 1⟩
def PORT_SNAPSHOT_TAKE (n : Nat) : Fld := ⟨0x20001C + 0x10000 * n, 0, 1⟩
def PORT_PFC_MAP_MAP (n : Nat) : Fld := ⟨0x200020 + 0x10000 * n, 0, 24⟩
def PORT_RCLK_SQUELCHED (k : Nat) : Fld := ⟨0x2F0000 + 0x4 * k, 8, 1⟩
def PORT_RCLK_PORT (k : Nat) : Fld := ⟨0x2F0000 + 0x4 * k, 0, 4⟩
def PORT_AB_GAP_INDEX_LOST : Fld := ⟨0x2F0010, 16, 16⟩
def PORT_AB_GAP_INDEX_TAIL : Fld := ⟨0x2F0010, 8, 8⟩
def PORT_AB_GAP_INDEX_HEAD : Fld := ⟨0x2F0010, 0, 8⟩
def PORT_AB_SNAPSHOT_TAKE : Fld := ⟨0x2F0014, 0, 1⟩
def TIME_STATUS_STEP_PENDING : Fld := ⟨0x300000, 15, 1⟩
def TIME_STATUS_EPOCH : Fld := ⟨0x300000, 13, 2⟩
def TIME_STATUS_TRACEABLE : Fld := ⟨0x300000, 12, 1⟩
def TIME_STATUS_SOURCE : Fld := ⟨0x300000, 9, 3⟩
def TIME_STATUS_SERVO : Fld := ⟨0x300000, 6, 3⟩
def TIME_STATUS_CLK10_OK : Fld := ⟨0x300000, 5, 1⟩
def TIME_STATUS_PPS_IN_OK : Fld := ⟨0x300000, 4, 1⟩
def TIME_STATUS_TOD_OK : Fld := ⟨0x300000, 3, 1⟩
def TIME_STATUS_VALID : Fld := ⟨0x300000, 0, 1⟩
def TIME_EVENT_PPS_IN_OVERRUN : Fld := ⟨0x300004, 10, 1⟩
def TIME_EVENT_TXSTAMP_OVERFLOW : Fld := ⟨0x300004, 9, 1⟩
def TIME_EVENT_SERVO_CHANGE : Fld := ⟨0x300004, 8, 1⟩
def TIME_EVENT_FREQ_CLAMP : Fld := ⟨0x300004, 7, 1⟩
def TIME_EVENT_STEP_GO_IGNORED : Fld := ⟨0x300004, 6, 1⟩
def TIME_EVENT_STEP_HELD : Fld := ⟨0x300004, 5, 1⟩
def TIME_EVENT_STEP_DONE : Fld := ⟨0x300004, 4, 1⟩
def TIME_EVENT_TOD_RX : Fld := ⟨0x300004, 3, 1⟩
def TIME_EVENT_CLK10_LOSS : Fld := ⟨0x300004, 2, 1⟩
def TIME_EVENT_PPS_IN_LOSS : Fld := ⟨0x300004, 1, 1⟩
def TIME_EVENT_PPS_IN : Fld := ⟨0x300004, 0, 1⟩
def TIME_NOW_CTRL_LATCH : Fld := ⟨0x300008, 0, 1⟩
def TIME_NOW_FRAC_FRAC : Fld := ⟨0x30000C, 0, 16⟩
def TIME_NOW_NS_NS : Fld := ⟨0x300010, 0, 64⟩
def TIME_FREQ_F : Fld := ⟨0x300018, 0, 39⟩
def TIME_STEP_NS_DELTA : Fld := ⟨0x300020, 0, 64⟩
def TIME_STEP_AT_AT : Fld := ⟨0x300028, 0, 64⟩
def TIME_STEP_CTRL_GO : Fld := ⟨0x300030, 31, 1⟩
def TIME_STEP_CTRL_FRAC : Fld := ⟨0x300030, 0, 16⟩
def TIME_UTC_LEAP59 : Fld := ⟨0x300034, 17, 1⟩
def TIME_UTC_LEAP61 : Fld := ⟨0x300034, 16, 1⟩
def TIME_UTC_OFFSET : Fld := ⟨0x300034, 0, 16⟩
def TIME_PPS_IN_FRAC_FRAC : Fld := ⟨0x300038, 0, 16⟩
def TIME_PPS_IN_NS_NS : Fld := ⟨0x300040, 0, 64⟩
def TIME_CLK10_PHASE_PHASE : Fld := ⟨0x300048, 0, 32⟩
def TIME_PPS_OUT_CFG_PERIOD_MS : Fld := ⟨0x30004C, 22, 10⟩
def TIME_PPS_OUT_CFG_WIDTH_US : Fld := ⟨0x30004C, 2, 20⟩
def TIME_PPS_OUT_CFG_FORCE : Fld := ⟨0x30004C, 1, 1⟩
def TIME_PPS_OUT_CFG_ENABLE : Fld := ⟨0x30004C, 0, 1⟩
def TIME_TOD_CFG_BAUD : Fld := ⟨0x300050, 4, 20⟩
def TIME_TOD_CFG_TX_FORMAT : Fld := ⟨0x300050, 2, 2⟩
def TIME_TOD_CFG_TX_EN : Fld := ⟨0x300050, 1, 1⟩
def TIME_TOD_CFG_RX_EN : Fld := ⟨0x300050, 0, 1⟩
def TIME_TOD_RX_INDEX_LOST : Fld := ⟨0x300054, 16, 16⟩
def TIME_TOD_RX_INDEX_TAIL : Fld := ⟨0x300054, 8, 8⟩
def TIME_TOD_RX_INDEX_HEAD : Fld := ⟨0x300054, 0, 8⟩
def TIME_HOLD_ELAPSED_S : Fld := ⟨0x300058, 16, 16⟩
def TIME_HOLD_EST_ERR : Fld := ⟨0x300058, 0, 16⟩
def TIME_SNAPSHOT_TAKE : Fld := ⟨0x30005C, 0, 1⟩
def TIME_PORT_PTP_TC (n : Nat) : Fld := ⟨0x301000 + 0x40 * n, 5, 2⟩
def TIME_PORT_PTP_ONE_STEP (n : Nat) : Fld := ⟨0x301000 + 0x40 * n, 4, 1⟩
def TIME_PORT_PTP_IPV6 (n : Nat) : Fld := ⟨0x301000 + 0x40 * n, 3, 1⟩
def TIME_PORT_PTP_IPV4 (n : Nat) : Fld := ⟨0x301000 + 0x40 * n, 2, 1⟩
def TIME_PORT_PTP_ETH (n : Nat) : Fld := ⟨0x301000 + 0x40 * n, 1, 1⟩
def TIME_PORT_PTP_ENABLE (n : Nat) : Fld := ⟨0x301000 + 0x40 * n, 0, 1⟩
def TIME_PORT_LINK_DELAY_DELAY (n : Nat) : Fld := ⟨0x301004 + 0x40 * n, 0, 32⟩
def TIME_PORT_COMP_C_TX (n : Nat) : Fld := ⟨0x301008 + 0x40 * n, 16, 16⟩
def TIME_PORT_COMP_C_RX (n : Nat) : Fld := ⟨0x301008 + 0x40 * n, 0, 16⟩
def TIME_PORT_TXSTAMP_CTRL_POP (n : Nat) : Fld := ⟨0x30100C + 0x40 * n, 7, 1⟩
def TIME_PORT_TXSTAMP_CTRL_COUNT (n : Nat) : Fld := ⟨0x30100C + 0x40 * n, 0, 7⟩
def TIME_PORT_TXSTAMP_NS_NS (n : Nat) : Fld := ⟨0x301010 + 0x40 * n, 0, 64⟩
def TIME_PORT_TXSTAMP_INFO_SEQ_ID (n : Nat) : Fld := ⟨0x301018 + 0x40 * n, 16, 16⟩
def TIME_PORT_TXSTAMP_INFO_FRAC (n : Nat) : Fld := ⟨0x301018 + 0x40 * n, 0, 16⟩
def LEDG_CTRL_HEALTH_S : Fld := ⟨0x400000, 8, 8⟩
def LEDG_CTRL_MISS_STREAM : Fld := ⟨0x400000, 0, 3⟩
def LEDG_STATUS_STALLED : Fld := ⟨0x400004, 16, 8⟩
def LEDG_STATUS_EXPORTING : Fld := ⟨0x400004, 8, 8⟩
def LEDG_STATUS_SIGNER_FAULT : Fld := ⟨0x400004, 1, 1⟩
def LEDG_STATUS_KEY_READY : Fld := ⟨0x400004, 0, 1⟩
def LEDG_EVENT_EXPORT_STOP : Fld := ⟨0x400008, 4, 1⟩
def LEDG_EVENT_SEAL_FAULT : Fld := ⟨0x400008, 3, 1⟩
def LEDG_EVENT_STALLED : Fld := ⟨0x400008, 2, 1⟩
def LEDG_EVENT_LOW_SPACE : Fld := ⟨0x400008, 1, 1⟩
def LEDG_EVENT_GAP : Fld := ⟨0x400008, 0, 1⟩
def LEDG_SEAL_CFG_SEAL_US : Fld := ⟨0x40000C, 0, 20⟩
def LEDG_SEAL_LIMIT_LIMIT : Fld := ⟨0x400010, 0, 21⟩
def LEDG_SEAL_NOW_STREAMS : Fld := ⟨0x400014, 0, 8⟩
def LEDG_SNAPSHOT_TAKE : Fld := ⟨0x400018, 0, 1⟩
def LEDG_KEY_ID_KEY_ID : Fld := ⟨0x400020, 0, 64⟩
def LEDG_STREAM_CFG_INSTANCE (s : Nat) : Fld := ⟨0x401000 + 0x80 * s, 17, 12⟩
def LEDG_STREAM_CFG_HOST_LOG2 (s : Nat) : Fld := ⟨0x401000 + 0x80 * s, 12, 5⟩
def LEDG_STREAM_CFG_RING_LOG2 (s : Nat) : Fld := ⟨0x401000 + 0x80 * s, 7, 5⟩
def LEDG_STREAM_CFG_CH (s : Nat) : Fld := ⟨0x401000 + 0x80 * s, 2, 5⟩
def LEDG_STREAM_CFG_EXPORT (s : Nat) : Fld := ⟨0x401000 + 0x80 * s, 1, 1⟩
def LEDG_STREAM_CFG_ENABLE (s : Nat) : Fld := ⟨0x401000 + 0x80 * s, 0, 1⟩
def LEDG_STREAM_WATER_LOW_SLOTS (s : Nat) : Fld := ⟨0x401004 + 0x80 * s, 0, 32⟩
def LEDG_STREAM_RING_BASE_BASE (s : Nat) : Fld := ⟨0x401008 + 0x80 * s, 0, 64⟩
def LEDG_STREAM_HOST_BASE_BASE (s : Nat) : Fld := ⟨0x401010 + 0x80 * s, 0, 64⟩
def LEDG_STREAM_MIRROR_ADDR (s : Nat) : Fld := ⟨0x401018 + 0x80 * s, 0, 64⟩
def LEDG_STREAM_HEAD_SLOTS (s : Nat) : Fld := ⟨0x401020 + 0x80 * s, 0, 64⟩
def LEDG_STREAM_EXPORTED_SLOTS (s : Nat) : Fld := ⟨0x401028 + 0x80 * s, 0, 64⟩
def LEDG_STREAM_HOST_TAIL_SLOTS (s : Nat) : Fld := ⟨0x401030 + 0x80 * s, 0, 64⟩
def LEDG_STREAM_LAST_SEAL_NUMBER (s : Nat) : Fld := ⟨0x401038 + 0x80 * s, 0, 64⟩
def HED_VERSION_RETIRING_SHUTTLES : Fld := ⟨0x500000, 15, 17⟩
def HED_VERSION_RETIRING_LIVE : Fld := ⟨0x500000, 8, 1⟩
def HED_VERSION_RETIRING : Fld := ⟨0x500000, 4, 4⟩
def HED_VERSION_ACTIVE : Fld := ⟨0x500000, 0, 4⟩
def HED_SHADOW_STATUS_CHANGED : Fld := ⟨0x500004, 7, 1⟩
def HED_SHADOW_STATUS_RECLAIMING : Fld := ⟨0x500004, 6, 1⟩
def HED_SHADOW_STATUS_NO_SPACE : Fld := ⟨0x500004, 0, 6⟩
def HED_SHADOW_CTRL_DISCARD : Fld := ⟨0x500008, 0, 1⟩
def HED_EVENT_POOL_FULL : Fld := ⟨0x50000C, 3, 1⟩
def HED_EVENT_RECIRC_LIMIT : Fld := ⟨0x50000C, 2, 1⟩
def HED_EVENT_STALE : Fld := ⟨0x50000C, 1, 1⟩
def HED_EVENT_INDEX_PARITY : Fld := ⟨0x50000C, 0, 1⟩
def HED_SNAPSHOT_TAKE : Fld := ⟨0x500010, 0, 1⟩
def HED_PARSE_CFG_NVME_PORT : Fld := ⟨0x500014, 0, 16⟩
def HED_IND_CTRL_BUSY : Fld := ⟨0x500100, 16, 1⟩
def HED_IND_CTRL_RESULT : Fld := ⟨0x500100, 12, 4⟩
def HED_IND_CTRL_SET : Fld := ⟨0x500100, 7, 1⟩
def HED_IND_CTRL_TABLE : Fld := ⟨0x500100, 4, 3⟩
def HED_IND_CTRL_OP : Fld := ⟨0x500100, 1, 3⟩
def HED_IND_CTRL_GO : Fld := ⟨0x500100, 0, 1⟩
def HED_IND_INDEX_INDEX : Fld := ⟨0x500104, 0, 22⟩
def HED_PORT_CFG_APP_OFFSET (n : Nat) : Fld := ⟨0x501000 + 0x10 * n, 24, 8⟩
def HED_PORT_CFG_KT (n : Nat) : Fld := ⟨0x501000 + 0x10 * n, 6, 3⟩
def HED_PORT_CFG_PROFILE (n : Nat) : Fld := ⟨0x501000 + 0x10 * n, 2, 4⟩
def HED_PORT_CFG_MAL_ACTION (n : Nat) : Fld := ⟨0x501000 + 0x10 * n, 0, 2⟩
def HED_PORT_DEFAULT_LIST (n : Nat) : Fld := ⟨0x501004 + 0x10 * n, 0, 20⟩
def HED_PORT_EXC_LIST (n : Nat) : Fld := ⟨0x501008 + 0x10 * n, 0, 20⟩
def FWD_CFG_AGE_LIMIT : Fld := ⟨0x600000, 16, 15⟩
def FWD_CFG_AGE_TICK_MS : Fld := ⟨0x600000, 0, 16⟩
def FWD_LEARN_CFG_MOVE_WINDOW_MS : Fld := ⟨0x600004, 8, 16⟩
def FWD_LEARN_CFG_MOVE_LIMIT : Fld := ⟨0x600004, 0, 8⟩
def FWD_FREEZE_FREEZE_TICKS : Fld := ⟨0x600008, 0, 15⟩
def FWD_STATUS_LEARNED : Fld := ⟨0x60000C, 0, 21⟩
def FWD_LEARN_STATUS_FLUSH_BUSY : Fld := ⟨0x600010, 16, 1⟩
def FWD_LEARN_STATUS_QUEUE : Fld := ⟨0x600010, 0, 13⟩
def FWD_EVENT_SWEEP_LATE : Fld := ⟨0x600014, 5, 1⟩
def FWD_EVENT_QUEUE_FULL : Fld := ⟨0x600014, 4, 1⟩
def FWD_EVENT_TABLE_FULL : Fld := ⟨0x600014, 3, 1⟩
def FWD_EVENT_LIMIT : Fld := ⟨0x600014, 2, 1⟩
def FWD_EVENT_FLAP : Fld := ⟨0x600014, 1, 1⟩
def FWD_EVENT_PARITY : Fld := ⟨0x600014, 0, 1⟩
def FWD_SNAPSHOT_TAKE : Fld := ⟨0x600018, 0, 1⟩
def FWD_SEED_SEED_DDR5 : Fld := ⟨0x60001C, 16, 16⟩
def FWD_SEED_SEED_ONDIE : Fld := ⟨0x60001C, 0, 16⟩
def FWD_ONDIE_LEARN_ONDIE_MAX : Fld := ⟨0x600020, 0, 21⟩
def FWD_AGER_DRAM_RATE : Fld := ⟨0x600024, 0, 14⟩
def FWD_LOG_INDEX_LOST : Fld := ⟨0x600028, 16, 16⟩
def FWD_LOG_INDEX_TAIL : Fld := ⟨0x600028, 8, 8⟩
def FWD_LOG_INDEX_HEAD : Fld := ⟨0x600028, 0, 8⟩
def FWD_FLUSH_GO : Fld := ⟨0x60002C, 31, 1⟩
def FWD_FLUSH_BY : Fld := ⟨0x60002C, 30, 1⟩
def FWD_FLUSH_TARGET : Fld := ⟨0x60002C, 0, 14⟩
def FWD_IND_CTRL_BUSY : Fld := ⟨0x600100, 16, 1⟩
def FWD_IND_CTRL_RESULT : Fld := ⟨0x600100, 12, 4⟩
def FWD_IND_CTRL_SET : Fld := ⟨0x600100, 7, 1⟩
def FWD_IND_CTRL_TABLE : Fld := ⟨0x600100, 4, 3⟩
def FWD_IND_CTRL_OP : Fld := ⟨0x600100, 1, 3⟩
def FWD_IND_CTRL_GO : Fld := ⟨0x600100, 0, 1⟩
def FWD_IND_INDEX_INDEX : Fld := ⟨0x600104, 0, 23⟩
def FWD_PORT_LEARN_LIMIT (p : Nat) : Fld := ⟨0x601000 + 0x8 * p, 0, 21⟩
def FWD_PORT_COUNT_COUNT (p : Nat) : Fld := ⟨0x601004 + 0x8 * p, 0, 21⟩
def CIPH_STATUS_PHYS_ON : Fld := ⟨0x700000, 14, 18⟩
def CIPH_STATUS_DRBG_READY : Fld := ⟨0x700000, 1, 1⟩
def CIPH_STATUS_ENTROPY_OK : Fld := ⟨0x700000, 0, 1⟩
def CIPH_EVENT_RNG_EMPTY : Fld := ⟨0x700004, 4, 1⟩
def CIPH_EVENT_ENTROPY_FAIL : Fld := ⟨0x700004, 3, 1⟩
def CIPH_EVENT_EXHAUSTED : Fld := ⟨0x700004, 2, 1⟩
def CIPH_EVENT_SOFT_LIMIT : Fld := ⟨0x700004, 1, 1⟩
def CIPH_EVENT_AUTH_FAIL : Fld := ⟨0x700004, 0, 1⟩
def CIPH_SNAPSHOT_TAKE : Fld := ⟨0x700008, 0, 1⟩
def CIPH_DRBG_CFG_RESEED_MS : Fld := ⟨0x70000C, 0, 16⟩
def CIPH_RNG_DATA : Fld := ⟨0x700010, 0, 32⟩
def CIPH_LOG_INDEX_LOST : Fld := ⟨0x700014, 16, 16⟩
def CIPH_LOG_INDEX_TAIL : Fld := ⟨0x700014, 8, 8⟩
def CIPH_LOG_INDEX_HEAD : Fld := ⟨0x700014, 0, 8⟩
def CIPH_CACHE_STATUS_PINNED : Fld := ⟨0x700018, 0, 15⟩
def CIPH_LANE_CFG_PHYS (n : Nat) : Fld := ⟨0x700100 + 0x4 * n, 16, 5⟩
def CIPH_LANE_CFG_OUT (n : Nat) : Fld := ⟨0x700100 + 0x4 * n, 8, 1⟩
def CIPH_LANE_CFG_SHUFFLE (n : Nat) : Fld := ⟨0x700100 + 0x4 * n, 7, 1⟩
def CIPH_LANE_CFG_DUMMY (n : Nat) : Fld := ⟨0x700100 + 0x4 * n, 5, 2⟩
def CIPH_LANE_CFG_GROUP (n : Nat) : Fld := ⟨0x700100 + 0x4 * n, 0, 3⟩
def CIPH_IND_CTRL_BUSY : Fld := ⟨0x700200, 16, 1⟩
def CIPH_IND_CTRL_RESULT : Fld := ⟨0x700200, 12, 4⟩
def CIPH_IND_CTRL_SET : Fld := ⟨0x700200, 7, 1⟩
def CIPH_IND_CTRL_TABLE : Fld := ⟨0x700200, 4, 3⟩
def CIPH_IND_CTRL_OP : Fld := ⟨0x700200, 1, 3⟩
def CIPH_IND_CTRL_GO : Fld := ⟨0x700200, 0, 1⟩
def CIPH_IND_INDEX_INDEX : Fld := ⟨0x700204, 0, 20⟩
def STOR_EVENT_CRC_SKIP : Fld := ⟨0x800000, 4, 1⟩
def STOR_EVENT_CRC_REPEAT : Fld := ⟨0x800000, 3, 1⟩
def STOR_EVENT_SYNC_LOST : Fld := ⟨0x800000, 2, 1⟩
def STOR_EVENT_DDGST_BAD : Fld := ⟨0x800000, 1, 1⟩
def STOR_EVENT_HDGST_BAD : Fld := ⟨0x800000, 0, 1⟩
def STOR_SNAPSHOT_TAKE : Fld := ⟨0x800004, 0, 1⟩
def STOR_IND_CTRL_BUSY : Fld := ⟨0x800100, 16, 1⟩
def STOR_IND_CTRL_RESULT : Fld := ⟨0x800100, 12, 4⟩
def STOR_IND_CTRL_OP : Fld := ⟨0x800100, 1, 3⟩
def STOR_IND_CTRL_GO : Fld := ⟨0x800100, 0, 1⟩
def STOR_IND_INDEX_INDEX : Fld := ⟨0x800104, 0, 14⟩
def STOR_CRC_CTRL_RELEASE (u : Nat) : Fld := ⟨0x801000 + 0x20 * u, 0, 1⟩
def STOR_CRC_STATUS_MSG_COUNT (u : Nat) : Fld := ⟨0x801004 + 0x20 * u, 16, 16⟩
def STOR_CRC_STATUS_STATE (u : Nat) : Fld := ⟨0x801004 + 0x20 * u, 14, 2⟩
def STOR_CRC_STATUS_POLY (u : Nat) : Fld := ⟨0x801004 + 0x20 * u, 12, 2⟩
def STOR_CRC_STATUS_OWNER_KIND (u : Nat) : Fld := ⟨0x801004 + 0x20 * u, 11, 1⟩
def STOR_CRC_STATUS_OWNER (u : Nat) : Fld := ⟨0x801004 + 0x20 * u, 4, 7⟩
def STOR_CRC_STATUS_ERROR (u : Nat) : Fld := ⟨0x801004 + 0x20 * u, 3, 1⟩
def STOR_CRC_STATUS_ABANDONED (u : Nat) : Fld := ⟨0x801004 + 0x20 * u, 2, 1⟩
def STOR_CRC_STATUS_NO_FIELD (u : Nat) : Fld := ⟨0x801004 + 0x20 * u, 1, 1⟩
def STOR_CRC_STATUS_ALIVE_EN (u : Nat) : Fld := ⟨0x801004 + 0x20 * u, 0, 1⟩
def STOR_CRC_ALIVE_LAST_STEP (u : Nat) : Fld := ⟨0x801008 + 0x20 * u, 24, 8⟩
def STOR_CRC_ALIVE_LAST (u : Nat) : Fld := ⟨0x801008 + 0x20 * u, 16, 8⟩
def STOR_CRC_ALIVE_SKIPS (u : Nat) : Fld := ⟨0x801008 + 0x20 * u, 8, 8⟩
def STOR_CRC_ALIVE_REPEATS (u : Nat) : Fld := ⟨0x801008 + 0x20 * u, 2, 6⟩
def STOR_CRC_ALIVE_SKIP (u : Nat) : Fld := ⟨0x801008 + 0x20 * u, 1, 1⟩
def STOR_CRC_ALIVE_REPEAT (u : Nat) : Fld := ⟨0x801008 + 0x20 * u, 0, 1⟩
def STOR_CRC_RESULT_RESULT (u : Nat) : Fld := ⟨0x801010 + 0x20 * u, 0, 64⟩
def REED_EVENT_AS_SCALED : Fld := ⟨0x900000, 5, 1⟩
def REED_EVENT_GATE_CHANGE : Fld := ⟨0x900000, 4, 1⟩
def REED_EVENT_GATE_OVERRUN : Fld := ⟨0x900000, 3, 1⟩
def REED_EVENT_GATE_OVERSIZE : Fld := ⟨0x900000, 2, 1⟩
def REED_EVENT_NO_QUEUE : Fld := ⟨0x900000, 1, 1⟩
def REED_EVENT_QUEUE_DROP : Fld := ⟨0x900000, 0, 1⟩
def REED_SNAPSHOT_TAKE : Fld := ⟨0x900004, 0, 1⟩
def REED_IND_CTRL_BUSY : Fld := ⟨0x900100, 16, 1⟩
def REED_IND_CTRL_RESULT : Fld := ⟨0x900100, 12, 4⟩
def REED_IND_CTRL_SET : Fld := ⟨0x900100, 7, 1⟩
def REED_IND_CTRL_TABLE : Fld := ⟨0x900100, 4, 3⟩
def REED_IND_CTRL_OP : Fld := ⟨0x900100, 1, 3⟩
def REED_IND_CTRL_GO : Fld := ⟨0x900100, 0, 1⟩
def REED_IND_INDEX_INDEX : Fld := ⟨0x900104, 0, 15⟩
def REED_PORT_CFG_CT_EN (p : Nat) : Fld := ⟨0x901000 + 0x10 * p, 16, 1⟩
def REED_PORT_CFG_DEFAULT_QUEUE (p : Nat) : Fld := ⟨0x901000 + 0x10 * p, 0, 14⟩
def REED_PORT_STATUS_AS_SCALED (p : Nat) : Fld := ⟨0x901004 + 0x10 * p, 16, 1⟩
def REED_PORT_STATUS_GUAR_QUEUED (p : Nat) : Fld := ⟨0x901004 + 0x10 * p, 0, 16⟩
def REED_TC_BURST (p t : Nat) : Fld := ⟨0x901400 + 0x20 * p + 0x4 * t, 20, 12⟩
def REED_TC_RATE (p t : Nat) : Fld := ⟨0x901400 + 0x20 * p + 0x4 * t, 0, 20⟩
def REED_GATE_CFG_LENGTH (n : Nat) : Fld := ⟨0x902000 + 0x40 * n, 1, 10⟩
def REED_GATE_CFG_ENABLE (n : Nat) : Fld := ⟨0x902000 + 0x40 * n, 0, 1⟩
def REED_GATE_CYCLE_CYCLE_NS (n : Nat) : Fld := ⟨0x902004 + 0x40 * n, 0, 32⟩
def REED_GATE_BASE_BASE_TIME (n : Nat) : Fld := ⟨0x902008 + 0x40 * n, 0, 64⟩
def REED_GATE_STATUS_PENDING (n : Nat) : Fld := ⟨0x902010 + 0x40 * n, 24, 1⟩
def REED_GATE_STATUS_GATES (n : Nat) : Fld := ⟨0x902010 + 0x40 * n, 16, 8⟩
def REED_GATE_STATUS_CURRENT (n : Nat) : Fld := ⟨0x902010 + 0x40 * n, 0, 10⟩
def REED_GATE_START_S (n : Nat) : Fld := ⟨0x902018 + 0x40 * n, 0, 64⟩
def BARB_EVENT_DBG_REFUSED : Fld := ⟨0xB00000, 6, 1⟩
def BARB_EVENT_DISPATCH_FULL : Fld := ⟨0xB00000, 5, 1⟩
def BARB_EVENT_LOCK_LEAK : Fld := ⟨0xB00000, 4, 1⟩
def BARB_EVENT_CORE_RESET : Fld := ⟨0xB00000, 3, 1⟩
def BARB_EVENT_STALL : Fld := ⟨0xB00000, 2, 1⟩
def BARB_EVENT_BUDGET : Fld := ⟨0xB00000, 1, 1⟩
def BARB_EVENT_FAULT : Fld := ⟨0xB00000, 0, 1⟩
def BARB_SNAPSHOT_TAKE : Fld := ⟨0xB00004, 0, 1⟩
def BARB_LOG_INDEX_LOST : Fld := ⟨0xB00008, 16, 16⟩
def BARB_LOG_INDEX_TAIL : Fld := ⟨0xB00008, 8, 8⟩
def BARB_LOG_INDEX_HEAD : Fld := ⟨0xB00008, 0, 8⟩
def BARB_DBG_STATUS_VENDOR_EN : Fld := ⟨0xB0000C, 1, 1⟩
def BARB_DBG_STATUS_DEBUG_EN : Fld := ⟨0xB0000C, 0, 1⟩
def BARB_LOCK_QUERY_INDEX : Fld := ⟨0xB00010, 0, 12⟩
def BARB_LOCK_OWNER_HELD : Fld := ⟨0xB00014, 31, 1⟩
def BARB_LOCK_OWNER_OWNER_HALTED : Fld := ⟨0xB00014, 30, 1⟩
def BARB_LOCK_OWNER_THREAD : Fld := ⟨0xB00014, 22, 3⟩
def BARB_LOCK_OWNER_CORE : Fld := ⟨0xB00014, 16, 6⟩
def BARB_LOCK_OWNER_WAITERS : Fld := ⟨0xB00014, 0, 10⟩
def BARB_IND_CTRL_BUSY : Fld := ⟨0xB00200, 16, 1⟩
def BARB_IND_CTRL_RESULT : Fld := ⟨0xB00200, 12, 4⟩
def BARB_IND_CTRL_SET : Fld := ⟨0xB00200, 7, 1⟩
def BARB_IND_CTRL_TABLE : Fld := ⟨0xB00200, 4, 3⟩
def BARB_IND_CTRL_OP : Fld := ⟨0xB00200, 1, 3⟩
def BARB_IND_CTRL_GO : Fld := ⟨0xB00200, 0, 1⟩
def BARB_IND_INDEX_INDEX : Fld := ⟨0xB00204, 0, 16⟩
def BARB_CORE_CFG_PHYS (n : Nat) : Fld := ⟨0xB02000 + 0x40 * n, 16, 7⟩
def BARB_CORE_CFG_FIRMWARE (n : Nat) : Fld := ⟨0xB02000 + 0x40 * n, 0, 1⟩
def BARB_CORE_STATUS_AS_BE_QUEUED (n : Nat) : Fld := ⟨0xB02004 + 0x40 * n, 16, 7⟩
def BARB_CORE_STATUS_STATE (n : Nat) : Fld := ⟨0xB02004 + 0x40 * n, 0, 16⟩
def BARB_CORE_SLOT_LO_SLOTS (n : Nat) : Fld := ⟨0xB02008 + 0x40 * n, 0, 32⟩
def BARB_CORE_SLOT_HI_SLOTS (n : Nat) : Fld := ⟨0xB0200C + 0x40 * n, 0, 32⟩
def BARB_CORE_POOL_GUAR (n : Nat) : Fld := ⟨0xB02010 + 0x40 * n, 8, 8⟩
def BARB_CORE_POOL_DISPATCH (n : Nat) : Fld := ⟨0xB02010 + 0x40 * n, 0, 8⟩
def BARB_CORE_CTRL_KEY (n : Nat) : Fld := ⟨0xB02014 + 0x40 * n, 16, 16⟩
def BARB_CORE_CTRL_RESET (n : Nat) : Fld := ⟨0xB02014 + 0x40 * n, 0, 1⟩
def BARB_CORE_DBG_HALTED (n : Nat) : Fld := ⟨0xB02018 + 0x40 * n, 24, 8⟩
def BARB_CORE_DBG_STEP (n : Nat) : Fld := ⟨0xB02018 + 0x40 * n, 16, 8⟩
def BARB_CORE_DBG_RESUME (n : Nat) : Fld := ⟨0xB02018 + 0x40 * n, 8, 8⟩
def BARB_CORE_DBG_HALT (n : Nat) : Fld := ⟨0xB02018 + 0x40 * n, 0, 8⟩
def BARB_CORE_DBG_SEL_ITEM (n : Nat) : Fld := ⟨0xB0201C + 0x40 * n, 4, 6⟩
def BARB_CORE_DBG_SEL_THREAD (n : Nat) : Fld := ⟨0xB0201C + 0x40 * n, 0, 3⟩
def BARB_CORE_DBG_DATA_DATA (n : Nat) : Fld := ⟨0xB02020 + 0x40 * n, 0, 64⟩
def HIF_LINK_STATUS_MAX_READ_NS (n : Nat) : Fld := ⟨0x100000 + 0x4 * n, 16, 16⟩
def HIF_LINK_STATUS_SRIS (n : Nat) : Fld := ⟨0x100000 + 0x4 * n, 12, 1⟩
def HIF_LINK_STATUS_FLIT (n : Nat) : Fld := ⟨0x100000 + 0x4 * n, 11, 1⟩
def HIF_LINK_STATUS_WIDTH (n : Nat) : Fld := ⟨0x100000 + 0x4 * n, 6, 5⟩
def HIF_LINK_STATUS_SPEED (n : Nat) : Fld := ⟨0x100000 + 0x4 * n, 2, 4⟩
def HIF_LINK_STATUS_SPLIT (n : Nat) : Fld := ⟨0x100000 + 0x4 * n, 1, 1⟩
def HIF_LINK_STATUS_UP (n : Nat) : Fld := ⟨0x100000 + 0x4 * n, 0, 1⟩
def HIF_EVENT_OVERFLOW : Fld := ⟨0x100008, 5, 1⟩
def HIF_EVENT_REMOVE_REFUSED : Fld := ⟨0x100008, 4, 1⟩
def HIF_EVENT_XLATE_FAULT : Fld := ⟨0x100008, 3, 1⟩
def HIF_EVENT_FN_DONE : Fld := ⟨0x100008, 2, 1⟩
def HIF_EVENT_CPL_TIMEOUT : Fld := ⟨0x100008, 1, 1⟩
def HIF_EVENT_LINK_CHANGE : Fld := ⟨0x100008, 0, 1⟩
def HIF_SNAPSHOT_TAKE : Fld := ⟨0x10000C, 0, 1⟩
def HIF_PEER_CFG_SIZE_LOG2 : Fld := ⟨0x100010, 2, 5⟩
def HIF_PEER_CFG_WR_EN : Fld := ⟨0x100010, 1, 1⟩
def HIF_PEER_CFG_RD_EN : Fld := ⟨0x100010, 0, 1⟩
def HIF_PEER_BASE_BASE : Fld := ⟨0x100018, 0, 64⟩
def HIF_PEER_CTRL_GEN : Fld := ⟨0x100020, 8, 8⟩
def HIF_PEER_CTRL_COMMIT_IGNORED : Fld := ⟨0x100020, 3, 1⟩
def HIF_PEER_CTRL_RANGE : Fld := ⟨0x100020, 2, 1⟩
def HIF_PEER_CTRL_DRAINED : Fld := ⟨0x100020, 1, 1⟩
def HIF_PEER_CTRL_COMMIT : Fld := ⟨0x100020, 0, 1⟩
def HIF_FN_CTRL_INSTANCE : Fld := ⟨0x100040, 8, 12⟩
def HIF_FN_CTRL_OP : Fld := ⟨0x100040, 1, 3⟩
def HIF_FN_CTRL_GO : Fld := ⟨0x100040, 0, 1⟩
def HIF_FN_STATUS_BUSY : Fld := ⟨0x100044, 16, 1⟩
def HIF_FN_STATUS_RESULT : Fld := ⟨0x100044, 12, 4⟩
def HIF_FN_STATUS_INSTANCE : Fld := ⟨0x100044, 0, 12⟩
def HIF_FN_ADDR_ADDR : Fld := ⟨0x100048, 0, 64⟩
def HIF_FN_LEN_LEN : Fld := ⟨0x100050, 0, 32⟩
def HIF_FN_QUERY_STATE : Fld := ⟨0x100054, 20, 4⟩
def HIF_FN_QUERY_BME : Fld := ⟨0x100054, 19, 1⟩
def HIF_FN_QUERY_DRAINED : Fld := ⟨0x100054, 18, 1⟩
def HIF_FN_QUERY_INSTANCE : Fld := ⟨0x100054, 0, 12⟩
def HIF_QUIESCE_LIMIT_LIMIT_US : Fld := ⟨0x100058, 0, 20⟩
def HIF_XLATE_INV_GO : Fld := ⟨0x100060, 31, 1⟩
def HIF_XLATE_INV_BUSY : Fld := ⟨0x100060, 30, 1⟩
def HIF_XLATE_INV_DONE : Fld := ⟨0x100060, 29, 1⟩
def HIF_XLATE_INV_PAGES : Fld := ⟨0x100060, 12, 17⟩
def HIF_XLATE_INV_INSTANCE : Fld := ⟨0x100060, 0, 12⟩
def HIF_XLATE_INV_ADDR_IOVA : Fld := ⟨0x100068, 0, 64⟩
def HIF_XLATE_LOG_INDEX_LOST : Fld := ⟨0x100070, 16, 16⟩
def HIF_XLATE_LOG_INDEX_TAIL : Fld := ⟨0x100070, 8, 8⟩
def HIF_XLATE_LOG_INDEX_HEAD : Fld := ⟨0x100070, 0, 8⟩
def HIF_DIRTY_CFG_ENABLE (k : Nat) : Fld := ⟨0x100100 + 0x40 * k, 31, 1⟩
def HIF_DIRTY_CFG_SWAP (k : Nat) : Fld := ⟨0x100100 + 0x40 * k, 30, 1⟩
def HIF_DIRTY_CFG_SWAP_DONE (k : Nat) : Fld := ⟨0x100100 + 0x40 * k, 29, 1⟩
def HIF_DIRTY_CFG_OVERFLOW (k : Nat) : Fld := ⟨0x100100 + 0x40 * k, 28, 1⟩
def HIF_DIRTY_CFG_ACTIVE_BMP (k : Nat) : Fld := ⟨0x100100 + 0x40 * k, 27, 1⟩
def HIF_DIRTY_CFG_INSTANCE (k : Nat) : Fld := ⟨0x100100 + 0x40 * k, 0, 12⟩
def HIF_DIRTY_IOVA_IOVA (k : Nat) : Fld := ⟨0x100108 + 0x40 * k, 0, 64⟩
def HIF_DIRTY_PAGES_PAGES (k : Nat) : Fld := ⟨0x100110 + 0x40 * k, 0, 32⟩
def HIF_DIRTY_BMP0_ADDR (k : Nat) : Fld := ⟨0x100118 + 0x40 * k, 0, 64⟩
def HIF_DIRTY_BMP1_ADDR (k : Nat) : Fld := ⟨0x100120 + 0x40 * k, 0, 64⟩
def RING_EVENT_RX_NO_BUF : Fld := ⟨0xC00000, 4, 1⟩
def RING_EVENT_PUSH_LOST : Fld := ⟨0xC00000, 3, 1⟩
def RING_EVENT_BAD_DOORBELL : Fld := ⟨0xC00000, 2, 1⟩
def RING_EVENT_CPL_STALL : Fld := ⟨0xC00000, 1, 1⟩
def RING_EVENT_ERROR : Fld := ⟨0xC00000, 0, 1⟩
def RING_SNAPSHOT_TAKE : Fld := ⟨0xC00004, 0, 1⟩
def RING_LOG_INDEX_LOST : Fld := ⟨0xC00008, 16, 16⟩
def RING_LOG_INDEX_TAIL : Fld := ⟨0xC00008, 8, 8⟩
def RING_LOG_INDEX_HEAD : Fld := ⟨0xC00008, 0, 8⟩
def RING_CACHE_PUSH_USED : Fld := ⟨0xC0000C, 16, 13⟩
def RING_CACHE_DESC_USED : Fld := ⟨0xC0000C, 0, 16⟩
def RING_IND_CTRL_BUSY : Fld := ⟨0xC00100, 16, 1⟩
def RING_IND_CTRL_RESULT : Fld := ⟨0xC00100, 12, 4⟩
def RING_IND_CTRL_SET : Fld := ⟨0xC00100, 7, 1⟩
def RING_IND_CTRL_TABLE : Fld := ⟨0xC00100, 4, 3⟩
def RING_IND_CTRL_OP : Fld := ⟨0xC00100, 1, 3⟩
def RING_IND_CTRL_GO : Fld := ⟨0xC00100, 0, 1⟩
def RING_IND_INDEX_INDEX : Fld := ⟨0xC00104, 0, 14⟩
def MBOX_EVENT_POWER_ERROR : Fld := ⟨0xD00000, 3, 1⟩
def MBOX_EVENT_COLLISION : Fld := ⟨0xD00000, 2, 1⟩
def MBOX_EVENT_DOWN_EMPTY : Fld := ⟨0xD00000, 1, 1⟩
def MBOX_EVENT_UP_FULL : Fld := ⟨0xD00000, 0, 1⟩
def MBOX_MGR_CFG_IRQ_EN : Fld := ⟨0xD00004, 16, 1⟩
def MBOX_MGR_CFG_VECTOR : Fld := ⟨0xD00004, 0, 11⟩
def MBOX_SNAPSHOT_TAKE : Fld := ⟨0xD00008, 0, 1⟩
def MBOX_USER_SEL_INSTANCE : Fld := ⟨0xD0000C, 0, 12⟩
def MBOX_USER_STATUS_PEER_RESET : Fld := ⟨0xD00010, 5, 1⟩
def MBOX_USER_STATUS_ABORTED : Fld := ⟨0xD00010, 4, 1⟩
def MBOX_USER_STATUS_DOWN_COLLISION : Fld := ⟨0xD00010, 3, 1⟩
def MBOX_USER_STATUS_UP_COLLISION : Fld := ⟨0xD00010, 2, 1⟩
def MBOX_USER_STATUS_DOWN_FULL : Fld := ⟨0xD00010, 1, 1⟩
def MBOX_USER_STATUS_UP_FULL : Fld := ⟨0xD00010, 0, 1⟩
def MBOX_DATA_BIND_NO_PEER (m : Nat) : Fld := ⟨0xD01000 + 0x4 * m, 19, 1⟩
def MBOX_DATA_BIND_COLLISION (m : Nat) : Fld := ⟨0xD01000 + 0x4 * m, 18, 1⟩
def MBOX_DATA_BIND_FULL (m : Nat) : Fld := ⟨0xD01000 + 0x4 * m, 17, 1⟩
def MBOX_DATA_BIND_VALID (m : Nat) : Fld := ⟨0xD01000 + 0x4 * m, 16, 1⟩
def MBOX_DATA_BIND_RECEIVER (m : Nat) : Fld := ⟨0xD01000 + 0x4 * m, 8, 7⟩
def MBOX_DATA_BIND_SENDER (m : Nat) : Fld := ⟨0xD01000 + 0x4 * m, 0, 7⟩
def MOVE_EVENT_WRITE_IGNORED : Fld := ⟨0xE00000, 2, 1⟩
def MOVE_EVENT_RETRY : Fld := ⟨0xE00000, 1, 1⟩
def MOVE_EVENT_ERROR : Fld := ⟨0xE00000, 0, 1⟩
def MOVE_SNAPSHOT_TAKE : Fld := ⟨0xE00004, 0, 1⟩
def MOVE_LOG_INDEX_LOST : Fld := ⟨0xE00008, 16, 16⟩
def MOVE_LOG_INDEX_TAIL : Fld := ⟨0xE00008, 8, 8⟩
def MOVE_LOG_INDEX_HEAD : Fld := ⟨0xE00008, 0, 8⟩
def MOVE_CH_CFG_OWNER (n : Nat) : Fld := ⟨0xE01000 + 0x80 * n, 30, 2⟩
def MOVE_CH_CFG_IDEMPOTENT (n : Nat) : Fld := ⟨0xE01000 + 0x80 * n, 29, 1⟩
def MOVE_CH_CFG_EVENT_TO (n : Nat) : Fld := ⟨0xE01000 + 0x80 * n, 27, 2⟩
def MOVE_CH_CFG_EVENT_EP (n : Nat) : Fld := ⟨0xE01000 + 0x80 * n, 18, 9⟩
def MOVE_CH_CFG_SHARE (n : Nat) : Fld := ⟨0xE01000 + 0x80 * n, 10, 8⟩
def MOVE_CH_CFG_BURST (n : Nat) : Fld := ⟨0xE01000 + 0x80 * n, 7, 3⟩
def MOVE_CH_CFG_MODE (n : Nat) : Fld := ⟨0xE01000 + 0x80 * n, 6, 1⟩
def MOVE_CH_CFG_CHAIN_SPACE (n : Nat) : Fld := ⟨0xE01000 + 0x80 * n, 5, 1⟩
def MOVE_CH_CFG_MIRROR_SPACE (n : Nat) : Fld := ⟨0xE01000 + 0x80 * n, 4, 1⟩
def MOVE_CH_CTRL_CHAIN_KICK (n : Nat) : Fld := ⟨0xE01004 + 0x80 * n, 2, 1⟩
def MOVE_CH_CTRL_ABORT (n : Nat) : Fld := ⟨0xE01004 + 0x80 * n, 1, 1⟩
def MOVE_CH_CTRL_START (n : Nat) : Fld := ⟨0xE01004 + 0x80 * n, 0, 1⟩
def MOVE_CH_STATUS_DESC_SEQ (n : Nat) : Fld := ⟨0xE01008 + 0x80 * n, 24, 8⟩
def MOVE_CH_STATUS_CAUSE (n : Nat) : Fld := ⟨0xE01008 + 0x80 * n, 20, 4⟩
def MOVE_CH_STATUS_RETRIED (n : Nat) : Fld := ⟨0xE01008 + 0x80 * n, 19, 1⟩
def MOVE_CH_STATUS_KICK_PENDING (n : Nat) : Fld := ⟨0xE01008 + 0x80 * n, 18, 1⟩
def MOVE_CH_STATUS_STATE (n : Nat) : Fld := ⟨0xE01008 + 0x80 * n, 0, 3⟩
def MOVE_CH_CFG2_INSTANCE (n : Nat) : Fld := ⟨0xE0100C + 0x80 * n, 0, 12⟩
def MOVE_CH_CHAIN_HEAD (n : Nat) : Fld := ⟨0xE01010 + 0x80 * n, 0, 64⟩
def MOVE_CH_MIRROR_ADDR (n : Nat) : Fld := ⟨0xE01018 + 0x80 * n, 0, 64⟩
def MOVE_CH_SRC_CIRC_BASE (n : Nat) : Fld := ⟨0xE01020 + 0x80 * n, 12, 52⟩
def MOVE_CH_SRC_CIRC_SIZE_LOG2 (n : Nat) : Fld := ⟨0xE01020 + 0x80 * n, 0, 5⟩
def MOVE_CH_DST_CIRC_BASE (n : Nat) : Fld := ⟨0xE01028 + 0x80 * n, 12, 52⟩
def MOVE_CH_DST_CIRC_SIZE_LOG2 (n : Nat) : Fld := ⟨0xE01028 + 0x80 * n, 0, 5⟩
def MOVE_CH_DONE_DONE_BYTES (n : Nat) : Fld := ⟨0xE01030 + 0x80 * n, 0, 64⟩
def DRAM_STATUS_MIRROR_PAIR_DEGRADED : Fld := ⟨0xF00000, 4, 2⟩
def DRAM_STATUS_READY : Fld := ⟨0xF00000, 0, 4⟩
def DRAM_EVENT_REPAIR_EXHAUSTED : Fld := ⟨0xF00004, 4, 1⟩
def DRAM_EVENT_REPAIRED : Fld := ⟨0xF00004, 3, 1⟩
def DRAM_EVENT_SCRUB_LATE : Fld := ⟨0xF00004, 2, 1⟩
def DRAM_EVENT_UNCORRECTED : Fld := ⟨0xF00004, 1, 1⟩
def DRAM_EVENT_CORRECTED : Fld := ⟨0xF00004, 0, 1⟩
def DRAM_SNAPSHOT_TAKE : Fld := ⟨0xF00008, 0, 1⟩
def DRAM_NEIGHBOUR_P : Fld := ⟨0xF0000C, 0, 4⟩
def DRAM_SCRUB_PPR_THRESH : Fld := ⟨0xF00010, 16, 16⟩
def DRAM_SCRUB_SCRUB_H : Fld := ⟨0xF00010, 0, 8⟩
def DRAM_HINT_PEER : Fld := ⟨0xF00014, 1, 1⟩
def DRAM_HINT_MOVER : Fld := ⟨0xF00014, 0, 1⟩
def DRAM_PBUF_CFG_BANKS : Fld := ⟨0xF00018, 0, 4⟩
def DRAM_LOG_INDEX_LOST : Fld := ⟨0xF0001C, 16, 16⟩
def DRAM_LOG_INDEX_TAIL : Fld := ⟨0xF0001C, 8, 8⟩
def DRAM_LOG_INDEX_HEAD : Fld := ⟨0xF0001C, 0, 8⟩
def DRAM_PEER_AREA_BASE : Fld := ⟨0xF00020, 30, 34⟩
def DRAM_PEER_AREA_SIZE_LOG2 : Fld := ⟨0xF00020, 0, 5⟩
def FLT_HEALTH_FLASH_LOW : Fld := ⟨0x1000000, 24, 1⟩
def FLT_HEALTH_REGULATOR : Fld := ⟨0x1000000, 23, 1⟩
def FLT_HEALTH_WEAR : Fld := ⟨0x1000000, 22, 1⟩
def FLT_HEALTH_UNITS_OUT : Fld := ⟨0x1000000, 21, 1⟩
def FLT_HEALTH_BANK_SPARES : Fld := ⟨0x1000000, 19, 2⟩
def FLT_HEALTH_CRC_SPARES : Fld := ⟨0x1000000, 17, 2⟩
def FLT_HEALTH_CIPHER_SPARES : Fld := ⟨0x1000000, 15, 2⟩
def FLT_HEALTH_CORE_SPARES : Fld := ⟨0x1000000, 12, 3⟩
def FLT_HEALTH_ST_FAIL : Fld := ⟨0x1000000, 9, 3⟩
def FLT_HEALTH_RETIRED : Fld := ⟨0x1000000, 6, 3⟩
def FLT_HEALTH_DEGRADED : Fld := ⟨0x1000000, 5, 1⟩
def FLT_HEALTH_SINGLE : Fld := ⟨0x1000000, 4, 1⟩
def FLT_HEALTH_STANDBY : Fld := ⟨0x1000000, 2, 2⟩
def FLT_HEALTH_ACTIVE : Fld := ⟨0x1000000, 0, 2⟩
def FLT_CLAIM_CLAIM (s : Nat) : Fld := ⟨0x1000004 + 0x4 * s, 0, 32⟩
def FLT_SIDE_NAMED (s : Nat) : Fld := ⟨0x1000010 + 0x4 * s, 8, 8⟩
def FLT_SIDE_STATE (s : Nat) : Fld := ⟨0x1000010 + 0x4 * s, 0, 3⟩
def FLT_PEND_CODES : Fld := ⟨0x1000020, 1, 31⟩
def FLT_MASK_MASK : Fld := ⟨0x1000024, 1, 31⟩
def FLT_CTRL_KEY : Fld := ⟨0x1000028, 16, 16⟩
def FLT_CTRL_SIDE : Fld := ⟨0x1000028, 2, 2⟩
def FLT_CTRL_INJECT : Fld := ⟨0x1000028, 1, 1⟩
def FLT_CTRL_SWITCH : Fld := ⟨0x1000028, 0, 1⟩
def FLT_WEAR_LIMIT : Fld := ⟨0x100002C, 0, 8⟩
def FLT_SELFTEST_PERIOD_MS : Fld := ⟨0x1000030, 0, 16⟩
def FLT_LOG_INDEX_LOST : Fld := ⟨0x1000034, 16, 16⟩
def FLT_LOG_INDEX_TAIL : Fld := ⟨0x1000034, 8, 8⟩
def FLT_LOG_INDEX_HEAD : Fld := ⟨0x1000034, 0, 8⟩
def FLT_SNAPSHOT_TAKE : Fld := ⟨0x1000038, 0, 1⟩
def FLT_POLICY_WINDOW_S (k : Nat) : Fld := ⟨0x1000100 + 0x4 * k, 8, 24⟩
def FLT_POLICY_COUNT (k : Nat) : Fld := ⟨0x1000100 + 0x4 * k, 0, 8⟩
def BOOT_STATUS_ROLLBACK : Fld := ⟨0x1200000, 18, 7⟩
def BOOT_STATUS_SVN : Fld := ⟨0x1200000, 11, 7⟩
def BOOT_STATUS_DEBUG : Fld := ⟨0x1200000, 8, 3⟩
def BOOT_STATUS_OWNER_ENROLLED : Fld := ⟨0x1200000, 7, 1⟩
def BOOT_STATUS_DATAPLANE_READY : Fld := ⟨0x1200000, 6, 1⟩
def BOOT_STATUS_RECOVER : Fld := ⟨0x1200000, 5, 1⟩
def BOOT_STATUS_FALLBACK : Fld := ⟨0x1200000, 4, 1⟩
def BOOT_STATUS_ASKED : Fld := ⟨0x1200000, 2, 2⟩
def BOOT_STATUS_RUNNING : Fld := ⟨0x1200000, 0, 2⟩
def BOOT_EVENT_DEBUG_UNLOCK : Fld := ⟨0x1200004, 2, 1⟩
def BOOT_EVENT_FLASH_ERROR : Fld := ⟨0x1200004, 1, 1⟩
def BOOT_EVENT_OP_DONE : Fld := ⟨0x1200004, 0, 1⟩
def BOOT_CTRL_KEY : Fld := ⟨0x1200008, 16, 16⟩
def BOOT_CTRL_BUSY : Fld := ⟨0x1200008, 15, 1⟩
def BOOT_CTRL_RESULT : Fld := ⟨0x1200008, 11, 4⟩
def BOOT_CTRL_OP : Fld := ⟨0x1200008, 1, 4⟩
def BOOT_CTRL_GO : Fld := ⟨0x1200008, 0, 1⟩
def BOOT_ADDR_OFFSET : Fld := ⟨0x120000C, 0, 27⟩
def BOOT_ARG_ARG : Fld := ⟨0x1200010, 0, 7⟩
def BOOT_SLOT_TRIAL (s : Nat) : Fld := ⟨0x1200014 + 0x4 * s, 12, 1⟩
def BOOT_SLOT_PREFERRED (s : Nat) : Fld := ⟨0x1200014 + 0x4 * s, 11, 1⟩
def BOOT_SLOT_VERIFIED (s : Nat) : Fld := ⟨0x1200014 + 0x4 * s, 10, 1⟩
def BOOT_SLOT_SVN (s : Nat) : Fld := ⟨0x1200014 + 0x4 * s, 0, 7⟩
def BOOT_COUNT_BOOT_NUMBER : Fld := ⟨0x1200020, 0, 64⟩
def BOOT_IMAGE_VERSION_VERSION : Fld := ⟨0x1200028, 0, 64⟩
def BOOT_DEBUG_NONCE_NONCE : Fld := ⟨0x1200030, 0, 64⟩
def BOOT_DEBUG_CTRL_SUBMIT : Fld := ⟨0x1200038, 0, 1⟩
def PWR_STATUS_RAIL_SHORT : Fld := ⟨0x1100000, 7, 1⟩
def PWR_STATUS_STAGE : Fld := ⟨0x1100000, 5, 2⟩
def PWR_STATUS_SOURCE : Fld := ⟨0x1100000, 3, 2⟩
def PWR_STATUS_VIN_B_OK : Fld := ⟨0x1100000, 2, 1⟩
def PWR_STATUS_VIN_A_OK : Fld := ⟨0x1100000, 1, 1⟩
def PWR_EVENT_RAIL_SHORT : Fld := ⟨0x1100004, 5, 1⟩
def PWR_EVENT_PHASE_RETIRED : Fld := ⟨0x1100004, 4, 1⟩
def PWR_EVENT_STAGE_CHANGE : Fld := ⟨0x1100004, 3, 1⟩
def PWR_EVENT_RIDE_THROUGH : Fld := ⟨0x1100004, 2, 1⟩
def PWR_EVENT_VIN_B_FAULT : Fld := ⟨0x1100004, 1, 1⟩
def PWR_EVENT_VIN_A_FAULT : Fld := ⟨0x1100004, 0, 1⟩
def PWR_SNAPSHOT_TAKE : Fld := ⟨0x1100008, 0, 1⟩
def PWR_VIN_A_CURRENT : Fld := ⟨0x110000C, 16, 16⟩
def PWR_VIN_A_VOLTAGE : Fld := ⟨0x110000C, 0, 16⟩
def PWR_VIN_B_CURRENT : Fld := ⟨0x1100010, 16, 16⟩
def PWR_VIN_B_VOLTAGE : Fld := ⟨0x1100010, 0, 16⟩
def PWR_POWER_INPUT_MW : Fld := ⟨0x1100014, 0, 20⟩
def PWR_TEMP_JUNCTION_MAX : Fld := ⟨0x1100018, 16, 16⟩
def PWR_TEMP_LID : Fld := ⟨0x1100018, 0, 16⟩
def PWR_THERM_CFG_BE_CAP : Fld := ⟨0x110001C, 16, 8⟩
def PWR_THERM_CFG_HOT_OFFSET : Fld := ⟨0x110001C, 8, 8⟩
def PWR_THERM_CFG_WARN_OFFSET : Fld := ⟨0x110001C, 0, 8⟩
def PWR_LAST_OFF_CAUSE : Fld := ⟨0x1100020, 0, 4⟩
def PWR_HOLDOFF_HOLDOFF_US (k : Nat) : Fld := ⟨0x1100040 + 0x4 * k, 0, 14⟩
def PWR_RAIL_PHASES (r : Nat) : Fld := ⟨0x1100080 + 0x4 * r, 8, 8⟩
def PWR_RAIL_SPARES (r : Nat) : Fld := ⟨0x1100080 + 0x4 * r, 4, 4⟩
def PWR_RAIL_RETIRED (r : Nat) : Fld := ⟨0x1100080 + 0x4 * r, 0, 4⟩
def PWR_ENERGY_ENERGY_MJ : Fld := ⟨0x1100100, 0, 64⟩
def HIF_IND_CTRL_BUSY : Fld := ⟨0x100200, 16, 1⟩
def HIF_IND_CTRL_RESULT : Fld := ⟨0x100200, 12, 4⟩
def HIF_IND_CTRL_SET : Fld := ⟨0x100200, 7, 1⟩
def HIF_IND_CTRL_TABLE : Fld := ⟨0x100200, 4, 3⟩
def HIF_IND_CTRL_OP : Fld := ⟨0x100200, 1, 3⟩
def HIF_IND_CTRL_GO : Fld := ⟨0x100200, 0, 1⟩
def HIF_IND_INDEX_INDEX : Fld := ⟨0x100204, 0, 12⟩

end Sys2Proof.Machine.F

namespace Sys2Proof.Machine.K

def TIME_STEPS : Nat := 0x300100
def TIME_PPS_IN_EDGES : Nat := 0x300108
def TIME_PPS_IN_OVERRUN : Nat := 0x300110
def TIME_TOD_RX_MESSAGES : Nat := 0x300118
def TIME_TOD_RX_ERRORS : Nat := 0x300120
def TIME_EPOCH_FOLD : Nat := 0x300128
def TIME_PTP_ONE_STEP : Nat := 0x300130
def TIME_PTP_CORRECTED : Nat := 0x300138
def TIME_PTP_CORR_SKIPPED : Nat := 0x300140
def TIME_TXSTAMP_LOST : Nat := 0x300148
def LEDG_SLOTS_WRITTEN (s : Nat) : Nat := 0x401040 + 0x80 * s
def LEDG_SEALS (s : Nat) : Nat := 0x401048 + 0x80 * s
def LEDG_LOST_RING_FULL (s : Nat) : Nat := 0x401050 + 0x80 * s
def LEDG_LOST_RATE (s : Nat) : Nat := 0x401058 + 0x80 * s
def LEDG_HASH_SKIPPED (s : Nat) : Nat := 0x401060 + 0x80 * s
def LEDG_STALLS (s : Nat) : Nat := 0x401068 + 0x80 * s
def HED_LONG_HEADER : Nat := 0x502060
def HED_FRAGMENTS : Nat := 0x502068
def HED_HOT_HIT : Nat := 0x502070
def HED_DDR5_HIT : Nat := 0x502078
def HED_EXACT_MISS : Nat := 0x502080
def HED_WC_HIT : Nat := 0x502088
def HED_WC_FINAL : Nat := 0x502090
def HED_DEFAULT : Nat := 0x502098
def HED_POLICE_DROP_GT : Nat := 0x5020A0
def HED_POLICE_DROP_GD : Nat := 0x5020A8
def HED_POLICE_DROP_AS_BE : Nat := 0x5020B0
def HED_POLICE_DEMOTE : Nat := 0x5020B8
def HED_RECIRC_LIMIT : Nat := 0x5020C0
def HED_STALE_VERSION : Nat := 0x5020C8
def HED_RECIRCULATIONS : Nat := 0x5020D0
def HED_POOL_FULL : Nat := 0x5020D8
def FWD_HIT_ONDIE : Nat := 0x602000
def FWD_HIT_DDR5 : Nat := 0x602008
def FWD_MISS : Nat := 0x602010
def FWD_LEARNED : Nat := 0x602018
def FWD_REFRESH : Nat := 0x602020
def FWD_MOVES : Nat := 0x602028
def FWD_MOVE_FROZEN : Nat := 0x602030
def FWD_FLAPS : Nat := 0x602038
def FWD_LIMIT_PORT : Nat := 0x602040
def FWD_LIMIT_DOMAIN : Nat := 0x602048
def FWD_TABLE_FULL : Nat := 0x602050
def FWD_LEARN_QUEUE_FULL : Nat := 0x602058
def FWD_AGED : Nat := 0x602060
def FWD_AGE_SAVED : Nat := 0x602068
def FWD_PARITY : Nat := 0x602070
def FWD_STATIC_CONFLICT : Nat := 0x602078
def FWD_REFRESH_SKIPPED : Nat := 0x602080
def FWD_GUAR_DST_MISMATCH : Nat := 0x602088
def FWD_SOURCE_GROUP : Nat := 0x602090
def CIPH_ENCRYPTED : Nat := 0x700800
def CIPH_DECRYPTED : Nat := 0x700808
def CIPH_AUTH_FAIL : Nat := 0x700810
def CIPH_AUTH_FAIL_STOMPED : Nat := 0x700818
def CIPH_AUTH_FAIL_DROPPED : Nat := 0x700820
def CIPH_REPLAY_DROP : Nat := 0x700828
def CIPH_SA_MISMATCH : Nat := 0x700830
def CIPH_SA_RETIRED_DROP : Nat := 0x700838
def CIPH_SOFT_LIMIT : Nat := 0x700840
def CIPH_GROWTH_DROP : Nat := 0x700848
def CIPH_CACHE_MISS : Nat := 0x700850
def CIPH_GUAR_SA_VIOLATION : Nat := 0x700858
def CIPH_NOT_APPLIED : Nat := 0x700860
def CIPH_NO_LANE : Nat := 0x700868
def CIPH_ENCAP : Nat := 0x700870
def CIPH_DECAP : Nat := 0x700878
def CIPH_DECAP_CSUM : Nat := 0x700880
def CIPH_GENEVE_CRIT : Nat := 0x700888
def CIPH_ECN_DROP : Nat := 0x700890
def CIPH_ENCAP_IGNORED : Nat := 0x700898
def CIPH_SCRUBBED : Nat := 0x7008A0
def CIPH_ENTROPY_FAIL : Nat := 0x7008A8
def STOR_RX_PDUS : Nat := 0x800800
def STOR_PLACED_BYTES : Nat := 0x800808
def STOR_HDGST_BAD : Nat := 0x800810
def STOR_DDGST_BAD : Nat := 0x800818
def STOR_NOT_PLACED : Nat := 0x800820
def STOR_SYNC_LOST : Nat := 0x800828
def STOR_NO_ENTRY : Nat := 0x800830
def STOR_PLACE_FAULT : Nat := 0x800838
def STOR_CID_CACHE_FULL : Nat := 0x800840
def STOR_TX_PDUS : Nat := 0x800848
def STOR_XTS_ORDER : Nat := 0x800850
def STOR_GUAR_SKIPPED : Nat := 0x800858
def STOR_DUP_SEGMENT : Nat := 0x800860
def STOR_CRC_REPEAT : Nat := 0x800868
def STOR_CRC_SKIP : Nat := 0x800870
def STOR_REFUSED : Nat := 0x800878
def REED_GUAR_FRAMES (p : Nat) : Nat := 0x904000 + 0x80 * p
def REED_AS_COMMITTED_BYTES (p : Nat) : Nat := 0x904008 + 0x80 * p
def REED_AS_EXCESS_BYTES (p : Nat) : Nat := 0x904010 + 0x80 * p
def REED_BE_BYTES (p : Nat) : Nat := 0x904018 + 0x80 * p
def REED_QUEUE_DROP (p : Nat) : Nat := 0x904020 + 0x80 * p
def REED_NO_QUEUE (p : Nat) : Nat := 0x904028 + 0x80 * p
def REED_GATE_WAIT (p : Nat) : Nat := 0x904030 + 0x80 * p
def REED_GATE_OVERSIZE (p : Nat) : Nat := 0x904038 + 0x80 * p
def REED_GATE_OVERRUN (p : Nat) : Nat := 0x904040 + 0x80 * p
def REED_CT_RELEASES (p : Nat) : Nat := 0x904048 + 0x80 * p
def BARB_DISPATCHED : Nat := 0xB00100
def BARB_BUDGET_OVERRUN : Nat := 0xB00108
def BARB_PROGRAM_FAULT : Nat := 0xB00110
def BARB_STALL_EVENTS : Nat := 0xB00118
def BARB_STALL_RESETS : Nat := 0xB00120
def BARB_CORE_RESETS : Nat := 0xB00128
def BARB_RETRIED : Nat := 0xB00130
def BARB_RETRY_FAILED : Nat := 0xB00138
def BARB_DISPATCH_FULL : Nat := 0xB00140
def BARB_LOCK_LEAKED : Nat := 0xB00148
def BARB_CHAN_FULL : Nat := 0xB00150
def BARB_DBG_HALTS : Nat := 0xB00158
def HIF_READ_LATE : Nat := 0x100800
def HIF_LATE_CPL : Nat := 0x100808
def HIF_DISCARD_CPL : Nat := 0x100810
def HIF_CPL_TIMEOUTS : Nat := 0x100818
def HIF_POISON_RX : Nat := 0x100820
def HIF_POISON_TX : Nat := 0x100828
def HIF_XLATE_FAULTS : Nat := 0x100830
def HIF_GUAR_WALK : Nat := 0x100838
def HIF_FN_DROP : Nat := 0x100840
def HIF_DRAIN_DISCARD : Nat := 0x100848
def HIF_DIRTY_OUTSIDE : Nat := 0x100850
def HIF_PEER_UR : Nat := 0x100858
def RING_TX_TAKEN : Nat := 0xC00800
def RING_RX_WRITTEN : Nat := 0xC00808
def RING_CPL_WRITTEN : Nat := 0xC00810
def RING_MALFORMED_DESC : Nat := 0xC00818
def RING_BAD_DOORBELL : Nat := 0xC00820
def RING_PUSH_DISCARD : Nat := 0xC00828
def RING_PUSH_LOST : Nat := 0xC00830
def RING_RX_NO_BUF : Nat := 0xC00838
def RING_RX_TRUNCATED : Nat := 0xC00840
def RING_CPL_STALL : Nat := 0xC00848
def RING_INVALIDATES : Nat := 0xC00850
def RING_RING_ERRORS : Nat := 0xC00858
def RING_MSIX_SENT : Nat := 0xC00860
def RING_LEDGER_TAIL_IGNORED : Nat := 0xC00868
def RING_TX_OVER_MTU : Nat := 0xC00870
def MBOX_USER_SENT : Nat := 0xD00800
def MBOX_DATA_SENT : Nat := 0xD00808
def MBOX_COLLISIONS : Nat := 0xD00810
def MBOX_ABORTS : Nat := 0xD00818
def MBOX_POWER_ERRORS : Nat := 0xD00820
def MOVE_BYTES : Nat := 0xE04000
def MOVE_DESCRIPTORS : Nat := 0xE04008
def MOVE_ERRORS : Nat := 0xE04010
def MOVE_RETRIES : Nat := 0xE04018
def MOVE_KICKS : Nat := 0xE04020
def MOVE_KICK_IDLE : Nat := 0xE04028
def MOVE_PARKS : Nat := 0xE04030
def DRAM_CORRECTED : Nat := 0xF00100
def DRAM_UNCORRECTED : Nat := 0xF00108
def DRAM_MIRROR_SAVED : Nat := 0xF00110
def DRAM_NEIGHBOUR_REFRESH : Nat := 0xF00118
def DRAM_REPAIRS : Nat := 0xF00120
def DRAM_CELL_DROP : Nat := 0xF00128
def DRAM_SHUTTLE_LOST : Nat := 0xF00130
def DRAM_SCRUB_PASSES : Nat := 0xF00138
def FLT_MISMATCHES : Nat := 0x1000800
def FLT_TAKEOVERS : Nat := 0x1000808
def FLT_STANDBY_LOSSES : Nat := 0x1000810
def FLT_TRANSIENT_RETRIES : Nat := 0x1000818
def FLT_SINGLE_RETRIES : Nat := 0x1000820
def FLT_GAPS : Nat := 0x1000828
def FLT_SELF_TEST_FAILS : Nat := 0x1000830
def FLT_SELFTEST_LATE : Nat := 0x1000838
def FLT_SPARES_USED : Nat := 0x1000840
def FLT_UNITS_OUT : Nat := 0x1000848
def FLT_WEAR_MOVES : Nat := 0x1000850
def FLT_PLANNED_SWITCHES : Nat := 0x1000858
def FLT_SWITCH_REFUSED : Nat := 0x1000860
def PWR_RIDE_THROUGHS : Nat := 0x1100200
def PWR_SOURCE_CHANGES : Nat := 0x1100208
def PWR_SHED_BE_ENTRIES : Nat := 0x1100210
def PWR_SHED_AS_ENTRIES : Nat := 0x1100218
def PWR_PHASES_RETIRED : Nat := 0x1100220
def PORT_RX_FRAMES (n : Nat) : Nat := 0x200100 + 0x10000 * n
def PORT_RX_FCS_BAD (n : Nat) : Nat := 0x200108 + 0x10000 * n
def PORT_RX_FEC_CORR (n : Nat) : Nat := 0x200110 + 0x10000 * n
def PORT_RX_FEC_UNCORR (n : Nat) : Nat := 0x200118 + 0x10000 * n
def PORT_RX_SYMBOL_ERR (n : Nat) : Nat := 0x200120 + 0x10000 * n
def PORT_TX_FRAMES (n : Nat) : Nat := 0x200128 + 0x10000 * n
def PORT_TX_UNDERRUN (n : Nat) : Nat := 0x200130 + 0x10000 * n
def PORT_TX_STOMPED (n : Nat) : Nat := 0x200138 + 0x10000 * n
def PORT_TX_DEADLINE_MISS (n : Nat) : Nat := 0x200140 + 0x10000 * n
def PORT_TX_LINKDOWN_DROP (n : Nat) : Nat := 0x200148 + 0x10000 * n
def PORT_TX_LENGTH_DROP (n : Nat) : Nat := 0x200150 + 0x10000 * n
def PORT_PAUSE_WDOG (n : Nat) : Nat := 0x200158 + 0x10000 * n
def PORT_AN_FAIL (n : Nat) : Nat := 0x200160 + 0x10000 * n
def PORT_PRP_DUP_DISCARD (n : Nat) : Nat := 0x200168 + 0x10000 * n
def PORT_PRP_OUT_OF_WINDOW (n : Nat) : Nat := 0x200170 + 0x10000 * n
def PORT_PRP_TABLE_REPLACE (n : Nat) : Nat := 0x200178 + 0x10000 * n
def AB_FIRST : Nat := 0x2F0100
def AB_SECOND_DROP : Nat := 0x2F0108
def AB_GAPS : Nat := 0x2F0110
def AB_GAP_SEQS : Nat := 0x2F0118
def AB_BEHIND : Nat := 0x2F0120
def AB_NO_FIELD : Nat := 0x2F0128
def AB_REWINDS : Nat := 0x2F0130
def HED_MALFORMED (cause : Nat) : Nat := 0x502000 + 8 * cause
def LOOM_MISS (cause : Nat) : Nat := 0xA00100 + 8 * (cause - 1)
def LOOM_SHED : Nat := 0xA00130

end Sys2Proof.Machine.K
end

