-- ==== Sys2Proof/Machine/RegTable.lean ====
section
/-! DEFINITION. The BAR0 registers of the spec, one row per register title: its address in BAR0, its instances
(count and stride), its size in bytes, its reset domain and its fields with their access codes and reset values (R10, R11,
the register tables of every chapter and R452). Rows are written from the register tables of spec/; a reserved field has no row. -/
namespace Sys2Proof.Machine

/-- The access codes of R11 that a register table uses. -/
inductive Access where
  | ro | rw | w1c | wo | rc | sh
  deriving DecidableEq, Repr

/-- The reset domains of R31. -/
inductive ResetDomain where
  | cold | module | function
  deriving DecidableEq, Repr

/-- A Reset entry: a number, the instance number, a list by instance, or a named source (R11: image, fuses, store, …). -/
inductive ResetEntry where
  | const (n : Nat)
  | inst
  | each (l : List Nat)
  | named (source : String)
  deriving DecidableEq, Repr

/-- One field of a register: low bit, width, access code and Reset entry. -/
structure FieldDesc where
  lo : Nat
  width : Nat
  access : Access
  reset : ResetEntry
  deriving DecidableEq, Repr

/-- One register title: name, BAR0 address, instance counts with strides, size in bytes, reset domain, fields. -/
structure RegDesc where
  name : String
  addr : Nat
  dims : List (Nat × Nat)
  size : Nat
  domain : ResetDomain
  fields : List FieldDesc
  /-- read through the snapshot of its block (R10). -/
  latched : Bool := false
  deriving DecidableEq, Repr

/-- The GEN registers. -/
def regsGen : List RegDesc := [
  ⟨"GEN_ID", 0x0, [], 4, .cold, [⟨16, 16, .ro, .const 33856⟩, ⟨8, 8, .ro, .const 1⟩, ⟨4, 4, .ro, .const 2⟩, ⟨0, 4, .ro, .const 1⟩], false⟩,
  ⟨"GEN_RESET_CAUSE", 0x4, [], 4, .cold, [⟨4, 1, .w1c, .const 0⟩, ⟨3, 1, .w1c, .const 0⟩, ⟨2, 1, .w1c, .const 0⟩, ⟨1, 1, .w1c, .const 0⟩, ⟨0, 1, .w1c, .const 1⟩], false⟩,
  ⟨"GEN_RESET", 0x8, [], 4, .module, [⟨16, 16, .wo, .const 0⟩, ⟨0, 1, .wo, .const 0⟩], false⟩
]

/-- The LOOM registers. -/
def regsLoom : List RegDesc := [
  ⟨"LOOM_COMMIT", 0xA00000, [], 4, .module, [⟨1, 1, .wo, .const 0⟩, ⟨0, 1, .wo, .const 0⟩], false⟩,
  ⟨"LOOM_COMMIT_STATUS", 0xA00004, [], 4, .module, [⟨13, 7, .ro, .const 127⟩, ⟨12, 1, .ro, .const 0⟩, ⟨11, 1, .w1c, .const 0⟩, ⟨10, 1, .ro, .const 0⟩, ⟨6, 4, .ro, .named "image"⟩, ⟨2, 4, .ro, .const 0⟩, ⟨0, 2, .ro, .const 0⟩], false⟩,
  ⟨"LOOM_COMMIT_DETAIL", 0xA00008, [], 4, .module, [⟨16, 16, .ro, .const 0⟩, ⟨14, 1, .ro, .const 0⟩, ⟨0, 14, .ro, .const 0⟩], false⟩,
  ⟨"LOOM_COMMIT_LIMIT", 0xA0000C, [], 4, .module, [⟨0, 20, .rw, .const 4000⟩], false⟩,
  ⟨"LOOM_HOST_CEIL_n", 0xA00010, [(2, 0x4)], 4, .module, [⟨16, 14, .sh, .named "image"⟩, ⟨0, 14, .sh, .named "image"⟩], false⟩,
  ⟨"LOOM_SNAPSHOT", 0xA00020, [], 4, .module, [⟨0, 1, .wo, .const 0⟩], false⟩,
  ⟨"LOOM_MISS_INDEX", 0xA00024, [], 4, .module, [⟨16, 16, .rc, .const 0⟩, ⟨8, 8, .rw, .const 0⟩, ⟨0, 8, .ro, .const 0⟩], false⟩,
  ⟨"LOOM_SHED_LAST", 0xA00028, [], 4, .module, [⟨14, 7, .ro, .const 127⟩, ⟨0, 14, .ro, .const 0⟩], false⟩,
  ⟨"LOOM_MISS_CNT_c", 0xA00100, [(5, 0x8)], 8, .module, [⟨0, 64, .ro, .const 0⟩], true⟩,
  ⟨"LOOM_SHED_CNT", 0xA00130, [], 8, .module, [⟨0, 64, .ro, .const 0⟩], true⟩,
  ⟨"LOOM_BOOK_SHARE_n", 0xA01000, [(82, 0x4)], 4, .module, [⟨0, 8, .sh, .const 192⟩], false⟩,
  ⟨"LOOM_BOOK_ALLOT_n", 0xA01200, [(82, 0x4)], 4, .module, [⟨0, 24, .sh, .const 256⟩], false⟩,
  ⟨"LOOM_BOOK_CAP_n", 0xA01400, [(82, 0x4)], 4, .module, [⟨0, 32, .ro, .each [0, 0, 0, 0, 0, 0, 0, 0, 1200, 1200, 1200, 1200, 0, 0, 0, 0, 0, 0, 0, 0, 0, 0, 0, 0, 300, 0, 0, 0, 0, 0, 0, 0, 0, 0, 0, 0, 0, 0, 0, 0, 0, 0, 0, 0, 0, 0, 0, 0, 0, 0, 0, 0, 0, 0, 0, 0, 0, 0, 0, 0, 0, 0, 0, 0, 0, 0, 0, 0, 0, 0, 0, 0, 0, 0, 0, 0, 0, 0, 0, 0, 0, 400]⟩], false⟩,
  ⟨"LOOM_BOOK_USED_n", 0xA01600, [(82, 0x4)], 4, .module, [⟨0, 9, .ro, .const 0⟩], false⟩
]

/-- The PORT registers. -/
def regsPort : List RegDesc := [
  ⟨"PORT_n_CFG", 0x200000, [(9, 0x10000)], 4, .module, [⟨16, 14, .sh, .named "image"⟩, ⟨8, 3, .sh, .named "image"⟩, ⟨6, 2, .sh, .named "image"⟩, ⟨5, 1, .sh, .named "image"⟩, ⟨4, 1, .sh, .named "image"⟩], false⟩,
  ⟨"PORT_n_STATUS", 0x200004, [(9, 0x10000)], 4, .module, [⟨17, 2, .ro, .const 0⟩, ⟨16, 1, .ro, .const 0⟩, ⟨8, 8, .ro, .const 0⟩, ⟨6, 1, .ro, .const 0⟩, ⟨4, 2, .ro, .const 0⟩, ⟨1, 3, .ro, .const 0⟩, ⟨0, 1, .ro, .const 0⟩], false⟩,
  ⟨"PORT_n_EVENT", 0x200008, [(9, 0x10000)], 4, .module, [⟨4, 1, .w1c, .const 0⟩, ⟨3, 1, .w1c, .const 0⟩, ⟨2, 1, .w1c, .const 0⟩, ⟨1, 1, .w1c, .const 0⟩, ⟨0, 1, .w1c, .const 0⟩], false⟩,
  ⟨"PORT_n_PAUSE", 0x20000C, [(9, 0x10000)], 4, .module, [⟨16, 16, .sh, .const 65535⟩, ⟨8, 8, .sh, .const 0⟩, ⟨2, 2, .sh, .const 0⟩, ⟨0, 2, .sh, .const 0⟩], false⟩,
  ⟨"PORT_n_WDOG", 0x200010, [(9, 0x10000)], 4, .module, [⟨20, 12, .rw, .const 10⟩, ⟨0, 20, .rw, .const 2000⟩], false⟩,
  ⟨"PORT_n_CT", 0x200014, [(9, 0x10000)], 4, .module, [⟨16, 16, .sh, .const 4096⟩, ⟨0, 14, .sh, .const 256⟩], false⟩,
  ⟨"PORT_n_PRP", 0x200018, [(9, 0x10000)], 4, .module, [⟨8, 12, .sh, .const 400⟩, ⟨4, 1, .sh, .const 1⟩, ⟨1, 3, .sh, .const 0⟩, ⟨0, 1, .sh, .const 0⟩], false⟩,
  ⟨"PORT_n_SNAPSHOT", 0x20001C, [(9, 0x10000)], 4, .module, [⟨0, 1, .wo, .const 0⟩], false⟩,
  ⟨"PORT_n_PFC_MAP", 0x200020, [(9, 0x10000)], 4, .module, [⟨0, 24, .sh, .const 16434824⟩], false⟩,
  ⟨"PORT_n_CNT_c", 0x200100, [(9, 0x10000), (16, 0x8)], 8, .module, [⟨0, 64, .ro, .const 0⟩], true⟩,
  ⟨"PORT_RCLK_k", 0x2F0000, [(2, 0x4)], 4, .module, [⟨8, 1, .ro, .const 1⟩, ⟨0, 4, .rw, .const 15⟩], false⟩,
  ⟨"PORT_AB_GAP_INDEX", 0x2F0010, [], 4, .module, [⟨16, 16, .rc, .const 0⟩, ⟨8, 8, .rw, .const 0⟩, ⟨0, 8, .ro, .const 0⟩], false⟩,
  ⟨"PORT_AB_SNAPSHOT", 0x2F0014, [], 4, .module, [⟨0, 1, .wo, .const 0⟩], false⟩,
  ⟨"PORT_AB_CNT_c", 0x2F0100, [(7, 0x8)], 8, .module, [⟨0, 64, .ro, .const 0⟩], true⟩
]

/-- The TIME registers. -/
def regsTime : List RegDesc := [
  ⟨"TIME_STATUS", 0x300000, [], 4, .module, [⟨15, 1, .ro, .const 0⟩, ⟨13, 2, .ro, .const 0⟩, ⟨12, 1, .ro, .const 0⟩, ⟨9, 3, .ro, .const 0⟩, ⟨6, 3, .ro, .const 0⟩, ⟨5, 1, .ro, .const 0⟩, ⟨4, 1, .ro, .const 0⟩, ⟨3, 1, .ro, .const 0⟩, ⟨0, 1, .ro, .const 0⟩], false⟩,
  ⟨"TIME_EVENT", 0x300004, [], 4, .module, [⟨10, 1, .w1c, .const 0⟩, ⟨9, 1, .w1c, .const 0⟩, ⟨8, 1, .w1c, .const 0⟩, ⟨7, 1, .w1c, .const 0⟩, ⟨6, 1, .w1c, .const 0⟩, ⟨5, 1, .w1c, .const 0⟩, ⟨4, 1, .w1c, .const 0⟩, ⟨3, 1, .w1c, .const 0⟩, ⟨2, 1, .w1c, .const 0⟩, ⟨1, 1, .w1c, .const 0⟩, ⟨0, 1, .w1c, .const 0⟩], false⟩,
  ⟨"TIME_NOW_CTRL", 0x300008, [], 4, .module, [⟨0, 1, .wo, .const 0⟩], false⟩,
  ⟨"TIME_NOW_FRAC", 0x30000C, [], 4, .module, [⟨0, 16, .ro, .const 0⟩], false⟩,
  ⟨"TIME_NOW_NS", 0x300010, [], 8, .module, [⟨0, 64, .ro, .const 0⟩], false⟩,
  ⟨"TIME_FREQ", 0x300018, [], 8, .module, [⟨0, 39, .rw, .const 0⟩], false⟩,
  ⟨"TIME_STEP_NS", 0x300020, [], 8, .module, [⟨0, 64, .rw, .const 0⟩], false⟩,
  ⟨"TIME_STEP_AT", 0x300028, [], 8, .module, [⟨0, 64, .rw, .const 0⟩], false⟩,
  ⟨"TIME_STEP_CTRL", 0x300030, [], 4, .module, [⟨31, 1, .wo, .const 0⟩, ⟨0, 16, .rw, .const 0⟩], false⟩,
  ⟨"TIME_UTC", 0x300034, [], 4, .module, [⟨17, 1, .rw, .const 0⟩, ⟨16, 1, .rw, .const 0⟩, ⟨0, 16, .rw, .const 37⟩], false⟩,
  ⟨"TIME_PPS_IN_FRAC", 0x300038, [], 4, .module, [⟨0, 16, .ro, .const 0⟩], false⟩,
  ⟨"TIME_PPS_IN_NS", 0x300040, [], 8, .module, [⟨0, 64, .rc, .const 0⟩], false⟩,
  ⟨"TIME_CLK10_PHASE", 0x300048, [], 4, .module, [⟨0, 32, .ro, .const 0⟩], false⟩,
  ⟨"TIME_PPS_OUT_CFG", 0x30004C, [], 4, .module, [⟨22, 10, .rw, .const 1000⟩, ⟨2, 20, .rw, .const 100000⟩, ⟨1, 1, .rw, .const 0⟩, ⟨0, 1, .rw, .const 1⟩], false⟩,
  ⟨"TIME_TOD_CFG", 0x300050, [], 4, .module, [⟨4, 20, .ro, .named "declared"⟩, ⟨2, 2, .rw, .const 2⟩, ⟨1, 1, .rw, .const 1⟩, ⟨0, 1, .ro, .named "declared"⟩], false⟩,
  ⟨"TIME_TOD_RX_INDEX", 0x300054, [], 4, .module, [⟨16, 16, .rc, .const 0⟩, ⟨8, 8, .rw, .const 0⟩, ⟨0, 8, .ro, .const 0⟩], false⟩,
  ⟨"TIME_HOLD", 0x300058, [], 4, .module, [⟨16, 16, .ro, .const 0⟩, ⟨0, 16, .ro, .const 0⟩], false⟩,
  ⟨"TIME_SNAPSHOT", 0x30005C, [], 4, .module, [⟨0, 1, .wo, .const 0⟩], false⟩,
  ⟨"TIME_CNT_c", 0x300100, [(10, 0x8)], 8, .module, [⟨0, 64, .ro, .const 0⟩], true⟩,
  ⟨"TIME_PORT_n_PTP", 0x301000, [(9, 0x40)], 4, .module, [⟨5, 2, .sh, .const 0⟩, ⟨4, 1, .sh, .const 0⟩, ⟨3, 1, .sh, .const 0⟩, ⟨2, 1, .sh, .const 0⟩, ⟨1, 1, .sh, .const 0⟩, ⟨0, 1, .sh, .const 0⟩], false⟩,
  ⟨"TIME_PORT_n_LINK_DELAY", 0x301004, [(9, 0x40)], 4, .module, [⟨0, 32, .rw, .const 0⟩], false⟩,
  ⟨"TIME_PORT_n_COMP", 0x301008, [(9, 0x40)], 4, .module, [⟨16, 16, .ro, .named "per mode"⟩, ⟨0, 16, .ro, .named "per mode"⟩], false⟩,
  ⟨"TIME_PORT_n_TXSTAMP_CTRL", 0x30100C, [(9, 0x40)], 4, .module, [⟨7, 1, .wo, .const 0⟩, ⟨0, 7, .ro, .const 0⟩], false⟩,
  ⟨"TIME_PORT_n_TXSTAMP_NS", 0x301010, [(9, 0x40)], 8, .module, [⟨0, 64, .ro, .const 0⟩], false⟩,
  ⟨"TIME_PORT_n_TXSTAMP_INFO", 0x301018, [(9, 0x40)], 4, .module, [⟨16, 16, .ro, .const 0⟩, ⟨0, 16, .ro, .const 0⟩], false⟩
]

/-- The LEDG registers. -/
def regsLedg : List RegDesc := [
  ⟨"LEDG_CTRL", 0x400000, [], 4, .module, [⟨8, 8, .rw, .const 1⟩, ⟨0, 3, .sh, .const 0⟩], false⟩,
  ⟨"LEDG_STATUS", 0x400004, [], 4, .module, [⟨16, 8, .ro, .const 0⟩, ⟨8, 8, .ro, .const 0⟩, ⟨1, 1, .ro, .const 0⟩, ⟨0, 1, .ro, .const 0⟩], false⟩,
  ⟨"LEDG_EVENT", 0x400008, [], 4, .module, [⟨4, 1, .w1c, .const 0⟩, ⟨3, 1, .w1c, .const 0⟩, ⟨2, 1, .w1c, .const 0⟩, ⟨1, 1, .w1c, .const 0⟩, ⟨0, 1, .w1c, .const 0⟩], false⟩,
  ⟨"LEDG_SEAL_CFG", 0x40000C, [], 4, .module, [⟨0, 20, .sh, .const 1000⟩], false⟩,
  ⟨"LEDG_SEAL_LIMIT", 0x400010, [], 4, .module, [⟨0, 21, .sh, .const 1048576⟩], false⟩,
  ⟨"LEDG_SEAL_NOW", 0x400014, [], 4, .module, [⟨0, 8, .wo, .const 0⟩], false⟩,
  ⟨"LEDG_SNAPSHOT", 0x400018, [], 4, .module, [⟨0, 1, .wo, .const 0⟩], false⟩,
  ⟨"LEDG_KEY_ID", 0x400020, [], 8, .module, [⟨0, 64, .ro, .const 0⟩], false⟩,
  ⟨"LEDG_STREAM_s_CFG", 0x401000, [(8, 0x80)], 4, .module, [⟨17, 12, .sh, .named "image"⟩, ⟨12, 5, .sh, .named "image"⟩, ⟨7, 5, .sh, .named "image"⟩, ⟨2, 5, .sh, .named "image"⟩, ⟨1, 1, .rw, .named "image"⟩, ⟨0, 1, .sh, .named "image"⟩], false⟩,
  ⟨"LEDG_STREAM_s_WATER", 0x401004, [(8, 0x80)], 4, .module, [⟨0, 32, .rw, .const 1048576⟩], false⟩,
  ⟨"LEDG_STREAM_s_RING_BASE", 0x401008, [(8, 0x80)], 8, .module, [⟨0, 64, .sh, .named "image"⟩], false⟩,
  ⟨"LEDG_STREAM_s_HOST_BASE", 0x401010, [(8, 0x80)], 8, .module, [⟨0, 64, .sh, .const 0⟩], false⟩,
  ⟨"LEDG_STREAM_s_MIRROR", 0x401018, [(8, 0x80)], 8, .module, [⟨0, 64, .sh, .const 0⟩], false⟩,
  ⟨"LEDG_STREAM_s_HEAD", 0x401020, [(8, 0x80)], 8, .module, [⟨0, 64, .ro, .const 0⟩], true⟩,
  ⟨"LEDG_STREAM_s_EXPORTED", 0x401028, [(8, 0x80)], 8, .module, [⟨0, 64, .ro, .const 0⟩], true⟩,
  ⟨"LEDG_STREAM_s_HOST_TAIL", 0x401030, [(8, 0x80)], 8, .module, [⟨0, 64, .rw, .const 0⟩], true⟩,
  ⟨"LEDG_STREAM_s_LAST_SEAL", 0x401038, [(8, 0x80)], 8, .module, [⟨0, 64, .ro, .const 0⟩], true⟩,
  ⟨"LEDG_STREAM_s_CNT_c", 0x401040, [(8, 0x80), (6, 0x8)], 8, .module, [⟨0, 64, .ro, .const 0⟩], true⟩
]

/-- The HED registers. -/
def regsHed : List RegDesc := [
  ⟨"HED_VERSION", 0x500000, [], 4, .module, [⟨15, 17, .ro, .const 0⟩, ⟨8, 1, .ro, .const 0⟩, ⟨4, 4, .ro, .const 0⟩, ⟨0, 4, .ro, .named "image"⟩], false⟩,
  ⟨"HED_SHADOW_STATUS", 0x500004, [], 4, .module, [⟨7, 1, .ro, .const 0⟩, ⟨6, 1, .ro, .const 0⟩, ⟨0, 6, .w1c, .const 0⟩], false⟩,
  ⟨"HED_SHADOW_CTRL", 0x500008, [], 4, .module, [⟨0, 1, .wo, .const 0⟩], false⟩,
  ⟨"HED_EVENT", 0x50000C, [], 4, .module, [⟨3, 1, .w1c, .const 0⟩, ⟨2, 1, .w1c, .const 0⟩, ⟨1, 1, .w1c, .const 0⟩, ⟨0, 1, .w1c, .const 0⟩], false⟩,
  ⟨"HED_SNAPSHOT", 0x500010, [], 4, .module, [⟨0, 1, .wo, .const 0⟩], false⟩,
  ⟨"HED_PARSE_CFG", 0x500014, [], 4, .module, [⟨0, 16, .sh, .const 4420⟩], false⟩,
  ⟨"HED_IND_CTRL", 0x500100, [], 4, .module, [⟨16, 1, .ro, .const 0⟩, ⟨12, 4, .ro, .const 0⟩, ⟨7, 1, .rw, .const 0⟩, ⟨4, 3, .rw, .const 0⟩, ⟨1, 3, .rw, .const 0⟩, ⟨0, 1, .wo, .const 0⟩], false⟩,
  ⟨"HED_IND_INDEX", 0x500104, [], 4, .module, [⟨0, 22, .rw, .const 0⟩], false⟩,
  ⟨"HED_PORT_n_CFG", 0x501000, [(11, 0x10)], 4, .module, [⟨24, 8, .sh, .const 0⟩, ⟨6, 3, .sh, .named "image"⟩, ⟨2, 4, .sh, .const 0⟩, ⟨0, 2, .sh, .const 0⟩], false⟩,
  ⟨"HED_PORT_n_DEFAULT", 0x501004, [(11, 0x10)], 4, .module, [⟨0, 20, .sh, .named "image"⟩], false⟩,
  ⟨"HED_PORT_n_EXC", 0x501008, [(11, 0x10)], 4, .module, [⟨0, 20, .sh, .const 0⟩], false⟩,
  ⟨"HED_CNT_c", 0x502000, [(28, 0x8)], 8, .module, [⟨0, 64, .ro, .const 0⟩], true⟩
]

/-- The FWD registers. -/
def regsFwd : List RegDesc := [
  ⟨"FWD_CFG", 0x600000, [], 4, .module, [⟨16, 15, .rw, .const 300⟩, ⟨0, 16, .rw, .const 1000⟩], false⟩,
  ⟨"FWD_LEARN_CFG", 0x600004, [], 4, .module, [⟨8, 16, .rw, .const 1000⟩, ⟨0, 8, .rw, .const 8⟩], false⟩,
  ⟨"FWD_FREEZE", 0x600008, [], 4, .module, [⟨0, 15, .rw, .const 60⟩], false⟩,
  ⟨"FWD_STATUS", 0x60000C, [], 4, .module, [⟨0, 21, .ro, .const 0⟩], false⟩,
  ⟨"FWD_LEARN_STATUS", 0x600010, [], 4, .module, [⟨16, 1, .ro, .const 0⟩, ⟨0, 13, .ro, .const 0⟩], false⟩,
  ⟨"FWD_EVENT", 0x600014, [], 4, .module, [⟨5, 1, .w1c, .const 0⟩, ⟨4, 1, .w1c, .const 0⟩, ⟨3, 1, .w1c, .const 0⟩, ⟨2, 1, .w1c, .const 0⟩, ⟨1, 1, .w1c, .const 0⟩, ⟨0, 1, .w1c, .const 0⟩], false⟩,
  ⟨"FWD_SNAPSHOT", 0x600018, [], 4, .module, [⟨0, 1, .wo, .const 0⟩], false⟩,
  ⟨"FWD_SEED", 0x60001C, [], 4, .module, [⟨16, 16, .ro, .named "random"⟩, ⟨0, 16, .ro, .named "random"⟩], false⟩,
  ⟨"FWD_ONDIE_LEARN", 0x600020, [], 4, .module, [⟨0, 21, .rw, .const 786432⟩], false⟩,
  ⟨"FWD_AGER", 0x600024, [], 4, .module, [⟨0, 14, .rw, .const 1000⟩], false⟩,
  ⟨"FWD_LOG_INDEX", 0x600028, [], 4, .module, [⟨16, 16, .rc, .const 0⟩, ⟨8, 8, .rw, .const 0⟩, ⟨0, 8, .ro, .const 0⟩], false⟩,
  ⟨"FWD_FLUSH", 0x60002C, [], 4, .module, [⟨31, 1, .wo, .const 0⟩, ⟨30, 1, .wo, .const 0⟩, ⟨0, 14, .wo, .const 0⟩], false⟩,
  ⟨"FWD_IND_CTRL", 0x600100, [], 4, .module, [⟨16, 1, .ro, .const 0⟩, ⟨12, 4, .ro, .const 0⟩, ⟨7, 1, .rw, .const 0⟩, ⟨4, 3, .rw, .const 0⟩, ⟨1, 3, .rw, .const 0⟩, ⟨0, 1, .wo, .const 0⟩], false⟩,
  ⟨"FWD_IND_INDEX", 0x600104, [], 4, .module, [⟨0, 23, .rw, .const 0⟩], false⟩,
  ⟨"FWD_PORT_p_LEARN", 0x601000, [(11, 0x8)], 4, .module, [⟨0, 21, .sh, .const 1048576⟩], false⟩,
  ⟨"FWD_PORT_p_COUNT", 0x601004, [(11, 0x8)], 4, .module, [⟨0, 21, .ro, .const 0⟩], false⟩,
  ⟨"FWD_CNT_c", 0x602000, [(19, 0x8)], 8, .module, [⟨0, 64, .ro, .const 0⟩], true⟩
]

/-- The CIPH registers. -/
def regsCiph : List RegDesc := [
  ⟨"CIPH_STATUS", 0x700000, [], 4, .module, [⟨14, 18, .ro, .const 0⟩, ⟨1, 1, .ro, .const 0⟩, ⟨0, 1, .ro, .const 0⟩], false⟩,
  ⟨"CIPH_EVENT", 0x700004, [], 4, .module, [⟨4, 1, .w1c, .const 0⟩, ⟨3, 1, .w1c, .const 0⟩, ⟨2, 1, .w1c, .const 0⟩, ⟨1, 1, .w1c, .const 0⟩, ⟨0, 1, .w1c, .const 0⟩], false⟩,
  ⟨"CIPH_SNAPSHOT", 0x700008, [], 4, .module, [⟨0, 1, .wo, .const 0⟩], false⟩,
  ⟨"CIPH_DRBG_CFG", 0x70000C, [], 4, .module, [⟨0, 16, .rw, .const 1000⟩], false⟩,
  ⟨"CIPH_RNG", 0x700010, [], 4, .module, [⟨0, 32, .ro, .const 0⟩], false⟩,
  ⟨"CIPH_LOG_INDEX", 0x700014, [], 4, .module, [⟨16, 16, .rc, .const 0⟩, ⟨8, 8, .rw, .const 0⟩, ⟨0, 8, .ro, .const 0⟩], false⟩,
  ⟨"CIPH_CACHE_STATUS", 0x700018, [], 4, .module, [⟨0, 15, .ro, .const 0⟩], false⟩,
  ⟨"CIPH_LANE_n_CFG", 0x700100, [(16, 0x4)], 4, .module, [⟨16, 5, .ro, .inst⟩, ⟨8, 1, .ro, .const 0⟩, ⟨7, 1, .rw, .const 1⟩, ⟨5, 2, .rw, .const 3⟩, ⟨0, 3, .sh, .named "image"⟩], false⟩,
  ⟨"CIPH_IND_CTRL", 0x700200, [], 4, .module, [⟨16, 1, .ro, .const 0⟩, ⟨12, 4, .ro, .const 0⟩, ⟨7, 1, .rw, .const 0⟩, ⟨4, 3, .rw, .const 0⟩, ⟨1, 3, .rw, .const 0⟩, ⟨0, 1, .wo, .const 0⟩], false⟩,
  ⟨"CIPH_IND_INDEX", 0x700204, [], 4, .module, [⟨0, 20, .rw, .const 0⟩], false⟩,
  ⟨"CIPH_CNT_c", 0x700800, [(22, 0x8)], 8, .module, [⟨0, 64, .ro, .const 0⟩], true⟩
]

/-- The STOR registers. -/
def regsStor : List RegDesc := [
  ⟨"STOR_EVENT", 0x800000, [], 4, .module, [⟨4, 1, .w1c, .const 0⟩, ⟨3, 1, .w1c, .const 0⟩, ⟨2, 1, .w1c, .const 0⟩, ⟨1, 1, .w1c, .const 0⟩, ⟨0, 1, .w1c, .const 0⟩], false⟩,
  ⟨"STOR_SNAPSHOT", 0x800004, [], 4, .module, [⟨0, 1, .wo, .const 0⟩], false⟩,
  ⟨"STOR_IND_CTRL", 0x800100, [], 4, .module, [⟨16, 1, .ro, .const 0⟩, ⟨12, 4, .ro, .const 0⟩, ⟨1, 3, .rw, .const 0⟩, ⟨0, 1, .wo, .const 0⟩], false⟩,
  ⟨"STOR_IND_INDEX", 0x800104, [], 4, .module, [⟨0, 14, .rw, .const 0⟩], false⟩,
  ⟨"STOR_CNT_c", 0x800800, [(16, 0x8)], 8, .module, [⟨0, 64, .ro, .const 0⟩], true⟩,
  ⟨"STOR_CRC_u_CTRL", 0x801000, [(32, 0x20)], 4, .module, [⟨0, 1, .wo, .const 0⟩], false⟩,
  ⟨"STOR_CRC_u_STATUS", 0x801004, [(32, 0x20)], 4, .module, [⟨16, 16, .ro, .const 0⟩, ⟨14, 2, .ro, .const 0⟩, ⟨12, 2, .ro, .const 0⟩, ⟨11, 1, .ro, .const 0⟩, ⟨4, 7, .ro, .const 0⟩, ⟨3, 1, .ro, .const 0⟩, ⟨2, 1, .w1c, .const 0⟩, ⟨1, 1, .ro, .const 0⟩, ⟨0, 1, .ro, .const 0⟩], false⟩,
  ⟨"STOR_CRC_u_ALIVE", 0x801008, [(32, 0x20)], 4, .module, [⟨24, 8, .ro, .const 0⟩, ⟨16, 8, .ro, .const 0⟩, ⟨8, 8, .ro, .const 0⟩, ⟨2, 6, .ro, .const 0⟩, ⟨1, 1, .ro, .const 0⟩, ⟨0, 1, .ro, .const 0⟩], false⟩,
  ⟨"STOR_CRC_u_RESULT", 0x801010, [(32, 0x20)], 8, .module, [⟨0, 64, .ro, .const 0⟩], false⟩
]

/-- The REED registers. -/
def regsReed : List RegDesc := [
  ⟨"REED_EVENT", 0x900000, [], 4, .module, [⟨5, 1, .w1c, .const 0⟩, ⟨4, 1, .w1c, .const 0⟩, ⟨3, 1, .w1c, .const 0⟩, ⟨2, 1, .w1c, .const 0⟩, ⟨1, 1, .w1c, .const 0⟩, ⟨0, 1, .w1c, .const 0⟩], false⟩,
  ⟨"REED_SNAPSHOT", 0x900004, [], 4, .module, [⟨0, 1, .wo, .const 0⟩], false⟩,
  ⟨"REED_IND_CTRL", 0x900100, [], 4, .module, [⟨16, 1, .ro, .const 0⟩, ⟨12, 4, .ro, .const 0⟩, ⟨7, 1, .rw, .const 0⟩, ⟨4, 3, .rw, .const 0⟩, ⟨1, 3, .rw, .const 0⟩, ⟨0, 1, .wo, .const 0⟩], false⟩,
  ⟨"REED_IND_INDEX", 0x900104, [], 4, .module, [⟨0, 15, .rw, .const 0⟩], false⟩,
  ⟨"REED_PORT_p_CFG", 0x901000, [(11, 0x10)], 4, .module, [⟨16, 1, .sh, .const 0⟩, ⟨0, 14, .sh, .named "image"⟩], false⟩,
  ⟨"REED_PORT_p_STATUS", 0x901004, [(11, 0x10)], 4, .module, [⟨16, 1, .ro, .const 0⟩, ⟨0, 16, .ro, .const 0⟩], false⟩,
  ⟨"REED_TC_p_t", 0x901400, [(11, 0x20), (8, 0x4)], 4, .module, [⟨20, 12, .sh, .const 64⟩, ⟨0, 20, .sh, .const 0⟩], false⟩,
  ⟨"REED_GATE_n_CFG", 0x902000, [(8, 0x40)], 4, .module, [⟨1, 10, .sh, .const 0⟩, ⟨0, 1, .sh, .const 0⟩], false⟩,
  ⟨"REED_GATE_n_CYCLE", 0x902004, [(8, 0x40)], 4, .module, [⟨0, 32, .sh, .const 1000000⟩], false⟩,
  ⟨"REED_GATE_n_BASE", 0x902008, [(8, 0x40)], 8, .module, [⟨0, 64, .sh, .const 0⟩], false⟩,
  ⟨"REED_GATE_n_STATUS", 0x902010, [(8, 0x40)], 4, .module, [⟨24, 1, .ro, .const 0⟩, ⟨16, 8, .ro, .const 255⟩, ⟨0, 10, .ro, .const 0⟩], false⟩,
  ⟨"REED_GATE_n_START", 0x902018, [(8, 0x40)], 8, .module, [⟨0, 64, .ro, .const 0⟩], false⟩,
  ⟨"REED_PORT_p_CNT_c", 0x904000, [(11, 0x80), (10, 0x8)], 8, .module, [⟨0, 64, .ro, .const 0⟩], true⟩
]

/-- The BARB registers. -/
def regsBarb : List RegDesc := [
  ⟨"BARB_EVENT", 0xB00000, [], 4, .module, [⟨6, 1, .w1c, .const 0⟩, ⟨5, 1, .w1c, .const 0⟩, ⟨4, 1, .w1c, .const 0⟩, ⟨3, 1, .w1c, .const 0⟩, ⟨2, 1, .w1c, .const 0⟩, ⟨1, 1, .w1c, .const 0⟩, ⟨0, 1, .w1c, .const 0⟩], false⟩,
  ⟨"BARB_SNAPSHOT", 0xB00004, [], 4, .module, [⟨0, 1, .wo, .const 0⟩], false⟩,
  ⟨"BARB_LOG_INDEX", 0xB00008, [], 4, .module, [⟨16, 16, .rc, .const 0⟩, ⟨8, 8, .rw, .const 0⟩, ⟨0, 8, .ro, .const 0⟩], false⟩,
  ⟨"BARB_DBG_STATUS", 0xB0000C, [], 4, .module, [⟨1, 1, .ro, .const 0⟩, ⟨0, 1, .ro, .const 0⟩], false⟩,
  ⟨"BARB_LOCK_QUERY", 0xB00010, [], 4, .module, [⟨0, 12, .rw, .const 0⟩], false⟩,
  ⟨"BARB_LOCK_OWNER", 0xB00014, [], 4, .module, [⟨31, 1, .ro, .const 0⟩, ⟨30, 1, .ro, .const 0⟩, ⟨22, 3, .ro, .const 0⟩, ⟨16, 6, .ro, .const 0⟩, ⟨0, 10, .ro, .const 0⟩], false⟩,
  ⟨"BARB_CNT_c", 0xB00100, [(12, 0x8)], 8, .module, [⟨0, 64, .ro, .const 0⟩], true⟩,
  ⟨"BARB_IND_CTRL", 0xB00200, [], 4, .module, [⟨16, 1, .ro, .const 0⟩, ⟨12, 4, .ro, .const 0⟩, ⟨7, 1, .rw, .const 0⟩, ⟨4, 3, .rw, .const 0⟩, ⟨1, 3, .rw, .const 0⟩, ⟨0, 1, .wo, .const 0⟩], false⟩,
  ⟨"BARB_IND_INDEX", 0xB00204, [], 4, .module, [⟨0, 16, .rw, .const 0⟩], false⟩,
  ⟨"BARB_CORE_n_CFG", 0xB02000, [(64, 0x40)], 4, .module, [⟨16, 7, .ro, .inst⟩, ⟨0, 1, .ro, .each [1, 1, 1, 1, 1, 1, 1, 1]⟩], false⟩,
  ⟨"BARB_CORE_n_STATUS", 0xB02004, [(64, 0x40)], 4, .module, [⟨16, 7, .ro, .const 0⟩, ⟨0, 16, .ro, .const 0⟩], false⟩,
  ⟨"BARB_CORE_n_SLOT_LO", 0xB02008, [(64, 0x40)], 4, .module, [⟨0, 32, .sh, .named "image"⟩], false⟩,
  ⟨"BARB_CORE_n_SLOT_HI", 0xB0200C, [(64, 0x40)], 4, .module, [⟨0, 32, .sh, .named "image"⟩], false⟩,
  ⟨"BARB_CORE_n_POOL", 0xB02010, [(64, 0x40)], 4, .module, [⟨8, 8, .sh, .named "image"⟩, ⟨0, 8, .sh, .named "image"⟩], false⟩,
  ⟨"BARB_CORE_n_CTRL", 0xB02014, [(64, 0x40)], 4, .module, [⟨16, 16, .wo, .const 0⟩, ⟨0, 1, .wo, .const 0⟩], false⟩,
  ⟨"BARB_CORE_n_DBG", 0xB02018, [(64, 0x40)], 4, .module, [⟨24, 8, .ro, .const 0⟩, ⟨16, 8, .wo, .const 0⟩, ⟨8, 8, .wo, .const 0⟩, ⟨0, 8, .wo, .const 0⟩], false⟩,
  ⟨"BARB_CORE_n_DBG_SEL", 0xB0201C, [(64, 0x40)], 4, .module, [⟨4, 6, .rw, .const 0⟩, ⟨0, 3, .rw, .const 0⟩], false⟩,
  ⟨"BARB_CORE_n_DBG_DATA", 0xB02020, [(64, 0x40)], 8, .module, [⟨0, 64, .rw, .const 0⟩], false⟩
]

/-- The HIF registers. -/
def regsHif : List RegDesc := [
  ⟨"HIF_LINK_n_STATUS", 0x100000, [(2, 0x4)], 4, .module, [⟨16, 16, .rc, .const 0⟩, ⟨12, 1, .ro, .named "declared"⟩, ⟨11, 1, .ro, .const 0⟩, ⟨6, 5, .ro, .const 0⟩, ⟨2, 4, .ro, .const 0⟩, ⟨1, 1, .ro, .named "declared"⟩, ⟨0, 1, .ro, .const 0⟩], false⟩,
  ⟨"HIF_EVENT", 0x100008, [], 4, .module, [⟨5, 1, .w1c, .const 0⟩, ⟨4, 1, .w1c, .const 0⟩, ⟨3, 1, .w1c, .const 0⟩, ⟨2, 1, .w1c, .const 0⟩, ⟨1, 1, .w1c, .const 0⟩, ⟨0, 1, .w1c, .const 0⟩], false⟩,
  ⟨"HIF_SNAPSHOT", 0x10000C, [], 4, .module, [⟨0, 1, .wo, .const 0⟩], false⟩,
  ⟨"HIF_PEER_CFG", 0x100010, [], 4, .module, [⟨2, 5, .rw, .const 20⟩, ⟨1, 1, .rw, .const 0⟩, ⟨0, 1, .rw, .const 0⟩], false⟩,
  ⟨"HIF_PEER_BASE", 0x100018, [], 8, .module, [⟨0, 64, .rw, .const 0⟩], false⟩,
  ⟨"HIF_PEER_CTRL", 0x100020, [], 4, .module, [⟨8, 8, .ro, .const 0⟩, ⟨3, 1, .w1c, .const 0⟩, ⟨2, 1, .ro, .const 0⟩, ⟨1, 1, .ro, .const 1⟩, ⟨0, 1, .wo, .const 0⟩], false⟩,
  ⟨"HIF_FN_CTRL", 0x100040, [], 4, .module, [⟨8, 12, .wo, .const 0⟩, ⟨1, 3, .wo, .const 0⟩, ⟨0, 1, .wo, .const 0⟩], false⟩,
  ⟨"HIF_FN_STATUS", 0x100044, [], 4, .module, [⟨16, 1, .ro, .const 0⟩, ⟨12, 4, .ro, .const 0⟩, ⟨0, 12, .ro, .const 0⟩], false⟩,
  ⟨"HIF_FN_ADDR", 0x100048, [], 8, .module, [⟨0, 64, .rw, .const 0⟩], false⟩,
  ⟨"HIF_FN_LEN", 0x100050, [], 4, .module, [⟨0, 32, .rw, .const 0⟩], false⟩,
  ⟨"HIF_FN_QUERY", 0x100054, [], 4, .module, [⟨20, 4, .ro, .const 0⟩, ⟨19, 1, .ro, .const 0⟩, ⟨18, 1, .ro, .const 0⟩, ⟨0, 12, .rw, .const 0⟩], false⟩,
  ⟨"HIF_QUIESCE_LIMIT", 0x100058, [], 4, .module, [⟨0, 20, .rw, .const 1000⟩], false⟩,
  ⟨"HIF_XLATE_INV", 0x100060, [], 4, .module, [⟨31, 1, .wo, .const 0⟩, ⟨30, 1, .ro, .const 0⟩, ⟨29, 1, .ro, .const 0⟩, ⟨12, 17, .wo, .const 0⟩, ⟨0, 12, .wo, .const 0⟩], false⟩,
  ⟨"HIF_XLATE_INV_ADDR", 0x100068, [], 8, .module, [⟨0, 64, .rw, .const 0⟩], false⟩,
  ⟨"HIF_XLATE_LOG_INDEX", 0x100070, [], 4, .module, [⟨16, 16, .rc, .const 0⟩, ⟨8, 8, .rw, .const 0⟩, ⟨0, 8, .ro, .const 0⟩], false⟩,
  ⟨"HIF_DIRTY_k_CFG", 0x100100, [(4, 0x40)], 4, .module, [⟨31, 1, .rw, .const 0⟩, ⟨30, 1, .wo, .const 0⟩, ⟨29, 1, .ro, .const 0⟩, ⟨28, 1, .ro, .const 0⟩, ⟨27, 1, .ro, .const 0⟩, ⟨0, 12, .rw, .const 0⟩], false⟩,
  ⟨"HIF_DIRTY_k_IOVA", 0x100108, [(4, 0x40)], 8, .module, [⟨0, 64, .rw, .const 0⟩], false⟩,
  ⟨"HIF_DIRTY_k_PAGES", 0x100110, [(4, 0x40)], 4, .module, [⟨0, 32, .rw, .const 0⟩], false⟩,
  ⟨"HIF_DIRTY_k_BMP0", 0x100118, [(4, 0x40)], 8, .module, [⟨0, 64, .rw, .const 0⟩], false⟩,
  ⟨"HIF_DIRTY_k_BMP1", 0x100120, [(4, 0x40)], 8, .module, [⟨0, 64, .rw, .const 0⟩], false⟩,
  ⟨"HIF_CNT_c", 0x100800, [(12, 0x8)], 8, .module, [⟨0, 64, .ro, .const 0⟩], true⟩,
  ⟨"HIF_IND_CTRL", 0x100200, [], 4, .module, [⟨16, 1, .ro, .const 0⟩, ⟨12, 4, .ro, .const 0⟩, ⟨7, 1, .rw, .const 0⟩, ⟨4, 3, .rw, .const 0⟩, ⟨1, 3, .rw, .const 0⟩, ⟨0, 1, .wo, .const 0⟩], false⟩,
  ⟨"HIF_IND_INDEX", 0x100204, [], 4, .module, [⟨0, 12, .rw, .const 0⟩], false⟩
]

/-- The RING registers. -/
def regsRing : List RegDesc := [
  ⟨"RING_EVENT", 0xC00000, [], 4, .module, [⟨4, 1, .w1c, .const 0⟩, ⟨3, 1, .w1c, .const 0⟩, ⟨2, 1, .w1c, .const 0⟩, ⟨1, 1, .w1c, .const 0⟩, ⟨0, 1, .w1c, .const 0⟩], false⟩,
  ⟨"RING_SNAPSHOT", 0xC00004, [], 4, .module, [⟨0, 1, .wo, .const 0⟩], false⟩,
  ⟨"RING_LOG_INDEX", 0xC00008, [], 4, .module, [⟨16, 16, .rc, .const 0⟩, ⟨8, 8, .rw, .const 0⟩, ⟨0, 8, .ro, .const 0⟩], false⟩,
  ⟨"RING_CACHE", 0xC0000C, [], 4, .module, [⟨16, 13, .ro, .const 0⟩, ⟨0, 16, .ro, .const 0⟩], false⟩,
  ⟨"RING_IND_CTRL", 0xC00100, [], 4, .module, [⟨16, 1, .ro, .const 0⟩, ⟨12, 4, .ro, .const 0⟩, ⟨7, 1, .rw, .const 0⟩, ⟨4, 3, .rw, .const 0⟩, ⟨1, 3, .rw, .const 0⟩, ⟨0, 1, .wo, .const 0⟩], false⟩,
  ⟨"RING_IND_INDEX", 0xC00104, [], 4, .module, [⟨0, 14, .rw, .const 0⟩], false⟩,
  ⟨"RING_CNT_c", 0xC00800, [(15, 0x8)], 8, .module, [⟨0, 64, .ro, .const 0⟩], true⟩
]

/-- The MBOX registers. -/
def regsMbox : List RegDesc := [
  ⟨"MBOX_EVENT", 0xD00000, [], 4, .module, [⟨3, 1, .w1c, .const 0⟩, ⟨2, 1, .w1c, .const 0⟩, ⟨1, 1, .w1c, .const 0⟩, ⟨0, 1, .w1c, .const 0⟩], false⟩,
  ⟨"MBOX_MGR_CFG", 0xD00004, [], 4, .module, [⟨16, 1, .rw, .const 0⟩, ⟨0, 11, .rw, .const 0⟩], false⟩,
  ⟨"MBOX_SNAPSHOT", 0xD00008, [], 4, .module, [⟨0, 1, .wo, .const 0⟩], false⟩,
  ⟨"MBOX_USER_SEL", 0xD0000C, [], 4, .module, [⟨0, 12, .rw, .const 0⟩], false⟩,
  ⟨"MBOX_USER_STATUS", 0xD00010, [], 4, .module, [⟨5, 1, .w1c, .const 0⟩, ⟨4, 1, .w1c, .const 0⟩, ⟨3, 1, .w1c, .const 0⟩, ⟨2, 1, .w1c, .const 0⟩, ⟨1, 1, .ro, .const 0⟩, ⟨0, 1, .ro, .const 0⟩], false⟩,
  ⟨"MBOX_CNT_c", 0xD00800, [(5, 0x8)], 8, .module, [⟨0, 64, .ro, .const 0⟩], true⟩,
  ⟨"MBOX_DATA_m_BIND", 0xD01000, [(256, 0x4)], 4, .module, [⟨19, 1, .ro, .const 0⟩, ⟨18, 1, .ro, .const 0⟩, ⟨17, 1, .ro, .const 0⟩, ⟨16, 1, .ro, .named "image"⟩, ⟨8, 7, .ro, .named "image"⟩, ⟨0, 7, .ro, .named "image"⟩], false⟩
]

/-- The MOVE registers. -/
def regsMove : List RegDesc := [
  ⟨"MOVE_EVENT", 0xE00000, [], 4, .module, [⟨2, 1, .w1c, .const 0⟩, ⟨1, 1, .w1c, .const 0⟩, ⟨0, 1, .w1c, .const 0⟩], false⟩,
  ⟨"MOVE_SNAPSHOT", 0xE00004, [], 4, .module, [⟨0, 1, .wo, .const 0⟩], false⟩,
  ⟨"MOVE_LOG_INDEX", 0xE00008, [], 4, .module, [⟨16, 16, .rc, .const 0⟩, ⟨8, 8, .rw, .const 0⟩, ⟨0, 8, .ro, .const 0⟩], false⟩,
  ⟨"MOVE_CH_n_CFG", 0xE01000, [(32, 0x80)], 4, .module, [⟨30, 2, .ro, .named "image"⟩, ⟨29, 1, .rw, .const 0⟩, ⟨27, 2, .rw, .const 0⟩, ⟨18, 9, .rw, .const 0⟩, ⟨10, 8, .rw, .const 0⟩, ⟨7, 3, .rw, .const 6⟩, ⟨6, 1, .rw, .const 0⟩, ⟨5, 1, .rw, .const 0⟩, ⟨4, 1, .rw, .const 0⟩], false⟩,
  ⟨"MOVE_CH_n_CTRL", 0xE01004, [(32, 0x80)], 4, .module, [⟨2, 1, .wo, .const 0⟩, ⟨1, 1, .wo, .const 0⟩, ⟨0, 1, .wo, .const 0⟩], false⟩,
  ⟨"MOVE_CH_n_STATUS", 0xE01008, [(32, 0x80)], 4, .module, [⟨24, 8, .ro, .const 0⟩, ⟨20, 4, .ro, .const 0⟩, ⟨19, 1, .ro, .const 0⟩, ⟨18, 1, .ro, .const 0⟩, ⟨0, 3, .ro, .const 0⟩], false⟩,
  ⟨"MOVE_CH_n_CFG2", 0xE0100C, [(32, 0x80)], 4, .module, [⟨0, 12, .rw, .const 0⟩], false⟩,
  ⟨"MOVE_CH_n_CHAIN", 0xE01010, [(32, 0x80)], 8, .module, [⟨0, 64, .rw, .const 0⟩], false⟩,
  ⟨"MOVE_CH_n_MIRROR", 0xE01018, [(32, 0x80)], 8, .module, [⟨0, 64, .rw, .const 0⟩], false⟩,
  ⟨"MOVE_CH_n_SRC_CIRC", 0xE01020, [(32, 0x80)], 8, .module, [⟨12, 52, .rw, .const 0⟩, ⟨0, 5, .rw, .const 12⟩], false⟩,
  ⟨"MOVE_CH_n_DST_CIRC", 0xE01028, [(32, 0x80)], 8, .module, [⟨12, 52, .rw, .const 0⟩, ⟨0, 5, .rw, .const 12⟩], false⟩,
  ⟨"MOVE_CH_n_DONE", 0xE01030, [(32, 0x80)], 8, .module, [⟨0, 64, .ro, .const 0⟩], false⟩,
  ⟨"MOVE_CNT_c", 0xE04000, [(7, 0x8)], 8, .module, [⟨0, 64, .ro, .const 0⟩], true⟩
]

/-- The DRAM registers. -/
def regsDram : List RegDesc := [
  ⟨"DRAM_STATUS", 0xF00000, [], 4, .module, [⟨4, 2, .ro, .const 0⟩, ⟨0, 4, .ro, .const 0⟩], false⟩,
  ⟨"DRAM_EVENT", 0xF00004, [], 4, .module, [⟨4, 1, .w1c, .const 0⟩, ⟨3, 1, .w1c, .const 0⟩, ⟨2, 1, .w1c, .const 0⟩, ⟨1, 1, .w1c, .const 0⟩, ⟨0, 1, .w1c, .const 0⟩], false⟩,
  ⟨"DRAM_SNAPSHOT", 0xF00008, [], 4, .module, [⟨0, 1, .wo, .const 0⟩], false⟩,
  ⟨"DRAM_NEIGHBOUR", 0xF0000C, [], 4, .module, [⟨0, 4, .rw, .const 10⟩], false⟩,
  ⟨"DRAM_SCRUB", 0xF00010, [], 4, .module, [⟨16, 16, .rw, .const 4⟩, ⟨0, 8, .rw, .const 24⟩], false⟩,
  ⟨"DRAM_HINT", 0xF00014, [], 4, .module, [⟨1, 1, .rw, .const 0⟩, ⟨0, 1, .rw, .const 1⟩], false⟩,
  ⟨"DRAM_PBUF_CFG", 0xF00018, [], 4, .module, [⟨0, 4, .sh, .named "image"⟩], false⟩,
  ⟨"DRAM_LOG_INDEX", 0xF0001C, [], 4, .module, [⟨16, 16, .rc, .const 0⟩, ⟨8, 8, .rw, .const 0⟩, ⟨0, 8, .ro, .const 0⟩], false⟩,
  ⟨"DRAM_PEER_AREA", 0xF00020, [], 8, .module, [⟨30, 34, .ro, .named "image"⟩, ⟨0, 5, .ro, .named "image"⟩], false⟩,
  ⟨"DRAM_CNT_c", 0xF00100, [(8, 0x8)], 8, .module, [⟨0, 64, .ro, .const 0⟩], true⟩
]

/-- The FLT registers. -/
def regsFlt : List RegDesc := [
  ⟨"FLT_HEALTH", 0x1000000, [], 4, .module, [⟨24, 1, .ro, .const 0⟩, ⟨23, 1, .ro, .const 0⟩, ⟨22, 1, .ro, .const 0⟩, ⟨21, 1, .ro, .const 0⟩, ⟨19, 2, .ro, .const 2⟩, ⟨17, 2, .ro, .const 2⟩, ⟨15, 2, .ro, .const 2⟩, ⟨12, 3, .ro, .const 4⟩, ⟨9, 3, .ro, .const 0⟩, ⟨6, 3, .ro, .const 0⟩, ⟨5, 1, .ro, .const 0⟩, ⟨4, 1, .ro, .const 0⟩, ⟨2, 2, .ro, .const 1⟩, ⟨0, 2, .ro, .const 0⟩], false⟩,
  ⟨"FLT_CLAIM_s", 0x1000004, [(3, 0x4)], 4, .module, [⟨0, 32, .ro, .named "side"⟩], false⟩,
  ⟨"FLT_SIDE_s", 0x1000010, [(3, 0x4)], 4, .module, [⟨8, 8, .ro, .const 0⟩, ⟨0, 3, .ro, .each [1, 2, 0]⟩], false⟩,
  ⟨"FLT_PEND", 0x1000020, [], 4, .module, [⟨1, 31, .w1c, .const 0⟩], false⟩,
  ⟨"FLT_MASK", 0x1000024, [], 4, .module, [⟨1, 31, .rw, .const 17473⟩], false⟩,
  ⟨"FLT_CTRL", 0x1000028, [], 4, .module, [⟨16, 16, .wo, .const 0⟩, ⟨2, 2, .wo, .const 0⟩, ⟨1, 1, .wo, .const 0⟩, ⟨0, 1, .wo, .const 0⟩], false⟩,
  ⟨"FLT_WEAR", 0x100002C, [], 4, .module, [⟨0, 8, .rw, .const 40⟩], false⟩,
  ⟨"FLT_SELFTEST", 0x1000030, [], 4, .module, [⟨0, 16, .rw, .const 100⟩], false⟩,
  ⟨"FLT_LOG_INDEX", 0x1000034, [], 4, .module, [⟨16, 16, .rc, .const 0⟩, ⟨8, 8, .rw, .const 0⟩, ⟨0, 8, .ro, .const 0⟩], false⟩,
  ⟨"FLT_SNAPSHOT", 0x1000038, [], 4, .module, [⟨0, 1, .wo, .const 0⟩], false⟩,
  ⟨"FLT_POLICY_1", 0x1000104, [], 4, .module, [⟨8, 24, .ro, .const 1⟩, ⟨0, 8, .ro, .const 2⟩], false⟩,
  ⟨"FLT_POLICY_k", 0x1000108, [(5, 0x4)], 4, .module, [⟨8, 24, .rw, .each [10, 1, 10, 86400, 86400]⟩, ⟨0, 8, .rw, .each [3, 3, 3, 2, 2]⟩], false⟩,
  ⟨"FLT_CNT_c", 0x1000800, [(13, 0x8)], 8, .module, [⟨0, 64, .ro, .const 0⟩], true⟩
]

/-- The BOOT registers. -/
def regsBoot : List RegDesc := [
  ⟨"BOOT_STATUS", 0x1200000, [], 4, .module, [⟨18, 7, .ro, .named "fuses"⟩, ⟨11, 7, .ro, .named "image"⟩, ⟨8, 3, .ro, .const 0⟩, ⟨7, 1, .ro, .named "fuses"⟩, ⟨6, 1, .ro, .const 0⟩, ⟨5, 1, .ro, .named "strap"⟩, ⟨4, 1, .ro, .const 0⟩, ⟨2, 2, .ro, .const 0⟩, ⟨0, 2, .ro, .const 0⟩], false⟩,
  ⟨"BOOT_EVENT", 0x1200004, [], 4, .module, [⟨2, 1, .w1c, .const 0⟩, ⟨1, 1, .w1c, .const 0⟩, ⟨0, 1, .w1c, .const 0⟩], false⟩,
  ⟨"BOOT_CTRL", 0x1200008, [], 4, .module, [⟨16, 16, .wo, .const 0⟩, ⟨15, 1, .ro, .const 0⟩, ⟨11, 4, .ro, .const 0⟩, ⟨1, 4, .rw, .const 0⟩, ⟨0, 1, .wo, .const 0⟩], false⟩,
  ⟨"BOOT_ADDR", 0x120000C, [], 4, .module, [⟨0, 27, .rw, .const 0⟩], false⟩,
  ⟨"BOOT_ARG", 0x1200010, [], 4, .module, [⟨0, 7, .rw, .const 0⟩], false⟩,
  ⟨"BOOT_SLOT_s", 0x1200014, [(3, 0x4)], 4, .module, [⟨12, 1, .ro, .named "store"⟩, ⟨11, 1, .ro, .named "store"⟩, ⟨10, 1, .ro, .const 0⟩, ⟨0, 7, .ro, .named "flash"⟩], false⟩,
  ⟨"BOOT_COUNT", 0x1200020, [], 8, .module, [⟨0, 64, .ro, .named "store"⟩], false⟩,
  ⟨"BOOT_IMAGE_VERSION", 0x1200028, [], 8, .module, [⟨0, 64, .ro, .named "image"⟩], false⟩,
  ⟨"BOOT_DEBUG_NONCE", 0x1200030, [], 8, .module, [⟨0, 64, .ro, .const 0⟩], false⟩,
  ⟨"BOOT_DEBUG_CTRL", 0x1200038, [], 4, .module, [⟨0, 1, .wo, .const 0⟩], false⟩
]

/-- The PWR registers. -/
def regsPwr : List RegDesc := [
  ⟨"PWR_STATUS", 0x1100000, [], 4, .cold, [⟨7, 1, .ro, .const 0⟩, ⟨5, 2, .ro, .const 0⟩, ⟨3, 2, .ro, .named "none"⟩, ⟨2, 1, .ro, .named "none"⟩, ⟨1, 1, .ro, .named "none"⟩], false⟩,
  ⟨"PWR_EVENT", 0x1100004, [], 4, .cold, [⟨5, 1, .w1c, .const 0⟩, ⟨4, 1, .w1c, .const 0⟩, ⟨3, 1, .w1c, .const 0⟩, ⟨2, 1, .w1c, .const 0⟩, ⟨1, 1, .w1c, .const 0⟩, ⟨0, 1, .w1c, .const 0⟩], false⟩,
  ⟨"PWR_SNAPSHOT", 0x1100008, [], 4, .cold, [⟨0, 1, .wo, .const 0⟩], false⟩,
  ⟨"PWR_VIN_A", 0x110000C, [], 4, .cold, [⟨16, 16, .ro, .const 0⟩, ⟨0, 16, .ro, .const 0⟩], false⟩,
  ⟨"PWR_VIN_B", 0x1100010, [], 4, .cold, [⟨16, 16, .ro, .const 0⟩, ⟨0, 16, .ro, .const 0⟩], false⟩,
  ⟨"PWR_POWER", 0x1100014, [], 4, .cold, [⟨0, 20, .ro, .const 0⟩], false⟩,
  ⟨"PWR_TEMP", 0x1100018, [], 4, .cold, [⟨16, 16, .ro, .const 0⟩, ⟨0, 16, .ro, .const 0⟩], false⟩,
  ⟨"PWR_THERM_CFG", 0x110001C, [], 4, .module, [⟨16, 8, .rw, .const 64⟩, ⟨8, 8, .rw, .const 2⟩, ⟨0, 8, .rw, .const 5⟩], false⟩,
  ⟨"PWR_LAST_OFF", 0x1100020, [], 4, .cold, [⟨0, 4, .ro, .named "store"⟩], false⟩,
  ⟨"PWR_HOLDOFF_k", 0x1100040, [(5, 0x4)], 4, .module, [⟨0, 14, .rw, .const 100⟩], false⟩,
  ⟨"PWR_RAIL_r", 0x1100080, [(12, 0x4)], 4, .cold, [⟨8, 8, .ro, .const 2⟩, ⟨4, 4, .ro, .const 2⟩, ⟨0, 4, .ro, .named "store"⟩], false⟩,
  ⟨"PWR_ENERGY", 0x1100100, [], 8, .cold, [⟨0, 64, .ro, .const 0⟩], true⟩,
  ⟨"PWR_CNT_c", 0x1100200, [(5, 0x8)], 8, .cold, [⟨0, 64, .ro, .const 0⟩], true⟩
]

/-- A window of BAR0: first address, size in bytes, whether the host may write it (RW), its fields SH, or read it (WO). -/
structure WinDesc where
  name : String
  addr : Nat
  size : Nat
  access : Access
  domain : ResetDomain
  deriving DecidableEq, Repr

/-- The windows of BAR0. -/
def windows : List WinDesc := [
  ⟨"LOOM_MISS", 0xA02000, 4096, .ro, .module⟩,
  ⟨"LOOM_ENV", 0xA80000, 524288, .sh, .module⟩,
  ⟨"PORT_AB_GROUP", 0x2F1000, 8192, .sh, .module⟩,
  ⟨"PORT_AB_GAP", 0x2F8000, 8192, .ro, .module⟩,
  ⟨"TIME_TOD_RX", 0x302000, 256, .ro, .module⟩,
  ⟨"LEDG_PUBKEY", 0x400040, 32, .ro, .module⟩,
  ⟨"LEDG_PROFILE", 0x408000, 1024, .sh, .module⟩,
  ⟨"HED_IND_DATA", 0x500200, 256, .rw, .module⟩,
  ⟨"FWD_IND_DATA", 0x600200, 32, .rw, .module⟩,
  ⟨"FWD_LOG", 0x603000, 4096, .ro, .module⟩,
  ⟨"CIPH_IND_DATA", 0x700300, 256, .rw, .module⟩,
  ⟨"CIPH_KEY", 0x700400, 64, .wo, .module⟩,
  ⟨"CIPH_LOG", 0x701000, 4096, .ro, .module⟩,
  ⟨"STOR_IND_DATA", 0x800200, 32, .rw, .module⟩,
  ⟨"REED_IND_DATA", 0x900200, 32, .rw, .module⟩,
  ⟨"REED_GATE_0", 0x910000, 8192, .sh, .module⟩,
  ⟨"REED_GATE_1", 0x912000, 8192, .sh, .module⟩,
  ⟨"REED_GATE_2", 0x914000, 8192, .sh, .module⟩,
  ⟨"REED_GATE_3", 0x916000, 8192, .sh, .module⟩,
  ⟨"REED_GATE_4", 0x918000, 8192, .sh, .module⟩,
  ⟨"REED_GATE_5", 0x91A000, 8192, .sh, .module⟩,
  ⟨"REED_GATE_6", 0x91C000, 8192, .sh, .module⟩,
  ⟨"REED_GATE_7", 0x91E000, 8192, .sh, .module⟩,
  ⟨"BARB_IND_DATA", 0xB00240, 16, .rw, .module⟩,
  ⟨"BARB_LOG", 0xB00800, 4096, .ro, .module⟩,
  ⟨"HIF_IND_DATA", 0x100240, 64, .rw, .module⟩,
  ⟨"HIF_MIG_KEY", 0x100400, 32, .wo, .module⟩,
  ⟨"HIF_XLATE_LOG", 0x101000, 4096, .ro, .module⟩,
  ⟨"RING_IND_DATA", 0xC00200, 64, .rw, .module⟩,
  ⟨"RING_LOG", 0xC01000, 4096, .ro, .module⟩,
  ⟨"MBOX_USER_UP", 0xD00040, 64, .ro, .function⟩,
  ⟨"MBOX_USER_DOWN", 0xD00080, 64, .wo, .function⟩,
  ⟨"MBOX_USER_PEND", 0xD00400, 512, .ro, .module⟩,
  ⟨"MOVE_CH_0_DESC", 0xE01040, 32, .rw, .module⟩,
  ⟨"MOVE_CH_1_DESC", 0xE010C0, 32, .rw, .module⟩,
  ⟨"MOVE_CH_2_DESC", 0xE01140, 32, .rw, .module⟩,
  ⟨"MOVE_CH_3_DESC", 0xE011C0, 32, .rw, .module⟩,
  ⟨"MOVE_CH_4_DESC", 0xE01240, 32, .rw, .module⟩,
  ⟨"MOVE_CH_5_DESC", 0xE012C0, 32, .rw, .module⟩,
  ⟨"MOVE_CH_6_DESC", 0xE01340, 32, .rw, .module⟩,
  ⟨"MOVE_CH_7_DESC", 0xE013C0, 32, .rw, .module⟩,
  ⟨"MOVE_CH_8_DESC", 0xE01440, 32, .rw, .module⟩,
  ⟨"MOVE_CH_9_DESC", 0xE014C0, 32, .rw, .module⟩,
  ⟨"MOVE_CH_10_DESC", 0xE01540, 32, .rw, .module⟩,
  ⟨"MOVE_CH_11_DESC", 0xE015C0, 32, .rw, .module⟩,
  ⟨"MOVE_CH_12_DESC", 0xE01640, 32, .rw, .module⟩,
  ⟨"MOVE_CH_13_DESC", 0xE016C0, 32, .rw, .module⟩,
  ⟨"MOVE_CH_14_DESC", 0xE01740, 32, .rw, .module⟩,
  ⟨"MOVE_CH_15_DESC", 0xE017C0, 32, .rw, .module⟩,
  ⟨"MOVE_CH_16_DESC", 0xE01840, 32, .rw, .module⟩,
  ⟨"MOVE_CH_17_DESC", 0xE018C0, 32, .rw, .module⟩,
  ⟨"MOVE_CH_18_DESC", 0xE01940, 32, .rw, .module⟩,
  ⟨"MOVE_CH_19_DESC", 0xE019C0, 32, .rw, .module⟩,
  ⟨"MOVE_CH_20_DESC", 0xE01A40, 32, .rw, .module⟩,
  ⟨"MOVE_CH_21_DESC", 0xE01AC0, 32, .rw, .module⟩,
  ⟨"MOVE_CH_22_DESC", 0xE01B40, 32, .rw, .module⟩,
  ⟨"MOVE_CH_23_DESC", 0xE01BC0, 32, .rw, .module⟩,
  ⟨"MOVE_CH_24_DESC", 0xE01C40, 32, .rw, .module⟩,
  ⟨"MOVE_CH_25_DESC", 0xE01CC0, 32, .rw, .module⟩,
  ⟨"MOVE_CH_26_DESC", 0xE01D40, 32, .rw, .module⟩,
  ⟨"MOVE_CH_27_DESC", 0xE01DC0, 32, .rw, .module⟩,
  ⟨"MOVE_CH_28_DESC", 0xE01E40, 32, .rw, .module⟩,
  ⟨"MOVE_CH_29_DESC", 0xE01EC0, 32, .rw, .module⟩,
  ⟨"MOVE_CH_30_DESC", 0xE01F40, 32, .rw, .module⟩,
  ⟨"MOVE_CH_31_DESC", 0xE01FC0, 32, .rw, .module⟩,
  ⟨"MOVE_LOG", 0xE05000, 4096, .ro, .module⟩,
  ⟨"DRAM_LOG", 0xF01000, 4096, .ro, .module⟩,
  ⟨"FLT_LOG", 0x1001000, 4096, .ro, .module⟩,
  ⟨"BOOT_DATA", 0x1200100, 256, .rw, .module⟩,
  ⟨"BOOT_DEBUG_CERT", 0x1200400, 128, .wo, .module⟩,
  ⟨"BOOT_MEAS", 0x1201000, 512, .ro, .module⟩]

/-- The registers of the block that an address of BAR0 lies in (ch. 21): one block for each MiB. -/
def regsAt (a : Nat) : List RegDesc :=
  match a / 2 ^ 20 with
  | 0 => regsGen
  | 1 => regsHif
  | 2 => regsPort
  | 3 => regsTime
  | 4 => regsLedg
  | 5 => regsHed
  | 6 => regsFwd
  | 7 => regsCiph
  | 8 => regsStor
  | 9 => regsReed
  | 10 => regsLoom
  | 11 => regsBarb
  | 12 => regsRing
  | 13 => regsMbox
  | 14 => regsMove
  | 15 => regsDram
  | 16 => regsFlt
  | 17 => regsPwr
  | 18 => regsBoot
  | _ => []

end Sys2Proof.Machine
end

