-- ==== Sys2Proof/Machine/State.lean ====
section
/-! DEFINITION. The state of the TK-8440 block as plain data: everything the spec gives the module, one record for each
chapter's state, the outputs, and the queue of waiting commands. -/
namespace Sys2Proof.Machine
open Sys2Proof

/-- The live words of BAR0 outside the configuration set, the live 64-bit counts, and the copies the last TAKE
latched (R10). A word that is not listed reads its Reset entry. -/
structure Bus where
  words : SMap Word := []
  ctr : SMap Dword := []
  snap : SMap Dword := []
  deriving DecidableEq, Repr

/-- One configuration set: the SH words of BAR0 by address (R11) and the table records by table and index (R156). -/
structure CfgSet where
  words : SMap Word := []
  recs : SMap Rec := []
  deriving DecidableEq, Repr

/-- The configuration versions (R156 to R160): the three sets and their version numbers; `copies` lists the records of Table 10
born in the shadow set over an active original, `dead` the originals that wait to be reclaimed, `deletes` the active records that the shadow set deletes, and `gone` those that a swap deleted and
that are not yet reclaimed (R157); `hostVersion` is
the version each host island holds (R158). -/
structure Cfg where
  active : CfgSet := {}
  shadow : CfgSet := {}
  retiring : CfgSet := {}
  version : Nat := 0
  retiringVersion : Option Nat := none
  copies : List Nat := []
  dead : List Nat := []
  deletes : List Nat := []
  gone : List Nat := []
  hostVersion : List Nat := [0, 0]
  deriving DecidableEq, Repr

/-- Levels the board drives and the module's own reset condition (R31 to R35, R399, R433). -/
structure Sys where
  powerGood : Bool := true
  perstN : Bool := true
  rstN : Bool := true
  recoverN : Bool := true
  ethRefclk : Bool := true
  /-- module reset is held (R32), or power-good is low. -/
  inReset : Bool := false
  /-- configuration space is ready (R402). -/
  configReady : Bool := false
  /-- DDR5 training and clearing are done (R402). -/
  ddr5Trained : Bool := false
  /-- the remaining image sections are loaded and firmware runs in cores 0 to 7 (R402). -/
  firmwareLoaded : Bool := false
  /-- dataplane ready has been reached in this boot (R402). -/
  ready : Bool := false
  /-- a FATAL code drives FAULT_N low, and a module reset is due (R391). -/
  fatal : Bool := false
  resetDue : Bool := false
  /-- a FATAL code or a trip has stopped the taking of frames (R391, R438). -/
  stopped : Bool := false
  deriving DecidableEq, Repr

/-- A stamp as it was taken (R87, R91, R102, R116): Quartz time in 2^-16 ns, the step epoch in force, and TIME_STATUS.TRACEABLE. -/
structure StampAt where
  time : Nat := 0
  epoch : Nat := 0
  trace : Nat := 0
  deriving DecidableEq, Repr

/-- A requested clock step that is waiting (R101, R104): Δ in units of 2^-16 ns, the time it waits for (0: 64 cycles after GO), whether its
epoch has been found held, and the weave cycle of GO. -/
structure StepReq where
  delta : Int
  at_ : Nat
  held : Bool
  go : Nat := 0
  deriving DecidableEq, Repr

/-- One entry of a port's transmit stamp FIFO (R110): stamp in 2^-16 ns and sequenceId. -/
structure TxStamp where
  stamp : Nat
  seqId : Nat
  deriving DecidableEq, Repr

/-- What the board description declares for the timing lands (R92, R99), and the fuse trims of R88. -/
structure TimeDecl where
  ppsIn : Nat := 0        -- 0 absent, 1 rising, 2 falling
  clk10In : Nat := 0      -- 0 absent, 1 present, 2 present and stable
  todRx : Bool := false
  todFormat : Nat := 0    -- 0 absent, 1 NMEA 0183 ZDA, 2 NMEA 0183 RMC, 3 Tyulkan TOD
  todBaud : Nat := 0
  ppsOut : Bool := false
  clk10Out : Bool := false
  todTx : Bool := false
  stepThreshNs : Nat := 1000
  traceLimitNs : Nat := 1000
  priority : List Nat := []
  deriving DecidableEq, Repr

/-- Quartz and its companions (R82 to R106). `q` is Quartz time in units of 2^-48/6 ns, which makes the increment of R84
a whole number; `cycles` counts weave-clock cycles, and steps do not move it. `epochSum` holds, for each step epoch, the
sum of the steps applied since that epoch, in 2^-16 ns (R102). The PPS_OUT pulse under way ends at the weave cycle `ppsEnd`; CLK10_OUT's level
and the cycle of its last edge (R106); the cycle in which HOLDOVER began; the frequency words of the last 60 s of LOCKED by the cycle from
which each held, and their average when LOCKED ended (R100); and the characters of the TOD message under way (R95). -/
structure Time where
  q : Nat := 0
  cycles : Nat := 0
  f : Int := 0
  epochSum : List Int := [0, 0, 0, 0]
  step : Option StepReq := none
  ppsUnread : Bool := false
  ppsOutHigh : Bool := false
  ppsEnd : Nat := 0
  clkHigh : Bool := true
  clkSince : Nat := 0
  holdStart : Nat := 0
  fLog : List (Nat × Int) := []
  fHold : Int := 0
  todMsg : List Byte := []
  todTxDue : Option Nat := none
  txStamps : SMap (List TxStamp) := []
  decl : TimeDecl := {}
  deriving DecidableEq, Repr

/-- A commit that the Loom has in hand (R51): its dry-run flag, whether the checks passed and it waits for the retiring
slot, whether a capacity changed while it waited, and the bounds and delays that its checks gave. -/
structure CommitReq where
  dry : Bool
  waiting : Bool
  capChanged : Bool
  passed : List (Nat × Nat × Nat) := []
  deriving DecidableEq, Repr

/-- The Loom (R43 to R61). `readmit` lists the books whose capacity changed and whose re-admission is not done (R61). -/
structure Loom where
  commit : Option CommitReq := none
  readmit : List Nat := []
  deriving DecidableEq, Repr

/-- One ledger stream (R121 to R133). `batch` is the slots written since the last seal cut. -/
structure Stream where
  running : Bool := false
  alive : Nat := 0
  batch : List Byte := []
  total : Nat := 0
  digest : List Byte := []
  sealNumber : Nat := 0
  stalledAt : Option Nat := none
  /-- losses not yet reported: cause, slots (frames for cause 3), time of the first (R131). -/
  gaps : List (Nat × Nat × Nat) := []
  /-- seal slots reserved and unwritten, by their first slot index (R124). -/
  reserved : List Nat := []
  deriving DecidableEq, Repr

/-- A seal that waits at the signer (R122 to R124): its stream, its first slot, its number, the weave cycle of its cut, the ring it stands in
(base and log2 of its bytes), the stamp of the cut, VERSION and KEY_ID then, its alive value, the slots of the batches before, the digest before,
the batch, and the causes of the cut. -/
structure SealJob where
  stream : Nat
  slot : Nat
  number : Nat
  cycle : Nat
  ring : Nat × Nat := (0, 0)
  stamp : StampAt := {}
  version : Nat := 0
  keyId : Nat := 0
  alive : Nat := 0
  before : Nat := 0
  prev : List Byte := []
  batch : List Byte := []
  causes : Nat := 0
  deriving DecidableEq, Repr

/-- The ledger (R114 to R135). The private key never leaves the root island (R126); `signer` holds the seals that are cut and not yet
written (R124); the second that the rates of R129 are counted over began at the weave cycle `rateFrom`, and has taken `rateSlots` slots and
hashed `rateBytes` bytes. -/
structure Ledg where
  streams : SMap Stream := []
  privateKey : List Byte := []
  publicKey : List Byte := []
  signer : List SealJob := []
  rateFrom : Nat := 0
  rateSlots : Nat := 0
  rateBytes : Nat := 0
  deriving DecidableEq, Repr

/-- Decision lockstep and unit faults (R372 to R391). `gap` is the open gap (0 none, 1 takeover, 2 standby lost, 3 retry);
`retries` the retries in a row of its cycle; `lastNamed` the weave cycle in which a verdict last named each side;
`transientTimes` the cycles of the last transient retries; `bringIn` the side being brought in; `unitTimes` the cycles of a
unit's transients by unit key; the physical CRC unit of each logical one that a spare serves, and logical units OUT by kind and index; failures of a self-test vector not
yet confirmed; the wear move under way; spares used in each bank; and the bank copy under way (R386). -/
structure Flt where
  gap : Nat := 0
  retries : Nat := 0
  lastNamed : SMap Nat := []
  transientTimes : List Nat := []
  bringIn : Option Nat := none
  unitTimes : SMap (List Nat) := []
  crcPhys : SMap Nat := []
  /-- CRC units whose spare takes over at their next FREE: its physical index and the transient count (R386). -/
  crcMoves : SMap (Nat × Nat) := []
  outUnits : List (Nat × Nat) := []
  suspect : List (Nat × Nat × Nat) := []
  wearMoves : List (Nat × Nat) := []
  rowSparesUsed : SMap Nat := []
  bankCopy : List (Nat × Nat) := []
  deriving DecidableEq, Repr

/-- Power input and thermal state (R424 to R438): what each input does, the hold-up race, the thermal timers as the
stage whose threshold the estimate has reached, the rails that run on N - 1 phases, and whether one holds the stage at SHED_AS (R435). -/
structure Pwr where
  holdUp : Bool := false
  shutdown : Bool := false

  droppedSince : Bool := false
  overCause : Bool := false
  shortRails : List Nat := []
  stageHeld : Bool := false
  deriving DecidableEq, Repr

/-- A register access or a start that waits for a gated AUTO domain to wake (R29, R30). -/
inductive HeldOp where
  | write (addr : Nat) (value : Word)
  | coreReset (core key : Nat)
  | debugHalt (core thread : Nat)
  | debugResume (core thread : Nat)
  | debugStep (core thread : Nat)
  | debugData (core : Nat) (value : Dword)
  | crcStart (unit kind owner poly : Nat) (alive : Option Nat)
  | crcRelease (unit : Nat)
  | crcStatus (unit : Nat)
  | moverStart (channel party : Nat)
  | moverAbort (channel party : Nat)
  | chainKick (channel party : Nat)
  | mailboxWrite (unit word : Nat) (value : Word)
  | mailboxRead (unit : Nat)
  deriving DecidableEq, Repr

/-- An AUTO power domain (R27 to R30): domain kind of `PWR_HOLDOFF_k` and unit number. Listed domains are gated;
`waking` are the domains that work has reached and that are not yet awake. `held` are the register accesses and starts that wait for a domain
(R29, R30), in order of arrival, and `records` the ledger records that wait for ledger hashing: stream, slots, TIME_NS, and the bytes but for
ALIVE. -/
structure Domains where
  gated : List (Nat × Nat) := []
  waking : List (Nat × Nat) := []
  held : List ((Nat × Nat) × HeldOp) := []
  records : List (Nat × Nat × Nat × List Byte) := []
  deriving DecidableEq, Repr

/-- An item in flight through an island crossing (R25): a swap notice of a version (R159), or a shuttle on its way to the core that runs its
program (R264), with its place in the order of arrival at the crossing. -/
inductive CrossItem where
  | swapNotice (version : Nat)
  | shuttle (i seq : Nat)
  deriving DecidableEq, Repr
/-- One owner-key place of the fuses (R395). -/
structure KeyPlace where
  hash : List Byte
  revoked : Bool
  deriving DecidableEq, Repr

/-- The fuses (R88, R395, R398): four owner-key places, the rollback count, and the stamp trims in 2^-6 ns. -/
structure Fuses where
  places : List (Option KeyPlace) := [none, none, none, none]
  rollback : Nat := 0
  trimRx : SMap Int := []
  trimTx : SMap Int := []
  deriving DecidableEq, Repr

/-- The persistent store (R385, R399, R402, R404, R434, R435). Slots are 0 A and 1 B. -/
structure Store where
  preferred : Nat := 0
  trial : Option Nat := none
  bootNumber : Nat := 0
  retiredSides : List Nat := []
  retiredUnits : List (Nat × Nat) := []
  retiredPhases : SMap Nat := []
  lastOff : Nat := 0
  board : Option (List Byte) := none
  spareBlocksUsed : SMap Nat := []
  deriving DecidableEq, Repr

/-- One SPDM context, of a DOE function or of MCTP (R409, R410): how far its negotiation has come (1 version, 2 capabilities, 3
algorithms) and the messages of it so far, which its signatures cover. -/
structure Spdm where
  stage : Nat := 0
  transcript : List Byte := []
  deriving DecidableEq, Repr

/-- One section entry of a manifest (R393). -/
structure Sect where
  kind : Nat
  vendor : Bool
  offset : Nat
  length : Nat
  digest : List Byte
  deriving DecidableEq, Repr

/-- A BOOT_CTRL operation in progress (R414): its code, the result that it will give, its argument, the flash address of its block, and the
bytes it programs. -/
structure BootRun where
  op : Nat
  result : Nat := 0
  arg : Nat := 0
  addr : Nat := 0
  data : List Byte := []
  deriving DecidableEq, Repr

/-- Boot, images and attestation (R392 to R414). `flash` lists the bytes that differ from an erased 0xFF. `running` is the candidate in
hand (0 A, 1 B, 2 golden) and `candidates` those still to be tried after it; `accepted` says that its manifest has passed R394, and
`failed` that nothing can be started any more (R372, R400). `op` is the BOOT_CTRL operation in progress. -/
structure Boot where
  flash : SMap Byte := []
  store : Store := {}
  fuses : Fuses := {}
  started : Bool := false
  accepted : Bool := false
  failed : Bool := false
  candidates : List Nat := []
  running : Nat := 0
  /-- the measurement registers M0 to M7 (R408). -/
  meas : List (List Byte) := []
  /-- the debug nonce of the last read, the weave-clock cycle of that read, and whether it may still be granted against (R413). -/
  nonce : Nat := 0
  nonceTime : Nat := 0
  nonceOk : Bool := false
  op : Option BootRun := none
  stagedLog : List Byte := []
  /-- the SPDM contexts: 0 and 2 the DOE functions, 1 MCTP (R409, R410). -/
  spdm : SMap Spdm := []
  /-- the section entries of the image in hand (R393). -/
  sections : List Sect := []
  ownerKey : List Byte := []
  /-- firmware-reserved bulk mover channels (R351, R394). -/
  fwChannels : List Nat := []
  deriving DecidableEq, Repr

/-- DDR5 (R359 to R371): queued writes oldest first, each with its 64-byte block and the bytes it holds (R366), words marked POISON (R368),
corrected-error times by row, rows scheduled for repair, rows to be made permanent at the next module reset, and the weave-clock cycle in which
each channel's sweep began (R370). -/
structure Dram where
  wq : List (Nat × List Host.Cell) := []
  poison : List Nat := []
  rowErrors : SMap (List Nat) := []
  repairs : List Nat := []
  repairsDone : List Nat := []
  hardRepairs : List Nat := []
  sweeps : SMap Nat := []
  deriving DecidableEq, Repr
/-- Where a shuttle is on its path (R21 to R26, Table 5 of ch. 1): fetched from host memory, at the entry arbiter of its pipeline, in a pass, waiting for a
DDR5 lookup, for STOR work, for a cipher lane, in a lane, for a program thread, in a thread, queued at Reed, chosen by Reed and on its
way to the lands, being written to the host, or waiting for a domain to wake. -/
inductive Stage where
  | fetch | entry | pass | ddr5 | stor | lane | inLane | held | cross | dispatch | thread | reed | toLands | toHost | ended
  deriving DecidableEq, Repr

/-- One learn request (R175 to R178): key, learned destination. -/
structure LearnReq where
  mac : Nat
  fd : Nat
  port : Nat
  queue : Nat
  deriving DecidableEq, Repr

/-- One piece of STOR work of an NVMe/TCP segment, in order (R227, R228). `act` is 0 command data, 1 the release of an entry, 2 the loss of SYNC, which
discards held bytes, 3 decrypted data. `key` is the command table entry, `off` the first data byte, `lim` the end of the data that its PDU announces,
`at_` the place of the bytes in the frame, `first` whether they begin their PDU's data, and `cut` how many frame bytes TRIM keeps out. -/
structure StorItem where
  key : Nat
  off : Nat := 0
  lim : Nat := 0
  bytes : List Byte := []
  at_ : Nat := 0
  act : Nat := 0
  first : Bool := false
  cut : Nat := 0
  deriving DecidableEq, Repr

/-- Command data for the lane (R228): its entry and SA, first data byte, place in the frame, and bytes; `act` as in `StorItem`. -/
structure XtsItem where
  key : Nat
  sa : Nat := 0
  off : Nat := 0
  at_ : Nat := 0
  bytes : List Byte := []
  act : Nat := 0
  deriving DecidableEq, Repr

/-- One shuttle of the store with its frame (R19). `w` is the 128 bytes of R19; `frame` the frame's present bytes from the
destination address (without its FCS once `ended`); `rx` the bytes as received,
which ingress records use (R118, R418). The other fields are the module's bookkeeping for the rules named. -/
structure Shut where
  w : ShuttleWord := 0
  frame : List Byte := []
  rx : List Byte := []
  stage : Stage := .entry
  pipe : Nat := 0
  /-- order of arrival at the present arbiter (R21). -/
  seq : Nat := 0
  envelope : Option Nat := none
  /-- step epoch of INGRESS_STAMP and of DEADLINE (R102). -/
  epoch : Nat := 0
  dlEpoch : Nat := 0
  ended : Bool := false
  endStamp : Nat := 0
  endEpoch : Nat := 0
  /-- TIME_STATUS.TRACEABLE at INGRESS_STAMP (R116). -/
  trace : Nat := 0
  witness : Nat := 0
  ingressTaken : Bool := false
  /-- the first pass has ended (R118). -/
  pass1Done : Bool := false
  /-- KEY before a program rewrote it, for an ingress record not yet taken (R118). -/
  keyBefore : Option Nat := none
  /-- a MISS record, with ALIVE 0, that waits for the frame's ingress record (R120). -/
  missDue : Option (List Byte) := none
  /-- a discard that waits for the frame's end: its DISPOSAL reason (R118). -/
  dropReason : Option Nat := none
  /-- what a DDR5 lookup is for: 1 the flow record, 2 the destination. -/
  wait : Nat := 0
  /-- a place of the lookup pool is one of the reserved ones (R145). -/
  poolReserved : Bool := false
  /-- where the path goes on after forwarding: 0 the pass, 1 the pass end; 2 asks for the exception list of a refused recirculation, and 3 marks
  a frame in its egress pipeline. -/
  resume : Nat := 0
  /-- FORWARD operands to be served and whether a DEST word follows them (R171). -/
  fwdOps : Option Nat := none
  destAfter : Bool := false
  /-- the flow's exception list (R149). -/
  exc : Nat := 0
  excWanted : Bool := false
  decapWanted : Bool := false
  /-- the envelope policer or the general policer judges at the end (R153): envelope, or policer and its words. -/
  policeDue : Bool := false
  polGeneral : Option Nat := none
  abLeg : Option (Nat × Nat) := none
  abSeq : Option Nat := none
  /-- a learn request that waits for the frame's end (R176). -/
  learn : Option LearnReq := none
  vni : Nat := 0
  tci : Nat := 0
  /-- transmit ring, its index of the frame's first entry and its entry count, for a host frame (R328). -/
  ring : Option Nat := none
  ringIndex : Nat := 0
  entries : Nat := 0
  txFlags : Nat := 0
  t2 : Nat := 0
  /-- host bytes still to be read for the frame, by the pieces outstanding: offset and length. -/
  toRead : List (Nat × Nat) := []
  total : Nat := 0
  /-- completion space: position with LAP reserved in the completion ring (R335). -/
  cplPos : Option Nat := none
  /-- the completion position that a receive buffer reserved. -/
  rxCplPos : Option Nat := none
  cplDone : Bool := false
  /-- receive buffer: ring entry index, address and length (R336). -/
  rxRing : Option Nat := none
  rxIndex : Nat := 0
  rxAddr : Nat := 0
  rxLen : Nat := 0
  txStamp : Option StampAt := none
  /-- host excess of reads and of credit waits, in 2^-16 ns, and since when the frame waits for posted-write credits, with the step epoch
  (R58). -/
  readExcess : Nat := 0
  creditWait : Nat := 0
  creditAt : Option (Nat × Nat) := none
  /-- gaps that fell within the frame's transit (R381). -/
  gapsSeen : Nat := 0
  shed : Bool := false
  /-- a read of the frame's host bytes has failed, so it is not fetched whole (R176, R297). -/
  unfetched : Bool := false
  /-- frame bytes that are known bad, poisoned or lost to an error: offset and length (R298, R299, R363). -/
  badAt : List (Nat × Nat) := []
  /-- an entry that a lookup of the frame read failed its parity check (R145, R185). -/
  parityBad : Bool := false
  /-- the pass of the last list, its word, and whether an exception list runs (R149). -/
  inException : Bool := false
  template : Option Nat := none
  /-- the SA the frame holds (R200), its visits, whether one has used a counter value, its CIPHER_RESULT, and the first value it used (R202, R213). -/
  holdsSa : Option Nat := none
  visits : Nat := 0
  valued : Bool := false
  cipherRes : Nat := 0
  counter : Nat := 0
  /-- the lane that holds the frame, whether its bytes have been transformed there, and what its tag says. -/
  lane : Option Nat := none
  transformed : Bool := false
  tagOk : Bool := true
  cipherSeq : Nat := 0
  storResult : Nat := 0
  placed : Nat := 0
  /-- STOR work that waits for command table entries (R227, R229), frame ranges kept from the receive ring's buffer (TRIM), and
  ciphertext that waits for its lane visit: entry key, first data byte and bytes (R228). -/
  stor : List StorItem := []
  storTx : Bool := false
  storCtx : Option Nat := none
  trim : List (Nat × Nat) := []
  xts : List XtsItem := []
  /-- STOR has judged the segment (R224), and its decrypted data is being placed (R228). -/
  storDone : Bool := false
  storLate : Bool := false
  /-- the frame waits for its end before STOR processing. -/
  storEnd : Bool := false
  /-- the bytes written to the host are to be overwritten with zeros before the completion (R214). -/
  scrub : Bool := false
  /-- data ranges and digest ranges of a transmit segment: frame offset, length, first digest byte for a digest (R229). -/
  ddgst : List (Nat × Nat × Option Nat) := []
  /-- the host buffers of a transmit frame: address and length. -/
  src : List (Nat × Nat) := []
  /-- an encapsulation checksum (outer IP offset, UDP offset, IPv6) and a decapsulation check (outer IP offset, UDP offset, IPv6) that
  wait for the frame's end (R194, R196). -/
  encapCsum : Option (Nat × Nat × Bool) := none
  /-- the frame was encapsulated before its end: its length is judged again there (R195). -/
  encapOpen : Bool := false
  decapCsum : Option (Nat × Nat × Bool) := none
  /-- the other copy of a frame sent to a PRP pair, the original for the LAN B copy, whether the other copy has left first, and the
  trailer that waits for the frame's end (R77, R333). -/
  twin : Option Nat := none
  prpCopyOf : Option Nat := none
  twinDone : Bool := false
  rct : Option (Nat × Nat) := none
  stomp : Bool := false
  departed : Bool := false
  writtenHost : Bool := false
  /-- how many frame bytes the ring engine has written to the buffer before the frame's end (R336). -/
  hostSent : Nat := 0
  /-- the queue that holds or held the frame, and the charge to refund when its end is known: port, queue, whether MIN was charged, and
  the length charged (R243). -/
  charged : Option (Nat × Nat × Bool × Nat) := none
  /-- the weave-clock cycle in which the shuttle reached Reed (R241). -/
  reedAt : Nat := 0
  /-- what waited for the frame's end has been done. -/
  endDone : Bool := false
  deriving DecidableEq, Repr
/-- A token bucket: tokens in units of 1/9,600 byte, so that a rate of r Mb/s adds r for each weave-clock cycle, and the cycle
of the last reckoning (R41, R152). -/
structure Bucket where
  tokens : Nat
  last : Nat
  deriving DecidableEq, Repr

/-- Heddle's running state: the envelope policers and the general policers by index (R152, R154),
the flows whose key index entry failed its parity check and was invalidated (R145), and those of them that staged writes hold again. -/
structure Hed where
  env : SMap Bucket := []
  pol : SMap Bucket := []
  noIndex : List Nat := []
  rewritten : List Nat := []
  deriving DecidableEq, Repr

/-- One forwarding entry (R168, Table 3), present in the table that its index names. -/
structure FwdEntry where
  mac : Nat
  fd : Nat
  isStatic : Bool
  pin : Bool
  frozen : Bool
  port : Nat
  queue : Nat
  age : Nat
  deriving DecidableEq, Repr

/-- One place of the move tracker (R181): key as a number, first cycle of the window, moves counted. -/
structure MoveWin where
  key : Nat
  start : Nat
  count : Nat
  deriving DecidableEq, Repr

/-- The forwarding unit (ch. 7): entries by the index of R186, the learn queue, the ageing tick, the move tracker, the
ager's conditional removes with the AGE each read (R183, R184), the refreshes that wait for the DDR5 table as place, key and tick (R184),
and a flush in progress as BY, TARGET and the next bucket to read (R188). -/
structure Fwd where
  entries : SMap FwdEntry := []
  queue : List LearnReq := []
  tick : Nat := 0
  moves : List MoveWin := []
  removes : List (Nat × Nat) := []
  refreshes : List (Nat × Nat × Nat × Nat) := []
  flush : Option (Nat × Nat × Nat) := none
  deriving DecidableEq, Repr
/-- One port's receive and transmit side (ch. 3): SFD stamps with epochs whose shuttle is not yet created, the shuttle being
received, the pauses in force and in hold-off (priorities 0 to 7; 8 is PAUSE), the priorities for which XOFF was sent,
the shuttle being transmitted, and the frame last put on the lands: the end of its FCS in 2^-16 ns of Quartz time, its traffic class, and
whether it is guaranteed. -/
structure PortSt where
  stamps : List StampAt := []
  cur : Option Nat := none
  paused : List Nat := []
  holdoff : List Nat := []
  xoff : List Nat := []
  sending : Option Nat := none
  txEnd : Nat := 0
  txTc : Nat := 0
  txGuar : Bool := false
  deriving DecidableEq, Repr

/-- One source of a PRP pair (R78): its address, highest number seen, marked numbers, and the weave cycle it was last seen. -/
structure PrpSource where
  mac : Nat
  high : Nat
  marked : List Nat
  seen : Nat
  deriving DecidableEq, Repr

/-- One A/B feed group (R79, R80): the highest number delivered, the delivered numbers of its window, its open gaps as first
number and count, frames found BEHIND in a row, and whether it restarts at the next frame. -/
structure AbGroup where
  high : Option Nat := none
  marked : List Nat := []
  gaps : List (Nat × Nat) := []
  behind : Nat := 0
  rewind : Bool := false
  deriving DecidableEq, Repr

/-- Ports, redundant feeds and feed groups (ch. 3). PRP state is keyed by the pair's LAN A port; `mgmt` says that the board description
declares the management port (R75). -/
structure Net where
  mgmt : Bool := false
  ports : SMap PortSt := []
  prpSources : SMap (List PrpSource) := []
  prpSeq : SMap Nat := []
  ab : SMap AbGroup := []
  deriving DecidableEq, Repr

/-- One security association (R197 to R204). `record` is Table 5 but for its live fields, which follow; `key` is the 64-byte key
window it took. `tls` is the bytes of the record being processed (R211, R212). -/
structure Sa where
  record : Rec
  key : List Byte
  state : Nat
  exhausted : Bool := false
  sync : Bool := false
  counter : Nat
  marked : List Nat := []
  refs : Nat := 0
  tcpSeq : Nat := 0
  tls : List Byte := []
  rekey : Option (Nat × List Byte × List Byte) := none
  cached : Bool := false
  used : Nat := 0
  deriving DecidableEq, Repr

/-- The cipher unit (ch. 8): SAs by index, the key window and whether it is loaded, SA fetches under way, the random generator's
requests since its last seed, and lanes whose mask generator waits for a seed. -/
structure Ciph where
  sas : SMap Sa := []
  keyWin : List Byte := List.replicate 64 0
  keyLoaded : Bool := false
  requests : Nat := 0
  fetching : List Nat := []
  unseeded : List Nat := []
  useCount : Nat := 0
  /-- the key that wraps the keys of the SA store; empty until the root island has derived it (R197). -/
  dieKey : List Byte := []
  deriving DecidableEq, Repr

/-- A command table entry in the cache (R226, R227): its 32 bytes, bytes placed so far in order, and bytes held of an
incomplete XTS block. -/
structure CidEntry where
  bytes : List Byte
  placed : Nat := 0
  held : List Byte := []
  dead : Bool := false
  segments : List (Nat × Nat) := []
  deriving DecidableEq, Repr

/-- One NVMe/TCP queue context (R223, R224): Table 7 with its live fields; `pdu` holds the header bytes of the PDU under way,
`pduAt` the byte position in it, `crc` the PDU data so far for the data digest. -/
structure StorCtx where
  record : Rec
  sync : Bool
  rxSeq : Nat
  txSeq : Nat
  pdu : List Byte := []
  pduAt : Nat := 0
  data : List Byte := []
  txPdu : List Byte := []
  txAt : Nat := 0
  txData : List Byte := []
  deriving DecidableEq, Repr

/-- One check-value unit (R233): its owner (0 a Barbor thread by thread number, 1 a bulk mover channel), polynomial, alive offset, the
bytes of the open message, the live RESULT, and whether an alive value is recorded (R235). -/
structure CrcUnit where
  owner : Option (Nat × Nat) := none
  poly : Nat := 0
  alive : Option Nat := none
  message : List Byte := []
  recorded : Bool := false
  result : Nat := 0
  deriving DecidableEq, Repr

/-- The STOR block (ch. 9). Cached entries are keyed by context and CID; `data` is what the reads of an entry and its segment list have
brought so far. -/
structure Stor where
  ctxs : SMap StorCtx := []
  cids : SMap CidEntry := []
  fetching : List Nat := []
  data : SMap (List Byte) := []
  units : SMap CrcUnit := []
  deriving DecidableEq, Repr

/-- A shaper in use (R247): its count in bits. -/
structure Shaper where
  count : Int
  deriving DecidableEq, Repr

/-- A queue in service (R241, R248): the record in use since the last refill, its shuttles, its three deficits (committed, excess,
BE), its drops, and the head that a gate made to wait with the time its next window opens (R250). -/
structure RQueue where
  record : Rec := 0
  frames : List Nat := []
  deficit : List Int := [0, 0, 0]
  drops : Nat := 0
  waitFrame : Option Nat := none
  waitTill : Nat := 0
  deriving DecidableEq, Repr

/-- A group in service (R241). -/
structure RGroup where
  record : Rec := 0
  deficit : List Int := [0, 0, 0]
  deriving DecidableEq, Repr

/-- A gate list in force or pending (R249 to R252): entries of gates and intervals, cycle and start instant in ns. -/
structure GateList where
  entries : List (Nat × Nat)
  cycle : Nat
  start : Nat
  deriving DecidableEq, Repr

/-- Reed (ch. 10). Shapers are keyed by kind: MIN and MAX by queue, group, and traffic class. `gates` is the list in force and
`nextGates` the pending one; `lastQueue` the turn of each deficit round; `scaled` the MIN factor of an egress point in 1/256
(R256). -/
structure Reed where
  queues : SMap RQueue := []
  groups : SMap RGroup := []
  shMin : SMap Shaper := []
  shMax : SMap Shaper := []
  shGroup : SMap Shaper := []
  shTc : SMap Shaper := []
  deadlineSet : SMap (List Nat) := []
  lastQueue : SMap Nat := []
  gates : SMap GateList := []
  nextGates : SMap GateList := []
  scaled : SMap Nat := []
  deriving DecidableEq, Repr
/-- One cached translation (R303): instance, first 4 KiB page, log2 of its pages, host address, permissions, pin, and last use. -/
structure Xl where
  inst : Nat
  page : Nat
  log2 : Nat
  host : Nat
  rd : Bool
  wr : Bool
  pinned : Bool
  used : Nat
  deriving DecidableEq, Repr

/-- What a host access is for. -/
inductive Use where
  | ringBase (ring : Nat)
  | mirror (ring : Nat)
  | desc (ring index count : Nat)
  | txData (shut off : Nat)
  | buffer (shut : Nat)
  | cid (key : Nat)
  | export_ (stream : Nat)
  | mover (chan req off : Nat)
  | blob (off : Nat)
  | dirty (slot : Nat)
  /-- a table entry that the walk of an instance's page reads (R301). -/
  | walk (inst page : Nat)
  | other
  deriving DecidableEq, Repr

/-- A host write or read that waits for a translation (R301): bytes of a write, or the length of a read. -/
structure HostOp where
  inst : Nat
  iova : Nat
  bytes : List Byte
  len : Nat
  use : Use
  guar : Bool
  /-- the bytes are known to be bad: EP is set (R299). -/
  ep : Bool := false
  /-- host excess of the walks that a guaranteed access waited for, in 2^-16 ns (R303). -/
  excess : Nat := 0
  deriving DecidableEq, Repr

/-- One outstanding read (R295 to R297). `dead` says that its data is to be discarded, and `killed` that its function's reset or Bus Master
Enable is why (R307, R309); `got` is what completions have brought, and `bad` that some of it was poisoned. -/
structure HRead where
  tag : Nat
  link : Nat
  inst : Nat
  len : Nat
  use : Use
  sent : Nat
  guar : Bool
  quarantined : Bool := false
  dead : Bool := false
  iova : Nat := 0
  got : List Byte := []
  /-- the step epoch of `sent` (R102), and the host excess of the walks before it. -/
  epoch : Nat := 0
  excess : Nat := 0
  killed : Bool := false
  bad : Bool := false
  deriving DecidableEq, Repr

/-- A translation walk under way (R301): instance, 4 KiB page, whether a guaranteed shuttle waits for it, its start in 2^-16 ns with its
step epoch, and whether a pin range and an access asked for it; `ats` says that the host's translation agent answers, `got` is the entries that its
reads have brought, and `failed` the reason that one of them ended with (6 poisoned, UR or CA; 9 timeout). -/
structure Walk where
  inst : Nat
  page : Nat
  guar : Bool
  start : Nat
  epoch : Nat := 0
  pin : Bool := false
  asked : Bool := true
  ats : Bool := false
  got : List Dword := []
  failed : Nat := 0
  deriving DecidableEq, Repr

/-- One function (R305): its state as HIF_FN_QUERY shows it, Bus Master Enable, the last drain, and whether a reset tears it down. -/
structure Fn where
  state : Nat := 0
  bme : Bool := false
  drained : Bool := false
  teardown : Bool := false
  /-- the reset under way is an FLR (R307). -/
  flr : Bool := false
  maxRead : Nat := 512
  atsEnable : Bool := false
  /-- Enable Relaxed Ordering and Max_Payload_Size (R290). -/
  relaxed : Bool := true
  maxPayload : Nat := 128
  deriving DecidableEq, Repr

/-- What the host programs on a link (R295). -/
structure Link where
  tagExt14 : Bool := false
  tagExt10 : Bool := false
  deriving DecidableEq, Repr

/-- A dirty-logging slot (R315): touched words of the present and of the old epoch as word index and bits. -/
structure Dirty where
  words : SMap Nat := []
  old : SMap Nat := []
  swapping : Bool := false
  deriving DecidableEq, Repr

/-- What a RESTORE installs once its commit is DONE (R313): the SAs allocated; envelopes with tokens; queues with their MIN and MAX counts; ring
contexts; the Selvedge context; STOR contexts; MSI-X entries by vector. -/
structure Restore where
  sas : List Nat := []
  envs : List (Nat × Nat) := []
  queues : List (Nat × Nat × Nat) := []
  rings : List (Nat × Rec) := []
  selvedge : Rec := 1
  stor : List (Nat × Rec) := []
  msix : List (Nat × List Byte) := []
  deriving DecidableEq, Repr

/-- The PCI Express endpoint and Selvedge (ch. 12). `xlFault` keeps the accesses whose walk failed, for the work that asked. -/
structure Hif where
  split : Bool := false
  links : List Link := [{}, {}]
  totalVfs : List Nat := [0, 0, 0]
  numVfs : List Nat := [0, 0, 0]
  vfEnable : List Bool := [false, false, false]
  bar2Log2 : List Nat := [17, 17, 17, 17]
  fns : SMap Fn := []
  selvedge : SMap Rec := []
  xl : List Xl := []
  walks : List Walk := []
  rewalk : List (Nat × Nat) := []
  waiting : List HostOp := []
  faulted : List Use := []
  xlFault : List (Nat × Nat × Nat) := []
  reads : List HRead := []
  nextTag : Nat := 0
  peerBase : Nat := 0
  peerSize : Nat := 0
  peerRd : Bool := false
  peerWr : Bool := false
  peerAreaBase : Nat := 0
  peerAreaSize : Nat := 0
  /-- the manager operation that runs: OP and instance (R312). -/
  op : Option (Nat × Nat) := none
  migKey : List Byte := List.replicate 32 0
  migLoaded : Bool := false
  /-- a SAVE waits for its nonce (R220). -/
  nonceDue : Bool := false
  restore : Option Restore := none
  /-- functions released while a commit was PENDING: their deletions are staged after it (R422). -/
  releaseDue : List Nat := []
  pending : SMap (List Nat) := []
  dirty : SMap Dirty := []
  blob : List Byte := []
  /-- MSI-X table entries of 16 bytes by 2,048 × instance + vector; one never written is masked and 0 (R292). -/
  msix : SMap (List Byte) := []
  /-- the VF instances whose removal was refused, oldest first (R306). -/
  refused : List Nat := []
  /-- reads that used a translation removed by the invalidation in progress, by tag (R304). -/
  invTags : List Nat := []
  /-- the same for each ATS invalidation in progress, by its instance. -/
  atsInv : List (Nat × List Nat) := []
  useCount : Nat := 0
  deriving DecidableEq, Repr

/-- A descriptor the ring engine holds (R327): its ring index with LAP, its 32 bytes, and the failure its read met. -/
structure Desc where
  index : Nat
  bytes : List Byte
  bad : Nat := 0
  /-- the host excess of its read in 2^-16 ns (R58). -/
  excess : Nat := 0
  deriving DecidableEq, Repr

/-- A push held (R332): its index, descriptor, data and arrival. -/
structure Push where
  index : Nat
  desc : List Byte
  data : List Byte
  stamp : StampAt
  deriving DecidableEq, Repr

/-- The live state of a ring (R319, R324, R339). `thresh` is 0 while the start threshold is still the START of the port a frame leaves by
(R71). Indices carry LAP in the bit above the size: `fetch` is the next entry to be
read, `take` the next to be taken, `producer` the last doorbell, `consumer` the CPL consumer, `reserved` the CPL reserved. `unread` are the
completions not read yet: position, and the weave-clock cycle of the write (R338). -/
structure RingSt where
  state : Nat := 0
  cause : Nat := 0
  fetch : Nat := 0
  take : Nat := 0
  producer : Nat := 0
  doorbells : List (Nat × StampAt) := []
  cached : List Desc := []
  stopped : Bool := false
  pushes : List Push := []
  token : Nat := 0
  consumer : Nat := 0
  reserved : Nat := 0
  unread : List (Nat × Nat) := []
  armed : Bool := false
  thresh : Nat := 0
  clean : Nat := 0
  inWork : Nat := 0
  disabling : Bool := false
  stalled : Bool := false
  deriving DecidableEq, Repr
/-- What a WAITING thread waits for (R277, R278): Quartz, events with an optional timer, a lock, a place in a channel for its staged
words, a message of one of its queues, a DDR5 search (`lk`: the LKF key and tier, or the LKK key), or frame bytes. -/
inductive Wait where
  | none
  | time (at_ : Nat)
  | event (mask : Nat) (at_ : Option Nat)
  | lock (k : Nat)
  | send (chan : Nat) (words : List Dword)
  | recv (chan : Nat)
  | lkf (key : Dword)
  | lkk (key : List Byte)
  | load (at_ size : Nat)
  | store (at_ size : Nat) (value : Dword)
  deriving DecidableEq, Repr

/-- One hardware thread (R260, R265, R276 to R280). `run` is 0 IDLE, 1 RUNNING, 2 WAITING; `halted` covers both of the latter. `budget` is
none for an unbudgeted thread, `armed` the value of BARM, and `stepDue` a STEP whose one instruction has not issued. `copy` and `win` are the shuttle copy and the frame bytes that FST changed. -/
structure Thread where
  run : Nat := 0
  halted : Bool := false
  stepDue : Bool := false
  regs : SMap Dword := []
  pc : Nat := 0
  budget : Option Nat := none
  armed : Nat := 0
  events : Nat := 0
  wake : Nat := 0
  wait : Wait := .none
  wd : Nat := 0
  staging : SMap Dword := []
  recv : SMap Dword := []
  shuttle : Option Nat := none
  guar : Bool := false
  copy : ShuttleWord := 0
  win : SMap Byte := []
  /-- the weave-clock cycle of its waiting lock request (R271). -/
  askedAt : Nat := 0
  deriving DecidableEq, Repr

/-- A message on its way to a channel (R273): the channel, its words, the sender and the weave-clock cycle in which it was sent. -/
structure ChanMsg where
  chan : Nat
  words : List Dword
  sender : Nat
  cycle : Nat
  deriving DecidableEq, Repr

/-- A held lock (R270): its owner and its FIFO, as thread numbers 8 × core + thread. -/
structure Lock where
  owner : Nat
  waiters : List Nat := []
  deriving DecidableEq, Repr

/-- The Barbor cores (ch. 11). Threads are keyed by 8 × core + thread; local memory by core; `code` is the words of a core's code
region and `master` thread 0's entry, as the image gives them; `chans` the messages of a channel; `flight` the messages on
their way. -/
structure Barb where
  threads : SMap Thread := []
  local_ : SMap (SMap Byte) := []
  code : SMap Nat := []
  master : SMap Nat := []
  chans : SMap (List (List Dword)) := []
  flight : List ChanMsg := []
  locks : SMap Lock := []
  deriving DecidableEq, Repr

/-- One mailbox direction (R341, R342, R345): its words, FULL, the sender's and the receiver's copies of COLLISION, and the sender's
ABORTED. -/
structure MboxDir where
  words : SMap Word := []
  full : Bool := false
  colS : Bool := false
  colR : Bool := false
  aborted : Bool := false
  deriving DecidableEq, Repr

/-- One user-class pair (R346 to R348): UP and DOWN, the function's and the manager's PEER_RESET, and the function's CTRL. -/
structure MboxPair where
  up : MboxDir := {}
  down : MboxDir := {}
  fnReset : Bool := false
  mgrReset : Bool := false
  ctrl : Word := 0
  deriving DecidableEq, Repr

/-- The mailboxes (ch. 14): user pairs by instance, data-class directions by number. -/
structure Mbox where
  user : SMap MboxPair := []
  data : SMap MboxDir := []
  deriving DecidableEq, Repr

/-- A request of a mover channel (R353): 0 source read, 1 destination write, 2 descriptor read, 3 tail read; the descriptor it belongs to
(a descriptor or tail read: the address), its offset and length, its data so far, whether it goes to the host, and its error cause. -/
structure MovReq where
  id : Nat
  kind : Nat
  desc : Nat
  off : Nat
  len : Nat
  data : List Byte := []
  host : Bool := false
  err : Nat := 0
  /-- the core whose gated memory the read waits for, and its address there (R29). -/
  core : Option (Nat × Nat) := none
  deriving DecidableEq, Repr

/-- A descriptor begun and not completed (R353): its serial number and bytes, the bytes whose source read has been issued, the bytes
moved, whether a request of it failed, whether it has been retried, and the length of its CRC unit's message when its first byte came. -/
structure MovDesc where
  id : Nat
  bytes : List Byte
  issued : Nat := 0
  moved : Nat := 0
  failed : Bool := false
  retried : Bool := false
  crcAt : Option Nat := none
  deriving DecidableEq, Repr

/-- A bulk mover channel beside its registers (R352 to R358): descriptors begun and not completed, oldest first; requests without a response,
oldest first; the next serial number; the first error cause; an ABORT; the CRC units it started; the address of the last descriptor read; a
descriptor or tail read that failed (its kind and address), and whether that read has been retried. -/
structure Mov where
  descs : List MovDesc := []
  reqs : List MovReq := []
  nextId : Nat := 0
  cause : Nat := 0
  aborting : Bool := false
  crcs : List Nat := []
  tail : Nat := 0
  redo : Option (Nat × Nat) := none
  tried : Bool := false
  deriving DecidableEq, Repr

/-- What the module puts on its lands or gives to a reader. Times are in 2^-16 ns; `ats` is a Translation Request (0) or an
Invalidate Completion (1) of ATS. -/
inductive Out where
  | frame (port : Nat) (bytes : List Byte) (stamp : Nat)
  | hostWrite (link instance_ addr : Nat) (bytes : List Byte) (ep relaxed : Bool)
  | hostRead (link instance_ addr len tag : Nat)
  | peerData (bytes : List Byte) (poison : Bool)
  | unsupported (addr : Nat)
  | msix (instance_ vector : Nat)
  | readData (value : Nat)
  | bytes (what : Nat) (data : List Byte)
  | retryStatus
  | pinEdge (land level : Nat)
  | pause (port quanta priorities : Nat)
  | mctp (data : List Byte)
  | ats (kind instance_ addr : Nat)
  deriving DecidableEq, Repr

/-- The whole module but for the bytes of DDR5 and the command queue. -/
structure Dev where
  bus : Bus := {}
  cfg : Cfg := {}
  sys : Sys := {}
  time : Time := {}
  loom : Loom := {}
  ledg : Ledg := {}
  flt : Flt := {}
  pwr : Pwr := {}
  dom : Domains := {}
  xing : SMap (List CrossItem) := []
  boot : Boot := {}
  dram : Dram := {}
  hed : Hed := {}
  fwd : Fwd := {}
  net : Net := {}
  ciph : Ciph := {}
  stor : Stor := {}
  reed : Reed := {}
  barb : Barb := {}
  mbox : Mbox := {}
  movers : SMap Mov := []
  hif : Hif := {}
  rings : SMap RingSt := []
  /-- results that indirect operations in progress will give, by the address of the IND_CTRL register (R161). -/
  ind : SMap Nat := []
  shuts : SMap Shut := []
  nextShut : Nat := 0
  seq : Nat := 0
  out : List Out := []
  /-- the counter that each free value reads and advances: the model's own field (DESIGN CHOICE, assumption log 4). -/
  free : Nat := 0
  deriving DecidableEq, Repr

/-- Faults of the model: a command whose meaning stops. -/
inductive Fault where
  /-- never raised: every command of this block has an effect (safe). -/
  | none
  deriving DecidableEq, Repr

/-- Refusals of the model. -/
inductive Refusal where
  /-- a command that has no meaning yet, by its mnemonic (safe: the machine stops). -/
  | notModelled (mnemonic : String)
  deriving DecidableEq, Repr

/-- The state of the block: the module, the bytes of DDR5 in canonical form, and the commands that wait, first in first
out. -/
structure State where
  dev : Dev
  ddr : List Host.Cell
  pending : List Instr
  deriving DecidableEq, Repr

/-- The module right after a cold reset, before BOOT_START (R31, R402). -/
def State.reset : State := { dev := {}, ddr := [], pending := [] }

end Sys2Proof.Machine
end

