-- ==== Sys2Proof/Machine/Ops.lean ====
section
/-! DEFINITION. The named operations over sparse tables, BAR0 words, fields, counts, logs, configuration sets, DDR5,
Quartz and the outputs, which every meaning is written over. -/
namespace Sys2Proof.Machine
open Sys2Proof

/-! ## Sparse tables -/

/-- The entry of a sparse table at a key. -/
def mapGet {α : Type} : SMap α → Nat → Option α
  | [], _ => none
  | (k, v) :: t, a => if a = k then some v else mapGet t a

/-- A sparse table with the entry at a key written, keys kept rising. -/
def mapPut {α : Type} : SMap α → Nat → α → SMap α
  | [], a, x => [(a, x)]
  | (k, v) :: t, a, x =>
    if a < k then (a, x) :: (k, v) :: t else if a = k then (a, x) :: t else (k, v) :: mapPut t a x

/-- A sparse table without the entry at a key. -/
def mapErase {α : Type} (m : SMap α) (a : Nat) : SMap α := m.filter (fun p => p.1 != a)

/-- The entry at a key, or a default. -/
def mapGetD {α : Type} (m : SMap α) (a : Nat) (x : α) : α := (mapGet m a).getD x

/-- Keys rise strictly. -/
def mapSorted {α : Type} : SMap α → Bool
  | [] => true
  | [_] => true
  | (a, _) :: (b, y) :: t => a < b && mapSorted ((b, y) :: t)

/-! ## One record of the device changed -/

/-- The device with its `bus` record changed. -/
def Dev.modBus (d : Dev) (f : Bus → Bus) : Dev := { d with bus := f d.bus }
/-- The device with its `cfg` record changed. -/
def Dev.modCfg (d : Dev) (f : Cfg → Cfg) : Dev := { d with cfg := f d.cfg }
/-- The device with its `sys` record changed. -/
def Dev.modSys (d : Dev) (f : Sys → Sys) : Dev := { d with sys := f d.sys }
/-- The device with its `time` record changed. -/
def Dev.modTime (d : Dev) (f : Time → Time) : Dev := { d with time := f d.time }
/-- The device with its `loom` record changed. -/
def Dev.modLoom (d : Dev) (f : Loom → Loom) : Dev := { d with loom := f d.loom }
/-- The device with its `ledg` record changed. -/
def Dev.modLedg (d : Dev) (f : Ledg → Ledg) : Dev := { d with ledg := f d.ledg }
/-- The device with its `flt` record changed. -/
def Dev.modFlt (d : Dev) (f : Flt → Flt) : Dev := { d with flt := f d.flt }
/-- The device with its `pwr` record changed. -/
def Dev.modPwr (d : Dev) (f : Pwr → Pwr) : Dev := { d with pwr := f d.pwr }
/-- The device with its `dom` record changed. -/
def Dev.modDom (d : Dev) (f : Domains → Domains) : Dev := { d with dom := f d.dom }
/-- The device with its `boot` record changed. -/
def Dev.modBoot (d : Dev) (f : Boot → Boot) : Dev := { d with boot := f d.boot }
/-- The device with its `dram` record changed. -/
def Dev.modDram (d : Dev) (f : Dram → Dram) : Dev := { d with dram := f d.dram }
/-- The device with its `hed` record changed. -/
def Dev.modHed (d : Dev) (f : Hed → Hed) : Dev := { d with hed := f d.hed }
/-- The device with its `fwd` record changed. -/
def Dev.modFwd (d : Dev) (f : Fwd → Fwd) : Dev := { d with fwd := f d.fwd }
/-- The device with its `net` record changed. -/
def Dev.modNet (d : Dev) (f : Net → Net) : Dev := { d with net := f d.net }
/-- The device with its `ciph` record changed. -/
def Dev.modCiph (d : Dev) (f : Ciph → Ciph) : Dev := { d with ciph := f d.ciph }
/-- The device with its `stor` record changed. -/
def Dev.modStor (d : Dev) (f : Stor → Stor) : Dev := { d with stor := f d.stor }
/-- The device with its `reed` record changed. -/
def Dev.modReed (d : Dev) (f : Reed → Reed) : Dev := { d with reed := f d.reed }
/-- The device with its `barb` record changed. -/
def Dev.modBarb (d : Dev) (f : Barb → Barb) : Dev := { d with barb := f d.barb }
/-- The device with its `mbox` record changed. -/
def Dev.modMbox (d : Dev) (f : Mbox → Mbox) : Dev := { d with mbox := f d.mbox }
/-- The device with its `hif` record changed. -/
def Dev.modHif (d : Dev) (f : Hif → Hif) : Dev := { d with hif := f d.hif }
/-- The device with its persistent store changed. -/
def Dev.modStore (d : Dev) (f : Store → Store) : Dev := d.modBoot (fun b => { b with store := f b.store })

/-! ## Bytes and numbers -/

/-- The number whose little-endian bytes are given (R19: multi-byte fields are little-endian). -/
def leNat : List Byte → Nat
  | [] => 0
  | b :: t => b.toNat + 256 * leNat t

/-- The number whose big-endian bytes are given. -/
def beNat (l : List Byte) : Nat := leNat l.reverse

/-- The `n` little-endian bytes of a number. -/
def leBytes : Nat → Nat → List Byte
  | 0, _ => []
  | n + 1, x => BitVec.ofNat 8 x :: leBytes n (x / 256)

/-- The `n` big-endian bytes of a number. -/
def beBytes (n x : Nat) : List Byte := (leBytes n x).reverse

/-- `n` bytes of a list from an offset; bytes past its end read 0. -/
def sliceBytes (l : List Byte) (off n : Nat) : List Byte := (List.range n).map (fun i => l.getD (off + i) 0)

/-- A list with bytes stored over it from an offset; nothing is stored past its end. -/
def patchBytes (l : List Byte) (off : Nat) (b : List Byte) : List Byte :=
  l.take off ++ (b.take (l.length - off)) ++ l.drop (off + b.length)

/-- The quotient rounded up. -/
def ceilDiv (a b : Nat) : Nat := (a + b - 1) / b

/-- Two's complement reading of the low `w` bits. -/
def signedOf (w x : Nat) : Int := if x % 2 ^ w < 2 ^ (w - 1) then (x % 2 ^ w : Nat) else (x % 2 ^ w : Nat) - (2 ^ w : Nat)

/-- Two's complement bits of an integer. -/
def unsignedOf (w : Nat) (x : Int) : Nat := (x % (2 ^ w : Nat)).toNat

/-- A sum held at an upper limit. -/
def satAdd (lim a b : Nat) : Nat := min lim (a + b)

/-- Record bits: read and write a field of a table record. -/
def recGet (r : Rec) (b : Bits) : Nat := bitsOf r.toNat b.lo b.width
/-- A table record with one field written. -/
def recSet (r : Rec) (b : Bits) (v : Nat) : Rec := BitVec.ofNat 2048 (bitsSet r.toNat b.lo b.width v)

/-! ## Register reset entries -/

/-- Where an address falls in a register: the instance and the byte offset inside the register. -/
def RegDesc.locate (r : RegDesc) (a : Nat) : Option (Nat × Nat) :=
  if a < r.addr then none else
  match r.dims with
  | [] => if a - r.addr < r.size then some (0, a - r.addr) else none
  | [(n, s)] =>
    if (a - r.addr) / s < n && (a - r.addr) % s < r.size then some ((a - r.addr) / s, (a - r.addr) % s) else none
  | (n, s) :: (m, t) :: _ =>
    if (a - r.addr) / s < n && (a - r.addr) % s / t < m && (a - r.addr) % s % t < r.size
    then some ((a - r.addr) / s, (a - r.addr) % s % t) else none

/-- The register at an address with its instance and byte offset. -/
def findReg : List RegDesc → Nat → Option (RegDesc × Nat × Nat)
  | [], _ => none
  | r :: t, a => match r.locate a with
    | some (i, o) => some (r, i, o)
    | none => findReg t a

/-- The register of BAR0 at an address, with its instance and byte offset. -/
def regOf (a : Nat) : Option (RegDesc × Nat × Nat) := findReg (regsAt a) a

/-- The number a Reset entry gives for an instance; a named source (image, fuses, store, …) gives nothing here. -/
def ResetEntry.value : ResetEntry → Nat → Nat
  | .const n, _ => n
  | .inst, i => i
  | .each l, i => l.getD i 0
  | .named _, _ => 0

/-- The Reset entries of the fields of one register word that `p` selects. -/
def resetOf (p : Access → Bool) (a : Nat) : Word :=
  match regOf a with
  | none => 0
  | some (r, i, o) =>
    BitVec.ofNat 32 ((r.fields.foldl (fun acc f => if p f.access then acc + (f.reset.value i) * 2 ^ f.lo else acc) 0) / 2 ^ (8 * o))

/-- The live reset word at an address: every field but the SH ones. -/
def liveReset (a : Nat) : Word := resetOf (fun x => x != .sh) a
/-- The SH reset word at an address; TIMEOUT_US of an A/B group is 100 by default (R79). -/
def shReset (a : Nat) : Word :=
  if 0x2F1000 ≤ a ∧ a < 0x2F3000 ∧ a % 8 = 4 then 100 else resetOf (fun x => x == .sh) a

/-! ## Fields -/

/-- A word of a sparse word store whose unlisted words read `dflt`. -/
def wordAt (dflt : Nat → Word) (m : SMap Word) (a : Nat) : Word := (mapGet m a).getD (dflt a)

/-- The value of a field in a word store. -/
def fieldGet (dflt : Nat → Word) (m : SMap Word) (f : Fld) : Nat :=
  if f.lo + f.width ≤ 32 then bitsOf (wordAt dflt m f.addr).toNat f.lo f.width
  else bitsOf ((wordAt dflt m f.addr).toNat + 2 ^ 32 * (wordAt dflt m (f.addr + 4)).toNat) f.lo f.width

/-- A word store with one field written. -/
def fieldSet (dflt : Nat → Word) (m : SMap Word) (f : Fld) (v : Nat) : SMap Word :=
  if f.lo + f.width ≤ 32 then
    mapPut m f.addr (BitVec.ofNat 32 (bitsSet (wordAt dflt m f.addr).toNat f.lo f.width v))
  else
    let x := bitsSet ((wordAt dflt m f.addr).toNat + 2 ^ 32 * (wordAt dflt m (f.addr + 4)).toNat) f.lo f.width v
    mapPut (mapPut m f.addr (BitVec.ofNat 32 x)) (f.addr + 4) (BitVec.ofNat 32 (x / 2 ^ 32))

/-- The live value of a register field. -/
def Dev.get (d : Dev) (f : Fld) : Nat := fieldGet liveReset d.bus.words f
/-- The device with the live value of a register field written by the module. -/
def Dev.set (d : Dev) (f : Fld) (v : Nat) : Dev :=
  { d with bus := { d.bus with words := fieldSet liveReset d.bus.words f v } }
/-- A one-bit field as a Bool. -/
def Dev.flag (d : Dev) (f : Fld) : Bool := d.get f == 1
/-- The value of an SH field in a configuration set. -/
def CfgSet.get (c : CfgSet) (f : Fld) : Nat := fieldGet shReset c.words f
/-- A configuration set with one SH field written. -/
def CfgSet.set (c : CfgSet) (f : Fld) (v : Nat) : CfgSet := { c with words := fieldSet shReset c.words f v }
/-- The active value of an SH field (R11). -/
def Dev.sh (d : Dev) (f : Fld) : Nat := d.cfg.active.get f
/-- The live words are plain words at a byte address: one word written. -/
def Dev.putWord (d : Dev) (a : Nat) (w : Word) : Dev :=
  { d with bus := { d.bus with words := mapPut d.bus.words a w } }
/-- One live word. -/
def Dev.word (d : Dev) (a : Nat) : Word := wordAt liveReset d.bus.words a

/-- `n` words written from an address, the lowest first. -/
def Dev.putWords (d : Dev) (a : Nat) : Nat → Nat → Dev
  | 0, _ => d
  | n + 1, x => (d.putWord a (BitVec.ofNat 32 x)).putWords (a + 4) n (x / 2 ^ 32)

/-- The number held by `n` live words from an address, the lowest word first. -/
def Dev.words (d : Dev) (a : Nat) : Nat → Nat
  | 0 => 0
  | n + 1 => (d.word a).toNat + 2 ^ 32 * d.words (a + 4) n

/-- The bytes of a window. -/
def Dev.winBytes (d : Dev) (a n : Nat) : List Byte := leBytes n (d.words a (ceilDiv n 4))

/-! ## Counts, events, logs -/

/-- The live value of a 64-bit count (R10). -/
def Dev.ctr (d : Dev) (k : Nat) : Nat := (mapGetD d.bus.ctr k 0).toNat
/-- A live 64-bit value written. -/
def Dev.setCtr (d : Dev) (k v : Nat) : Dev :=
  { d with bus := { d.bus with ctr := mapPut d.bus.ctr k (BitVec.ofNat 64 v) } }
/-- A statistics count advanced. -/
def Dev.count (d : Dev) (k : Nat) (n : Nat := 1) : Dev := d.setCtr k (d.ctr k + n)
/-- An event bit set. -/
def Dev.raise (d : Dev) (f : Fld) : Dev := d.set f 1
/-- What leaves the module at its lands or answers a reader. -/
def Dev.emit (d : Dev) (o : Out) : Dev := { d with out := d.out ++ [o] }
/-- A fresh free value; the counter of the state advances. -/
def Dev.fresh (d : Dev) : Dword × Dev := (Config.freeValue d.free, { d with free := d.free + 1 })

/-- One entry written to a 256-entry log window: at HEAD, advancing HEAD, and TAIL and LOST when 255 entries are unread
(R455). `ix` is the address of the `_INDEX` register, `win` of the window, `words` the entry's words. -/
def Dev.logPut (d : Dev) (ix win words entry : Nat) : Dev :=
  let head := d.get ⟨ix, 0, 8⟩
  let tail := d.get ⟨ix, 8, 8⟩
  let d1 := (d.putWords (win + 4 * words * head) words entry).set ⟨ix, 0, 8⟩ (head + 1)
  if (head + 256 - tail) % 256 = 255 then
    (d1.set ⟨ix, 8, 8⟩ (tail + 1)).set ⟨ix, 16, 16⟩ (satAdd 65535 (d.get ⟨ix, 16, 16⟩) 1)
  else d1

/-! ## Quartz time -/

/-- One unit of 2^-16 ns in the units of `Time.q`. -/
def unit16 : Nat := 6 * 2 ^ 32
/-- The modulus of Quartz time: 2^64 ns (R82). -/
def quartzMod : Nat := 2 ^ 64 * 2 ^ 16 * unit16
/-- Quartz time in 2^-16 ns: TIME_NS and FRAC as one number (R82, R84). -/
def Dev.now (d : Dev) : Nat := d.time.q / unit16
/-- TIME_NS now. -/
def Dev.nowNs (d : Dev) : Nat := d.now / 65536
/-- A time in 2^-16 ns as the 80-bit field of R19: nanoseconds in bits 63:0, fraction in bits 79:64. -/
def stampField (t : Nat) : Nat := (t / 65536) % 2 ^ 64 + 2 ^ 64 * (t % 65536)
/-- The time in 2^-16 ns that an 80-bit field holds. -/
def fieldStamp (x : Nat) : Nat := (x % 2 ^ 64) * 65536 + (x / 2 ^ 64) % 65536
/-- A time rounded to the nearest multiple of `unit`, a tie taking the later value (R89, R91). -/
def roundTo (unit t : Nat) : Nat := (2 * t + unit) / (2 * unit) * unit
/-- A network stamp: the instant rounded to 250 ps (R89). -/
def netStamp (t : Nat) : Nat := roundTo 16384 t
/-- A host stamp: the instant rounded to 1 ns (R91). -/
def hostStamp (t : Nat) : Nat := roundTo 65536 t
/-- The sum of the steps applied since an epoch, in 2^-16 ns (R102). -/
def Dev.epochSum (d : Dev) (e : Nat) : Int := d.time.epochSum.getD e 0
/-- The current step epoch. -/
def Dev.epoch (d : Dev) : Nat := d.get F.TIME_STATUS_EPOCH
/-- A time of an epoch brought onto the present scale (R102). -/
def Dev.onScale (d : Dev) (t e : Nat) : Int := (t : Int) + d.epochSum e

/-! ## DDR5 -/

/-- A byte of DDR5; a byte nothing has written reads 0, because training clears DDR5 (R371, R402; DESIGN CHOICE, assumption log 6). -/
def memGet (m : List Host.Cell) (a : Nat) : Byte := (mapGet m a).getD 0
/-- A byte written, the canonical form kept: a zero byte is not listed. -/
def memPut (m : List Host.Cell) (a : Nat) (b : Byte) : List Host.Cell := if b = 0 then mapErase m a else mapPut m a b
/-- Bytes written from an address. -/
def memWrite (m : List Host.Cell) (a : Nat) : List Byte → List Host.Cell
  | [] => m
  | b :: t => memWrite (memPut m a b) (a + 1) t
/-- `n` bytes read from an address. -/
def memRead (m : List Host.Cell) (a n : Nat) : List Byte := (List.range n).map (fun i => memGet m (a + i))
/-- The canonical form of DDR5: keys rise strictly and no listed byte is 0. -/
def memWf (m : List Host.Cell) : Bool := mapSorted m && m.all (fun p => p.2 != 0)
/-- The hash of an owner public key burned into the next unwritten place (R396). -/
def Fuses.enroll (f : Fuses) (h : List Byte) : Fuses :=
  match f.places.findIdx? (fun p => p.isNone) with
  | none => f
  | some k => { f with places := f.places.set k (some { hash := h, revoked := false }) }
/-- The REVOKED bit of a place burned (R396). -/
def Fuses.revoke (f : Fuses) (k : Nat) : Fuses :=
  match f.places.getD k none with
  | none => f
  | some x => { f with places := f.places.set k (some { x with revoked := true }) }
/-- One byte queued: it joins the write queued for its 64-byte block in place of the byte queued there before, or begins a new one (R366). -/
def queueByte (q : List (Nat × List Host.Cell)) (a : Nat) (b : Byte) : List (Nat × List Host.Cell) :=
  let q := q.map (fun e => (e.1, mapErase e.2 a))
  if q.any (fun e => e.1 == a / 64) then q.map (fun e => if e.1 = a / 64 then (e.1, mapPut e.2 a b) else e) else q ++ [(a / 64, [(a, b)])]
/-- Bytes queued from an address. -/
def queueBytes (q : List (Nat × List Host.Cell)) (a : Nat) : List Byte → List (Nat × List Host.Cell)
  | [] => q
  | b :: t => queueBytes (queueByte q a b) (a + 1) t
/-- A write placed in the DDR5 write queue: a block has at most one write queued (R366). A requester whose channel has 64 writes queued waits,
which is timing: its write stands in the queue from the moment it asks. -/
def Dev.ddrWrite (d : Dev) (a : Nat) (b : List Byte) : Dev :=
  { d with dram := { d.dram with wq := queueBytes d.dram.wq a b } }
/-- The bytes of one queued write in memory. -/
def memCells (m : List Host.Cell) (l : List Host.Cell) : List Host.Cell := l.foldl (fun m c => memPut m c.1 c.2) m
/-- DDR5 as a read sees it: every queued write is ahead of a later read of its bytes (R366). -/
def ddrView (m : List Host.Cell) (wq : List (Nat × List Host.Cell)) : List Host.Cell :=
  wq.foldl (fun m w => memCells m w.2) m

end Sys2Proof.Machine
end

