-- ==== Sys2Proof/Machine/Crypto.lean ====
section
/-! DEFINITION. The published algorithms the spec names: SHA-512 (R122), Ed25519 of RFC 8032 (R124), AES with GCM and XTS
(R202 to R208, R228), the reflected check values (R233). Constants are those of the standards. -/
namespace Sys2Proof.Machine
open Sys2Proof

/-! ## SHA-512 -/

/-- The round constants of SHA-512. -/
def sha512K : List Nat :=
  [0x428a2f98d728ae22, 0x7137449123ef65cd, 0xb5c0fbcfec4d3b2f, 0xe9b5dba58189dbbc] ++
  [0x3956c25bf348b538, 0x59f111f1b605d019, 0x923f82a4af194f9b, 0xab1c5ed5da6d8118] ++
  [0xd807aa98a3030242, 0x12835b0145706fbe, 0x243185be4ee4b28c, 0x550c7dc3d5ffb4e2] ++
  [0x72be5d74f27b896f, 0x80deb1fe3b1696b1, 0x9bdc06a725c71235, 0xc19bf174cf692694] ++
  [0xe49b69c19ef14ad2, 0xefbe4786384f25e3, 0x0fc19dc68b8cd5b5, 0x240ca1cc77ac9c65] ++
  [0x2de92c6f592b0275, 0x4a7484aa6ea6e483, 0x5cb0a9dcbd41fbd4, 0x76f988da831153b5] ++
  [0x983e5152ee66dfab, 0xa831c66d2db43210, 0xb00327c898fb213f, 0xbf597fc7beef0ee4] ++
  [0xc6e00bf33da88fc2, 0xd5a79147930aa725, 0x06ca6351e003826f, 0x142929670a0e6e70] ++
  [0x27b70a8546d22ffc, 0x2e1b21385c26c926, 0x4d2c6dfc5ac42aed, 0x53380d139d95b3df] ++
  [0x650a73548baf63de, 0x766a0abb3c77b2a8, 0x81c2c92e47edaee6, 0x92722c851482353b] ++
  [0xa2bfe8a14cf10364, 0xa81a664bbc423001, 0xc24b8b70d0f89791, 0xc76c51a30654be30] ++
  [0xd192e819d6ef5218, 0xd69906245565a910, 0xf40e35855771202a, 0x106aa07032bbd1b8] ++
  [0x19a4c116b8d2d0c8, 0x1e376c085141ab53, 0x2748774cdf8eeb99, 0x34b0bcb5e19b48a8] ++
  [0x391c0cb3c5c95a63, 0x4ed8aa4ae3418acb, 0x5b9cca4f7763e373, 0x682e6ff3d6b2b8a3] ++
  [0x748f82ee5defb2fc, 0x78a5636f43172f60, 0x84c87814a1f0ab72, 0x8cc702081a6439ec] ++
  [0x90befffa23631e28, 0xa4506cebde82bde9, 0xbef9a3f7b2c67915, 0xc67178f2e372532b] ++
  [0xca273eceea26619c, 0xd186b8c721c0c207, 0xeada7dd6cde0eb1e, 0xf57d4f7fee6ed178] ++
  [0x06f067aa72176fba, 0x0a637dc5a2c898a6, 0x113f9804bef90dae, 0x1b710b35131c471b] ++
  [0x28db77f523047d84, 0x32caab7b40c72493, 0x3c9ebe0a15c9bebc, 0x431d67c49c100d4c] ++
  [0x4cc5d4becb3e42b6, 0x597f299cfc657e2a, 0x5fcb6fab3ad6faec, 0x6c44198c4a475817]

/-- The initial chaining value of SHA-512. -/
def sha512H0 : List Nat :=
  [0x6a09e667f3bcc908, 0xbb67ae8584caa73b, 0x3c6ef372fe94f82b, 0xa54ff53a5f1d36f1] ++
  [0x510e527fade682d1, 0x9b05688c2b3e6c1f, 0x1f83d9abfb41bd6b, 0x5be0cd19137e2179]

def rotr64 (x n : Nat) : Nat := (x >>> n) ||| ((x <<< (64 - n)) % 2 ^ 64)

/-- The 80 message words, newest first. -/
def sha512Schedule : Nat → List Nat → List Nat
  | 0, w => w
  | n + 1, w =>
    let a := w.getD 14 0
    let b := w.getD 1 0
    let s0 := rotr64 a 1 ^^^ rotr64 a 8 ^^^ (a >>> 7)
    let s1 := rotr64 b 19 ^^^ rotr64 b 61 ^^^ (b >>> 6)
    sha512Schedule n (((w.getD 15 0 + s0 + w.getD 6 0 + s1) % 2 ^ 64) :: w)

def sha512Round (s : List Nat) (kw : Nat) : List Nat :=
  match s with
  | [a, b, c, d, e, f, g, h] =>
    let s1 := rotr64 e 14 ^^^ rotr64 e 18 ^^^ rotr64 e 41
    let ch := (e &&& f) ^^^ ((2 ^ 64 - 1 - e) &&& g)
    let t1 := (h + s1 + ch + kw) % 2 ^ 64
    let s0 := rotr64 a 28 ^^^ rotr64 a 34 ^^^ rotr64 a 39
    let mj := (a &&& b) ^^^ (a &&& c) ^^^ (b &&& c)
    [(t1 + s0 + mj) % 2 ^ 64, a, b, c, (d + t1) % 2 ^ 64, e, f, g]
  | _ => s

/-- One block of 16 words. -/
def sha512Block (h : List Nat) (m : List Nat) : List Nat :=
  let w := (sha512Schedule 64 m.reverse).reverse
  let r := (List.zipWith (· + ·) sha512K w).foldl sha512Round h
  List.zipWith (fun x y => (x + y) % 2 ^ 64) h r

/-- The big-endian words of `n` blocks. -/
def sha512Blocks : Nat → List Byte → List Nat → List Nat
  | 0, _, h => h
  | n + 1, l, h =>
    sha512Blocks n (l.drop 128) (sha512Block h ((List.range 16).map (fun i => beNat (sliceBytes l (8 * i) 8))))

/-- SHA-512 of a byte string: 64 bytes. -/
def sha512 (l : List Byte) : List Byte :=
  let pad := (111 + 128 - l.length % 128) % 128
  let m := l ++ [0x80] ++ List.replicate pad 0 ++ beBytes 16 (8 * l.length)
  (sha512Blocks (m.length / 128) m sha512H0).flatMap (beBytes 8)

/-- HMAC with SHA-512. -/
def hmac512 (key msg : List Byte) : List Byte :=
  let k0 := if key.length > 128 then sha512 key else key
  let k := k0 ++ List.replicate (128 - k0.length) 0
  sha512 (k.map (· ^^^ 0x5c) ++ sha512 (k.map (· ^^^ 0x36) ++ msg))

/-! ## Ed25519 -/

def edP : Nat := 2 ^ 255 - 19
def edL : Nat := 2 ^ 252 + 27742317777372353535851937790883648493
def powMod (b e m : Nat) : Nat :=
  (List.range 256).reverse.foldl (fun r i => let s := r * r % m; if e.testBit i then s * b % m else s) 1
def edInv (x : Nat) : Nat := powMod x (edP - 2) edP
def edD : Nat := (edP - 121665) * edInv 121666 % edP

/-- A point in extended coordinates (X, Y, Z, T). -/
abbrev EdPoint := Nat × Nat × Nat × Nat
def edAdd (p q : EdPoint) : EdPoint :=
  let (x1, y1, z1, t1) := p
  let (x2, y2, z2, t2) := q
  let a := (y1 + edP - x1) * (y2 + edP - x2) % edP
  let b := (y1 + x1) * (y2 + x2) % edP
  let c := 2 * t1 * t2 * edD % edP
  let d := 2 * z1 * z2 % edP
  let e := (b + edP - a) % edP
  let f := (d + edP - c) % edP
  let g := (d + c) % edP
  let h := (b + a) % edP
  (e * f % edP, g * h % edP, f * g % edP, e * h % edP)
def edMul (s : Nat) (p : EdPoint) : EdPoint :=
  (List.range 256).reverse.foldl (fun r i => let d := edAdd r r; if s.testBit i then edAdd d p else d) (0, 1, 1, 0)
/-- The x coordinate of the given parity that belongs to y. -/
def edRecoverX (y sign : Nat) : Option Nat :=
  if y ≥ edP then none else
  let u := (y * y + edP - 1) % edP
  let v := (edD * (y * y) + 1) % edP
  let x2 := u * edInv v % edP
  let x := powMod x2 ((edP + 3) / 8) edP
  let x' := if x * x % edP = x2 then x else x * powMod 2 ((edP - 1) / 4) edP % edP
  if x' * x' % edP ≠ x2 then none
  else if x' = 0 ∧ sign = 1 then none
  else if x' % 2 = sign then some x' else some (edP - x')
def edBase : EdPoint :=
  let y := 4 * edInv 5 % edP
  match edRecoverX y 0 with
  | some x => (x, y, 1, x * y % edP)
  | none => (0, 1, 1, 0)
def edCompress (p : EdPoint) : List Byte :=
  let (x, y, z, _) := p
  let zi := edInv z
  leBytes 32 (y * zi % edP + 2 ^ 255 * (x * zi % edP % 2))
def edDecompress (b : List Byte) : Option EdPoint :=
  let n := leNat b
  match edRecoverX (n % 2 ^ 255) (n / 2 ^ 255) with
  | some x => some (x, n % 2 ^ 255, 1, x * (n % 2 ^ 255) % edP)
  | none => none
/-- The clamped scalar of a private key. -/
def edScalar (h : List Byte) : Nat := leNat (h.take 32) % 2 ^ 254 / 8 * 8 + 2 ^ 254
/-- The Ed25519 public key of a 32-byte private key. -/
def edPublic (sk : List Byte) : List Byte := edCompress (edMul (edScalar (sha512 sk)) edBase)
/-- The Ed25519 signature of a message (RFC 8032, 5.1.6). -/
def edSign (sk msg : List Byte) : List Byte :=
  let h := sha512 sk
  let a := edScalar h
  let pk := edCompress (edMul a edBase)
  let r := leNat (sha512 (h.drop 32 ++ msg)) % edL
  let rs := edCompress (edMul r edBase)
  let k := leNat (sha512 (rs ++ pk ++ msg)) % edL
  rs ++ leBytes 32 ((r + k * a) % edL)
/-- The Ed25519 check of a signature (RFC 8032, 5.1.7). -/
def edVerify (pk msg sig : List Byte) : Bool :=
  match edDecompress pk, edDecompress (sig.take 32) with
  | some a, some r =>
    let s := leNat (sig.drop 32)
    let k := leNat (sha512 (sig.take 32 ++ pk ++ msg)) % edL
    sig.length == 64 && s < edL && edCompress (edMul s edBase) == edCompress (edAdd r (edMul k a))
  | _, _ => false

/-! ## AES -/

def aesSbox : List Byte :=
  [0x63, 0x7c, 0x77, 0x7b, 0xf2, 0x6b, 0x6f, 0xc5, 0x30, 0x01, 0x67, 0x2b, 0xfe, 0xd7, 0xab, 0x76] ++
  [0xca, 0x82, 0xc9, 0x7d, 0xfa, 0x59, 0x47, 0xf0, 0xad, 0xd4, 0xa2, 0xaf, 0x9c, 0xa4, 0x72, 0xc0] ++
  [0xb7, 0xfd, 0x93, 0x26, 0x36, 0x3f, 0xf7, 0xcc, 0x34, 0xa5, 0xe5, 0xf1, 0x71, 0xd8, 0x31, 0x15] ++
  [0x04, 0xc7, 0x23, 0xc3, 0x18, 0x96, 0x05, 0x9a, 0x07, 0x12, 0x80, 0xe2, 0xeb, 0x27, 0xb2, 0x75] ++
  [0x09, 0x83, 0x2c, 0x1a, 0x1b, 0x6e, 0x5a, 0xa0, 0x52, 0x3b, 0xd6, 0xb3, 0x29, 0xe3, 0x2f, 0x84] ++
  [0x53, 0xd1, 0x00, 0xed, 0x20, 0xfc, 0xb1, 0x5b, 0x6a, 0xcb, 0xbe, 0x39, 0x4a, 0x4c, 0x58, 0xcf] ++
  [0xd0, 0xef, 0xaa, 0xfb, 0x43, 0x4d, 0x33, 0x85, 0x45, 0xf9, 0x02, 0x7f, 0x50, 0x3c, 0x9f, 0xa8] ++
  [0x51, 0xa3, 0x40, 0x8f, 0x92, 0x9d, 0x38, 0xf5, 0xbc, 0xb6, 0xda, 0x21, 0x10, 0xff, 0xf3, 0xd2] ++
  [0xcd, 0x0c, 0x13, 0xec, 0x5f, 0x97, 0x44, 0x17, 0xc4, 0xa7, 0x7e, 0x3d, 0x64, 0x5d, 0x19, 0x73] ++
  [0x60, 0x81, 0x4f, 0xdc, 0x22, 0x2a, 0x90, 0x88, 0x46, 0xee, 0xb8, 0x14, 0xde, 0x5e, 0x0b, 0xdb] ++
  [0xe0, 0x32, 0x3a, 0x0a, 0x49, 0x06, 0x24, 0x5c, 0xc2, 0xd3, 0xac, 0x62, 0x91, 0x95, 0xe4, 0x79] ++
  [0xe7, 0xc8, 0x37, 0x6d, 0x8d, 0xd5, 0x4e, 0xa9, 0x6c, 0x56, 0xf4, 0xea, 0x65, 0x7a, 0xae, 0x08] ++
  [0xba, 0x78, 0x25, 0x2e, 0x1c, 0xa6, 0xb4, 0xc6, 0xe8, 0xdd, 0x74, 0x1f, 0x4b, 0xbd, 0x8b, 0x8a] ++
  [0x70, 0x3e, 0xb5, 0x66, 0x48, 0x03, 0xf6, 0x0e, 0x61, 0x35, 0x57, 0xb9, 0x86, 0xc1, 0x1d, 0x9e] ++
  [0xe1, 0xf8, 0x98, 0x11, 0x69, 0xd9, 0x8e, 0x94, 0x9b, 0x1e, 0x87, 0xe9, 0xce, 0x55, 0x28, 0xdf] ++
  [0x8c, 0xa1, 0x89, 0x0d, 0xbf, 0xe6, 0x42, 0x68, 0x41, 0x99, 0x2d, 0x0f, 0xb0, 0x54, 0xbb, 0x16]

def aesSboxInv : List Byte :=
  [0x52, 0x09, 0x6a, 0xd5, 0x30, 0x36, 0xa5, 0x38, 0xbf, 0x40, 0xa3, 0x9e, 0x81, 0xf3, 0xd7, 0xfb] ++
  [0x7c, 0xe3, 0x39, 0x82, 0x9b, 0x2f, 0xff, 0x87, 0x34, 0x8e, 0x43, 0x44, 0xc4, 0xde, 0xe9, 0xcb] ++
  [0x54, 0x7b, 0x94, 0x32, 0xa6, 0xc2, 0x23, 0x3d, 0xee, 0x4c, 0x95, 0x0b, 0x42, 0xfa, 0xc3, 0x4e] ++
  [0x08, 0x2e, 0xa1, 0x66, 0x28, 0xd9, 0x24, 0xb2, 0x76, 0x5b, 0xa2, 0x49, 0x6d, 0x8b, 0xd1, 0x25] ++
  [0x72, 0xf8, 0xf6, 0x64, 0x86, 0x68, 0x98, 0x16, 0xd4, 0xa4, 0x5c, 0xcc, 0x5d, 0x65, 0xb6, 0x92] ++
  [0x6c, 0x70, 0x48, 0x50, 0xfd, 0xed, 0xb9, 0xda, 0x5e, 0x15, 0x46, 0x57, 0xa7, 0x8d, 0x9d, 0x84] ++
  [0x90, 0xd8, 0xab, 0x00, 0x8c, 0xbc, 0xd3, 0x0a, 0xf7, 0xe4, 0x58, 0x05, 0xb8, 0xb3, 0x45, 0x06] ++
  [0xd0, 0x2c, 0x1e, 0x8f, 0xca, 0x3f, 0x0f, 0x02, 0xc1, 0xaf, 0xbd, 0x03, 0x01, 0x13, 0x8a, 0x6b] ++
  [0x3a, 0x91, 0x11, 0x41, 0x4f, 0x67, 0xdc, 0xea, 0x97, 0xf2, 0xcf, 0xce, 0xf0, 0xb4, 0xe6, 0x73] ++
  [0x96, 0xac, 0x74, 0x22, 0xe7, 0xad, 0x35, 0x85, 0xe2, 0xf9, 0x37, 0xe8, 0x1c, 0x75, 0xdf, 0x6e] ++
  [0x47, 0xf1, 0x1a, 0x71, 0x1d, 0x29, 0xc5, 0x89, 0x6f, 0xb7, 0x62, 0x0e, 0xaa, 0x18, 0xbe, 0x1b] ++
  [0xfc, 0x56, 0x3e, 0x4b, 0xc6, 0xd2, 0x79, 0x20, 0x9a, 0xdb, 0xc0, 0xfe, 0x78, 0xcd, 0x5a, 0xf4] ++
  [0x1f, 0xdd, 0xa8, 0x33, 0x88, 0x07, 0xc7, 0x31, 0xb1, 0x12, 0x10, 0x59, 0x27, 0x80, 0xec, 0x5f] ++
  [0x60, 0x51, 0x7f, 0xa9, 0x19, 0xb5, 0x4a, 0x0d, 0x2d, 0xe5, 0x7a, 0x9f, 0x93, 0xc9, 0x9c, 0xef] ++
  [0xa0, 0xe0, 0x3b, 0x4d, 0xae, 0x2a, 0xf5, 0xb0, 0xc8, 0xeb, 0xbb, 0x3c, 0x83, 0x53, 0x99, 0x61] ++
  [0x17, 0x2b, 0x04, 0x7e, 0xba, 0x77, 0xd6, 0x26, 0xe1, 0x69, 0x14, 0x63, 0x55, 0x21, 0x0c, 0x7d]

def aesSub (b : Byte) : Byte := aesSbox.getD b.toNat 0
def aesX2 (b : Byte) : Byte := (b <<< 1) ^^^ (if b.msb then 0x1b else 0)
def xorBytes (a b : List Byte) : List Byte := List.zipWith (· ^^^ ·) a b
/-- The expanded key, 4-byte words, newest first. `nk` is 4 or 8. -/
def aesExpand (nk : Nat) : Nat → List (List Byte) → Byte → List (List Byte)
  | 0, w, _ => w
  | n + 1, w, rc =>
    let t := w.headD []
    let back := w.getD (nk - 1) []
    if w.length % nk = 0 then
      let t' := match t with
        | [a, b, c, d] => [aesSub b ^^^ rc, aesSub c, aesSub d, aesSub a]
        | x => x
      aesExpand nk n (xorBytes back t' :: w) (aesX2 rc)
    else if nk > 6 ∧ w.length % nk = 4 then aesExpand nk n (xorBytes back (t.map aesSub) :: w) rc
    else aesExpand nk n (xorBytes back t :: w) rc
/-- The round keys of a 16- or 32-byte key, 16 bytes each. -/
def aesKeys (key : List Byte) : List (List Byte) :=
  let nk := key.length / 4
  let nr := nk + 6
  let w0 := ((List.range nk).map (fun i => sliceBytes key (4 * i) 4)).reverse
  let w := (aesExpand nk (4 * (nr + 1) - nk) w0 1).reverse.flatten
  (List.range (nr + 1)).map (fun i => sliceBytes w (16 * i) 16)
def aesShift (l : List Byte) : List Byte :=
  (List.range 16).map (fun i => l.getD ((i + 4 * (i % 4)) % 16) 0)
def aesMixCol (a b c d : Byte) : List Byte :=
  [aesX2 a ^^^ aesX2 b ^^^ b ^^^ c ^^^ d, a ^^^ aesX2 b ^^^ aesX2 c ^^^ c ^^^ d,
   a ^^^ b ^^^ aesX2 c ^^^ aesX2 d ^^^ d, aesX2 a ^^^ a ^^^ b ^^^ c ^^^ aesX2 d]
def aesMix (l : List Byte) : List Byte :=
  (List.range 4).flatMap (fun i => aesMixCol (l.getD (4 * i) 0) (l.getD (4 * i + 1) 0) (l.getD (4 * i + 2) 0) (l.getD (4 * i + 3) 0))
def aesRounds : List (List Byte) → List Byte → List Byte
  | [], s => s
  | [k], s => xorBytes (aesShift (s.map aesSub)) k
  | k :: t, s => aesRounds t (xorBytes (aesMix (aesShift (s.map aesSub))) k)
/-- One AES block encrypted. -/
def aesBlock (key blk : List Byte) : List Byte :=
  match aesKeys key with
  | k :: t => aesRounds t (xorBytes blk k)
  | [] => blk
def aesShiftInv (l : List Byte) : List Byte := (List.range 16).map (fun i => l.getD ((i + 16 - 4 * (i % 4)) % 16) 0)
def aesMixInv (l : List Byte) : List Byte := aesMix (aesMix (aesMix l))
def aesRoundsInv : List (List Byte) → List Byte → List Byte
  | [], s => s
  | [k], s => xorBytes ((aesShiftInv s).map (fun b => aesSboxInv.getD b.toNat 0)) k
  | k :: t, s => aesRoundsInv t (aesMixInv (xorBytes ((aesShiftInv s).map (fun b => aesSboxInv.getD b.toNat 0)) k))
/-- One AES block decrypted. -/
def aesBlockInv (key blk : List Byte) : List Byte :=
  match (aesKeys key).reverse with
  | k :: t => aesRoundsInv t (xorBytes blk k)
  | [] => blk

/-! ## AES key wrap (RFC 3394) -/

/-- The blocks of one round: `t` is the step number of the first. -/
def wrapRound (key : List Byte) : Nat → List Byte → List (List Byte) → List Byte × List (List Byte)
  | _, a, [] => (a, [])
  | t, a, r :: rest =>
    let b := aesBlock key (a ++ r)
    let (a', l) := wrapRound key (t + 1) (xorBytes (b.take 8) (beBytes 8 t)) rest
    (a', b.drop 8 :: l)
/-- Rounds of the wrap. -/
def wrapRounds (key : List Byte) : Nat → Nat → List Byte → List (List Byte) → List Byte × List (List Byte)
  | 0, _, a, l => (a, l)
  | n + 1, t, a, l =>
    let (a', l') := wrapRound key t a l
    wrapRounds key n (t + l.length) a' l'
/-- Key bytes, a multiple of 8, wrapped under a key. -/
def aesWrap (key b : List Byte) : List Byte :=
  let l := (List.range (b.length / 8)).map (fun k => sliceBytes b (8 * k) 8)
  let (a, l) := wrapRounds key 6 1 (List.replicate 8 0xA6) l
  a ++ l.flatten

/-- The blocks of one round undone, the last block first: `t` is the step number of the first in hand. -/
def unwrapRound (key : List Byte) : Nat → List Byte → List (List Byte) → List Byte × List (List Byte)
  | _, a, [] => (a, [])
  | t, a, r :: rest =>
    let b := aesBlockInv key (xorBytes a (beBytes 8 t) ++ r)
    let (a', l) := unwrapRound key (t - 1) (b.take 8) rest
    (a', b.drop 8 :: l)
/-- Rounds of the unwrap. -/
def unwrapRounds (key : List Byte) : Nat → Nat → List Byte → List (List Byte) → List Byte × List (List Byte)
  | 0, _, a, l => (a, l)
  | n + 1, t, a, l =>
    let (a', l') := unwrapRound key t a l
    unwrapRounds key n (t - l.length) a' l'
/-- The key bytes of a wrap. -/
def aesUnwrap (key w : List Byte) : List Byte :=
  let l := ((List.range (w.length / 8 - 1)).map (fun k => sliceBytes w (8 * k + 8) 8)).reverse
  ((unwrapRounds key 6 (6 * l.length) (w.take 8) l).2.reverse).flatten

/-! ## GCM -/

/-- Multiplication in GCM's field, operands as big-endian 128-bit numbers. -/
def gcmMul (x y : Nat) : Nat :=
  ((List.range 128).foldl (fun (zv : Nat × Nat) i =>
    let z := if x.testBit (127 - i) then zv.1 ^^^ zv.2 else zv.1
    let v := if zv.2 % 2 = 1 then (zv.2 / 2) ^^^ (0xe1 * 2 ^ 120) else zv.2 / 2
    (z, v)) (0, y)).1
/-- GHASH of whole blocks. -/
def ghash (h : Nat) : Nat → List Byte → Nat → Nat
  | 0, _, y => y
  | n + 1, l, y => ghash h n (l.drop 16) (gcmMul (y ^^^ beNat (l.take 16)) h)
def pad16 (l : List Byte) : List Byte := l ++ List.replicate ((16 - l.length % 16) % 16) 0
/-- `n` counter blocks from a 12-byte nonce and a block number. -/
def ctrStream (key nonce : List Byte) : Nat → Nat → List Byte
  | 0, _ => []
  | n + 1, c => aesBlock key (nonce ++ beBytes 4 c) ++ ctrStream key nonce n (c + 1)
/-- GCM payload: the same function encrypts and decrypts. -/
def gcmCrypt (key nonce data : List Byte) : List Byte :=
  xorBytes data (ctrStream key nonce (ceilDiv data.length 16) 2)
/-- The 16-byte GCM tag over associated data and ciphertext. -/
def gcmTag (key nonce aad ct : List Byte) : List Byte :=
  let h := beNat (aesBlock key (List.replicate 16 0))
  let m := pad16 aad ++ pad16 ct ++ beBytes 8 (8 * aad.length) ++ beBytes 8 (8 * ct.length)
  xorBytes (beBytes 16 (ghash h (m.length / 16) m 0)) (aesBlock key (nonce ++ beBytes 4 1))

/-! ## XTS -/

/-- The next tweak: multiplication by x, little-endian. -/
def xtsNext (t : List Byte) : List Byte :=
  let n := leNat t * 2
  leBytes 16 (if n ≥ 2 ^ 128 then (n - 2 ^ 128) ^^^ 0x87 else n)
/-- XTS over whole 16-byte blocks. -/
def xtsBlocks (f : List Byte → List Byte) : Nat → List Byte → List Byte → List Byte
  | 0, _, _ => []
  | n + 1, t, l => xorBytes (f (xorBytes (l.take 16) t)) t ++ xtsBlocks f n (xtsNext t) (l.drop 16)
/-- XTS-AES of one sector, its number as a 16-byte little-endian tweak. -/
def xtsSector (enc : Bool) (k1 k2 : List Byte) (sector : Nat) (data : List Byte) : List Byte :=
  xtsBlocks (if enc then aesBlock k1 else aesBlockInv k1) (data.length / 16) (aesBlock k2 (leBytes 16 sector)) data

/-! ## Reflected and plain check values -/

/-- One byte into a reflected CRC of width `w` with reversed polynomial `poly`. -/
def crcByte (poly : Nat) (c : Nat) (b : Byte) : Nat :=
  (List.range 8).foldl (fun c _ => if c % 2 = 1 then (c / 2) ^^^ poly else c / 2) (c ^^^ b.toNat)
/-- A reflected CRC over bytes from a running value, without initial or final inversion. -/
def crcRun (poly : Nat) (c : Nat) (l : List Byte) : Nat := l.foldl (crcByte poly) c
/-- CRC-32 of IEEE 802.3. -/
def crc32 (l : List Byte) : Nat := crcRun 0xEDB88320 (2 ^ 32 - 1) l ^^^ (2 ^ 32 - 1)
/-- CRC-32C. -/
def crc32c (l : List Byte) : Nat := crcRun 0x82F63B78 (2 ^ 32 - 1) l ^^^ (2 ^ 32 - 1)
/-- One byte into an unreflected CRC-16 with polynomial 0x1021. -/
def crc16Byte (c : Nat) (b : Byte) : Nat :=
  (List.range 8).foldl (fun c _ => if c ≥ 2 ^ 15 then ((c * 2) % 2 ^ 16) ^^^ 0x1021 else c * 2) (c ^^^ (b.toNat * 256))
/-- CRC-16/CCITT-FALSE. -/
def crc16Ccitt (l : List Byte) : Nat := l.foldl crc16Byte 0xFFFF

end Sys2Proof.Machine
end

