-- ==== Sys2Proof/Machine/Flags.lean ====
section
/-! DEFINITION. Flag and status computations shared by every chapter: module fault codes and their outputs (R389 to R391),
ledger records taken by any unit (R116 to R135), and misses (R56 to R58). The block has no arithmetic status register of its
own; its status bits are the event, fault and shuttle flags named here. -/
namespace Sys2Proof.Machine
open Sys2Proof

/-! ## Fault codes (ch. 16, Table 5) -/

namespace Code
def deadlineMiss : Nat := 0x01
def envelopeShed : Nat := 0x02
def switchover : Nat := 0x03
def standbyLost : Nat := 0x04
def sideRetired : Nat := 0x05
def degraded : Nat := 0x06
def transient : Nat := 0x07
def decisionLost : Nat := 0x08
def gateClaim : Nat := 0x09
def selfTest : Nat := 0x0A
def coreReset : Nat := 0x0B
def unitSpared : Nat := 0x0C
def unitOut : Nat := 0x0D
def wear : Nat := 0x0E
def tableParity : Nat := 0x0F
def sramRepair : Nat := 0x10
def dramUncorr : Nat := 0x11
def dramRepair : Nat := 0x12
def ledgerSeal : Nat := 0x13
def ledgerGap : Nat := 0x14
def entropy : Nat := 0x15
def regulator : Nat := 0x16
def flashSpares : Nat := 0x17
def thermal : Nat := 0x18
def powerInput : Nat := 0x19
def bootImage : Nat := 0x1A
def transientStorm : Nat := 0x1B
end Code

/-- FLT_PEND as its register value. -/
def Dev.pend (d : Dev) : Nat := d.get F.FLT_PEND_CODES * 2
/-- FLT_MASK as its register value. -/
def Dev.mask (d : Dev) : Nat := d.get F.FLT_MASK_MASK * 2

/-- Raising a code sets its bit in FLT_PEND and writes a FLT_LOG entry (R389). -/
def Dev.fault (d : Dev) (code : Nat) (kind unit detail : Nat := 0) : Dev :=
  (d.set ⟨0x1000020, code, 1⟩ 1).logPut 0x1000034 0x1001000 4
    (d.nowNs % 2 ^ 64 + 2 ^ 64 * code + 2 ^ 72 * (kind % 16) + 2 ^ 80 * (unit % 2 ^ 16) + 2 ^ 96 * (detail % 2 ^ 32))

/-- A FATAL code: raised, FAULT_N low, no frame taken any more, the cause recorded, and a module reset due (R391). -/
def Dev.fatal (d : Dev) (code : Nat) : Dev :=
  let d := (d.fault code).raise F.GEN_RESET_CAUSE_FAULT
  { d with sys := { d.sys with stopped := true, fatal := true, resetDue := true } }

/-- The level of an output: low, high, or high impedance (R444). -/
inductive Level where
  | low | high | highZ
  deriving DecidableEq, Repr

/-- Outputs are not driven during module reset and while unpowered (R444). -/
def Dev.driving (d : Dev) : Bool := d.sys.powerGood && !d.sys.inReset
/-- ALERT_N: low whenever FLT_PEND AND NOT FLT_MASK is non-zero; it is open drain (R390). -/
def Dev.alertN (d : Dev) : Level :=
  if !d.driving then .highZ else if (d.pend &&& (2 ^ 32 - 1 - d.mask)) ≠ 0 then .low else .highZ
/-- FAULT_N (R390). -/
def Dev.faultN (d : Dev) : Level :=
  if !d.driving then .highZ else if d.sys.ready && !d.sys.fatal then .high else .low
/-- READY (R402). -/
def Dev.readyPin (d : Dev) : Level := if !d.driving then .highZ else if d.sys.ready then .high else .low

/-! ## Shuttle fields (ch. 1, Table 2) -/

namespace S
def INGRESS_STAMP : Bits := ⟨0, 80⟩
def DEADLINE : Bits := ⟨80, 80⟩
def PORT : Bits := ⟨160, 4⟩
def DIR : Bits := ⟨164, 1⟩
def CLASS : Bits := ⟨168, 2⟩
def TC : Bits := ⟨170, 3⟩
def VERSION : Bits := ⟨176, 4⟩
def PASS : Bits := ⟨180, 3⟩
def STATUS : Bits := ⟨184, 8⟩
def FLOW_ID : Bits := ⟨192, 22⟩
def INSTANCE : Bits := ⟨224, 12⟩
def HOST_LINK : Bits := ⟨236, 1⟩
def LENGTH : Bits := ⟨240, 16⟩
def CELL : Bits := ⟨256, 19⟩
def ACTION : Bits := ⟨288, 32⟩
def RULE : Bits := ⟨320, 22⟩
def RULE_STORE : Bits := ⟨342, 1⟩
def DEST_PORT : Bits := ⟨352, 4⟩
def DEST_VALID : Bits := ⟨356, 1⟩
def DEST_QUEUE : Bits := ⟨357, 14⟩
def OFFSET (i : Nat) : Bits := ⟨384 + 16 * i, 16⟩
def KEY : Bits := ⟨576, 64⟩
def FLAG (b : Nat) : Bits := ⟨640 + b, 1⟩
def FLAGS : Bits := ⟨640, 32⟩
def SA : Bits := ⟨672, 20⟩
def CIPHER_OP : Bits := ⟨692, 3⟩
def FLOW_HASH : Bits := ⟨704, 32⟩
def PROGRAM : Bits := ⟨736, 16⟩
def SCRATCH : Bits := ⟨768, 256⟩
end S

/-! Flag bits of Table 4. -/
namespace Fl
def WITNESSED : Nat := 0
def WITNESS_HASH : Nat := 1
def CUT_THROUGH : Nat := 2
def TAG_PENDING : Nat := 3
def AUTH_FAIL : Nat := 4
def DEADLINE_MISS : Nat := 5
def RECIRCULATE : Nat := 6
def DROP : Nat := 7
def FCS_BAD : Nat := 8
def TRUNCATED : Nat := 9
def HOST_POISON : Nat := 10
def PRP_RCT : Nat := 11
def AB_FIRST : Nat := 12
def DECAP_DONE : Nat := 13
def ENCAP_PENDING : Nat := 14
def PTP_EVENT : Nat := 15
def PTP_CORRECT : Nat := 16
def LEARN : Nat := 17
def FRAGMENT : Nat := 18
def MALFORMED : Nat := 19
def EXCEPTION : Nat := 20
def RETRIED : Nat := 21
end Fl

/-- The value of a shuttle field (R19). -/
def Shut.get (s : Shut) (b : Bits) : Nat := bitsOf s.w.toNat b.lo b.width
/-- A shuttle with one field written. -/
def Shut.set (s : Shut) (b : Bits) (v : Nat) : Shut :=
  { s with w := BitVec.ofNat 1024 (bitsSet s.w.toNat b.lo b.width v) }
/-- A shuttle flag. -/
def Shut.flag (s : Shut) (b : Nat) : Bool := s.get (S.FLAG b) == 1
/-- A shuttle with one flag set. -/
def Shut.mark (s : Shut) (b : Nat) : Shut := s.set (S.FLAG b) 1
/-- A shuttle with one flag cleared. -/
def Shut.unmark (s : Shut) (b : Nat) : Shut := s.set (S.FLAG b) 0
/-- Whether the class is GT or GD (R36). -/
def Shut.guaranteed (s : Shut) : Bool := s.get S.CLASS < 2
/-- DEADLINE all ones: AS and BE (R36). -/
def noDeadline : Nat := 2 ^ 80 - 1
/-- DEADLINE in 2^-16 ns. -/
def Shut.deadline (s : Shut) : Nat := fieldStamp (s.get S.DEADLINE)
/-- The first status code wins: a STATUS written while one is pending is kept (R337). -/
def Shut.status (s : Shut) (c : Nat) : Shut := if s.get S.STATUS = 0 then s.set S.STATUS c else s

/-- The shuttle of an identifier. -/
def Dev.shut (d : Dev) (i : Nat) : Option Shut := mapGet d.shuts i
/-- A shuttle stored. -/
def Dev.putShut (d : Dev) (i : Nat) (s : Shut) : Dev := { d with shuts := mapPut d.shuts i s }
/-- A shuttle released (ch. 1, The shuttle). -/
def Dev.freeShut (d : Dev) (i : Nat) : Dev := { d with shuts := mapErase d.shuts i }
/-- A shuttle that arrives at an arbiter: its stage, and the next place in the order of arrival (R21). -/
def Dev.arrive (d : Dev) (i : Nat) (s : Shut) (g : Stage) : Dev :=
  { (d.putShut i { s with stage := g, seq := d.seq }) with seq := d.seq + 1 }

/-- Work or an access that reaches a gated domain starts its wake (R29, R30). -/
def Dev.wake (d : Dev) (kind unit : Nat) : Dev :=
  if d.dom.gated.contains (kind, unit) && !d.dom.waking.contains (kind, unit)
  then { d with dom := { d.dom with waking := d.dom.waking ++ [(kind, unit)] } } else d
/-- Whether a domain is gated. -/
def Dev.isGated (d : Dev) (kind unit : Nat) : Bool := d.dom.gated.contains (kind, unit)

/-- The configuration set a version names: the active one, or the retiring one (R156, R159). -/
def Dev.setOf (d : Dev) (version : Nat) : CfgSet :=
  if d.cfg.retiringVersion = some version ∧ version ≠ d.cfg.version then d.cfg.retiring else d.cfg.active
/-- The configuration set of a shuttle. -/
def Dev.cfgOf (d : Dev) (s : Shut) : CfgSet := d.setOf (s.get S.VERSION)

/-! ## Taking ledger records (ch. 5) -/

/-- The common record header (R116). `stamp` is in 2^-16 ns. -/
def ledgHeader (stamp port dir kind version cls ext traceable flow alive : Nat) : List Byte :=
  leBytes 16 (stampField stamp + 2 ^ 80 * (port % 16) + 2 ^ 84 * (dir % 2) + 2 ^ 85 * (kind % 8)
    + 2 ^ 88 * (version % 16) + 2 ^ 92 * (cls % 4) + 2 ^ 94 * (ext % 2) + 2 ^ 95 * (traceable % 2)
    + 2 ^ 96 * (flow % 2 ^ 22) + 2 ^ 118 * (alive % 256))

/-- Stream `s` as it stands. -/
def Dev.stream (d : Dev) (s : Nat) : Stream := mapGetD d.ledg.streams s {}
/-- Stream `s` stored. -/
def Dev.putStream (d : Dev) (s : Nat) (x : Stream) : Dev :=
  { d with ledg := { d.ledg with streams := mapPut d.ledg.streams s x } }
/-- LEDG_STREAM_s_HEAD: slots written since the stream started. -/
def kHead (s : Nat) : Nat := 0x401020 + 0x80 * s
/-- LEDG_STREAM_s_EXPORTED. -/
def kExported (s : Nat) : Nat := 0x401028 + 0x80 * s
/-- LEDG_STREAM_s_HOST_TAIL. -/
def kHostTail (s : Nat) : Nat := 0x401030 + 0x80 * s
/-- LEDG_STREAM_s_LAST_SEAL. -/
def kLastSeal (s : Nat) : Nat := 0x401038 + 0x80 * s

/-- The ring's size in slots. -/
def Dev.ringSlots (d : Dev) (s : Nat) : Nat := 2 ^ d.sh (F.LEDG_STREAM_CFG_RING_LOG2 s) / 32
/-- Free slots: a slot may be overwritten only after it has been exported (R130). -/
def Dev.freeSlots (d : Dev) (s : Nat) : Nat := d.ringSlots s - (d.ctr (kHead s) - d.ctr (kExported s))
/-- The DDR5 address of a slot. -/
def Dev.slotAddr (d : Dev) (s slot : Nat) : Nat :=
  d.sh (F.LEDG_STREAM_RING_BASE_BASE s) + 32 * slot % 2 ^ d.sh (F.LEDG_STREAM_CFG_RING_LOG2 s)
/-- The active version, for records not tied to a frame (R116). -/
def Dev.activeVersion (d : Dev) : Nat := d.cfg.version
/-- TIME_STATUS.TRACEABLE. -/
def Dev.traceable (d : Dev) : Nat := d.get F.TIME_STATUS_TRACEABLE
/-- A stamp of the present epoch (R102, R116). -/
def Dev.stampOf (d : Dev) (t : Nat) : StampAt := ⟨t, d.epoch, d.traceable⟩
/-- The stamp of a doorbell or push that is seen `fine` 2^-6 ns after the present step (R91). -/
def Dev.hostStampAt (d : Dev) (fine : Nat) : StampAt := d.stampOf (hostStamp (d.now + fine * 1024))
/-- The instant of a stamp on the present scale (R102). -/
def Dev.scaled (d : Dev) (x : StampAt) : Int := d.onScale x.time x.epoch

/-- A stream's DDR5 ring: base and log2 of its bytes. -/
def Dev.ledgRing (d : Dev) (s : Nat) : Nat × Nat := (d.sh (F.LEDG_STREAM_RING_BASE_BASE s), d.sh (F.LEDG_STREAM_CFG_RING_LOG2 s))

/-- Slots written to a ring from a slot on, each to its own place: the ring may wrap between two of them. -/
def Dev.writeSlots (d : Dev) (ring : Nat × Nat) (slot : Nat) (b : List Byte) : Nat → Dev
  | 0 => d
  | n + 1 => (d.ddrWrite (ring.1 + 32 * slot % 2 ^ ring.2) (b.take 32)).writeSlots ring (slot + 1) (b.drop 32) n

/-- Slots taken and bytes hashed, counted in the second under way (R129). The spec gives rates and no window: one second is the model's (DESIGN
CHOICE, assumption log 88). -/
def Dev.chargeRate (d : Dev) (slots bytes : Nat) : Dev :=
  let l := d.ledg
  let l := if d.time.cycles - l.rateFrom ≥ 1200000000 then { l with rateFrom := d.time.cycles, rateSlots := 0, rateBytes := 0 } else l
  { d with ledg := { l with rateSlots := l.rateSlots + slots, rateBytes := l.rateBytes + bytes } }
/-- Whether the second under way still takes `n` slots: 400 M in all (R129). -/
def Dev.slotsLeft (d : Dev) (n : Nat) : Bool :=
  decide (d.time.cycles - d.ledg.rateFrom ≥ 1200000000) || decide (d.ledg.rateSlots + n ≤ 400000000)
/-- Whether the second under way still hashes `n` bytes: 400 Gb in all (R129). -/
def Dev.hashLeft (d : Dev) (n : Nat) : Bool :=
  decide (d.time.cycles - d.ledg.rateFrom ≥ 1200000000) || decide (d.ledg.rateBytes + n ≤ 50000000000)

/-- HEAD moved past `n` slots, which count toward the rate; LOW_SPACE is raised when the free space falls below LOW_SLOTS (R130). -/
def Dev.headOn (d : Dev) (s n : Nat) : Dev :=
  let d := (d.chargeRate n 0).setCtr (kHead s) (d.ctr (kHead s) + n)
  if d.freeSlots s < d.get (F.LEDG_STREAM_WATER_LOW_SLOTS s) then d.raise F.LEDG_EVENT_LOW_SPACE else d

/-- The cut of a stream made in the present weave cycle, which its seal has not yet closed (R122). -/
def Dev.openCut (d : Dev) (s : Nat) : Option SealJob := d.ledg.signer.find? (fun j => j.stream == s && j.cycle == d.time.cycles)

/-- The records of one cycle's cut: behind them the seal moves on by their slots and its alive value by one. -/
def SealJob.grow (j : SealJob) (b : List Byte) : SealJob :=
  { j with slot := j.slot + b.length / 32, alive := (j.alive + 1) % 256, batch := j.batch ++ b }

/-- A one-slot or longer record of a stream with its alive value, which then advances (R121). It stands at the head of the ring and in the open
batch; in the weave cycle of a cut it still belongs to the batch that the cut closes, ahead of the seal (R122). -/
def Dev.putRecord (d : Dev) (s : Nat) (mk : Nat → List Byte) : Dev :=
  let x := d.stream s
  match d.openCut s with
  | none =>
    let b := mk x.alive
    let n := b.length / 32
    let d := d.writeSlots (d.ledgRing s) (d.ctr (kHead s)) b n
    ((d.putStream s { x with alive := (x.alive + 1) % 256, batch := x.batch ++ b }).count (K.LEDG_SLOTS_WRITTEN s) n).headOn s n
  | some j =>
    let b := mk j.alive
    let n := b.length / 32
    let d := d.writeSlots j.ring j.slot b n
    let g := j.grow b
    let d := d.putStream s { x with alive := (x.alive + 1) % 256, total := x.total + n, digest := sha512 (g.prev ++ g.batch)
                                    reserved := x.reserved.map (fun k => if k = j.slot then g.slot else k) }
    let d := { d with ledg := { d.ledg with signer := d.ledg.signer.map (fun k => if k = j then g else k) } }
    (d.count (K.LEDG_SLOTS_WRITTEN s) n).headOn s n

/-- A record of kinds 3, 4 and 5, stamped with PORT 11 and the active version (R116, Table 3). `tail` is bytes 16 to 31. -/
def Dev.moduleRecord (d : Dev) (stamp kind : Nat) (tail : List Byte) (alive : Nat) : List Byte :=
  ledgHeader stamp 11 0 kind d.activeVersion 0 0 d.traceable 0 alive ++ tail

/-- The gap list with a loss added to its cause (R131). -/
def addGap : List (Nat × Nat × Nat) → Nat → Nat → Nat → List (Nat × Nat × Nat)
  | [], c, n, t => [(c, n, t)]
  | (c', n', t') :: r, c, n, t => if c' = c then (c', n' + n, t') :: r else (c', n', t') :: addGap r c n t

/-- A loss of `n` slots (frames for cause 3) in stream `s`: kept for its GAP record with TIME_NS of the first record not taken, counted, and
raised (R131, Table 3). -/
def Dev.loseSlots (d : Dev) (s cause n ns : Nat) : Dev :=
  let x := d.stream s
  let d := d.putStream s { x with gaps := addGap x.gaps cause n ns }
  let d := match cause with
    | 1 => d.count (K.LEDG_LOST_RING_FULL s) n
    | 2 => d.count (K.LEDG_LOST_RATE s) n
    | 3 => d.count (K.LEDG_HASH_SKIPPED s) n
    | _ => d
  d.raise F.LEDG_EVENT_GAP

/-- The GAP record of one cause (Table 3, Table 5). -/
def Dev.gapRecord (d : Dev) (g : Nat × Nat × Nat) (alive : Nat) : List Byte :=
  d.moduleRecord d.now 4 (leBytes 2 g.1 ++ leBytes 2 0 ++ leBytes 8 g.2.2 ++ leBytes 4 (if g.1 = 4 then 0 else min g.2.1 (2 ^ 32 - 1))) alive

/-- Every loss not yet reported is reported while a slot is free (R131). -/
def Dev.writeGaps (d : Dev) (s : Nat) : List (Nat × Nat × Nat) → Dev
  | [] => let x := d.stream s; d.putStream s { x with gaps := [] }
  | g :: t => (d.putRecord s (d.gapRecord g)).writeGaps s t

/-- A stream that ran out of its reserve is STALLED (R130). -/
def Dev.stall (d : Dev) (s : Nat) : Dev :=
  let x := d.stream s
  if x.stalledAt.isSome then d else
  let d := (d.putStream s { x with stalledAt := some d.nowNs }).count (K.LEDG_STALLS s)
  ((d.set ⟨0x400004, 16 + s, 1⟩ 1).raise F.LEDG_EVENT_STALLED).fault Code.ledgerGap

/-! ## Cuts (R122 to R124) -/

/-- The batch of a stream is cut (R122 to R124): the digest is chained, six slots are reserved, and the seal waits at the signer, behind those
of earlier cycles and of lower streams. `cause` is the CAUSE bit; a stream cut already in this cycle takes one more cause (R123). Nothing is
cut while the stream is STALLED. HEAD counts the six slots from the cut on, and SLOTS_WRITTEN never does (DESIGN CHOICE, assumption log 84). -/
def Dev.cutSeal (d : Dev) (s cause : Nat) : Dev :=
  let x := d.stream s
  if !x.running || x.stalledAt.isSome then d else
  match d.openCut s with
  | some j => { d with ledg := { d.ledg with signer := d.ledg.signer.map (fun k => if k = j then { k with causes := k.causes ||| 2 ^ cause } else k) } }
  | none =>
    if d.freeSlots s < x.gaps.length + 6 then d.stall s else
    let d := d.writeGaps s x.gaps
    let x := d.stream s
    let n := x.sealNumber + 1
    let slot := d.ctr (kHead s)
    let j : SealJob := { stream := s, slot := slot, number := n, cycle := d.time.cycles, ring := d.ledgRing s, stamp := d.stampOf d.now,
                         version := d.activeVersion, keyId := d.get F.LEDG_KEY_ID_KEY_ID, alive := x.alive, before := x.total,
                         prev := x.digest, batch := x.batch, causes := 2 ^ cause }
    let d := d.putStream s { x with alive := (x.alive + 1) % 256, batch := [], total := x.total + x.batch.length / 32,
                                    digest := sha512 (x.digest ++ x.batch), sealNumber := n, reserved := x.reserved ++ [slot] }
    let l := d.ledg.signer
    let ahead := fun (k : SealJob) => decide (k.cycle < j.cycle) || decide (k.stream < s)
    { d with ledg := { d.ledg with signer := l.filter ahead ++ [j] ++ l.filter (fun k => !ahead k) } }.headOn s 6

/-- A batch that holds LIMIT slots is cut (R123). -/
def Dev.cutAtLimit (d : Dev) (s : Nat) : Dev :=
  if (d.stream s).batch.length / 32 ≥ d.sh F.LEDG_SEAL_LIMIT_LIMIT then d.cutSeal s 1 else d

/-! ## Records offered to a stream -/

/-- A stall that ends when export has returned space for the GAP records and a seal (R130): a GAP of cause STALLED gives its start. -/
def Dev.unstall (d : Dev) (s : Nat) : Dev :=
  let x := d.stream s
  match x.stalledAt with
  | none => d
  | some t =>
    let gaps := addGap x.gaps 4 0 t
    if d.freeSlots s < gaps.length + 6 then d else
    let d := ((d.putStream s { x with stalledAt := none, gaps := gaps }).set ⟨0x400004, 16 + s, 1⟩ 0).raise F.LEDG_EVENT_GAP
    (d.writeGaps s gaps).cutAtLimit s

/-- A record offered to a stream. `n` is its slots, `ns` the TIME_NS it carries; `reserve` says that it may use the last 64 slots (R130). A
record that finds no slot is a loss (R131). -/
def Dev.offerRecord (d : Dev) (s n : Nat) (reserve : Bool) (ns : Nat) (mk : Nat → List Byte) : Dev :=
  let x := d.stream s
  if !x.running then d
  else if x.stalledAt.isSome then d.loseSlots s 1 n ns
  else if x.gaps.length + n + (if reserve then 0 else 64) ≤ d.freeSlots s then ((d.writeGaps s x.gaps).putRecord s mk).cutAtLimit s
  else (if reserve then d.stall s else d).loseSlots s 1 n ns

/-- ALIVE put into a record built without it (Table 1). -/
def withAlive (b : List Byte) (alive : Nat) : List Byte := leBytes 16 (leNat (b.take 16) + 2 ^ 118 * (alive % 256)) ++ b.drop 16

/-- A record of a frame offered to its stream: `n` slots with TIME_NS `ns`, built but for ALIVE. While ledger hashing is gated, a record with a
digest waits for its wake, and so does every frame's record behind it (R29). -/
def Dev.offerFrame (d : Dev) (st n ns : Nat) (hash : Bool) (b : List Byte) : Dev :=
  if (d.isGated 4 0 && hash) || !d.dom.records.isEmpty then
    let d := d.wake 4 0
    { d with dom := { d.dom with records := d.dom.records ++ [(st, n, ns, b)] } }
  else d.offerRecord st n false ns (withAlive b)

/-- The streams that run. -/
def Dev.runningStreams (d : Dev) : List Nat := (List.range 8).filter (fun s => (d.stream s).running)

/-- A HEALTH record to every enabled stream (R121, R134). `detail` is bytes 20 to 27, little-endian. -/
def Dev.health (d : Dev) (source detail code : Nat) : Dev :=
  d.runningStreams.foldl (fun d s => d.offerRecord s 1 true d.nowNs
    (d.moduleRecord d.now 5 (leBytes 2 source ++ leBytes 2 0 ++ leBytes 8 detail ++ leBytes 4 code))) d

/-- A SPARE health record and its codes: 0 brought in, 1 retired, 2 none left (Table 4). -/
def Dev.spareRecord (d : Dev) (kind unit what code : Nat) : Dev :=
  d.health 4 (kind % 256 + 2 ^ 16 * (unit % 2 ^ 16) + 2 ^ 32 * what) code

/-- One byte field of a witness profile (LEDG_PROFILE); entry 0 reads 0. -/
def CfgSet.profileBits (c : CfgSet) (p lo w : Nat) : Nat := if p = 0 then 0 else c.get ⟨0x408000 + 4 * p, lo, w⟩
/-- The same field of a profile in use; one that is not enabled takes nothing (R114). -/
def CfgSet.profile (c : CfgSet) (p lo w : Nat) : Nat := if c.profileBits p 0 1 = 1 then c.profileBits p lo w else 0

/-- Bytes 16 to 31 of a FRAME record, or of a DISPOSAL record with its own middle bytes (Table 3). -/
def frameTail (len mid key fcs : Nat) : List Byte := leBytes 2 len ++ leBytes 2 mid ++ leBytes 8 key ++ leBytes 4 fcs

/-- A FRAME record of a shuttle with its extension when asked (R117 to R119). `bytes` are the bytes the length counts and
`fcs` the value that crossed the lands. A record of an AS or BE frame beyond the rate is a loss of cause RATE, and one whose digest is beyond the
hashing rate is written with EXT 0 and a loss of cause HASH_SKIPPED (R129). -/
def Dev.frameRecord (d : Dev) (s : Shut) (stamp : StampAt) (port dir key : Nat) (bytes : List Byte) (fcs : Nat) (ext : Bool) : Dev :=
  let st := (d.cfgOf s).profile s.witness 5 3
  let ns := stamp.time / 65536
  if !(d.stream st).running then d else
  let skip := ext && !s.guaranteed && !d.hashLeft bytes.length
  if !s.guaranteed && !d.slotsLeft (if ext && !skip then 3 else 1) then d.loseSlots st 2 (if ext then 3 else 1) ns else
  let ext := ext && !skip
  let b := ledgHeader stamp.time port dir 0 (s.get S.VERSION) (s.get S.CLASS) (if ext then 1 else 0) stamp.trace (s.get S.FLOW_ID) 0
    ++ frameTail bytes.length (s.get S.RULE) key fcs
    ++ (if ext then sha512 bytes else [])
  let d := (d.chargeRate 0 (if ext then bytes.length else 0)).offerFrame st (if ext then 3 else 1) ns ext b
  if skip then d.loseSlots st 3 1 ns else d

/-- The four FCS bytes of a network frame as a number. -/
def fcsOf (frame : List Byte) : Nat := leNat (frame.drop (frame.length - 4))

/-- The stream of a frame's MISS record: the profile's, or MISS_STREAM (R121). -/
def Dev.missStream (d : Dev) (s : Shut) : Nat :=
  if (d.cfgOf s).profile s.witness 0 1 = 1 then (d.cfgOf s).profile s.witness 5 3 else d.sh F.LEDG_CTRL_MISS_STREAM

/-- A MISS record written that has waited for its frame's ingress record, or for the frame to end without one (R120). -/
def Dev.missFlush (d : Dev) (i : Nat) : Dev :=
  match d.shut i with
  | none => d
  | some s => match s.missDue with
    | none => d
    | some b => (d.putShut i { s with missDue := none }).offerFrame (d.missStream s) 1 (leNat (b.take 8)) false b

/-- Whether the frame's profile takes an ingress record (R115). -/
def Dev.ingressWanted (d : Dev) (s : Shut) : Bool := s.witness != 0 && !s.ingressTaken && (d.cfgOf s).profile s.witness 1 1 == 1

/-- The ingress record of a witnessed frame, once, with KEY as it was before a program rewrote it (R115, R118); a MISS record that waited for it
follows (R120). -/
def Dev.takeIngress (d : Dev) (i : Nat) (s : Shut) : Dev :=
  if !d.ingressWanted s then d else
  let c := d.cfgOf s
  let ext := c.profile s.witness 3 1 == 1 && c.profile s.witness 4 1 == 0
  let fcs := if s.get S.DIR = 0 then fcsOf s.rx else crc32 s.rx
  ((d.putShut i { s with ingressTaken := true }).frameRecord s ⟨fieldStamp (s.get S.INGRESS_STAMP), s.epoch, s.trace⟩ (s.get S.PORT) 0
    (s.keyBefore.getD (s.get S.KEY)) s.rx fcs ext).missFlush i

/-- The egress record of a witnessed frame (R115, R118). -/
def Dev.takeEgress (d : Dev) (s : Shut) (stamp : StampAt) (port : Nat) (bytes : List Byte) (fcs : Nat) : Dev :=
  let c := d.cfgOf s
  if s.witness = 0 || c.profile s.witness 2 1 = 0 then d else
  let ext := c.profile s.witness 3 1 == 1 && c.profile s.witness 4 1 == 1
  d.frameRecord s stamp port 1 (s.get S.KEY) bytes fcs ext

/-- The DISPOSAL record of a witnessed frame that has an ingress record and ends without an egress record (R117); one of an AS or BE frame beyond
the rate is a loss (R129). The spec names no PORT and DIR for it: the port of entry and 0 are the model's (DESIGN CHOICE, assumption log 84). -/
def Dev.disposal (d : Dev) (s : Shut) (reason : Nat) : Dev :=
  if s.witness = 0 || !s.ingressTaken then d else
  let st := (d.cfgOf s).profile s.witness 5 3
  if !(d.stream st).running then d else
  if !s.guaranteed && !d.slotsLeft 1 then d.loseSlots st 2 1 d.nowNs else
  d.offerFrame st 1 d.nowNs false (ledgHeader d.now (s.get S.PORT) 0 6 (s.get S.VERSION) (s.get S.CLASS) 0 d.traceable (s.get S.FLOW_ID) 0
    ++ frameTail s.rx.length (s.get S.STATUS + 256 * reason) (s.get S.KEY)
        (if s.get S.DIR = 0 then fcsOf s.rx else crc32 s.rx))

/-! ## Misses (R56 to R58) -/

/-! Miss causes (ch. 2, Table 9). -/
namespace Miss
def hostLate : Nat := 1
def hostCredit : Nat := 2
def shed : Nat := 3
def switchover : Nat := 4
def fault : Nat := 5
end Miss

/-- The MISS record (R121, Tables 1 and 3), behind its frame's ingress record when one is still to come (R120). `late` is in 2^-16 ns. The spec
names no PORT and DIR for it: the port of entry and 0 are the model's (DESIGN CHOICE, assumption log 84). -/
def Dev.missRecord (d : Dev) (i : Nat) (s : Shut) (cause late : Nat) : Dev :=
  let b := ledgHeader d.now (s.get S.PORT) 0 1 (s.get S.VERSION) (s.get S.CLASS) 0 d.traceable (s.get S.FLOW_ID) 0
    ++ leBytes 2 (s.envelope.getD 0) ++ leBytes 2 cause ++ leBytes 8 (s.deadline / 65536)
    ++ leBytes 4 (min (late / 65536) (2 ^ 32 - 1))
  let d := d.putShut i { s with missDue := some b }
  if d.ingressWanted s then d else d.missFlush i

/-- A miss recorded in every way of R57 but the egress counter and the completion, which show the flag set here. A miss
already declared is not declared again. -/
def Dev.declareMiss (d : Dev) (i : Nat) (s : Shut) (cause late : Nat) : Dev :=
  if !s.guaranteed || s.flag Fl.DEADLINE_MISS then d else
  let s' := s.mark Fl.DEADLINE_MISS
  let d := (d.putShut i s').logPut 0xA00024 0xA02000 4
    (d.nowNs % 2 ^ 64 + 2 ^ 64 * (s.get S.FLOW_ID) + 2 ^ 86 * cause + 2 ^ 90 * (s.get S.VERSION) + 2 ^ 94 * (s.get S.CLASS)
      + 2 ^ 96 * (s.envelope.getD 0 % 2 ^ 14) + 2 ^ 110 * (min (late / 65536) 262143))
  ((d.count (K.LOOM_MISS cause)).missRecord i s' cause late).fault Code.deadlineMiss

/-- The cause of a miss declared by time, tested in the table's order (R58, Table 9). -/
def missCause (s : Shut) (shedding : Bool) (late : Nat) : Nat :=
  if s.readExcess > 0 ∧ s.readExcess ≥ late then Miss.hostLate
  else if s.creditWait > 0 ∧ s.creditWait ≥ late then Miss.hostCredit
  else if s.shed || shedding then Miss.shed
  else if s.gapsSeen ≥ 2 then Miss.switchover
  else Miss.fault

end Sys2Proof.Machine
end

