-- ==== Sys2Proof/Machine/Bus.lean ====
section
/-! DEFINITION. Commands on BAR0 itself and on reset: plain register writes, snapshots, log indices (R10, R11, R30, R403, R452
to R455), the reset domains (R31 to R35), island crossings (R25), and what a reader of BAR0 sees. -/
namespace Sys2Proof.Machine
open Sys2Proof

/-- A command that ends in a next state with a new device. -/
def done (s : State) (d : Dev) : Host.Outcome State Fault Refusal := .next { s with dev := d }

/-! ## What BAR0 answers -/

/-- The log index registers of R455. -/
def logIndexes : List Nat :=
  [0xA00024, 0x2F0010, 0x600028, 0x700014, 0xB00008, 0x100070, 0xC00008, 0xE00008, 0xF0001C, 0x1000034, 0x300054]

/-- The snapshot registers with the run of BAR0 whose counts each latches (R10). -/
def snapshotRegs : List (Nat × Nat × Nat) :=
  [(0xA00020, 0xA00000, 0xB00000), (0x2F0014, 0x2F0000, 0x300000), (0x30005C, 0x300000, 0x400000),
   (0x400018, 0x400000, 0x500000), (0x500010, 0x500000, 0x600000), (0x600018, 0x600000, 0x700000),
   (0x700008, 0x700000, 0x800000), (0x800004, 0x800000, 0x900000), (0x900004, 0x900000, 0xA00000),
   (0xB00004, 0xB00000, 0xC00000), (0x10000C, 0x100000, 0x200000), (0xC00004, 0xC00000, 0xD00000),
   (0xD00008, 0xD00000, 0xE00000), (0xE00004, 0xE00000, 0xF00000), (0xF00008, 0xF00000, 0x1000000),
   (0x1000038, 0x1000000, 0x1100000), (0x1100008, 0x1100000, 0x1200000)]
  ++ (List.range 9).map (fun n => (0x20001C + 0x10000 * n, 0x200000 + 0x10000 * n, 0x210000 + 0x10000 * n))

/-- GEN, BOOT, FLT and PWR respond from configuration-space readiness, the other blocks from dataplane ready (R403). -/
def Dev.responds (d : Dev) (a : Nat) : Bool :=
  d.sys.powerGood && !d.sys.inReset &&
    (d.sys.ready || (d.sys.configReady && (a < 0x100000 || (0x1000000 ≤ a && a < 0x1300000))))

/-- Whether a network port is active under Table 1 of ch. 3 for the mode it names. -/
def CfgSet.portActive (c : CfgSet) (p : Nat) : Bool :=
  c.get (F.PORT_CFG_ENABLE p) == 1 && (match c.get (F.PORT_CFG_MODE p) with
    | 6 => p % 4 == 0
    | 5 => p % 2 == 0
    | 1 | 2 | 3 | 4 => true
    | _ => false)

/-- A port's domain is OFF unless its port mode makes the port active (R27, R30, R62); the management port's unless the board description
declares it (R75). -/
def Dev.portOff (d : Dev) (n : Nat) : Bool := if n = 8 then !d.net.mgmt else !d.cfg.active.portActive n
/-- Whether an address is a register of an OFF port domain. -/
def Dev.addrOff (d : Dev) (a : Nat) : Bool :=
  0x200000 ≤ a && a < 0x290000 && d.portOff ((a - 0x200000) / 0x10000)

/-- The 64-bit values that are read through a snapshot: counters, the ledger stream indices and PWR_ENERGY (R10). -/
def isCounter (a : Nat) : Bool :=
  match regOf a with
  | some (r, _, _) => r.latched
  | none => false

/-- The window of an address. -/
def findWin (a : Nat) : Option WinDesc := windows.find? (fun w => w.addr ≤ a && a < w.addr + w.size)

/-- The mask of the bits of a register word whose access `p` selects. -/
def accessMask (p : Access → Bool) (a : Nat) : Nat :=
  match regOf a with
  | none => 0
  | some (r, _, o) =>
    (r.fields.foldl (fun m f => if p f.access then m + (2 ^ f.width - 1) * 2 ^ f.lo else m) 0) / 2 ^ (8 * o) % 2 ^ 32

/-! ## Plain register writes -/

/-- Registers whose write is a command of its own: REGISTER_WRITE leaves them alone. -/
def ownRow (a : Nat) : Bool :=
  a == 0x1000020 || a == 0x30001C || logIndexes.contains a
    || (0x401000 ≤ a && a < 0x401400 && (a % 0x80 == 0x30 || a % 0x80 == 0x34))
    || (0xB02000 ≤ a && a < 0xB03000 && (a % 0x40 == 0x20 || a % 0x40 == 0x24))

/-- Writes that a rule ignores by their value: DRAM_NEIGHBOUR outside 6 to 14, a PPS_OUT width not below the period
(R96), a HOT_OFFSET not below WARN_OFFSET. -/
def writeIgnored (a v : Nat) : Bool :=
  (a == 0xF0000C && (bitsOf v 0 4 < 6 || bitsOf v 0 4 > 14))
    || (a == 0x30004C && bitsOf v 2 20 ≥ 1000 * bitsOf v 22 10)
    || (a == 0x110001C && bitsOf v 8 8 ≥ bitsOf v 0 8)

/-- The fields of a word whose bits a plain write stores: RW, without the EXPORT bit, whose writes are commands. -/
def storeMask (a : Nat) : Nat :=
  let m := accessMask (fun x => x == .rw) a
  if 0x401000 ≤ a && a < 0x401400 && a % 0x80 == 0 then m &&& (2 ^ 32 - 1 - 2) else m

/-- One staged write into the shadow set (R11), kept in order for measurement 6 (R408); CHANGED is set (R158). -/
def Dev.stage (d : Dev) (a mask v : Nat) : Dev :=
  let old := (wordAt shReset d.cfg.shadow.words a).toNat
  let w := BitVec.ofNat 32 ((old &&& (2 ^ 32 - 1 - mask)) ||| (v &&& mask))
  ({ d with
      cfg := { d.cfg with shadow := { d.cfg.shadow with words := mapPut d.cfg.shadow.words a w } },
      boot := { d.boot with stagedLog := d.boot.stagedLog ++ leBytes 4 a ++ leBytes 4 v } }).set F.HED_SHADOW_STATUS_CHANGED 1

/-- The bits of an SH window's word that belong to a field; its other bits are reserved and read 0 (R10): LOOM_ENV (R43), PORT_AB_GROUP,
LEDG_PROFILE and the gate lists. -/
def winBits (w : WinDesc) (a : Nat) : Nat :=
  if w.addr = 0xA80000 then
    ([0x7FFFFF, 0xFFFFFF, 0x3FFF3FFF, 0x0F0FFFFF, 0x1FFF3FFF, 0xFFFF, 0xFFFFFF, 0x3FFFFFF] : List Nat).getD (a % 32 / 4) 0
  else if w.addr = 0x408000 then 0xFF
  else if w.addr = 0x2F1000 then (if a % 8 = 0 then 0x707FF else 0x1FFFF)
  else if a % 8 = 0 then 0xFF else 2 ^ 32 - 1

/-- The bits of an SH window's word that a write stages: all but RO and reserved ones. LEDG_PROFILE entry 0 ignores
writes, and the last 8 bytes of an envelope are RO (R43). -/
def winStageMask (w : WinDesc) (a : Nat) : Nat :=
  if (w.addr = 0xA80000 ∧ a % 32 ≥ 24) ∨ a = 0x408000 then 0 else winBits w a

/-- The SH bits of a word that apply to its port: PRP, PFC and FEC do not apply to the management port, whose fields of them read 0
(R75), and CT_EN exists for ports 0 to 7 only. -/
def appliesMask (a : Nat) : Nat :=
  if a = (F.PORT_PRP_STRIP 8).addr ∨ a = (F.PORT_PFC_MAP_MAP 8).addr then 0
  else if a = (F.PORT_PAUSE_PFC_EN 8).addr then 2 ^ 32 - 1 - 0xFF00
  else if a = (F.PORT_CFG_FEC 8).addr then 2 ^ 32 - 1 - 0xC0
  else if ([8, 9, 10] : List Nat).any (fun p => a == (F.REED_PORT_CFG_CT_EN p).addr) then 2 ^ 32 - 1 - 0x10000
  else 2 ^ 32 - 1

/-- MBOX_USER_STATUS shows the selected pair: a write of 1 clears the manager's own copies (R342, R345, R348). -/
def Dev.mgrClear (d : Dev) (v : Nat) : Dev :=
  let i := d.get F.MBOX_USER_SEL_INSTANCE
  let p := mapGetD d.mbox.user i {}
  let p := { p with up := { p.up with colR := p.up.colR && !v.testBit 2 }
                    down := { p.down with colS := p.down.colS && !v.testBit 3, aborted := p.down.aborted && !v.testBit 4 }
                    mgrReset := p.mgrReset && !v.testBit 5 }
  { d with mbox := { d.mbox with user := mapPut d.mbox.user i p } }

/-- A mover channel's configuration address: its channel (R356). CTRL and STATUS are not part of it. -/
def moverCfg (a : Nat) : Option Nat :=
  if 0xE01000 ≤ a ∧ a < 0xE02000 ∧ a % 0x80 < 0x60 ∧ a % 0x80 ≠ 4 ∧ a % 0x80 ≠ 8 then some ((a - 0xE01000) / 0x80) else none

/-- Whether a manager's write to a channel's configuration is ignored: the channel has another owner (R351), or it is RUNNING,
DONE_PENDING or PARKED (R356), which sets WRITE_IGNORED. -/
def Dev.moverIgnores (d : Dev) (a : Nat) : Option Dev :=
  match moverCfg a with
  | none => none
  | some n =>
    let st := d.get (F.MOVE_CH_STATUS_STATE n)
    if d.get (F.MOVE_CH_CFG_OWNER n) ≠ 0 then some d
    else if st = 1 ∨ st = 2 ∨ st = 4 then some (d.raise F.MOVE_EVENT_WRITE_IGNORED)
    else none

/-- A new choice of a recovered clock output: low at once for PORT 15 or a port that is not locked and up (R81). -/
def Dev.rclkChosen (d : Dev) (a : Nat) : Dev :=
  if a ≠ 0x2F0000 ∧ a ≠ 0x2F0004 then d else
  let p := d.get ⟨a, 0, 4⟩
  if p < 8 && d.flag (F.PORT_STATUS_CDR_LOCK p) && d.flag (F.PORT_STATUS_LINK p) then d else d.set ⟨a, 8, 1⟩ 1

/-- A GO of BOOT_CTRL with an OP that Table 6 of ch. 17 does not have: it ends with RESULT RANGE (R414). -/
def Dev.badBootOp (d : Dev) (v : Nat) : Dev :=
  if v % 2 = 0 ∨ bitsOf v 1 4 < 9 ∨ d.get F.BOOT_CTRL_BUSY = 1 then d else
  { d.set F.BOOT_CTRL_BUSY 1 with boot := { d.boot with op := some { op := bitsOf v 1 4, result := 1 } } }

/-- Whether a GO with an OP and TABLE names no operation of a block's indirect registers, and so gives RANGE (R161, R186, R221, R236, R257,
R264, R316, R340). An OP with a row of its own judges its table there. -/
def badIndirect (a op table : Nat) : Bool :=
  if a = 0x500100 ∨ a = 0x600100 ∨ a = 0x800100 then op ≥ 5
  else if a = 0x700200 then op ≥ 5 || table ≥ 2 || (table == 1 && op ≥ 2)
  else if a = 0x900100 ∨ a = 0xB00200 ∨ a = 0x100200 then op ≥ 2
  else a == 0xC00100 && op ≥ 3

/-- A GO that names no operation: BUSY is set, and RANGE is what INDIRECT_OP_COMPLETE will show. -/
def Dev.badIndirectGo (d : Dev) (a v : Nat) : Dev :=
  if v % 2 = 1 ∧ badIndirect a (bitsOf v 1 3) (bitsOf v 4 3) = true ∧ d.get ⟨a, 16, 1⟩ = 0 then
    { d.set ⟨a, 16, 1⟩ 1 with ind := mapPut d.ind a 3 }
  else d

/-- A host write of a whole aligned word to a field with no row of its own (R11, R30, R403, R452, R453). -/
def Dev.writeWord (d : Dev) (a v : Nat) : Dev :=
  if !d.responds a || ownRow a || writeIgnored a v then d
  else if a = 0xD00010 then d.mgrClear v
  else if a = 0x1200008 then (d.badBootOp v).set F.BOOT_CTRL_OP (if d.get F.BOOT_CTRL_BUSY = 1 then d.get F.BOOT_CTRL_OP else bitsOf v 1 4)
  else match d.moverIgnores a with
  | some d => d
  | none => match regOf a with
  | some _ =>
    let sh := accessMask (fun x => x == .sh) a &&& appliesMask a
    let d := if sh = 0 then d else d.stage a sh v
    if d.addrOff a then d else
    let st := storeMask a
    let w1c := accessMask (fun x => x == .w1c) a
    if st + w1c = 0 then d else
    let old := (d.word a).toNat
    let kept := (old &&& (2 ^ 32 - 1 - st)) ||| (v &&& st)
    ((d.putWord a (BitVec.ofNat 32 (kept &&& (2 ^ 32 - 1 - (v &&& w1c))))).badIndirectGo a v).rclkChosen a
  | none => match findWin a with
    | some w => match w.access with
      | .rw => d.putWord a (BitVec.ofNat 32 v)
      | .sh => if winStageMask w a = 0 then d else d.stage a (winStageMask w a) v
      | .wo => if w.addr = 0x1200400 then d.putWord a (BitVec.ofNat 32 v) else d
      | _ => d
    | none => d

/-- The AUTO domain of a register address: program cores are the ones with per-unit registers (R30). -/
def autoDomain (a : Nat) : Option (Nat × Nat) :=
  if 0xB02000 ≤ a ∧ a < 0xB03000 then some (0, (a - 0xB02000) / 0x40)
  else if 0x700100 ≤ a ∧ a < 0x700140 then some (1, (a - 0x700100) / 4)
  else if 0x801000 ≤ a ∧ a < 0x801400 then some (2, (a - 0x801000) / 0x20)
  else if 0xE01000 ≤ a ∧ a < 0xE02000 then some (3, (a - 0xE01000) / 0x200)
  else none

/-- Whether an access to a domain has to wait: it is gated, or earlier accesses still wait for its wake (R30). -/
def Dev.asleep (d : Dev) (kind unit : Nat) : Bool := d.isGated kind unit || d.dom.held.any (fun h => h.1 == (kind, unit))
/-- An access or a start that reaches a sleeping domain: the wake begins, and what came waits for it (R29, R30). -/
def Dev.holdFor (d : Dev) (kind unit : Nat) (i : HeldOp) : Dev :=
  (d.wake kind unit).modDom (fun x => { x with held := x.held ++ [((kind, unit), i)] })

/-- Whether a register belongs to the decision logic of ch. 16: the Loom, Quartz, the ledger's sealing, Heddle, forwarding and Reed. -/
def decisionBlock (a : Nat) : Bool := decide (0x300000 ≤ a ∧ a < 0x700000) || decide (0x900000 ≤ a ∧ a < 0xB00000)
/-- An access that waits for the end of a gap (R379), under the key (5, 0). -/
def Dev.holdGap (d : Dev) (i : HeldOp) : Dev := d.modDom (fun x => { x with held := x.held ++ [((5, 0), i)] })

/-- REGISTER_WRITE (R11). A write to a decision block during a gap is made at its end (R379). A write whose byte enables do not cover the word is ignored (R453). A write to a register of a gated AUTO domain is made
after the wake; SH fields do not wait for the domain they configure (R30). -/
def execRegisterWrite (addr : Nat) (value : Word) (byteEnables : Nat) (s : State) : Host.Outcome State Fault Refusal :=
  if byteEnables % 16 ≠ 15 ∨ addr % 4 ≠ 0 then done s s.dev else
  if s.dev.flt.gap ≠ 0 ∧ decisionBlock addr = true ∧ s.dev.responds addr = true then done s (s.dev.holdGap (.write addr value)) else
  match autoDomain addr with
  | some (k, u) =>
    if s.dev.asleep k u && s.dev.responds addr && accessMask (fun x => x == .sh) addr == 0
    then done s (s.dev.holdFor k u (.write addr value)) else done s (s.dev.writeWord addr value.toNat)
  | none => done s (s.dev.writeWord addr value.toNat)

/-- PWR_ENERGY as it is measured now, for PWR_SNAPSHOT (R10, R439). -/
def Dev.measureEnergy (d : Dev) (addr : Nat) : Dev :=
  if addr = 0x1100008 then { d with bus := { d.bus with ctr := mapPut d.bus.ctr 0x1100100 (BitVec.ofNat 64 (Config.sensor 5 d.time.cycles)) } } else d

/-- The latched copies with every count of a run of addresses taken anew (R10). -/
def takeSnapshot (b : Bus) (lo hi : Nat) : Bus :=
  { b with snap := b.snap.filter (fun p => p.1 < lo || hi ≤ p.1) ++ b.ctr.filter (fun p => lo ≤ p.1 && p.1 < hi) }

/-- SNAPSHOT_TAKE (R10): `addr` is the block's snapshot register. -/
def execSnapshotTake (addr : Nat) (s : State) : Host.Outcome State Fault Refusal :=
  match snapshotRegs.find? (fun p => p.1 == addr) with
  | some (_, lo, hi) =>
    let d := s.dev.measureEnergy addr
    if s.dev.responds addr && !s.dev.addrOff addr then done s { d with bus := takeSnapshot d.bus lo hi } else done s s.dev
  | none => done s s.dev

/-- LOG_TAIL_WRITE (R455): the place must lie in the run from TAIL forward to HEAD. -/
def execLogTailWrite (index tail : Nat) (s : State) : Host.Outcome State Fault Refusal :=
  let d := s.dev
  if !logIndexes.contains index || !d.responds index then done s d else
  let head := d.get ⟨index, 0, 8⟩
  let old := d.get ⟨index, 8, 8⟩
  if (tail % 256 + 256 - old) % 256 ≤ (head + 256 - old) % 256 then done s (d.set ⟨index, 8, 8⟩ tail) else done s d

/-- LOST_READ (R455): the whole word is returned, and LOST clears. -/
def execLostRead (index : Nat) (s : State) : Host.Outcome State Fault Refusal :=
  let d := s.dev
  if !logIndexes.contains index || !d.responds index then done s (d.emit (.readData 0)) else
  done s ((d.emit (.readData (d.word index).toNat)).set ⟨index, 16, 16⟩ 0)

/-! ## Resets -/

/-- Addresses in the cold reset domain, which a module reset keeps (R31): GEN, and PWR but its two module registers. -/
def isCold (a : Nat) : Bool :=
  a < 0x100000 || (0x1100000 ≤ a && a < 0x1200000 && a != 0x110001C && !(0x1100040 ≤ a && a < 0x1100054))

/-- Bytes of flash left open by an operation cut short: `n` bytes from `a`, each a free value. -/
def flashOpen (m : SMap Byte) (a free : Nat) : Nat → SMap Byte
  | 0 => m
  | n + 1 =>
    let b := BitVec.ofNat 8 (Config.freeValue (free + n)).toNat
    flashOpen (if b = 0xFF then mapErase m (a + n) else mapPut m (a + n) b) a free n

/-- A BOOT_CTRL operation that a reset cuts short (R398, R406): the block that was being erased or programmed holds free values, a rollback count
stands between its old value and its target, and a place is burned or not; which of these is a free value (DESIGN CHOICE, assumption log 39).
PREFERRED and TRIAL stay. -/
def Dev.bootCut (d : Dev) : Dev :=
  match d.boot.op with
  | none => d
  | some r =>
    if r.result ≠ 0 then d else
    let (v, e) := d.fresh
    let fuses := d.boot.fuses
    match r.op with
    | 1 => { d with boot := { d.boot with flash := flashOpen d.boot.flash r.addr d.free 65536 }, free := d.free + 65536 }
    | 2 => { d with boot := { d.boot with flash := flashOpen d.boot.flash r.addr d.free 256 }, free := d.free + 256 }
    | 6 => { e with boot := { d.boot with fuses := { fuses with rollback := fuses.rollback + v.toNat % (r.arg - fuses.rollback + 1) } } }
    | 7 => if v.toNat % 2 = 0 then e else { e with boot := { d.boot with fuses := fuses.enroll ((sha512 d.boot.ownerKey).take 32) } }
    | 8 => if v.toNat % 2 = 0 then e else { e with boot := { d.boot with fuses := fuses.revoke r.arg } }
    | _ => d

/-- The module after a module reset has taken effect (R31): every island but always-on is reset. Fuses, flash, the
persistent store, the always-on registers, the lines and what has already left the module stay. -/
def Dev.moduleReset (d : Dev) : Dev :=
  { bus := { words := d.bus.words.filter (fun p => isCold p.1), ctr := d.bus.ctr.filter (fun p => isCold p.1),
             snap := d.bus.snap.filter (fun p => isCold p.1) },
    sys := { powerGood := d.sys.powerGood, perstN := d.sys.perstN, rstN := d.sys.rstN, recoverN := d.sys.recoverN,
             ethRefclk := d.sys.ethRefclk, inReset := !(d.sys.perstN && d.sys.rstN) },
    pwr := d.pwr,
    boot := { flash := d.bootCut.boot.flash, store := d.boot.store, fuses := d.bootCut.boot.fuses },
    dram := { hardRepairs := d.dram.hardRepairs ++ d.dram.repairsDone },
    fwd := { tick := d.fwd.tick },
    out := d.out, free := d.bootCut.free }

/-- The state with a new device and DDR5 reinitialised; the queue stays. -/
def State.cleared (s : State) (d : Dev) : State := ⟨d, [], s.pending⟩

/-- A module reset of the whole state: DDR5 is reinitialised, and training clears it (R31, R371). -/
def State.moduleReset (s : State) (d : Dev) : State := s.cleared d.moduleReset

/-- A FATAL code that is due its module reset takes it (R391). -/
def settle (s : State) (d : Dev) : Host.Outcome State Fault Refusal :=
  if d.sys.resetDue then .next (s.moduleReset d) else done s d

/-- GEN_RESET (R33, R35). -/
def execGenReset (key : Nat) (module_ : Bool) (s : State) : Host.Outcome State Fault Refusal :=
  if key = 0x7E55 && module_ && s.dev.responds 8 then .next (s.moduleReset (s.dev.raise F.GEN_RESET_CAUSE_MANAGER))
  else done s s.dev

/-- PERST_ASSERT (R32, R33). -/
def execPerstAssert (s : State) : Host.Outcome State Fault Refusal :=
  let d := s.dev.raise F.GEN_RESET_CAUSE_PERST
  .next (s.moduleReset { d with sys := { d.sys with perstN := false } })

/-- RST_N_ASSERT (R32, R33). -/
def execRstNAssert (s : State) : Host.Outcome State Fault Refusal :=
  let d := s.dev.raise F.GEN_RESET_CAUSE_RST_N
  .next (s.moduleReset { d with sys := { d.sys with rstN := false } })

/-- Reset lines as they stand decide whether module reset is held (R32). -/
def Dev.lines (d : Dev) (perst rst : Bool) : Dev :=
  { d with sys := { d.sys with perstN := perst, rstN := rst, inReset := !(perst && rst) } }

/-- PERST_DEASSERT (R32). -/
def execPerstDeassert (s : State) : Host.Outcome State Fault Refusal := done s (s.dev.lines true s.dev.sys.rstN)

/-- RST_N_DEASSERT (R32). -/
def execRstNDeassert (s : State) : Host.Outcome State Fault Refusal := done s (s.dev.lines s.dev.sys.perstN true)

/-- The always-on and cold state at power-good: everything is reset; fuses, flash and the persistent store stay (R31). The
inputs and PWR_LAST_OFF are read again, and a reset line that is low is an overlapping cause (R33). -/
def Dev.coldReset (d : Dev) : Dev :=
  let d' : Dev :=
    { sys := { powerGood := true, perstN := d.sys.perstN, rstN := d.sys.rstN, recoverN := d.sys.recoverN,
               ethRefclk := d.sys.ethRefclk, inReset := !(d.sys.perstN && d.sys.rstN) },
      boot := { flash := d.boot.flash, store := d.boot.store, fuses := d.boot.fuses },
      dram := { hardRepairs := d.dram.hardRepairs ++ d.dram.repairsDone },
      out := d.out, free := d.free }
  let d' := if d.sys.perstN then d' else d'.raise F.GEN_RESET_CAUSE_PERST
  let d' := if d.sys.rstN then d' else d'.raise F.GEN_RESET_CAUSE_RST_N
  let d' := (d'.set F.PWR_STATUS_VIN_A_OK (d.get F.PWR_STATUS_VIN_A_OK)).set F.PWR_STATUS_VIN_B_OK (d.get F.PWR_STATUS_VIN_B_OK)
  let d' := (d'.set F.PWR_STATUS_SOURCE (d.get F.PWR_STATUS_SOURCE)).set F.PWR_LAST_OFF_CAUSE d.boot.store.lastOff
  let short := (d.boot.store.retiredPhases.filter (fun p => decide (p.2 > 2))).map (·.1)
  let d' := { (d'.set F.PWR_STATUS_RAIL_SHORT (if short.isEmpty then 0 else 1)) with pwr := { shortRails := short } }
  d.boot.store.retiredPhases.foldl (fun d p => (d.set (F.PWR_RAIL_RETIRED p.1) p.2).set (F.PWR_RAIL_SPARES p.1) (2 - p.2)) d'

/-- POWER_GOOD_RISE (R433): a cold reset. An input must be accepted; a module that shut down thermally stays off until
every input has been dropped and accepted again (R438). -/
def execPowerGoodRise (s : State) : Host.Outcome State Fault Refusal :=
  let d := s.dev
  if d.sys.powerGood || d.pwr.shutdown || !(d.flag F.PWR_STATUS_VIN_A_OK || d.flag F.PWR_STATUS_VIN_B_OK) then done s d else
  .next (s.cleared d.coldReset)

/-- Power-good falls: outputs to high impedance, links and rails down; the cause is kept for the next start (R434). It is
kept in the always-on record, and a thermal cause is already in the store (R438). -/
def Dev.powerFall (d : Dev) (cause : Nat) : Dev :=
  let d1 := d.moduleReset
  { d1 with sys := { d1.sys with powerGood := false, inReset := true },
            pwr := { d1.pwr with holdUp := false },
            boot := { d1.boot with store := { d1.boot.store with lastOff := cause } } }

/-- POWER_GOOD_FALL (R434): causes 1 input loss, 2 input overvoltage, 3 thermal shutdown, 4 rail out of regulation. -/
def execPowerGoodFall (cause : Nat) (s : State) : Host.Outcome State Fault Refusal :=
  if s.dev.sys.powerGood then .next (s.cleared (s.dev.powerFall (cause % 16))) else done s s.dev

/-- The host islands among the 38 of ch. 1, Table 6, numbered in the table's order: weave 0, cores 1 to 17, cipher 18 and 19,
host 20 and 21, DRAM 22 to 25, PCS 26 to 33, management port 34, timing 35, root 36, always-on 37. -/
def hostIsland (link : Nat) : Nat := 20 + link

end Sys2Proof.Machine
end

