-- ==== Sys2Proof/Machine/Power.lean ====
section
/-! DEFINITION. Power inputs, regulator phases and thermal stages (ch. 19). -/
namespace Sys2Proof.Machine
open Sys2Proof

/-- PWR_STATUS bits of an input: 0 is VIN_A, 1 is VIN_B. -/
def vinOk (i : Nat) : Fld := if i = 0 then F.PWR_STATUS_VIN_A_OK else F.PWR_STATUS_VIN_B_OK

/-- The source the module draws from: the higher accepted input; within 200 mV it may draw from both, and SOURCE shows 3
(R425). Voltages are in mV. -/
def vinSource (aOk bOk : Bool) (a b : Nat) : Nat :=
  if aOk && bOk then (if a ≤ b + 200 ∧ b ≤ a + 200 then 3 else if a > b then 1 else 2)
  else if aOk then 1 else if bOk then 2 else 0

/-- SOURCE written, a change counted (R425). A draw that ends or begins with no accepted input is no change of source. -/
def Dev.setSource (d : Dev) (src : Nat) : Dev :=
  let old := d.get F.PWR_STATUS_SOURCE
  let d := d.set F.PWR_STATUS_SOURCE src
  if old = src ∨ old = 0 ∨ src = 0 then d else d.count K.PWR_SOURCE_CHANGES

/-- VIN_ACCEPT (R424 to R426): an input within its thresholds is accepted; it ends a ride-through. `millivolts` is its
voltage and `otherMillivolts` the other's. -/
def execVinAccept (input millivolts otherMillivolts : Nat) (s : State) : Host.Outcome State Fault Refusal :=
  let d := s.dev
  let i := input % 2
  let d := d.set (vinOk i) 1
  let va := if i = 0 then millivolts else otherMillivolts
  let vb := if i = 0 then otherMillivolts else millivolts
  let d := d.setSource (vinSource (d.flag F.PWR_STATUS_VIN_A_OK) (d.flag F.PWR_STATUS_VIN_B_OK) va vb)
  let d := if d.pwr.holdUp then (d.raise F.PWR_EVENT_RIDE_THROUGH).count K.PWR_RIDE_THROUGHS else d
  done s { d with pwr := { d.pwr with holdUp := false, shutdown := d.pwr.shutdown && !d.pwr.droppedSince, droppedSince := false } }

/-- VIN_DROP (R424 to R426): a lost input raises its fault; with none accepted, the module rides through on its hold-up. The
cause of a fall that follows is input loss, or overvoltage. -/
def execVinDrop (input : Nat) (tooHigh : Bool) (s : State) : Host.Outcome State Fault Refusal :=
  let d := s.dev
  let i := input % 2
  if d.get (vinOk i) = 0 then done s d else
  let d := (d.set (vinOk i) 0).raise (if i = 0 then F.PWR_EVENT_VIN_A_FAULT else F.PWR_EVENT_VIN_B_FAULT)
  let d := d.fault Code.powerInput
  let a := d.flag F.PWR_STATUS_VIN_A_OK
  let b := d.flag F.PWR_STATUS_VIN_B_OK
  let d := d.setSource (vinSource a b (if a then 1 else 0) (if b then 1 else 0))
  done s (if a || b then d else
    { d with pwr := { d.pwr with holdUp := d.sys.powerGood, overCause := tooHigh, droppedSince := true } })

/-- HOLDUP_EXPIRE (R426): with no input accepted when the hold-up ends, power-good falls. -/
def execHoldupExpire (s : State) : Host.Outcome State Fault Refusal :=
  if s.dev.pwr.holdUp then .next (s.cleared (s.dev.powerFall (if s.dev.pwr.overCause then 2 else 1)))
  else done s s.dev

/-- PHASE_FAIL (R435, R387): a spare phase takes over; with none left the rail is short; a further failure takes it out of
regulation. -/
def execPhaseFail (rail phase : Nat) (s : State) : Host.Outcome State Fault Refusal :=
  let d := s.dev
  if rail ≥ 12 || !d.sys.powerGood then done s d else
  let spares := d.get (F.PWR_RAIL_SPARES rail)
  let d1 := (d.set (F.PWR_RAIL_RETIRED rail) (d.get (F.PWR_RAIL_RETIRED rail) + 1)).set F.FLT_HEALTH_REGULATOR 1
  let d1 := ((d1.raise F.PWR_EVENT_PHASE_RETIRED).count K.PWR_PHASES_RETIRED).fault Code.regulator 7 phase
  let n := d1.get (F.PWR_RAIL_RETIRED rail)
  let d1 := d1.modStore (fun st => { st with retiredPhases := mapPut st.retiredPhases rail n })
  let d1 := d1.spareRecord 7 phase 1 Code.regulator
  if spares > 0 then
    done s (((d1.set (F.PWR_RAIL_SPARES rail) (spares - 1)).fault Code.unitSpared 7 phase).spareRecord 7 phase 0 Code.unitSpared)
  else if d.pwr.shortRails.contains rail then .next (s.cleared (d1.powerFall 4))
  else
    let d2 := ((d1.set F.PWR_STATUS_RAIL_SHORT 1).raise F.PWR_EVENT_RAIL_SHORT).fault Code.unitOut 7 phase
    let d2 := d2.spareRecord 7 phase 2 Code.unitOut
    let d2 := d2.modPwr (fun p => { p with shortRails := p.shortRails ++ [rail], stageHeld := true })
    done s (if d2.get F.PWR_STATUS_STAGE < 2 then
      (((d2.set F.PWR_STATUS_STAGE 2).raise F.PWR_EVENT_STAGE_CHANGE).fault Code.thermal).count K.PWR_SHED_AS_ENTRIES else d2)

/-- THERMAL_SAMPLE (R436): the estimate and the hottest junction in 0.1 °C. -/
def execThermalSample (lid junction : Int) (s : State) : Host.Outcome State Fault Refusal :=
  let d := s.dev
  if !d.sys.powerGood then done s d else
  done s ((d.set F.PWR_TEMP_LID (unsignedOf 16 lid)).set F.PWR_TEMP_JUNCTION_MAX (unsignedOf 16 junction))

/-- L_max of the variant in °C (ch. 19, Table 4). -/
def Dev.lidMax (d : Dev) : Int := if d.get F.GEN_ID_VARIANT = 2 then 85 else 70
/-- The threshold of a stage in 0.1 °C (Table 7). -/
def Dev.stageThreshold (d : Dev) (stage : Nat) : Int :=
  10 * (d.lidMax - ((if stage = 1 then d.get F.PWR_THERM_CFG_WARN_OFFSET else d.get F.PWR_THERM_CFG_HOT_OFFSET) : Nat))
/-- The lid estimate in 0.1 °C. -/
def Dev.lid (d : Dev) : Int := signedOf 16 (d.get F.PWR_TEMP_LID)

/-- THERMAL_STAGE_ENTER (R437): the estimate has stood at the stage's threshold for 10 ms. -/
def execThermalStageEnter (stage : Nat) (s : State) : Host.Outcome State Fault Refusal :=
  let d := s.dev
  if stage = 0 || stage > 2 || d.get F.PWR_STATUS_STAGE ≥ stage || d.lid < d.stageThreshold stage then done s d else
  let d := ((d.set F.PWR_STATUS_STAGE stage).raise F.PWR_EVENT_STAGE_CHANGE).fault Code.thermal
  done s (d.count (if stage = 1 then K.PWR_SHED_BE_ENTRIES else K.PWR_SHED_AS_ENTRIES))

/-- THERMAL_STAGE_EXIT (R435, R437): the estimate has stood 3 °C below the present stage's threshold for 100 ms; a rail that
ran short since power-up holds SHED_AS. -/
def execThermalStageExit (stage : Nat) (s : State) : Host.Outcome State Fault Refusal :=
  let d := s.dev
  let cur := d.get F.PWR_STATUS_STAGE
  if stage ≥ cur || d.lid > d.stageThreshold (stage + 1) - 30 || d.pwr.stageHeld then done s d else
  let d := d.set F.PWR_STATUS_STAGE stage
  done s (if stage = 1 then ((d.raise F.PWR_EVENT_STAGE_CHANGE).fault Code.thermal).count K.PWR_SHED_BE_ENTRIES else d)

/-- THERMAL_SHUTDOWN (R438): lid at L_max + 10 °C or junction at 115 °C. FAULT_N goes low, frames stop, the cause is
recorded, and power-good falls. -/
def execThermalShutdown (s : State) : Host.Outcome State Fault Refusal :=
  let d := s.dev
  if d.lid < 10 * (d.lidMax + 10) ∧ signedOf 16 (d.get F.PWR_TEMP_JUNCTION_MAX) < 1150 then done s d else
  let d := d.fault Code.thermal
  let d := { d with sys := { d.sys with fatal := true, stopped := true } }
  let d := d.powerFall 3
  .next (s.cleared { d with pwr := { d.pwr with shutdown := true, droppedSince := false } })

/-- ETH_REFCLK_STABLE (R433). -/
def execEthRefclkStable (s : State) : Host.Outcome State Fault Refusal :=
  done s { s.dev with sys := { s.dev.sys with ethRefclk := true } }

end Sys2Proof.Machine
end

