-- ==== Sys2Proof/Machine/Lockstep.lean ====
section
/-! DEFINITION. Decision sides, claims and the gate (R372 to R385, R454): side states 0 OFF, 1 ACTIVE, 2 STANDBY, 3 RESYNC,
4 RETIRED, 5 SELF_TEST as FLT_SIDE_s shows them. -/
namespace Sys2Proof.Machine
open Sys2Proof

/-- The state of a side. -/
def Dev.side (d : Dev) (k : Nat) : Nat := d.get (F.FLT_SIDE_STATE k)
/-- The active side. -/
def Dev.activeSide (d : Dev) : Nat := d.get F.FLT_HEALTH_ACTIVE
/-- The standby side; 3 is none. -/
def Dev.standbySide (d : Dev) : Nat := d.get F.FLT_HEALTH_STANDBY
/-- The module is SINGLE whenever no side is STANDBY (R373). -/
def Dev.single (d : Dev) : Bool := d.standbySide == 3
/-- The module is DEGRADED (R373). -/
def Dev.degraded (d : Dev) : Bool := d.flag F.FLT_HEALTH_DEGRADED
/-- One second in weave-clock cycles (ch. 0, Table 5). -/
def secondCycles : Nat := 1200000000

/-- FLT_HEALTH shows the roles; SINGLE follows STANDBY (R373). -/
def Dev.setRoles (d : Dev) (active standby : Nat) : Dev :=
  ((d.set F.FLT_HEALTH_ACTIVE active).set F.FLT_HEALTH_STANDBY standby).set F.FLT_HEALTH_SINGLE (if standby = 3 then 1 else 0)

/-- DEGRADED is entered when the module is SINGLE and no side is in RESYNC, in SELF_TEST or being brought in (R373). -/
def Dev.checkDegraded (d : Dev) : Dev :=
  if d.single && !d.degraded && d.flt.bringIn.isNone && !(([0, 1, 2] : List Nat).any (fun k => d.side k == 3 || d.side k == 5)) then
    ((d.set F.FLT_HEALTH_DEGRADED 1).fault Code.degraded 1 d.activeSide).spareRecord 1 d.activeSide 2 Code.degraded
  else d

/-- A gap opens: counted, and every frame in transit has met one more (R58, R381). -/
def Dev.openGap (d : Dev) (kind : Nat) : Dev :=
  let shuts := d.shuts.map (fun (p : Nat × Shut) => (p.1, { p.2 with gapsSeen := p.2.gapsSeen + 1 }))
  ({ d with shuts := shuts }.modFlt (fun f => { f with gap := kind })).count K.FLT_GAPS

/-- A retirement: the domain is OFF, the record goes to the persistent store, and a spare side that is OFF is brought in
(R383, R385). -/
def Dev.retireSide (d : Dev) (k : Nat) : Dev :=
  let d := (d.set (F.FLT_SIDE_STATE k) 4).set F.FLT_HEALTH_RETIRED (d.get F.FLT_HEALTH_RETIRED ||| 2 ^ k)
  let d := (d.fault Code.sideRetired 1 k).spareRecord 1 k 1 Code.sideRetired
  let d := d.modStore (fun st => { st with retiredSides := st.retiredSides ++ [k] })
  let spare := ([0, 1, 2] : List Nat).find? (fun j => d.side j == 0)
  (d.modFlt (fun f => { f with bringIn := if f.bringIn.isSome then f.bringIn else spare })).checkDegraded

/-- A verdict names a side: NAMED counts, and within 1 s of the previous verdict the side is retired, otherwise it
resynchronises (R383, Table 1). -/
def Dev.nameSide (d : Dev) (k : Nat) : Dev :=
  let again := match mapGet d.flt.lastNamed k with
    | some c => decide (d.time.cycles - c ≤ secondCycles)
    | none => false
  let d := d.set (F.FLT_SIDE_NAMED k) (satAdd 255 (d.get (F.FLT_SIDE_NAMED k)) 1)
  let d := d.modFlt (fun f => { f with lastNamed := mapPut f.lastNamed k d.time.cycles })
  if again then d.retireSide k else d.set (F.FLT_SIDE_STATE k) 3

/-- The highest claim (R377). -/
def Dev.maxClaim (d : Dev) : Nat := [0, 1, 2].foldl (fun m k => max m (d.get (F.FLT_CLAIM_CLAIM k))) 0

/-- A takeover: the new side's claim is the highest + 1, the replaced side's is 0, and a SWITCHOVER record is written (R377,
R381). `standby` is the standby side afterwards, and `code` the fault code that the takeover raises, or 0. -/
def Dev.takeover (d : Dev) (old new standby code : Nat) : Dev :=
  let c := d.maxClaim + 1
  let d := (d.set (F.FLT_CLAIM_CLAIM new) c).set (F.FLT_CLAIM_CLAIM old) 0
  let d := ((d.set (F.FLT_SIDE_STATE new) 1).setRoles new standby).count K.FLT_TAKEOVERS
  (d.openGap 1).health 3 (old + 256 * new + 2 ^ 32 * c) code

/-- A transient retry: FLT_TRANSIENT; more than 16 within 1 s raise FLT_TRANSIENT_STORM (R375, R376). -/
def Dev.transient (d : Dev) (ctr : Nat) : Dev :=
  let times := (d.flt.transientTimes.filter (fun c => d.time.cycles - c ≤ secondCycles)) ++ [d.time.cycles]
  let d := ((d.modFlt (fun f => { f with transientTimes := times })).count ctr).fault Code.transient 1 d.activeSide
  if times.length > 16 then d.fault Code.transientStorm 1 d.activeSide else d

/-- The gate acts on the verdicts of a mismatch (R374, Table 2). The third retry in a row of one cycle that ends in a
mismatch raises FLT_DECISION_LOST (R375). -/
def Dev.mismatch (d : Dev) (activeFlags standbyFlags : Bool) : Dev :=
  if d.single then d else
  let a := d.activeSide
  let b := d.standbySide
  let d := d.count K.FLT_MISMATCHES
  match activeFlags, standbyFlags with
  | true, false =>
    let d := (d.takeover a b 3 Code.switchover).fault Code.switchover 1 a (d.maxClaim + 1)
    ((d.modFlt (fun f => { f with retries := 0 })).nameSide a).checkDegraded
  | false, true =>
    let d := (((d.openGap 2).setRoles a 3).count K.FLT_STANDBY_LOSSES).fault Code.standbyLost 1 b
    ((d.modFlt (fun f => { f with retries := 0 })).nameSide b).checkDegraded
  | _, _ =>
    if d.flt.gap = 3 ∧ d.flt.retries ≥ 3 then d.fatal Code.decisionLost
    else
      let d := if d.flt.gap = 3 then d else (d.openGap 3).modFlt (fun f => { f with retries := 0 })
      (d.modFlt (fun f => { f with retries := f.retries + 1 })).transient K.FLT_TRANSIENT_RETRIES

/-- LOCKSTEP_MISMATCH (R374). In SINGLE operation there is no comparison (R376). -/
def execLockstepMismatch (activeFlags standbyFlags : Bool) (s : State) : Host.Outcome State Fault Refusal :=
  settle s (s.dev.mismatch activeFlags standbyFlags)

/-- The active side's checks flag in SINGLE operation (R376): a retry; a second flag on the replay of the same cycle raises
FLT_DECISION_LOST. -/
def Dev.singleFlag (d : Dev) : Dev :=
  if !d.single then d
  else if d.flt.gap = 3 then d.fatal Code.decisionLost
  else (d.openGap 3).transient K.FLT_SINGLE_RETRIES

/-- SINGLE_CHECK_FLAG (R376). -/
def execSingleCheckFlag (s : State) : Host.Outcome State Fault Refusal := settle s s.dev.singleFlag

/-- GATE_CLAIM_CONFLICT (R378, R391). -/
def execGateClaimConflict (s : State) : Host.Outcome State Fault Refusal := settle s (s.dev.fatal Code.gateClaim)

/-- RESYNC_DONE (R382): the side joins lockstep as STANDBY. -/
def execResyncDone (side : Nat) (s : State) : Host.Outcome State Fault Refusal :=
  let d := s.dev
  if side ≥ 3 || d.side side ≠ 3 || !d.single then done s d else
  done s ((d.set (F.FLT_SIDE_STATE side) 2).setRoles d.activeSide side)

/-- SIDE_POWER_ON (R372, R383): an OFF side that is brought in enters SELF_TEST, as does the spare before dataplane ready. -/
def execSidePowerOn (side : Nat) (s : State) : Host.Outcome State Fault Refusal :=
  let d := s.dev
  if side ≥ 3 || d.side side ≠ 0 || !(d.flt.bringIn == some side || !d.sys.ready) then done s d else
  done s ((d.set (F.FLT_SIDE_STATE side) 5).modFlt (fun f => { f with bringIn := none }))

/-- A confirmed self-test failure of a side: ST_FAIL, FLT_SELF_TEST (R384). -/
def Dev.sideFails (d : Dev) (k : Nat) : Dev :=
  ((d.set F.FLT_HEALTH_ST_FAIL (d.get F.FLT_HEALTH_ST_FAIL ||| 2 ^ k)).count K.FLT_SELF_TEST_FAILS).fault Code.selfTest 1 k

/-- SIDE_SELF_TEST_DONE (R372, R383): a pass leads to RESYNC, or to OFF before dataplane ready; a confirmed failure retires
the side. -/
def execSideSelfTestDone (side : Nat) (pass : Bool) (s : State) : Host.Outcome State Fault Refusal :=
  let d := s.dev
  if side ≥ 3 || d.side side ≠ 5 then done s d
  else if pass then done s (d.set (F.FLT_SIDE_STATE side) (if d.sys.ready then 3 else 0))
  else done s ((d.sideFails side).retireSide side)

/-- An ACTIVE or STANDBY side that failed its self-test, or is worn, leaves service: the active one by planned takeover when a
standby is present (Table 1). -/
def Dev.sideLeaves (d : Dev) (k : Nat) : Dev :=
  if d.side k = 2 then (d.setRoles d.activeSide 3).retireSide k
  else if d.side k = 1 ∧ !d.single then ((d.takeover k d.standbySide 3 0).count K.FLT_PLANNED_SWITCHES).retireSide k
  else d

/-- SWITCH (R377): a planned takeover; refused while SINGLE or with a mismatch in hand. -/
def execSwitch (key : Nat) (s : State) : Host.Outcome State Fault Refusal :=
  let d := s.dev
  if key ≠ 0xFA17 || !d.responds 0x1000028 then done s d
  else if d.single || d.flt.gap ≠ 0 then done s (d.count K.FLT_SWITCH_REFUSED)
  else
    let a := d.activeSide
    done s (((d.takeover a d.standbySide a 0).set (F.FLT_SIDE_STATE a) 2).count K.FLT_PLANNED_SWITCHES)

/-- INJECT (R454): acts only while DEBUG_EN is set. -/
def execInject (key side : Nat) (s : State) : Host.Outcome State Fault Refusal :=
  let d := s.dev
  if key ≠ 0xFA17 || !d.responds 0x1000028 || !d.flag F.BARB_DBG_STATUS_DEBUG_EN || side ≥ 3 then done s d
  else if d.single then (if d.side side = 1 then settle s d.singleFlag else done s d)
  else if d.side side = 1 then settle s (d.mismatch true false)
  else if d.side side = 2 then settle s (d.mismatch false true)
  else done s d

/-- SELF_TEST_PERIOD (R384): a coverage pass that overran PERIOD_MS is counted. -/
def execSelfTestPeriod (overrun : Bool) (s : State) : Host.Outcome State Fault Refusal :=
  done s (if overrun then s.dev.count K.FLT_SELFTEST_LATE else s.dev)

/-- FLT_PEND_CLEAR (R390): a W1C write of FLT_PEND; ALERT_N follows. -/
def execFltPendClear (codes : Word) (s : State) : Host.Outcome State Fault Refusal :=
  let d := s.dev
  if !d.responds 0x1000020 then done s d else
  done s (d.putWord 0x1000020 (d.word 0x1000020 &&& ~~~ codes))

end Sys2Proof.Machine
end

