-- ==== Sys2Proof/Machine/Memory.lean ====
section
/-! DEFINITION. DDR5 (ch. 15): mirrored regions, ECC and POISON, patrol scrub, repair, and the drain of the write queue. -/
namespace Sys2Proof.Machine
open Sys2Proof

/-- The mirrored lookup regions lie in the first 1 GiB: 344 MiB of data and its copies (R360, Table 1). The order of the
regions inside the first 1 GiB is the model's choice: the mirrored ones first (DESIGN CHOICE, assumption log 12). -/
def mirrored (a : Nat) : Bool := a < 688 * 2 ^ 20

/-- The channel of an address (R359). -/
def channelOf (a : Nat) : Nat := a / 256 % 4

/-- A DRAM_LOG entry: 0 CORRECTED, 1 UNCORRECTED, 2 ADDRESS, 3 REPAIRED. -/
def Dev.dramLog (d : Dev) (addr kind : Nat) : Dev :=
  d.logPut 0xF0001C 0xF01000 4 (d.nowNs % 2 ^ 64 + 2 ^ 64 * (addr % 2 ^ 48) + 2 ^ 112 * (channelOf addr) + 2 ^ 114 * kind
    + 2 ^ 116 * (if mirrored addr then 1 else 0))

/-- A row is scheduled for repair once. -/
def Dev.scheduleRepair (d : Dev) (row : Nat) : Dev :=
  if d.dram.repairs.contains row then d else d.modDram (fun r => { r with repairs := r.repairs ++ [row] })

/-- A corrected error: counted, logged, and counted against its row's limit of PPR_THRESH within 24 h (R368, R371). -/
def Dev.dramCorrected (d : Dev) (addr row : Nat) : Dev :=
  let d := ((d.count K.DRAM_CORRECTED).raise F.DRAM_EVENT_CORRECTED).dramLog addr 0
  let times := (mapGetD d.dram.rowErrors row []).filter (fun c => d.time.cycles - c ≤ 86400 * secondCycles) ++ [d.time.cycles]
  let d := d.modDram (fun r => { r with rowErrors := mapPut r.rowErrors row times })
  if times.length ≥ d.get F.DRAM_SCRUB_PPR_THRESH then d.scheduleRepair row else d

/-- An uncorrectable error, or an address mismatch (R368, R369): counted, logged and raised; a mirrored block is served from
its copy; another word is marked POISON. The row is scheduled for repair (R371). -/
def Dev.dramUncorrected (d : Dev) (addr row kind : Nat) : Dev :=
  let d := (((d.count K.DRAM_UNCORRECTED).raise F.DRAM_EVENT_UNCORRECTED).dramLog addr kind).fault Code.dramUncorr 9 (row % 2 ^ 16)
  let d := if mirrored addr then d.count K.DRAM_MIRROR_SAVED
    else d.modDram (fun r => { r with poison := if r.poison.contains (addr / 8) then r.poison else r.poison ++ [addr / 8] })
  d.scheduleRepair row

/-- An access to a row of DDR5: the controller refreshes the row's neighbours with probability 2^-P, and counts each such command (R367). The draw
is a free value, which covers an access under OPEN that finds its row open and activates nothing as well (DESIGN CHOICE, assumption log 97). -/
def Dev.activate (d : Dev) : Dev :=
  let (v, d) := d.fresh
  d.count K.DRAM_NEIGHBOUR_REFRESH (if v.toNat % 2 ^ d.get F.DRAM_NEIGHBOUR_P = 0 then 1 else 0)

/-- A DDR5 read, and what it finds in a word: `err` is 0 nothing, 1 a correctable error, 2 an uncorrectable one, 3 an address mismatch (R368, R369). -/
def Dev.dramFound (d : Dev) (err addr row : Nat) : Dev :=
  let d := d.activate
  match err with
  | 0 => d
  | 1 => d.dramCorrected addr row
  | 2 => d.dramUncorrected addr row 1
  | _ => d.dramUncorrected addr row 2

/-- The bytes of DDR5 on the variant (ch. 0, R360). -/
def Dev.ddrSize (d : Dev) : Nat := if d.get F.GEN_ID_VARIANT = 3 then 32 * 2 ^ 30 else 64 * 2 ^ 30

/-- Whether a run of bytes holds a word marked POISON (R368). -/
def Dev.poisoned (d : Dev) (addr len : Nat) : Bool :=
  d.dram.poison.any (fun w => addr < 8 * w + 8 && 8 * w < addr + len)

/-- The bytes of a run that words marked POISON cover: offset and length. -/
def Dev.poisonRanges (d : Dev) (addr len : Nat) : List (Nat × Nat) :=
  (d.dram.poison.filter (fun w => decide (addr < 8 * w + 8 ∧ 8 * w < addr + len))).map (fun w => (8 * w - addr, 8 * w + 8 - max addr (8 * w)))

/-- A write replaces words whole, so the POISON marks it covers are gone. -/
def Dev.clearPoison (d : Dev) (addr len : Nat) : Dev :=
  d.modDram (fun r => { r with poison := r.poison.filter (fun w => !(addr ≤ 8 * w && 8 * w + 8 ≤ addr + len)) })

/-- SCRUB_READ (R370): patrol scrub reads one word; `err` is 0 clean, 1 correctable, 2 uncorrectable, 3 address mismatch;
`passEnd` ends a sweep of the word's channel, `late` one that has overrun SCRUB_H hours since it began. The row of an address is the event's
(the spec gives no row map). -/
def execScrubRead (addr row err : Nat) (passEnd late : Bool) (s : State) : Host.Outcome State Fault Refusal :=
  let d := s.dev
  if d.get F.DRAM_STATUS_READY = 0 then done s d else
  let d := d.dramFound err addr row
  let c := channelOf addr
  let overrun := decide (d.time.cycles - mapGetD d.dram.sweeps c 0 > d.get F.DRAM_SCRUB_SCRUB_H * 3600 * secondCycles)
  let d := if passEnd then (d.count K.DRAM_SCRUB_PASSES).modDram (fun r => { r with sweeps := mapPut r.sweeps c d.time.cycles }) else d
  done s (if late && overrun then d.raise F.DRAM_EVENT_SCRUB_LATE else d)

/-- PPR_REPAIR (R371): a scheduled row is repaired, or its bank group has no repair row left. -/
def execPprRepair (row addr : Nat) (rowLeft : Bool) (s : State) : Host.Outcome State Fault Refusal :=
  let d := s.dev
  if !d.dram.repairs.contains row then done s d else
  let d := d.modDram (fun r => { r with repairs := r.repairs.filter (fun x => x != row) })
  if rowLeft then
    let d := ((d.count K.DRAM_REPAIRS).raise F.DRAM_EVENT_REPAIRED).dramLog addr 3
    done s (d.modDram (fun r => { r with repairsDone := r.repairsDone ++ [row], rowErrors := mapErase r.rowErrors row }))
  else done s ((d.raise F.DRAM_EVENT_REPAIR_EXHAUSTED).fault Code.dramRepair 9 (row % 2 ^ 16))

/-- The oldest queued write reaches the devices (R366). -/
def drainOne (s : State) : State :=
  match s.dev.dram.wq with
  | [] => s
  | w :: t => { s with dev := (s.dev.modDram (fun r => { r with wq := t })).activate, ddr := memCells s.ddr w.2 }

end Sys2Proof.Machine
end

