-- ==== Sys2Proof/Machine/Tables.lean ====
section
/-! DEFINITION. Configuration sets, copy reserves, versions and the indirect registers every block shares (R156 to R162). -/
namespace Sys2Proof.Machine
open Sys2Proof

/-! Tables of the configuration set; a record's key is its table and index. -/
namespace Tab
def flow : Nat := 1
def wildcard : Nat := 2
def action : Nat := 3
def policer : Nat := 4
def profile : Nat := 5
def domain : Nat := 6
def vlan : Nat := 7
def inst : Nat := 8
def vni : Nat := 9
def template : Nat := 10
def queue : Nat := 11
def group : Nat := 12
def ring : Nat := 13
def program : Nat := 14
def binding : Nat := 15
end Tab

/-- The key of a record. -/
def recKey (tab i : Nat) : Nat := tab * 2 ^ 24 + i
/-- The fields of a table's record (ch. 6, 7, 8, 10 and 13); its other bits are reserved and read 0. Action words, policers' tokens and program
entries are kept by the rules of their own tables. -/
def recFields (tab : Nat) : List Bits :=
  if tab = Tab.flow then [⟨0, 328⟩, ⟨352, 20⟩, ⟨384, 20⟩]
  else if tab = Tab.wildcard then [⟨0, 1298⟩, ⟨1312, 20⟩, ⟨1344, 22⟩]
  else if tab = Tab.policer then [⟨0, 20⟩, ⟨31, 25⟩]
  else if tab = Tab.profile then [⟨0, 80⟩]
  else if tab = Tab.domain then [⟨0, 27⟩, ⟨32, 14⟩, ⟨48, 14⟩]
  else if tab = Tab.vlan then [⟨0, 15⟩]
  else if tab = Tab.inst then [⟨0, 30⟩]
  else if tab = Tab.vni then [⟨0, 24⟩, ⟨31, 15⟩]
  else if tab = Tab.template then [⟨0, 1029⟩, ⟨1031, 57⟩]
  else if tab = Tab.queue then [⟨0, 13⟩, ⟨14, 1⟩, ⟨16, 8⟩, ⟨32, 88⟩]
  else if tab = Tab.group then [⟨0, 28⟩, ⟨32, 32⟩]
  else if tab = Tab.ring then
    [⟨0, 28⟩, ⟨32, 12⟩, ⟨48, 13⟩, ⟨64, 142⟩, ⟨208, 14⟩, ⟨224, 11⟩, ⟨240, 11⟩, ⟨256, 32⟩]
  else [⟨0, 2048⟩]
/-- A record with its reserved bits 0. -/
def keepRec (tab : Nat) (r : Rec) : Rec := (recFields tab).foldl (fun a b => recSet a b (recGet r b)) 0

/-- A record of a configuration set; one never written reads 0. -/
def CfgSet.record (c : CfgSet) (tab i : Nat) : Rec := mapGetD c.recs (recKey tab i) 0
/-- The records of one table in index order. -/
def CfgSet.table (c : CfgSet) (tab : Nat) : List (Nat × Rec) :=
  (c.recs.filter (fun p => p.1 / 2 ^ 24 == tab)).map (fun p => (p.1 % 2 ^ 24, p.2))

/-- The copy reserve of a table in places (Table 10), with the NO_SPACE bit of R162's table number; none for the others. -/
def reserveOf (tab i : Nat) : Option (Nat × Nat) :=
  if tab = Tab.flow then some (if i < 131072 then (8192, 0) else (262144, 0))
  else if tab = Tab.wildcard then some (16384, 1)
  else if tab = Tab.action then some (65536, 2)
  else if tab = Tab.policer then some (4096, 3)
  else if tab = Tab.profile then some (16, 4)
  else none

/-- Whether two keys draw on one reserve: the same table, and the same tier for flow records. -/
def sameReserve (a b : Nat) : Bool :=
  a / 2 ^ 24 == b / 2 ^ 24 && (a / 2 ^ 24 != Tab.flow || decide (a % 2 ^ 24 < 131072) == decide (b % 2 ^ 24 < 131072))

/-- Places of a record's reserve in use: copies in the shadow set and originals not yet reclaimed (R157). -/
def Cfg.reserveUsed (c : Cfg) (key : Nat) : Nat :=
  (c.copies.filter (sameReserve key)).length + (c.dead.filter (sameReserve key)).length

/-- Flow records and rules are present by VALID; the other tables of Table 10 hold a value at every index. -/
def visibleActive (c : Cfg) (tab i : Nat) : Bool :=
  if tab = Tab.flow then recGet (c.active.record tab i) ⟨323, 1⟩ == 1
  else if tab = Tab.wildcard then recGet (c.active.record tab i) ⟨1296, 1⟩ == 1
  else true

/-- A staged write or delete of a record (R157): the new device, and whether it was performed. A write that leaves the active value as it is
takes no copy. A copy that finds no place in the reserve is not made, and NO_SPACE is set. A deleted original dies at the swap. Reserved bits
stay 0. -/
def Dev.stageRec (d : Dev) (tab i : Nat) (r : Option Rec) (log : List Byte) : Dev × Bool :=
  let key := recKey tab i
  let r := r.map (keepRec tab)
  let put := fun (c : Cfg) => match r with
    | some x => { c with shadow := { c.shadow with recs := mapPut c.shadow.recs key x } }
    | none => { c with shadow := { c.shadow with recs := mapErase c.shadow.recs key } }
  let fin := fun (d : Dev) =>
    (d.modBoot (fun b => { b with stagedLog := b.stagedLog ++ leBytes 4 key ++ log })).set F.HED_SHADOW_STATUS_CHANGED 1
  match reserveOf tab i with
  | none => (fin (d.modCfg put), true)
  | some (places, bit) =>
    let drop := fun (l : List Nat) => l.filter (fun k => k != key)
    if !visibleActive d.cfg tab i then (fin (d.modCfg put), true)
    else match r with
    | none => (fin (d.modCfg (fun c => put { c with copies := drop c.copies, deletes := drop c.deletes ++ [key] })), true)
    | some x =>
      if d.cfg.copies.contains key || (x == d.cfg.active.record tab i && !d.cfg.deletes.contains key) then (fin (d.modCfg put), true)
      else if d.cfg.reserveUsed key ≥ places then (d.set ⟨0x500004, bit, 1⟩ 1, false)
      else (fin (d.modCfg (fun c => put { c with copies := c.copies ++ [key], deletes := drop c.deletes })), true)

/-! ## Indirect registers (R161) -/

/-- RESULT codes of HED_IND_CTRL, which the other blocks share. -/
inductive IndResult where
  | ok | notFound | noSpace | range | exists_ | activeWrite
  deriving DecidableEq, Repr

/-- The RESULT code. -/
def IndResult.code : IndResult → Nat
  | .ok => 0
  | .notFound => 1
  | .noSpace => 2
  | .range => 3
  | .exists_ => 4
  | .activeWrite => 5

/-- An indirect operation: a GO while BUSY, or before the block responds, is ignored; else the fields are written, BUSY is set, and `f`
acts and gives the RESULT that INDIRECT_OP_COMPLETE will show. `ctrl` is the IND_CTRL address. -/
def Dev.indirect (d : Dev) (ctrl op table set index : Nat) (f : Dev → Dev × Nat) : Dev :=
  if !d.responds ctrl || d.get ⟨ctrl, 16, 1⟩ = 1 then d else
  let d := ((d.set ⟨ctrl, 1, 3⟩ op).set ⟨ctrl, 4, 3⟩ table).set ⟨ctrl, 7, 1⟩ set
  let d := (d.set ⟨ctrl + 4, 0, 32⟩ index).set ⟨ctrl, 16, 1⟩ 1
  let (d, r) := f d
  { d with ind := mapPut d.ind ctrl r }

/-- INDIRECT_OP_COMPLETE (R161): BUSY clears and RESULT shows. `ctrl` is the IND_CTRL address of the block. An operation on a Selvedge context
waits for its pinning walks (R316). -/
def execIndirectOpComplete (ctrl : Nat) (s : State) : Host.Outcome State Fault Refusal :=
  let d := s.dev
  if ctrl == 0x100200 && d.hif.walks.any (fun w => w.pin) then done s d else
  match mapGet d.ind ctrl with
  | none => done s d
  | some r => done s { (d.set ⟨ctrl, 16, 1⟩ 0).set ⟨ctrl, 12, 4⟩ r with ind := mapErase d.ind ctrl }

/-- A record shown in a data window of `n` bytes. -/
def Dev.showRec (d : Dev) (win n : Nat) (r : Rec) : Dev := d.putWords win (ceilDiv n 4) (r.toNat % 2 ^ (8 * n))
/-- The record that a data window of `n` bytes holds. -/
def Dev.winRec (d : Dev) (win n : Nat) : Rec := BitVec.ofNat 2048 (d.words win (ceilDiv n 4) % 2 ^ (8 * n))

/-- A staged write through a data window: SET = 1 gives ACTIVE_WRITE, a full reserve NO_SPACE. -/
def Dev.indWrite (d : Dev) (set tab i : Nat) (r : Option Rec) (n : Nat) : Dev × Nat :=
  if set = 1 then (d, IndResult.activeWrite.code) else
  let (d', okd) := d.stageRec tab i r (leBytes n ((r.getD 0).toNat))
  (d', if okd then IndResult.ok.code else IndResult.noSpace.code)

/-- The set that SET names: 0 shadow, 1 active. -/
def Dev.setBy (d : Dev) (set : Nat) : CfgSet := if set = 1 then d.cfg.active else d.cfg.shadow

/-! ## Heddle's tables (R162) -/

/-- Table number of R162: its table, how many indices it has from which first index, and its bytes. -/
def hedTable : Nat → Option (Nat × Nat × Nat × Nat)
  | 0 => some (Tab.flow, 1, 4194304, 64)
  | 1 => some (Tab.wildcard, 0, 262144, 172)
  | 2 => some (Tab.action, 0, 1048576, 8)
  | 3 => some (Tab.policer, 0, 65536, 8)
  | 4 => some (Tab.profile, 0, 16, 10)
  | _ => none

/-! Fields of a flow record (Table 8) and of a wildcard rule (R162). -/
namespace FR
def KEY : Bits := ⟨0, 320⟩
def KT : Bits := ⟨320, 3⟩
def VALID : Bits := ⟨323, 1⟩
def PROFILE : Bits := ⟨324, 4⟩
def ACTION : Bits := ⟨352, 20⟩
def EXC : Bits := ⟨384, 20⟩
end FR
namespace WR
def VALUE : Bits := ⟨0, 640⟩
def MASK : Bits := ⟨640, 640⟩
def PRIORITY : Bits := ⟨1280, 16⟩
def VALID : Bits := ⟨1296, 1⟩
def FINAL : Bits := ⟨1297, 1⟩
def ACTION : Bits := ⟨1312, 20⟩
def FLOW : Bits := ⟨1344, 22⟩
end WR

/-- Valid records only for flow records and rules. -/
def recPresent (tab : Nat) (r : Rec) : Bool :=
  if tab = Tab.flow then recGet r FR.VALID == 1 else if tab = Tab.wildcard then recGet r WR.VALID == 1 else true

/-- The index of the valid flow record of a set that holds a key, other than `but`. -/
def CfgSet.flowOfKey (c : CfgSet) (key but : Nat) : Option Nat :=
  ((c.table Tab.flow).find? (fun p => p.1 != but && recGet p.2 FR.VALID == 1 && recGet p.2 FR.KEY == key)).map (·.1)

/-- The device's IND_DATA window of HED. -/
def hedWin : Nat := 0x500200

/-- The entries of a tier's key index that fall into each bucket, but for one flow's (R145). -/
def CfgSet.indexLoad (c : CfgSet) (hot : Bool) (but : Nat) : SMap Nat :=
  ((c.table Tab.flow).filter (fun p => decide (p.1 < 131072) == hot && p.1 != but && recGet p.2 FR.VALID == 1)).foldl
    (fun m p => let b := Config.flowHash hot (recGet p.2 FR.KEY); mapPut m b (mapGetD m b 0 + 1)) []

/-- Whether a flow's key finds a place in its tier's index: a way of its 4-entry bucket, or one of the 8,192 overflow places (R145). With
8,195 other entries or fewer it always does. -/
def CfgSet.indexRoom (c : CfgSet) (i key : Nat) : Bool :=
  let hot := decide (i < 131072)
  let others := (c.table Tab.flow).filter (fun p => decide (p.1 < 131072) == hot && p.1 != i && recGet p.2 FR.VALID == 1)
  if others.length < 8196 then true else
  let load := c.indexLoad hot i
  decide (mapGetD load (Config.flowHash hot key) 0 < 4) || decide (load.foldl (fun n p => n + (p.2 - 4)) 0 < 8192)

/-- A staged write of a flow: its index entry is whole again from the swap (R145). -/
def Dev.rewriteFlow (d : Dev) (i : Nat) : Dev := d.modHed (fun h => { h with rewritten := h.rewritten ++ [i] })

/-- The tokens of a general policer now, in bytes: those of its last reckoning and what its active RATE has added (R154, R162). -/
def Dev.polTokens (d : Dev) (k : Nat) : Nat :=
  match mapGet d.hed.pol k with
  | none => 0
  | some b =>
    let r := d.cfg.active.record Tab.policer k
    min (recGet r ⟨32, 24⟩ * 9600) (b.tokens + recGet r ⟨0, 20⟩ * (d.time.cycles - b.last)) / 9600

/-- HED_READ (R161, R162). -/
def execHedRead (table set index : Nat) (s : State) : Host.Outcome State Fault Refusal :=
  done s (s.dev.indirect 0x500100 0 table set index (fun d =>
    match hedTable table with
    | none => (d, IndResult.range.code)
    | some (tab, lo, hi, n) =>
      if index ≥ hi then (d, IndResult.range.code) else
      let r := if index < lo then 0 else (d.setBy set).record tab index
      let r := if recPresent tab r then r else 0
      let d1 := d.showRec hedWin n r
      let d1 := if tab = Tab.policer then d1.putWord (hedWin + 8) (BitVec.ofNat 32 (d.polTokens index)) else d1
      (d1, if recPresent tab r then IndResult.ok.code else IndResult.notFound.code)))

/-- HED_WRITE (R161, R162). -/
def execHedWrite (table set index : Nat) (s : State) : Host.Outcome State Fault Refusal :=
  done s (s.dev.indirect 0x500100 1 table set index (fun d =>
    match hedTable table with
    | none => (d, IndResult.range.code)
    | some (tab, lo, hi, n) =>
      if index < lo ∨ index ≥ hi then (d, IndResult.range.code) else
      let r := d.winRec hedWin n
      if set ≠ 1 ∧ tab = Tab.flow ∧ recGet r FR.VALID = 1 ∧ (d.cfg.shadow.flowOfKey (recGet r FR.KEY) index).isSome
      then (d, IndResult.exists_.code)
      else if set ≠ 1 ∧ tab = Tab.flow ∧ recGet r FR.VALID = 1 ∧ d.cfg.shadow.indexRoom index (recGet r FR.KEY) = false
      then (d, IndResult.noSpace.code)
      else
        let (d, c) := d.indWrite set tab index (some r) n
        (if tab = Tab.flow ∧ c = 0 then d.rewriteFlow index else d, c)))

/-- HED_DELETE (R161, R162). -/
def execHedDelete (table set index : Nat) (s : State) : Host.Outcome State Fault Refusal :=
  done s (s.dev.indirect 0x500100 2 table set index (fun d =>
    match hedTable table with
    | none => (d, IndResult.range.code)
    | some (tab, lo, hi, n) =>
      if index < lo ∨ index ≥ hi then (d, IndResult.range.code)
      else if set ≠ 1 ∧ !recPresent tab (d.cfg.shadow.record tab index) then (d, IndResult.notFound.code)
      else d.indWrite set tab index none n))

/-- The first index from `lo` below `hi` that holds no valid record of the shadow set, none of the active set, and none that waits to be
reclaimed (R157). -/
def freeFlow (d : Dev) (hi : Nat) : Nat → Nat → Option Nat
  | 0, _ => none
  | n + 1, i =>
    if i ≥ hi then none
    else if recPresent Tab.flow (d.cfg.shadow.record Tab.flow i) || recPresent Tab.flow (d.cfg.active.record Tab.flow i)
      || d.cfg.gone.contains (recKey Tab.flow i)
    then freeFlow d hi n (i + 1) else some i

/-- INSERT_KEY (R162): INDEX 0 asks for a free hot-tier record and INDEX 131,072 for a free DDR5 record. -/
def execInsertKey (table set index : Nat) (s : State) : Host.Outcome State Fault Refusal :=
  done s (s.dev.indirect 0x500100 3 table set index (fun d =>
    if table ≠ 0 ∨ (index ≠ 0 ∧ index ≠ 131072) then (d, IndResult.range.code)
    else if set = 1 then (d, IndResult.activeWrite.code) else
    let r := recSet (d.winRec hedWin 64) FR.VALID 1
    if (d.cfg.shadow.flowOfKey (recGet r FR.KEY) 0).isSome then (d, IndResult.exists_.code) else
    let lo := if index = 0 then 1 else 131072
    let hi := if index = 0 then 131072 else 4194304
    match freeFlow d hi ((d.cfg.shadow.table Tab.flow).length + (d.cfg.active.table Tab.flow).length + d.cfg.gone.length + 1) lo with
    | none => (d, IndResult.noSpace.code)
    | some i =>
      if d.cfg.shadow.indexRoom i (recGet r FR.KEY) = false then (d, IndResult.noSpace.code) else
      let (d1, c) := d.indWrite 0 Tab.flow i (some r) 64
      (if c = 0 then (d1.rewriteFlow i).set F.HED_IND_INDEX_INDEX i else d1, c)))

/-- HED_FIND_KEY (R162). -/
def execHedFindKey (table set : Nat) (s : State) : Host.Outcome State Fault Refusal :=
  done s (s.dev.indirect 0x500100 4 table set (s.dev.get F.HED_IND_INDEX_INDEX) (fun d =>
    if table ≠ 0 then (d, IndResult.range.code) else
    match (d.setBy set).flowOfKey (recGet (d.winRec hedWin 64) FR.KEY) 0 with
    | some i => (d.set F.HED_IND_INDEX_INDEX i, IndResult.ok.code)
    | none => (d, IndResult.notFound.code)))

/-! ## Versions (R157 to R160) -/

/-- Shuttles that carry the retiring version. -/
def Dev.retiringShuttles (d : Dev) : Nat :=
  match d.cfg.retiringVersion with
  | some v => (d.shuts.filter (fun p => p.2.get S.VERSION == v)).length
  | none => 0

/-- The retiring slot has drained: the swap notice has crossed into both host islands and no shuttle carries the version
(R159). -/
def Dev.drained (d : Dev) : Bool :=
  d.retiringShuttles == 0 && !(d.xing.any (fun p => p.2.any (fun x => x == .swapNotice d.cfg.version)))

/-- The slots swapped in one cycle (R158): active to retiring, shadow to active; a new shadow sees every record of the new
active set; the swap notice goes to the host islands. -/
def Dev.swapSlots (d : Dev) : Dev :=
  let v := (d.cfg.version + 1) % 16
  let d := d.modCfg (fun c => { c with retiring := c.active, active := c.shadow, version := v, retiringVersion := some c.version,
                                       copies := [], dead := c.dead ++ c.copies, deletes := [], gone := c.gone ++ c.deletes })
  let d := d.modHed (fun h => { h with noIndex := h.noIndex.filter (fun f => !h.rewritten.contains f), rewritten := [] })
  let d := ((d.set F.HED_VERSION_ACTIVE v).set F.HED_VERSION_RETIRING ((v + 15) % 16)).set F.HED_VERSION_RETIRING_LIVE 1
  let d := (d.set F.HED_SHADOW_STATUS_CHANGED 0).set F.LOOM_COMMIT_STATUS_VERSION v
  { d with xing := [20, 21].foldl (fun m i => mapPut m i (mapGetD m i [] ++ [CrossItem.swapNotice v])) d.xing }

/-- The shadow reverts to the active set (R158). -/
def Dev.discardShadow (d : Dev) : Dev :=
  let d := (d.modCfg (fun c => { c with shadow := c.active, copies := [], deletes := [] })).modHed (fun h => { h with rewritten := [] })
  (d.modBoot (fun b => { b with stagedLog := [] })).set F.HED_SHADOW_STATUS_CHANGED 0

/-- SHADOW_DISCARD (R158): ignored while PENDING. -/
def execShadowDiscard (s : State) : Host.Outcome State Fault Refusal :=
  let d := s.dev
  if !d.responds 0x500008 || d.get F.LOOM_COMMIT_STATUS_STATE = 1 then done s d else done s d.discardShadow

/-- RECORD_RECLAIM (R157): once the retiring slot has drained, one dead record is reclaimed, originals of copies before deleted ones. -/
def execRecordReclaim (s : State) : Host.Outcome State Fault Refusal :=
  let d := s.dev
  if d.cfg.retiringVersion.isSome || (d.cfg.dead.isEmpty && d.cfg.gone.isEmpty) then done s d else
  let dead := d.cfg.dead.drop 1
  let gone := if d.cfg.dead.isEmpty then d.cfg.gone.drop 1 else d.cfg.gone
  done s ((d.modCfg (fun c => { c with dead := dead, gone := gone })).set F.HED_SHADOW_STATUS_RECLAIMING
    (if dead.isEmpty && gone.isEmpty then 0 else 1))

end Sys2Proof.Machine
end

