-- ==== Sys2Proof/Machine/Host.lean ====
section
/-! DEFINITION. Host memory as the module sees it (ch. 12): instances and links, Selvedge translations and walks, the writes and
reads that leave the PCIe lands, tags, and dirty logging. -/
namespace Sys2Proof.Machine
open Sys2Proof

/-! ## Functions -/

/-- The physical function of an instance tag (R291). -/
def Dev.pfOf (d : Dev) (inst : Nat) : Nat :=
  let t1 := d.hif.totalVfs.getD 0 0
  let t2 := d.hif.totalVfs.getD 1 0
  if inst < 4 then inst else if inst < 4 + t1 then 1 else if inst < 4 + t1 + t2 then 2 else 3

/-- The instance tag of VF j of PF_k, j from 1 (R291). -/
def Dev.vfTag (d : Dev) (k j : Nat) : Nat := 4 + (d.hif.totalVfs.take (k - 1)).foldl (· + ·) 0 + (j - 1)

/-- The host link of an instance (R291). -/
def Dev.linkOf (d : Dev) (inst : Nat) : Nat := if d.hif.split && d.pfOf inst ≥ 2 then 1 else 0

/-- A function. -/
def Dev.fn (d : Dev) (inst : Nat) : Fn := mapGetD d.hif.fns inst {}
/-- A function stored. -/
def Dev.putFn (d : Dev) (inst : Nat) (f : Fn) : Dev := d.modHif (fun h => { h with fns := mapPut h.fns inst f })

/-! Function states of ch. 12, Table 7, as HIF_FN_QUERY shows them. -/
namespace FnSt
def disabled : Nat := 0
def active : Nat := 1
def quiescing : Nat := 2
def quiesced : Nat := 3
def freezing : Nat := 4
def frozen : Nat := 5
def saving : Nat := 6
def saved : Nat := 7
def restoring : Nat := 8
def resetting : Nat := 9
end FnSt

/-- Whether the host link of an instance is up. -/
def Dev.linkUp (d : Dev) (inst : Nat) : Bool := d.flag (F.HIF_LINK_STATUS_UP (d.linkOf inst))
/-- Whether the module may issue requests of a function: Bus Master Enable is set and it is neither DISABLED nor RESETTING
(R307, R309), and its link is up. -/
def Dev.mayRequest (d : Dev) (inst : Nat) : Bool :=
  (d.fn inst).bme && (d.fn inst).state != FnSt.disabled && (d.fn inst).state != FnSt.resetting && d.linkUp inst
/-- Whether a function may receive frames: it is ACTIVE with Bus Master Enable set (R310), and its link is up (R420). -/
def Dev.mayReceive (d : Dev) (inst : Nat) : Bool := (d.fn inst).bme && (d.fn inst).state == FnSt.active && d.linkUp inst

/-! ## Selvedge -/

/-- A Selvedge context (Table 11); at module reset it is TABLE with ROOT 0 (R300). -/
def Dev.selvedge (d : Dev) (inst : Nat) : Rec := mapGetD d.hif.selvedge inst 1
/-- MODE of a context: 0 OFF, 1 TABLE, 2 ATS. -/
def Dev.xlMode (d : Dev) (inst : Nat) : Nat := recGet (d.selvedge inst) ⟨0, 2⟩
/-- ROOT of a context. -/
def Dev.xlRoot (d : Dev) (inst : Nat) : Nat := recGet (d.selvedge inst) ⟨64, 64⟩

/-- What Selvedge answers for one access within a page. -/
inductive XlRes where
  | hit (addr : Nat)
  | miss
  | fault (reason : Nat)
  deriving DecidableEq, Repr

/-- Whether a cached translation covers a page of an instance. -/
def Xl.covers (x : Xl) (inst page : Nat) : Bool := x.inst == inst && x.page / 2 ^ x.log2 == page / 2 ^ x.log2

/-- Translation of an access (R300 to R303). Through ROOT 0, which a context holds at module reset, every access faults; its reason is NOT_VALID
(DESIGN CHOICE, assumption log 47). A walk that failed is kept in `xlFault` for the access that asked. -/
def Dev.xlate (d : Dev) (inst iova : Nat) (write : Bool) : XlRes :=
  let mode := d.xlMode inst
  if mode = 0 then .hit iova
  else if mode = 1 ∧ d.xlRoot inst = 0 then .fault 1
  else if mode = 1 ∧ iova ≥ 2 ^ 48 then .fault 5
  else if mode = 2 ∧ !(d.fn inst).atsEnable then .fault 8
  else
    let page := iova / 4096
    match d.hif.xl.find? (fun x => x.covers inst page) with
    | some x =>
      if write && !x.wr then .fault 3 else if !write && !x.rd then .fault 2
      else .hit (x.host + iova % (4096 * 2 ^ x.log2))
    | none => match d.hif.xlFault.find? (fun f => f.1 == inst && f.2.1 == page) with
      | some f => .fault f.2.2
      | none => .miss

/-- A translation used is the most recently used (R303). -/
def Dev.touchXl (d : Dev) (inst iova : Nat) : Dev :=
  d.modHif (fun h => { h with
    useCount := h.useCount + 1
    xl := h.xl.map (fun (x : Xl) => if x.covers inst (iova / 4096) then { x with used := h.useCount } else x) })

/-- A translation failure logged (R303, Table 6). -/
def Dev.xlateFault (d : Dev) (inst iova reason : Nat) (write : Bool) : Dev :=
  let d := (d.count K.HIF_XLATE_FAULTS).raise F.HIF_EVENT_XLATE_FAULT
  let d := d.logPut 0x100070 0x101000 4 (iova % 2 ^ 64 + 2 ^ 64 * (inst % 4096) + 2 ^ 80 * (reason % 16)
    + 2 ^ 84 * (if write then 1 else 0) + 2 ^ 96 * (d.nowNs / 1000 % 2 ^ 32))
  d.modHif (fun h => { h with xlFault := h.xlFault.filter (fun f => !(f.1 == inst && f.2.1 == iova / 4096)) })

/-! ## Dirty logging (R315) -/

/-- One write logged in one slot. -/
def Dev.logDirtyIn (d : Dev) (inst iova len k : Nat) : Dev :=
  if d.get (F.HIF_DIRTY_CFG_ENABLE k) = 0 ∨ d.get (F.HIF_DIRTY_CFG_INSTANCE k) ≠ inst ∨ len = 0 then d else
  let base := d.get (F.HIF_DIRTY_IOVA_IOVA k) / 4096
  let pages := d.get (F.HIF_DIRTY_PAGES_PAGES k)
  let p := iova / 4096
  if p < base ∨ p ≥ base + pages then d.count K.HIF_DIRTY_OUTSIDE else
  let slot := mapGetD d.hif.dirty k {}
  let w := (p - base) / 64
  let used := d.hif.dirty.foldl (fun n s => n + s.2.words.length + s.2.old.length) 0
  match mapGet slot.words w with
  | some bits => d.modHif (fun h => { h with dirty := mapPut h.dirty k { slot with words := mapPut slot.words w (bits ||| 2 ^ ((p - base) % 64)) } })
  | none =>
    if used ≥ 65536 then (d.set (F.HIF_DIRTY_CFG_OVERFLOW k) 1).raise F.HIF_EVENT_OVERFLOW
    else d.modHif (fun h => { h with dirty := mapPut h.dirty k { slot with words := mapPut slot.words w (2 ^ ((p - base) % 64)) } })

/-- One write within a page logged in every slot of its instance. -/
def Dev.logDirty (d : Dev) (inst iova len : Nat) : Dev :=
  ([0, 1, 2, 3] : List Nat).foldl (fun d k => d.logDirtyIn inst iova len k) d

/-! ## Tags and issue (R290, R295, R296) -/

/-- Time passed since an instant of a step epoch, in 2^-16 ns, with clock steps taken out (R102). -/
def Dev.elapsed (d : Dev) (t e : Nat) : Nat := (d.onScale d.now d.epoch - d.onScale t e).toNat

/-- Outstanding reads a link may hold (R296, Table 3). -/
def Dev.tagLimit (d : Dev) (link : Nat) : Nat :=
  let l := d.hif.links.getD link {}
  let x8 := d.hif.split
  if d.flag (F.HIF_LINK_STATUS_FLIT link) && l.tagExt14 then (if x8 then 768 else 1536)
  else if l.tagExt10 then 768 else 256

/-- Whether a read finds a free tag: 128 are kept for guaranteed work, and the rest are shared (R296). -/
def Dev.tagFree (d : Dev) (link : Nat) (guar : Bool) : Bool :=
  let mine := d.hif.reads.filter (fun r => r.link == link)
  let g := (mine.filter (fun r => r.guar)).length
  if guar then mine.length < d.tagLimit link else (mine.length - g) + (g - 128) < d.tagLimit link - 128

/-- What an access reads a table entry for, if it is a walk's. -/
def Use.walks : Use → Option (Nat × Nat)
  | .walk i p => some (i, p)
  | _ => none

/-- A read request sent, with its tag (R295). -/
def Dev.sendRead (d : Dev) (op : HostOp) (addr : Nat) : Dev :=
  let link := d.linkOf op.inst
  let tag := d.hif.nextTag
  let r : HRead := { tag := tag, link := link, inst := op.inst, len := op.len, use := op.use, sent := d.now, guar := op.guar,
                     iova := op.iova, epoch := d.epoch, excess := op.excess }
  (d.emit (.hostRead link op.inst addr op.len tag)).modHif (fun h => { h with nextTag := tag + 1, reads := h.reads ++ [r] })

/-- One access that lies within a page and a request, once its address is translated. Relaxed Ordering is set on frame data writes of a function
that enables it (R290); a write with EP set counts as POISON_TX (R299). -/
def Dev.issue (d : Dev) (op : HostOp) (addr : Nat) : Dev :=
  let d := d.touchXl op.inst op.iova
  if op.len = 0 then
    let relaxed := (match op.use with
      | .buffer _ => true
      | _ => false) && (d.fn op.inst).relaxed
    let d := if op.ep then d.count K.HIF_POISON_TX else d
    (d.emit (.hostWrite (d.linkOf op.inst) op.inst addr op.bytes op.ep relaxed)).logDirty op.inst op.iova op.bytes.length
  else d.sendRead op addr

/-- Accesses that keep their order among themselves: the writes of an instance, its reads of each priority, and the walk reads that carry its
requester ID. -/
def HostOp.with_ (a b : HostOp) : Bool :=
  a.inst == b.inst && (a.len == 0) == (b.len == 0) && a.guar == b.guar && a.use.walks.isSome == b.use.walks.isSome

/-! ## Walks (R301, R302) -/

/-- A walk read issued, or kept until its requester may issue requests and a tag is free: its address is not translated. -/
def Dev.walkOp (d : Dev) (op : HostOp) : Dev × Bool :=
  if !d.mayRequest op.inst || d.hif.waiting.any (fun w => w.with_ op) || !d.tagFree (d.linkOf op.inst) false then (d, false)
  else (d.sendRead op op.iova, true)

/-- The next table entry of a walk read: 8 bytes at AS priority with PF_0's requester ID, or PF_2's for the instances of link 1. -/
def Dev.walkRead (d : Dev) (inst page addr : Nat) : Dev :=
  let op : HostOp := { inst := 2 * d.linkOf inst, iova := addr, bytes := [], len := 8, use := .walk inst page, guar := false }
  let (d, fin) := d.walkOp op
  if fin then d else d.modHif (fun h => { h with waiting := h.waiting ++ [op] })

/-- The first request of a walk: the entry of the first level, or in ATS mode a Translation Request with the instance's own requester ID. -/
def Dev.walkFirst (d : Dev) (inst page : Nat) : Dev :=
  if d.xlMode inst = 2 then d.emit (.ats 0 inst (4096 * page))
  else d.walkRead inst page (d.xlRoot inst + 8 * (page / 2 ^ 27 % 512))

/-- A walk started, once for a page. `pin` says that a pin range asks. -/
def Dev.beginWalk (d : Dev) (inst page : Nat) (pin : Bool) : Dev :=
  if d.hif.walks.any (fun w => w.inst == inst && w.page == page) then
    d.modHif (fun h => { h with walks := h.walks.map (fun (w : Walk) =>
      if w.inst = inst ∧ w.page = page then { w with pin := w.pin || pin, asked := w.asked || !pin } else w) })
  else
    let w : Walk := { inst := inst, page := page, guar := false, start := d.now, epoch := d.epoch, pin := pin, asked := !pin,
                      ats := d.xlMode inst == 2 }
    (d.modHif (fun h => { h with walks := h.walks ++ [w] })).walkFirst inst page

/-- A walk done again from its start (R304, R309). -/
def Dev.walkAgain (d : Dev) (inst page : Nat) : Dev :=
  (d.modHif (fun h => { h with walks := h.walks.map (fun (w : Walk) =>
    if w.inst = inst ∧ w.page = page then { w with got := [], failed := 0, ats := d.xlMode inst == 2 } else w) })).walkFirst inst page

/-- A walk that an access asks for; one on behalf of a guaranteed shuttle is counted once (R303). -/
def Dev.startWalk (d : Dev) (inst iova : Nat) (guar : Bool) : Dev :=
  let page := iova / 4096
  let d := d.beginWalk inst page false
  if !guar || d.hif.walks.any (fun w => w.inst == inst && w.page == page && w.guar) then d else
  (d.count K.HIF_GUAR_WALK).modHif (fun h => { h with walks := h.walks.map (fun (w : Walk) =>
    if w.inst = inst ∧ w.page = page then { w with guar := true } else w) })

/-! ## Requests -/

/-- A mover request changed (R353). -/
def Dev.modMovReq (d : Dev) (chan id : Nat) (f : MovReq → MovReq) : Dev :=
  let m := mapGetD d.movers chan {}
  { d with movers := mapPut d.movers chan { m with reqs := m.reqs.map (fun (q : MovReq) => if q.id = id then f q else q) } }

/-- An error cause of a mover request; the first one is kept. -/
def MovReq.fail (q : MovReq) (cause : Nat) : MovReq := if q.err = 0 then { q with err := cause } else q

/-- What an access that is never issued means for a mover channel: its function is reset or stopped, or its link is down (R357). -/
def Dev.opDropped (d : Dev) (op : HostOp) : Dev :=
  match op.use with
  | .mover c id _ => d.modMovReq c id (fun q => q.fail (if d.linkUp op.inst then 9 else 2))
  | _ => d

/-- One access tried: issued, made to wait for its walk or a tag, or failed; one of a function that may issue no request is dropped (R307,
R309). -/
def Dev.tryOp (d : Dev) (op : HostOp) : Dev × Bool :=
  if op.use.walks.isSome then d.walkOp op
  else if !d.mayRequest op.inst then (d.opDropped op, true)
  else if d.hif.waiting.any (fun w => w.with_ op) then (d, false)
  else match d.xlate op.inst op.iova (op.len = 0) with
    | .hit a => if op.len > 0 && !d.tagFree (d.linkOf op.inst) op.guar then (d, false) else (d.issue op a, true)
    | .miss => (d.startWalk op.inst op.iova op.guar, false)
    | .fault r => ((d.xlateFault op.inst op.iova r (op.len = 0)).modHif (fun h => { h with faulted := h.faulted ++ [op.use] }), true)

/-- One access within a page. -/
def Dev.hostOp (d : Dev) (op : HostOp) : Dev :=
  let (d, fin) := d.tryOp op
  if fin then d else d.modHif (fun h => { h with waiting := h.waiting ++ [op] })

/-- Where a page or request boundary cuts a run of bytes. -/
def cutAt (iova len lim : Nat) : Nat := min (min len lim) (4096 - iova % 4096)

/-- Byte ranges moved back by some bytes, those before the start cut away. -/
def rangesFrom (k : Nat) (l : List (Nat × Nat)) : List (Nat × Nat) :=
  (l.filter (fun p => decide (p.1 + p.2 > k))).map (fun p => (p.1 - k, p.1 + p.2 - max p.1 k))

/-- A write of bytes to host memory, cut at pages and at the largest payload; `bad` are the ranges of bytes known bad, whose TLPs carry EP. -/
def Dev.dmaWriteN (d : Dev) (inst : Nat) (use : Use) : Nat → Nat → List Byte → List (Nat × Nat) → Dev
  | 0, _, _, _ => d
  | n + 1, iova, b, bad =>
    if b.isEmpty then d else
    let k := cutAt iova b.length (max 128 (min 512 (d.fn inst).maxPayload))
    (d.hostOp { inst := inst, iova := iova, bytes := b.take k, len := 0, use := use, guar := false, ep := bad.any (fun p => decide (p.1 < k)) }).dmaWriteN
      inst use n (iova + k) (b.drop k) (rangesFrom k bad)

/-- A write of bytes to host memory: posted writes of at most Max_Payload_Size bytes, in order (R290). -/
def Dev.dmaWrite (d : Dev) (inst iova : Nat) (b : List Byte) (use : Use) (bad : List (Nat × Nat) := []) : Dev :=
  d.dmaWriteN inst use (b.length + 1) iova b bad

/-- A use moved on by some bytes of its data. -/
def Use.shift (u : Use) (k : Nat) : Use :=
  match u with
  | .txData s off => .txData s (off + k)
  | .mover c r off => .mover c r (off + k)
  | .blob off => .blob (off + k)
  | u => u

/-- A read of host memory cut at pages and at the largest request (R295). -/
def Dev.dmaReadN (d : Dev) (inst : Nat) (guar : Bool) : Nat → Nat → Nat → Use → Dev
  | 0, _, _, _ => d
  | n + 1, iova, len, use =>
    if len = 0 then d else
    let k := cutAt iova len (max 128 (d.fn inst).maxRead)
    (d.hostOp { inst := inst, iova := iova, bytes := [], len := k, use := use, guar := guar }).dmaReadN inst guar n (iova + k) (len - k) (use.shift k)

/-- A read of host memory. -/
def Dev.dmaRead (d : Dev) (inst iova len : Nat) (use : Use) (guar : Bool) : Dev := d.dmaReadN inst guar (len + 1) iova len use

/-- Whether every page of a run is translated for writing: `hit`, or the first thing that is missing. -/
def Dev.xlateRun (d : Dev) (inst : Nat) (write : Bool) : Nat → Nat → Nat → XlRes
  | 0, _, _ => .hit 0
  | n + 1, iova, len =>
    if len = 0 then .hit 0 else
    let k := cutAt iova len 4096
    match d.xlate inst iova write with
    | .hit _ => d.xlateRun inst write n (iova + k) (len - k)
    | r => r

/-- The walks that a write of `n` bytes still needs, one for each page (R301). -/
def Dev.walkPages (d : Dev) (inst iova n : Nat) (guar : Bool) : Dev :=
  (List.range (ceilDiv (iova % 4096 + n) 4096)).foldl (fun (d : Dev) k =>
    let a := iova / 4096 * 4096 + 4096 * k
    match d.xlate inst a true with
    | .miss => d.startWalk inst a guar
    | _ => d) d

end Sys2Proof.Machine
end

