-- ==== Sys2Proof/Machine/Completion.lean ====
section
/-! DEFINITION. Rings as every chapter needs them (ch. 13): contexts, positions, mirrors, errors, completions and interrupts; the end
of a frame with its DISPOSAL record and completion; and what a failed host access leads to. -/
namespace Sys2Proof.Machine
open Sys2Proof

/-! Fields of a ring context (Table 9). -/
namespace RC
def KIND : Bits := ⟨0, 2⟩
def VALID : Bits := ⟨2, 1⟩
def MODE : Bits := ⟨3, 1⟩
def FEED : Bits := ⟨4, 1⟩
def SIZE_LOG2 : Bits := ⟨5, 5⟩
def CPL_STAMP : Bits := ⟨10, 1⟩
def CPL_DATA : Bits := ⟨11, 1⟩
def CT : Bits := ⟨12, 1⟩
def PIPE_VALID : Bits := ⟨13, 1⟩
def PIPE : Bits := ⟨14, 1⟩
def ENV_VALID : Bits := ⟨15, 1⟩
def PREFETCH : Bits := ⟨16, 7⟩
def PUSH_DEPTH : Bits := ⟨23, 5⟩
def INSTANCE : Bits := ⟨32, 12⟩
def LOCAL : Bits := ⟨48, 13⟩
def BASE : Bits := ⟨64, 64⟩
def MIRROR : Bits := ⟨128, 64⟩
def CPL_RING : Bits := ⟨192, 14⟩
def ENVELOPE : Bits := ⟨208, 14⟩
def WITNESS : Bits := ⟨224, 8⟩
def TC : Bits := ⟨232, 3⟩
def VECTOR : Bits := ⟨240, 11⟩
def MOD_CNT : Bits := ⟨256, 16⟩
def MOD_US : Bits := ⟨272, 16⟩
end RC

/-! Completion status codes (Table 7). -/
namespace St
def ok : Nat := 0
def malformedDesc : Nat := 1
def xlateFault : Nat := 2
def hostPoison : Nat := 3
def authFail : Nat := 4
def hostAbort : Nat := 5
def length : Nat := 6
def fcsBad : Nat := 7
def staleVersion : Nat := 8
def programFault : Nat := 9
def saExhausted : Nat := 0xA
def underrun : Nat := 0xB
def tableParity : Nat := 0xC
def malformedFrame : Nat := 0xD
end St

/-! Ring states and error causes (Tables 8 and 10). -/
namespace RS
def disabled : Nat := 0
def active : Nat := 1
def error : Nat := 2
def resetting : Nat := 3
end RS

/-- The live state of a ring. -/
def Dev.ring (d : Dev) (r : Nat) : RingSt := mapGetD d.rings r {}
/-- A ring's live state changed. -/
def Dev.modRing (d : Dev) (r : Nat) (f : RingSt → RingSt) : Dev := { d with rings := mapPut d.rings r (f (d.ring r)) }
/-- The context of a ring in the active set. -/
def Dev.rc (d : Dev) (r : Nat) : Rec := d.cfg.active.record Tab.ring r
/-- One field of a ring's context. -/
def Dev.rcf (d : Dev) (r : Nat) (b : Bits) : Nat := recGet (d.rc r) b
/-- Entries of a ring (R319). -/
def Dev.ringSize (d : Dev) (r : Nat) : Nat := 2 ^ d.rcf r RC.SIZE_LOG2
/-- A position moved on: positions count entries modulo twice the size, so that position div size is the LAP bit (R319). -/
def Dev.advance (d : Dev) (r pos n : Nat) : Nat := (pos + n) % (2 * d.ringSize r)
/-- The index of a position. -/
def Dev.indexOf (d : Dev) (r pos : Nat) : Nat := pos % d.ringSize r
/-- The LAP of a position. -/
def Dev.lapOf (d : Dev) (r pos : Nat) : Nat := pos / d.ringSize r % 2
/-- Index in bits 15:0 and LAP in bit 16, as registers and doorbells show a position. -/
def Dev.posField (d : Dev) (r pos : Nat) : Nat := d.indexOf r pos + 65536 * d.lapOf r pos
/-- The position that an index and LAP name. -/
def Dev.posOf (d : Dev) (r index lap : Nat) : Nat := index + lap * d.ringSize r
/-- Entries from one position forward to another. -/
def Dev.ahead (d : Dev) (r a b : Nat) : Nat := (b + 2 * d.ringSize r - a) % (2 * d.ringSize r)

/-- The ring mirror written (R330). -/
def Dev.writeMirror (d : Dev) (r : Nat) : Dev :=
  let m := d.rcf r RC.MIRROR
  if m = 0 then d else
  let x := d.ring r
  let fetch := d.posField r (if d.rcf r RC.KIND = 0 ∧ d.rcf r RC.FEED = 1 then x.producer else x.fetch)
  d.dmaWrite (d.rcf r RC.INSTANCE) m
    (leBytes 8 (fetch + 2 ^ 32 * x.token + 2 ^ 48 * x.state + 2 ^ 50 * x.cause)) (.mirror r)

/-- One ring enters ERROR (R339): counted, logged, raised, mirrored. -/
def Dev.ringErrorOne (d : Dev) (r cause : Nat) : Dev :=
  if (d.ring r).state ≠ RS.active then d else
  let d := d.modRing r (fun x => { x with state := RS.error, cause := cause })
  let d := ((d.count K.RING_RING_ERRORS).raise F.RING_EVENT_ERROR).logPut 0xC00008 0xC01000 4
    (d.nowNs % 2 ^ 64 + 2 ^ 64 * r + 2 ^ 80 * (d.rcf r RC.INSTANCE) + 2 ^ 96 * cause)
  d.writeMirror r

/-- The valid TX and RX rings that name a completion ring. -/
def Dev.ringsNaming (d : Dev) (c : Nat) : List Nat :=
  ((d.cfg.active.table Tab.ring).filter (fun p => recGet p.2 RC.VALID == 1 && recGet p.2 RC.KIND != 2 && recGet p.2 RC.CPL_RING == c)).map (·.1)

/-- A ring enters ERROR; a CPL ring takes every ring that names it with it (R339). -/
def Dev.ringError (d : Dev) (r cause : Nat) : Dev :=
  let d1 := d.ringErrorOne r cause
  if d.rcf r RC.KIND = 2 ∧ (d.ring r).state = RS.active then (d.ringsNaming r).foldl (fun d x => d.ringErrorOne x 6) d1 else d1

/-! ## Interrupts and completions -/

/-- An armed completion ring sends its interrupt and disarms; while Bus Master Enable is clear the PBA bit is set instead (R309,
R338). -/
def Dev.sendMsix (d : Dev) (c : Nat) : Dev :=
  let inst := d.rcf c RC.INSTANCE
  let v := d.rcf c RC.VECTOR
  let d := d.modRing c (fun x => { x with armed := false })
  if d.mayRequest inst then (d.emit (.msix inst v)).count K.RING_MSIX_SENT
  else d.modHif (fun h => { h with pending := mapPut h.pending inst (v :: mapGetD h.pending inst []) })

/-- The conditions of R338: a ring is armed with unread completions, and their number has reached MOD_CNT, or MOD_US have passed since the
first of them was written. -/
def Dev.msixDue (d : Dev) (c : Nat) : Bool :=
  let x := d.ring c
  x.armed && match x.unread with
    | [] => false
    | (_, t) :: _ => decide (x.unread.length ≥ d.rcf c RC.MOD_CNT) ||
        (decide (d.rcf c RC.MOD_US > 0) && decide (t + 1200 * d.rcf c RC.MOD_US ≤ d.time.cycles))
/-- The conditions evaluated. -/
def Dev.evalMsix (d : Dev) (c : Nat) : Dev := if d.msixDue c then d.sendMsix c else d

/-- Free entries of a completion ring (R335). -/
def Dev.cplFree (d : Dev) (c : Nat) : Nat := d.ringSize c - d.ahead c (d.ring c).consumer (d.ring c).reserved

/-- Entries a completion of a ring takes (R333). -/
def Dev.cplEntries (d : Dev) (r : Nat) : Nat := 1 + d.rcf r RC.CPL_STAMP + d.rcf r RC.CPL_DATA

/-- Completion space reserved: the position, and the next reserve point (R335). -/
def Dev.reserveCpl (d : Dev) (r : Nat) : Nat × Dev :=
  let c := d.rcf r RC.CPL_RING
  ((d.ring c).reserved, d.modRing c (fun x => { x with reserved := d.advance c x.reserved (d.cplEntries r) }))

/-- One completion entry of 16 bytes written with the phase of its lap (R334). -/
def Dev.cplEntry (d : Dev) (c pos v : Nat) : Dev :=
  d.dmaWrite (d.rcf c RC.INSTANCE) (d.rcf c RC.BASE + 16 * d.indexOf c pos)
    (leBytes 16 (v % 2 ^ 127 + 2 ^ 127 * (1 - d.lapOf c pos))) (.ringBase c)

/-- What a completion says (Tables 5 and 6). -/
structure Cpl where
  ring : Nat
  index : Nat
  dir : Nat
  status : Nat
  flags : Nat := 0
  cipher : Nat := 0
  version : Nat := 0
  stor : Nat := 0
  count : Nat := 1
  length : Nat := 0
  placed : Nat := 0
  flow : Nat := 0
  stamp : Nat := 0
  data : Nat := 0
  deriving DecidableEq, Repr

/-- COMPLETION_WRITE (R333, R334): the extensions first, the head last, then the interrupt is judged (R338). Nothing is written
for a function that may issue no request (R307, R309). The counter MALFORMED_DESC counts completions with that status (DEDUCED, assumption
log 80). -/
def Dev.writeCpl (d : Dev) (pos : Nat) (x : Cpl) : Dev :=
  let d := if x.status = St.malformedDesc then d.count K.RING_MALFORMED_DESC else d
  let c := d.rcf x.ring RC.CPL_RING
  if !d.mayRequest (d.rcf x.ring RC.INSTANCE) then d else
  let st := d.rcf x.ring RC.CPL_STAMP
  let dt := d.rcf x.ring RC.CPL_DATA
  let d := if st = 1 then d.cplEntry c (d.advance c pos 1) x.stamp else d
  let d := if dt = 1 then d.cplEntry c (d.advance c pos (1 + st)) x.data else d
  let head := x.index % 65536 + 2 ^ 16 * (x.ring % 16384) + 2 ^ 30 * x.dir + 2 ^ 32 * x.status
    + 2 ^ 40 * (x.flags % 8) + 2 ^ 44 * (x.cipher % 4) + 2 ^ 46 * (st + dt)
    + 2 ^ 48 * (x.version % 16) + 2 ^ 52 * (x.stor % 8) + 2 ^ 56 * (x.count % 16)
    + 2 ^ 64 * (x.length % 65536) + 2 ^ 80 * (x.placed % 65536) + 2 ^ 96 * (x.flow % 2 ^ 22)
  let d := (d.cplEntry c pos head).count K.RING_CPL_WRITTEN
  (d.modRing c (fun y => { y with unread := y.unread ++ [(pos, d.time.cycles)] })).evalMsix c

/-- The STAMP extension of a stamp (Table 6); none is 0 with VALID clear. -/
def stampExt : Option StampAt → Nat
  | some x => stampField x.time + 2 ^ 80 * (1 + 2 * (x.epoch % 4))
  | none => 0

/-- The OWN bits of finished entries cleared, ahead of the completion that covers them (R323). -/
def Dev.clearOwn (d : Dev) (r index : Nat) : Nat → Dev
  | 0 => d
  | n + 1 => (d.dmaWrite (d.rcf r RC.INSTANCE) (d.rcf r RC.BASE + 32 * (index % d.ringSize r) + 31) [0] (.ringBase r)).clearOwn r (index + 1) n

/-- Flag bits of a completion's byte 5 (Table 5). -/
def Shut.cplFlags (s : Shut) : Nat :=
  s.get (S.FLAG Fl.DEADLINE_MISS) + 2 * s.get (S.FLAG Fl.WITNESSED) + 4 * s.get (S.FLAG Fl.TRUNCATED)

/-- A ring whose last taken work has ended while it is made invalid becomes DISABLED (Table 8). -/
def Dev.ringSettle (d : Dev) (r : Nat) : Dev :=
  let x := d.ring r
  if x.disabling && x.inWork == 0 then (d.modRing r (fun x => { x with state := RS.disabled, disabling := false })).writeMirror r else d

/-- The transmit completion of a host frame, once (R333, R335); a PRP copy has none of its own. -/
def Dev.txComplete (d : Dev) (i : Nat) : Dev :=
  match d.shut i with
  | none => d
  | some s => match s.ring, s.cplPos with
    | some r, some pos =>
      if s.cplDone || s.prpCopyOf.isSome then d else
      let d := d.putShut i { s with cplDone := true }
      let d := if d.rcf r RC.FEED = 0 then d.clearOwn r s.ringIndex s.entries else d
      let d := d.writeCpl pos
        { ring := r, index := s.ringIndex, dir := 0, status := s.get S.STATUS, flags := s.cplFlags, cipher := s.cipherRes,
          version := s.get S.VERSION, stor := s.storResult, count := s.entries, length := s.frame.length,
          placed := s.placed, flow := s.get S.FLOW_ID,
          stamp := if s.txFlags / 2 % 2 = 1 then stampExt s.txStamp else 0,
          data := s.counter % 2 ^ 64 + 2 ^ 64 * s.get S.FLOW_HASH }
      (d.modRing r (fun x => { x with inWork := x.inWork - 1 })).ringSettle r
    | _, _ => d

/-- The completion of a received frame whose buffer was taken, once, whatever becomes of the frame (R323, R333, R335); one that is discarded
keeps the status its stages wrote (DEDUCED, assumption log 58). -/
def Dev.rxComplete (d : Dev) (i : Nat) : Dev :=
  match d.shut i with
  | none => d
  | some s => match s.rxRing, s.rxCplPos with
    | some r, some pos =>
      let d := ((d.putShut i { s with rxCplPos := none }).clearOwn r s.rxIndex 1).writeCpl pos
        { ring := r, index := s.rxIndex, dir := 1, status := s.get S.STATUS, flags := s.cplFlags, cipher := s.cipherRes,
          version := s.get S.VERSION, stor := s.storResult, length := s.frame.length, placed := s.placed, flow := s.get S.FLOW_ID,
          stamp := stampExt (some ⟨fieldStamp (s.get S.INGRESS_STAMP), s.epoch, s.trace⟩), data := s.counter % 2 ^ 64 + 2 ^ 64 * s.get S.FLOW_HASH }
      (d.modRing r (fun x => { x with inWork := x.inWork - 1 })).ringSettle r
    | _, _ => d

/-! ## Security associations held -/

/-- A CIPH_LOG entry: 0 SOFT_LIMIT, 1 EXHAUSTED, 2 RETIRED by the manager, 3 FREED. -/
def Dev.ciphLog (d : Dev) (sa kind : Nat) : Dev :=
  d.logPut 0x700014 0x701000 4 (d.nowNs % 2 ^ 64 + 2 ^ 64 * (sa % 2 ^ 20) + 2 ^ 84 * kind)

/-- A RETIRED SA whose count has reached 0 becomes FREE (R200). -/
def Dev.freeSa (d : Dev) (k : Nat) : Dev :=
  match mapGet d.ciph.sas k with
  | none => d
  | some a =>
    if a.state = 2 ∧ a.refs = 0 then
      let pin := recGet a.record ⟨7, 1⟩
      let d := (d.modCiph (fun c => { c with sas := mapErase c.sas k })).ciphLog k 3
      if pin = 1 then d.set F.CIPH_CACHE_STATUS_PINNED (d.get F.CIPH_CACHE_STATUS_PINNED - 1) else d
    else d

/-- The SA a shuttle holds is let go (R200). -/
def Dev.releaseSa (d : Dev) (i : Nat) : Dev :=
  match d.shut i with
  | none => d
  | some s => match s.holdsSa with
    | none => d
    | some k =>
      let d := d.putShut i { s with holdsSa := none }
      let d := match mapGet d.ciph.sas k with
        | some a => d.modCiph (fun c => { c with sas := mapPut c.sas k { a with refs := a.refs - 1 } })
        | none => d
      d.freeSa k

/-- A shuttle holds an SA from the CIPHER word that names it; a later word that names the same SA changes nothing (R200). -/
def Dev.holdSa (d : Dev) (i k : Nat) : Dev :=
  if ((d.shut i).elim none Shut.holdsSa) = some k then d else
  let d := d.releaseSa i
  match d.shut i, mapGet d.ciph.sas k with
  | some s, some a =>
    (d.putShut i { s with holdsSa := some k }).modCiph (fun c => { c with sas := mapPut c.sas k { a with refs := a.refs + 1 } })
  | _, _ => d

/-! ## Learn requests (R176, R178) -/

/-- A learn request enters the queue, or finds it full (R178). -/
def Dev.queueLearn (d : Dev) (q : LearnReq) : Dev :=
  if d.fwd.queue.length ≥ 4096 then (d.count K.FWD_LEARN_QUEUE_FULL).raise F.FWD_EVENT_QUEUE_FULL
  else d.modFwd (fun f => { f with queue := f.queue ++ [q] })

/-- A shuttle's pending request is released once its end arrived good, or it was fetched whole, or cancelled (R176). -/
def Dev.releaseLearn (d : Dev) (i : Nat) : Dev :=
  match d.shut i with
  | none => d
  | some s => match s.learn with
    | none => d
    | some q =>
      let d := d.putShut i { s with learn := none }
      if s.flag Fl.FCS_BAD || s.flag Fl.MALFORMED || s.flag Fl.TRUNCATED || s.unfetched || s.dropReason == some 1 then d else d.queueLearn q

/-! ## The end of a frame -/

/-- Whether the other copy of a PRP pair may still leave (R77). -/
def Dev.twinLives (d : Dev) (s : Shut) : Bool :=
  match s.twin with
  | none => false
  | some j => match d.shut j with
    | some x => x.dropReason.isNone
    | none => false

/-- A frame that ended or was fetched whole is finished without departure: its learn request, ingress record, DISPOSAL record and transmit
completion, or that of a buffer it was given, are written and the shuttle is released (R117, R118, R176, R335). The DISPOSAL record of a PRP
pair is the original's, while neither copy has left or may leave. -/
def Dev.finishOne (d : Dev) (i reason : Nat) : Dev :=
  match d.shut i with
  | none => d
  | some s =>
    let d := ((d.releaseLearn i).takeIngress i { s with learn := none }).missFlush i
    let d := match d.shut i with
      | some s => if s.prpCopyOf.isSome || s.twinDone || d.twinLives s then d else d.disposal s reason
      | none => d
    (((d.releaseSa i).rxComplete i).txComplete i).freeShut i

/-- A frame is finished without departure. The original of a PRP pair keeps its shuttle, which holds the completion, while its copy may
still leave (R333), and is finished with the copy. -/
def Dev.finish (d : Dev) (i reason : Nat) : Dev :=
  match d.shut i with
  | none => d
  | some s =>
    if s.prpCopyOf.isNone && d.twinLives s then d.putShut i { s with stage := .ended, dropReason := some reason } else
    let d := d.finishOne i reason
    match s.prpCopyOf with
    | none => d
    | some o => match d.shut o with
      | none => d
      | some x => match x.dropReason with
        | some r => if x.ended then d.finishOne o r else d
        | none => d

/-- A shuttle leaves Reed's queues and deadline sets; a queue that empties resets its deficits (R241). -/
def Dev.unqueue (d : Dev) (i : Nat) : Dev :=
  d.modReed (fun r => { r with
    queues := r.queues.map (fun p =>
      let l := p.2.frames.filter (fun j => j != i)
      (p.1, { p.2 with frames := l, deficit := if l.isEmpty then [0, 0, 0] else p.2.deficit })),
    deadlineSet := r.deadlineSet.map (fun p => (p.1, p.2.filter (fun j => j != i))) })

/-- A frame is discarded. One whose end has not arrived, or that a cipher lane still holds, keeps its shuttle until then, for the records
of R118 and the replay window of R204. `reason` is the DISPOSAL reason. -/
def Dev.discard (d : Dev) (i reason : Nat) : Dev :=
  match d.shut i with
  | none => d
  | some s =>
    let d := d.unqueue i
    if s.ended && s.lane.isNone then d.finish i reason else
    let d := if s.lane.isNone then d.releaseSa i else d
    d.putShut i { ((d.shut i).getD s) with stage := .ended, dropReason := some reason }

/-- A discard that is a miss when the shuttle is guaranteed (R56). -/
def Dev.discardMiss (d : Dev) (i reason cause : Nat) : Dev :=
  match d.shut i with
  | none => d
  | some s => (d.declareMiss i s cause 0).discard i reason

/-- A status code kept by a shuttle (R337). -/
def Dev.setStatus (d : Dev) (i c : Nat) : Dev :=
  match d.shut i with
  | none => d
  | some s => d.putShut i (s.status c)

/-- A shuttle changed. -/
def Dev.modShut (d : Dev) (i : Nat) (f : Shut → Shut) : Dev :=
  match d.shut i with
  | none => d
  | some s => d.putShut i (f s)

/-- A guaranteed shuttle loses its class before delivery: the miss is recorded and it goes on as BE (R56, R173, R199). -/
def Dev.loseClass (d : Dev) (i cause : Nat) : Dev :=
  match d.shut i with
  | none => d
  | some s =>
    if !s.guaranteed then d else
    (d.declareMiss i s cause 0).modShut i (fun s => (s.set S.CLASS 3).set S.DEADLINE noDeadline)

/-! ## Errors in the packet buffer (R363) -/

/-- An uncorrectable error in a shuttle: the shuttle is discarded and counted, a guaranteed one as a miss of cause FAULT, and a host frame
completes with FCS_BAD. -/
def Dev.shuttleLost (d : Dev) (i : Nat) : Dev :=
  match d.shut i with
  | none => d
  | some s =>
    let d := d.count K.DRAM_SHUTTLE_LOST
    (if s.get S.DIR = 1 then d.setStatus i St.fcsBad else d).discardMiss i 6 Miss.fault

/-- An uncorrectable error in the 8-byte word of a cell that holds frame byte `at_`: the word's bytes are known bad, and read as free values.
A frame that carries them completes with FCS_BAD (R299); on a network port it ends with an inverted FCS, as R74 ends a frame whose bytes are found
bad after its start (DEDUCED, assumption log 87). -/
def Dev.cellBad (d : Dev) (i at_ : Nat) : Dev :=
  match d.shut i with
  | none => d
  | some s =>
    if at_ ≥ s.frame.length then d else
    let (v, d) := d.fresh
    let k := at_ / 8 * 8
    d.putShut i { s.status St.fcsBad with frame := patchBytes s.frame k (leBytes (min 8 (s.frame.length - k)) v.toNat),
                                                badAt := s.badAt ++ [(k, min 8 (s.frame.length - k))] }

/-! ## Ledger export stops -/

/-- A stream's export stops (R133): EXPORT clears, EXPORT_STOP is raised, and a HEALTH record of source EXPORT is written. -/
def Dev.stopExport (d : Dev) (s cause : Nat) : Dev :=
  if d.get (F.LEDG_STREAM_CFG_EXPORT s) = 0 then d else
  let d := (d.set (F.LEDG_STREAM_CFG_EXPORT s) 0).set ⟨0x400004, 8 + s, 1⟩ 0
  (d.raise F.LEDG_EVENT_EXPORT_STOP).health 7 (s + 2 ^ 16 * cause) 0

/-- Every stream of an exporting instance stops (R133). -/
def Dev.stopExports (d : Dev) (inst cause : Nat) : Dev :=
  (List.range 8).foldl (fun d s => if d.sh (F.LEDG_STREAM_CFG_INSTANCE s) = inst then d.stopExport s cause else d) d

/-! ## Host data of transmit frames -/

/-- The last host byte of a transmit frame is in (R328): short frames are padded to 60 bytes (R322); a frame whose read failed is
discarded with its status, or stomped once egress has begun, and one shed while it was fetched is finished. The frame then waits at
its pipeline's entry. -/
def Dev.txFetched (d : Dev) (i : Nat) : Dev :=
  match d.shut i with
  | none => d
  | some s =>
    if !s.toRead.isEmpty || s.ended then d else
    let pad : List Byte := List.replicate (60 - s.rx.length) 0
    let s := { s with ended := true, frame := s.frame ++ pad, rx := s.rx ++ pad, endDone := s.stage == Stage.fetch }
    let s := s.set S.LENGTH (s.frame.length + 4)
    let d := d.putShut i s
    match s.dropReason with
    | some r => d.discard i r
    | none =>
      if s.unfetched then
        (if s.departed then d.putShut i { s with stomp := true } else d.discard i 6)
      else if s.stage = .fetch then d.arrive i s .entry else d

/-- A piece of a transmit frame failed (R297, R303): its work ends with a status once its other reads have ended. -/
def Dev.txPieceFailed (d : Dev) (i off code : Nat) : Dev :=
  (d.modShut i (fun s => { s.status code with toRead := s.toRead.filter (fun p => p.1 != off), unfetched := true })).txFetched i

/-! ## Failed host accesses -/

/-- What one failed access leads to (R303). Uses whose own command reports the failure stay listed. -/
def Dev.faultUse (d : Dev) : Use → Dev
  | .ringBase r => d.ringError r 2
  | .mirror r => d.ringError r 2
  | .desc r _ _ => d.ringError r 2
  | .export_ s => d.stopExport s 3
  | .txData i off => d.txPieceFailed i off St.xlateFault
  | .mover c id _ => d.modMovReq c id (fun q => q.fail 1)
  | .other => d
  | u => d.modHif (fun h => { h with faulted := h.faulted ++ [u] })

/-- Failed accesses handled; handling one may fail another. -/
def Dev.faultsN (d : Dev) : Nat → Dev
  | 0 => d
  | n + 1 =>
    let l := d.hif.faulted
    if l.all (fun u => match u with | .cid _ => true | .blob _ => true | .dirty _ => true | .buffer _ => true | _ => false)
    then d else (l.foldl Dev.faultUse (d.modHif (fun h => { h with faulted := [] }))).faultsN n

/-! ## Pause sent (R69) -/

/-- The priority of a frame: PCP of its outer VLAN tag, 0 without one. -/
def pcpOf (f : List Byte) : Nat :=
  let t := beNat (sliceBytes f 12 2)
  if t = 0x8100 ∨ t = 0x88A8 then (f.getD 14 0).toNat / 32 else 0

/-- Bytes held against a port's receive allotment for a priority; 8 is the whole port. -/
def Dev.heldBytes (d : Dev) (p prio : Nat) : Nat :=
  d.shuts.foldl (fun n (x : Nat × Shut) =>
    if x.2.get S.DIR = 0 && x.2.get S.PORT = p && (prio == 8 || pcpOf x.2.rx == prio) then n + x.2.rx.length else n) 0

/-- Whether an XOFF for a priority belongs to the pause that a port transmits (R69): 8 is the whole port, which PAUSE judges by its own
allotment (DESIGN CHOICE, assumption log 84); the management port sends no PFC (R75). -/
def Dev.xoffFits (d : Dev) (p prio : Nat) : Bool :=
  match d.sh (F.PORT_PAUSE_TX_MODE p) with
  | 1 => prio == 8
  | 2 => p != 8 && decide (prio < 8)
  | _ => false

/-- XOFF above 75 % of an allotment, and XON once it is below 50 %. -/
def Dev.pauseJudge (d : Dev) (p prio : Nat) : Dev :=
  let n := d.heldBytes p prio
  let a := Config.allotment p prio
  let x := mapGetD d.net.ports p {}
  let put := fun (d : Dev) l => d.modNet (fun y => { y with ports := mapPut y.ports p { x with xoff := l } })
  if x.xoff.contains prio then
    (if n * 2 < a then (put d (x.xoff.filter (fun k => k != prio))).emit (.pause p 0 (2 ^ prio)) else d)
  else if n * 4 > a * 3 then (put d (x.xoff ++ [prio])).emit (.pause p (d.sh (F.PORT_PAUSE_QUANTA p)) (2 ^ prio))
  else d

/-- An XOFF that no longer belongs to what the port transmits, after a swap, is forgotten without an XON (DESIGN CHOICE, assumption log 84). -/
def Dev.xoffForget (d : Dev) (p : Nat) : Dev :=
  let x := mapGetD d.net.ports p {}
  if x.xoff.all (d.xoffFits p) then d else
  d.modNet (fun y => { y with ports := mapPut y.ports p { x with xoff := x.xoff.filter (d.xoffFits p) } })

/-- Every port that transmits PAUSE or PFC judged. -/
def Dev.pauseSettle (d : Dev) : Dev :=
  (List.range 9).foldl (fun d p =>
    let d := d.xoffForget p
    match d.sh (F.PORT_PAUSE_TX_MODE p) with
    | 1 => d.pauseJudge p 8
    | 2 => if p = 8 then d else (List.range 8).foldl (fun d k => d.pauseJudge p k) d
    | _ => d) d

/-- A command that may have used host memory or freed a frame ends: the failures of its accesses are handled, and pause is judged. -/
def doneH (s : State) (d : Dev) : Host.Outcome State Fault Refusal := done s (d.faultsN 4).pauseSettle

end Sys2Proof.Machine
end

