-- ==== Sys2Proof/Machine/Forward.lean ====
section
/-! DEFINITION. Forwarding tables, learning and ageing (ch. 7). Entries are keyed by the index of R186: on-die ways, on-die overflow,
DDR5 ways, DDR5 overflow. -/
namespace Sys2Proof.Machine
open Sys2Proof

/-! ## Places -/

def fwdOndieOver : Nat := 1048576
def fwdDdrWays : Nat := 1056768
def fwdDdrOver : Nat := 4202496
def fwdEnd : Nat := 4210688

/-- Whether an index lies in the DDR5 table. -/
def inDdr (i : Nat) : Bool := fwdDdrWays ≤ i

/-- The 8 bytes of a forwarding key (R163). -/
def fwdKey (mac fd : Nat) : List Byte := beBytes 6 mac ++ leBytes 2 fd

/-- The hash of a key under a seed: CRC-32C over the key and the seed's two bytes (R167; the place of the seed is the
model's: DESIGN CHOICE, assumption log 19). -/
def fwdHash (mac fd seed : Nat) : Nat := crc32c (fwdKey mac fd ++ leBytes 2 seed)

/-- The first way of a key's bucket (R167, Table 2). -/
def Dev.bucketOf (d : Dev) (ddr : Bool) (mac fd : Nat) : Nat :=
  if ddr then fwdDdrWays + 4 * (fwdHash mac fd (d.get F.FWD_SEED_SEED_DDR5) * 786432 / 2 ^ 32)
  else 4 * (fwdHash mac fd (d.get F.FWD_SEED_SEED_ONDIE) % 262144)

/-- The overflow store of a table: first place and end. -/
def overOf (ddr : Bool) : Nat × Nat := if ddr then (fwdDdrOver, fwdEnd) else (fwdOndieOver, fwdDdrWays)

/-- An entry by index. -/
def Dev.fwdAt (d : Dev) (i : Nat) : Option FwdEntry := mapGet d.fwd.entries i
/-- Whether the entry at a place holds a key. -/
def Dev.fwdIs (d : Dev) (mac fd i : Nat) : Bool :=
  match d.fwdAt i with
  | some e => e.mac == mac && e.fd == fd
  | none => false
/-- A key in the overflow store of a table. -/
def Dev.findOver (d : Dev) (ddr : Bool) (mac fd : Nat) : Option Nat :=
  (d.fwd.entries.find? (fun p => (overOf ddr).1 ≤ p.1 && p.1 < (overOf ddr).2 && p.2.mac == mac && p.2.fd == fd)).map (·.1)
/-- Whether a place lies in a table-store bank that is OUT, whose records are absent (R386). -/
def Dev.fwdOut (d : Dev) (i : Nat) : Bool := !inDdr i && d.flt.outUnits.contains (5, Config.tableBank i)
/-- A key in a table: its bucket, then the overflow store. -/
def Dev.findIn (d : Dev) (ddr : Bool) (mac fd : Nat) : Option Nat :=
  let b := d.bucketOf ddr mac fd
  if !ddr && d.flt.outUnits.any (fun u => u.1 == 5) then
    (([b, b + 1, b + 2, b + 3] : List Nat).find? (fun i => d.fwdIs mac fd i && !d.fwdOut i)).orElse
      (fun _ => (d.findOver ddr mac fd).filter (fun i => !d.fwdOut i))
  else match ([b, b + 1, b + 2, b + 3] : List Nat).find? (fun i => d.fwdIs mac fd i) with
  | some i => some i
  | none => d.findOver ddr mac fd
/-- A key in either table (R167). -/
def Dev.fwdFind (d : Dev) (mac fd : Nat) : Option Nat := ((d.findIn false mac fd).orElse (fun _ => d.findIn true mac fd))

/-- The first free place for a key in a table: ways 0 to 3, then the overflow store (R169). -/
def Dev.freePlace (d : Dev) (ddr : Bool) (mac fd : Nat) : Option Nat :=
  let b := d.bucketOf ddr mac fd
  match ([b, b + 1, b + 2, b + 3] : List Nat).find? (fun i => (d.fwdAt i).isNone) with
  | some i => some i
  | none =>
    let used := (d.fwd.entries.filter (fun p => (overOf ddr).1 ≤ p.1 && p.1 < (overOf ddr).2)).length
    if used ≥ 8192 then none
    else (List.range (used + 1)).map (· + (overOf ddr).1) |>.find? (fun i => (d.fwdAt i).isNone)

/-! ## Entries and counts -/

/-- An entry stored at a place. -/
def Dev.putFwd (d : Dev) (i : Nat) (e : FwdEntry) : Dev := d.modFwd (fun f => { f with entries := mapPut f.entries i e })

/-- A port's learn count and the number of learned entries changed by one. -/
def Dev.learnCount (d : Dev) (port : Nat) (up : Bool) : Dev :=
  let upd := fun n => if up then n + 1 else n - 1
  let d := d.set F.FWD_STATUS_LEARNED (upd (d.get F.FWD_STATUS_LEARNED))
  if port ≤ 10 then d.set (F.FWD_PORT_COUNT_COUNT port) (upd (d.get (F.FWD_PORT_COUNT_COUNT port))) else d

/-- An entry removed; a learned one leaves the counts. -/
def Dev.removeFwd (d : Dev) (i : Nat) : Dev :=
  match d.fwdAt i with
  | none => d
  | some e =>
    let d := d.modFwd (fun f => { f with entries := mapErase f.entries i })
    if e.isStatic then d else d.learnCount e.port false

/-- Learned entries of a domain. -/
def Dev.domainCount (d : Dev) (fd : Nat) : Nat := (d.fwd.entries.filter (fun p => !p.2.isStatic && p.2.fd == fd)).length
/-- Learned entries on-die. -/
def Dev.ondieLearned (d : Dev) : Nat := (d.fwd.entries.filter (fun p => !p.2.isStatic && !inDdr p.1)).length

/-- A hit or refresh writes AGE when it differs; a FROZEN entry is not refreshed (R181, R182). `counted` counts REFRESH. A refresh of a DDR5
entry waits in a queue of 1,024 places, and is dropped when that is full (R184). -/
def Dev.refresh (d : Dev) (i : Nat) (counted : Bool) : Dev :=
  match d.fwdAt i with
  | none => d
  | some e =>
    if e.frozen || e.age == d.fwd.tick || d.fwd.refreshes.any (fun r => r.1 == i && r.2.2.2 == d.fwd.tick) then d
    else if inDdr i && decide (d.fwd.refreshes.length ≥ 1024) then d.count K.FWD_REFRESH_SKIPPED
    else
      let d := if inDdr i then d.modFwd (fun f => { f with refreshes := f.refreshes ++ [(i, e.mac, e.fd, d.fwd.tick)] })
        else d.putFwd i { e with age := d.fwd.tick }
      if counted then d.count K.FWD_REFRESH else d

/-- The refreshes that wait reach the DDR5 table's update unit; one whose key has left its place is dropped (R184, Table 6). That they do so with
the unit's next change is the model's (DESIGN CHOICE, assumption log 86). -/
def Dev.applyRefreshes (d : Dev) : Dev :=
  d.fwd.refreshes.foldl (fun (d : Dev) r => match d.fwdAt r.1 with
    | some e => if e.mac = r.2.1 ∧ e.fd = r.2.2.1 ∧ e.frozen = false then d.putFwd r.1 { e with age := r.2.2.2 } else d
    | none => d) (d.modFwd (fun f => { f with refreshes := [] }))

/-- An FWD_LOG entry of kinds 1 FLAP and 2 LIMIT. -/
def Dev.fwdLog (d : Dev) (mac fd kind : Nat) : Dev :=
  d.logPut 0x600028 0x603000 4 (d.nowNs % 2 ^ 64 + 2 ^ 64 * (mac % 2 ^ 48) + 2 ^ 112 * (fd % 2 ^ 14) + 2 ^ 126 * kind)

/-- TABLE_PARITY (R185): an entry that fails its check is invalidated, counted, logged by its index, and raised. -/
def Dev.fwdParity (d : Dev) (i : Nat) : Dev :=
  let d := (d.removeFwd i).count K.FWD_PARITY
  let d := d.logPut 0x600028 0x603000 4 (d.nowNs % 2 ^ 64 + 2 ^ 64 * (i % 2 ^ 23))
  (d.raise F.FWD_EVENT_PARITY).fault Code.tableParity

/-- The parity failures that a read of tables meets. -/
def Dev.parityAt (d : Dev) : Option Nat → Dev
  | none => d
  | some i => if (d.fwdAt i).isSome then d.fwdParity i else d

/-! ## Domains and lookup (R164 to R173) -/

/-- The destination address of a frame's outer or inner Ethernet header at `off`. -/
def macAt (f : List Byte) (off : Nat) : Nat := beNat (sliceBytes f off 6)

/-- The entry of a VLAN, instance or VNI map for a shuttle: FD, LEARN and RING (R164, R186). -/
def Dev.mapEntry (d : Dev) (s : Shut) (keysel : Nat) : Option (Nat × Nat × Nat) :=
  let c := d.cfgOf s
  let port := s.get S.PORT
  if keysel = 1 then
    if s.get (S.OFFSET 4) = 0xFFFF ∨ s.get (S.OFFSET 5) = 0xFFFF then none else
    ((c.table Tab.vni).find? (fun p => recGet p.2 ⟨31, 1⟩ == 1 && recGet p.2 ⟨0, 24⟩ == s.vni)).map (fun p => (recGet p.2 ⟨32, 14⟩, 0, 0))
  else if port ≤ 8 then
    let r := c.record Tab.vlan (port * 4096 + s.tci % 4096)
    some (recGet r ⟨0, 14⟩, recGet r ⟨14, 1⟩, 0)
  else if port = 9 ∨ port = 10 then
    let r := c.record Tab.inst (s.get S.INSTANCE)
    some (recGet r ⟨0, 14⟩, recGet r ⟨14, 1⟩, recGet r ⟨16, 14⟩)
  else none

/-- What a destination lookup finds at once, or that it needs DDR5. -/
inductive FwdFound where
  | hit (i : Nat)
  | miss
  | ddr5
  deriving DecidableEq, Repr

/-- The on-die stage of a lookup (R171, R172). -/
def Dev.lookupOndie (d : Dev) (tier mac fd : Nat) : FwdFound :=
  match d.findIn false mac fd with
  | some i => match d.fwdAt i with
    | some e => if tier = 2 ∧ !e.pin then .miss else .hit i
    | none => .miss
  | none =>
    if tier ≠ 0 then .miss else
    match d.findOver true mac fd with
    | some i => .hit i
    | none => .ddr5

/-- A guaranteed shuttle whose result leaves its envelope's DST loses its class, with a miss of cause FAULT (R173). -/
def Dev.checkDst (d : Dev) (i port : Nat) : Dev :=
  match d.shut i with
  | none => d
  | some s =>
    if !s.guaranteed then d else
    let dst := (d.cfgOf s).get ⟨0xA80000 + 32 * (s.envelope.getD 0) + 12, 24, 4⟩
    if port = dst then d else (d.loseClass i Miss.fault).count K.FWD_GUAR_DST_MISMATCH

/-- The lookup stage writes the destination, unless a DEST word follows the FORWARD word (R171); either way the result is held against the
envelope's DST (R173). -/
def Dev.writeDest (d : Dev) (i port queue : Nat) : Dev :=
  match d.shut i with
  | none => d
  | some s =>
    (if s.destAfter then d else
      d.putShut i (((s.set S.DEST_PORT port).set S.DEST_QUEUE queue).set S.DEST_VALID 1)).checkDst i port

/-- What a miss leads to: the shuttle goes on, is discarded, or runs its exception list. -/
inductive MissAct where
  | go | drop | exception_
  deriving DecidableEq, Repr

/-- The miss action of a domain (R172). -/
def Dev.fwdMiss (d : Dev) (i fd : Nat) : Dev × MissAct :=
  match d.shut i with
  | none => (d, .go)
  | some s =>
    let r := (d.cfgOf s).record Tab.domain fd
    match recGet r ⟨21, 2⟩ with
    | 0 => (d, .drop)
    | 1 => (d.writeDest i (recGet r ⟨23, 4⟩) (recGet r ⟨32, 14⟩), .go)
    | _ => (d, .exception_)

/-- A hit: counted by table, refreshed, and its destination written (R172, R182). -/
def Dev.fwdHit (d : Dev) (i idx : Nat) : Dev :=
  match d.fwdAt idx with
  | none => d
  | some e =>
    let d := d.count (if inDdr idx then K.FWD_HIT_DDR5 else K.FWD_HIT_ONDIE)
    (d.refresh idx true).writeDest i e.port e.queue

/-! ## Learning (R175 to R178) -/

/-- The LAN A port of a port's pair, or the port itself (R76, R177). -/
def Dev.lanA (d : Dev) (c : CfgSet) (port : Nat) : Nat :=
  let _ := d
  if port ≤ 7 ∧ c.get (F.PORT_PRP_ENABLE port) = 1 then min port (c.get (F.PORT_PRP_PARTNER port)) else port

/-- LEARN_REQUEST (R175 to R177): the source lookup of a frame whose FORWARD word asks for learning. -/
def Dev.learnSource (d : Dev) (i fd ring : Nat) : Dev :=
  match d.shut i with
  | none => d
  | some s =>
    let mac := macAt s.frame 6
    if bitsOf mac 40 1 = 1 then d.count K.FWD_SOURCE_GROUP else
    let c := d.cfgOf s
    let entry := s.get S.PORT
    let port := if entry ≤ 8 then d.lanA c entry else entry
    let queue := if entry ≤ 8 then recGet (c.record Tab.domain fd) ⟨48, 14⟩ else ring
    let request := fun (d : Dev) =>
      let d := d.putShut i { s.mark Fl.LEARN with learn := some ⟨mac, fd, port, queue⟩ }
      if s.ended then d.releaseLearn i else d
    match d.findIn false mac fd with
    | none => request d
    | some idx => match d.fwdAt idx with
      | none => d
      | some e =>
        if e.port = port then d.refresh idx true
        else if e.isStatic then d.count K.FWD_STATIC_CONFLICT
        else request d

/-- A refused insert or move (Table 4). -/
def Dev.learnRefused (d : Dev) (q : LearnReq) (ctr : Nat) : Dev :=
  ((d.count ctr).raise F.FWD_EVENT_LIMIT).fwdLog q.mac q.fd 2

/-- An insert by the learn unit (R169, R170, Table 4). -/
def Dev.learnInsert (d : Dev) (q : LearnReq) : Dev :=
  let c := d.cfg.active
  if d.get F.FWD_STATUS_LEARNED ≥ 1048576 then d.count K.FWD_LIMIT_DOMAIN
  else if q.port ≤ 10 ∧ d.get (F.FWD_PORT_COUNT_COUNT q.port) ≥ c.get (F.FWD_PORT_LEARN_LIMIT q.port) then d.learnRefused q K.FWD_LIMIT_PORT
  else if d.domainCount q.fd ≥ recGet (c.record Tab.domain q.fd) ⟨0, 21⟩ then d.learnRefused q K.FWD_LIMIT_DOMAIN
  else
    let place := match (if d.ondieLearned < d.get F.FWD_ONDIE_LEARN_ONDIE_MAX then d.freePlace false q.mac q.fd else none) with
      | some i => some i
      | none => d.freePlace true q.mac q.fd
    match place with
    | none => (d.count K.FWD_TABLE_FULL).raise F.FWD_EVENT_TABLE_FULL
    | some i =>
      ((d.putFwd i ⟨q.mac, q.fd, false, false, false, q.port, q.queue, d.fwd.tick⟩).learnCount q.port true).count K.FWD_LEARNED

/-- The move tracker with one more move of a key: the count in its window, and the tracker (R181). -/
def trackMove (l : List MoveWin) (key now window : Nat) : Nat × List MoveWin :=
  match l.find? (fun w => w.key == key && decide (now - w.start ≤ window)) with
  | some w => (w.count + 1, l.map (fun (x : MoveWin) => if x.key = key then { x with count := w.count + 1 } else x))
  | none =>
    let l := l.filter (fun w => w.key != key)
    let oldest := l.foldl (fun m w => min m w.start) now
    let l := if l.length ≥ 1024 then
        match l.find? (fun w => w.start == oldest) with
        | some o => l.filter (fun w => w.key != o.key)
        | none => l
      else l
    (1, l ++ [⟨key, now, 1⟩])

/-- A station move (R180, R181): refused at the new port's limit; the one that would pass MOVE_LIMIT freezes the entry. -/
def Dev.stationMove (d : Dev) (i : Nat) (e : FwdEntry) (q : LearnReq) : Dev :=
  if q.port ≤ 10 ∧ d.get (F.FWD_PORT_COUNT_COUNT q.port) ≥ d.sh (F.FWD_PORT_LEARN_LIMIT q.port) then
    (d.count K.FWD_LIMIT_PORT).raise F.FWD_EVENT_LIMIT
  else
    let window := d.get F.FWD_LEARN_CFG_MOVE_WINDOW_MS * 1200000
    let (n, l) := trackMove d.fwd.moves (q.mac * 16384 + q.fd) d.time.cycles window
    if n > d.get F.FWD_LEARN_CFG_MOVE_LIMIT then
      (((d.putFwd i { e with frozen := true, age := d.fwd.tick }).count K.FWD_FLAPS).fwdLog q.mac q.fd 1).raise F.FWD_EVENT_FLAP
    else
      let d := (d.putFwd i { e with port := q.port, queue := q.queue, age := d.fwd.tick }).modFwd (fun f => { f with moves := l })
      let d := (d.learnCount e.port false).learnCount q.port true
      d.count K.FWD_MOVES

/-- LEARN_DECIDE (R179, Table 4): the next request decided over both tables. `parity` is an entry whose check fails when it is
read. -/
def execLearnDecide (parity : Option Nat) (s : State) : Host.Outcome State Fault Refusal :=
  let d := s.dev
  match d.fwd.queue with
  | [] => done s d
  | q :: t =>
    let d := ((d.modFwd (fun f => { f with queue := t })).applyRefreshes).parityAt parity
    match d.fwdFind q.mac q.fd with
    | none => done s (d.learnInsert q)
    | some i => match d.fwdAt i with
      | none => done s d
      | some e =>
        done s (if e.port = q.port then d.refresh i false
          else if e.isStatic then d.count K.FWD_STATIC_CONFLICT
          else if e.frozen then d.count K.FWD_MOVE_FROZEN
          else d.stationMove i e q)

/-! ## Ageing (R182 to R184) -/

/-- AGE_TICK (R182). -/
def execAgeTick (s : State) : Host.Outcome State Fault Refusal :=
  done s (s.dev.modFwd (fun f => { f with tick := (f.tick + 1) % 65536 }))

/-- Ticks since an AGE. -/
def Dev.ageOf (d : Dev) (age : Nat) : Nat := (d.fwd.tick + 65536 - age) % 65536

/-- AGER_REMOVE (R184): a conditional remove takes effect only when AGE still has the value that was read, and no refresh of the place waits. -/
def Dev.agerRemove (d : Dev) (r : Nat × Nat) : Dev :=
  match d.fwdAt r.1 with
  | none => d
  | some e =>
    if e.isStatic || e.frozen || e.age ≠ r.2 || d.fwd.refreshes.any (fun q => q.1 == r.1) then d.count K.FWD_AGE_SAVED
    else (d.removeFwd r.1).count K.FWD_AGED

/-- One entry as the ager reads it (R181, R183). -/
def Dev.agerEntry (d : Dev) (i : Nat) : Dev :=
  match d.fwdAt i with
  | none => d
  | some e =>
    if e.frozen then
      (if d.ageOf e.age ≥ d.get F.FWD_FREEZE_FREEZE_TICKS then d.putFwd i { e with frozen := false, age := d.fwd.tick } else d)
    else if !e.isStatic && decide (d.ageOf e.age ≥ d.get F.FWD_CFG_AGE_LIMIT) then
      d.modFwd (fun f => { f with removes := f.removes ++ [(i, e.age)] })
    else d

/-- AGER_BUCKET_READ (R183): the removes issued before are applied, then the four places from 4 × bucket are read. -/
def execAgerBucketRead (bucket : Nat) (sweepLate : Bool) (parity : Option Nat) (s : State) : Host.Outcome State Fault Refusal :=
  let d := s.dev.parityAt parity
  let rm := d.fwd.removes
  let d := (rm.foldl Dev.agerRemove (d.modFwd (fun f => { f with removes := [] }))).applyRefreshes
  let d := ([0, 1, 2, 3] : List Nat).foldl (fun d w => d.agerEntry (4 * bucket + w)) d
  done s (if sweepLate then d.raise F.FWD_EVENT_SWEEP_LATE else d)

/-! ## Manager access (R186 to R188) -/

/-- An entry as its 16 bytes (Table 3), with even parity. -/
def fwdRec (e : FwdEntry) : Nat :=
  let x := e.mac + 2 ^ 48 * e.fd + 2 ^ 62 + 2 ^ 63 * (if e.isStatic then 1 else 0) + 2 ^ 64 * (if e.pin then 1 else 0)
    + 2 ^ 65 * (if e.frozen then 1 else 0) + 2 ^ 66 * (e.port % 16) + 2 ^ 70 * (e.queue % 2 ^ 14) + 2 ^ 84 * (e.age % 65536)
  x + 2 ^ 127 * (((List.range 127).filter (fun i => x.testBit i)).length % 2)

/-- The entry that 16 bytes hold. -/
def recFwd (x : Nat) : FwdEntry :=
  ⟨x % 2 ^ 48, bitsOf x 48 14, x.testBit 63, x.testBit 64, x.testBit 65, bitsOf x 66 4, bitsOf x 70 14, bitsOf x 84 16⟩

/-- Table number of R186: its table, indices and bytes. -/
def fwdTable : Nat → Option (Nat × Nat × Nat)
  | 1 => some (Tab.domain, 16384, 8)
  | 2 => some (Tab.vlan, 36864, 2)
  | 3 => some (Tab.inst, 4096, 4)
  | 4 => some (Tab.vni, 16384, 6)
  | _ => none

/-- The device's FWD_IND_DATA window. -/
def fwdWin : Nat := 0x600200

/-- FWD_READ (R186, R187). -/
def execFwdRead (table set index : Nat) (s : State) : Host.Outcome State Fault Refusal :=
  done s (s.dev.indirect 0x600100 0 table set index (fun d =>
    if table = 0 then
      if index ≥ fwdEnd then (d, 3) else
      match d.fwdAt index with
      | some e => (d.putWords fwdWin 4 (fwdRec e), 0)
      | none => (d.putWords fwdWin 4 0, 1)
    else match fwdTable table with
      | none => (d, 3)
      | some (tab, n, b) => if index ≥ n then (d, 3) else (d.showRec fwdWin b ((d.setBy set).record tab index), 0)))

/-- Whether a place is one where a key may stand: a way of its bucket, or the overflow store of that table (R167). -/
def Dev.mayStand (d : Dev) (i mac fd : Nat) : Bool :=
  let b := d.bucketOf (inDdr i) mac fd
  decide (b ≤ i ∧ i < b + 4) || decide ((overOf (inDdr i)).1 ≤ i ∧ i < (overOf (inDdr i)).2)

/-- FWD_WRITE (R186): live on table 0; staged on tables 1 to 4. One key is held at most once, where its hash puts it (R167), and no more than
1,048,576 learned entries exist (R170): what breaks this gives EXISTS, RANGE and NO_SPACE (DESIGN CHOICE, assumption log 86). -/
def execFwdWrite (table set index : Nat) (s : State) : Host.Outcome State Fault Refusal :=
  done s (s.dev.indirect 0x600100 1 table set index (fun d =>
    if table = 0 then
      let x := d.words fwdWin 4
      let e := recFwd x
      if index ≥ fwdEnd ∨ (x.testBit 62 ∧ e.fd = 0) ∨ (e.pin ∧ (inDdr index ∨ !e.isStatic)) then (d, 3)
      else if !x.testBit 62 then ((d.removeFwd index).applyRefreshes, 0)
      else if !d.mayStand index e.mac e.fd then (d, 3)
      else if (match d.fwdFind e.mac e.fd with | some i => i != index | none => false) then (d, 4)
      else
        let d1 := d.removeFwd index
        if !e.isStatic ∧ d1.get F.FWD_STATUS_LEARNED ≥ 1048576 then (d, 2)
        else
          let d1 := (d1.putFwd index e).applyRefreshes
          (if e.isStatic then d1 else d1.learnCount e.port true, 0)
    else match fwdTable table with
      | none => (d, 3)
      | some (tab, n, b) => if index ≥ n then (d, 3) else d.indWrite set tab index (some (d.winRec fwdWin b)) b))

/-- The record of the VNI map that a VNI names. -/
def CfgSet.vniIndex (c : CfgSet) (vni : Nat) : Option Nat :=
  ((c.table Tab.vni).find? (fun p => recGet p.2 ⟨31, 1⟩ == 1 && recGet p.2 ⟨0, 24⟩ == vni)).map (·.1)

/-- DELETE_KEY (R187). -/
def execDeleteKey (table set : Nat) (s : State) : Host.Outcome State Fault Refusal :=
  done s (s.dev.indirect 0x600100 2 table set (s.dev.get F.FWD_IND_INDEX_INDEX) (fun d =>
    let x := d.words fwdWin 4
    if table = 0 then
      match d.fwdFind (recFwd x).mac (recFwd x).fd with
      | some i => ((d.removeFwd i).applyRefreshes, 0)
      | none => (d, 1)
    else if table = 4 then
      if set = 1 then (d, 5) else
      match d.cfg.shadow.vniIndex (x % 2 ^ 24) with
      | some i => d.indWrite 0 Tab.vni i none 6
      | none => (d, 1)
    else (d, 3)))

/-- WRITE_KEY (R187): an insert of a static entry, or an existing entry of the key made static. -/
def execWriteKey (table set : Nat) (s : State) : Host.Outcome State Fault Refusal :=
  done s (s.dev.indirect 0x600100 3 table set (s.dev.get F.FWD_IND_INDEX_INDEX) (fun d =>
    let x := d.words fwdWin 4
    if table = 0 then
      let e := { recFwd x with isStatic := true, frozen := false, age := d.fwd.tick }
      let ddr := (d.word (fwdWin + 16)).toNat % 2 == 1
      if e.fd = 0 ∨ (e.pin ∧ ddr) then (d, 3) else
      match d.fwdFind e.mac e.fd with
      | some i =>
        if e.pin ∧ inDdr i then (d, 3)
        else ((((d.removeFwd i).putFwd i e).applyRefreshes).set F.FWD_IND_INDEX_INDEX i, 0)
      | none => match d.freePlace ddr e.mac e.fd with
        | none => ((d.count K.FWD_TABLE_FULL).raise F.FWD_EVENT_TABLE_FULL, 2)
        | some i => (((d.putFwd i e).applyRefreshes).set F.FWD_IND_INDEX_INDEX i, 0)
    else if table = 4 then
      if set = 1 then (d, 5) else
      let put := fun i => let (d, c) := d.indWrite 0 Tab.vni i (some (d.winRec fwdWin 6)) 6; (d.set F.FWD_IND_INDEX_INDEX i, c)
      match d.cfg.shadow.vniIndex (x % 2 ^ 24) with
      | some i => put i
      | none =>
        match (List.range ((d.cfg.shadow.table Tab.vni).length + 1)).find? (fun i => recGet (d.cfg.shadow.record Tab.vni i) ⟨31, 1⟩ == 0) with
        | some i => if i < 16384 then put i else (d, 2)
        | none => (d, 2)
    else (d, 3)))

/-- FWD_FIND_KEY (R187). -/
def execFwdFindKey (table set : Nat) (s : State) : Host.Outcome State Fault Refusal :=
  done s (s.dev.indirect 0x600100 4 table set (s.dev.get F.FWD_IND_INDEX_INDEX) (fun d =>
    let x := d.words fwdWin 4
    if table = 0 then
      match d.fwdFind (recFwd x).mac (recFwd x).fd with
      | some i => (d.set F.FWD_IND_INDEX_INDEX i, 0)
      | none => (d, 1)
    else if table = 4 then
      match (d.setBy set).vniIndex (x % 2 ^ 24) with
      | some i => (d.set F.FWD_IND_INDEX_INDEX i, 0)
      | none => (d, 1)
    else (d, 3)))

/-- FWD_FLUSH (R188): a GO while FLUSH_BUSY is set is ignored. `by_` is 0 for an FD and 1 for a DEST_PORT. -/
def execFwdFlush (by_ target : Nat) (s : State) : Host.Outcome State Fault Refusal :=
  let d := s.dev
  if !d.responds 0x60002C || d.fwd.flush.isSome then done s d else
  done s ((d.modFwd (fun f => { f with flush := some (by_, target, 0) })).set F.FWD_LEARN_STATUS_FLUSH_BUSY 1)

/-- Whether a flush removes an entry. -/
def flushes (by_ target : Nat) (e : FwdEntry) : Bool :=
  !e.isStatic && !e.frozen && (if by_ = 1 then e.port == target % 16 else e.fd == target)

/-- The place of a bucket of the on-die or of the DDR5 table among all buckets, which are numbered through both; none outside that table. -/
def flushPlace (ddr5 : Bool) (bucket : Nat) : Option Nat :=
  let b := (if ddr5 then fwdDdrWays / 4 else 0) + bucket
  if inDdr (4 * b) == ddr5 then some b else none

/-- FLUSH_BUCKET (R188): the four places of a bucket. Buckets are read in rising order, overflow stores by four places alike (DESIGN CHOICE,
assumption log 86), and the flush ends when both tables have been read. -/
def execFlushBucket (ddr5 : Bool) (bucket : Nat) (s : State) : Host.Outcome State Fault Refusal :=
  let d := s.dev
  match d.fwd.flush, flushPlace ddr5 bucket with
  | some (b, t, next), some place =>
    if place ≠ next then done s d else
    let d := ([0, 1, 2, 3] : List Nat).foldl (fun d w =>
      match d.fwdAt (4 * place + w) with
      | some e => if flushes b t e then d.removeFwd (4 * place + w) else d
      | none => d) d.applyRefreshes
    done s (if 4 * (place + 1) ≥ fwdEnd then (d.modFwd (fun f => { f with flush := none })).set F.FWD_LEARN_STATUS_FLUSH_BUSY 0
      else d.modFwd (fun f => { f with flush := some (b, t, place + 1) }))
  | _, _ => done s d

end Sys2Proof.Machine
end

