-- ==== Sys2Proof/Machine/Parse.lean ====
section
/-! DEFINITION. Heddle's parser (R136 to R142), the keys it builds (R143, R144) and the policing charge (R153). -/
namespace Sys2Proof.Machine
open Sys2Proof

/-! Malformed causes (Table 3) and entries of OFFSETS (R19). -/
namespace Mal
def TRUNC : Nat := 0
def VLAN_DEPTH : Nat := 1
def IPV4_HDR : Nat := 2
def IPV4_CSUM : Nat := 3
def IP_LEN : Nat := 4
def IPV6_HDR : Nat := 5
def EXT_DEPTH : Nat := 6
def L4_HDR : Nat := 7
def TUNNEL_HDR : Nat := 8
def HDR_DEPTH : Nat := 9
def FRAG_HDR : Nat := 10
def SECTAG_HDR : Nat := 11
end Mal
namespace Off
def l2 : Nat := 0
def vlan : Nat := 1
def l3 : Nat := 2
def l4 : Nat := 3
def tun : Nat := 4
def il2 : Nat := 5
def il3 : Nat := 6
def il4 : Nat := 7
def sec : Nat := 8
def pay : Nat := 9
def app : Nat := 10
def eoh : Nat := 11
end Off

/-- One IP level as parsed: 0 for none, else 4 or 6; its offset, its Ethernet header, its length with its header, protocol, and
whether it is fragmented. -/
structure IpLevel where
  ver : Nat := 0
  at_ : Nat := 0
  l2 : Nat := 0
  len : Nat := 0
  proto : Nat := 0
  frag : Bool := false
  ports : Bool := false
  l4 : Nat := 0
  deriving DecidableEq, Repr

/-- The parser's progress: offsets (0xFFFF absent), the outer tag and EtherType, both IP levels, the VNI, and how it stopped:
`mal` on a broken rule, `more` for want of the second window. -/
structure Parsed where
  offs : List Nat := List.replicate 12 0xFFFF
  pos : Nat := 0
  tci : Nat := 0
  etype : Nat := 0
  outer : IpLevel := {}
  inner : IpLevel := {}
  vni : Nat := 0
  payload : Option Nat := none
  firstFrag : Bool := false
  ptp : Option Nat := none
  nvme : Bool := false
  mal : Option Nat := none
  more : Bool := false
  deriving DecidableEq, Repr

/-- A frame as the parser sees it: bytes present, whether its end has arrived, NVME_PORT. -/
structure View where
  f : List Byte
  ended : Bool
  nvmePort : Nat
  deriving DecidableEq, Repr

/-- A byte of the frame. -/
def View.b (v : View) (k : Nat) : Nat := (v.f.getD k 0).toNat
/-- A big-endian 16-bit field of the frame. -/
def View.u16 (v : View) (k : Nat) : Nat := 256 * v.b k + v.b (k + 1)

/-- An offset written as the parser reaches its header (R137). -/
def Parsed.reach (p : Parsed) (i k : Nat) : Parsed := { p with offs := p.offs.set i k }
/-- The parser stops at the header that starts at `pos` (R140). -/
def Parsed.fail (p : Parsed) (c : Nat) : Parsed := { p with mal := some c }

/-- A header's bytes from `pos` needed: present and within 256 bytes, else TRUNC, HDR_DEPTH or the second window (R136, R138). -/
def Parsed.need (v : View) (p : Parsed) (n : Nat) (k : Parsed → Parsed) : Parsed :=
  if p.pos + n ≤ v.f.length then (if p.pos + n > 256 then p.fail Mal.HDR_DEPTH else k p)
  else if v.ended then p.fail Mal.TRUNC
  else if p.pos + n > 256 then p.fail Mal.HDR_DEPTH
  else { p with more := true }

/-- MACsec SecTAG: it ends the parse (Table 1, SECTAG_HDR of Table 3). -/
def parseSecTag (v : View) (p : Parsed) : Parsed :=
  (p.reach Off.sec p.pos).need v 6 (fun p =>
    let tci := v.b p.pos
    if tci ≥ 128 then p.fail Mal.SECTAG_HDR
    else if tci.testBit 5 then
      (if v.ended ∧ p.pos + 14 > v.f.length then p.fail Mal.SECTAG_HDR
       else p.need v 14 (fun p => { p with pos := p.pos + 14 }))
    else { p with pos := p.pos + 6 })

/-- The PTP common header: it ends the parse. `transport` is 0 Ethernet, 4 UDP over IPv4, 6 UDP over IPv6. -/
def parsePtp (v : View) (transport : Nat) (p : Parsed) : Parsed :=
  p.need v 34 (fun p =>
    let event := v.b p.pos % 16 ≤ 3 ∧ v.b (p.pos + 1) % 16 = 2 ∧ v.b (p.pos + 1) / 16 ≤ 1
    { p with pos := p.pos + 34, ptp := if event then some transport else none })

/-- ARP: it ends the parse. -/
def parseArp (v : View) (p : Parsed) : Parsed :=
  p.need v 8 (fun p =>
    let n := 8 + 2 * (v.b (p.pos + 4) + v.b (p.pos + 5))
    p.need v n (fun p => { p with pos := p.pos + n }))

/-- The IP level being parsed, changed. -/
def Parsed.level (p : Parsed) (inner : Bool) (f : IpLevel → IpLevel) : Parsed :=
  if inner then { p with inner := f p.inner } else { p with outer := f p.outer }

/-- A header chain parsed onward from `pos` with a protocol number. -/
abbrev Next := Parsed → Nat → Parsed

/-- The fields of a fragment (R142); FRAG_HDR when it would pass 65,535 (Table 3). -/
def Parsed.fragment (p : Parsed) (inner : Bool) (off len : Nat) (k : Parsed → Parsed) : Parsed :=
  let p := { (p.level inner (fun l => { l with frag := true })) with firstFrag := off == 0 }
  if off * 8 + len > 65535 then p.fail Mal.FRAG_HDR else k p

/-- The one's complement sum of 16-bit words, folded. -/
def onesSum (l : List Byte) : Nat :=
  let rec go : List Byte → Nat
    | [] => 0
    | [a] => 256 * a.toNat
    | a :: b :: t => 256 * a.toNat + b.toNat + go t
  let s := go l
  let s := s % 65536 + s / 65536
  s % 65536 + s / 65536

/-- IPv4 (Table 1, Table 3). -/
def parseIpv4 (v : View) (inner : Bool) (next : Next) (p : Parsed) : Parsed :=
  let o := p.pos
  (p.reach (if inner then Off.il3 else Off.l3) o).need v 20 (fun p =>
    let ihl := v.b o % 16
    if v.b o / 16 ≠ 4 ∨ ihl < 5 then p.fail Mal.IPV4_HDR else
    p.need v (4 * ihl) (fun p =>
      if onesSum (sliceBytes v.f o (4 * ihl)) ≠ 0xFFFF then p.fail Mal.IPV4_CSUM else
      let tot := v.u16 (o + 2)
      let p := p.level inner (fun l => { l with ver := 4, at_ := o, len := tot, proto := v.b (o + 9) })
      let fo := v.u16 (o + 6) % 8192
      if (v.b (o + 6)).testBit 5 ∨ fo ≠ 0 then
        p.fragment inner fo (tot - 4 * ihl) (fun p => { p with pos := o + 4 * ihl })
      else next { p with pos := o + 4 * ihl } (v.b (o + 9))))

/-- The extension headers of IPv6 (Table 1, Table 2): `n` is how many more may follow. -/
def parseExt (v : View) (inner : Bool) (next : Next) (o plen : Nat) : Nat → Nat → Parsed → Parsed
  | n, h, p =>
    if h = 0 ∨ h = 43 ∨ h = 44 ∨ h = 60 then
      match n with
      | 0 => p.fail Mal.EXT_DEPTH
      | n + 1 => p.need v 8 (fun p =>
          let k := p.pos
          if h = 44 then
            (p.level inner (fun l => { l with proto := v.b k })).fragment inner (v.u16 (k + 2) / 8) (plen - (k + 8 - o - 40))
              (fun p => { p with pos := k + 8 })
          else
            let size := (v.b (k + 1) + 1) * 8
            p.need v size (fun p =>
              parseExt v inner next o plen n (v.b k)
                { (p.level inner (fun l => { l with proto := v.b k })) with pos := k + size }))
    else next p h

/-- IPv6 (Table 1, Table 3). -/
def parseIpv6 (v : View) (inner : Bool) (next : Next) (p : Parsed) : Parsed :=
  let o := p.pos
  (p.reach (if inner then Off.il3 else Off.l3) o).need v 40 (fun p =>
    if v.b o / 16 ≠ 6 then p.fail Mal.IPV6_HDR else
    let plen := v.u16 (o + 4)
    let p := p.level inner (fun l => { l with ver := 6, at_ := o, len := plen + 40, proto := v.b (o + 6) })
    parseExt v inner next o plen 4 (v.b (o + 6)) { p with pos := o + 40 })

/-- Tags and EtherType of an Ethernet header: `n` is how many more tags may follow; `pos` is at a TPID or EtherType. -/
def parseTags (v : View) (inner first : Bool) (next : Next) : Nat → Parsed → Parsed
  | n, p =>
    let et := v.u16 p.pos
    if et = 0x8100 ∨ et = 0x88A8 then
      match n with
      | 0 => p.fail Mal.VLAN_DEPTH
      | n + 1 =>
        (if !inner && first then p.reach Off.vlan p.pos else p).need v 6 (fun p =>
          let p := if !inner && first then { p with tci := v.u16 (p.pos + 2) } else p
          parseTags v inner false next n { p with pos := p.pos + 4 })
    else next { (if inner then p else { p with etype := et }) with pos := p.pos + 2 } et

/-- An Ethernet header (Table 1). -/
def parseEth (v : View) (inner : Bool) (next : Next) (p : Parsed) : Parsed :=
  let o := p.pos
  let p := (p.reach (if inner then Off.il2 else Off.l2) o).level inner (fun l => { l with l2 := o })
  p.need v 14 (fun p => parseTags v inner true next (if inner then 1 else 2) { p with pos := o + 12 })

/-- An L4 header, then what a tunnel or PTP port leads to. -/
def parseL4 (v : View) (inner : Bool) (tunnel : Nat → Parsed → Parsed) : Next := fun p proto =>
  let o := p.pos
  let reached := p.reach (if inner then Off.il4 else Off.l4) o
  let l4done := fun (p : Parsed) (n : Nat) (ports : Bool) =>
    { (p.level inner (fun l => { l with l4 := o, ports := ports })) with pos := o + n, payload := some (o + n) }
  if proto = 50 then (p.reach Off.sec o).need v 8 (fun p => { p with pos := o + 8 })
  else if proto = 1 ∨ proto = 58 then reached.need v 4 (fun p => l4done p 4 false)
  else if proto = 6 then
    reached.need v 20 (fun p =>
      let doff := v.b (o + 12) / 16
      if doff < 5 then p.fail Mal.L4_HDR else
      p.need v (4 * doff) (fun p =>
        { l4done p (4 * doff) true with nvme := v.u16 o == v.nvmePort || v.u16 (o + 2) == v.nvmePort }))
  else if proto = 17 then
    reached.need v 8 (fun p =>
      if v.u16 (o + 4) < 8 then p.fail Mal.L4_HDR
      else tunnel (v.u16 (o + 2)) (l4done p 8 true))
  else p

/-- What an EtherType leads to. -/
def parseType (v : View) (inner : Bool) (l4 : Next) : Next := fun p et =>
  if et = 0x88E5 then parseSecTag v p
  else if et = 0x88F7 ∧ !inner then parsePtp v 0 p
  else if et = 0x0806 then parseArp v p
  else if et = 0x0800 then parseIpv4 v inner l4 p
  else if et = 0x86DD then parseIpv6 v inner l4 p
  else p

/-- The inner frame: no tunnel inside a tunnel (Table 2). -/
def parseInner (v : View) (p : Parsed) : Parsed := parseEth v true (parseType v true (parseL4 v true (fun _ p => p))) p

/-- VXLAN, GENEVE and PTP behind an outer UDP port (Table 1). -/
def parseTunnel (v : View) (port : Nat) (p : Parsed) : Parsed :=
  let o := p.pos
  if port = 4789 then
    (p.reach Off.tun o).need v 8 (fun p =>
      if !(v.b o).testBit 3 then p.fail Mal.TUNNEL_HDR
      else parseInner v { p with pos := o + 8, vni := beNat (sliceBytes v.f (o + 4) 3) })
  else if port = 6081 then
    (p.reach Off.tun o).need v 8 (fun p =>
      if v.b o / 64 ≠ 0 then p.fail Mal.TUNNEL_HDR else
      let n := 8 + 4 * (v.b o % 64)
      p.need v n (fun p =>
        let p := { p with pos := o + n, vni := beNat (sliceBytes v.f (o + 4) 3) }
        if v.u16 (o + 2) = 0x6558 then parseInner v p else p))
  else if port = 319 ∨ port = 320 then parsePtp v p.outer.ver p
  else p

/-- The headers of a frame from byte 0 (R136, R137). -/
def parseFrame (v : View) : Parsed := parseEth v false (parseType v false (parseL4 v false (parseTunnel v))) {}

/-- Whether an IP length disagrees with the bytes to the frame's end `n` by more than padding (IP_LEN of Table 3). -/
def IpLevel.badLen (l : IpLevel) (n : Nat) : Bool :=
  l.ver != 0 && (decide (l.at_ + l.len > n) || (decide (l.at_ + l.len < n) && decide (n - l.l2 > 60)))

/-- Whether a field of a key profile lies past the bytes that have arrived (R143). -/
def keyWaits (profile : Nat) (s : Shut) (p : Parsed) : Bool :=
  !s.ended && !(p.outer.frag || p.inner.frag) && ([0, 1, 2, 3, 4] : List Nat).any (fun i =>
    let x := bitsOf profile (16 * i) 16
    let base := s.get (S.OFFSET (x % 16))
    bitsOf x 4 4 != 0 && x % 16 ≤ 11 && base != 0xFFFF && decide (base + bitsOf x 8 8 + bitsOf x 4 4 > s.frame.length))

/-- IP_LEN over both levels (R140): `n` is the frame's length without FCS and without a recognised PRP trailer. -/
def Parsed.ipLen (p : Parsed) (n : Nat) : Bool := p.outer.badLen n || p.inner.badLen n

/-- The charge of R153: the frame's length once its end is known, else from the outermost IP header. -/
def chargeOf (s : Shut) (p : Parsed) : Option Nat :=
  if s.ended then some (s.frame.length + 4)
  else if p.outer.ver ≠ 0 then some (max 64 (p.outer.at_ + p.outer.len + 4))
  else none

/-! ## Keys (R143, R144) -/

/-- SOURCE (R143). -/
def sourceOf (s : Shut) (p : Parsed) : Nat :=
  s.get S.PORT * 4096 + (if s.get S.PORT ≤ 8 then p.tci % 4096 else s.get S.INSTANCE)

/-- Source and destination ports of an IP level as 4 bytes; zeros in place of ports without them. -/
def IpLevel.portBytes (l : IpLevel) (f : List Byte) : List Byte :=
  if l.ports && !l.frag then sliceBytes f l.l4 4 else [0, 0, 0, 0]
/-- Source and destination addresses of an IP level. -/
def IpLevel.addrs (l : IpLevel) (f : List Byte) : List Byte :=
  if l.ver = 4 then sliceBytes f (l.at_ + 12) 8 else sliceBytes f (l.at_ + 8) 32

/-- An IPv4 5-tuple of 13 bytes, or an IPv6 one of 37. -/
def IpLevel.tuple (l : IpLevel) (f : List Byte) : List Byte := l.addrs f ++ [BitVec.ofNat 8 l.proto] ++ l.portBytes f

/-- The bytes a key may draw on (R142, R143): those of the frame, and of a fragment those up to the end of its fragmented IP header. -/
def Parsed.keyEnd (p : Parsed) (f : List Byte) : Nat := if p.outer.frag || p.inner.frag then min p.pos f.length else f.length

/-- One field of a key profile (R142, R143): a field whose BASE is absent, or that would pass the bytes a key may draw on, reads zeros. -/
def profileField (f : List Byte) (stop : Nat) (offs : List Nat) (x : Nat) : List Byte :=
  let w := bitsOf x 4 4
  let base := offs.getD (x % 16) 0xFFFF
  let at_ := base + bitsOf x 8 8
  if base = 0xFFFF ∨ at_ + w > stop then List.replicate w 0 else sliceBytes f at_ w

/-- The OFFSETS entries of a shuttle (R137). -/
def Shut.offsets (s : Shut) : List Nat := (List.range 12).map (fun k => s.get (S.OFFSET k))

/-- The key type of a flow record that a port's exact key may hit: a tunnel type with a fragmented outer header is keyed as KT 0 or KT 1
(R142). -/
def Parsed.keyType (p : Parsed) (kt : Nat) : Nat :=
  if (kt = 3 ∨ kt = 4) ∧ p.outer.frag = true then (if p.outer.ver = 4 then 0 else 1) else kt

/-- The bytes of an exact key after SOURCE, when the frame has the headers its type needs (Table 5). -/
def keyBody (kt profile : Nat) (f : List Byte) (offs : List Nat) (p : Parsed) : Option (List Byte) :=
  let tunnel := p.offs.getD Off.tun 0xFFFF ≠ 0xFFFF
  if p.mal.isSome ∧ kt ≤ 4 ∧ p.outer.ver = 0 ∧ kt ≠ 2 then none else
  match kt with
  | 0 => if p.outer.ver = 4 then some (p.outer.tuple f) else none
  | 1 => if p.outer.ver = 6 then some (p.outer.tuple f) else none
  | 2 => if f.length ≥ 14 then some (sliceBytes f 0 12 ++ beBytes 2 p.etype) else none
  | 3 =>
    if p.outer.frag then (if p.outer.ver = 4 then some (p.outer.tuple f) else if p.outer.ver = 6 then some (p.outer.tuple f) else none)
    else if tunnel ∧ p.inner.ver = 4 then some (beBytes 3 p.vni ++ p.inner.tuple f) else none
  | 4 =>
    if p.outer.frag then (if p.outer.ver = 4 then some (p.outer.tuple f) else if p.outer.ver = 6 then some (p.outer.tuple f) else none)
    else if tunnel ∧ p.inner.ver = 6 then
      some (beBytes 3 p.vni ++ p.inner.addrs f ++ [BitVec.ofNat 8 p.inner.proto] ++ (p.inner.portBytes f).drop 2)
    else none
  | 6 => some (([0, 1, 2, 3, 4] : List Nat).flatMap (fun i => profileField f (p.keyEnd f) offs (bitsOf profile (16 * i) 16)))
  | _ => none

/-- The exact key of 40 bytes of a parsed shuttle (R143). -/
def exactKey (s : Shut) (kt profile : Nat) (p : Parsed) : Option (List Byte) :=
  (keyBody kt profile s.frame s.offsets p).map (fun b => ((beBytes 2 (sourceOf s p) ++ b) ++ List.replicate 38 0).take 40)

/-- An address as 16 bytes, IPv4 as ::ffff:a.b.c.d. -/
def addr16 (l : IpLevel) (f : List Byte) (dst : Bool) : List Byte :=
  if l.ver = 4 then List.replicate 10 0 ++ [0xFF, 0xFF] ++ sliceBytes f (l.at_ + (if dst then 16 else 12)) 4
  else if l.ver = 6 then sliceBytes f (l.at_ + (if dst then 24 else 8)) 16
  else List.replicate 16 0

/-- DSCP and ECN of an IP header. -/
def tosOf (l : IpLevel) (f : List Byte) : Nat :=
  if l.ver = 4 then (f.getD (l.at_ + 1) 0).toNat
  else if l.ver = 6 then (beNat (sliceBytes f l.at_ 2)) / 16 % 256
  else 0

/-- The wildcard key of 80 bytes (Table 6). `app` is the application field's offset. -/
def wildcardKey (s : Shut) (p : Parsed) (app : Nat) : List Byte :=
  let f := s.frame
  let tunnel := p.offs.getD Off.tun 0xFFFF ≠ 0xFFFF
  let b := fun (x : Bool) (n : Nat) => if x then 2 ^ n else 0
  let flags := b (p.outer.frag || p.inner.frag) 0 + b p.firstFrag 1 + b (p.outer.ver == 6) 2 + b tunnel 3 + b p.mal.isSome 4
    + b (s.flag Fl.PTP_EVENT) 5 + b (s.get S.DIR == 1) 6
  let tcp := if p.outer.ports && p.outer.proto == 6 && !p.outer.frag then [f.getD (p.outer.l4 + 13) 0] else [0]
  let innerDst := if p.inner.ver = 4 then sliceBytes f (p.inner.at_ + 16) 4
    else if p.inner.ver = 6 then sliceBytes f (p.inner.at_ + 36) 4 else [0, 0, 0, 0]
  beBytes 2 (sourceOf s p) ++ beBytes 2 p.tci ++ sliceBytes f 0 12 ++ beBytes 2 p.etype
    ++ addr16 p.outer f false ++ addr16 p.outer f true
    ++ [BitVec.ofNat 8 p.outer.proto, BitVec.ofNat 8 (tosOf p.outer f)] ++ p.outer.portBytes f ++ tcp
    ++ [BitVec.ofNat 8 flags] ++ beBytes 3 p.vni ++ [BitVec.ofNat 8 p.inner.proto] ++ (p.inner.portBytes f).drop 2
    ++ (if app = 0xFFFF then List.replicate 8 0 else sliceBytes f app 8) ++ innerDst ++ [0, 0, 0, 0]

/-- Whether a key matches a rule (R144): where a mask bit is set, the key bit equals the value bit. -/
def ruleHits (key : Nat) (r : Rec) : Bool :=
  recGet r WR.VALID == 1 && (key ^^^ recGet r WR.VALUE) &&& recGet r WR.MASK == 0

/-- The rule of highest PRIORITY, the lower index on a tie (R144). Key byte 0 is in bits 7:0, as in the record. -/
def CfgSet.wildcard (c : CfgSet) (key : List Byte) : Option (Nat × Rec) :=
  let k := leNat key
  (c.table Tab.wildcard).foldl (fun best p =>
    if ruleHits k p.2 then
      match best with
      | some q => if recGet p.2 WR.PRIORITY > recGet q.2 WR.PRIORITY then some p else best
      | none => some p
    else best) none

end Sys2Proof.Machine
end

