-- ==== Sys2Proof/Machine/Tunnels.lean ====
section
/-! DEFINITION. Tunnels (R193 to R196): header templates put in front of a frame, tunnel headers removed, IP and UDP fields and
checksums, and the length check of R195. -/
namespace Sys2Proof.Machine
open Sys2Proof

/-! ## Checksums and IP fields -/

/-- The Internet checksum of bytes. -/
def inetSum (l : List Byte) : Nat := 0xFFFF - onesSum l

/-- One frame byte as a number. -/
def byteN (f : List Byte) (k : Nat) : Nat := (f.getD k 0).toNat

/-- IPv4 header bytes at an offset: IHL words. -/
def ihlBytes (f : List Byte) (l3 : Nat) : Nat := 4 * (byteN f l3 % 16)

/-- A frame whose IPv4 header checksum is computed anew. -/
def fixIpv4 (f : List Byte) (l3 : Nat) : List Byte :=
  let z := patchBytes f (l3 + 10) [0, 0]
  patchBytes z (l3 + 10) (beBytes 2 (inetSum (sliceBytes z l3 (ihlBytes z l3))))

/-- A frame whose IP header at an offset says a length of `len` bytes with its header. -/
def setIpLen (f : List Byte) (l3 : Nat) (v6 : Bool) (len : Nat) : List Byte :=
  if v6 then patchBytes f (l3 + 4) (beBytes 2 (len - 40)) else fixIpv4 (patchBytes f (l3 + 2) (beBytes 2 len)) l3

/-- DSCP and ECN of the IP header at an offset. -/
def tosAt (f : List Byte) (l3 : Nat) (v6 : Bool) : Nat :=
  if v6 then beNat (sliceBytes f l3 2) / 16 % 256 else byteN f (l3 + 1)

/-- A frame whose IP header carries given DSCP and ECN; an IPv4 checksum is computed anew. -/
def setTos (f : List Byte) (l3 : Nat) (v6 : Bool) (tos : Nat) : List Byte :=
  if v6 then patchBytes f l3 (beBytes 2 (beNat (sliceBytes f l3 2) / 4096 * 4096 + tos % 256 * 16 + byteN f (l3 + 1) % 16))
  else fixIpv4 (patchBytes f (l3 + 1) [BitVec.ofNat 8 tos]) l3

/-- The pseudo header of an upper-layer checksum. -/
def pseudoHeader (f : List Byte) (l3 : Nat) (v6 : Bool) (proto len : Nat) : List Byte :=
  if v6 then sliceBytes f (l3 + 8) 32 ++ beBytes 4 len ++ [0, 0, 0, BitVec.ofNat 8 proto]
  else sliceBytes f (l3 + 12) 8 ++ [0, BitVec.ofNat 8 proto] ++ beBytes 2 len

/-- The checksum of a UDP (proto 17) or TCP (6) segment whose checksum field is at `csum` and is taken as zero. -/
def l4Sum (f : List Byte) (l3 : Nat) (v6 : Bool) (l4 proto len csum : Nat) : Nat :=
  inetSum (pseudoHeader f l3 v6 proto len ++ sliceBytes (patchBytes f csum [0, 0]) l4 len)

/-- A frame whose UDP checksum at an offset is computed; a result of 0 is sent as all ones. -/
def fixUdp (f : List Byte) (l3 l4 : Nat) (v6 : Bool) : List Byte :=
  let s := l4Sum f l3 v6 l4 17 (beNat (sliceBytes f (l4 + 4) 2)) (l4 + 6)
  patchBytes f (l4 + 6) (beBytes 2 (if s = 0 then 0xFFFF else s))

/-- Whether a UDP datagram's checksum is absent or right. -/
def udpGood (f : List Byte) (l3 l4 : Nat) (v6 : Bool) : Bool :=
  let c := beNat (sliceBytes f (l4 + 6) 2)
  let n := beNat (sliceBytes f (l4 + 4) 2)
  c == 0 || (onesSum (pseudoHeader f l3 v6 17 n ++ sliceBytes f l4 n) == 0xFFFF && decide (l4 + n ≤ f.length))

/-- A frame whose TCP checksum is computed anew. -/
def fixTcp (f : List Byte) (l : IpLevel) : List Byte :=
  let n := l.at_ + l.len - l.l4
  patchBytes f (l.l4 + 16) (beBytes 2 (l4Sum f l.at_ (l.ver == 6) l.l4 6 n (l.l4 + 16)))

/-! ## Frames that egress has begun -/

/-- A frame found bad: stomped when egress has begun, and discarded otherwise (R141, R196, R215). -/
def Dev.stompOrDrop (d : Dev) (i reason : Nat) : Dev :=
  match d.shut i with
  | none => d
  | some s => if s.departed || s.stage == .toLands then d.putShut i { s with stomp := true } else d.discard i reason

/-- A frame whose length, with its FCS, is judged against its egress port's MTU after encapsulation or encryption (R195). -/
def Dev.growthAt (d : Dev) (i len : Nat) : Dev :=
  match d.shut i with
  | none => d
  | some s =>
    if s.get S.DEST_PORT ≤ 8 && decide (len > (d.cfgOf s).get (F.PORT_CFG_MTU (s.get S.DEST_PORT))) then
      ((d.count K.CIPH_GROWTH_DROP).setStatus i St.length).stompOrDrop i 6
    else d
/-- The same of the bytes present. -/
def Dev.checkGrowth (d : Dev) (i : Nat) : Dev := d.growthAt i (((d.shut i).elim [] Shut.frame).length + 4)

/-! ## Templates (Table 6) -/

namespace TM
def HEADER : Bits := ⟨0, 1024⟩
def KIND : Bits := ⟨1024, 2⟩
def IPV6 : Bits := ⟨1026, 1⟩
def UDP_CSUM : Bits := ⟨1027, 1⟩
def DSCP_COPY : Bits := ⟨1028, 1⟩
def VALID : Bits := ⟨1031, 1⟩
def LEN : Bits := ⟨1032, 8⟩
def L3 : Bits := ⟨1040, 8⟩
def L4 : Bits := ⟨1048, 8⟩
def SPORT_BASE : Bits := ⟨1056, 16⟩
def SPORT_MASK : Bits := ⟨1072, 16⟩
end TM

/-- The header bytes of a template. -/
def tmHeader (t : Rec) : List Byte := (leBytes 128 (recGet t TM.HEADER)).take (recGet t TM.LEN)

/-- The outer IP level of a frame, for the fields of Table 2 and R196. -/
def outerIp (f : List Byte) : IpLevel := (parseFrame ⟨f, true, 0⟩).outer

/-- A frame encapsulated (R194): the template's header in front, with the fields of Table 2 filled for a frame that will be `len`
bytes without FCS before encapsulation. The UDP checksum is left 0. -/
def encapFrame (t : Rec) (hash len : Nat) (inner : List Byte) : List Byte :=
  let ip := outerIp inner
  let v6 := recGet t TM.IPV6 == 1
  let l3 := recGet t TM.L3
  let l4 := recGet t TM.L4
  let total := recGet t TM.LEN + len
  let f := tmHeader t ++ inner
  let f := if v6 then f else patchBytes f (l3 + 4) [0, 0]
  let tos := tosAt f l3 v6
  let itos := if ip.ver = 0 then 0 else tosOf ip inner
  let f := setTos f l3 v6 ((if recGet t TM.DSCP_COPY = 1 ∧ ip.ver ≠ 0 then itos else tos) / 4 * 4 + itos % 4)
  let f := patchBytes f l4 (beBytes 2 (recGet t TM.SPORT_BASE ||| (hash % 65536 &&& recGet t TM.SPORT_MASK)))
  let f := patchBytes f (l4 + 4) (beBytes 2 (total - l4) ++ [0, 0])
  setIpLen f l3 v6 (total - l3)

/-- Header bytes put in front of a frame move what STOR knows of places in it (R227 to R229), and the places of bytes known bad. -/
def Shut.storShift (s : Shut) (n : Nat) : Shut :=
  { s with badAt := s.badAt.map (fun p => (p.1 + n, p.2)), trim := s.trim.map (fun p => (p.1 + n, p.2)), ddgst := s.ddgst.map (fun p => (p.1 + n, p.2)),
           xts := s.xts.map (fun w => { w with at_ := w.at_ + n }) }
/-- Header bytes taken from the front move them back. -/
def Shut.storUnshift (s : Shut) (n : Nat) : Shut :=
  { s with badAt := rangesFrom n s.badAt, trim := s.trim.map (fun p => (p.1 - n, p.2)), ddgst := s.ddgst.map (fun p => (p.1 - n, p.2)),
           xts := s.xts.map (fun w => { w with at_ := w.at_ - n }) }

/-- ENCAP at the end of the last pass (R193, R194): done for network ports 0 to 7, and ignored with a count for any other
destination. `charge` is the charge of R153 for a frame whose end has not arrived. -/
def Dev.encap (d : Dev) (i : Nat) (charge : Nat) : Dev :=
  match d.shut i with
  | none => d
  | some s =>
    if !s.flag Fl.ENCAP_PENDING then d else
    let s := s.unmark Fl.ENCAP_PENDING
    if s.get S.DEST_PORT > 7 then (d.putShut i s).count K.CIPH_ENCAP_IGNORED else
    let t := (d.cfgOf s).record Tab.template (s.template.getD 0)
    let len := if s.ended then s.frame.length else charge - 4
    let f := encapFrame t (s.get S.FLOW_HASH) len s.frame
    let l3 := recGet t TM.L3
    let l4 := recGet t TM.L4
    let v6 := recGet t TM.IPV6 == 1
    let csum := recGet t TM.UDP_CSUM == 1
    let f := if csum && s.ended then fixUdp f l3 l4 v6 else f
    let s := { s.storShift (recGet t TM.LEN) with
      frame := f, encapCsum := if csum && !s.ended then some (l3, l4, v6) else none, encapOpen := !s.ended }
    ((d.putShut i (if s.ended then s.set S.LENGTH (f.length + 4) else s)).count K.CIPH_ENCAP).growthAt i (recGet t TM.LEN + len + 4)

/-- Whether a GENEVE header holds an option whose critical bit is set: options from `k` to `e`, each of 4 bytes and its data. -/
def geneveCritical (f : List Byte) (e : Nat) : Nat → Nat → Bool
  | 0, _ => false
  | n + 1, k =>
    if k + 4 > e then false
    else (byteN f (k + 2) ≥ 128) || geneveCritical f e n (k + 4 + 4 * (byteN f (k + 3) % 32))

/-- DECAP at the pass end (R196). Only a frame whose parse found an inner Ethernet header has a tunnel to remove. -/
def Dev.decap (d : Dev) (i : Nat) (p : Parsed) : Dev :=
  match d.shut i with
  | none => d
  | some s =>
    let tun := p.offs.getD Off.tun 0xFFFF
    let il2 := p.offs.getD Off.il2 0xFFFF
    if tun = 0xFFFF ∨ il2 = 0xFFFF then d.putShut i { s with decapWanted := false } else
    let o := p.outer
    let v6 := o.ver == 6
    let geneve := beNat (sliceBytes s.frame (o.l4 + 2) 2) == 6081
    let inner := s.frame.drop il2
    let ip := outerIp inner
    let ecn := tosOf o s.frame % 4
    let iecn := tosOf ip inner % 4
    if s.ended && !udpGood s.frame o.at_ o.l4 v6 then (d.count K.CIPH_DECAP_CSUM).discard i 6
    else if geneve && geneveCritical s.frame il2 64 (tun + 8) then (d.count K.CIPH_GENEVE_CRIT).discard i 6
    else if ecn = 3 ∧ ip.ver ≠ 0 ∧ iecn = 0 then (d.count K.CIPH_ECN_DROP).discard i 6
    else
      let inner := if ecn = 3 ∧ (iecn = 1 ∨ iecn = 2) then setTos inner ip.at_ (ip.ver == 6) (tosOf ip inner / 4 * 4 + 3) else inner
      let shift := s.rx.length - s.frame.length
      let s := { (s.mark Fl.DECAP_DONE).storUnshift il2 with
        frame := inner, decapWanted := false
        decapCsum := if s.ended then none else some (shift + o.at_, shift + o.l4, v6) }
      (d.putShut i (if s.ended then s.set S.LENGTH (inner.length + 4) else s)).count K.CIPH_DECAP

/-- What waited for a frame's end in the tunnels: the length of an encapsulated frame (R195), the encapsulation checksum (R194), and the outer UDP
check of a decapsulation made before the end (R196). -/
def Dev.tunnelEnd (d : Dev) (i : Nat) : Dev :=
  let d := if (d.shut i).elim false (fun s => s.encapOpen && !s.stomp) then d.checkGrowth i else d
  match d.shut i with
  | none => d
  | some s =>
    let s := { s with encapOpen := false }
    let s1 := match s.encapCsum with
      | some (l3, l4, v6) => { s with frame := fixUdp s.frame l3 l4 v6, encapCsum := none }
      | none => s
    let d := d.putShut i s1
    match s1.decapCsum with
    | some (l3, l4, v6) =>
      let d := d.modShut i (fun s => { s with decapCsum := none })
      if udpGood s1.rx l3 l4 v6 then d else (d.count K.CIPH_DECAP_CSUM).stompOrDrop i 6
    | none => d

end Sys2Proof.Machine
end

