-- ==== Sys2Proof/Machine/Storage.lean ====
section
/-! DEFINITION. NVMe over TCP offload (R222 to R231): queue contexts, the tracking of PDU streams, direct placement, XTS on command
data, and transmit segments. PDU header layouts are the NVMe/TCP transport's (PRESUMED, assumption log 21). -/
namespace Sys2Proof.Machine
open Sys2Proof

/-! Fields of a queue context (Table 7) and of a command table entry (Table 2). -/
namespace QC
def FLOW_ID : Bits := ⟨0, 22⟩
def VALID : Bits := ⟨22, 1⟩
def HDGST : Bits := ⟨23, 1⟩
def DDGST : Bits := ⟨24, 1⟩
def PLACE : Bits := ⟨25, 1⟩
def TRIM : Bits := ⟨26, 1⟩
def SYNC : Bits := ⟨27, 1⟩
def CID_LOG2 : Bits := ⟨28, 4⟩
def INSTANCE : Bits := ⟨32, 12⟩
def CID_TABLE : Bits := ⟨64, 64⟩
def RX_SEQ : Bits := ⟨128, 32⟩
def TX_SEQ : Bits := ⟨160, 32⟩
def RX_PDU_LEFT : Bits := ⟨192, 24⟩
end QC

/-! STOR_RESULT codes (Table 3). -/
namespace SR
def none : Nat := 0
def placed : Nat := 1
def notPlaced : Nat := 2
def hdgstBad : Nat := 3
def ddgstBad : Nat := 4
def placeFault : Nat := 5
end SR

/-- The result kept when two apply to one segment: digests first, then PLACE_FAULT, then NOT_PLACED. -/
def srRank : Nat → Nat
  | 3 => 5
  | 4 => 4
  | 5 => 3
  | 2 => 2
  | 1 => 1
  | _ => 0

/-- A segment's STOR_RESULT with another outcome taken in. -/
def Shut.storSay (s : Shut) (r : Nat) : Shut := if srRank r > srRank s.storResult then { s with storResult := r } else s

/-- The context that names a flow. -/
def Dev.ctxOf (d : Dev) (flow : Nat) : Option (Nat × StorCtx) :=
  d.stor.ctxs.find? (fun p => recGet p.2.record QC.VALID == 1 && recGet p.2.record QC.FLOW_ID == flow)
/-- A context stored. -/
def Dev.putCtx (d : Dev) (k : Nat) (c : StorCtx) : Dev := d.modStor (fun x => { x with ctxs := mapPut x.ctxs k c })
/-- The key of a cached command table entry. -/
def cidKey (ctx cid : Nat) : Nat := ctx * 65536 + cid % 65536
/-- A cached entry stored. -/
def Dev.putCid (d : Dev) (k : Nat) (e : CidEntry) : Dev := d.modStor (fun x => { x with cids := mapPut x.cids k e })

/-- Bytes held for a context's commands are discarded, and such a command ends with PLACE_FAULT (R228). -/
def Dev.loseHeld (d : Dev) (k : Nat) : Dev :=
  (d.stor.cids.filter (fun p => p.1 / 65536 == k && !p.2.held.isEmpty)).foldl
    (fun d p => (d.putCid p.1 { p.2 with held := [], dead := true }).count K.STOR_PLACE_FAULT) d

/-- A context out of step (R224). -/
def StorCtx.lost (c : StorCtx) : StorCtx := { c with sync := false, pdu := [], pduAt := 0, data := [] }

/-- SYNC_LOST counted and raised (Table 1). -/
def Dev.syncLost (d : Dev) : Dev := (d.count K.STOR_SYNC_LOST).raise F.STOR_EVENT_SYNC_LOST

/-- SYNC of a context cleared, with the bytes held for its commands. -/
def Dev.clearSync (d : Dev) (k : Nat) (counted : Bool) : Dev :=
  match mapGet d.stor.ctxs k with
  | none => d
  | some c =>
    let d := (d.putCtx k c.lost).loseHeld k
    if counted then d.syncLost else d

/-- Cached entries and held bytes of a context dropped. -/
def Dev.dropCids (d : Dev) (k : Nat) : Dev :=
  d.modStor (fun x =>
    { x with cids := x.cids.filter (fun p => p.1 / 65536 != k)
             fetching := x.fetching.filter (fun f => f / 65536 != k)
             data := x.data.filter (fun p => p.1 / 65536 != k) })

/-- What a reset or a DELETE does to a context (R231): SYNC, entries and held bytes go, and no placement write that has not been released is issued:
what receive segments still hold is not placed. -/
def Dev.storDrop (d : Dev) (k : Nat) : Dev :=
  let d := ((d.clearSync k false).dropCids k).modHif (fun h => { h with waiting := h.waiting.filter (fun o => match o.use with
    | .cid key => key / 65536 != k
    | _ => true) })
  { d with shuts := d.shuts.map (fun (p : Nat × Shut) =>
      if p.2.storCtx = some k ∧ !p.2.storTx ∧ (p.2.stor ≠ [] ∨ p.2.xts ≠ [])
      then (p.1, { p.2.storSay SR.notPlaced with stor := [], xts := [] }) else p) }

/-- What a reset of an instance does to its contexts (R231). -/
def Dev.storReset (d : Dev) (inst : Nat) : Dev :=
  (d.stor.ctxs.filter (fun p => recGet p.2.record QC.INSTANCE == inst)).foldl (fun d p => d.storDrop p.1) d

/-! ## PDU streams (R224, R225) -/

/-- Little-endian fields of a PDU header held so far. -/
def pduN (h : List Byte) (off n : Nat) : Nat := leNat (sliceBytes h off n)
def pduType (h : List Byte) : Nat := pduN h 0 1
def pduHlen (h : List Byte) : Nat := pduN h 2 1
def pduPdo (h : List Byte) : Nat := pduN h 3 1
def pduPlen (h : List Byte) : Nat := pduN h 4 4

/-- Whether a PDU's type has digests that the module makes and checks: CapsuleCmd, CapsuleResp, H2CData and C2HData (R222). -/
def pduDigest (h : List Byte) : Bool := decide (4 ≤ pduType h ∧ pduType h ≤ 7)

/-- The header bytes that are held of a PDU, with the header digest; of a type that is passed through, the eight that give its length (R222). -/
def hdrLen (hd : Nat) (h : List Byte) : Nat :=
  if h.length < 8 then 8
  else if pduDigest h then max 8 (pduHlen h + 4 * hd)
  else if pduType h = 3 then max 8 (pduHlen h) else 8

/-- The data of a PDU: its first byte's place in the PDU, length, first command data byte, and CID. C2HData (7) and H2CData (6)
carry DATAO and DATAL; CapsuleCmd (4) carries in-capsule data from offset 0 up to its data digest. -/
def pduData (h : List Byte) (dd : Nat) : Nat × Nat × Nat × Nat :=
  let t := pduType h
  if t = 6 ∨ t = 7 then (pduPdo h, pduN h 16 4, pduN h 12 4, pduN h 8 2)
  else if t = 4 ∧ pduPdo h > 0 then (pduPdo h, pduPlen h - pduPdo h - 4 * dd, 0, pduN h 10 2)
  else (0, 0, 0, 0)

/-- One command data byte added to the work: it extends the last item when it follows it. -/
def addItem (l : List StorItem) (key off lim at_ : Nat) (first : Bool) (b : Byte) : List StorItem :=
  let new : StorItem := { key := key, off := off, lim := lim, bytes := [b], at_ := at_, first := first, cut := 1 }
  match l.getLast? with
  | some x =>
    if x.key = key ∧ x.act = 0 ∧ x.off + x.bytes.length = off ∧ x.at_ + x.bytes.length = at_ ∧ x.lim = lim
    then l.dropLast ++ [{ x with bytes := x.bytes ++ [b], cut := x.cut + 1 }] else l ++ [new]
  | none => l ++ [new]

/-- The release of an entry, and the loss of a context's SYNC, as pieces of work. -/
def storRelease (key : Nat) : StorItem := { key := key, act := 1 }
def storLoss (k : Nat) : StorItem := { key := k * 65536, act := 2 }

/-- The progress of a receive segment. -/
structure RxSt where
  ctx : StorCtx
  items : List StorItem := []
  hdBad : Bool := false
  ddBad : Nat := 0
  lost : Bool := false
  stop : Bool := false
  pdus : Nat := 0
  deriving DecidableEq, Repr

/-- One payload byte of a receive segment in its PDU stream. `k` is the context, `at_` the byte's place in the frame. -/
def rxByte (k : Nat) (x : RxSt) (at_ : Nat) (b : Byte) : RxSt :=
  if x.stop then x else
  let hd := recGet x.ctx.record QC.HDGST
  let dd := recGet x.ctx.record QC.DDGST
  let pos := x.ctx.pduAt
  let inHdr := x.ctx.pdu.length < hdrLen hd x.ctx.pdu
  let h := if inHdr then x.ctx.pdu ++ [b] else x.ctx.pdu
  let bad := inHdr && h.length == 8 && (decide (pduPlen h < pduHlen h) || decide (pduPlen h > 16777216))
  if bad then { x with ctx := { x.ctx with sync := false }, lost := true, stop := true } else
  let whole := inHdr && h.length ≥ 8 && h.length == hdrLen hd h
  if whole && hd == 1 && pduDigest h && crc32c (h.take (pduHlen h)) != leNat (h.drop (pduHlen h)) then
    { x with ctx := { x.ctx with sync := false }, hdBad := true, stop := true }
  else if whole && pduType h == 3 then { x with ctx := { x.ctx with sync := false }, stop := true, pdus := x.pdus + 1 }
  else
    let (dat, len, off, cid) := pduData h dd
    let isData := !inHdr && pduType h == 7 && decide (dat ≤ pos) && decide (pos < dat + len)
    let isDig := !inHdr && pduType h == 7 && dd == 1 && decide (len > 0) && decide (dat + len ≤ pos) && decide (pos < dat + len + 4)
    let data := if isData || isDig then x.ctx.data ++ [b] else x.ctx.data
    let ddBad := isDig && pos + 1 == dat + len + 4 && crc32c (data.take len) != leNat (data.drop len)
    let items := if isData then addItem x.items (cidKey k cid) (off + (pos - dat)) (off + len) at_ (pos == dat) b else x.items
    let items := if whole && pduType h == 5 then items ++ [storRelease (cidKey k (pduN h 20 2))] else items
    let fin := (whole || !inHdr) && decide (pos + 1 ≥ pduPlen h)
    let items := if fin && pduType h == 7 && (pduN h 1 1).testBit 3 then items ++ [storRelease (cidKey k cid)] else items
    { x with
      ctx := if fin then { x.ctx with pdu := [], pduAt := 0, data := [] } else { x.ctx with pdu := h, pduAt := pos + 1, data := data }
      items := items, ddBad := x.ddBad + (if ddBad then 1 else 0), pdus := x.pdus + (if whole then 1 else 0) }

/-- Payload bytes from a frame offset. -/
def rxBytes (k : Nat) : RxSt → Nat → List Byte → RxSt
  | x, _, [] => x
  | x, at_, b :: t => rxBytes k (rxByte k x at_ b) (at_ + 1) t

/-- The IP level that carries a frame's TCP segment. -/
def tcpLevel (p : Parsed) : IpLevel := if p.inner.ports && p.inner.proto == 6 then p.inner else p.outer
/-- TCP sequence number, payload offset and payload length. -/
def tcpSeg (f : List Byte) (p : Parsed) : Nat × Nat × Nat :=
  let l := tcpLevel p
  let o := p.payload.getD 0
  (beNat (sliceBytes f (l.l4 + 4) 4), o, l.at_ + l.len - o)
/-- Difference of sequence numbers modulo 2^32, signed. -/
def seqDiff (a b : Nat) : Int := signedOf 32 ((a + 2 ^ 32 - b % 2 ^ 32) % 2 ^ 32)

/-- Whether a frame is offloaded (R223): NVMe/TCP, a valid context of its flow, class AS or BE, and no TLS SA (R417). -/
def Dev.storOffload (d : Dev) (s : Shut) (p : Parsed) : Option (Nat × StorCtx) :=
  if !p.nvme || s.get S.FLOW_ID = 0 then none else d.ctxOf (s.get S.FLOW_ID)

/-- Whether a frame names a TLS SA. -/
def Dev.namesTls (d : Dev) (s : Shut) : Bool :=
  s.get S.CIPHER_OP != 0 && (match mapGet d.ciph.sas (s.get S.SA) with
    | some a => recGet a.record ⟨0, 3⟩ == 3
    | none => false)

/-- Data of a segment that stays in the ring's buffer (Table 3). -/
def Dev.notPlaced (d : Dev) (i : Nat) : Dev := (d.count K.STOR_NOT_PLACED).modShut i (fun s => s.storSay SR.notPlaced)

/-- A receive segment judged by Table 1 of ch. 9; its command data becomes work for `storStep`. -/
def Dev.storRx (d : Dev) (i k : Nat) (c : StorCtx) (p : Parsed) : Dev :=
  match d.shut i with
  | none => d
  | some s =>
    let (seq, o, n) := tcpSeg s.frame p
    if !c.sync then d.notPlaced i
    else if seq = c.rxSeq then
      let r := rxBytes k { ctx := c } o (sliceBytes s.frame o n)
      let fl := byteN s.frame ((tcpLevel p).l4 + 13)
      let gone := !r.ctx.sync || fl.testBit 0 || fl.testBit 2
      let ctx := { (if gone then r.ctx.lost else r.ctx) with rxSeq := (c.rxSeq + n) % 2 ^ 32 }
      let d := (d.putCtx k ctx).count K.STOR_RX_PDUS r.pdus
      let d := if r.lost then d.syncLost else d
      let d := if r.hdBad then (d.count K.STOR_HDGST_BAD).raise F.STOR_EVENT_HDGST_BAD else d
      let d := if r.ddBad > 0 then (d.count K.STOR_DDGST_BAD r.ddBad).raise F.STOR_EVENT_DDGST_BAD else d
      d.modShut i (fun s => { (s.storSay (if r.hdBad then SR.hdgstBad else if r.ddBad > 0 then SR.ddgstBad else SR.placed)) with
        stor := r.items ++ (if gone then [storLoss k] else []), storCtx := some k })
    else if seqDiff (seq + n) c.rxSeq ≤ 0 then (d.count K.STOR_DUP_SEGMENT).notPlaced i
    else (d.clearSync k true).notPlaced i

/-! ## Placement (R226 to R228) -/

/-- Fields of a command table entry. -/
def ceN (e : List Byte) (off n : Nat) : Nat := leNat (sliceBytes e off n)
def ceValid (e : List Byte) : Bool := (ceN e 12 1).testBit 0
def ceList (e : List Byte) : Bool := (ceN e 12 1).testBit 1
def ceXts (e : List Byte) : Bool := (ceN e 12 1).testBit 2
def ceLength (e : List Byte) : Nat := ceN e 8 4

/-- The host pieces of a run of command data: through ADDR, or through the segment list. -/
def ceRun : List (Nat × Nat) → Nat → List Byte → List (Nat × List Byte)
  | [], _, _ => []
  | (a, n) :: t, off, b =>
    if off ≥ n then ceRun t (off - n) b
    else if b.length ≤ n - off then [(a + off, b)]
    else (a + off, b.take (n - off)) :: ceRun t 0 (b.drop (n - off))

/-- The buffer of a command as pieces. -/
def CidEntry.pieces (e : CidEntry) : List (Nat × Nat) :=
  if ceList e.bytes then e.segments else [(ceN e.bytes 0 8, ceLength e.bytes)]

/-- Placement of a command ends (R227, R228). -/
def Dev.placeFault (d : Dev) (i key : Nat) : Dev :=
  let d := match mapGet d.stor.cids key with
    | some e => d.putCid key { e with dead := true, held := [] }
    | none => d
  (d.count K.STOR_PLACE_FAULT).modShut i (fun s => s.storSay SR.placeFault)

/-- A run of command data written to the command's buffer, and counted. -/
def Dev.placeNow (d : Dev) (i key inst : Nat) (e : CidEntry) (off : Nat) (b : List Byte) : Dev :=
  let d := (ceRun e.pieces off b).foldl (fun d p => d.dmaWrite inst p.1 p.2 (.cid key)) d
  (d.count K.STOR_PLACED_BYTES b.length).modShut i (fun s => { s with placed := s.placed + b.length })

/-- One run of command data written to the command's buffer, and whether it was placed: `none` when a translation must be walked first. -/
def Dev.placeRun (d : Dev) (i key inst : Nat) (e : CidEntry) (off : Nat) (b : List Byte) : Option (Dev × Bool) :=
  let run := ceRun e.pieces off b
  let bad := run.findSome? (fun p => match d.xlateRun inst true (p.2.length + 1) p.1 p.2.length with
    | .hit _ => none
    | r => some (r, p.1))
  match bad with
  | some (.miss, _) => none
  | some (.fault r, a) => some (((d.xlateFault inst a r true).setStatus i St.xlateFault).placeFault i key, false)
  | _ => some (d.placeNow i key inst e off b, true)

/-- One run placed through its entry; with TRIM, what was placed is not written to the ring's buffer (R227). -/
def Dev.placeItem (d : Dev) (i : Nat) (c : StorCtx) (e : CidEntry) (it : StorItem) : Option Dev :=
  (d.placeRun i it.key (recGet c.record QC.INSTANCE) e it.off it.bytes).map (fun (r : Dev × Bool) =>
    if r.2 && recGet c.record QC.TRIM == 1 then r.1.modShut i (fun s => { s with trim := s.trim ++ [(it.at_, it.cut)] }) else r.1)

/-- Work that must follow data still on its way to the lane follows it there (R228). -/
def Dev.behindXts (d : Dev) (i : Nat) (it : StorItem) (now : Dev) : Dev :=
  if ((d.shut i).elim [] Shut.xts).isEmpty then now
  else d.modShut i (fun s => { s with xts := s.xts ++ [{ key := it.key, act := it.act }] })

/-- Command data judged against its entry (R227, R228): `none` when it must wait for the entry or a translation. Only a PDU's first data makes the
module read an entry; when that PDU was not placed, the rest of it is not. -/
def Dev.storData (d : Dev) (i : Nat) (c : StorCtx) (it : StorItem) : Option Dev :=
  if recGet c.record QC.PLACE = 0 then some (d.notPlaced i)
  else match mapGet d.stor.cids it.key with
    | none =>
      if d.stor.fetching.contains it.key then none
      else if !it.first then some (d.notPlaced i)
      else if d.stor.cids.length + d.stor.fetching.length ≥ 8192 then some ((d.count K.STOR_CID_CACHE_FULL).notPlaced i) else none
    | some e =>
      if e.dead then some (d.notPlaced i)
      else if it.lim > ceLength e.bytes then some (d.placeFault i it.key)
      else if ceXts e.bytes then
        if it.off ≠ e.placed then some ((d.count K.STOR_XTS_ORDER).placeFault i it.key)
        else
          let sa := ceN e.bytes 24 4 % 2 ^ 20
          some ((d.putCid it.key { e with placed := it.off + it.bytes.length }).modShut i (fun s =>
            { ((s.set S.SA sa).set S.CIPHER_OP 4) with
              xts := s.xts ++ [{ key := it.key, sa := sa, off := it.off, at_ := it.at_, bytes := it.bytes }] }))
      else d.placeItem i c e it

/-- One piece of receive work: `none` when it must wait. -/
def Dev.storItem (d : Dev) (i : Nat) (c : StorCtx) (it : StorItem) : Option Dev :=
  match it.act with
  | 0 => d.storData i c it
  | 1 => some (d.behindXts i it (d.modStor (fun x => { x with cids := mapErase x.cids it.key })))
  | 2 => some (d.behindXts i it (d.loseHeld (it.key / 65536)))
  | _ => match mapGet d.stor.cids it.key with
    | none => some (d.notPlaced i)
    | some e => if e.dead then some (d.notPlaced i) else d.placeItem i c e it

/-- The read of a command table entry started, once (R227): an AS host read. -/
def Dev.fetchCid (d : Dev) (c : StorCtx) (key : Nat) : Dev :=
  if d.stor.fetching.contains key || (mapGet d.stor.cids key).isSome then d else
  let a := recGet c.record QC.CID_TABLE + 32 * (key % 65536 % 2 ^ recGet c.record QC.CID_LOG2)
  (d.modStor (fun x => { x with fetching := x.fetching ++ [key] })).dmaRead (recGet c.record QC.INSTANCE) a 32 (.cid key) false

/-- The walks that a run of command data needs. -/
def Dev.walkRun (d : Dev) (inst : Nat) (e : CidEntry) (it : StorItem) : Dev :=
  (ceRun e.pieces it.off it.bytes).foldl (fun (d : Dev) p => d.walkPages inst p.1 p.2.length false) d

/-- Receive work of a shuttle done in order until an item must wait; the Bool says that all is done. -/
def Dev.storRxStep (d : Dev) (i : Nat) : Nat → Dev × Bool
  | 0 => (d, true)
  | n + 1 =>
    match d.shut i with
    | none => (d, true)
    | some s => match s.stor, s.storCtx.bind (fun k => mapGet d.stor.ctxs k) with
      | [], _ => (d, true)
      | _ :: _, none => (d.modShut i (fun s => { s.storSay SR.notPlaced with stor := [] }), true)
      | it :: _, some c => match d.storItem i c it with
        | some d => (d.modShut i (fun s => { s with stor := s.stor.drop 1 })).storRxStep i n
        | none =>
          let d := match mapGet d.stor.cids it.key with
            | some e => d.walkRun (recGet c.record QC.INSTANCE) e it
            | none => d.fetchCid c it.key
          (d, false)

/-! ## Transmit segments (R229) -/

/-- The progress of a transmit segment: PDU position, the frame with header digests written, data items and digest ranges. -/
structure TxSt where
  pdu : List Byte
  pduAt : Nat
  frame : List Byte
  items : List StorItem := []
  ranges : List (Nat × Nat × Option Nat) := []
  pdus : Nat := 0
  deriving DecidableEq, Repr

/-- A range extended by one frame byte, or a new one. -/
def addRange (l : List (Nat × Nat × Option Nat)) (at_ : Nat) (dig : Option Nat) : List (Nat × Nat × Option Nat) :=
  match l.getLast? with
  | some (a, n, g) =>
    if a + n = at_ ∧ g.isSome = dig.isSome ∧ (dig.isNone ∨ dig ≠ some 0) then l.dropLast ++ [(a, n + 1, g)] else l ++ [(at_, 1, dig)]
  | none => l ++ [(at_, 1, dig)]

/-- One payload byte of a transmit segment: header digests are written at once, since headers are never encrypted. -/
def txByte (k hd dd : Nat) (x : TxSt) (at_ : Nat) : TxSt :=
  let pos := x.pduAt
  let inHdr := x.pdu.length < hdrLen hd x.pdu
  let digest := inHdr && x.pdu.length ≥ 8 && hd == 1 && pduDigest x.pdu && decide (pos ≥ pduHlen x.pdu)
  let frame := if digest then
      patchBytes x.frame at_ [(leBytes 4 (crc32c (x.pdu.take (pduHlen x.pdu)))).getD (pos - pduHlen x.pdu) 0] else x.frame
  let h := if inHdr then x.pdu ++ [frame.getD at_ 0] else x.pdu
  let whole := inHdr && h.length ≥ 8 && h.length == hdrLen hd h
  let (dat, len, off, cid) := pduData h dd
  let carries := pduType h == 6 || pduType h == 4
  let isData := !inHdr && carries && decide (dat ≤ pos) && decide (pos < dat + len)
  let isDig := !inHdr && carries && dd == 1 && decide (len > 0) && decide (dat + len ≤ pos) && decide (pos < dat + len + 4)
  let fin := (whole || !inHdr) && decide (pos + 1 ≥ pduPlen h)
  { pdu := if fin then [] else h, pduAt := if fin then 0 else pos + 1, frame := frame,
    items := if isData then addItem x.items (cidKey k cid) (off + (pos - dat)) (off + len) at_ (pos == dat) (frame.getD at_ 0) else x.items,
    ranges := if isData then addRange x.ranges at_ none else if isDig then addRange x.ranges at_ (some (pos - dat - len)) else x.ranges,
    pdus := x.pdus + (if whole then 1 else 0) }

/-- `n` payload bytes from a frame offset. -/
def txBytes (k hd dd : Nat) : TxSt → Nat → Nat → TxSt
  | x, _, 0 => x
  | x, at_, n + 1 => txBytes k hd dd (txByte k hd dd x at_) (at_ + 1) n

/-- A transmit segment judged (R229): behind TX_SEQ it is sent unchanged; after it, it is not sent; at it, it is offloaded. -/
def Dev.storTx (d : Dev) (i k : Nat) (c : StorCtx) (p : Parsed) : Dev :=
  match d.shut i with
  | none => d
  | some s =>
    let (seq, o, n) := tcpSeg s.frame p
    if seq = c.txSeq then
      let r := txBytes k (recGet c.record QC.HDGST) (recGet c.record QC.DDGST) { pdu := c.txPdu, pduAt := c.txAt, frame := s.frame } o n
      let d := (d.putCtx k { c with txSeq := (c.txSeq + n) % 2 ^ 32, txPdu := r.pdu, txAt := r.pduAt }).count K.STOR_TX_PDUS r.pdus
      d.modShut i (fun s => { s with frame := r.frame, stor := r.items, ddgst := r.ranges, storTx := true, storCtx := some k })
    else if seqDiff seq c.txSeq < 0 then d.count K.STOR_DUP_SEGMENT
    else (d.setStatus i St.malformedDesc).discard i 6

/-- Transmit work of a shuttle: each item's entry is awaited, and says whether the data is to be encrypted (R228). -/
def Dev.storTxStep (d : Dev) (i : Nat) : Nat → Dev × Bool
  | 0 => (d, true)
  | n + 1 =>
    match d.shut i with
    | none => (d, true)
    | some s => match s.stor, s.storCtx.bind (fun k => mapGet d.stor.ctxs k) with
      | it :: t, some c => match mapGet d.stor.cids it.key with
        | none =>
          if d.stor.fetching.contains it.key then (d, false)
          else if d.stor.cids.length + d.stor.fetching.length ≥ 8192 then
            ((d.count K.STOR_CID_CACHE_FULL).putShut i { s with stor := t }).storTxStep i n
          else (d.fetchCid c it.key, false)
        | some e =>
          let s := { s with stor := t }
          let s := if ceXts e.bytes && !e.dead then
              { ((s.set S.SA (ceN e.bytes 24 4 % 2 ^ 20)).set S.CIPHER_OP 4) with
                xts := s.xts ++ [{ key := it.key, sa := ceN e.bytes 24 4 % 2 ^ 20, off := it.off, at_ := it.at_, bytes := it.bytes }] } else s
          (d.putShut i s).storTxStep i n
      | _, _ => (d, true)

/-- STOR work of a shuttle, either direction. -/
def Dev.storStep (d : Dev) (i : Nat) : Dev × Bool :=
  match d.shut i with
  | none => (d, true)
  | some s => if s.storTx then d.storTxStep i (s.stor.length + 1) else d.storRxStep i (s.stor.length + 1)

/-- A transmit frame written back over its host buffers (R211, R229). -/
def Dev.writeBack (d : Dev) (inst : Nat) : List (Nat × Nat) → List Byte → Dev
  | [], _ => d
  | (a, n) :: t, b => (d.dmaWrite inst a (b.take n) .other).writeBack inst t (b.drop n)

/-- Data digests of a transmit segment written over its final bytes (R229). -/
def Dev.storDigests (d : Dev) (i k : Nat) : List (Nat × Nat × Option Nat) → Dev
  | [] => d
  | (a, n, g) :: t =>
    match mapGet d.stor.ctxs k, d.shut i with
    | some c, some s =>
      match g with
      | none => (d.putCtx k { c with txData := c.txData ++ sliceBytes s.frame a n }).storDigests i k t
      | some j =>
        let dig := (leBytes 4 (crc32c c.txData)).drop j
        let d := d.putCtx k { c with txData := if j + n ≥ 4 then [] else c.txData }
        (d.putShut i { s with frame := patchBytes s.frame a (dig.take n) }).storDigests i k t
    | _, _ => d

/-- A frame whose TCP checksum is computed anew, and the checksum of an outer UDP header that has one (R194, R229). -/
def fixSegment (f : List Byte) : List Byte :=
  let p := parseFrame ⟨f, true, 0⟩
  let l := tcpLevel p
  let o := p.outer
  let f := if l.ports && l.proto == 6 then fixTcp f l else f
  if p.inner.ports && o.proto == 17 && decide (beNat (sliceBytes f (o.l4 + 6) 2) ≠ 0) then fixUdp f o.at_ o.l4 (o.ver == 6) else f

/-- After the cipher visit and before Reed (R229): digests, the TCP checksum, and the segment, without headers put in front of it, written back over
its host buffer. -/
def Dev.storTxEnd (d : Dev) (i : Nat) : Dev :=
  match d.shut i with
  | none => d
  | some s => match s.storTx, s.storCtx with
    | true, some k =>
      let d := (d.storDigests i k s.ddgst).modShut i (fun s => { s with frame := fixSegment s.frame, storTx := false, ddgst := [] })
      match d.shut i with
      | some s => d.writeBack (s.get S.INSTANCE) s.src (s.frame.drop (s.frame.length - s.rx.length))
      | none => d
    | _, _ => d

/-! ## XTS (R228) -/

/-- One 16-byte block of a command's data, from command byte `off`. -/
def xtsBlockAt (enc : Bool) (key : List Byte) (e : List Byte) (off : Nat) (b : List Byte) : List Byte :=
  let du := 2 ^ (ceN e 13 1 % 16)
  let tweak := (List.range (off % du / 16)).foldl (fun t _ => xtsNext t)
    (aesBlock (key.drop 32) (leBytes 16 (ceN e 16 8 + off / du)))
  let f := if enc then aesBlock (key.take 32) else aesBlockInv (key.take 32)
  xorBytes (f (xorBytes b tweak)) tweak

/-- Whole blocks of command data from `off`. -/
def xtsRun (enc : Bool) (key e : List Byte) : Nat → Nat → List Byte → List Byte
  | 0, _, _ => []
  | n + 1, off, b => xtsBlockAt enc key e off (b.take 16) ++ xtsRun enc key e n (off + 16) (b.drop 16)

/-- The key of an SA of the store. -/
def Dev.saKey (d : Dev) (k : Nat) : List Byte := (mapGet d.ciph.sas k).elim [] Sa.key

/-- One piece of a frame's command data at the lane's result: decrypted data is now to be placed, and up to 15 bytes of an incomplete block are held
(R228). -/
def Dev.openXts (d : Dev) (i : Nat) (w : XtsItem) : Dev :=
  let add := fun (d : Dev) (it : StorItem) => d.modShut i (fun s => { s with stor := s.stor ++ [it] })
  if w.act ≠ 0 then add d { key := w.key, act := w.act } else
  match mapGet d.stor.cids w.key with
  | none => d.notPlaced i
  | some e =>
    if e.dead then d.notPlaced i else
    let b := e.held ++ w.bytes
    let n := b.length / 16
    let off := w.off - e.held.length
    add (d.putCid w.key { e with held := b.drop (16 * n) })
      { key := w.key, off := off, bytes := xtsRun false (d.saKey w.sa) e.bytes n off (b.take (16 * n)), at_ := w.at_, act := 3, cut := w.bytes.length }

/-- Transmit data encrypted in the frame. A block that lies only partly in the segment gets bytes the spec does not state: free
values (DESIGN CHOICE, assumption log 22). -/
def Dev.sealXts (d : Dev) (i : Nat) (w : XtsItem) : Dev :=
  match mapGet d.stor.cids w.key with
  | none => d
  | some e =>
    let b := w.bytes
    let head := min b.length ((16 - w.off % 16) % 16)
    let n := (b.length - head) / 16
    let tail := b.length - head - 16 * n
    let (v1, d) := d.fresh
    let (v2, d) := d.fresh
    let mid := xtsRun true (d.saKey w.sa) e.bytes n (w.off + head) ((b.drop head).take (16 * n))
    d.modShut i (fun s => { s with frame := patchBytes s.frame w.at_ (leBytes head v1.toNat ++ mid ++ leBytes tail v2.toNat) })

end Sys2Proof.Machine
end

