-- ==== Sys2Proof/Machine/CheckUnits.lean ====
section
/-! DEFINITION. The manager's STOR operations (R224, R229, R231, R236) and the check-value units (R232 to R235). -/
namespace Sys2Proof.Machine
open Sys2Proof

/-! ## Queue contexts (R236) -/

/-- The device's STOR_IND_DATA window. -/
def storWin : Nat := 0x800200

/-- A context as its record reads, with the live fields. -/
def StorCtx.show (c : StorCtx) : Rec :=
  let r := recSet (recSet (recSet c.record QC.SYNC (if c.sync then 1 else 0)) QC.RX_SEQ c.rxSeq) QC.TX_SEQ c.txSeq
  recSet r QC.RX_PDU_LEFT (if c.pdu.length ≥ 8 then pduPlen c.pdu - c.pduAt else 0)

/-- A context's writable bits: reserved and read-only ones are 0. -/
def ctxWritable (r : Rec) : Rec :=
  ([⟨0, 27⟩, ⟨28, 16⟩, ⟨64, 128⟩] : List Bits).foldl (fun a b => recSet a b (recGet r b)) 0

/-- An indirect operation of STOR, which has no TABLE and no SET. -/
def Dev.storIndirect (d : Dev) (op index : Nat) (f : Dev → Dev × Nat) : Dev :=
  d.indirect 0x800100 op 0 0 index (fun d => if index ≥ 16384 then (d, 3) else f d)

/-- The valid context at an index. -/
def Dev.validCtx (d : Dev) (k : Nat) : Option StorCtx :=
  match mapGet d.stor.ctxs k with
  | some c => if recGet c.record QC.VALID = 1 then some c else none
  | none => none

/-- STOR_READ (R236). -/
def execStorRead (index : Nat) (s : State) : Host.Outcome State Fault Refusal :=
  done s (s.dev.storIndirect 0 index (fun d => match d.validCtx index with
    | some c => (d.showRec storWin 32 c.show, 0)
    | none => (d.showRec storWin 32 0, 1)))

/-- STOR_WRITE (R223, R236): a new context starts in step at RX_SEQ and TX_SEQ, each the start of a PDU header. -/
def execStorWrite (index : Nat) (s : State) : Host.Outcome State Fault Refusal :=
  done s (s.dev.storIndirect 1 index (fun d =>
    let r := ctxWritable (d.winRec storWin 32)
    if (d.validCtx index).isSome then (d, 4)
    else if recGet r QC.VALID = 0 then (d, 0)
    else if recGet r QC.FLOW_ID = 0 ∨ recGet r QC.CID_LOG2 < 4 ∨ recGet r QC.CID_LOG2 > 12 then (d, 3)
    else if (d.ctxOf (recGet r QC.FLOW_ID)).isSome then (d, 4)
    else (d.putCtx index { record := r, sync := true, rxSeq := recGet r QC.RX_SEQ, txSeq := recGet r QC.TX_SEQ }, 0)))

/-- RESYNC_RX (R224): SYNC is restored at the PDU header whose sequence number bytes 16 to 19 of the window carry. -/
def execResyncRx (index : Nat) (s : State) : Host.Outcome State Fault Refusal :=
  done s (s.dev.storIndirect 3 index (fun d => match d.validCtx index with
    | some c => (d.putCtx index { c with sync := true, rxSeq := recGet (d.winRec storWin 32) QC.RX_SEQ, pdu := [], pduAt := 0, data := [] }, 0)
    | none => (d, 1)))

/-- RESYNC_TX (R229): TX_SEQ set at a PDU header, from bytes 20 to 23. -/
def execResyncTx (index : Nat) (s : State) : Host.Outcome State Fault Refusal :=
  done s (s.dev.storIndirect 4 index (fun d => match d.validCtx index with
    | some c => (d.putCtx index { c with txSeq := recGet (d.winRec storWin 32) QC.TX_SEQ, txPdu := [], txAt := 0, txData := [] }, 0)
    | none => (d, 1)))

/-! ## Check-value units -/

/-- One byte into the unreflected CRC-64 of ECMA-182. -/
def crc64Byte (c : Nat) (b : Byte) : Nat :=
  (List.range 8).foldl (fun c _ => if c ≥ 2 ^ 63 then ((c * 2) % 2 ^ 64) ^^^ 0x42F0E1EBA9EA3693 else c * 2) (c ^^^ (b.toNat * 2 ^ 56))
/-- CRC-64 (ECMA-182). -/
def crc64 (l : List Byte) : Nat := l.foldl crc64Byte 0

/-- The CRC of a message under a polynomial of ch. 9, Table 5. -/
def crcOf (poly : Nat) (l : List Byte) : Nat :=
  match poly with
  | 0 => crc32 l
  | 1 => crc32c l
  | 2 => crc64 l
  | _ => crc16Ccitt l

/-- One unit. -/
def Dev.crcUnit (d : Dev) (u : Nat) : CrcUnit := mapGetD d.stor.units u {}
/-- A unit stored. -/
def Dev.putCrc (d : Dev) (u : Nat) (c : CrcUnit) : Dev := d.modStor (fun x => { x with units := mapPut x.units u c })

/-- Whether a source owns a running unit. Owner kind 0 is a Barbor thread, by core × 8 + thread, and 1 a bulk mover channel. -/
def Dev.crcOwns (d : Dev) (u kind owner : Nat) : Bool :=
  d.get (F.STOR_CRC_STATUS_STATE u) == 1 && (d.crcUnit u).owner == some (kind, owner)

/-- A spare brought in: FLT_UNIT_SPARED and a SPARE record with byte 24 = 0 (R387). -/
def Dev.sparedNote (d : Dev) (kind p detail : Nat) : Dev :=
  ((d.count K.FLT_SPARES_USED).fault Code.unitSpared kind p detail).spareRecord kind p 0 Code.unitSpared

/-- A unit that is FREE, or starts as from FREE, is served by the spare that waits for it (R386). -/
def Dev.crcTakeover (d : Dev) (u : Nat) : Dev :=
  match mapGet d.flt.crcMoves u with
  | none => d
  | some (p, n) => (d.modFlt (fun f => { f with crcPhys := mapPut f.crcPhys u p, crcMoves := mapErase f.crcMoves u })).sparedNote 4 p n

/-- START (R233, Table 6): the new device, and whether the source got the unit. A START of a FAULTED unit acts as from FREE, and so
does one from the unit's own owner. A unit that is OUT answers BUSY (R386). ERROR and NO_FIELD clear with it; RESULT stays that of the last closed message (DESIGN CHOICE, assumption
log 93). -/
def Dev.crcStart (d : Dev) (u kind owner poly : Nat) (alive : Option Nat) : Dev × Bool :=
  if u ≥ 32 then (d, false) else
  if d.flt.outUnits.contains (4, u) ∨ (d.get (F.STOR_CRC_STATUS_STATE u) = 1 ∧ (d.crcUnit u).owner ≠ some (kind, owner))
  then (d.count K.STOR_REFUSED, false) else
  let d := if d.get (F.STOR_CRC_STATUS_STATE u) = 1 then d else d.crcTakeover u
  let d := d.putCrc u { owner := some (kind, owner), poly := poly % 4, alive := alive, result := (d.crcUnit u).result }
  let d := ((d.set (F.STOR_CRC_STATUS_STATE u) 1).set (F.STOR_CRC_STATUS_POLY u) poly).set (F.STOR_CRC_STATUS_MSG_COUNT u) 0
  let d := (d.set (F.STOR_CRC_STATUS_OWNER_KIND u) kind).set (F.STOR_CRC_STATUS_OWNER u) (if kind = 0 then owner / 8 else owner)
  let d := (d.set (F.STOR_CRC_STATUS_ERROR u) 0).set (F.STOR_CRC_STATUS_NO_FIELD u) 0
  ((d.set (F.STOR_CRC_STATUS_ALIVE_EN u) (if alive.isSome then 1 else 0)).putWord (0x801008 + 0x20 * u) 0, true)

/-- Bytes from the owner (R233). -/
def Dev.crcFeed (d : Dev) (u kind owner : Nat) (b : List Byte) : Dev :=
  if d.crcOwns u kind owner then d.putCrc u { d.crcUnit u with message := (d.crcUnit u).message ++ b } else d

/-- The alive check of a closed message (R235). -/
def Dev.crcAlive (d : Dev) (u : Nat) : Dev :=
  let c := d.crcUnit u
  match c.alive with
  | none => d
  | some off =>
    if off ≥ c.message.length then d.set (F.STOR_CRC_STATUS_NO_FIELD u) 1 else
    let v := byteN c.message off
    let last := d.get (F.STOR_CRC_ALIVE_LAST u)
    let d :=
      if !c.recorded then d
      else if v = last then
        (((d.set (F.STOR_CRC_ALIVE_REPEAT u) 1).set (F.STOR_CRC_ALIVE_REPEATS u) (satAdd 63 (d.get (F.STOR_CRC_ALIVE_REPEATS u)) 1)).count
          K.STOR_CRC_REPEAT).raise F.STOR_EVENT_CRC_REPEAT
      else if v ≠ (last + 1) % 256 then
        ((((d.set (F.STOR_CRC_ALIVE_SKIP u) 1).set (F.STOR_CRC_ALIVE_SKIPS u) (satAdd 255 (d.get (F.STOR_CRC_ALIVE_SKIPS u)) 1)).set
          (F.STOR_CRC_ALIVE_LAST_STEP u) ((v + 256 - last) % 256)).count K.STOR_CRC_SKIP).raise F.STOR_EVENT_CRC_SKIP
      else d
    (d.set (F.STOR_CRC_ALIVE_LAST u) v).putCrc u { c with recorded := true }

/-- END closes a message (R233): RESULT is written, MSG_COUNT advances, and the next message starts from Init. -/
def Dev.crcEnd (d : Dev) (u kind owner : Nat) : Dev :=
  if !d.crcOwns u kind owner then d else
  let c := d.crcUnit u
  let d := (d.crcAlive u).set (F.STOR_CRC_STATUS_MSG_COUNT u) (satAdd 65535 (d.get (F.STOR_CRC_STATUS_MSG_COUNT u)) 1)
  d.putCrc u { d.crcUnit u with result := crcOf c.poly c.message, message := [] }

/-- A unit made FREE; its partial message is discarded. -/
def Dev.crcFree (d : Dev) (u : Nat) : Dev :=
  ((d.set (F.STOR_CRC_STATUS_STATE u) 0).putCrc u { d.crcUnit u with owner := none, message := [] }).crcTakeover u

/-- STOP from the owner (R233). -/
def Dev.crcStop (d : Dev) (u kind owner : Nat) : Dev := if d.crcOwns u kind owner then d.crcFree u else d

/-- A unit freed by force: ABANDONED is set. -/
def Dev.crcAbandon (d : Dev) (u : Nat) : Dev :=
  if d.get (F.STOR_CRC_STATUS_STATE u) = 1 then (d.crcFree u).set (F.STOR_CRC_STATUS_ABANDONED u) 1 else d

/-- Every unit of an owner freed by the owner's reset. -/
def Dev.crcAbandonAll (d : Dev) (p : Nat × Nat → Bool) : Dev :=
  (List.range 32).foldl (fun d u => match (d.crcUnit u).owner with
    | some o => if p o then d.crcAbandon u else d
    | none => d) d

/-- CRC_START (R233). A START of a gated unit waits for its wake (R29). -/
def execCrcStart (unit kind owner poly : Nat) (alive : Option Nat) (s : State) : Host.Outcome State Fault Refusal :=
  if unit < 32 && s.dev.asleep 2 unit then done s (s.dev.holdFor 2 unit (.crcStart unit kind owner poly alive))
  else done s (s.dev.crcStart unit kind owner poly alive).1

/-- CRC_FEED (R233). -/
def execCrcFeed (unit kind owner : Nat) (bytes : List Byte) (s : State) : Host.Outcome State Fault Refusal :=
  done s (s.dev.crcFeed unit kind owner bytes)

/-- CRC_END (R233, R235). -/
def execCrcEnd (unit kind owner : Nat) (s : State) : Host.Outcome State Fault Refusal :=
  done s (s.dev.crcEnd unit kind owner)

/-- CRC_STOP (R233). -/
def execCrcStop (unit kind owner : Nat) (s : State) : Host.Outcome State Fault Refusal :=
  done s (s.dev.crcStop unit kind owner)

/-- CRC_RELEASE (R233), made after the wake when the unit is gated (R30). -/
def execCrcRelease (unit : Nat) (s : State) : Host.Outcome State Fault Refusal :=
  if unit ≥ 32 || !s.dev.responds 0x801000 then done s s.dev
  else if s.dev.asleep 2 unit then done s (s.dev.holdFor 2 unit (.crcRelease unit))
  else done s (s.dev.crcAbandon unit)

/-- CRC_STATUS_READ (R234): STATUS is returned and RESULT is latched; a read of a gated unit completes after the wake (R30). -/
def execCrcStatusRead (unit : Nat) (s : State) : Host.Outcome State Fault Refusal :=
  let d := s.dev
  if unit ≥ 32 || !d.responds 0x801004 then done s (d.emit (.readData 0)) else
  if d.asleep 2 unit then done s (d.holdFor 2 unit (.crcStatus unit)) else
  done s ((d.emit (.readData (d.word (0x801004 + 0x20 * unit)).toNat)).set (F.STOR_CRC_RESULT_RESULT unit) (d.crcUnit unit).result)

end Sys2Proof.Machine
end

