-- ==== Sys2Proof/Machine/Gates.lean ====
section
/-! DEFINITION. Port rates and wire times, and the time gates of ch. 10 (R249 to R253): the position in a gate list, windows, and what a
start or a clock step does to the lists. -/
namespace Sys2Proof.Machine
open Sys2Proof

/-! ## Rates -/

/-- A port mode's rate in Mb/s (ch. 3, PORT_n_CFG). -/
def modeRate : Nat → Nat
  | 1 => 10000
  | 2 => 25000
  | 3 => 50000
  | 4 => 100000
  | 5 => 200000
  | 6 => 400000
  | 7 => 1000
  | _ => 0

/-- A network port's rate under a set. -/
def CfgSet.portRate (c : CfgSet) (p : Nat) : Nat := modeRate (c.get (F.PORT_CFG_MODE p))

/-- The time of some bytes at a rate in Mb/s, rounded up to a whole 2^-16 ns. -/
def byteTime (n rate : Nat) : Nat := if rate = 0 then 0 else ceilDiv (n * 8 * 1000 * 65536) rate

/-- A frame's wire time with 20 bytes of overhead at a rate in Mb/s, rounded up to a whole 2^-16 ns (R40). -/
def wireTime (len rate : Nat) : Nat := byteTime (len + 20) rate

/-! ## Positions (R250) -/

/-- The entry at a position: its index, its gates and the time left in it, in 2^-16 ns. -/
def entryAt : List (Nat × Nat) → Nat → Nat → Nat × Nat × Nat
  | [], _, k => (k, 255, 1)
  | (g, n) :: t, pos, k => if pos < n * 65536 then (k, g, n * 65536 - pos) else entryAt t (pos - n * 65536) (k + 1)

/-- The entry in force at Quartz time `T`: position (T − S) modulo the cycle. -/
def GateList.at_ (l : GateList) (T : Nat) : Nat × Nat × Nat :=
  entryAt l.entries (((T : Int) - (l.start * 65536 : Nat)) % ((max 1 l.cycle * 65536 : Nat) : Int)).toNat 0

/-- Whether a traffic class stays open from `T` to `stop` in one list. -/
def GateList.openTo (l : GateList) (tc stop : Nat) : Nat → Nat → Bool
  | 0, _ => false
  | n + 1, T =>
    if T ≥ stop then true else
    let (_, g, left) := l.at_ T
    g.testBit tc && l.openTo tc stop n (T + max 1 left)

/-- Steps that cover a stretch of time: every interval is 32 ns or longer. -/
def gateSteps (a b : Nat) : Nat := (b - a) / (32 * 65536) + 3

/-- When a class that is closed, or whose window is too short, next opens. -/
def GateList.nextOpen (l : GateList) (tc : Nat) : Nat → Bool → Nat → Nat
  | 0, _, T => T
  | n + 1, seen, T =>
    let (_, g, left) := l.at_ T
    if g.testBit tc then (if seen then T else l.nextOpen tc n false (T + max 1 left)) else l.nextOpen tc n true (T + max 1 left)

/-- The longest open window of a class in ns; none when it never closes. -/
def GateList.longest (l : GateList) (tc : Nat) : Option Nat :=
  if l.entries.all (fun e => e.1.testBit tc) then none else
  some ((l.entries ++ l.entries).foldl (fun (m : Nat × Nat) e =>
    if e.1.testBit tc then (m.1 + e.2, max m.2 (m.1 + e.2)) else (0, m.2)) (0, 0)).2

/-- The list of a port in force, and its pending list. -/
def Dev.gatesOf (d : Dev) (n : Nat) : Option GateList := mapGet d.reed.gates n
def Dev.nextGatesOf (d : Dev) (n : Nat) : Option GateList := mapGet d.reed.nextGates n

/-- Whether a class is open at a port from `T` to `stop`, across a pending change (R250, R252). -/
def Dev.gateOpen (d : Dev) (n tc T stop : Nat) : Bool :=
  let in_ := fun (l : Option GateList) (a b : Nat) => match l with
    | none => true
    | some l => l.openTo tc b (gateSteps a b) a
  match d.nextGatesOf n with
  | none => in_ (d.gatesOf n) T stop
  | some g =>
    let S := g.start * 65536
    in_ (d.gatesOf n) T (min stop S) && in_ (some g) (max T S) stop

/-- The gate registers of a port: the entry in force now (REED_GATE_n_STATUS). -/
def Dev.gateRefresh (d : Dev) (n : Nat) : Dev :=
  match d.gatesOf n with
  | none => (d.set (F.REED_GATE_STATUS_GATES n) 0xFF).set (F.REED_GATE_STATUS_CURRENT n) 0
  | some l =>
    let (k, g, _) := l.at_ d.now
    (d.set (F.REED_GATE_STATUS_GATES n) g).set (F.REED_GATE_STATUS_CURRENT n) k

/-- A pending list whose start has come is in force (R252). -/
def Dev.gateStart (d : Dev) (n : Nat) : Dev :=
  match d.nextGatesOf n with
  | none => d
  | some g =>
    if d.now < g.start * 65536 then d else
    let d := d.modReed (fun r => { r with gates := mapPut r.gates n g, nextGates := mapErase r.nextGates n })
    (((d.set (F.REED_GATE_START_S n) g.start).set (F.REED_GATE_STATUS_PENDING n) 0).raise F.REED_EVENT_GATE_CHANGE).gateRefresh n

/-- The gates of a port after a clock step (R253): starts jumped over take effect, positions are recomputed, and a frame in transmission
that overruns its window is counted. `was` is the time before the step. -/
def Dev.gateStep (d : Dev) (was : Nat) (delta : Int) (n : Nat) : Dev :=
  let p := mapGetD d.net.ports n {}
  let d := if p.txEnd > was then
      d.modNet (fun x => { x with ports := mapPut x.ports n { p with txEnd := ((p.txEnd : Int) + delta).toNat } }) else d
  let d := (d.gateStart n).gateRefresh n
  let p := mapGetD d.net.ports n {}
  if p.txEnd > d.now && !p.txGuar && !d.gateOpen n p.txTc d.now p.txEnd then
    (d.count (K.REED_GATE_OVERRUN n)).raise F.REED_EVENT_GATE_OVERRUN else d

end Sys2Proof.Machine
end

