-- ==== Sys2Proof/Machine/Feeds.lean ====
section
/-! DEFINITION. Redundant feeds (ch. 3): PRP trailers and the duplicate-discard unit (R76 to R78), A/B feed groups (R79, R80), and the
end of a frame at its egress lands (R72, R74, R118). -/
namespace Sys2Proof.Machine
open Sys2Proof

/-! ## PRP trailers -/

/-- The trailer of a frame without FCS: sequence number and LAN (0 A, 1 B) (R78). The LSDU size counts the bytes after the outer
EtherType, the trailer included (PRESUMED, assumption log 23). -/
def prpTrailer (f : List Byte) : Option (Nat × Nat) :=
  let n := f.length
  if n < 20 then none else
  let t := beNat (f.drop (n - 6))
  let lan := bitsOf t 28 4
  let tagged := beNat (sliceBytes f 12 2) == 0x8100
  if t % 65536 = 0x88FB ∧ (lan = 0xA ∨ lan = 0xB) ∧ bitsOf t 16 12 = n - 14 - (if tagged then 4 else 0)
  then some (bitsOf t 32 16, lan - 0xA) else none

/-- A frame with a trailer put at its end (R77). A size of 4,096 or more is sent modulo 4,096 and is not recognised on reception (DESIGN CHOICE,
assumption log 23). -/
def addTrailer (f : List Byte) (seq lan : Nat) : List Byte :=
  let tagged := beNat (sliceBytes f 12 2) == 0x8100
  let size := f.length + 6 - 14 - (if tagged then 4 else 0)
  f ++ beBytes 2 seq ++ beBytes 2 ((0xA + lan) * 4096 + size % 4096) ++ [0x88, 0xFB]

/-- The pair of a port: its LAN A and LAN B ports (R76). -/
def CfgSet.pairOf (c : CfgSet) (port : Nat) : Option (Nat × Nat) :=
  if port ≤ 7 ∧ c.get (F.PORT_PRP_ENABLE port) = 1 then
    some (min port (c.get (F.PORT_PRP_PARTNER port)), max port (c.get (F.PORT_PRP_PARTNER port)))
  else none

/-- What the duplicate-discard unit makes of a sequence number at a known source (Table 3): accepted, the new entry, and whether it
lay more than 1,023 behind. -/
def PrpSource.judge (e : PrpSource) (seq now : Nat) : Bool × PrpSource × Bool :=
  let e := { e with seen := now }
  let ahead := (seq + 65536 - e.high) % 65536
  let behind := (e.high + 65536 - seq) % 65536
  if e.marked.contains seq then (false, e, false)
  else if 1 ≤ ahead ∧ ahead ≤ 32767 then
    (true, { e with high := seq, marked := seq :: e.marked.filter (fun m => (seq + 65536 - m) % 65536 ≤ 1023) }, false)
  else if behind ≤ 1023 then (true, { e with marked := seq :: e.marked }, false)
  else (true, e, true)

/-- A source table with a new source: the least recently seen one is replaced when 4,096 are held. -/
def prpInsert (l : List PrpSource) (e : PrpSource) : List PrpSource × Bool :=
  if l.length < 4096 then (l ++ [e], false) else
  let oldest := l.foldl (fun m x => min m x.seen) e.seen
  match l.find? (fun x => x.seen == oldest) with
  | some o => (l.filter (fun x => x.mac != o.mac) ++ [e], true)
  | none => (l ++ [e], false)

/-- The duplicate-discard unit judges a frame at its end (R78): whether it is accepted. -/
def Dev.prpJudge (d : Dev) (s : Shut) : Dev × Bool :=
  let port := s.get S.PORT
  match (d.cfgOf s).pairOf port, prpTrailer s.frame with
  | some (a, _), some (seq, _) =>
    let l := mapGetD d.net.prpSources a []
    let mac := macAt s.frame 6
    let put := fun (d : Dev) l => d.modNet (fun n => { n with prpSources := mapPut n.prpSources a l })
    match l.find? (fun e => e.mac == mac) with
    | none =>
      let (l, full) := prpInsert l ⟨mac, seq, [seq], d.time.cycles⟩
      let d := put d l
      (if full then (d.count (K.PORT_PRP_TABLE_REPLACE port)).raise (F.PORT_EVENT_PRP_FULL port) else d, true)
    | some e =>
      let (acc, e, far) := e.judge seq d.time.cycles
      let d := put d (l.map (fun x => if x.mac = mac then e else x))
      (if !acc then d.count (K.PORT_PRP_DUP_DISCARD port) else if far then d.count (K.PORT_PRP_OUT_OF_WINDOW port) else d, acc)
  | _, _ => (d, true)

/-- PRP_ENTRY_FORGET (R78): a source unseen for FORGET_MS leaves the table of its pair. `pair` is the LAN A port. -/
def execPrpEntryForget (pair mac : Nat) (s : State) : Host.Outcome State Fault Refusal :=
  done s (s.dev.modNet (fun n =>
    { n with prpSources := mapPut n.prpSources pair ((mapGetD n.prpSources pair []).filter (fun e => e.mac != mac)) }))

/-! ## A/B groups -/

/-- One group's running state. -/
def Dev.abGroup (d : Dev) (g : Nat) : AbGroup := mapGetD d.net.ab g {}
/-- A group's running state stored. -/
def Dev.putAb (d : Dev) (g : Nat) (x : AbGroup) : Dev := d.modNet (fun n => { n with ab := mapPut n.ab g x })

/-- One PORT_AB_GAP entry: KIND 0 GAP, 1 REWIND. -/
def Dev.abLog (d : Dev) (g kind first count : Nat) : Dev :=
  d.logPut 0x2F0010 0x2F8000 8 (d.nowNs % 2 ^ 64 + 2 ^ 64 * (first % 2 ^ 64) + 2 ^ 128 * (min count (2 ^ 32 - 1)) + 2 ^ 160 * (g % 1024)
    + 2 ^ 176 * kind)

/-- A gap logged as lost: GAPS and GAP_SEQS count. -/
def Dev.abGapLost (d : Dev) (g : Nat) (gap : Nat × Nat) : Dev :=
  ((d.abLog g 0 gap.1 gap.2).count K.AB_GAPS).count K.AB_GAP_SEQS gap.2

/-- Open gaps brought back to 16: the oldest are logged at once. -/
def Dev.abTrim (d : Dev) (g : Nat) : Nat → Dev
  | 0 => d
  | n + 1 =>
    let x := d.abGroup g
    match x.gaps with
    | o :: t => if x.gaps.length > 16 then ((d.abGapLost g o).putAb g { x with gaps := t }).abTrim g n else d
    | [] => d

/-- The gaps with a number filled: a gap shrinks, splits or closes. -/
def fillGap (m seq : Nat) : List (Nat × Nat) → List (Nat × Nat)
  | [] => []
  | (f, n) :: t =>
    let k := (seq + m - f) % m
    if k < n then
      (if k = 0 then [] else [(f, k)]) ++ (if k + 1 = n then [] else [((seq + 1) % m, n - k - 1)]) ++ t
    else (f, n) :: fillGap m seq t

/-- Whether a number lies in an open gap. -/
def inGap (m seq : Nat) (l : List (Nat × Nat)) : Bool := l.any (fun p => (seq + m - p.1) % m < p.2)

/-- One number of a group decided (Table 4): delivered or dropped. `m` is 2^32 or 2^64. R80 leaves open what a restart does with the gaps
open then, and the COUNT of its entry: they are forgotten unlogged, and COUNT is 0 (DESIGN CHOICE, assumption log 84). -/
def Dev.abDecide (d : Dev) (g m seq : Nat) : Dev × Bool :=
  let x := d.abGroup g
  let deliver := fun (d : Dev) (y : AbGroup) => ((d.putAb g { y with behind := 0 }).count K.AB_FIRST, true)
  match (if x.rewind then none else x.high) with
  | none =>
    let d := if x.rewind then (d.abLog g 1 seq 0).count K.AB_REWINDS else d
    deliver d { high := some seq, marked := [seq], gaps := [], behind := 0, rewind := false }
  | some h =>
    let ahead := (seq + m - h) % m
    let behind := (h + m - seq) % m
    if inGap m seq x.gaps then deliver d { x with marked := seq :: x.marked, gaps := fillGap m seq x.gaps } |> fun (d, r) => (d.abTrim g 1, r)
    else if ahead ≠ 0 ∧ ahead < m / 2 then
      let y := { x with high := some seq, marked := seq :: x.marked.filter (fun k => (seq + m - k) % m ≤ 1023),
                        gaps := if ahead = 1 then x.gaps else x.gaps ++ [((h + 1) % m, ahead - 1)] }
      let (d, r) := deliver d y
      (d.abTrim g 1, r)
    else if x.marked.contains seq then ((d.putAb g { x with behind := 0 }).count K.AB_SECOND_DROP, false)
    else if behind > 1023 then
      ((d.putAb g { x with behind := x.behind + 1, rewind := decide (x.behind + 1 ≥ 64) }).count K.AB_BEHIND, false)
    else deliver d { x with marked := seq :: x.marked }

/-- A delivered number whose frame's FCS then failed: its mark is cleared and it opens as a gap of one number (R79). -/
def Dev.abUnmark (d : Dev) (g seq : Nat) : Dev :=
  let x := d.abGroup g
  (d.putAb g { x with marked := x.marked.filter (fun k => k != seq), gaps := x.gaps ++ [(seq, 1)] }).abTrim g 1

/-- AB_GAP_TIMEOUT (R80): the open gap that begins at `first` reaches its timeout. -/
def execAbGapTimeout (group first : Nat) (s : State) : Host.Outcome State Fault Refusal :=
  let d := s.dev
  let x := d.abGroup group
  match x.gaps.find? (fun p => p.1 == first) with
  | none => done s d
  | some gap => done s ((d.abGapLost group gap).putAb group { x with gaps := x.gaps.filter (fun p => p.1 != first) })

/-! ## The end of a frame at a network land -/

/-- A clean frame of a cut-through ring: after DECAY of them in a row the ring's threshold falls by 64 bytes, never below START (R72). -/
def Dev.decay (d : Dev) (s : Shut) (port : Nat) : Dev :=
  match s.ring with
  | none => d
  | some r =>
    if s.prpCopyOf.isSome || d.rcf r RC.CT = 0 || s.get S.STATUS = St.underrun then d else
    let x := d.ring r
    let n := d.sh (F.PORT_CT_DECAY port)
    if n = 0 ∨ x.clean + 1 < n then d.modRing r (fun x => { x with clean := x.clean + 1 })
    else d.modRing r (fun x => { x with clean := 0, thresh := if x.thresh ≤ d.sh (F.PORT_CT_START port) + 64 then 0 else x.thresh - 64 })

/-- A departed frame whose end has arrived, and whose lane has answered, ends at its lands: its FCS is sent, inverted for a stomped
frame; the egress record and the transmit completion are written; the shuttle is released (R74, R118, R215). -/
def Dev.departEnd (d : Dev) (i : Nat) : Dev :=
  match d.shut i with
  | none => d
  | some s =>
    if !s.departed || !s.ended || s.lane.isSome then d else
    let port := s.get S.DEST_PORT
    let bad := s.stomp || s.flag Fl.FCS_BAD || s.flag Fl.HOST_POISON || !s.badAt.isEmpty
    let fcs := if bad then crc32 s.frame ^^^ (2 ^ 32 - 1) else crc32 s.frame
    let bytes := s.frame ++ leBytes 4 fcs
    let stamp := s.txStamp.getD {}
    let d := d.emit (.frame port bytes stamp.time)
    let stop := (d.onScale stamp.time stamp.epoch).toNat + byteTime (bytes.length + 12) (d.cfg.active.portRate port)
    let d := (d.count (K.PORT_TX_FRAMES port)).modNet (fun n =>
      { n with ports := mapPut n.ports port { mapGetD n.ports port {} with sending := none, txEnd := stop } })
    let d := if bad then d.count (K.PORT_TX_STOMPED port) else d
    let d := if s.guaranteed && s.flag Fl.DEADLINE_MISS then d.count (K.PORT_TX_DEADLINE_MISS port) else d
    let d := if s.twinDone then d else d.takeEgress s stamp port bytes fcs
    let d := match s.prpCopyOf with
      | some o => if s.twinDone then d else
          let d := d.txComplete o
          if ((d.shut o).elim none Shut.dropReason).isSome then (d.releaseSa o).freeShut o else d
      | none => d
    (((d.decay s port).releaseSa i).txComplete i).freeShut i

end Sys2Proof.Machine
end

