-- ==== Sys2Proof/Machine/Match.lean ====
section
/-! DEFINITION. Matching and action lists (R145 to R149), policers (R41, R152 to R155) and deadlines (R40). -/
namespace Sys2Proof.Machine
open Sys2Proof

/-! ## Envelopes and rates -/

/-- An envelope's field: byte offset `off` of its word, low bit and width (ch. 2, Table 2). -/
def envField (e off lo w : Nat) : Fld := ⟨0xA80000 + 32 * e + off, lo, w⟩
namespace EV
def RATE (e : Nat) : Fld := envField e 0 0 20
def CLASS (e : Nat) : Fld := envField e 0 20 2
def VALID (e : Nat) : Fld := envField e 0 22 1
def BURST (e : Nat) : Fld := envField e 4 0 24
def MAX_FRAME (e : Nat) : Fld := envField e 8 0 14
def MIN_FRAME (e : Nat) : Fld := envField e 8 16 14
def RANK (e : Nat) : Fld := envField e 12 0 16
def SRC (e : Nat) : Fld := envField e 12 16 4
def DST (e : Nat) : Fld := envField e 12 24 4
def CIPHER (e : Nat) : Fld := envField e 16 0 1
def GROUP (e : Nat) : Fld := envField e 16 1 3
def LOOKUPS (e : Nat) : Fld := envField e 16 4 2
def FETCH (e : Nat) : Fld := envField e 16 6 1
def CUT (e : Nat) : Fld := envField e 16 7 1
def PASSES (e : Nat) : Fld := envField e 16 8 3
def RECORDS (e : Nat) : Fld := envField e 16 11 3
def CORE (e : Nat) : Fld := envField e 16 16 8
def WEIGHT (e : Nat) : Fld := envField e 16 24 5
def BUDGET (e : Nat) : Fld := envField e 20 0 16
def BOUND (e : Nat) : Fld := envField e 24 0 24
def DELAY (e : Nat) : Fld := envField e 28 0 24
def STATE (e : Nat) : Fld := envField e 28 24 2
end EV

/-- Whether a wire-to-wire frame is store-and-forward (R37, R417): the egress port is faster, cut-through is off for the flow, or it
was received on a PRP pair. -/
def CfgSet.storeForward (c : CfgSet) (env src dst : Nat) : Bool :=
  decide (c.portRate dst > c.portRate src) || c.get (EV.CUT env) == 0 || (c.pairOf src).isSome

/-- The deadline of a network frame of an envelope (R40), as far as the frame's end is known. -/
def Dev.setDeadline (d : Dev) (i : Nat) : Dev :=
  match d.shut i with
  | none => d
  | some s =>
    match s.envelope with
    | none => d
    | some e =>
      if !s.guaranteed || s.get S.DIR = 1 then d else
      let c := d.cfgOf s
      let bound := c.get (EV.BOUND e) * 65536
      let src := s.get S.PORT
      let dst := c.get (EV.DST e)
      let t0 := fieldStamp (s.get S.INGRESS_STAMP)
      let t := if dst ≥ 9 then (if s.ended then s.endStamp else t0) + bound
        else if s.ended && c.storeForward e src dst then t0 + bound + wireTime (s.get S.LENGTH) (c.portRate src)
        else t0 + bound
      d.putShut i { (s.set S.DEADLINE (stampField t)) with dlEpoch := if dst ≥ 9 && s.ended then s.endEpoch else s.epoch }

/-! ## Buckets -/

/-- A bucket brought up to a cycle: rate in Mb/s adds the same number of 1/9,600 byte units each cycle, up to `depth` bytes. -/
def Bucket.refill (b : Bucket) (rate depth now : Nat) : Bucket :=
  ⟨min (depth * 9600) (b.tokens + rate * (now - b.last)), now⟩
/-- A full bucket. -/
def Bucket.full (depth now : Nat) : Bucket := ⟨depth * 9600, now⟩
/-- Whether a bucket holds tokens for a charge in bytes. -/
def Bucket.holds (b : Bucket) (charge : Nat) : Bool := b.tokens ≥ charge * 9600
/-- A charge taken. -/
def Bucket.take (b : Bucket) (charge : Nat) : Bucket := { b with tokens := b.tokens - charge * 9600 }

/-- A discard by a policer (R152, R176): reason 1, and no learn request survives. -/
def Dev.policerDrop (d : Dev) (i ctr : Nat) : Dev := ((d.count ctr).modShut i (fun s => { s with learn := none })).discard i 1

/-- The envelope policer judges a frame (R41, R152): it needs a charge within MAX_FRAME and tokens for it. -/
def Dev.policeEnv (d : Dev) (i e charge : Nat) : Dev :=
  match d.shut i with
  | none => d
  | some s =>
    let a := d.cfg.active
    let depth := a.get (EV.BURST e)
    let b := (mapGetD d.hed.env e (Bucket.full depth d.time.cycles)).refill (a.get (EV.RATE e)) depth d.time.cycles
    let ok := charge ≤ (d.cfgOf s).get (EV.MAX_FRAME e) && b.holds charge
    let d := d.modHed (fun h => { h with env := mapPut h.env e (if ok then b.take charge else b) })
    if ok then d else d.policerDrop i (if s.get S.CLASS = 0 then K.HED_POLICE_DROP_GT else K.HED_POLICE_DROP_GD)

/-- A general policer judges a frame with the values of its own VERSION against the shared count (R154). -/
def Dev.policeGeneral (d : Dev) (i k charge : Nat) : Dev :=
  match d.shut i with
  | none => d
  | some s =>
    let r := (d.cfgOf s).record Tab.policer k
    let depth := recGet r ⟨32, 24⟩
    let b := (mapGetD d.hed.pol k (Bucket.full depth d.time.cycles)).refill (recGet r ⟨0, 20⟩) depth d.time.cycles
    let ok := b.holds charge
    let d := d.modHed (fun h => { h with pol := mapPut h.pol k (if ok then b.take charge else b) })
    if ok then d
    else if recGet r ⟨31, 1⟩ = 0 then d.policerDrop i K.HED_POLICE_DROP_AS_BE
    else if s.get S.CLASS = 2 then (d.count K.HED_POLICE_DEMOTE).modShut i (fun s => s.set S.CLASS 3)
    else d

/-- The frame's policer applied with a charge. -/
def Dev.policeWith (d : Dev) (i charge : Nat) : Dev :=
  match d.shut i with
  | none => d
  | some s =>
    let d := d.modShut i (fun s => { s with policeDue := false, polGeneral := none })
    match s.polGeneral, s.envelope with
    | some k, _ => d.policeGeneral i k charge
    | none, some e => if s.guaranteed then d.policeEnv i e charge else d
    | none, none => d

/-! ## Action lists -/

/-- One word of the action store under a set. -/
def CfgSet.action (c : CfgSet) (a : Nat) : Nat := recGet (c.record Tab.action (a % 1048576)) ⟨0, 64⟩
/-- OP, and whether the word is the list's last. -/
def awOp (w : Nat) : Nat := bitsOf w 59 5
def awLast (w : Nat) : Bool := w.testBit 58

/-- The words of the list that starts at `a`: up to and including the first with LAST, 16 at most. -/
def CfgSet.listFrom (c : CfgSet) : Nat → Nat → List Nat
  | 0, _ => []
  | n + 1, a => c.action a :: (if awLast (c.action a) then [] else c.listFrom n (a + 1))
/-- An action list (R148). -/
def CfgSet.list (c : CfgSet) (a : Nat) : List Nat := c.listFrom 16 a

/-- What a list asks for beside the shuttle's fields. -/
structure ListRun where
  s : Shut
  guar : Option (Nat × Nat) := none
  cls : Option Nat := none
  police : Option Nat := none
  witness : Option Nat := none
  ab : Option (Nat × Nat) := none
  sa : Option (Nat × Nat) := none
  drop : Bool := false
  deriving DecidableEq, Repr

/-- The KEY that a KEY word loads (Table 9). -/
def loadKey (s : Shut) (w : Nat) : Nat :=
  let base := if bitsOf w 0 4 > 11 then 0xFFFF else s.get (S.OFFSET (bitsOf w 0 4))
  if base = 0xFFFF then 0 else
  let b := sliceBytes s.frame (base + bitsOf w 4 8) (bitsOf w 12 3 + 1)
  if w.testBit 15 then leNat b else beNat b

/-- One action word applied (Table 9). `first` says that the pass is the first. The management port carries no guaranteed traffic and takes part
in no feed group, so GUARANTEE and AB have no effect on its frames (R75). -/
def applyWord (first : Bool) (x : ListRun) (w : Nat) : ListRun :=
  if x.drop then x else
  let s := x.s
  match awOp w with
  | 0x01 => if first && s.get S.DIR == 0 && s.get S.PORT != 8 then { x with guar := some (bitsOf w 0 14, bitsOf w 14 3), cls := none, police := none } else x
  | 0x02 =>
    let c := bitsOf w 0 2
    if !first && s.guaranteed then x else
    if s.get S.DIR = 1 ∧ s.guaranteed then x else
    { x with s := s.set S.TC (bitsOf w 2 3), guar := none, cls := some c,
             police := if first && s.get S.DIR == 0 && w.testBit 21 then some (bitsOf w 5 16) else none }
  | 0x03 =>
    { x with s := { (((s.set S.DEST_PORT (bitsOf w 0 4)).set S.DEST_QUEUE (bitsOf w 4 14)).set S.DEST_VALID 1) with destAfter := s.fwdOps.isSome } }
  | 0x04 => { x with s := { s with fwdOps := some (bitsOf w 0 58), destAfter := false } }
  | 0x05 => { x with s := { s with decapWanted := true } }
  | 0x06 => { x with s := { (s.mark Fl.ENCAP_PENDING) with template := some (bitsOf w 0 16) } }
  | 0x07 => { x with s := (s.set S.SA (bitsOf w 0 20)).set S.CIPHER_OP (bitsOf w 20 3), sa := some (bitsOf w 0 20, bitsOf w 20 3) }
  | 0x08 => { x with s := s.set S.PROGRAM (bitsOf w 0 16) }
  | 0x09 => if first then { x with witness := some (bitsOf w 0 8) } else x
  | 0x0A => { x with s := s.set S.KEY (loadKey s w) }
  | 0x0B => if s.get S.PORT = 8 then x else { x with ab := some (bitsOf w 0 10, bitsOf w 10 1) }
  | 0x0C => { x with s := s.mark Fl.RECIRCULATE }
  | 0x0D => { x with s := s.mark Fl.DROP, drop := true }
  | 0x0E => { x with s := { s with excWanted := true } }
  | _ => x

/-- A list run over a shuttle. -/
def runList (first : Bool) (s : Shut) (l : List Nat) : ListRun := l.foldl (applyWord first) { s := s }

/-! ## Matching -/

/-- The outcome of Table 7 with the counter of its row. -/
structure MatchRes where
  flow : Nat
  rule : Nat
  store : Nat
  action : Nat
  exc : Nat
  ctr : Nat
  deriving DecidableEq, Repr

/-- The valid flow record of one tier that holds an exact key (R145). A record whose index entry was invalidated, or whose
table-store bank is OUT (R386), is not found. -/
def Dev.flowHit (d : Dev) (c : CfgSet) (key : List Byte) (kt profile : Nat) (hot : Bool) : Option (Nat × Rec) :=
  let k := leNat key
  (c.table Tab.flow).find? (fun p => decide (p.1 < 131072) == hot && recGet p.2 FR.VALID == 1 && recGet p.2 FR.KEY == k
    && recGet p.2 FR.KT == kt && (kt != 6 || recGet p.2 FR.PROFILE == profile) && !d.hed.noIndex.contains p.1
    && !(hot && d.flt.outUnits.contains (5, Config.flowBank p.1)))

/-- The exception list of a flow that a rule names: its record's, while the record is valid. -/
def CfgSet.excOf (c : CfgSet) (flow : Nat) : Nat :=
  let r := c.record Tab.flow flow
  if flow ≠ 0 ∧ recGet r FR.VALID = 1 then recGet r FR.EXC else 0

/-- Match resolution (R146, Table 7). -/
def CfgSet.resolve (c : CfgSet) (port : Nat) (exact wc : Option (Nat × Rec)) : MatchRes :=
  match exact, wc with
  | some (f, r), some (k, w) =>
    if recGet w WR.FINAL = 1 then ⟨f, k, 1, recGet w WR.ACTION, recGet r FR.EXC, K.HED_WC_FINAL⟩
    else ⟨f, f, 0, recGet r FR.ACTION, recGet r FR.EXC, if f < 131072 then K.HED_HOT_HIT else K.HED_DDR5_HIT⟩
  | some (f, r), none => ⟨f, f, 0, recGet r FR.ACTION, recGet r FR.EXC, if f < 131072 then K.HED_HOT_HIT else K.HED_DDR5_HIT⟩
  | none, some (k, w) => ⟨recGet w WR.FLOW, k, 1, recGet w WR.ACTION, c.excOf (recGet w WR.FLOW), K.HED_WC_HIT⟩
  | none, none => ⟨0, 2 ^ 22 - 1, 0, c.get (F.HED_PORT_DEFAULT_LIST port), 0, K.HED_DEFAULT⟩

/-- The match written into the shuttle (R146). -/
def MatchRes.write (m : MatchRes) (s : Shut) : Shut :=
  { ((((s.set S.FLOW_ID m.flow).set S.RULE m.rule).set S.RULE_STORE m.store).set S.ACTION m.action) with exc := m.exc }

/-- Whether a list leads to a GUARANTEE word for a GD envelope (R145). -/
def CfgSet.leadsGd (c : CfgSet) (a : Nat) : Bool :=
  (c.list a).any (fun w => awOp w == 1 && c.get (EV.CLASS (bitsOf w 0 14)) == 1)

/-- Whether a frame is known to be GD before its DDR5 lookup (R145). -/
def CfgSet.knownGd (c : CfgSet) (port : Nat) : Option (Nat × Rec) → Bool
  | some (_, w) => recGet w WR.FINAL == 0 && c.leadsGd (recGet w WR.ACTION)
  | none => c.leadsGd (c.get (F.HED_PORT_DEFAULT_LIST port))

/-- A place of the lookup pool taken: 4,096 places, 1,024 of them for frames known to be GD (R145). -/
def Dev.poolPlace (d : Dev) (gd : Bool) : Option Bool :=
  let waiting := d.shuts.filter (fun p => p.2.stage == .ddr5)
  let shared := (waiting.filter (fun p => !p.2.poolReserved)).length
  let res := (waiting.filter (fun p => p.2.poolReserved)).length
  if shared < 3072 then some false else if gd ∧ res < 1024 then some true else none

/-! ## A/B fields (R79, R80) -/

/-- Where a group's sequence field lies in a frame, its width, and whether it is little-endian; `none` when the payload cannot hold it. A group
that a word names is arbitrated whatever its ENABLE (DESIGN CHOICE, assumption log 84). -/
def CfgSet.abField (c : CfgSet) (g : Nat) (f : List Byte) (p : Parsed) : Option (Nat × Nat × Bool) :=
  let w := wordAt shReset c.words (0x2F1000 + 8 * g)
  let l := if p.inner.ports && p.inner.proto == 17 then p.inner else p.outer
  match p.payload with
  | none => none
  | some pay =>
    if l.proto ≠ 17 ∨ !l.ports then none else
    let at_ := pay + bitsOf w.toNat 0 11
    let n := if bitsOf w.toNat 17 1 = 1 then 8 else 4
    if at_ + n > l.l4 + beNat (sliceBytes f (l.l4 + 4) 2) then none else some (at_, n, bitsOf w.toNat 18 1 == 1)

end Sys2Proof.Machine
end

