-- ==== Sys2Proof/Machine/Format.lean ====
section
/-! DEFINITION. The rules that refuse a configuration set with reason FORMAT (R44, R49, R416 and the rules they gather). Each rule
answers the list of its failures, an envelope index or none. -/
namespace Sys2Proof.Machine
open Sys2Proof

/-! ## What a set holds -/

/-- The failures of FORMAT rules: the envelope each involves, or none. -/
abbrev Bad := List (Option Nat)

/-- One rule's failure. -/
def bad (e : Option Nat) (b : Bool) : Bad := if b then [e] else []

/-- The valid envelopes of a set, in index order. -/
def CfgSet.envs (c : CfgSet) : List Nat :=
  (c.words.filter (fun (p : Nat × Word) => 0xA80000 ≤ p.1 && p.1 < 0xB00000 && (p.1 - 0xA80000) % 32 == 0 && bitsOf p.2.toNat 22 1 == 1)).map
    (fun p => (p.1 - 0xA80000) / 32)

/-- The records of a table whose VALID field is 1. -/
def CfgSet.validRecs (c : CfgSet) (tab : Nat) (b : Bits) : List (Nat × Rec) := (c.table tab).filter (fun p => recGet p.2 b == 1)

/-- Fields of a queue and of a group record (ch. 10, Tables 5 and 6). -/
def QR_VALID : Bits := ⟨14, 1⟩
def GR_VALID : Bits := ⟨7, 1⟩

/-- The valid transmit rings with the envelope each names. -/
def CfgSet.envRings (c : CfgSet) : List (Nat × Nat × Rec) :=
  ((c.validRecs Tab.ring ⟨2, 1⟩).filter (fun p => recGet p.2 ⟨0, 2⟩ == 0 && recGet p.2 ⟨15, 1⟩ == 1)).map
    (fun p => (recGet p.2 ⟨208, 14⟩, p.1, p.2))

/-- An action list that may lead to a frame's treatment: the flow store index it stands for, its key type when it is a flow's, whether
its matches fix EtherType to IP, and its words (R147). -/
structure Source where
  flow : Nat
  isFlow : Bool
  kt : Nat
  ip : Bool
  words : List Nat
  deriving DecidableEq, Repr

/-- Whether a rule's mask fixes EtherType to 0x0800 or 0x86DD (R147). Key bytes 16 and 17 hold it, the high byte first. -/
def ruleIsIp (r : Rec) : Bool :=
  recGet r ⟨640 + 128, 16⟩ == 0xFFFF && (recGet r ⟨128, 16⟩ == 0x0008 || recGet r ⟨128, 16⟩ == 0xDD86)

/-- The lists of valid flow records, of valid rules and of the port defaults. -/
def CfgSet.sources (c : CfgSet) : List Source :=
  (c.validRecs Tab.flow ⟨323, 1⟩).map (fun p => ⟨p.1, true, recGet p.2 ⟨320, 3⟩, true, c.list (recGet p.2 ⟨352, 20⟩)⟩)
  ++ (c.validRecs Tab.wildcard ⟨1296, 1⟩).map (fun p => ⟨recGet p.2 ⟨1344, 22⟩, false, 7, ruleIsIp p.2, c.list (recGet p.2 ⟨1312, 20⟩)⟩)
  ++ (List.range 11).map (fun n => ⟨0, false, 7, false, c.list (c.get (F.HED_PORT_DEFAULT_LIST n))⟩)

/-- The exception lists: of valid flow records and of ports, where the pointer is not 0. -/
def CfgSet.excLists (c : CfgSet) : List (List Nat) :=
  (((c.validRecs Tab.flow ⟨323, 1⟩).map (fun p => recGet p.2 ⟨384, 20⟩)) ++ (List.range 11).map (fun n => c.get (F.HED_PORT_EXC_LIST n))).filter
    (fun a => a != 0) |>.map c.list

/-- The envelopes a list's GUARANTEE words name, with their traffic classes. -/
def guarOf (l : List Nat) : List (Nat × Nat) := (l.filter (fun w => awOp w == 1)).map (fun w => (bitsOf w 0 14, bitsOf w 14 3))

/-- The first envelope a list names: the one its failures involve. -/
def listEnv (l : List Nat) : Option Nat := (guarOf l).head?.map (·.1)

/-- The traffic classes that carry an envelope: those of its GUARANTEE words and of the rings that name it (R44). -/
def CfgSet.envTcs (c : CfgSet) (e : Nat) : List Nat :=
  ((c.sources.flatMap (fun s => guarOf s.words)).filter (fun g => g.1 == e)).map (·.2)
  ++ (c.envRings.filter (fun r => r.1 == e)).map (fun r => recGet r.2.2 ⟨232, 3⟩)

/-- Ledger records per frame of a witness profile; an extension counts 2 (R44, R115). -/
def CfgSet.profRecords (c : CfgSet) (p : Nat) : Nat := c.profile p 1 1 + c.profile p 2 1 + 2 * c.profile p 3 1
/-- The witness profile of a list: its last WITNESS word's. -/
def listWitness (l : List Nat) : Nat := (((l.filter (fun w => awOp w == 9)).getLast?).map (fun w => bitsOf w 0 8)).getD 0

/-! ## Action lists (R147 to R149, R174, R193, R194, R230, R281, R418) -/

/-- One word of a list. -/
def CfgSet.badWord (c : CfgSet) (who : Option Nat) (w : Nat) : Bad :=
  let pol := c.record Tab.policer (bitsOf w 5 16)
  bad who (decide (awOp w ≥ 0xF))
  ++ bad who (awOp w == 2 && decide (bitsOf w 0 2 < 2))
  ++ bad who (awOp w == 2 && w.testBit 21 && (decide (recGet pol ⟨0, 20⟩ < 1 ∨ recGet pol ⟨0, 20⟩ > 800000 ∨ recGet pol ⟨32, 24⟩ < 64)))
  ++ bad who (awOp w == 4 && (bitsOf w 1 2 == 3 || (w.testBit 3 && w.testBit 0)))
  ++ bad who (awOp w == 6 && decide (bitsOf w 0 16 > 16383))
  ++ bad who (awOp w == 7 && bitsOf w 20 3 == 4)
  ++ bad who (awOp w == 8 && bitsOf w 0 16 != 0 && recGet (c.record Tab.program (bitsOf w 0 16)) ⟨22, 1⟩ == 0)
  ++ bad who (awOp w == 9 && bitsOf w 0 8 != 0 && c.profile (bitsOf w 0 8) 0 1 == 0)

/-- A list as such: it ends within 16 words, and every word is allowed. -/
def CfgSet.badList (c : CfgSet) (l : List Nat) : Bad :=
  bad (listEnv l) (!(l.any awLast)) ++ l.flatMap (c.badWord (listEnv l))

/-- An exception list holds NOP, DEST, FORWARD and DROP only (R149). -/
def CfgSet.badExc (c : CfgSet) (l : List Nat) : Bad :=
  c.badList l ++ l.flatMap (fun w => bad none (!([0, 3, 4, 0xD] : List Nat).contains (awOp w)))

/-- What a list that leads to a GUARANTEE word for an envelope must keep. -/
def CfgSet.badGuar (c : CfgSet) (s : Source) (e : Nat) : Bad :=
  if c.get (EV.VALID e) = 0 then [] else
  let gt := c.get (EV.CLASS e) == 0
  let cut := c.get (EV.CUT e) == 1
  let fw := s.words.filter (fun w => awOp w == 4)
  let lookups := (if s.isFlow && decide (s.flow ≥ 131072) then 1 else 0) + (if fw.any (fun w => bitsOf w 1 2 == 0) then 1 else 0)
  bad e (gt && decide (s.flow ≥ 131072))
  ++ bad e (cut && (if s.isFlow then s.kt == 2 || s.kt == 6 else !s.ip))
  ++ bad e (gt && fw.any (fun w => bitsOf w 1 2 != 2))
  ++ bad e (!gt && decide (c.get (EV.LOOKUPS e) < lookups))
  ++ bad e (decide (c.profRecords (listWitness s.words) > c.get (EV.RECORDS e)))
  ++ bad e (cut && s.words.any (fun w => awOp w == 6 && recGet (c.record Tab.template (bitsOf w 0 14)) ⟨1027, 1⟩ == 1))
  ++ (s.words.filter (fun w => awOp w == 8 && bitsOf w 0 16 != 0)).flatMap (fun w =>
      let p := c.record Tab.program (bitsOf w 0 16)
      bad e (recGet p ⟨23, 1⟩ == 0 || decide (recGet p ⟨48, 16⟩ > c.get (EV.BUDGET e)) || recGet p ⟨16, 6⟩ != c.get (EV.CORE e)))

/-- Every list of the set. -/
def CfgSet.badLists (c : CfgSet) : Bad :=
  c.sources.flatMap (fun s => c.badList s.words ++ (guarOf s.words).flatMap (fun g => c.badGuar s g.1)) ++ c.excLists.flatMap c.badExc
  ++ (List.range 11).flatMap (fun n =>
      bad none (c.get (F.HED_PORT_CFG_KT n) == 5) ++ bad none (c.get (F.HED_PORT_CFG_MAL_ACTION n) == 3))
  ++ (c.table Tab.profile).flatMap (fun p =>
      bad none (decide ((List.range 5).foldl (fun n k => n + recGet p.2 ⟨16 * k + 4, 4⟩) 0 > 38)
        || (List.range 5).any (fun k => decide (recGet p.2 ⟨16 * k + 4, 4⟩ > 8))))
  ++ (c.table Tab.domain).flatMap (fun p => bad none (recGet p.2 ⟨21, 2⟩ == 3))
  ++ (c.validRecs Tab.template ⟨1031, 1⟩).flatMap (fun p =>
      let len := recGet p.2 ⟨1032, 8⟩
      let l3 := recGet p.2 ⟨1040, 8⟩
      bad none (recGet p.2 ⟨1024, 2⟩ == 3 || decide (len < 14 ∨ len > 128))
      ++ bad none (recGet p.2 ⟨1026, 1⟩ == 0 && recGet p.2 ⟨8 * (l3 + 6) + 6, 1⟩ == 0))

/-! ## Ports (R62 to R65, R76) -/

/-- The FEC choices of a mode (Table 1): 0 none or OFF, 1 BASE-R, 2 RS(544,514). -/
def fecAllowed (mode fec : Nat) : Bool :=
  if mode = 1 ∨ mode = 2 then fec == 0 || fec == 1 else if mode = 7 then fec == 0 else fec == 0 || fec == 2

/-- One port's own settings (R44, R64, R65): a mode of Table 1, an FEC choice of that mode, and the ranges of START, FORGET_MS and the pause
modes; of an enabled port its MTU, and FEC OFF on PAM4 with AN = 0 only. -/
def CfgSet.badPort (c : CfgSet) (n : Nat) : Bad :=
  let mode := c.get (F.PORT_CFG_MODE n)
  let mtu := c.get (F.PORT_CFG_MTU n)
  let start := c.get (F.PORT_CT_START n)
  bad none (c.get (F.PORT_CFG_FEC n) == 3 || (if n = 8 then !(mode == 0 || mode == 7) else mode == 7))
  ++ bad none (mode != 0 && !fecAllowed mode (c.get (F.PORT_CFG_FEC n)))
  ++ bad none (decide (start < 64 ∨ start > 9216 ∨ start % 64 ≠ 0 ∨ c.get (F.PORT_PRP_FORGET_MS n) < 10 ∨ c.get (F.PORT_PRP_FORGET_MS n) > 4000)
    || c.get (F.PORT_PAUSE_RX_MODE n) == 3 || c.get (F.PORT_PAUSE_TX_MODE n) == 3)
  ++ bad none (c.get (F.PORT_CFG_ENABLE n) == 1 && decide (mtu < 64 ∨ mtu > 9216))
  ++ bad none (c.get (F.PORT_CFG_ENABLE n) == 1 && decide (3 ≤ mode ∧ mode ≤ 6) && c.get (F.PORT_CFG_FEC n) == 0 && c.get (F.PORT_CFG_AN n) == 1)

/-- Two active ports of one group name one mode (R65). -/
def CfgSet.badGroups (c : CfgSet) : Bad :=
  (List.range 2).flatMap (fun g =>
    let l := ((List.range 4).map (fun k => 4 * g + k)).filter c.portActive
    bad none (l.any (fun p => l.any (fun q => c.get (F.PORT_CFG_MODE p) != c.get (F.PORT_CFG_MODE q)))))

/-- A PRP pair: two active ports of one mode that name each other (R76). -/
def CfgSet.badPair (c : CfgSet) (n : Nat) : Bad :=
  if c.get (F.PORT_PRP_ENABLE n) = 0 then [] else
  let q := c.get (F.PORT_PRP_PARTNER n)
  bad none (n == 8 || q == n || c.get (F.PORT_PRP_ENABLE q) == 0 || c.get (F.PORT_PRP_PARTNER q) != n
    || !c.portActive n || !c.portActive q || c.get (F.PORT_CFG_MODE n) != c.get (F.PORT_CFG_MODE q))

/-! ## Envelopes (R38, R43, R44, R65, R286, R416, R456) -/

/-- Whether a port code names a network port or host link that the set and the host link mode provide (R65). -/
def CfgSet.portProvided (c : CfgSet) (split : Bool) (p : Nat) : Bool :=
  if p ≤ 7 then c.portActive p else p == 9 || (p == 10 && split)

/-- The ports an envelope leaves on: DST, and its PRP partner (R77). -/
def CfgSet.egressPorts (c : CfgSet) (dst : Nat) : List Nat :=
  match c.pairOf dst with
  | some (a, b) => [a, b]
  | none => [dst]

/-- Whether pause reception on a port may hold one of some traffic classes (R44). -/
def CfgSet.pauseHolds (c : CfgSet) (p : Nat) (tcs : List Nat) : Bool :=
  let rx := c.get (F.PORT_PAUSE_RX_MODE p)
  rx == 1 || (rx == 2 && (List.range 8).any (fun q =>
    (c.get (F.PORT_PAUSE_PFC_EN p)).testBit q && tcs.contains (bitsOf (c.get (F.PORT_PFC_MAP_MAP p)) (3 * q) 3)))

/-- One envelope. -/
def CfgSet.badEnv (c : CfgSet) (split : Bool) (e : Nat) : Bad :=
  let g := fun (f : Nat → Fld) => c.get (f e)
  let src := g EV.SRC
  let dst := g EV.DST
  let core := g EV.CORE
  bad e (decide (g EV.RATE < 1 ∨ g EV.RATE > 800000 ∨ g EV.CLASS > 1 ∨ g EV.BURST < 64 ∨ g EV.MAX_FRAME < 64 ∨ g EV.MAX_FRAME > 9216
    ∨ g EV.MIN_FRAME < 64 ∨ g EV.MIN_FRAME > g EV.MAX_FRAME ∨ g EV.PASSES < 1 ∨ g EV.PASSES > 4 ∨ g EV.RECORDS > 4))
  ++ bad e (decide (src > 10 ∨ dst > 10 ∨ src = 8 ∨ dst = 8) || !c.portProvided split src || !c.portProvided split dst)
  ++ bad e (decide (src ≥ 9 ∧ dst ≥ 9))
  ++ bad e (g EV.CLASS == 0 && g EV.LOOKUPS != 0)
  ++ bad e (core != 0 && decide (core < 8 ∨ core > 63 ∨ g EV.WEIGHT < 1 ∨ g EV.WEIGHT > 16))
  ++ bad e (([src, dst] : List Nat).any (fun p => decide (9 ≤ p ∧ p ≤ 10 ∧ g EV.MAX_FRAME > c.get (F.LOOM_HOST_CEIL_HOST_MTU (p - 9)))))
  ++ bad e (g EV.CUT == 1 && (c.pairOf src).isSome)
  ++ bad e (decide (dst ≤ 7) && (c.egressPorts dst).any (fun p => c.pauseHolds p (c.envTcs e)))

/-! ## Time gates (R249 to R251) -/

/-- One entry of a port's gate list: GATES and INTERVAL. -/
def CfgSet.gateEntry (c : CfgSet) (n k : Nat) : Nat × Nat :=
  ((wordAt shReset c.words (0x910000 + 0x2000 * n + 8 * k)).toNat % 256, (wordAt shReset c.words (0x910004 + 0x2000 * n + 8 * k)).toNat)

/-- A port's gate list. -/
def CfgSet.gateList (c : CfgSet) (n : Nat) : List (Nat × Nat) := (List.range (c.get (F.REED_GATE_CFG_LENGTH n) + 1)).map (c.gateEntry n)

/-- One port's gate list. -/
def CfgSet.badGate (c : CfgSet) (n : Nat) : Bad :=
  if c.get (F.REED_GATE_CFG_ENABLE n) = 0 then [] else
  let l := c.gateList n
  let cyc := c.get (F.REED_GATE_CYCLE_CYCLE_NS n)
  bad none (decide (cyc < 1000 ∨ cyc > 1000000000) || l.any (fun x => decide (x.2 < 32 ∨ x.2 > 1000000000))
    || l.foldl (fun a x => a + x.2) 0 != cyc)
  ++ (c.envs.filter (fun e => (c.egressPorts (c.get (EV.DST e))).contains n)).flatMap (fun (e : Nat) =>
      bad e ((c.envTcs e).any (fun t => l.any (fun x => !x.1.testBit t))))

/-! ## Rings (R73, R318) -/

/-- The fields of a ring that may not change while it is valid. -/
def ringFixed : List Bits := [⟨0, 2⟩, ⟨32, 12⟩, ⟨48, 13⟩, ⟨64, 64⟩, ⟨5, 5⟩, ⟨4, 1⟩, ⟨192, 14⟩, ⟨10, 1⟩, ⟨11, 1⟩]

/-- One valid ring; `old` is its context in the active set, `link` and `pages` the host link and doorbell pages of its instance. -/
def CfgSet.badRing (c : CfgSet) (old : Rec) (link pages r : Nat) (x : Rec) : Bad :=
  let g := fun b => recGet x b
  let kind := g ⟨0, 2⟩
  let push := kind == 0 && g ⟨4, 1⟩ == 1
  let cpl := c.record Tab.ring (g ⟨192, 14⟩)
  let e := g ⟨208, 14⟩
  bad none (kind == 3 || decide (g ⟨5, 5⟩ < 6 ∨ g ⟨5, 5⟩ > 16) || g ⟨64, 12⟩ != 0 || g ⟨128, 3⟩ != 0 || decide (g ⟨48, 13⟩ ≥ pages))
  ++ bad none (kind != 2 && (decide (g ⟨16, 7⟩ < 4 ∨ g ⟨16, 7⟩ > 64 ∨ g ⟨23, 5⟩ > 16)))
  ++ bad none (kind != 2 && !(recGet cpl ⟨2, 1⟩ == 1 && recGet cpl ⟨0, 2⟩ == 2 && recGet cpl ⟨32, 12⟩ == g ⟨32, 12⟩))
  ++ bad none (push && g ⟨23, 5⟩ == 0)
  ++ bad none (g ⟨15, 1⟩ == 1 && kind != 0)
  ++ (if g ⟨15, 1⟩ = 1 ∧ kind = 0 then
        bad e (c.get (EV.VALID e) == 1 && (c.get (EV.SRC e) != 9 + link || (c.get (EV.FETCH e) == 1) == push))
        ++ bad e (g ⟨12, 1⟩ == 1)
        ++ bad e (c.get (EV.VALID e) == 1 && decide (c.profRecords (g ⟨224, 8⟩) > c.get (EV.RECORDS e)))
      else [])
  ++ bad none (recGet old ⟨2, 1⟩ == 1 && ringFixed.any (fun b => recGet old b != g b))
  ++ bad none ((c.validRecs Tab.ring ⟨2, 1⟩).any (fun p => p.1 != r && recGet p.2 ⟨32, 12⟩ == g ⟨32, 12⟩ && recGet p.2 ⟨48, 13⟩ == g ⟨48, 13⟩))

/-- The sums of R318. -/
def CfgSet.badRingSums (c : CfgSet) : Bad :=
  let l := c.validRecs Tab.ring ⟨2, 1⟩
  let push := (l.filter (fun p => recGet p.2 ⟨0, 2⟩ == 0 && recGet p.2 ⟨4, 1⟩ == 1)).foldl (fun n p => n + recGet p.2 ⟨23, 5⟩) 0
  let pre := (l.filter (fun p => recGet p.2 ⟨0, 2⟩ != 2)).foldl (fun n p => n + recGet p.2 ⟨16, 7⟩) 0
  bad none (decide (push > 4096 ∨ pre > 65536))

/-! ## Ledger, DDR5 and the packet buffer (R114, R130, R132, R351, R360, R362) -/

/-- The enabled streams. -/
def CfgSet.streams (c : CfgSet) : List Nat := (List.range 8).filter (fun s => c.get (F.LEDG_STREAM_CFG_ENABLE s) == 1)

/-- Whether two runs of bytes overlap. -/
def overlaps (a n b m : Nat) : Bool := a < b + m && b < a + n

/-- Streams and profiles; `fw` are the mover channels firmware reserves, and the peer area is given by its base and size. -/
def CfgSet.badLedger (c : CfgSet) (fw : List Nat) (peerBase peerSize : Nat) : Bad :=
  let on := c.streams
  let base := fun s => c.get (F.LEDG_STREAM_RING_BASE_BASE s)
  let size := fun s => 2 ^ c.get (F.LEDG_STREAM_CFG_RING_LOG2 s)
  (List.range 256).flatMap (fun p =>
    bad none (c.profileBits p 3 1 == 1 && c.profileBits p (if c.profileBits p 4 1 = 1 then 2 else 1) 1 == 0)
    ++ bad none (c.profile p 0 1 == 1 && !on.contains (c.profile p 5 3)))
  ++ bad none (!on.isEmpty && !on.contains (c.get F.LEDG_CTRL_MISS_STREAM))
  ++ on.flatMap (fun s =>
      let ch := c.get (F.LEDG_STREAM_CFG_CH s)
      let lg := c.get (F.LEDG_STREAM_CFG_RING_LOG2 s)
      let hl := c.get (F.LEDG_STREAM_CFG_HOST_LOG2 s)
      bad none (fw.contains ch || on.any (fun t => t != s && c.get (F.LEDG_STREAM_CFG_CH t) == ch))
      ++ bad none (decide (lg < 24 ∨ lg > 32 ∨ hl < 12 ∨ hl > 32) || base s % size s != 0
          || c.get (F.LEDG_STREAM_HOST_BASE_BASE s) % 2 ^ hl != 0)
      ++ bad none (overlaps (base s) (size s) 0 (2 ^ 30) || (peerSize != 0 && overlaps (base s) (size s) peerBase peerSize)
          || on.any (fun t => t != s && overlaps (base s) (size s) (base t) (size t))))

/-- Ranges of the other staged fields (R44): the PTP modes, the seal interval and limit, the mirrors, the learning limits and the traffic class
shapers. -/
def CfgSet.badRanges (c : CfgSet) : Bad :=
  bad none ((List.range 9).any (fun n => c.get (F.TIME_PORT_PTP_TC n) == 3))
  ++ bad none (decide (c.get F.LEDG_SEAL_CFG_SEAL_US < 100 ∨ c.get F.LEDG_SEAL_CFG_SEAL_US > 1000000
    ∨ c.get F.LEDG_SEAL_LIMIT_LIMIT < 65536 ∨ c.get F.LEDG_SEAL_LIMIT_LIMIT > 1048576))
  ++ bad none (c.streams.any (fun s => c.get (F.LEDG_STREAM_MIRROR_ADDR s) % 8 != 0))
  ++ bad none ((List.range 11).any (fun p => decide (c.get (F.FWD_PORT_LEARN_LIMIT p) > 1048576)))
  ++ bad none ((List.range 11).any (fun p => (List.range 8).any (fun t =>
      decide (c.get (F.REED_TC_RATE p t) > 800000 ∨ c.get (F.REED_TC_BURST p t) = 0))))

/-- The packet buffer's cells (R362), and the ranges of the shares, ceilings and A/B groups. -/
def CfgSet.badShares (c : CfgSet) (split : Bool) : Bad :=
  let banks := c.get F.DRAM_PBUF_CFG_BANKS
  let books : List Nat := [0, 1, 2, 3, 4, 5, 6, 7, 12, 14, 16, 17, 18, 19, 20, 21, 22, 23]
  let bytes := books.foldl (fun n k => n + 256 * c.get (F.LOOM_BOOK_ALLOT_ALLOT k)) 0
  bad none (decide (banks < 2 ∨ banks > 14 ∨ 2 * bytes > banks * 6 * 2 ^ 20))
  ++ (List.range 82).flatMap (fun k => bad none (decide (c.get (F.LOOM_BOOK_SHARE_SHARE k) > 240)))
  ++ (List.range (if split then 2 else 1)).flatMap (fun n =>
      bad none (decide (c.get (F.LOOM_HOST_CEIL_CEIL_NS n) < 100 ∨ c.get (F.LOOM_HOST_CEIL_CEIL_NS n) > 10000
        ∨ c.get (F.LOOM_HOST_CEIL_HOST_MTU n) < 64 ∨ c.get (F.LOOM_HOST_CEIL_HOST_MTU n) > 9216)))
  ++ (c.words.filter (fun (p : Nat × Word) => 0x2F1000 ≤ p.1 && p.1 < 0x2F3000 && p.1 % 8 == 0 && bitsOf p.2.toNat 16 1 == 1)).flatMap (fun p =>
      let t := bitsOf (wordAt shReset c.words (p.1 + 4)).toNat 0 17
      bad none (decide (bitsOf p.2.toNat 0 11 > 1472 ∨ t < 1 ∨ t > 100000)))

/-! ## Reed's records (R258) -/

/-- Whether DEFAULT_QUEUE of an egress point is valid with a group on that point. For the host links it is a receive ring. -/
def CfgSet.defaultQueueOk (c : CfgSet) (p : Nat) : Bool :=
  let q := c.record Tab.queue (c.get (F.REED_PORT_CFG_DEFAULT_QUEUE p) + (if p ≥ 9 then 16384 else 0))
  let g := c.record Tab.group (recGet q ⟨0, 13⟩)
  recGet q QR_VALID == 1 && recGet g GR_VALID == 1 && recGet g ⟨0, 4⟩ == p

/-- The ports whose default queue is used: enabled ports, and the host links the mode provides. -/
def CfgSet.points (c : CfgSet) (split : Bool) : List Nat :=
  (List.range 9).filter (fun p => c.get (F.PORT_CFG_ENABLE p) == 1) ++ [9] ++ (if split then [10] else [])

/-- Queues and groups; `old` is the active set and `cap` the capacity of a book. -/
def CfgSet.badReed (c old : CfgSet) (split : Bool) (cap : Nat → Nat) : Bad :=
  let qs := c.validRecs Tab.queue QR_VALID
  let gs := c.validRecs Tab.group GR_VALID
  let portOf := fun (q : Rec) => recGet (c.record Tab.group (recGet q ⟨0, 13⟩)) ⟨0, 4⟩
  qs.flatMap (fun (k, q) =>
    let g := c.record Tab.group (recGet q ⟨0, 13⟩)
    let mn := recGet q ⟨32, 20⟩
    let mx := recGet q ⟨64, 20⟩
    bad none (recGet g GR_VALID == 0)
    ++ bad none (recGet q ⟨16, 8⟩ == 0 || decide (mx ≠ 0 ∧ mn > mx) || decide (mn > 800000 ∨ mx > 800000))
    ++ bad none (decide ((mn ≠ 0 ∧ recGet q ⟨52, 12⟩ = 0) ∨ (mx ≠ 0 ∧ recGet q ⟨84, 12⟩ = 0) ∨ recGet q ⟨96, 24⟩ < 2048))
    ++ bad none (decide (k ≥ 16384) != (portOf q == 9 || portOf q == 10))
    ++ bad none (recGet (old.record Tab.queue k) QR_VALID == 1 && recGet (old.record Tab.queue k) ⟨0, 13⟩ != recGet q ⟨0, 13⟩))
  ++ gs.flatMap (fun (k, g) =>
    let o := old.record Tab.group k
    bad none (recGet g ⟨8, 8⟩ == 0 || decide (recGet g ⟨0, 4⟩ > 10) || (recGet g ⟨32, 20⟩ != 0 && recGet g ⟨52, 12⟩ == 0))
    ++ bad none (recGet o GR_VALID == 1 && (([⟨0, 4⟩, ⟨4, 3⟩, ⟨16, 12⟩] : List Bits).any (fun b => recGet o b != recGet g b))))
  ++ (c.points split).flatMap (fun p => bad none (!c.defaultQueueOk p))
  ++ (List.range 11).flatMap (fun p =>
      let sum := (qs.filter (fun q => portOf q.2 == p)).foldl (fun n q => n + recGet q.2 ⟨32, 20⟩) 0
      let k := if p ≤ 7 then p else 12 + 2 * (p - 9)
      bad none (if p = 8 then decide (sum > 1000) else decide (sum * 256 > (256 - c.get (F.LOOM_BOOK_SHARE_SHARE k)) * cap k)))

/-! ## Cores (R281, R286) -/

/-- The 16 slots of a core's table (R261). -/
def CfgSet.slots (c : CfgSet) (n : Nat) : List Nat :=
  (List.range 16).map (fun s => if s < 8 then bitsOf (c.get (F.BARB_CORE_SLOT_LO_SLOTS n)) (4 * s) 4 else bitsOf (c.get (F.BARB_CORE_SLOT_HI_SLOTS n)) (4 * (s - 8)) 4)

/-- The GUAR slots of a core are evenly spaced: their number is 1, 2, 4, 8 or 16, and each follows the last by 16 over that number. -/
def evenSlots (l : List Nat) : Bool :=
  let k := l.count 8
  ([1, 2, 4, 8, 16] : List Nat).contains k
    && (List.range 16).all (fun s => l.getD s 0 != 8 || l.getD ((s + 16 / (max k 1)) % 16) 0 == 8)

/-- Cores, their slots, pools and programs; `old` is the active set. -/
def CfgSet.badCores (c old : CfgSet) : Bad :=
  let named := fun n => c.envs.filter (fun e => c.get (EV.CORE e) == n)
  (List.range 64).flatMap (fun n =>
    let l := c.slots n
    let pool := c.get (F.BARB_CORE_POOL_DISPATCH n)
    let guar := c.get (F.BARB_CORE_POOL_GUAR n)
    bad none (l.any (fun v => decide (9 ≤ v ∧ v ≤ 14)))
    ++ bad none ((guar &&& pool) != guar || pool.testBit 0)
    ++ bad none (decide (n < 8) && (old.slots n != l || old.get (F.BARB_CORE_POOL_DISPATCH n) != pool || old.get (F.BARB_CORE_POOL_GUAR n) != guar))
    ++ (match named n with
      | [] => []
      | e :: t => if n = 0 then [] else
          bad (some e) (guar == 0 || !evenSlots l || decide ((e :: t).foldl (fun w x => w + c.get (EV.WEIGHT x)) 0 > l.count 8))))
  ++ (c.validRecs Tab.program ⟨22, 1⟩).flatMap (fun p =>
      bad none (decide (recGet p.2 ⟨32, 16⟩ < 1 ∨ recGet p.2 ⟨32, 16⟩ < recGet p.2 ⟨48, 16⟩) || decide (recGet p.2 ⟨16, 6⟩ < 8)))

/-! ## A DEGRADED module (R421) -/

/-- Growth of the admitted set: an envelope the active set does not hold as admitted, or one that grew. -/
def CfgSet.badGrowth (c old : CfgSet) : Bad :=
  c.envs.flatMap (fun (e : Nat) =>
    bad e (old.get (EV.VALID e) == 0 || old.get (EV.STATE e) != 1)
    ++ bad e (([EV.RATE, EV.BURST, EV.MAX_FRAME, EV.PASSES, EV.RECORDS, EV.LOOKUPS, EV.WEIGHT] : List (Nat → Fld)).any
        (fun f => decide (c.get (f e) > old.get (f e)))))

end Sys2Proof.Machine
end

