-- ==== Sys2Proof/Machine/Admit.lean ====
section
/-! DEFINITION. Admission (R36 to R50): capacity books, the admission arithmetic in exact fractions of a nanosecond, and the checks of
R49. -/
namespace Sys2Proof.Machine
open Sys2Proof

/-! ## Exact fractions -/

/-- A non-negative fraction; a denominator of 0 stands for a value past every bound. -/
structure Frac where
  n : Nat
  d : Nat := 1
  deriving DecidableEq, Repr

/-- The sum of two fractions. -/
def Frac.add (a b : Frac) : Frac := if a.d = b.d then ⟨a.n + b.n, a.d⟩ else ⟨a.n * b.d + b.n * a.d, a.d * b.d⟩
/-- Whether one fraction is at most another. -/
def Frac.le (a b : Frac) : Bool := a.n * b.d ≤ b.n * a.d
/-- Whether one fraction is below another. -/
def Frac.lt (a b : Frac) : Bool := !b.le a
/-- The larger of two fractions. -/
def Frac.max (a b : Frac) : Frac := if a.le b then b else a
/-- A fraction rounded up to a whole number. -/
def Frac.ceil (a : Frac) : Nat := ceilDiv a.n a.d
/-- A sum of fractions. -/
def Frac.sum (l : List Frac) : Frac := l.foldl Frac.add ⟨0, 1⟩

/-! ## Envelopes as admission sees them -/

/-- An envelope with its burst in frames (R48) and the ports and egress pipelines it is charged to (R48, R77). -/
structure EnvInfo where
  i : Nat
  r : Nat
  b : Nat
  mm : Nat
  n : Nat
  passes : Nat
  src : Nat
  dst : Nat
  gt : Bool
  cipher : Option Nat
  lookups : Nat
  core : Nat
  weight : Nat
  budget : Nat
  records : Nat
  hash : Bool
  fetch : Bool
  ports : List Nat
  epipes : List Nat
  rank : Nat
  deriving DecidableEq, Repr

/-- Whether a flow or ring of an envelope names a witness profile with HASH = 1 (Table 3). -/
def CfgSet.envHash (c : CfgSet) (e : Nat) : Bool :=
  c.sources.any (fun s => (guarOf s.words).any (fun g => g.1 == e) && c.profile (listWitness s.words) 3 1 == 1)
    || c.envRings.any (fun r => r.1 == e && c.profile (recGet r.2.2 ⟨224, 8⟩) 3 1 == 1)

/-- The egress pipelines of an envelope: its ingress pipeline's own for a wire-to-wire path, those of the rings that name it from a
host (R16, R48). -/
def CfgSet.epipes (c : CfgSet) (e src dst : Nat) : List Nat :=
  if dst > 7 then [] else if src ≤ 7 then [src / 4] else
  ([0, 1] : List Nat).filter (fun p => c.envRings.any (fun r =>
    r.1 == e && (if recGet r.2.2 ⟨13, 1⟩ = 1 then recGet r.2.2 ⟨14, 1⟩ else r.2.1 % 2) == p))

/-- One envelope of a set. -/
def CfgSet.envInfo (c : CfgSet) (e : Nat) : EnvInfo :=
  let g := fun (f : Nat → Fld) => c.get (f e)
  let src := g EV.SRC
  let dst := g EV.DST
  { i := e, r := g EV.RATE, b := g EV.BURST, mm := g EV.MIN_FRAME, n := ceilDiv (g EV.BURST) (g EV.MIN_FRAME), passes := g EV.PASSES,
    src := src, dst := dst, gt := g EV.CLASS == 0, cipher := if g EV.CIPHER = 1 then some (g EV.GROUP) else none,
    lookups := if g EV.CLASS = 1 then g EV.LOOKUPS else 0, core := g EV.CORE, weight := g EV.WEIGHT, budget := g EV.BUDGET,
    records := g EV.RECORDS, hash := c.envHash e, fetch := decide (src ≥ 9) && g EV.FETCH == 1,
    ports := if dst ≤ 7 then c.egressPorts dst else [], epipes := c.epipes e src dst, rank := g EV.RANK }

/-- The books on an envelope's path (Table 3). -/
def EnvInfo.books (x : EnvInfo) : List Nat :=
  x.ports ++ (if x.src ≤ 7 then [8 + x.src / 4] else []) ++ x.epipes.map (10 + ·)
    ++ (if x.dst ≥ 9 then [12 + 2 * (x.dst - 9)] else []) ++ (if x.src ≥ 9 then [13 + 2 * (x.src - 9)] else [])
    ++ (match x.cipher with
      | some g => [16 + g]
      | none => [])
    ++ (if x.lookups > 0 then [24] else []) ++ (if x.core ≥ 8 then [17 + x.core] else [])
    ++ (if x.records > 0 || x.hash then [81] else [])

/-- The largest frame rate in M frames/s times a factor. -/
def EnvInfo.rateTimes (x : EnvInfo) (k : Nat) : Frac := ⟨x.r * k, 8 * x.mm⟩

/-- The demand of an envelope at a book, in the book's unit (Table 3). -/
def EnvInfo.demand (x : EnvInfo) (k : Nat) : Frac :=
  if k < 8 ∨ (12 ≤ k ∧ k < 24) then ⟨x.r, 1⟩
  else if k < 12 then x.rateTimes x.passes
  else if k = 24 then x.rateTimes x.lookups
  else if k < 81 then x.rateTimes (6 + x.budget)
  else x.rateTimes x.records

/-- The per-frame overhead o of a book. -/
def bookOver (k : Nat) : Nat := if k < 8 then 20 else if k = 12 ∨ k = 14 then 64 else 0

/-- What an envelope adds to the burst sum of a book (R45). -/
def EnvInfo.burst (x : EnvInfo) (k : Nat) : Nat :=
  if k < 8 ∨ (12 ≤ k ∧ k < 24) then x.b + bookOver k * x.n
  else if k < 12 then x.n * x.passes
  else if k = 24 then x.n * x.lookups
  else x.n * (6 + x.budget)

/-- The allotment of a book in the unit of its burst sum; none for a rate-only book. -/
def CfgSet.allot (c : CfgSet) (k : Nat) : Option Nat :=
  if k = 13 ∨ k = 15 ∨ k = 81 then none
  else if k < 8 ∨ k = 12 ∨ k = 14 ∨ (16 ≤ k ∧ k < 24) then some (256 * c.get (F.LOOM_BOOK_ALLOT_ALLOT k))
  else some (c.get (F.LOOM_BOOK_ALLOT_ALLOT k))

/-- The rejection code of a book (Table 8). -/
def bookReason (k : Nat) : Nat :=
  if k < 8 then 1 else if k < 12 then 2 else if k < 16 then 3 else if k < 24 then 4 else if k = 24 then 5 else if k < 81 then 6 else 7

/-! ## Capacities (R45, R46) -/

/-- Cipher lanes of a group in a set that are not OUT (R189). -/
def Dev.lanesIn (d : Dev) (c : CfgSet) (g : Nat) : Nat :=
  ((List.range 16).filter (fun n => c.get (F.CIPH_LANE_CFG_GROUP n) == g && d.get (F.CIPH_LANE_CFG_OUT n) == 0)).length

/-- W of a core over some envelopes (Table 3). -/
def coreWeight (l : List EnvInfo) (core : Nat) : Nat := (l.filter (fun x => x.core == core)).foldl (fun n x => n + x.weight) 0

/-- The capacity of a book for a set: a port whose mode the set changes has its new rate (R65), a cipher group its lanes, and a core its
weight; every other book what the module last wrote. -/
def Dev.bookCap (d : Dev) (c : CfgSet) (l : List EnvInfo) (k : Nat) : Nat :=
  if k < 8 then
    (if c.get (F.PORT_CFG_MODE k) ≠ d.sh (F.PORT_CFG_MODE k) then (if c.portActive k then c.portRate k else 0) else d.get (F.LOOM_BOOK_CAP_CAP k))
  else if 16 ≤ k ∧ k < 24 then 100000 * d.lanesIn c (k - 16)
  else if 25 ≤ k ∧ k < 81 then (if d.flt.outUnits.contains (2, k - 17) then 0 else 100 * coreWeight l (k - 17))
  else d.get (F.LOOM_BOOK_CAP_CAP k)

/-! ## Delay (R47, R48) -/

/-- PCS latencies of a mode, receive and transmit, in ns (Table 6). -/
def pcsNs : Nat → Nat × Nat
  | 6 => (20, 14)
  | 5 => (22, 16)
  | 4 => (26, 18)
  | 3 => (32, 24)
  | 2 => (46, 36)
  | 1 => (72, 60)
  | _ => (0, 0)

/-- The crossing of a port in hundredths of a ns (ch. 1, Table 7). -/
def pcsCross (mode : Nat) : Nat := if mode = 2 then 945 else if mode = 1 then 2062 else if mode = 7 then 2600 else 968

/-- Whether a port uses RS(544,514). -/
def CfgSet.rs (c : CfgSet) (p : Nat) : Bool := decide (p ≤ 7) && c.get (F.PORT_CFG_FEC p) == 2

/-- F and X of an envelope but for its egress port's PCS, with R and P (Table 5, R47). -/
def CfgSet.fixed (c : CfgSet) (x : EnvInfo) : Frac :=
  let mode := c.get (F.PORT_CFG_MODE x.src)
  let h := c.get (F.LOOM_HOST_CEIL_CEIL_NS (x.src - 9))
  let rx := if x.src ≤ 7 then
      100 * ((pcsNs mode).1 + (if c.rs x.src then 110 else 0) + 50) + pcsCross mode
    else 100 * (40 + 5 + 50)
  let tx := if x.dst ≤ 7 then (if x.src ≤ 7 then 100 * 40 else 0) else 100 * (60 + 5)
  let cent := rx + tx + 100 * (10 + 20) + 9900 * x.lookups + (if x.fetch then 100 * 2 * (20 + h) else 0)
    + (if x.cipher.isSome then 900 else 0) + (if x.core ≥ 8 then 900 else 0)
  let parse : Frac := if x.src ≤ 7 ∧ x.dst ≤ 7 then ⟨1024 * 1000, modeRate mode⟩ else ⟨0, 1⟩
  let lane : Frac := if x.cipher.isSome then ⟨61 * 5, 6⟩ else ⟨0, 1⟩
  let prog : Frac := if x.core ≥ 8 then ⟨(6 + x.budget) * 10, x.weight⟩ else ⟨0, 1⟩
  Frac.sum [⟨cent, 100⟩, parse, lane, prog]

/-- The PCS transmit term and crossing of an egress port. -/
def CfgSet.tailOf (c : CfgSet) (p : Nat) : Frac :=
  let mode := c.get (F.PORT_CFG_MODE p)
  ⟨100 * ((pcsNs mode).2 + (if c.rs p then 40 else 0)) + pcsCross mode, 100⟩

/-- The class bound of Table 1 in ns, without a frame's own wire time. -/
def CfgSet.bound (c : CfgSet) (x : EnvInfo) : Nat :=
  let rx := if c.rs x.src then 110 else 0
  let tx := if c.rs x.dst then 40 else 0
  let h2 := if x.fetch then 2 * c.get (F.LOOM_HOST_CEIL_CEIL_NS (x.src - 9)) else 0
  if x.src ≤ 7 ∧ x.dst ≤ 7 then (if x.gt then 300 + (if x.cipher.isSome then 60 else 0) else 2000) + rx + tx
  else if x.src ≤ 7 then (if x.gt then 480 + rx + (if x.cipher.isSome then 60 else 0) else 2000)
  else if x.gt then (if x.fetch then 260 + h2 else 420) + tx + (if x.cipher.isSome then 60 else 0)
  else 2000 + h2

/-- L_k of a book (R48, R77, R456). -/
def CfgSet.largest (c : CfgSet) (split : Bool) (k : Nat) : Nat :=
  if k < 8 then c.get (F.PORT_CFG_MTU k) + (if (c.pairOf k).isSome then 6 else 0)
  else if k = 12 ∨ k = 14 then c.get (F.LOOM_HOST_CEIL_HOST_MTU ((k - 12) / 2))
  else ((List.range 9).filter (fun p => c.get (F.PORT_CFG_ENABLE p) == 1)).foldl (fun m p => max m (c.get (F.PORT_CFG_MTU p)))
    (max (c.get (F.LOOM_HOST_CEIL_HOST_MTU 0)) (if split then c.get (F.LOOM_HOST_CEIL_HOST_MTU 1) else 0))

/-- Q_k in ns over the envelopes at a book; none for a rate-only book (R48). -/
def Dev.queueTerm (d : Dev) (c : CfgSet) (l : List EnvInfo) (k : Nat) : Option Frac :=
  let xs := l.filter (fun x => x.books.contains k)
  let sum := xs.foldl (fun n x => n + x.burst k) 0
  if k = 13 ∨ k = 15 ∨ k = 81 then none
  else if k < 8 ∨ (12 ≤ k ∧ k < 24) then some ⟨8000 * (sum + c.largest d.hif.split k + bookOver k), d.bookCap c l k⟩
  else if k < 12 then
    let a := if k < 10 then xs.foldl (fun n x => n + x.n * (x.passes - 1)) 0 else 0
    some ⟨(sum + 1 + a) * 5, 6⟩
  else if k = 24 then some ⟨(sum + 1) * 10, 3⟩
  else some ⟨sum * 10, coreWeight l (k - 17)⟩

/-- D of an envelope (R47): once with each port and each egress pipeline it is charged to, the largest value (R48, R77). -/
def Dev.delay (d : Dev) (c : CfgSet) (l : List EnvInfo) (x : EnvInfo) : Frac :=
  let q := fun k => (d.queueTerm c l k).getD ⟨0, 1⟩
  let rest := x.books.filter (fun k => decide (8 ≤ k ∧ k ≠ 10 ∧ k ≠ 11))
  let port := (x.ports.map (fun p => (c.tailOf p).add (q p))).foldl Frac.max ⟨0, 1⟩
  let pipe := (x.epipes.map (fun p => q (10 + p))).foldl Frac.max ⟨0, 1⟩
  Frac.sum ([c.fixed x, port, pipe] ++ rest.map q)

/-! ## The checks of R49 -/

/-- What the checks answer: a rejection with reason, book, envelope and excess, `delay` for a failed delay; or the bound and delay of
every envelope. -/
inductive Verdict where
  | reject (reason book : Nat) (env : Option Nat) (excess : Nat) (delay : Bool)
  | pass (l : List (Nat × Nat × Nat))
  deriving DecidableEq, Repr

/-- Whether the demand at a book is above its guaranteed share; book 81 has two demands (R45). -/
def Dev.overRate (d : Dev) (c : CfgSet) (l : List EnvInfo) (k : Nat) : Bool :=
  let share := c.get (F.LOOM_BOOK_SHARE_SHARE k)
  let xs := l.filter (fun x => x.books.contains k)
  Frac.lt ⟨share * d.bookCap c l k, 256⟩ (Frac.sum (xs.map (fun x => x.demand k)))
    || (k == 81 && decide (share * 400000 < 256 * (xs.filter (·.hash)).foldl (fun n x => n + x.r) 0))

/-- Whether the burst sum at a book is above its allotment (R45). -/
def CfgSet.overBurst (c : CfgSet) (l : List EnvInfo) (k : Nat) : Bool :=
  match c.allot k with
  | none => false
  | some a =>
    let sum := (l.filter (fun x => x.books.contains k)).foldl (fun n x => n + x.burst k) 0
    decide ((if k < 8 ∨ (12 ≤ k ∧ k < 24) then ceilDiv sum 256 * 256 else sum) > a)

/-- The first book, in index order, that fails its rate or burst check. -/
def Dev.badBook (d : Dev) (c : CfgSet) (l : List EnvInfo) : Option Nat :=
  (List.range 82).find? (fun k => l.any (fun x => x.books.contains k) && (d.overRate c l k || c.overBurst l k))

/-- The book on a path with the largest queueing term, the lowest index on a tie. -/
def Dev.worstBook (d : Dev) (c : CfgSet) (l : List EnvInfo) (x : EnvInfo) : Nat :=
  let ks := (List.range 82).filter (fun k => x.books.contains k && (d.queueTerm c l k).isSome)
  ks.foldl (fun (b : Nat) k => if Frac.lt ((d.queueTerm c l b).getD ⟨0, 1⟩) ((d.queueTerm c l k).getD ⟨0, 1⟩) then k else b) (ks.headD 127)

/-- The delay checks, envelope by envelope. -/
def Dev.delays (d : Dev) (c : CfgSet) (l : List EnvInfo) : List EnvInfo → Verdict
  | [] => .pass []
  | x :: t =>
    let v := d.delay c l x
    let b := c.bound x
    if Frac.lt ⟨b, 1⟩ v then
      let k := d.worstBook c l x
      .reject (bookReason k) k (some x.i) (min 65535 ((Frac.mk (v.n - b * v.d) v.d).ceil)) true
    else match d.delays c l t with
      | .pass r => .pass ((x.i, b, v.ceil) :: r)
      | r => r

/-- The book and delay checks of R49 over some envelopes of a set, in index order. -/
def Dev.admitSet (d : Dev) (c : CfgSet) (envs : List Nat) : Verdict :=
  let l := envs.map c.envInfo
  match d.badBook c l with
  | some k => .reject (bookReason k) k ((l.find? (fun x => x.books.contains k)).map (·.i)) 0 false
  | none => d.delays c l l

/-- Doorbell pages of an instance's BAR2 (R318). -/
def Dev.pagesOf (d : Dev) (inst : Nat) : Nat := (2 ^ (d.hif.bar2Log2.getD (d.pfOf inst) 17) - 65536) / 4096

/-- Every FORMAT rule over a set; `start` says that the image installs it (R421). -/
def Dev.formatBad (d : Dev) (c : CfgSet) (start : Bool) : Bad :=
  let old := d.cfg.active
  c.badLists ++ (List.range 9).flatMap c.badPort ++ c.badGroups ++ (List.range 9).flatMap c.badPair
  ++ c.envs.flatMap (c.badEnv d.hif.split) ++ (List.range 8).flatMap c.badGate
  ++ (c.validRecs Tab.ring ⟨2, 1⟩).flatMap (fun p =>
      c.badRing (old.record Tab.ring p.1) (d.linkOf (recGet p.2 ⟨32, 12⟩)) (d.pagesOf (recGet p.2 ⟨32, 12⟩)) p.1 p.2)
  ++ c.badRingSums ++ c.badLedger d.boot.fwChannels d.hif.peerAreaBase d.hif.peerAreaSize ++ c.badRanges ++ c.badShares d.hif.split
  ++ c.badReed old d.hif.split (d.bookCap c (c.envs.map c.envInfo)) ++ c.badCores old
  ++ (if d.flag F.FLT_HEALTH_DEGRADED && !start then c.badGrowth old else [])

/-- The lowest of some envelopes. -/
def lowestOf : Bad → Option Nat
  | [] => none
  | none :: t => lowestOf t
  | some e :: t => match lowestOf t with
    | none => some e
    | some f => some (min e f)

/-- R49 over a whole set. -/
def Dev.check (d : Dev) (c : CfgSet) (start : Bool) : Verdict :=
  match d.formatBad c start with
  | [] => d.admitSet c c.envs
  | l => .reject 9 127 (lowestOf l) 0 false

/-! ## Misses of cause SHED (R58) -/

/-- Whether a capacity loss on a shuttle's path is being handled: its envelope was demoted while it was in flight, or a book on its path
waits for the re-admission of R61. -/
def Dev.pathShedding (d : Dev) (s : Shut) : Bool :=
  s.shed || (match s.envelope with
    | some e => ((d.cfgOf s).envInfo e).books.any (fun k => d.loom.readmit.contains k)
    | none => false)

end Sys2Proof.Machine
end

