-- ==== Sys2Proof/Machine/Lanes.lean ====
section
/-! DEFINITION. What a shuttle meets when it arrives at the cipher unit (R189 to R200): the fields of an SA, the guard of guaranteed
frames, lane groups, and SAs that are not cached. -/
namespace Sys2Proof.Machine
open Sys2Proof

/-! Fields of an SA record (Table 5). -/
namespace SAR
def TYPE : Bits := ⟨0, 3⟩
def DIR : Bits := ⟨3, 1⟩
def ALG : Bits := ⟨4, 3⟩
def PIN : Bits := ⟨7, 1⟩
def EXT : Bits := ⟨8, 1⟩
def SCRUB : Bits := ⟨9, 1⟩
def NATT : Bits := ⟨10, 1⟩
def REPLAY_EN : Bits := ⟨11, 1⟩
def CONF_OFFSET : Bits := ⟨12, 2⟩
def SCI_EN : Bits := ⟨14, 1⟩
def AN : Bits := ⟨15, 2⟩
def GROUP : Bits := ⟨17, 3⟩
def STATE : Bits := ⟨20, 2⟩
def EXHAUSTED : Bits := ⟨22, 1⟩
def SYNC : Bits := ⟨23, 1⟩
def SPI_SSCI : Bits := ⟨32, 32⟩
def SCI_TMPL : Bits := ⟨64, 64⟩
def SALT : Bits := ⟨128, 96⟩
def WINDOW : Bits := ⟨224, 11⟩
def GUARD : Bits := ⟨240, 15⟩
def COUNTER : Bits := ⟨256, 64⟩
def LIMIT : Bits := ⟨320, 64⟩
def SOFT : Bits := ⟨384, 64⟩
def TCP_SEQ : Bits := ⟨448, 32⟩
def REFS : Bits := ⟨480, 17⟩
def RECORD_OFFSET : Bits := ⟨512, 16⟩
end SAR

/-! SA types and states. -/
namespace SaT
def macsec : Nat := 0
def espTransport : Nat := 1
def espTunnel : Nat := 2
def tls : Nat := 3
def xts : Nat := 4
end SaT
namespace SaS
def free : Nat := 0
def active : Nat := 1
def retired : Nat := 2
end SaS

/-- One field of an SA. -/
def Sa.f (a : Sa) (b : Bits) : Nat := recGet a.record b
/-- An SA stored. -/
def Dev.putSa (d : Dev) (k : Nat) (a : Sa) : Dev := d.modCiph (fun c => { c with sas := mapPut c.sas k a })
/-- The SA a shuttle names. -/
def Dev.saOf (d : Dev) (s : Shut) : Option Sa := mapGet d.ciph.sas (s.get S.SA)

/-- The logical lanes of a group that are not OUT (R189, R191). -/
def Dev.lanesOf (d : Dev) (g : Nat) : List Nat :=
  (List.range 16).filter (fun n => d.sh (F.CIPH_LANE_CFG_GROUP n) == g && d.get (F.CIPH_LANE_CFG_OUT n) == 0)

/-- The lane group that serves a shuttle: its envelope's for a guaranteed one, its SA's otherwise (R191). -/
def Dev.groupOf (d : Dev) (s : Shut) (a : Sa) : Nat :=
  match s.envelope with
  | some e => if s.guaranteed then (d.cfgOf s).get (EV.GROUP e) else a.f SAR.GROUP
  | none => a.f SAR.GROUP

/-- A guaranteed frame keeps its class at its first visit only, under a pinned SA whose GUARD names its envelope (R199). -/
def Sa.guards (a : Sa) (s : Shut) : Bool :=
  s.visits == 0 && a.f SAR.PIN == 1 && (match s.envelope with
    | some e => a.f SAR.GUARD == e + 1
    | none => false)

/-- Whether an AS or BE frame may use an SA: GUARD is 0, or the envelope it names is demoted and is the one the frame was mapped to
(R199). -/
def Dev.mayUse (d : Dev) (s : Shut) (a : Sa) : Bool :=
  let g := a.f SAR.GUARD
  g == 0 || (s.envelope == some (g - 1) && d.sh (EV.STATE (g - 1)) == 2)

/-- A frame that no SA may serve: discarded and counted in SA_MISMATCH (R199, R206, R208). -/
def Dev.saMismatch (d : Dev) (i : Nat) : Dev := (d.count K.CIPH_SA_MISMATCH).discard i 6

/-- A shuttle arrives at the cipher unit: the guard is judged, a group without a lane drops AS and BE frames, and an SA that is not cached
is fetched (R191, R198, R199). A word that names a FREE SA finds no match (DEDUCED, assumption log 24). -/
def Dev.laneArrive (d : Dev) (i : Nat) : Dev :=
  match d.shut i with
  | none => d
  | some s => match d.saOf s with
    | none => d.saMismatch i
    | some a =>
      let lost := s.guaranteed && !a.guards s
      let d := if lost then (d.count K.CIPH_GUAR_SA_VIOLATION).loseClass i Miss.fault else d
      if !s.guaranteed && !d.mayUse s a then d.saMismatch i else
      match d.shut i with
      | none => d
      | some s =>
        if !s.guaranteed && (d.lanesOf (d.groupOf s a)).isEmpty then (d.count K.CIPH_NO_LANE).discard i 6 else
        let k := s.get S.SA
        let d := if a.cached || d.ciph.fetching.contains k then d
          else (d.count K.CIPH_CACHE_MISS).modCiph (fun c => { c with fetching := c.fetching ++ [k] })
        d.arrive i s .lane

/-- Whether the operation waits for ESP tunnel encryption before its encapsulation (R209). -/
def Dev.espTunnelOut (d : Dev) (s : Shut) : Bool :=
  s.get S.CIPHER_OP == 2 && (match d.saOf s with
    | some a => a.f SAR.TYPE == SaT.espTunnel
    | none => false)

end Sys2Proof.Machine
end

