-- ==== Sys2Proof/Machine/Heddle.lean ====
section
/-! DEFINITION. A shuttle's pass (R16, R17, R136 to R155, R171 to R177, R190, R193 to R196, R417): the entry arbiter, the pass itself
up to the stage it must wait for, and its end. -/
namespace Sys2Proof.Machine
open Sys2Proof

/-! ## Arbiters (R17, R21, R54) -/

/-- The rank of a shuttle at an arbiter: 0 guaranteed, 1 AS, 2 BE; `early` counts first-pass network shuttles as guaranteed. -/
def arbRank (early : Bool) (s : Shut) : Nat :=
  if s.guaranteed || (early && s.get S.DIR == 0 && s.get S.PASS == 0) then 0 else if s.get S.CLASS = 2 then 1 else 2
/-- The time an arbiter orders a guaranteed shuttle by, on the present scale (R102). -/
def Dev.arbTime (d : Dev) (early : Bool) (s : Shut) : Int :=
  if early && s.get S.DIR == 0 && s.get S.PASS == 0 then d.onScale (fieldStamp (s.get S.INGRESS_STAMP)) s.epoch
  else d.onScale s.deadline s.dlEpoch
/-- Whether one shuttle is served before another. -/
def Dev.arbBefore (d : Dev) (early : Bool) (a b : Shut) : Bool :=
  if arbRank early a ≠ arbRank early b then arbRank early a < arbRank early b
  else if arbRank early a = 0 ∧ d.arbTime early a ≠ d.arbTime early b then d.arbTime early a < d.arbTime early b
  else a.seq < b.seq
/-- The shuttle an arbiter serves next among some. -/
def Dev.arbFirst (d : Dev) (early : Bool) (l : List (Nat × Shut)) : Option Nat :=
  (l.foldl (fun (best : Option (Nat × Shut)) p => match best with
    | none => some p
    | some q => if d.arbBefore early p.2 q.2 then some p else best) none).map (·.1)

/-- While a gap is open no decision is taken (R379). -/
def Dev.deciding (d : Dev) : Bool := d.flt.gap == 0

/-! ## Order within a flow (R18) -/

/-- Whether a shuttle at a stage has not left for its lands or its ring. -/
def beforeReed : Stage → Bool
  | .toLands | .toHost | .ended => false
  | _ => true

/-- Whether a shuttle entered the module before another at one place: the same port or ring. Copies of a pair entered with their original. -/
def enteredBefore (i : Nat) (a : Shut) (j : Nat) (b : Shut) : Bool :=
  decide (a.prpCopyOf.getD i < b.prpCopyOf.getD j) && a.get S.PORT == b.get S.PORT && a.get S.DIR == b.get S.DIR && a.ring == b.ring
    && a.dropReason.isNone

/-- Whether a shuttle that has not yet reached Reed may be of another's flow and path: its headers are not yet read, or it has the same
FLOW_HASH and, once its list has run, the same class and program. One that has recirculated more often is overtaken (R18; DEDUCED, assumption
log 85). -/
def Shut.sameFlow (a b : Shut) : Bool :=
  decide (a.get S.PASS ≤ b.get S.PASS) &&
  (a.get S.PASS == 0 || (a.stage == .pass && !a.pass1Done)
    || (a.get S.FLOW_HASH == b.get S.FLOW_HASH
      && (a.stage == .ddr5 || (a.get S.CLASS == b.get S.CLASS && a.get S.PROGRAM == b.get S.PROGRAM
        && (a.stage != .reed || a.get S.DEST_PORT == b.get S.DEST_PORT)))))

/-- Whether an earlier shuttle of the same port or ring, in the same pipeline, has still to make the pass that a shuttle is to make. -/
def Dev.passBehind (d : Dev) (j : Nat) (b : Shut) : Bool :=
  d.shuts.any (fun (p : Nat × Shut) => p.2.stage == .pass && p.2.pipe == b.pipe && p.2.get S.PASS == b.get S.PASS && enteredBefore p.1 p.2 j b)

/-- PIPELINE_ENTRY (R16, R17): pipelines 0 and 1 are IPIPE_0 and IPIPE_1, 2 and 3 EPIPE_0 and EPIPE_1. -/
def execPipelineEntry (pipe : Nat) (s : State) : Host.Outcome State Fault Refusal :=
  let d := s.dev
  if !d.deciding then done s d else
  match d.arbFirst true (d.shuts.filter (fun p => p.2.stage == .entry && p.2.pipe == pipe && p.2.dropReason.isNone)) with
  | none => done s d
  | some i => done s (d.modShut i (fun x => { (if x.get S.PASS = 0 then x.set S.PASS 1 else x) with stage := .pass }))

/-! ## The end of a pass -/

/-- A discard by an exception list or an EXC pointer of 0 (R149): a host frame completes with PROGRAM_FAULT, and a guaranteed one
is a miss with cause FAULT. -/
def Dev.excDiscard (d : Dev) (i reason : Nat) : Dev :=
  match d.shut i with
  | none => d
  | some s => (if s.get S.DIR = 1 then d.setStatus i St.programFault else d).discardMiss i reason Miss.fault

/-- PTP_EVENT of a frame from a host is judged by its egress port, and PTP_CORRECT by its TC mode (R108, R111). -/
def Dev.ptpMarks (d : Dev) (i : Nat) : Dev :=
  d.modShut i (fun s =>
    let port := s.get S.DEST_PORT
    if s.get S.DEST_VALID = 0 || decide (port > 8) then s else
    let c := d.cfgOf s
    let p := parseFrame ⟨s.frame, true, 0⟩
    let enabled := fun n t => c.get (F.TIME_PORT_PTP_ENABLE n) == 1 && (match t with
      | 0 => c.get (F.TIME_PORT_PTP_ETH n) == 1
      | 4 => c.get (F.TIME_PORT_PTP_IPV4 n) == 1
      | _ => c.get (F.TIME_PORT_PTP_IPV6 n) == 1)
    let s := match p.ptp with
      | some t => if s.get S.PORT > 8 && enabled port t then s.mark Fl.PTP_EVENT else s
      | none => s
    let kind := byteN s.frame (p.pos - 34) % 16
    let tc := c.get (F.TIME_PORT_PTP_TC port)
    if s.flag Fl.PTP_EVENT && p.ptp.isSome && s.get S.DIR == 0 && ((tc == 1 && decide (kind ≤ 1)) || (tc == 2 && kind == 0))
    then s.mark Fl.PTP_CORRECT else s)

/-- A pending PRP trailer put on once the frame's end is known; a copy longer than the MTU is dropped, or stomped after egress has
begun, and counted in TX_LENGTH_DROP (R77, R417). -/
def Dev.prpTail (d : Dev) (i : Nat) : Dev :=
  match d.shut i with
  | none => d
  | some s => match s.rct with
    | none => d
    | some (seq, lan) =>
      if !s.ended then d else
      let port := s.get S.DEST_PORT
      let f := addTrailer s.frame seq lan
      let d := d.putShut i ({ s with frame := f, rct := none }.set S.LENGTH (f.length + 4))
      if f.length + 4 > (d.cfgOf s).get (F.PORT_CFG_MTU port) then
        ((d.count (K.PORT_TX_LENGTH_DROP port)).setStatus i St.length).stompOrDrop i 6
      else d

/-- PRP_DUPLICATE (R77): a frame sent to a pair becomes two shuttles with one sequence number, LAN A's and LAN B's, each held to its own port's
MTU. -/
def Dev.prpDuplicate (d : Dev) (i : Nat) : Dev × List Nat :=
  match d.shut i with
  | none => (d, [])
  | some s => match (d.cfgOf s).pairOf (s.get S.DEST_PORT) with
    | none => (d, [i])
    | some (a, b) =>
      let seq := mapGetD d.net.prpSeq a 0
      let d := d.modNet (fun n => { n with prpSeq := mapPut n.prpSeq a ((seq + 1) % 65536) })
      let j := d.nextShut
      let copy := { s.set S.DEST_PORT b with prpCopyOf := some i, twin := some i, rct := some (seq, 1), holdsSa := none, learn := none,
                                             ingressTaken := true }
      let d := { d with nextShut := j + 1 }
      (((d.putShut i { s.set S.DEST_PORT a with twin := some j, rct := some (seq, 0) }).putShut j copy |>.prpTail i).prpTail j, [i, j])

/-- A recognised trailer removed from a frame of a paired port on its way to a host, with STRIP = 1 (R78). -/
def CfgSet.strip (c : CfgSet) (s : Shut) : Shut :=
  let n := s.frame.length
  if s.ended && s.flag Fl.PRP_RCT && (c.pairOf (s.get S.PORT)).isSome && c.get (F.PORT_PRP_STRIP (s.get S.PORT)) == 1
      && s.frame.drop (n - 2) == [0x88, 0xFB] then { s.set S.LENGTH (n - 2) with frame := s.frame.take (n - 6) } else s

/-- The function that owns a host-bound frame's receive ring (R19: INSTANCE and HOST_LINK for DIR = 0), and STRIP. -/
def Dev.ownerFields (d : Dev) (i : Nat) : Dev :=
  d.modShut i (fun s =>
    if (s.get S.DEST_PORT = 9 ∨ s.get S.DEST_PORT = 10) ∧ s.get S.DIR = 0 then
      let s := (d.cfgOf s).strip s
      let inst := recGet ((d.cfgOf s).record Tab.ring (s.get S.DEST_QUEUE)) RC.INSTANCE
      (s.set S.INSTANCE inst).set S.HOST_LINK (d.linkOf inst)
    else s)

/-- The frame is ready for Reed: a PRP pair's copies are made, and each shuttle waits for REED_ENQUEUE. A frame without a destination is discarded. -/
def Dev.toReed (d : Dev) (i : Nat) : Dev :=
  match d.shut i with
  | none => d
  | some s =>
    if s.get S.DEST_VALID = 0 || decide (s.get S.DEST_PORT > 10) then d.discard i 6 else
    let (d, l) := (d.storTxEnd i).prpDuplicate i
    l.foldl (fun d j => match (d.ownerFields j).shut j with
      | some x => if x.dropReason.isSome then d else (d.ownerFields j).arrive j x .reed
      | none => d) d

/-- Whether a host frame has ONE_STEP without being a PTP event message of the port it goes to, as R108 judges (R322; DEDUCED, assumption
log 81). -/
def Shut.oneStepBad (s : Shut) : Bool := s.get S.DIR == 1 && s.txFlags % 2 == 1 && s.get S.DEST_VALID == 1 && !s.flag Fl.PTP_EVENT

/-- The last pass ends (R190, R193 to R195): PTP marks, encapsulation, then encryption in a lane, then Reed. A frame to be encapsulated whose end has
not arrived and which has no charge waits for its end, since its outer lengths are not known before. -/
def Dev.lastPassEnd (d : Dev) (i : Nat) : Dev :=
  let d := d.ptpMarks i
  match d.shut i with
  | none => d
  | some s =>
    if s.oneStepBad then (d.setStatus i St.malformedDesc).discard i 6 else
    let known := chargeOf s (parseFrame ⟨s.frame, s.ended, 0⟩)
    if !s.ended && known.isNone && s.flag Fl.ENCAP_PENDING && decide (s.get S.DEST_PORT ≤ 7) then d.putShut i { s with stage := .held } else
    let charge := known.getD (s.frame.length + 4)
    let d := if d.espTunnelOut s then d else d.encap i charge
    match d.shut i with
    | none => d
    | some s =>
      if s.dropReason.isSome then d
      else if s.get S.CIPHER_OP = 2 ∨ s.get S.CIPHER_OP = 4 then d.laneArrive i
      else d.toReed i

/-- Passes a shuttle may have (R150): its envelope's limit for a guaranteed one, at most 4. -/
def Dev.passLimit (d : Dev) (s : Shut) : Nat :=
  match s.envelope with
  | some e => if s.guaranteed then min 4 ((d.cfgOf s).get (EV.PASSES e)) else 4
  | none => 4

/-- A shuttle ends its last pass: one from the network on its way to a network port enters the egress pipeline with the number of the ingress
pipeline it leaves, whose entry arbiter admits it (R16, R17); any other has made its last pass in its own pipeline. -/
def Dev.leavePipe (d : Dev) (i : Nat) (s : Shut) : Dev :=
  if s.get S.DIR = 0 ∧ s.pipe < 2 ∧ s.get S.DEST_VALID = 1 ∧ s.get S.DEST_PORT ≤ 8 then
    d.arrive i { s with resume := 3, pipe := s.pipe + 2 } .entry
  else d.lastPassEnd i

/-- The pass ends: the ingress record is taken after the first (R118), the tunnel is removed (R196), and the shuttle recirculates or
finishes its last pass. A recirculation past the limits is refused, and the exception list is wanted (R150; `settlePass`). -/
def Dev.passEnd (d : Dev) (i : Nat) : Dev :=
  match d.shut i with
  | none => d
  | some s =>
    if s.flag Fl.RECIRCULATE && decide (s.get S.PASS + 1 > d.passLimit s) then
      ((d.putShut i { s.unmark Fl.RECIRCULATE with resume := 2, stage := .pass }).count K.HED_RECIRC_LIMIT).raise F.HED_EVENT_RECIRC_LIMIT
    else
    let d := d.putShut i { s with pass1Done := true }
    let d := if s.ended then d.takeIngress i { s with pass1Done := true } else d
    let d := if s.decapWanted then d.decap i (parseFrame ⟨s.frame, s.ended, (d.cfgOf s).get F.HED_PARSE_CFG_NVME_PORT⟩) else d
    match d.shut i with
    | none => d
    | some s =>
      if s.dropReason.isSome then d
      else if s.flag Fl.RECIRCULATE then
        let d := d.count K.HED_RECIRCULATIONS
        let s := ((s.unmark Fl.RECIRCULATE).set S.PASS (s.get S.PASS + 1)).set S.PROGRAM 0
        d.arrive i { s with fwdOps := none, destAfter := false, excWanted := false, inException := false, resume := 0 } .entry
      else d.leavePipe i s

/-! ## Stages after forwarding -/

/-- The core that runs a shuttle's program: the envelope's for a guaranteed shuttle, the program entry's for any other (R264). -/
def Dev.programCore (d : Dev) (s : Shut) : Nat :=
  let c := d.cfgOf s
  let own := recGet (c.record Tab.program (s.get S.PROGRAM)) ⟨16, 6⟩
  match s.envelope with
  | some e => if s.guaranteed then c.get (EV.CORE e) else own
  | none => own

/-- The AS and BE shuttles that wait for a core (R264). -/
def Dev.coreQueued (d : Dev) (c : Nat) : Nat :=
  (d.shuts.filter (fun (p : Nat × Shut) => p.2.stage == .dispatch && p.2.dropReason.isNone && !p.2.guaranteed && d.programCore p.2 == c)).length

/-- The clock island of a core: that of the physical core it runs on, islands 1 to 17 of `hostIsland`'s numbering (R24, R259). -/
def Dev.coreIsland (d : Dev) (c : Nat) : Nat := 1 + d.get (F.BARB_CORE_CFG_PHYS c) / 4

/-- The shuttles that wait at the weave island's side of the crossing to a core island (R26). -/
def Dev.crossWaiting (d : Dev) (island : Nat) : List (Nat × Shut) :=
  d.shuts.filter (fun (p : Nat × Shut) => p.2.stage == .cross && p.2.dropReason.isNone && d.coreIsland (d.programCore p.2) == island
    && !(mapGetD d.xing island []).contains (.shuttle p.1 p.2.seq))

/-- An item presented to a crossing, behind those in flight (R25). -/
def Dev.present (d : Dev) (island : Nat) (x : CrossItem) : Dev :=
  { d with xing := mapPut d.xing island (mapGetD d.xing island [] ++ [x]) }

/-- The arbiter before the crossing to a core island: while fewer than four items are in flight, the first shuttle under R21 is presented, and
while the crossing is full it holds it and chooses again (R25, R26). -/
def Dev.crossPump (d : Dev) (island : Nat) : Dev :=
  if island = 0 ∨ island > 17 ∨ (mapGetD d.xing island []).length ≥ 4 then d else
  match d.arbFirst false (d.crossWaiting island) with
  | none => d
  | some i => match d.shut i with
    | none => d
    | some s => d.present island (.shuttle i s.seq)

/-- A shuttle with a program goes to the crossing of its core's island (R264). -/
def Dev.toProgram (d : Dev) (i : Nat) (s : Shut) : Dev := (d.arrive i s .cross).crossPump (d.coreIsland (d.programCore s))

/-- A shuttle waits for a thread of its program's core, and wakes it (R28, R264); an AS or BE shuttle beyond 64 is discarded. -/
def Dev.atDispatcher (d : Dev) (i : Nat) (s : Shut) : Dev :=
  let c := d.programCore s
  if !s.guaranteed && decide (d.coreQueued c ≥ 64) then
    let d := (d.count K.BARB_DISPATCH_FULL).raise F.BARB_EVENT_DISPATCH_FULL
    (if s.get S.DIR = 1 then d.setStatus i St.programFault else d).discard i 6
  else (d.wake 0 c).arrive i s .dispatch

/-- What an item does in the island it reaches: a swap notice changes the version that a host island holds, and no longer holds the retiring slot
(R158, R159); a shuttle that has not ended on the way waits for its program's core (R264). -/
def Dev.crossed (d : Dev) (island : Nat) (x : CrossItem) : Dev :=
  match x with
  | .swapNotice v => if island = 20 ∨ island = 21 then d.modCfg (fun c => { c with hostVersion := c.hostVersion.set (island - 20) v }) else d
  | .shuttle i q => match d.shut i with
    | some s => if s.stage == .cross && s.seq == q && s.dropReason.isNone then d.atDispatcher i s else d
    | none => d

/-- CROSSING_ARRIVE (R25, R26): the oldest item in flight to an island becomes usable there, and the arbiter before the crossing presents its
next. -/
def execCrossingArrive (island : Nat) (s : State) : Host.Outcome State Fault Refusal :=
  match mapGetD s.dev.xing island [] with
  | [] => done s (s.dev.crossPump island)
  | x :: t =>
    let d := { s.dev with xing := if t.isEmpty then mapErase s.dev.xing island else mapPut s.dev.xing island t }
    doneH s ((d.crossed island x).crossPump island)

/-- After the cipher stage: a program thread, or the pass end. -/
def Dev.afterCipher (d : Dev) (i : Nat) : Dev :=
  match d.shut i with
  | none => d
  | some s => if s.get S.PROGRAM ≠ 0 then d.toProgram i s else d.passEnd i

/-- After STOR: a decryption or an authentication in a lane (R190), or onward. -/
def Dev.afterStor (d : Dev) (i : Nat) : Dev :=
  match d.shut i with
  | none => d
  | some s =>
    if s.dropReason.isSome then d
    else if s.get S.CIPHER_OP = 1 ∨ s.get S.CIPHER_OP = 3 then d.laneArrive i else d.afterCipher i

/-- STOR work goes on, or waits for entries and translations (R227). Decrypted data that is placed is the last change before Reed (R190). -/
def Dev.storGo (d : Dev) (i : Nat) : Dev :=
  let (d, fin) := d.storStep i
  if fin then (if (d.shut i).elim false Shut.storLate then d.toReed i else d.afterStor i) else d.modShut i (fun s => { s with stage := .stor })

/-- NVME_RX_SEGMENT and NVME_TX_SEGMENT (R223, R224, R229, R417): an offloaded frame is processed once its end has arrived, on the first pass that finds it
offloaded. -/
def Dev.storEnter (d : Dev) (i : Nat) : Dev :=
  match d.shut i with
  | none => d
  | some s =>
    let p := parseFrame ⟨s.frame, s.ended, (d.cfgOf s).get F.HED_PARSE_CFG_NVME_PORT⟩
    match d.storOffload s p with
    | none => d.afterStor i
    | some (k, c) =>
      let once := d.modShut i (fun s => { s with storDone := true })
      if s.storDone then d.afterStor i
      else if s.guaranteed then (((once.clearSync k false).count K.STOR_GUAR_SKIPPED)).afterStor i
      else if d.namesTls s then (once.clearSync k true).afterStor i
      else if !s.ended then d.putShut i { s with storEnd := true, stage := .stor }
      else if s.get S.DIR = 0 then (once.storRx i k c p).storGo i
      else
        let d := once.storTx i k c p
        match d.shut i with
        | some x => if x.dropReason.isSome then d else d.storGo i
        | none => d

/-- The pass continues after its forwarding stage, or its end after an exception list. -/
def Dev.afterForward (d : Dev) (i : Nat) : Dev :=
  match d.shut i with
  | none => d
  | some s =>
    if s.dropReason.isSome then d
    else if s.inException then (if s.resume = 1 then d.passEnd i else d.storEnter i)
    else d.storEnter i

/-! ## Exception lists and forwarding -/

/-- An exception list applied (R149): EXCEPTION is set; a DROP word discards. The Bool says that a forwarding lookup follows. A list that asked for
it with the EXCEPTION word keeps its own FORWARD word, unless the exception list holds a later one (R148). -/
def Dev.applyExc (d : Dev) (i ptr resume : Nat) : Dev × Bool :=
  match d.shut i with
  | none => (d, false)
  | some s =>
    let keep := s.excWanted && resume == 0
    let s := { s.mark Fl.EXCEPTION with inException := true, resume := resume, excWanted := false,
                                        fwdOps := if keep then s.fwdOps else none, destAfter := keep && s.destAfter }
    let d := d.putShut i s
    if ptr = 0 then (d.excDiscard i 6, false) else
    let l := ((d.cfgOf s).list ptr).filter (fun w => awOp w == 3 || awOp w == 4 || awOp w == 0xD || awOp w == 0)
    let r := runList false s l
    let d := d.putShut i r.s
    if r.drop then (d.excDiscard i 2, false) else (d, true)

/-- The learn side of a FORWARD word (R175). -/
def Dev.learnSide (d : Dev) (i : Nat) : Dev :=
  match d.shut i with
  | none => d
  | some s => match s.fwdOps with
    | none => d
    | some ops =>
      if !ops.testBit 3 then d else
      match d.mapEntry s (ops % 2) with
      | some (fd, 1, ring) => if fd = 0 then d else d.learnSource i fd ring
      | _ => d

/-- A frame that a miss action discards (R173). -/
def Dev.fwdDrop (d : Dev) (i : Nat) : Dev :=
  match d.shut i with
  | none => d
  | some s => if s.guaranteed then (d.count K.FWD_GUAR_DST_MISMATCH).discardMiss i 6 Miss.fault else d.discard i 6

/-- What a forwarding lookup leaves: the pass goes on, a DDR5 lookup is awaited, or a domain's miss action is due. -/
inductive FwdOut where
  | go
  | waits
  | missed (fd : Nat)
  deriving DecidableEq, Repr

/-- A frame whose lookup misses after an entry failed its parity check carries TABLE_PARITY (R185). -/
def Dev.missStatus (d : Dev) (i : Nat) : Dev :=
  match d.shut i with
  | none => d
  | some s => if s.parityBad then d.setStatus i St.tableParity else d

/-- An entry of the forwarding tables that a shuttle's lookup reads fails its parity check (R185). -/
def Dev.lookParity (d : Dev) (i : Nat) (parity : Option Nat) : Dev :=
  match parity with
  | none => d
  | some k => if (d.fwdAt k).isSome then (d.fwdParity k).modShut i (fun s => { s with parityBad := true }) else d

/-- FORWARD_LOOKUP (R165, R171, R172, R175): the learn side and the on-die search at once; with no match and TIER 0, a DDR5 lookup when the
pool has a place. -/
def Dev.forwardLook (d : Dev) (i : Nat) (parity : Option Nat) : Dev × FwdOut :=
  match d.shut i with
  | none => (d, .waits)
  | some s => match s.fwdOps with
    | none => (d, .go)
    | some ops =>
      let d := (d.lookParity i parity).learnSide i
      match d.shut i with
      | none => (d, .waits)
      | some s =>
        let off := if ops % 2 = 1 then s.get (S.OFFSET 5) else 0
        match d.mapEntry s (ops % 2) with
        | none => (d, .missed 0)
        | some (fd, _, _) =>
          if fd = 0 then (d, .missed 0) else
          match d.lookupOndie (ops / 2 % 4) (macAt s.frame off) fd with
          | .hit k => (d.fwdHit i k, .go)
          | .miss => ((d.count K.FWD_MISS).missStatus i, .missed fd)
          | .ddr5 => match d.poolPlace (s.get S.CLASS == 1) with
            | some r => (d.putShut i { s with stage := .ddr5, wait := 2, poolReserved := r }, .waits)
            | none => ((((d.count K.HED_POOL_FULL).raise F.HED_EVENT_POOL_FULL).count K.FWD_MISS).missStatus i, .missed fd)

/-- A discard that the exception list of a miss action leads to: for a guaranteed frame it counts as its miss action's (R173). -/
def Dev.missDiscard (d : Dev) (i : Nat) (wasGuar : Bool) : Dev :=
  let d := if wasGuar then d.count K.FWD_GUAR_DST_MISMATCH else d
  d.excDiscard i 6

/-- The miss action of a domain for a lookup that an exception list asked for: one more EXCEPTION discards the frame (DESIGN CHOICE, assumption
log 86). -/
def Dev.excMissed (d : Dev) (i fd : Nat) : Dev :=
  match d.fwdMiss i fd with
  | (d, .go) => d.afterForward i
  | (d, .drop) => d.fwdDrop i
  | (d, .exception_) => d.missDiscard i ((d.shut i).elim false Shut.guaranteed)

/-- The miss action of a domain and what follows (R165, R172, R173); the exception list may forward once more. -/
def Dev.fwdMissed (d : Dev) (i fd : Nat) : Dev :=
  if (d.shut i).elim false Shut.inException then d.excMissed i fd else
  match d.fwdMiss i fd with
  | (d, .go) => d.afterForward i
  | (d, .drop) => d.fwdDrop i
  | (d, .exception_) => match d.shut i with
    | none => d
    | some s =>
      let (d', go) := d.applyExc i s.exc 0
      if !go then (if s.guaranteed then d'.count K.FWD_GUAR_DST_MISMATCH else d') else
      match d'.forwardLook i none with
      | (d, .go) => d.afterForward i
      | (d, .waits) => d
      | (d, .missed fd2) => d.excMissed i fd2

/-- The forwarding stage of a pass and what follows it. -/
def Dev.forwardStage (d : Dev) (i : Nat) (parity : Option Nat) : Dev :=
  match d.forwardLook i parity with
  | (d, .go) => d.afterForward i
  | (d, .waits) => d
  | (d, .missed fd) => d.fwdMissed i fd

/-- The exception list that an action list or a refused recirculation asks for, then forwarding. -/
def Dev.runExc (d : Dev) (i ptr resume : Nat) (parity : Option Nat) : Dev :=
  let (d, go) := d.applyExc i ptr resume
  if go then d.forwardStage i parity else d

/-- A refused recirculation runs the flow's exception list, and the pass then ends (R150). Every command that moves a shuttle along
its path ends with this. -/
def Dev.settlePass (d : Dev) (i : Nat) : Dev :=
  match d.shut i with
  | none => d
  | some s => if s.resume = 2 then d.runExc i s.exc 1 none else d

/-! ## The pass -/

/-- The pass as one shuttle's own: what parsing writes (R137, R139, R140, R142). -/
def Shut.parsed (s : Shut) (p : Parsed) (app : Nat) (ptp : Bool) : Shut :=
  let present := fun k => if s.ended && decide (k ≥ s.frame.length) then 0xFFFF else k
  let offs := p.offs
  let offs := match p.payload with
    | some k => if p.mal.isNone then (offs.set Off.pay (present k)).set Off.app (present (k + app)) else offs
    | none => offs
  let offs := offs.set Off.eoh (present p.pos)
  let s := (List.range 12).foldl (fun s k => s.set (S.OFFSET k) (offs.getD k 0xFFFF)) s
  let put := fun (s : Shut) (b : Nat) (x : Bool) => if x then s.mark b else s.unmark b
  let s := put (put (put s Fl.MALFORMED p.mal.isSome) Fl.FRAGMENT (p.outer.frag || p.inner.frag)) Fl.PTP_EVENT ptp
  { s with vni := p.vni, tci := p.tci }

/-- Whether PTP is enabled on a port for a transport (R108). -/
def CfgSet.ptpOn (c : CfgSet) (n : Nat) : Option Nat → Bool
  | none => false
  | some t => decide (n ≤ 8) && c.get (F.TIME_PORT_PTP_ENABLE n) == 1 && (match t with
    | 0 => c.get (F.TIME_PORT_PTP_ETH n) == 1
    | 4 => c.get (F.TIME_PORT_PTP_IPV4 n) == 1
    | _ => c.get (F.TIME_PORT_PTP_IPV6 n) == 1)

/-- What Heddle knows of a frame at a pass. -/
structure View2 where
  s : Shut
  p : Parsed
  c : CfgSet
  key : Option (List Byte)
  wc : Option (Nat × Rec)
  deriving DecidableEq, Repr

/-- The frame parsed and its keys built (R136 to R144). -/
def Dev.view (d : Dev) (s : Shut) : View2 :=
  let c := d.cfgOf s
  let port := s.get S.PORT
  let p := parseFrame ⟨s.frame, s.ended, c.get F.HED_PARSE_CFG_NVME_PORT⟩
  let s := s.parsed p (c.get (F.HED_PORT_CFG_APP_OFFSET port)) (c.ptpOn port p.ptp)
  let kt := c.get (F.HED_PORT_CFG_KT port)
  let prof := recGet (c.record Tab.profile (c.get (F.HED_PORT_CFG_PROFILE port))) ⟨0, 80⟩
  let key := if kt = 7 then none else exactKey s kt prof p
  let wkey := wildcardKey s p (s.get (S.OFFSET 10))
  let s := s.set S.FLOW_HASH (crc32c (match key with
    | some k => k
    | none => wkey.take 58))
  ⟨s, p, c, key, c.wildcard wkey⟩

/-- The exact match of one tier. -/
def Dev.exactOf (d : Dev) (v : View2) (hot : Bool) : Option (Nat × Rec) :=
  let port := v.s.get S.PORT
  match v.key with
  | none => none
  | some k => d.flowHit v.c k (v.p.keyType (v.c.get (F.HED_PORT_CFG_KT port))) (v.c.get (F.HED_PORT_CFG_PROFILE port)) hot

/-- Whether the list of a match must wait for its A/B field: the field lies past the bytes present (R80). -/
def View2.abWaits (v : View2) (m : MatchRes) : Bool :=
  let r := runList (v.s.get S.PASS == 1) v.s (v.c.list m.action)
  match r.ab with
  | none => false
  | some (g, _) => match v.c.abField g v.s.frame v.p with
    | some (k, n, _) => !v.s.ended && decide (k + n > v.s.frame.length)
    | none => false

/-- Whether a KEY word of the list of a match reads bytes that have not arrived (R148). -/
def View2.keyWordWaits (v : View2) (m : MatchRes) : Bool :=
  !v.s.ended && (v.c.list m.action).any (fun w =>
    let base := v.s.get (S.OFFSET (bitsOf w 0 4))
    awOp w == 0xA && decide (bitsOf w 0 4 ≤ 11) && base != 0xFFFF && decide (base + bitsOf w 4 8 + bitsOf w 12 3 + 1 > v.s.frame.length))

/-- Whether the list of a match must wait for bytes of the frame: those of its A/B field, or of a KEY word (R80, R148; DESIGN CHOICE for
the KEY word, assumption log 86). -/
def View2.listWaits (v : View2) (m : MatchRes) : Bool := v.abWaits m || v.keyWordWaits m

/-- Whether the keys of a pass must wait for bytes of the frame: those of a key profile's fields, or of the application field when a rule
looks at it (R143, R144; DESIGN CHOICE, assumption log 86). -/
def View2.keysWait (v : View2) : Bool :=
  let port := v.s.get S.PORT
  let app := v.s.get (S.OFFSET 10)
  (v.c.get (F.HED_PORT_CFG_KT port) == 6
    && keyWaits (recGet (v.c.record Tab.profile (v.c.get (F.HED_PORT_CFG_PROFILE port))) ⟨0, 80⟩) v.s v.p)
  || (!v.s.ended && app != 0xFFFF && decide (app + 8 > v.s.frame.length)
    && (v.c.table Tab.wildcard).any (fun p => recGet p.2 WR.VALID == 1 && recGet p.2 ⟨1152, 64⟩ != 0))

/-- The class that a list and the frame's form give on pass 1 (R40, R43, R60, R139 to R141, R148, R417): a malformed frame stays in BE. The envelope is kept for a
frame that would have been its own, for R199. -/
def Dev.classify (d : Dev) (i : Nat) (v : View2) (r : ListRun) : Dev :=
  let s := r.s
  let s := match r.cls with
    | some k => if v.p.mal.isSome then s else s.set S.CLASS k
    | none => s
  match r.guar with
  | none => d.putShut i { s with polGeneral := if s.get S.DIR = 0 then r.police else none }
  | some (e, tc) =>
    let abLate := match r.ab with
      | some (g, _) => match v.c.abField g s.frame v.p with
        | some (k, n, _) => decide (k + n > 128)
        | none => false
      | none => false
    let long := decide (v.p.pos > 128)
    let s := s.set S.TC tc
    if v.p.mal.isSome then d.putShut i s
    else if long || abLate then (d.count K.HED_LONG_HEADER).putShut i s
    else if v.c.get (EV.STATE e) ≠ 1 ∨ v.c.get (EV.VALID e) = 0 then d.putShut i { s with envelope := some e }
    else
      (d.putShut i { s.set S.CLASS (v.c.get (EV.CLASS e)) with envelope := some e }).setDeadline i

/-- The witness profile a list names (R114). -/
def Shut.witnessed (s : Shut) (c : CfgSet) (p : Nat) : Shut :=
  let any := c.profile p 1 2 ≠ 0
  let s := { s with witness := p }
  let s := if any then s.mark Fl.WITNESSED else s.unmark Fl.WITNESSED
  if c.profile p 3 1 = 1 then s.mark Fl.WITNESS_HASH else s.unmark Fl.WITNESS_HASH

/-- AB_ARBITRATE (R79, R80): the frame is delivered or dropped by its group. On the pass that decrypts, `cipher`, the field is ciphertext and
arbitration on it is undefined (R417): the number it gives is a free value (assumption log 98). -/
def Dev.abArbitrate (d : Dev) (i : Nat) (v : View2) (g leg : Nat) (cipher : Bool) : Dev :=
  match d.shut i with
  | none => d
  | some s =>
    let drop := fun (d : Dev) =>
      let d := if s.get S.PASS = 1 then d.modShut i (fun s => { s with witness := 0 }) else d
      d.discard i 4
    if s.flag Fl.FCS_BAD then drop (d.setStatus i St.fcsBad) else
    match v.c.abField g s.frame v.p with
    | none => drop (d.count K.AB_NO_FIELD)
    | some (k, n, little) =>
      if k + n > s.frame.length then drop (d.count K.AB_NO_FIELD) else
      let b := sliceBytes s.frame k n
      let (x, e) := d.fresh
      let seq := if cipher then x.toNat % 2 ^ (8 * n) else if little then leNat b else beNat b
      match (if cipher then e else d).abDecide g (2 ^ (8 * n)) seq with
      | (d, true) => d.modShut i (fun s => { s.mark Fl.AB_FIRST with abLeg := some (g, leg), abSeq := some seq })
      | (d, false) => drop d

/-- Policing on pass 1 (R152 to R155): at once when the charge is known, else at the frame's end. -/
def Dev.policePass (d : Dev) (i : Nat) (p : Parsed) : Dev :=
  match d.shut i with
  | none => d
  | some s =>
    if s.get S.DIR = 1 || s.dropReason.isSome || !((s.guaranteed && s.envelope.isSome) || s.polGeneral.isSome) then d else
    match chargeOf s p with
    | some n => d.policeWith i n
    | none => d.putShut i { s with policeDue := true }

/-- A cipher word takes hold of its SA (R200). -/
def Dev.takeSa (d : Dev) (i : Nat) : Option (Nat × Nat) → Dev
  | none => d
  | some (k, op) => if op = 0 then d.releaseSa i else d.holdSa i k

/-- The pass once its match is settled (R146 to R155): the list, the feed group, the policer, then forwarding. -/
def Dev.passMatched (d : Dev) (i : Nat) (v : View2) (m : MatchRes) (parity : Option Nat) : Dev :=
  let d := d.count m.ctr
  let first := v.s.get S.PASS = 1
  let r := runList first (m.write v.s) (v.c.list m.action)
  let r := { r with s := match r.witness with
    | some w => r.s.witnessed v.c w
    | none => r.s }
  let d := if first then d.classify i v r else d.putShut i (match r.cls with
    | some k => if v.p.mal.isSome then r.s else r.s.set S.CLASS k
    | none => r.s)
  let d := d.takeSa i r.sa
  let d := match r.ab with
    | some (g, leg) => d.abArbitrate i v g leg (r.sa.any (fun x : Nat × Nat => x.2 == 1))
    | none => d
  match d.shut i with
  | none => d
  | some s =>
    if s.dropReason.isSome then d
    else
      let d := if first then d.policePass i v.p else d
      match d.shut i with
      | none => d
      | some s =>
        if s.dropReason.isSome then d
        else if r.drop then d.discard i 2
        else if s.excWanted then d.runExc i s.exc 0 parity
        else d.forwardStage i parity

/-- PARSE_MALFORMED (R140, R141): the action of the entry port; classification goes on under CLASSIFY. -/
def Dev.malformed (d : Dev) (i : Nat) (v : View2) (cause : Nat) (parity : Option Nat) (goOn : Dev → Dev) : Dev :=
  let port := v.s.get S.PORT
  let s := if v.s.get S.PASS = 1 then (v.s.set S.CLASS 3).set S.DEADLINE noDeadline else v.s
  let d := ((d.count (K.HED_MALFORMED cause)).putShut i s).setStatus i St.malformedFrame
  match v.c.get (F.HED_PORT_CFG_MAL_ACTION port) with
  | 1 => d.runExc i (v.c.get (F.HED_PORT_EXC_LIST port)) 0 parity
  | 2 => goOn d
  | _ => if s.get S.PASS = 1 then d.discard i 6 else d.discardMiss i 6 Miss.fault

/-- The match of a pass: the hot tier and the wildcard store at once, and one DDR5 lookup on a hot miss with a key (R145). -/
def Dev.matchPass (d : Dev) (i : Nat) (v : View2) (parity : Option Nat) : Dev :=
  let port := v.s.get S.PORT
  match d.exactOf v true with
  | some h => d.passMatched i v (v.c.resolve port (some h) v.wc) parity
  | none =>
    let miss := fun (d : Dev) =>
      let d := (d.count K.HED_EXACT_MISS).missStatus i
      d.passMatched i { v with s := (d.shut i).getD v.s } (v.c.resolve port none v.wc) parity
    if v.key.isNone then miss d else
    match d.poolPlace (v.c.knownGd port v.wc) with
    | some r => d.putShut i { v.s with stage := .ddr5, wait := 1, poolReserved := r }
    | none => miss ((d.count K.HED_POOL_FULL).raise F.HED_EVENT_POOL_FULL)

/-- Whether a pass cannot go on yet: headers that need the second window, a paired port's frame whose end has not arrived (R417), or bytes that
its keys or its list need and that have not arrived. -/
def Dev.passWaits (d : Dev) (v : View2) : Bool :=
  let port := v.s.get S.PORT
  v.p.more
    || (v.s.get S.DIR == 0 && (v.c.pairOf port).isSome && !v.s.ended)
    || ((v.p.mal.isNone || v.c.get (F.HED_PORT_CFG_MAL_ACTION port) == 2) && (v.keysWait || (match d.exactOf v true with
      | some h => v.listWaits (v.c.resolve port (some h) v.wc)
      | none => (v.key.isNone || (d.poolPlace (v.c.knownGd port v.wc)).isNone) && v.listWaits (v.c.resolve port none v.wc))))

/-- A key index entry that a shuttle's lookup reads and that fails its parity check is invalidated and reported (R145, R185); a staged write made
before does not mend it. -/
def Dev.indexParity (d : Dev) (i : Nat) : Option Nat → Dev
  | none => d
  | some f =>
    let d := d.modHed (fun h => { h with noIndex := f :: h.noIndex.filter (fun x => x != f), rewritten := h.rewritten.filter (fun x => x != f) })
    ((d.raise F.HED_EVENT_INDEX_PARITY).fault Code.tableParity).modShut i (fun s => { s with parityBad := true })

/-- Whether an IP length of a whole frame disagrees with its end, a recognised PRP trailer excluded (R140). -/
def Shut.ipLenBad (s : Shut) (p : Parsed) (n : Nat) : Bool :=
  p.mal.isNone && p.ipLen (if s.flag Fl.PRP_RCT then n - 6 else n)

/-- IP_LEN (R140, R141): the frame is discarded at its end, or stomped once egress has begun; on a later pass a guaranteed frame is a
miss. -/
def Dev.ipLenDrop (d : Dev) (i : Nat) : Dev :=
  match d.shut i with
  | none => d
  | some s =>
    let d := ((d.count (K.HED_MALFORMED Mal.IP_LEN)).putShut i { s.mark Fl.MALFORMED with learn := none }).setStatus i St.malformedFrame
    if s.get S.PASS ≥ 2 && s.guaranteed && !s.departed && s.stage != .toLands then d.discardMiss i 6 Miss.fault else d.stompOrDrop i 6

/-- A shuttle's pass through its pipeline: an egress pipeline finishes a network frame's last pass, and every other pass parses, matches and runs
its list (R136 to R155). -/
def Dev.makePass (d : Dev) (i : Nat) (v : View2) (fwdParity : Option Nat) : Dev :=
  let d := if v.s.flag Fl.FRAGMENT then d.count K.HED_FRAGMENTS else d
  let d := d.putShut i v.s
  if v.s.ended && v.s.ipLenBad v.p v.s.frame.length then d.ipLenDrop i
  else if v.s.get S.DIR = 1 && v.s.txFlags % 2 == 1 && v.s.get S.PASS == 1 && v.p.ptp.isNone then
    (d.setStatus i St.malformedDesc).discard i 6
  else match v.p.mal with
    | some c => d.malformed i v c fwdParity (fun d => d.matchPass i { v with s := (d.shut i).getD v.s } fwdParity)
    | none => d.matchPass i v fwdParity

/-- HEDDLE_PASS (R16, R136 to R155): `fwdParity` is a forwarding entry, and `keyParity` a flow, whose entry fails its parity check when it is
read. Frames of one port or ring are taken in the order in which they entered (R18). -/
def execHeddlePass (shuttle : Nat) (fwdParity keyParity : Option Nat) (s : State) : Host.Outcome State Fault Refusal :=
  let d := s.dev
  match d.shut shuttle with
  | none => done s d
  | some x =>
    if !d.deciding || x.stage ≠ .pass || x.dropReason.isSome || d.passBehind shuttle x then done s d
    else if x.resume = 3 then doneH s (((d.putShut shuttle { x with resume := 0 }).lastPassEnd shuttle).settlePass shuttle)
    else
      let d := (d.putShut shuttle { x with parityBad := false }).indexParity shuttle keyParity
      let v := d.view ((d.shut shuttle).getD x)
      if d.passWaits v then done s s.dev else doneH s ((d.makePass shuttle v fwdParity).settlePass shuttle)

/-- What a pass knows of a shuttle that waits for the DDR5 lookup of its flow (R145). -/
def Dev.ddr5Match (d : Dev) (x : Shut) : View2 × Option (Nat × Rec) × MatchRes :=
  let v := d.view x
  let hit := d.exactOf v false
  (v, hit, v.c.resolve (x.get S.PORT) hit v.wc)

/-- The shuttles whose DDR5 lookup may be answered: those that wait for one, but for a list that still waits for bytes of its frame. -/
def Dev.ddr5Ready (d : Dev) : List (Nat × Shut) :=
  d.shuts.filter (fun (p : Nat × Shut) => p.2.stage == .ddr5 && p.2.dropReason.isNone
    && !(p.2.wait == 1 && (let m := d.ddr5Match p.2; m.1.listWaits m.2.2)))

/-- DDR5_LOOKUP_RESULT (R54, R145, R172, R364): the waiting shuttle that the DDR5 arbiter serves next resumes its match, or its forwarding: the
guaranteed ones earliest DEADLINE first. That results come in the order the requests are served is the model's (DESIGN CHOICE, assumption
log 85). `parity.entry` is a forwarding entry, and `parity.flow` a flow, whose entry fails its parity check when it is read. -/
def execDdr5LookupResult (shuttle err addr row : Nat) (parity : LookupParity) (s : State) : Host.Outcome State Fault Refusal :=
  let d := s.dev
  match d.shut shuttle with
  | none => done s d
  | some x =>
    if !d.deciding || d.arbFirst false d.ddr5Ready ≠ some shuttle then done s d else
    let d := (d.dramFound err addr row).putShut shuttle { x with stage := .pass, wait := 0, poolReserved := false }
    if x.wait = 1 then
      let d := d.indexParity shuttle parity.flow
      let (v, hit, m) := d.ddr5Match ((d.shut shuttle).getD x)
      let d := d.putShut shuttle v.s
      let d := if hit.isNone then (d.count K.HED_EXACT_MISS).missStatus shuttle else d
      doneH s ((d.passMatched shuttle { v with s := (d.shut shuttle).getD v.s } m parity.entry).settlePass shuttle)
    else
      let d := d.lookParity shuttle parity.entry
      match x.fwdOps with
      | none => done s d
      | some ops =>
        let off := if ops % 2 = 1 then x.get (S.OFFSET 5) else 0
        match d.mapEntry x (ops % 2) with
        | none => doneH s ((d.fwdMissed shuttle 0).settlePass shuttle)
        | some (fd, _, _) => match d.fwdFind (macAt x.frame off) fd with
          | some k => doneH s (((d.fwdHit shuttle k).afterForward shuttle).settlePass shuttle)
          | none => doneH s ((((d.count K.FWD_MISS).missStatus shuttle).fwdMissed shuttle fd).settlePass shuttle)

end Sys2Proof.Machine
end

