-- ==== Sys2Proof/Machine/Ring.lean ====
section
/-! DEFINITION. Rings (ch. 13): doorbells, pushes, descriptor reads, the taking of transmit frames, the release of received frames, ring
states and contexts (R317 to R340). -/
namespace Sys2Proof.Machine
open Sys2Proof

/-! ## Which rings -/

/-- The valid ring of a function's doorbell page (R317, R325). -/
def Dev.ringAt (d : Dev) (inst page : Nat) : Option Nat :=
  ((d.cfg.active.table Tab.ring).find? (fun p =>
    recGet p.2 RC.VALID == 1 && recGet p.2 RC.INSTANCE == inst && recGet p.2 RC.LOCAL == page)).map (·.1)

/-- A doorbell or push turned away (R326). -/
def Dev.badDoorbell (d : Dev) : Dev := (d.count K.RING_BAD_DOORBELL).raise F.RING_EVENT_BAD_DOORBELL

/-- Descriptor reads of a ring that have not come back. -/
def Dev.descReads (d : Dev) (r : Nat) : List HRead :=
  d.hif.reads.filter (fun h => match h.use with
    | .desc q _ _ => q == r && !h.dead
    | _ => false)

/-- Descriptor reads of a ring made void: waiting ones are dropped, issued ones bring nothing. -/
def Dev.voidDescReads (d : Dev) (r : Nat) : Dev :=
  let mine := fun (u : Use) => match u with
    | .desc q _ _ => q == r
    | _ => false
  d.modHif (fun h => { h with
    reads := h.reads.map (fun (x : HRead) => if mine x.use then { x with dead := true } else x)
    waiting := h.waiting.filter (fun w => !mine w.use) })

/-- Whether a descriptor read of a ring is on its way or waits for a translation or a tag. -/
def Dev.descPending (d : Dev) (r : Nat) : Bool :=
  !(d.descReads r).isEmpty || d.hif.waiting.any (fun w => match w.use with
    | .desc q _ _ => q == r
    | _ => false)

/-- A function that may start new work: ACTIVE with Bus Master Enable set (R305, R309), after dataplane ready and before any stop
(R391, R438). -/
def Dev.mayWork (d : Dev) (inst : Nat) : Bool := d.mayReceive inst && d.sys.ready && !d.sys.stopped

/-- A function whose descriptors already fetched and pushes already accepted may be taken into work: as above, and also while it is
QUIESCING or FREEZING (R305). -/
def Dev.mayTake (d : Dev) (inst : Nat) : Bool :=
  let st := (d.fn inst).state
  (d.fn inst).bme && (st == FnSt.active || st == FnSt.quiescing || st == FnSt.freezing) && d.sys.ready && !d.sys.stopped

/-! ## Ring states (Table 8) -/

/-- The start threshold that a ring's context shows (R71): its own once an underrun has raised it. R71 does not say whose START it begins at
before a frame names its port: port 0's is shown (DESIGN CHOICE, assumption log 51). A frame reckons with its own port's (`startAt`). -/
def Dev.startThresh (d : Dev) (r : Nat) : Nat := if (d.ring r).thresh = 0 then d.sh (F.PORT_CT_START 0) else (d.ring r).thresh

/-- A ring brought to ACTIVE with indices 0 and LAP 0 (Table 8), or DISABLED when it is not valid; its mirror is written. -/
def Dev.ringFresh (d : Dev) (r : Nat) : Dev :=
  let x := d.ring r
  let state := if d.rcf r RC.VALID = 1 then RS.active else RS.disabled
  (d.modRing r (fun _ => { state := state, token := x.token })).writeMirror r

/-- Held pushes and cached copies of a ring discarded without completions (Table 8). -/
def Dev.dropCached (d : Dev) (r : Nat) : Dev := (d.voidDescReads r).modRing r (fun x => { x with cached := [], pushes := [] })

/-- A ring reset begins; a CPL ring, which holds no work, is reset at once (R339). -/
def Dev.ringReset (d : Dev) (r : Nat) (token : Option Nat) : Dev :=
  let d := match token with
    | some t => d.modRing r (fun x => { x with token := t })
    | none => d
  let st := (d.ring r).state
  if d.rcf r RC.KIND = 2 then (if st = RS.disabled then d else d.ringFresh r)
  else if st = RS.active ∨ st = RS.error then
    ((d.dropCached r).modRing r (fun x => { x with state := RS.resetting, cause := 0 })).writeMirror r
  else d

/-- What a swap does to one ring: VALID that rises starts it, and VALID that falls disables it once its taken work has ended. `was` is
VALID before the swap. -/
def Dev.ringSwap (d : Dev) (r : Nat) (was : Bool) : Dev :=
  let now := d.rcf r RC.VALID = 1
  if now && !was then (if (d.ring r).state = RS.disabled then d.ringFresh r else d.modRing r (fun x => { x with disabling := false }))
  else if !now && was then
    let d := d.dropCached r
    if (d.ring r).inWork = 0 then (d.modRing r (fun x => { x with state := RS.disabled, disabling := false })).writeMirror r
    else d.modRing r (fun x => { x with disabling := true })
  else d

/-- What a swap does to the rings: `old` is the set that was active. -/
def Dev.ringsSwap (d : Dev) (old : CfgSet) : Dev :=
  let keys := ((old.table Tab.ring) ++ (d.cfg.active.table Tab.ring)).map (·.1)
  keys.foldl (fun d r => d.ringSwap r (recGet (old.record Tab.ring r) RC.VALID == 1)) d

/-- The rings of an instance. -/
def Dev.ringsOf (d : Dev) (inst : Nat) : List Nat :=
  ((d.cfg.active.table Tab.ring).filter (fun p => recGet p.2 RC.VALID == 1 && recGet p.2 RC.INSTANCE == inst)).map (·.1)

/-! ## Doorbells -/

/-- DOORBELL_PRODUCER (R325, R326): `arrival.single` says that the write is one 32-bit TLP; a poisoned one is ignored (R298).
`arrival.fine` is when its last byte crosses the lands, in 2^-6 ns after the present step (R91). -/
def execDoorbellProducer (inst page index lap : Nat) (arrival : Arrival) (poisoned : Bool) (s : State) : Host.Outcome State Fault Refusal :=
  let d := s.dev
  if !d.sys.ready || poisoned then done s (if poisoned && d.sys.ready then d.count K.HIF_POISON_RX else d) else
  match d.ringAt inst page with
  | none => done s d.badDoorbell
  | some r =>
    let x := d.ring r
    let pos := d.posOf r (index % 65536) (lap % 2)
    let fetchable := d.rcf r RC.KIND = 1 || (d.rcf r RC.KIND = 0 && d.rcf r RC.FEED = 0)
    if !arrival.single || !fetchable || decide (index % 65536 ≥ d.ringSize r) || decide (d.ahead r x.take pos > d.ringSize r) then
      done s d.badDoorbell
    else if pos = x.producer then done s d
    else
      done s (d.modRing r (fun x => { x with producer := pos, stopped := false, doorbells := x.doorbells ++ [(pos, d.hostStampAt arrival.fine)] }))

/-- RING_INVALIDATE (R329). -/
def execRingInvalidate (inst page token : Nat) (single poisoned : Bool) (s : State) : Host.Outcome State Fault Refusal :=
  let d := s.dev
  if !d.sys.ready || poisoned then done s (if poisoned && d.sys.ready then d.count K.HIF_POISON_RX else d) else
  match d.ringAt inst page with
  | none => done s d.badDoorbell
  | some r =>
    if !single || d.rcf r RC.KIND = 2 then done s d.badDoorbell else
    let d := (d.count K.RING_INVALIDATES).modRing r (fun x => { x with token := token % 65536 })
    let d := if d.rcf r RC.MODE = 1 && d.rcf r RC.FEED = 0 then
        (d.voidDescReads r).modRing r (fun x => { x with cached := [], fetch := x.take, stopped := false })
      else d
    doneH s (d.writeMirror r)

/-- RING_RESET_DOORBELL (R339). -/
def execRingResetDoorbell (inst page token : Nat) (single poisoned : Bool) (s : State) : Host.Outcome State Fault Refusal :=
  let d := s.dev
  if !d.sys.ready || poisoned then done s (if poisoned && d.sys.ready then d.count K.HIF_POISON_RX else d) else
  match d.ringAt inst page with
  | none => done s d.badDoorbell
  | some r =>
    if !single || d.rcf r RC.KIND = 2 then done s d.badDoorbell else
    doneH s (d.ringReset r (some (token % 65536)))

/-- DOORBELL_CONSUMER (R335, R338). -/
def execDoorbellConsumer (inst page index lap : Nat) (arm single poisoned : Bool) (s : State) : Host.Outcome State Fault Refusal :=
  let d := s.dev
  if !d.sys.ready || poisoned then done s (if poisoned && d.sys.ready then d.count K.HIF_POISON_RX else d) else
  match d.ringAt inst page with
  | none => done s d.badDoorbell
  | some c =>
    let x := d.ring c
    let pos := d.posOf c (index % 65536) (lap % 2)
    let step := d.ahead c x.consumer pos
    if !single || d.rcf c RC.KIND ≠ 2 || decide (index % 65536 ≥ d.ringSize c) || decide (step > d.ahead c x.consumer x.reserved)
    then done s d.badDoorbell
    else
      let left := x.unread.filter (fun p => decide (d.ahead c x.consumer p.1 ≥ step))
      let d := d.modRing c (fun x => { x with consumer := pos, unread := left, armed := x.armed || arm })
      doneH s (if arm then d.evalMsix c else d)

/-- INTERRUPT_MOD_TIMER (R338): MOD_US have passed since the first unread completion. -/
def execInterruptModTimer (ring : Nat) (s : State) : Host.Outcome State Fault Refusal :=
  let d := s.dev
  let x := d.ring ring
  done s (if x.armed && !x.unread.isEmpty && decide (d.rcf ring RC.MOD_US > 0) then d.sendMsix ring else d)

/-! ## Descriptors -/

/-- Fields of a transmit or receive descriptor (Tables 1 and 2). -/
def descN (b : List Byte) (off n : Nat) : Nat := leNat (sliceBytes b off n)
/-- ADDR. -/
def descAddr (b : List Byte) : Nat := descN b 0 8
/-- LEN. -/
def descLen (b : List Byte) : Nat := descN b 8 2 % 16384
/-- MORE of a transmit descriptor. -/
def descMore (b : List Byte) : Bool := (descN b 8 2).testBit 15
/-- OWN. -/
def descOwn (b : List Byte) : Bool := (descN b 31 1).testBit 7

/-- Whether a transmit descriptor's own fields keep R322. -/
def txDescOk (b : List Byte) : Bool :=
  decide (1 ≤ descLen b ∧ descLen b ≤ 9212) && !(descN b 8 2).testBit 14 && descN b 10 2 / 4 == 0 && descN b 12 4 == 0
    && descN b 26 5 == 0 && descN b 31 1 % 128 == 0

/-- Whether a receive descriptor keeps R321 and R322. -/
def rxDescOk (b : List Byte) : Bool :=
  decide (64 ≤ descLen b ∧ descLen b ≤ 16383) && descN b 8 2 / 16384 == 0 && leNat (sliceBytes b 10 21) == 0 && descN b 31 1 % 128 == 0

/-- The cached descriptors of the next frame: up to and including the first without MORE, one that its read lost, or the eighth. None
while they are not all here. -/
def frameDescs : Nat → List Desc → Option (List Desc)
  | 0, _ => some []
  | _, [] => none
  | n + 1, x :: t =>
    if x.bad ≠ 0 || !descMore x.bytes then some [x] else (frameDescs n t).map (fun l => x :: l)

/-- Whether a frame's descriptors keep R322. -/
def frameOk (l : List Desc) : Bool :=
  let total := l.foldl (fun n x => n + descLen x.bytes) 0
  l.all (fun x => txDescOk x.bytes) && decide (14 ≤ total ∧ total ≤ 9212)
    && (match l.getLast? with
      | some x => !descMore x.bytes
      | none => false)

/-- Work that ends at the ring with a status and no frame: its OWN bits and its completion (R322, R332, R335). -/
def Dev.ringStatus (d : Dev) (r pos dir count status : Nat) : Dev :=
  let (cpl, d) := d.reserveCpl r
  let d := if d.rcf r RC.FEED = 0 then d.clearOwn r (d.indexOf r pos) count else d
  d.writeCpl cpl { ring := r, index := d.indexOf r pos, dir := dir, status := status, count := count, version := d.activeVersion }

/-- Receive descriptors at the head of a ring that break R322 or were lost complete at once while there is completion space. -/
def Dev.rxClean (d : Dev) (r : Nat) : Nat → Dev
  | 0 => d
  | n + 1 =>
    let x := d.ring r
    match x.cached with
    | [] => d
    | c :: t =>
      if (c.bad = 0 && rxDescOk c.bytes) || decide (d.cplFree (d.rcf r RC.CPL_RING) < d.cplEntries r) then d else
      let d := d.modRing r (fun x => { x with cached := t, take := d.advance r c.index 1 })
      (d.ringStatus r c.index 1 1 (if c.bad = 0 then St.malformedDesc else c.bad)).rxClean r n

/-- The entry a ring may read next, if any (R327): up to PREFETCH copies are kept, and the rest of a frame whose first entries are here
(DEDUCED, assumption log 94). -/
def Dev.nextFetch (d : Dev) (r : Nat) : Option Nat :=
  let x := d.ring r
  let kind := d.rcf r RC.KIND
  if x.state ≠ RS.active || x.disabling || kind = 2 || (kind = 0 && d.rcf r RC.FEED = 1) || !d.mayWork (d.rcf r RC.INSTANCE)
    || d.descPending r then none
  else if decide (x.cached.length ≥ d.rcf r RC.PREFETCH) && (kind = 1 || (frameDescs 8 x.cached).isSome) then none
  else if d.rcf r RC.MODE = 1 then (if x.stopped then none else some x.fetch)
  else if d.ahead r x.fetch x.producer = 0 then none
  else some x.fetch

/-- DESCRIPTOR_FETCH (R327): the next entry of a ring is read, at guaranteed priority for a ring with an envelope. -/
def execDescriptorFetch (ring : Nat) (s : State) : Host.Outcome State Fault Refusal :=
  let d := s.dev
  match d.nextFetch ring with
  | none => done s d
  | some pos =>
    doneH s (d.dmaRead (d.rcf ring RC.INSTANCE) (d.rcf ring RC.BASE + 32 * d.indexOf ring pos) 32 (.desc ring pos 1)
      (d.rcf ring RC.ENV_VALID == 1))

/-- A descriptor read ends (R297, R298, R323, R327): `bad` is the status of a read that failed or was poisoned, `excess`
the time by which it exceeded H. -/
def Dev.descArrive (d : Dev) (r pos : Nat) (b : List Byte) (bad excess : Nat) : Dev :=
  let x := d.ring r
  if x.state ≠ RS.active ∨ pos ≠ x.fetch then d
  else if bad = 0 && !descOwn b then
    (if d.rcf r RC.MODE = 1 then d.modRing r (fun x => { x with stopped := true }) else d.ringError r 1)
  else
    let d := d.modRing r (fun x => { x with cached := x.cached ++ [⟨pos, b, bad, excess⟩], fetch := d.advance r pos 1 })
    if d.rcf r RC.KIND = 1 then d.rxClean r 64 else d

/-! ## Inline push -/

/-- A push discarded: it completes with a status, or is lost with an error when there is no completion space (R332). -/
def Dev.pushDiscard (d : Dev) (r pos status : Nat) : Dev :=
  let d := d.count K.RING_PUSH_DISCARD
  if d.cplFree (d.rcf r RC.CPL_RING) < d.cplEntries r then
    ((d.count K.RING_PUSH_LOST).raise F.RING_EVENT_PUSH_LOST).ringError r 5
  else d.ringStatus r pos 0 1 status

/-- Whether a push keeps R322 and Table 4. Its frame is here, so ONE_STEP is judged by its message now, and by its port once that is known
(`oneStepBad`). -/
def pushOk (b : List Byte) : Bool :=
  let n := descN b 34 2 % 512
  let f := b.drop 64
  (descN b 10 2 % 2 == 0 || (parseFrame ⟨f ++ List.replicate (60 - f.length) 0, true, 0⟩).ptp.isSome) &&
  txDescOk b && !descMore b && descLen b == n && decide (14 ≤ n ∧ n ≤ 448) && descN b 34 2 / 512 == 0
    && leNat (sliceBytes b 36 28) == 0 && b.length == 64 + n

/-- INLINE_PUSH (R331, R332): `bytes` is the push TLP as written at `offset` of the doorbell page; `arrival.single` says that it arrived
in one TLP. A write that does not start at a push slot, and crosses none, does not suit the ring's kind (R326). A poisoned push is discarded, and its completion
carries HOST_POISON (R298). `arrival.fine` is when its last byte crosses the lands, in 2^-6 ns after the
present step (R91). -/
def execInlinePush (inst page offset : Nat) (bytes : List Byte) (arrival : Arrival) (poisoned : Bool) (s : State) : Host.Outcome State Fault Refusal :=
  let d := s.dev
  if !d.sys.ready then done s d else
  match d.ringAt inst page with
  | none => done s d.badDoorbell
  | some r =>
    if d.rcf r RC.KIND ≠ 0 || d.rcf r RC.FEED ≠ 1 then done s d.badDoorbell else
    let x := d.ring r
    let crosses := decide (offset ≥ 0x800 ∧ offset < 0x1000 ∧ offset % 512 + bytes.length > 512)
    if !crosses && (decide (offset < 0x800 ∨ offset % 512 ≠ 0) || decide (offset > 0xE00)) then done s d.badDoorbell
    else if x.state = RS.error then done s (d.modRing r (fun x => { x with producer := d.advance r x.producer 1 }))
    else if x.state ≠ RS.active then done s d
    else
      let pos := x.producer
      let d := d.modRing r (fun x => { x with producer := d.advance r pos 1 })
      if !arrival.single || crosses then doneH s ((d.badDoorbell).ringError r 4) else
      let d := if poisoned then d.count K.HIF_POISON_RX else d
      if !poisoned && decide (descN bytes 32 2 ≠ d.indexOf r pos) then doneH s (d.ringError r 4) else
      if poisoned then doneH s (d.pushDiscard r pos St.hostPoison)
      else if !pushOk bytes || decide (x.pushes.length ≥ d.rcf r RC.PUSH_DEPTH) || !d.mayReceive inst then
        doneH s (d.pushDiscard r pos St.malformedDesc)
      else doneH s (d.modRing r (fun x => { x with pushes := x.pushes ++ [⟨pos, bytes.take 32, bytes.drop 64, d.hostStampAt arrival.fine⟩] }))

/-! ## Taking transmit frames (R41, R328) -/

/-- What the head of a transmit ring is. -/
structure TxHead where
  pos : Nat
  count : Nat
  stamp : StampAt
  bad : Nat
  len : Nat
  flags : Nat
  t2 : Nat
  bufs : List (Nat × Nat)
  data : List Byte
  excess : Nat := 0
  deriving DecidableEq, Repr

/-- The head of a push ring. -/
def pushHead (p : Push) : TxHead :=
  ⟨p.index, 1, p.stamp, 0, p.data.length, descN p.desc 10 2, descN p.desc 16 10, [], p.data, 0⟩

/-- The head of a fetched ring: its reference time is the first doorbell that covers its first entry, or now (R328). -/
def Dev.fetchHead (d : Dev) (r : Nat) (l : List Desc) : TxHead :=
  let x := d.ring r
  let first := (l.head?.map (·.bytes)).getD []
  let bell := x.doorbells.find? (fun b => decide (d.ahead r x.take b.1 ≥ 1 ∧ d.ahead r x.take b.1 ≤ d.ringSize r))
  let lost := (l.find? (fun c => c.bad != 0)).map (·.bad)
  ⟨x.take, l.length, (bell.map (·.2)).getD (d.hostStampAt 0), lost.getD (if frameOk l then 0 else St.malformedDesc),
    l.foldl (fun n c => n + descLen c.bytes) 0, descN first 10 2, descN first 16 10,
    l.map (fun c => (descAddr c.bytes, descLen c.bytes)), [], l.foldl (fun n c => n + c.excess) 0⟩

/-- The next frame of a transmit ring, when all its descriptors are here. -/
def Dev.txHead (d : Dev) (r : Nat) : Option TxHead :=
  let x := d.ring r
  if d.rcf r RC.FEED = 1 then x.pushes.head?.map pushHead
  else match frameDescs 8 x.cached with
    | some (c :: t) => some (d.fetchHead r (c :: t))
    | _ => none

/-- The envelope that a ring's frames use: the one it names, while that is admitted (R60, R328). -/
def Dev.ringEnvelope (d : Dev) (r : Nat) : Option Nat :=
  let e := d.rcf r RC.ENVELOPE
  if d.rcf r RC.ENV_VALID = 1 ∧ d.sh (EV.STATE e) = 1 then some e else none
/-- The envelope that a ring context names while it is demoted: its frames are BE, and keep the use of its SAs (R60, R199). -/
def Dev.ringDemoted (d : Dev) (r : Nat) : Option Nat :=
  let e := d.rcf r RC.ENVELOPE
  if d.rcf r RC.ENV_VALID = 1 ∧ d.sh (EV.STATE e) = 2 then some e else none

/-- When a frame of some bytes conforms to an envelope (R41): the bucket after the charge and the time of conformance, once that time has
come; none when the bucket held the tokens all along. -/
def Dev.conforms (d : Dev) (e len : Nat) : Option (Bucket × Option StampAt) :=
  let a := d.cfg.active
  let depth := a.get (EV.BURST e)
  let rate := a.get (EV.RATE e)
  let old := mapGetD d.hed.env e (Bucket.full depth d.time.cycles)
  let b := old.refill rate depth d.time.cycles
  if len > a.get (EV.MAX_FRAME e) || !b.holds len then none else
  let wait := if rate = 0 then 0 else ceilDiv (len * 9600 - old.tokens) rate
  let ago := d.time.cycles - (old.last + wait)
  some (b.take len, if old.tokens ≥ len * 9600 then none else some (d.stampOf (hostStamp (d.now - ago * 65536 * 5 / 6))))

/-- The bytes that a queue counts for a shuttle: LENGTH, or the charge of R153 while LENGTH is 0 (R239). -/
def Shut.queueSize (s : Shut) : Nat :=
  if s.get S.LENGTH ≠ 0 then s.get S.LENGTH else (chargeOf s (parseFrame ⟨s.frame, s.ended, 0⟩)).getD (s.frame.length + 4)
/-- DEPTH of a queue: the bytes queued. -/
def Dev.queueDepth (d : Dev) (q : RQueue) : Nat :=
  q.frames.foldl (fun n i => match d.shut i with
    | some s => n + s.queueSize
    | none => n) 0

/-- Whether a queue that holds frames of a ring is at its LIMIT (R239). -/
def Dev.atLimit (d : Dev) (r : Nat) : Bool :=
  d.reed.queues.any (fun (q : Nat × RQueue) =>
    decide (d.queueDepth q.2 ≥ recGet q.2.record ⟨96, 24⟩ ∧ d.queueDepth q.2 > 0)
      && q.2.frames.any (fun i => match d.shut i with
        | some s => s.ring == some r
        | none => false))

/-- The read requests of a buffer: offset in the frame and length of each, cut as the host link cuts them (R295). -/
def readCuts (lim : Nat) : Nat → Nat → Nat → Nat → List (Nat × Nat)
  | 0, _, _, _ => []
  | n + 1, iova, len, off =>
    if len = 0 then [] else
    let k := cutAt iova len lim
    (off, k) :: readCuts lim n (iova + k) (len - k) (off + k)

/-- The reads of a frame's buffers issued in order. -/
def Dev.readBufs (d : Dev) (inst i : Nat) (guar : Bool) : Nat → List (Nat × Nat) → Dev
  | _, [] => d
  | off, (a, n) :: t => (d.dmaRead inst a n (.txData i off) guar).readBufs inst i guar (off + n) t

/-- The pieces outstanding of a frame's buffers. -/
def bufCuts (lim : Nat) : Nat → List (Nat × Nat) → List (Nat × Nat)
  | _, [] => []
  | off, (a, n) :: t => readCuts lim (n + 1) a n off ++ bufCuts lim (off + n) t

/-- The packet buffer cell of a new shuttle: any free one; none is free when 344,064 frames are held. -/
def Dev.newCell (d : Dev) : Nat × Dev :=
  let (v, d) := d.fresh
  (v.toNat % 344064, d)

/-- A transmit frame taken into work (R328): its shuttle with its arrival stamp, and with class, deadline and version, completion space, and its
reads. `ref` is its reference time, whose epoch the deadline takes (R102). -/
def Dev.txTake (d : Dev) (r : Nat) (h : TxHead) (env : Option Nat) (ref : StampAt) : Dev :=
  let inst := d.rcf r RC.INSTANCE
  let link := d.linkOf inst
  let version := d.cfg.hostVersion.getD link d.cfg.version
  let c := d.setOf version
  let (cell, d) := d.newCell
  let (pos, d) := d.reserveCpl r
  let i := d.nextShut
  let cls := match env with
    | some e => c.get (EV.CLASS e)
    | none => 3
  let dl := match env with
    | some e => stampField (ref.time + d.sh (EV.BOUND e) * 65536)
    | none => noDeadline
  let pipe := 2 + (if d.rcf r RC.PIPE_VALID = 1 then d.rcf r RC.PIPE else r % 2)
  let lim := max 128 (d.fn inst).maxRead
  let s : Shut := { ring := some r, ringIndex := d.indexOf r h.pos, entries := h.count, txFlags := h.flags % 4, t2 := h.t2,
                    toRead := bufCuts lim 0 h.bufs, total := h.len, cplPos := some pos, envelope := env <|> d.ringDemoted r, epoch := h.stamp.epoch,
                    trace := h.stamp.trace, dlEpoch := ref.epoch, src := h.bufs, stage := .fetch, pipe := pipe, readExcess := h.excess,
                    frame := h.data, rx := if h.bufs.isEmpty then h.data else List.replicate h.len 0 }
  let s := ((((s.set S.INGRESS_STAMP (stampField h.stamp.time)).set S.DEADLINE dl).set S.PORT (9 + link)).set S.DIR 1).set S.CLASS cls
  let s := ((((s.set S.TC (d.rcf r RC.TC)).set S.VERSION version).set S.INSTANCE inst).set S.HOST_LINK link).set S.CELL cell
  let s := s.witnessed c (d.rcf r RC.WITNESS)
  let d := ({ d with nextShut := i + 1 }.putShut i s).count K.RING_TX_TAKEN
  (d.readBufs inst i (cls < 2) 0 h.bufs).txFetched i

/-- The head of a ring leaves it: cached copies or push, `take`, and the doorbells it has used up. -/
def Dev.txAdvance (d : Dev) (r : Nat) (h : TxHead) : Dev :=
  d.modRing r (fun x =>
    let take := d.advance r h.pos h.count
    { x with cached := x.cached.drop h.count, pushes := if h.bufs.isEmpty && d.rcf r RC.FEED = 1 then x.pushes.drop 1 else x.pushes
             take := take, stalled := false
             doorbells := x.doorbells.filter (fun b => decide (d.ahead r take b.1 ≥ 1 ∧ d.ahead r take b.1 ≤ d.ringSize r)) })

/-- The later of an arrival and a time of conformance (R40), on one scale (R102). -/
def Dev.later (d : Dev) (a : StampAt) : Option StampAt → StampAt
  | none => a
  | some b => if d.scaled a ≥ d.scaled b then a else b

/-- TX_FRAME_TAKE (R328): the next frame of a ring is taken when it conforms, its completion has space and its queue is below LIMIT. A frame
counts as padded to 60 bytes with its FCS (R322); one above HOST_MTU is taken and discarded whether it conforms or not (R456). -/
def execTxFrameTake (ring : Nat) (s : State) : Host.Outcome State Fault Refusal :=
  let d := s.dev
  let x := d.ring ring
  let inst := d.rcf ring RC.INSTANCE
  if !d.deciding || x.state ≠ RS.active || x.disabling || d.rcf ring RC.KIND ≠ 0 || !d.mayTake inst || d.atLimit ring then done s d else
  match d.txHead ring with
  | none => done s d
  | some h =>
    if d.cplFree (d.rcf ring RC.CPL_RING) < d.cplEntries ring then
      done s (if x.stalled then d
        else ((d.count K.RING_CPL_STALL).raise F.RING_EVENT_CPL_STALL).modRing ring (fun x => { x with stalled := true }))
    else if h.bad ≠ 0 then
      let d := d.txAdvance ring h
      doneH s (d.ringStatus ring h.pos 0 h.count h.bad)
    else
      let size := max 60 h.len + 4
      let tooLong := decide (size > d.sh (F.LOOM_HOST_CEIL_HOST_MTU (d.linkOf inst)))
      let go := fun (d : Dev) (env : Option Nat) (ref : StampAt) =>
        doneH s (((d.txAdvance ring h).modRing ring (fun x => { x with inWork := x.inWork + 1 })).txTake ring h env ref)
      if tooLong then doneH s (((d.txAdvance ring h).count K.RING_TX_OVER_MTU).ringStatus ring h.pos 0 h.count St.length) else
      match d.ringEnvelope ring with
      | none => go d none h.stamp
      | some e => match d.conforms e size with
        | none => done s d
        | some (b, t) => go (d.modHed (fun x => { x with env := mapPut x.env e b })) (some e) (d.later h.stamp t)

/-! ## Waiting host requests (R54, R296) -/

/-- The rank of a host request at the PCIe transmit arbiter: 0 guaranteed, 1 AS, 2 BE. Descriptor reads of a ring without an envelope, walk
reads and the mover's are AS (R301, R327, R354), and so are those of STOR; a blob's are BE (DESIGN CHOICE, assumption log 85). -/
def Dev.opRank (d : Dev) (o : HostOp) : Nat :=
  if o.guar then 0 else match o.use with
  | .txData i _ => (d.shut i).elim 2 (fun s => if s.get S.CLASS = 2 then 1 else 2)
  | .cid _ => 1
  | .blob _ => 2
  | _ => 1

/-- The deadline a guaranteed request is ordered by, on the present scale: its frame's; a descriptor read, whose frame is not known yet, takes
its ring's oldest doorbell and its envelope's BOUND (DESIGN CHOICE, assumption log 85). -/
def Dev.opTime (d : Dev) (o : HostOp) : Int :=
  match o.use with
  | .txData i _ => (d.shut i).elim 0 (fun s => d.onScale s.deadline s.dlEpoch)
  | .desc r _ _ => d.scaled (((d.ring r).doorbells.head?.map (·.2)).getD (d.stampOf d.now)) + (d.sh (EV.BOUND (d.rcf r RC.ENVELOPE)) * 65536 : Nat)
  | _ => 0

/-- Whether a request that waits is served before another that arrived later: writes keep their order among themselves and come first. -/
def Dev.opBefore (d : Dev) (a b : HostOp) : Bool :=
  if a.len = 0 ∨ b.len = 0 then a.len == 0
  else decide (d.opRank a < d.opRank b) || (d.opRank a == d.opRank b && d.opRank a == 0 && decide (d.opTime a < d.opTime b))

/-- A request put behind those served before it. -/
def Dev.opInsert (d : Dev) (o : HostOp) : List HostOp → List HostOp
  | [] => [o]
  | x :: t => if (o.len != 0 || x.len != 0) && d.opBefore o x then o :: x :: t else x :: d.opInsert o t

/-- The requests that wait for a translation or a tag tried again in the arbiter's order (R54, R296). -/
def Dev.resumeOps (d : Dev) : Dev :=
  (d.hif.waiting.foldl (fun l o => d.opInsert o l) []).foldl (fun (d : Dev) op => d.hostOp op) (d.modHif (fun h => { h with waiting := [] }))

/-! ## Received frames (R335, R336) -/

/-- Whether a receive ring is ready for Reed (R336). -/
def Dev.rxReady (d : Dev) (r : Nat) : Bool :=
  let x := d.ring r
  x.state == RS.active && !x.disabling && d.rcf r RC.KIND == 1 && !x.cached.isEmpty
    && decide (d.cplFree (d.rcf r RC.CPL_RING) ≥ d.cplEntries r) && d.mayReceive (d.rcf r RC.INSTANCE)

/-- Reed's choice takes a buffer and completion space for a frame (R335, R336). -/
def Dev.rxTake (d : Dev) (i r : Nat) : Dev :=
  match (d.ring r).cached with
  | [] => d
  | c :: t =>
    let (pos, d) := d.reserveCpl r
    let d := d.modRing r (fun x => { x with cached := t, take := d.advance r c.index 1, inWork := x.inWork + 1 })
    (d.modShut i (fun s => { s with rxRing := some r, rxIndex := d.indexOf r c.index, rxAddr := descAddr c.bytes,
                                    rxLen := descLen c.bytes, rxCplPos := some pos })).rxClean r 64

/-- The parts of a frame's first `n` bytes that go to the buffer: what TRIM keeps out is left out (R227). -/
def keepRanges (trim : List (Nat × Nat)) (n : Nat) : Nat → Nat → List (Nat × Nat)
  | 0, _ => []
  | k + 1, at_ =>
    if at_ ≥ n then [] else
    match trim.find? (fun t => t.1 ≤ at_ && at_ < t.1 + t.2) with
    | some t => keepRanges trim n k (max (at_ + 1) (t.1 + t.2))
    | none =>
      let stop := (trim.filter (fun t => decide (t.1 > at_ ∧ t.2 > 0))).foldl (fun m t => min m t.1) n
      (at_, stop - at_) :: keepRanges trim n k stop

/-- Bytes `from_` to `n` of a received frame written to its buffer; TLPs that carry bytes known bad have EP set (R299, R336). -/
def Dev.rxWrite (d : Dev) (s : Shut) (i from_ n : Nat) (b : List Byte) (bad : List (Nat × Nat)) : Dev :=
  (keepRanges s.trim n (2 * s.trim.length + 2) from_).foldl
    (fun d p => d.dmaWrite (s.get S.INSTANCE) (s.rxAddr + p.1) (sliceBytes b p.1 p.2) (.buffer i) ((rangesFrom p.1 bad).filter (fun x => decide (x.1 < p.2)))) d

/-- The departure of a host-bound frame judged (R42, R56, R58): the host transmit stage takes its fixed 65 ns from the instant its completion is
released (ch. 2, Table 5). -/
def Dev.hostLate (d : Dev) (i : Nat) : Dev :=
  match d.shut i with
  | none => d
  | some s =>
    let late := d.onScale (hostStamp (d.now + 65 * 65536)) d.epoch - d.onScale s.deadline s.dlEpoch
    if s.guaranteed && decide (late > 0) then d.declareMiss i s (missCause s (d.pathShedding s) late.toNat) late.toNat else d

/-- The end of a frame at the host (R91, R214, R323, R333): the departure test, overwriting with zeros, the completion, and the shuttle
released. -/
def Dev.hostDone (d : Dev) (i : Nat) : Dev :=
  match d.shut i with
  | none => d
  | some s =>
    if !s.writtenHost || s.lane.isSome || s.rxRing.isNone then d else
    let n := min s.frame.length (min s.rxLen (d.sh (F.LOOM_HOST_CEIL_HOST_MTU (s.get S.HOST_LINK)) - 4))
    let d := d.hostLate i
    let d := if s.scrub then (d.rxWrite s i 0 n (List.replicate n 0) []).count K.CIPH_SCRUBBED else d
    let d := ((d.rxComplete i).count K.RING_RX_WRITTEN).takeEgress s (d.stampOf (hostStamp (d.now + 65 * 65536))) (9 + s.get S.HOST_LINK) s.frame (crc32 s.frame)
    ((d.releaseSa i).txComplete i).freeShut i

/-- A host-bound frame of a function that may not receive (R310): the host has withdrawn the right, or its link is down (R420). -/
def Dev.fnDrop (d : Dev) (i : Nat) : Dev :=
  let up := match d.shut i with
    | some s => d.flag (F.HIF_LINK_STATUS_UP (s.get S.DEST_PORT - 9))
    | none => true
  (d.count K.HIF_FN_DROP).discardMiss i 5 (if up then Miss.hostCredit else Miss.shed)

/-- The longest run of a frame's bytes that its buffer and its link take (R336, R456). -/
def Dev.rxLimit (d : Dev) (s : Shut) : Nat := min s.rxLen (d.sh (F.LOOM_HOST_CEIL_HOST_MTU (s.get S.HOST_LINK)) - 4)

/-- The frame's TLPs leave (R55, R336): truncation, the data not yet written, and the completion once the tag result is known. -/
def Dev.hostRelease (d : Dev) (i : Nat) (s : Shut) : Dev :=
  let limit := d.rxLimit s
  let cut := decide (s.frame.length > limit)
  let s := if cut then (s.mark Fl.TRUNCATED).status St.length else s
  let d := if cut then d.count K.RING_RX_TRUNCATED else d
  let s := if s.flag Fl.FCS_BAD then s.status St.fcsBad else if s.flag Fl.HOST_POISON then s.status St.hostPoison else s
  let n := min s.frame.length limit
  let s := { s with writtenHost := true }
  match d.xlateRun (s.get S.INSTANCE) true (n + 1) (s.rxAddr + s.hostSent) (n - s.hostSent) with
  | .fault reason => (((d.xlateFault (s.get S.INSTANCE) s.rxAddr reason true).putShut i (s.status St.xlateFault))).hostDone i
  | _ => ((d.putShut i { s with hostSent := n }).rxWrite s i s.hostSent n s.frame s.badAt).hostDone i

/-- Whether the ring engine may begin to write a frame before its end (R336): its head will not change any more, and nothing that the end
decides holds it. The duplicate-discard unit judges a frame of a PRP pair at its end (R417). -/
def Dev.earlyHost (d : Dev) (s : Shut) : Bool :=
  s.get S.DIR == 0 && !s.policeDue && s.encapCsum.isNone && s.decapCsum.isNone && s.lane.isNone && !s.storEnd && s.trim.isEmpty
    && ((d.cfgOf s).pairOf (s.get S.PORT)).isNone && decide (s.frame.length > 64)

/-- The bytes of a frame that may be written before its end: all that have come, but for the last 64, which may be its FCS and trailer, up to the
buffer and the HOST_MTU. -/
def Dev.earlyLen (d : Dev) (s : Shut) : Nat := min (s.frame.length - 64) (d.rxLimit s)

/-- The first TLPs of a frame whose end has not arrived leave (R336). -/
def Dev.hostBegin (d : Dev) (i : Nat) (s : Shut) : Dev :=
  let n := d.earlyLen s
  (d.putShut i { s with writtenHost := true, hostSent := n }).rxWrite s i 0 n s.frame s.badAt

/-- The rest of a frame that began to leave before its end (R336). -/
def Dev.hostEnd (d : Dev) (i : Nat) : Dev :=
  match d.shut i with
  | none => d
  | some s => if s.stage == .toHost && s.writtenHost && s.ended && s.dropReason.isNone then d.hostRelease i s else d

/-- The wait of a frame for posted-write credits begins (R58). -/
def Dev.creditBegin (d : Dev) (x : Shut) : Shut := if x.creditAt.isSome then x else { x with creditAt := some (d.now, d.epoch) }

/-- A frame with the wait for posted-write credits so far (R58). -/
def Dev.creditSoFar (d : Dev) (x : Shut) : Shut :=
  match x.creditAt with
  | none => x
  | some (t, e) => { x with creditWait := x.creditWait + d.elapsed t e, creditAt := none }

/-- HOST_TLP_RELEASE (R54, R55, R58, R299, R336, R363): the chosen frame of a link whose buffer is translated leaves once its posted-write
credits are reserved; without `release.credits` it waits, and its wait is host excess. One whose end has not arrived begins to leave with the bytes
that are here, and its rest follows at its end (DESIGN CHOICE for the bytes of one TLP, assumption log 25). -/
def execHostTlpRelease (release : LinkRelease) (s : State) : Host.Outcome State Fault Refusal :=
  let d := s.dev
  match d.arbFirst false (d.shuts.filter (fun (p : Nat × Shut) =>
      p.2.stage == .toHost && p.2.get S.DEST_PORT == 9 + release.link && (p.2.ended || d.earlyHost p.2) && !p.2.writtenHost && p.2.dropReason.isNone)) with
  | none => done s d
  | some i => match d.shut i with
    | none => done s d
    | some x =>
      let inst := x.get S.INSTANCE
      if !d.mayReceive inst then doneH s (d.fnDrop i)
      else if release.pbuf = .shuttle then doneH s (d.shuttleLost i) else
      let n := if x.ended then min x.frame.length x.rxLen else d.earlyLen x
      match d.xlateRun inst true (n + 1) x.rxAddr n, x.ended with
      | .miss, _ => doneH s (d.walkPages inst x.rxAddr n x.guaranteed)
      | .fault _, false => done s d
      | _, _ =>
        if !release.credits then done s (d.putShut i (d.creditBegin x)) else
        let d := d.putShut i (d.creditSoFar x)
        let d := match release.pbuf with
          | .cell at_ => d.cellBad i at_
          | _ => d
        let x := (d.shut i).getD x
        doneH s (if x.ended then d.hostRelease i x else d.hostBegin i x)

/-! ## Ring contexts (R340) -/

/-- A ring context with its live fields (Table 9). -/
def Dev.ringShow (d : Dev) (r : Nat) (base : Rec) : Rec :=
  let x := d.ring r
  let first := if d.rcf r RC.KIND = 2 then x.reserved else if d.rcf r RC.FEED = 1 ∧ d.rcf r RC.KIND = 0 then x.producer else x.fetch
  let held := if d.rcf r RC.FEED = 1 ∧ d.rcf r RC.KIND = 0 then x.pushes.length else x.cached.length
  let z := recSet (recSet (recSet base ⟨320, 17⟩ (d.posField r first)) ⟨337, 3⟩ x.state) ⟨340, 4⟩ x.cause
  let z := recSet (recSet (recSet z ⟨352, 17⟩ (d.posField r x.producer)) ⟨384, 17⟩ (d.posField r x.consumer)) ⟨401, 1⟩ (if x.armed then 1 else 0)
  recSet (recSet z ⟨416, 14⟩ (d.startThresh r)) ⟨432, 7⟩ held

/-- RING_READ (R340). -/
def execRingRead (table set index : Nat) (s : State) : Host.Outcome State Fault Refusal :=
  done s (s.dev.indirect 0xC00100 0 table set index (fun d =>
    if table ≠ 0 ∨ index ≥ 16384 then (d, IndResult.range.code)
    else (d.showRec 0xC00200 64 (d.ringShow index ((d.setBy set).record Tab.ring index)), IndResult.ok.code)))

/-- RING_WRITE (R318, R340): the configuration fields are staged. -/
def execRingWrite (table set index : Nat) (s : State) : Host.Outcome State Fault Refusal :=
  done s (s.dev.indirect 0xC00100 1 table set index (fun d =>
    let w := BitVec.ofNat 2048 ((d.winRec 0xC00200 64).toNat % 2 ^ 320)
    if table ≠ 0 ∨ index ≥ 16384 then (d, IndResult.range.code)
    else if set = 1 then (d, IndResult.activeWrite.code)
    else if recGet w RC.KIND = 3 then (d, IndResult.range.code)
    else d.indWrite set Tab.ring index (some w) 40))

/-- RING_RESET (R339, R340): NOT_FOUND for a ring that is not valid. -/
def execRingReset (table index : Nat) (s : State) : Host.Outcome State Fault Refusal :=
  doneH s (s.dev.indirect 0xC00100 2 table 0 index (fun d =>
    if table ≠ 0 ∨ index ≥ 16384 then (d, IndResult.range.code)
    else if d.rcf index RC.VALID = 0 then (d, IndResult.notFound.code)
    else (d.ringReset index none, IndResult.ok.code)))

/-- RING_RESET_DONE (R339): taken work has ended and no read of the ring is outstanding. -/
def execRingResetDone (ring : Nat) (s : State) : Host.Outcome State Fault Refusal :=
  let d := s.dev
  let x := d.ring ring
  let busy := d.hif.reads.any (fun h => !h.quarantined && (match h.use with
    | .desc q _ _ => q == ring
    | .walk _ _ => false
    | _ => h.dead && h.inst == d.rcf ring RC.INSTANCE))
  if x.state ≠ RS.resetting || x.inWork ≠ 0 || busy then done s d else doneH s (d.ringFresh ring)

/-- A function reset of a function's rings (Table 8): as a ring reset that has ended. -/
def Dev.ringsFnReset (d : Dev) (inst : Nat) : Dev := (d.ringsOf inst).foldl (fun d r => (d.dropCached r).ringFresh r) d

end Sys2Proof.Machine
end

