-- ==== Sys2Proof/Machine/Seal.lean ====
section
/-! DEFINITION. What a cipher lane does to a frame's bytes (R202 to R212): MACsec, ESP and TLS 1.3 records, nonces from the SA's counter,
and the replay window. -/
namespace Sys2Proof.Machine
open Sys2Proof

/-! ## Keys, nonces and values -/

/-- The key bytes of an SA: AES-128 uses bytes 0 to 15 of the window (R201). -/
def Sa.aesKey (a : Sa) : List Byte := if a.f SAR.ALG = 0 ∨ a.f SAR.ALG = 2 then a.key.take 16 else a.key.take 32
/-- Whether an SA gives integrity only. -/
def Sa.gmac (a : Sa) : Bool := a.f SAR.ALG == 2 || a.f SAR.ALG == 3
/-- The 12 bytes of SALT in the record's order. -/
def Sa.salt (a : Sa) : List Byte := leBytes 12 (a.f SAR.SALT)

/-- The 64-bit value a received frame carries (Table 3): with EXT, the value nearest to the highest accepted one that has the low 32 bits
sent (DEDUCED, assumption log 27). -/
def Sa.recover (a : Sa) (low : Nat) : Nat :=
  if a.f SAR.EXT = 0 then low else
  let base := a.counter - a.counter % 2 ^ 32 + low
  let far := fun (v : Nat) => ((v : Int) - (a.counter : Int)).natAbs
  let l := (if base ≥ 2 ^ 32 then [base - 2 ^ 32] else []) ++ [base, base + 2 ^ 32]
  l.foldl (fun best v => if far v < far best then v else best) base

/-- The replay check (R204): a value above the highest accepted one, or in the window below it and not yet marked. -/
def Sa.fresh (a : Sa) (v : Nat) : Bool :=
  a.f SAR.REPLAY_EN == 0 || decide (v > a.counter) || (decide (v < a.counter ∧ a.counter - v ≤ a.f SAR.WINDOW) && !a.marked.contains v)

/-- A verified value marked; it may move the window (R204). -/
def Sa.mark (a : Sa) (v : Nat) : Sa :=
  if v > a.counter then { a with counter := v, marked := (a.counter :: a.marked).filter (fun m => decide (v - m ≤ a.f SAR.WINDOW)) }
  else { a with marked := v :: a.marked }

/-! ## IP headers -/

/-- Where an IPv6 header chain's last next-header byte and its end are. -/
def ipv6Chain (f : List Byte) : Nat → Nat → Nat → Nat × Nat
  | 0, nh, pos => (nh, pos)
  | n + 1, nh, pos =>
    if byteN f nh = 0 ∨ byteN f nh = 43 ∨ byteN f nh = 60 then ipv6Chain f n pos (pos + 8 * (byteN f (pos + 1) + 1)) else (nh, pos)

/-- The place of the protocol byte of an IP level and the end of its header. -/
def ipTail (f : List Byte) (l : IpLevel) : Nat × Nat :=
  if l.ver = 4 then (l.at_ + 9, l.at_ + ihlBytes f l.at_) else ipv6Chain f 16 (l.at_ + 6) (l.at_ + 40)

/-! ## GCM over a frame -/

/-- A protected payload opened: the plaintext, and whether the tag is right. With `gmac` the bytes are only authenticated. -/
def openGcm (gmac : Bool) (key nonce aad ct tag : List Byte) : List Byte × Bool :=
  if gmac then (ct, gcmTag key nonce (aad ++ ct) [] == tag) else (gcmCrypt key nonce ct, gcmTag key nonce aad ct == tag)
/-- A payload protected: the ciphertext and its tag. -/
def sealGcm (gmac : Bool) (key nonce aad pt : List Byte) : List Byte × List Byte :=
  if gmac then (pt, gcmTag key nonce (aad ++ pt) [])
  else (gcmCrypt key nonce pt, gcmTag key nonce aad (gcmCrypt key nonce pt))

/-! ## MACsec (R205, R206) -/

/-- The MACsec nonce of a value (IEEE 802.1AE): SCI and PN, or SSCI and the 64-bit PN with the salt. -/
def Sa.macsecIv (a : Sa) (sci v : Nat) : List Byte :=
  if a.f SAR.EXT = 0 then beBytes 8 sci ++ beBytes 4 v
  else xorBytes (beBytes 4 (a.f SAR.SPI_SSCI) ++ beBytes 8 v) a.salt

/-- The implicit SCI of a frame: its source address and port identifier 0x0001. -/
def implicitSci (f : List Byte) : Nat := macAt f 6 * 65536 + 1

/-- Bytes of the confidentiality offset. -/
def Sa.confOffset (a : Sa) : Nat := match a.f SAR.CONF_OFFSET with
  | 1 => 30
  | 2 => 50
  | _ => 0

/-- The SCI a SecTAG at an offset carries, explicit with SC set or implicit with ES set; none otherwise. -/
def secTagSci (f : List Byte) (o : Nat) : Option Nat :=
  if (byteN f o).testBit 5 then some (beNat (sliceBytes f (o + 6) 8))
  else if (byteN f o).testBit 6 then some (implicitSci f) else none

/-- Whether a SecTAG's SCI and AN are the SA's (R206). -/
def Sa.secTagOk (a : Sa) (f : List Byte) (o : Nat) : Bool :=
  secTagSci f o == some (a.f SAR.SCI_TMPL) && byteN f o % 4 == a.f SAR.AN

/-- A MACsec frame opened: without SecTAG and ICV, and whether its tag is right. `o` is the SecTAG's offset. -/
def Sa.openMacsec (a : Sa) (f : List Byte) (o v : Nat) : List Byte × Bool :=
  let start := o + (if (byteN f o).testBit 5 then 14 else 6)
  let sl := byteN f (o + 1) % 64
  let n := if sl ≠ 0 then min sl (f.length - start - 16) else f.length - start - 16
  let conf := if a.gmac then 0 else min a.confOffset n
  let body := sliceBytes f start n
  let iv := a.macsecIv (a.f SAR.SCI_TMPL) v
  let (pt, good) := openGcm a.gmac a.aesKey iv (f.take start ++ body.take conf) (body.drop conf) (sliceBytes f (start + n) 16)
  (f.take (o - 2) ++ body.take conf ++ pt, good && decide (start + 16 ≤ f.length))

/-- A frame protected by MACsec (R206): the SecTAG after the source address, and the ICV. -/
def Sa.sealMacsec (a : Sa) (f : List Byte) (v : Nat) : List Byte :=
  let body := f.drop 12
  let explicit := a.f SAR.SCI_EN == 1
  let sci := if explicit then a.f SAR.SCI_TMPL else implicitSci f
  let tci := (if explicit then 0x20 else 0x40) + (if a.gmac then 0 else 0x0C) + a.f SAR.AN
  let sl := if body.length < 48 then body.length else 0
  let head := f.take 12 ++ [0x88, 0xE5, BitVec.ofNat 8 tci, BitVec.ofNat 8 sl] ++ beBytes 4 v ++ (if explicit then beBytes 8 sci else [])
  let conf := if a.gmac then 0 else min a.confOffset body.length
  let (ct, tag) := sealGcm a.gmac a.aesKey (a.macsecIv sci v) (head ++ body.take conf) (body.drop conf)
  head ++ body.take conf ++ ct ++ tag

/-! ## ESP (R207 to R209) -/

/-- The ESP associated data: the SPI and the sequence number, extended under ESN (RFC 4106). -/
def Sa.espAad (a : Sa) (v : Nat) : List Byte :=
  beBytes 4 (a.f SAR.SPI_SSCI) ++ (if a.f SAR.EXT = 1 then beBytes 8 v else beBytes 4 v)

/-- Where a frame's ESP header starts: its security header offset, or behind UDP port 4500 under NATT unless the four zero bytes of
RFC 3948 mark key agreement. -/
def Sa.espAt (a : Sa) (f : List Byte) (p : Parsed) : Option Nat :=
  let o := p.offs.getD Off.sec 0xFFFF
  let l := if p.inner.ports && p.inner.proto == 17 then p.inner else p.outer
  if a.f SAR.NATT = 1 then
    (if l.proto = 17 ∧ l.ports ∧ !l.frag ∧ beNat (sliceBytes f (l.l4 + 2) 2) = 4500 ∧ beNat (sliceBytes f (l.l4 + 8) 4) ≠ 0
     then some (l.l4 + 8) else none)
  else if o = 0xFFFF ∨ (o ≥ 2 ∧ beNat (sliceBytes f (o - 2) 2) = 0x88E5 ∧ p.outer.ver = 0) then none else some o

/-- The IP level that carries an ESP header at an offset. -/
def espLevel (p : Parsed) (o : Nat) : IpLevel := if p.inner.ver ≠ 0 ∧ p.inner.at_ < o then p.inner else p.outer

/-- An ESP packet opened (R208): transport mode restores the protocol and the lengths; tunnel mode leaves the inner packet behind the
outer Ethernet header. -/
def Sa.openEsp (a : Sa) (f : List Byte) (p : Parsed) (o v : Nat) : List Byte × Bool :=
  let l := espLevel p o
  let stop := min f.length (l.at_ + l.len)
  let n := stop - (o + 16) - 16
  let iv := leBytes 4 (a.f SAR.SALT) ++ sliceBytes f (o + 8) 8
  let (pt, good) := openGcm false a.aesKey iv (a.espAad v) (sliceBytes f (o + 16) n) (sliceBytes f (o + 16 + n) 16)
  let nh := byteN pt (n - 1)
  let body := pt.take (n - 2 - byteN pt (n - 2))
  let good := good && decide (o + 34 ≤ stop) && decide (byteN pt (n - 2) + 2 ≤ n)
  if a.f SAR.TYPE = SaT.espTransport then
    let (ph, e) := ipTail f l
    let g := patchBytes (f.take e ++ body) ph [BitVec.ofNat 8 nh]
    (setIpLen g l.at_ (l.ver == 6) (e - l.at_ + body.length), good)
  else
    (f.take (l.at_ - 2) ++ (if byteN body 0 / 16 = 6 then [0x86, 0xDD] else [0x08, 0x00]) ++ body, good)

/-- The ESP bytes around a payload: header, IV, ciphertext with its trailer, and ICV (R209). -/
def Sa.espBody (a : Sa) (v nh : Nat) (payload : List Byte) : List Byte :=
  let pad := (4 - (payload.length + 2) % 4) % 4
  let pt := payload ++ ((List.range pad).map (fun k => BitVec.ofNat 8 (k + 1))) ++ [BitVec.ofNat 8 pad, BitVec.ofNat 8 nh]
  let iv := beBytes 8 v
  let (ct, tag) := sealGcm false a.aesKey (leBytes 4 (a.f SAR.SALT) ++ iv) (a.espAad v) pt
  beBytes 4 (a.f SAR.SPI_SSCI) ++ beBytes 4 v ++ iv ++ ct ++ tag

/-- The UDP header of NATT: ports 4500, checksum 0 (RFC 3948). -/
def nattHeader (n : Nat) : List Byte := beBytes 2 4500 ++ beBytes 2 4500 ++ beBytes 2 (n + 8) ++ [0, 0]

/-- A frame protected by ESP (R209). `t` is the template of tunnel mode; its bytes from L3 on stand before the ESP header, behind the
frame's own Ethernet header (DEDUCED, assumption log 28). -/
def Sa.sealEsp (a : Sa) (t : Rec) (f : List Byte) (p : Parsed) (v : Nat) : List Byte :=
  let l := p.outer
  let natt := a.f SAR.NATT == 1
  let proto : Byte := if natt then 17 else 50
  if l.ver = 0 then f
  else if a.f SAR.TYPE = SaT.espTransport then
    let (ph, e) := ipTail f l
    let esp := a.espBody v (byteN f ph) (sliceBytes f e (l.at_ + l.len - e))
    let esp := if natt then nattHeader esp.length ++ esp else esp
    setIpLen (patchBytes (f.take e ++ esp) ph [proto]) l.at_ (l.ver == 6) (e - l.at_ + esp.length)
  else
    let l3 := recGet t TM.L3
    let v6 := recGet t TM.IPV6 == 1
    let inner := sliceBytes f l.at_ l.len
    let esp := a.espBody v (if l.ver = 6 then 41 else 4) inner
    let head := (tmHeader t).drop l3
    let head := if natt then patchBytes head (recGet t TM.L4 - 8 - l3) (nattHeader esp.length) else head
    let head := if v6 then head else patchBytes head 4 [0, 0]
    let tos := tosAt head 0 v6
    let itos := tosOf l f
    let head := setTos head 0 v6 ((if recGet t TM.DSCP_COPY = 1 then itos else tos) / 4 * 4 + itos % 4)
    let g := f.take (l.at_ - 2) ++ (if v6 then [0x86, 0xDD] else [0x08, 0x00]) ++ head ++ esp
    setIpLen g l.at_ v6 (head.length + esp.length)

/-! ## TLS 1.3 records (R210 to R212) -/

/-- The progress of a TLS segment: the SA, the payload as it leaves, and what was found: a malformed header, a record too long, a tag
that failed, the records begun, and whether the segment ended one. -/
structure TlsRun where
  sa : Sa
  out : List Byte := []
  bad : Bool := false
  failed : Bool := false
  begun : List Nat := []
  tag : Bool := false
  deriving DecidableEq, Repr

/-- A REKEY taken at a record that begins at or after its sequence number (R212). -/
def Sa.rekeyAt (a : Sa) (seq : Nat) : Sa :=
  match a.rekey with
  | some (at_, salt, key) =>
    if seqDiff seq at_ ≥ 0 then { a with key := key, rekey := none, counter := 0, record := recSet a.record SAR.SALT (leNat salt) } else a
  | none => a

/-- The nonce of the record under way: the static IV with its sequence number. -/
def Sa.tlsIv (a : Sa) : List Byte := xorBytes a.salt (List.replicate 4 0 ++ beBytes 8 (a.counter - 1))

/-- Whether a record header is right: type 23, version 0x0303, and a length of a tag and a type at least, 2^14 + 256 at most. -/
def tlsHeaderOk (h : List Byte) : Bool :=
  byteN h 0 == 23 && beNat (sliceBytes h 1 2) == 0x0303 && decide (17 ≤ beNat (sliceBytes h 3 2) ∧ beNat (sliceBytes h 3 2) ≤ 2 ^ 14 + 256)

/-- A segment's payload record by record: `enc` encrypts and writes tags, else it decrypts and checks them. `seq` is the sequence number
of the next byte. -/
def tlsRun (enc : Bool) : Nat → TlsRun → Nat → List Byte → TlsRun
  | 0, x, _, _ => x
  | n + 1, x, seq, b =>
    if b.isEmpty || x.bad then x else
    let x := if x.sa.tls.isEmpty then
        let a := x.sa.rekeyAt seq
        { x with sa := { a with counter := a.counter + 1 }, begun := x.begun ++ [a.counter] } else x
    let a := x.sa
    let have_ := a.tls.length
    if have_ < 5 then
      let k := min (5 - have_) b.length
      let h := a.tls ++ b.take k
      if h.length = 5 ∧ !tlsHeaderOk h then { x with bad := true }
      else tlsRun enc n { x with sa := { a with tls := h }, out := x.out ++ b.take k } (seq + k) (b.drop k)
    else
      let len := beNat (sliceBytes a.tls 3 2)
      let body := 5 + len - 16
      if have_ < body then
        let k := min (body - have_) b.length
        let y := (gcmCrypt a.aesKey a.tlsIv (List.replicate (have_ - 5) 0 ++ b.take k)).drop (have_ - 5)
        tlsRun enc n { x with sa := { a with tls := a.tls ++ (if enc then y else b.take k) }, out := x.out ++ y } (seq + k) (b.drop k)
      else
        let k := min (5 + len - have_) b.length
        let tag := gcmTag a.aesKey a.tlsIv (a.tls.take 5) (sliceBytes a.tls 5 (len - 16))
        let y := if enc then sliceBytes tag (have_ - body) k else b.take k
        let tls := a.tls ++ y
        let fin := tls.length == 5 + len
        let bad := fin && !enc && decide (tls.drop body ≠ tag)
        tlsRun enc n { x with sa := { a with tls := if fin then [] else tls }, out := x.out ++ y, failed := x.failed || bad, tag := x.tag || fin }
          (seq + k) (b.drop k)

/-- A TLS segment run over an SA: the SA as it would be, and the frame with its payload changed. -/
def Sa.tlsSegment (a : Sa) (enc : Bool) (f : List Byte) (p : Parsed) : TlsRun × List Byte :=
  let (seq, o, n) := tcpSeg f p
  let r := tlsRun enc (4 * n + 4) { sa := a } seq (sliceBytes f o n)
  ({ r with sa := { r.sa with tcpSeq := (seq + n) % 2 ^ 32 } }, patchBytes f o r.out)

end Sys2Proof.Machine
end

