-- ==== Sys2Proof/Machine/Cipher.lean ====
section
/-! DEFINITION. The cipher lanes at work (R189 to R217), the SA store and the templates through their indirect registers (R197 to R203,
R221), the key window, and the random generator (R217 to R220). -/
namespace Sys2Proof.Machine
open Sys2Proof

/-! ## Values taken from an outbound SA (R202, R203) -/

/-- What taking value `v` does: SOFT_LIMIT at SOFT, and retirement with EXHAUSTED at LIMIT (R203). -/
def Dev.takeValue (d : Dev) (k v : Nat) : Dev :=
  match mapGet d.ciph.sas k with
  | none => d
  | some a =>
    let d := if v = a.f SAR.SOFT then ((d.count K.CIPH_SOFT_LIMIT).raise F.CIPH_EVENT_SOFT_LIMIT).ciphLog k 0 else d
    if v = a.f SAR.LIMIT then
      ((d.putSa k { a with state := SaS.retired, exhausted := true }).raise F.CIPH_EVENT_EXHAUSTED).ciphLog k 1
    else d

/-! ## What a lane finds in a frame -/

/-- Where a frame's SecTAG is: behind the source address, since VLAN tags in the clear are not supported (R205). -/
def macsecAt (f : List Byte) (p : Parsed) : Option Nat :=
  let o := p.offs.getD Off.sec 0xFFFF
  if o = 14 ∧ p.outer.ver = 0 ∧ beNat (sliceBytes f 12 2) = 0x88E5 then some o else none

/-- Whether an operation is MACsec on the management port, which R205 does not support: the frame goes on NOT_APPLIED (DEDUCED, assumption
log 24). -/
def Sa.macsecMgmt (a : Sa) (s : Shut) : Bool :=
  a.f SAR.TYPE == SaT.macsec && (if s.get S.CIPHER_OP = 2 then s.get S.DEST_PORT == 8 else s.get S.DIR == 0 && s.get S.PORT == 8)

/-- What a lane does with a frame of an inbound SA: nothing to apply to, another SA's frame, or a header at an offset with the value it
carries (R204, R206, R208). TLS has no header of its own. -/
inductive Inbound where
  | notApplied | mismatch | header (at_ value : Nat) | stream
  deriving DecidableEq, Repr

/-- A frame judged against its inbound SA. Frames are validated strictly, so one without a SecTAG is a mismatch too (R205; DEDUCED, assumption
log 24). -/
def Sa.inbound (a : Sa) (f : List Byte) (p : Parsed) : Inbound :=
  if a.f SAR.TYPE = SaT.tls then .stream
  else if a.f SAR.TYPE = SaT.macsec then
    match macsecAt f p with
    | none => .mismatch
    | some o => if a.secTagOk f o then .header o (a.recover (beNat (sliceBytes f (o + 2) 4))) else .mismatch
  else
    match a.espAt f p with
    | none => .notApplied
    | some o => if beNat (sliceBytes f o 4) = a.f SAR.SPI_SSCI then .header o (a.recover (beNat (sliceBytes f (o + 4) 4))) else .mismatch

/-- Whether an SA's type and direction fit an operation (DEDUCED, assumption log 24). -/
def Sa.serves (a : Sa) (op : Nat) : Bool :=
  let t := a.f SAR.TYPE
  if op = 4 then t == SaT.xts else t != SaT.xts && a.f SAR.DIR == (if op = 2 then 1 else 0)

/-! ## Results of a visit -/

/-- The operation is not applied (R208, R212, R213): the frame goes on unchanged, its visit over. -/
def Dev.notApplied (d : Dev) (i : Nat) : Dev :=
  ((d.count K.CIPH_NOT_APPLIED).modShut i (fun s =>
    { ((s.unmark Fl.TAG_PENDING).set S.CIPHER_OP 0) with cipherRes := 2, lane := none })).releaseSa i

/-- The frame's bytes as the lane leaves them. -/
def Dev.laneOut (d : Dev) (i : Nat) (f : List Byte) (good : Bool) : Dev :=
  d.modShut i (fun s => { (s.set S.LENGTH (f.length + 4)) with
    frame := f, transformed := true, tagOk := good, badAt := if s.badAt.isEmpty then [] else [(0, f.length)] })

/-- A TLS transmit segment (R211): encrypted in place with its TCP checksum, or not sent with its SA unchanged. -/
def Dev.tlsOut (d : Dev) (i k : Nat) (s : Shut) (a : Sa) (p : Parsed) : Dev :=
  let l := tcpLevel p
  let (r, f) := a.tlsSegment true s.frame p
  if !l.ports || l.proto != 6 || (tcpSeg s.frame p).1 ≠ a.tcpSeq || r.bad then
    ((d.modShut i (fun s => { s with lane := none })).setStatus i St.malformedDesc).discard i 6
  else
    let f := fixTcp f l
    let o := p.outer
    let f := if p.inner.ports && o.proto == 17 && decide (beNat (sliceBytes f (o.l4 + 6) 2) ≠ 0) then fixUdp f o.at_ o.l4 (o.ver == 6) else f
    let d := r.begun.foldl (fun d v => d.takeValue k v) (d.putSa k r.sa)
    let first := r.begun.headD (r.sa.counter - 1)
    (d.laneOut i f true).modShut i (fun s => if s.valued then s else { s with counter := first, valued := true })

/-- A TLS receive segment (R212). -/
def Dev.tlsIn (d : Dev) (i k : Nat) (s : Shut) (a : Sa) (p : Parsed) : Dev :=
  let l := tcpLevel p
  let (r, f) := a.tlsSegment false s.frame p
  if !a.sync then d.notApplied i
  else if !l.ports || l.proto != 6 || (tcpSeg s.frame p).1 ≠ a.tcpSeq || r.bad then (d.putSa k { a with sync := false }).notApplied i
  else (d.putSa k r.sa).laneOut i (if s.get S.CIPHER_OP = 3 then s.frame else f) (!r.failed)

/-- A whole frame through the lane that holds it. -/
def Dev.laneTransform (d : Dev) (i : Nat) : Dev :=
  match d.shut i with
  | none => d
  | some s => match d.saOf s with
    | none => d.laneOut i s.frame true
    | some a =>
      let k := s.get S.SA
      let op := s.get S.CIPHER_OP
      let p := parseFrame ⟨s.frame, true, 0⟩
      let v := s.cipherSeq
      if op = 4 then
        let d := if s.get S.DIR = 1 then s.xts.foldl (fun d w => d.sealXts i w) d else d
        d.modShut i (fun s => { s with transformed := true })
      else if a.f SAR.TYPE = SaT.tls then (if op = 2 then d.tlsOut i k s a p else d.tlsIn i k s a p)
      else if op = 2 then
        d.laneOut i (if a.f SAR.TYPE = SaT.macsec then a.sealMacsec s.frame v
          else a.sealEsp ((d.cfgOf s).record Tab.template (a.f SAR.SCI_TMPL % 16384)) s.frame p v) true
      else
        match a.inbound s.frame p with
        | .header o _ =>
          let (f, good) := if a.f SAR.TYPE = SaT.macsec then a.openMacsec s.frame o v else a.openEsp s.frame p o v
          d.laneOut i (if op = 3 then s.frame else f) good
        | _ => d.laneOut i s.frame false

/-- Where a frame in a lane goes on (R190, R209, R211, R214 to R216): to Reed at once, but a TLS frame whole, to its pass end with TAG_PENDING set, or nowhere until
its end or its tag result. -/
def Dev.laneOn (d : Dev) (i : Nat) : Dev :=
  match d.shut i with
  | none => d
  | some s =>
    if s.stage ≠ .inLane || s.dropReason.isSome then d
    else if s.lane.isNone then d.afterCipher i
    else if s.get S.CIPHER_OP = 4 ∧ s.get S.DIR = 0 then d
    else if s.get S.CIPHER_OP = 2 ∨ s.get S.CIPHER_OP = 4 then
      if s.ended then
        let d' := d.encap i (s.frame.length + 4)
        let d := if s.flag Fl.ENCAP_PENDING && decide (s.get S.DEST_PORT ≤ 7) then d' else d'.checkGrowth i
        match d.shut i with
        | some x => if x.dropReason.isSome then d else d.toReed i
        | none => d
      else if s.flag Fl.ENCAP_PENDING || d.namesTls s then d else d.toReed i
    else if s.get S.PROGRAM ≠ 0 || s.flag Fl.RECIRCULATE then d
    else if !s.ended && (s.decapWanted || s.flag Fl.ENCAP_PENDING) then d
    else d.afterCipher i

/-- The end of a frame that a lane holds: its bytes are transformed; one already past the lane may have grown past its MTU. -/
def Dev.laneEnd (d : Dev) (i : Nat) : Dev :=
  match d.shut i with
  | none => d
  | some s =>
    if s.lane.isNone || !s.ended || s.transformed then d else
    let d := d.laneTransform i
    if s.stage = .inLane then d.laneOn i else if s.get S.CIPHER_OP = 2 then d.checkGrowth i else d

/-! ## CIPHER_LANE_ENTER -/

/-- The frames a lane may take: the head of each SA of its group, whose other frames are in no other lane (R191). -/
def Dev.laneHeads (d : Dev) (lane : Nat) : List (Nat × Shut) :=
  d.shuts.filter (fun (p : Nat × Shut) => p.2.stage == .lane && p.2.dropReason.isNone && (match d.saOf p.2 with
    | none => true
    | some a =>
      a.cached && d.groupOf p.2 a == d.sh (F.CIPH_LANE_CFG_GROUP lane)
        && d.shuts.all (fun (q : Nat × Shut) => q.2.get S.SA != p.2.get S.SA
          || ((q.2.lane.isNone || q.2.lane == some lane) && !(q.2.stage == .lane && decide (q.2.seq < p.2.seq))))))

/-- A frame enters a lane (R190 to R204). -/
def Dev.laneEnter (d : Dev) (lane i : Nat) (s : Shut) (a : Sa) : Dev :=
  let k := s.get S.SA
  let op := s.get S.CIPHER_OP
  let s := { s with visits := s.visits + 1 }
  let d := (d.putShut i s).modCiph (fun c => { c with useCount := c.useCount + 1, sas := mapPut c.sas k { a with used := c.useCount } })
  let a := { a with used := d.ciph.useCount - 1 }
  let p := parseFrame ⟨s.frame, s.ended, (d.cfgOf s).get F.HED_PARSE_CFG_NVME_PORT⟩
  let enter := fun (d : Dev) (s : Shut) =>
    let s := { s with lane := some lane, transformed := false, tagOk := true, stage := .inLane }
    let d := d.putShut i (if op = 1 ∨ op = 3 then s.mark Fl.TAG_PENDING else s)
    if s.ended then (d.laneTransform i).laneOn i else d.laneOn i
  if a.state = SaS.retired then
    let d := d.count K.CIPH_SA_RETIRED_DROP
    (if s.get S.DIR = 1 then d.setStatus i St.saExhausted else d).discard i 6
  else if !a.serves op then d.saMismatch i
  else if op = 1 ∨ op = 3 then
    if a.macsecMgmt s then ((d.notApplied i).modShut i (fun s => { s with stage := .inLane })).laneOn i else
    match a.inbound s.frame p with
    | .notApplied => ((d.notApplied i).modShut i (fun s => { s with stage := .inLane })).laneOn i
    | .mismatch => d.saMismatch i
    | .stream => enter d s
    | .header _ v => if a.fresh v then enter d { s with cipherSeq := v } else (d.count K.CIPH_REPLAY_DROP).discard i 6
  else if op = 2 ∧ a.f SAR.TYPE ≠ SaT.tls then
    let t := (d.cfgOf s).record Tab.template (a.f SAR.SCI_TMPL % 16384)
    if a.macsecMgmt s || (a.f SAR.TYPE ≠ SaT.macsec ∧ p.outer.ver = 0) then
      ((d.notApplied i).encap i (s.frame.length + 4)).toReed i
    else if a.f SAR.TYPE = SaT.espTunnel ∧ (recGet t TM.VALID = 0 ∨ recGet t TM.KIND ≠ 2) then d.saMismatch i
    else
      let v := a.counter
      let d := (d.putSa k { a with counter := (v + 1) % 2 ^ 64 }).takeValue k v
      enter d { s with cipherSeq := v, counter := if s.valued then s.counter else v, valued := true }
  else enter d s

/-- AS and BE frames that wait for a group whose last lane has gone (R191). -/
def Dev.noLanes (d : Dev) : Dev :=
  let l := (d.shuts.filter (fun (p : Nat × Shut) => p.2.stage == .lane && p.2.dropReason.isNone && !p.2.guaranteed
    && (d.saOf p.2).elim false (fun a => (d.lanesOf (d.groupOf p.2 a)).isEmpty))).map (·.1)
  l.foldl (fun d i => ((d.count K.CIPH_NO_LANE).discard i 6).settlePass i) d

/-- CIPHER_LANE_ENTER (R191): a lane with no frame in work takes the first of its candidates under R54. -/
def execCipherLaneEnter (lane : Nat) (s : State) : Host.Outcome State Fault Refusal :=
  let d := s.dev
  if !d.deciding || lane ≥ 16 || d.get (F.CIPH_LANE_CFG_OUT lane) = 1
      || d.shuts.any (fun (p : Nat × Shut) => p.2.lane == some lane && !p.2.transformed) then done s d else
  match d.arbFirst false (d.laneHeads lane) with
  | none => done s d
  | some i => if d.isGated 1 lane then done s (d.wake 1 lane) else match d.shut i with
    | none => done s d
    | some x => match d.saOf x with
      | none => doneH s ((d.saMismatch i).settlePass i)
      | some a => doneH s ((d.laneEnter lane i x a).settlePass i)

/-! ## CIPHER_TAG_RESULT -/

/-- The shuttle and the PRP copy that shares its bytes and its lane visit. -/
def Dev.tagCopies (d : Dev) (i : Nat) : List Nat :=
  i :: (d.shuts.filter (fun (p : Nat × Shut) => p.2.prpCopyOf == some i && p.2.lane.isSome)).map (·.1)

/-- A shuttle's visit ends with its CIPHER_RESULT, and what waited for it goes on: a discard, the stage after the lane, the completion of a
host frame, or the FCS of a departed one (R200, R214 to R216). -/
def Dev.visitEnd (d : Dev) (i res : Nat) : Dev :=
  let d := (d.modShut i (fun s => { ((s.unmark Fl.TAG_PENDING).set S.CIPHER_OP 0) with cipherRes := res, lane := none })).releaseSa i
  match d.shut i with
  | none => d
  | some s => match s.dropReason with
    | some r => if s.ended then d.finish i r else d
    | none => if s.stage = .inLane then d.afterCipher i else (d.hostDone i).departEnd i

/-- A frame whose tag failed (R213 to R216). -/
def Dev.tagFailed (d : Dev) (i : Nat) : Dev :=
  match d.shut i with
  | none => d
  | some s =>
    let d := d.putShut i ((s.mark Fl.AUTH_FAIL).status St.authFail)
    if s.dropReason.isSome then d.visitEnd i 3
    else if s.stage = .inLane then
      ((d.count K.CIPH_AUTH_FAIL_DROPPED).modShut i (fun s => { s with lane := none, cipherRes := 3 })).discard i 6
    else if s.get S.DEST_PORT ≤ 8 then
      if s.stage = .toLands || s.departed then
        ((d.count K.CIPH_AUTH_FAIL_STOMPED).modShut i (fun s => { s with stomp := true })).visitEnd i 3
      else ((d.count K.CIPH_AUTH_FAIL_DROPPED).modShut i (fun s => { s with lane := none, cipherRes := 3 })).discard i 6
    else
      let scrub := !s.guaranteed && (match d.saOf s with
        | some a => a.f SAR.SCRUB == 1
        | none => false)
      (d.modShut i (fun s => { s with scrub := scrub })).visitEnd i 3

/-- What a good encryption leaves behind (R211, R228): counts, TLS ciphertext written back, decrypted XTS data placed. -/
def Dev.sealed (d : Dev) (s : Shut) : Dev :=
  match d.saOf s with
  | none => d
  | some a =>
    let d := d.count K.CIPH_ENCRYPTED
    if a.f SAR.TYPE = SaT.tls then d.writeBack (s.get S.INSTANCE) s.src (s.frame.drop (s.frame.length - s.rx.length)) else d

/-- Decrypted command data leaves the lane and is placed; then the frame goes to Reed (R190, R228). -/
def Dev.xtsResult (d : Dev) (i : Nat) (s : Shut) : Dev :=
  let d := (d.count K.CIPH_DECRYPTED).modShut i (fun s =>
    { ((s.unmark Fl.TAG_PENDING).set S.CIPHER_OP 0) with cipherRes := 1, lane := none, storLate := true, xts := [], stor := [] })
  match s.dropReason with
  | some r => if s.ended then d.finish i r else d
  | none => (s.xts.foldl (fun d w => d.openXts i w) d).storGo i

/-- The tag result of an inbound frame: the SA with its window moved for a verified value, whether the frame is good, and whether a
replay was found after its tag (R204). -/
def Sa.verified (a : Sa) (s : Shut) : Sa × Bool × Bool :=
  if !s.tagOk then (a, false, false)
  else if a.f SAR.TYPE = SaT.tls then (a, true, false)
  else if !a.fresh s.cipherSeq then (a, false, true)
  else (if a.f SAR.REPLAY_EN = 1 then a.mark s.cipherSeq else { a with counter := max a.counter s.cipherSeq }, true, false)

/-- The tag result of a shuttle and its copies. -/
def Dev.tagResult (d : Dev) (i : Nat) (s : Shut) : Dev :=
  let op := s.get S.CIPHER_OP
  let l := d.tagCopies i
  if op = 4 ∧ s.get S.DIR = 0 then d.xtsResult i s else
  if op = 2 ∨ op = 4 then l.foldl (fun d j => d.visitEnd j 1) (d.sealed s) else
  match d.saOf s with
  | none => l.foldl (fun d j => d.visitEnd j 3) d
  | some a =>
    let (a, good, late) := a.verified s
    let d := d.putSa (s.get S.SA) a
    if good then l.foldl (fun d j => d.visitEnd j 1) (if op = 1 then d.count K.CIPH_DECRYPTED else d)
    else
      let d := if late then d.count K.CIPH_REPLAY_DROP else d
      l.foldl (fun d j => d.tagFailed j) ((d.count K.CIPH_AUTH_FAIL).raise F.CIPH_EVENT_AUTH_FAIL)

/-- CIPHER_TAG_RESULT (R192, R204, R213 to R216): the lane has had a frame's last byte and gives its result. -/
def execCipherTagResult (shuttle : Nat) (s : State) : Host.Outcome State Fault Refusal :=
  let d := s.dev
  match d.shut shuttle with
  | none => done s d
  | some x =>
    if x.lane.isNone || !x.transformed then done s d else doneH s ((d.tagResult shuttle x).settlePass shuttle)

/-! ## The SA cache and the SA store -/

/-- Where the SA store begins in DDR5: behind the mirrored regions, in the order of ch. 15, Table 1 (DESIGN CHOICE, assumption log 12). -/
def saStoreBase : Nat := 688 * 2 ^ 20
/-- An SA written to its 256 bytes of DDR5: the record, the key wrapped under the die key, and the replay window (R197). -/
def Dev.storeSa (d : Dev) (k : Nat) (a : Sa) : Dev :=
  let w := aesWrap d.ciph.dieKey a.key
  d.ddrWrite (saStoreBase + 256 * k) ((List.range 256).map (Config.saImage (leBytes 66 a.record.toNat ++ leBytes 8 a.counter) w a.marked))

/-- An unpinned SA evicted, the least recently used first, while more than 65,536 are cached; its counters are written back (R198). -/
def Dev.evictSa (d : Dev) : Dev :=
  let l := d.ciph.sas.filter (fun (p : Nat × Sa) => p.2.cached)
  if l.length ≤ 65536 then d else
  match (l.filter (fun (p : Nat × Sa) => p.2.f SAR.PIN == 0 && !(d.shuts.any (fun q => q.2.stage == .lane && q.2.get S.SA == p.1)))).foldl (fun (b : Option (Nat × Sa)) p => match b with
      | none => some p
      | some q => if p.2.used < q.2.used then some p else b) none with
  | none => d
  | some (k, a) => (d.storeSa k a).putSa k { a with cached := false }

/-- SA_FETCH_DONE (R198, R369): the SA is in the cache, its keys unwrapped. `err` is what the read finds in the DDR5 word at `addr`; an SA
with a word known bad stays out of the cache (DEDUCED, assumption log 37). -/
def execSaFetchDone (sa err addr row : Nat) (s : State) : Host.Outcome State Fault Refusal :=
  let d := s.dev
  if !d.ciph.fetching.contains sa then done s d else
  let d := d.modCiph (fun c => { c with fetching := c.fetching.filter (fun k => k != sa), useCount := c.useCount + 1 })
  let d := d.dramFound err addr row
  if err ≥ 2 then done s d else
  match mapGet d.ciph.sas sa with
  | none => done s d
  | some a => done s (d.putSa sa { a with cached := true, used := d.ciph.useCount }).evictSa

/-- The data window of the cipher unit. -/
def ciphWin : Nat := 0x700300
/-- RESULT codes that only the cipher unit gives. -/
def busySa : Nat := 6
def noKey : Nat := 7

/-- The fields that a WRITE takes: all but the read-only ones (Table 5). -/
def saWritable (r : Rec) : Rec :=
  BitVec.ofNat 2048 (bitsSet (r.toNat % 2 ^ 480) 20 12 0)

/-- A record as READ shows it. -/
def Sa.show (a : Sa) : Rec :=
  let r := recSet (recSet (recSet a.record SAR.STATE a.state) SAR.EXHAUSTED (if a.exhausted then 1 else 0)) SAR.SYNC (if a.sync then 1 else 0)
  recSet (recSet (recSet (recSet r SAR.COUNTER a.counter) SAR.TCP_SEQ a.tcpSeq) SAR.REFS a.refs) SAR.RECORD_OFFSET a.tls.length

/-- First value and largest LIMIT of an SA type (Table 3); none for XTS. -/
def counterRange (t ext : Nat) : Option (Nat × Nat) :=
  if t = SaT.xts then none
  else if t = SaT.tls then some (0, 2 ^ 24)
  else if ext = 0 then some (1, 2 ^ 32 - 1)
  else if t = SaT.macsec then some (1, 2 ^ 64 - 2) else some (1, 2 ^ 64 - 1)

/-- The fields of a WRITE that give RANGE (R202, Table 5). -/
def saOutOfRange (r : Rec) : Bool :=
  let t := recGet r SAR.TYPE
  let alg := recGet r SAR.ALG
  let counter := match counterRange t (recGet r SAR.EXT) with
    | none => false
    | some (lo, hi) =>
      decide (recGet r SAR.LIMIT > hi) || decide (recGet r SAR.COUNTER > hi)
        || (recGet r SAR.DIR == 1 && (decide (recGet r SAR.COUNTER < lo) || decide (recGet r SAR.LIMIT < lo)))
  decide (t > 4) || decide (alg > 4) || ((alg == 2 || alg == 3) && t != SaT.macsec) || ((alg == 4) != (t == SaT.xts))
    || recGet r SAR.CONF_OFFSET == 3 || decide (recGet r SAR.WINDOW > 1024) || counter || decide (recGet r SAR.SOFT > recGet r SAR.LIMIT)

/-- An operation on the SA store: RANGE above the last index. -/
def Dev.saIndirect (d : Dev) (op index : Nat) (f : Dev → Dev × Nat) : Dev :=
  d.indirect 0x700200 op 0 0 index (fun d => if index ≥ 1048576 then (d, IndResult.range.code) else f d)

/-- The key window consumed (R201). -/
def Dev.consumeKey (d : Dev) : Dev := d.modCiph (fun c => { c with keyWin := List.replicate 64 0, keyLoaded := false })

/-- A WRITE or REKEY on the SA store: whatever its result, it consumes the key window (R201). -/
def Dev.saKeyed (d : Dev) (op index : Nat) (f : Dev → Dev × Nat) : Dev :=
  d.indirect 0x700200 op 0 0 index (fun d =>
    let (e, r) := if index ≥ 1048576 then (d, IndResult.range.code) else f d
    (e.consumeKey, r))

/-- SA_READ (R221): the record without its key; a FREE SA shows zeros. -/
def execSaRead (index : Nat) (s : State) : Host.Outcome State Fault Refusal :=
  done s (s.dev.saIndirect 0 index (fun d => match mapGet d.ciph.sas index with
    | none => (d.showRec ciphWin 256 0, IndResult.notFound.code)
    | some a => (d.showRec ciphWin 256 a.show, IndResult.ok.code)))

/-- SA_WRITE (R198, R200, R202): a FREE SA takes the record and the loaded key, and is ACTIVE. -/
def execSaWrite (index : Nat) (s : State) : Host.Outcome State Fault Refusal :=
  done s (s.dev.saKeyed 1 index (fun d =>
    let r := d.winRec ciphWin 256
    let pin := recGet r SAR.PIN
    let pinned := d.get F.CIPH_CACHE_STATUS_PINNED
    if (mapGet d.ciph.sas index).isSome then (d, busySa)
    else if saOutOfRange r then (d, IndResult.range.code)
    else if !d.ciph.keyLoaded then (d, noKey)
    else if pin = 1 ∧ pinned ≥ 16384 then (d, IndResult.noSpace.code)
    else
      let a : Sa := { record := saWritable r, key := d.ciph.keyWin, state := SaS.active, sync := recGet r SAR.TYPE == SaT.tls,
                      counter := recGet r SAR.COUNTER, tcpSeq := recGet r SAR.TCP_SEQ, cached := pin == 1, used := d.ciph.useCount }
      ((((d.putSa index a).storeSa index a).set F.CIPH_CACHE_STATUS_PINNED (pinned + pin)).evictSa, IndResult.ok.code)))

/-- SA_RETIRE (R200). -/
def execSaRetire (index : Nat) (s : State) : Host.Outcome State Fault Refusal :=
  done s (s.dev.saIndirect 2 index (fun d => match mapGet d.ciph.sas index with
    | none => (d, IndResult.notFound.code)
    | some a =>
      if a.state ≠ SaS.active then (d, IndResult.ok.code)
      else (((d.putSa index { a with state := SaS.retired }).ciphLog index 2).freeSa index, IndResult.ok.code)))

/-- SA_REKEY (R212): a new key and static IV from the first record that begins at or after TCP_SEQ. -/
def execSaRekey (index : Nat) (s : State) : Host.Outcome State Fault Refusal :=
  done s (s.dev.saKeyed 3 index (fun d => match mapGet d.ciph.sas index with
    | none => (d, IndResult.notFound.code)
    | some a =>
      if a.f SAR.TYPE ≠ SaT.tls then (d, IndResult.range.code)
      else if !d.ciph.keyLoaded then (d, noKey)
      else
        let r := d.winRec ciphWin 256
        (d.putSa index { a with rekey := some (recGet r SAR.TCP_SEQ, leBytes 12 (recGet r SAR.SALT), d.ciph.keyWin) },
          IndResult.ok.code)))

/-- SA_RESYNC (R212): SYNC is restored at a record start. -/
def execSaResync (index : Nat) (s : State) : Host.Outcome State Fault Refusal :=
  done s (s.dev.saIndirect 4 index (fun d => match mapGet d.ciph.sas index with
    | none => (d, IndResult.notFound.code)
    | some a =>
      if a.f SAR.TYPE ≠ SaT.tls then (d, IndResult.range.code)
      else
        let r := d.winRec ciphWin 256
        (d.putSa index { a with sync := true, tcpSeq := recGet r SAR.TCP_SEQ, counter := recGet r SAR.COUNTER, tls := [] }, IndResult.ok.code)))

/-- TEMPLATE_READ (R221). -/
def execTemplateRead (set index : Nat) (s : State) : Host.Outcome State Fault Refusal :=
  done s (s.dev.indirect 0x700200 0 1 set index (fun d =>
    if index ≥ 16384 then (d, IndResult.range.code)
    else (d.showRec ciphWin 256 ((d.setBy set).record Tab.template index), IndResult.ok.code)))

/-- TEMPLATE_WRITE (R193, R221): staged in the shadow set. -/
def execTemplateWrite (set index : Nat) (s : State) : Host.Outcome State Fault Refusal :=
  done s (s.dev.indirect 0x700200 1 1 set index (fun d =>
    if index ≥ 16384 then (d, IndResult.range.code)
    else d.indWrite set Tab.template index (some (BitVec.ofNat 2048 ((d.winRec ciphWin 256).toNat % 2 ^ 1088))) 136))

/-- KEY_WRITE (R201): a word of the write-only key window. -/
def execKeyWrite (offset : Nat) (value : Word) (s : State) : Host.Outcome State Fault Refusal :=
  let d := s.dev
  if !d.responds (0x700400 + offset) || offset ≥ 64 then done s d else
  done s (d.modCiph (fun c => { c with keyWin := patchBytes c.keyWin (offset / 4 * 4) (leBytes 4 value.toNat), keyLoaded := true }))

/-! ## Entropy (R217 to R220) -/

/-- The generator runs. -/
def Dev.drbgReady (d : Dev) : Bool := d.flag F.CIPH_STATUS_DRBG_READY
/-- The DRBG seeded from a source that has passed its start-up test: ready, and its request count anew. -/
def Dev.drbgSeed (d : Dev) : Dev :=
  ((d.set F.CIPH_STATUS_ENTROPY_OK 1).set F.CIPH_STATUS_DRBG_READY 1).modCiph (fun c => { c with requests := 0, unseeded := [] })

/-- Requests made of the DRBG, which is reseeded after 2^20 of them at the latest (R219). -/
def Dev.drbgUsed (d : Dev) (n : Nat) : Dev :=
  d.modCiph (fun c => { c with requests := if c.requests + n ≥ 2 ^ 20 then 0 else c.requests + n })

/-- RNG_READ (R220): 32 fresh bits, or 0 with RNG_EMPTY. -/
def execRngRead (s : State) : Host.Outcome State Fault Refusal :=
  let d := s.dev
  if !d.responds 0x700010 then done s d
  else if d.drbgReady then
    let (v, d) := d.fresh
    done s ((d.drbgUsed 1).emit (.readData (v.toNat % 2 ^ 32)))
  else done s ((d.raise F.CIPH_EVENT_RNG_EMPTY).emit (.readData 0))

/-- ENTROPY_HEALTH_FAIL (R220): the DRBG stops. -/
def execEntropyHealthFail (s : State) : Host.Outcome State Fault Refusal :=
  let d := s.dev
  if d.get F.CIPH_STATUS_ENTROPY_OK = 0 then done s d else
  let d := (d.set F.CIPH_STATUS_ENTROPY_OK 0).set F.CIPH_STATUS_DRBG_READY 0
  done s (((d.raise F.CIPH_EVENT_ENTROPY_FAIL).fault Code.entropy).count K.CIPH_ENTROPY_FAIL)

/-- DRBG_RESEED (R219). -/
def execDrbgReseed (s : State) : Host.Outcome State Fault Refusal :=
  let d := s.dev
  if !d.drbgReady then done s d else done s (d.modCiph (fun c => { c with requests := 0 }))

/-- MASK_RESEED (R218, R219): a lane's mask generator takes a new seed; without one a lane draws no more randomness, and keeps encrypting. -/
def execMaskReseed (lane : Nat) (s : State) : Host.Outcome State Fault Refusal :=
  let d := s.dev
  let others := d.ciph.unseeded.filter (fun l => l != lane)
  done s ((if d.drbgReady then d.drbgUsed 1 else d).modCiph (fun c => { c with unseeded := if d.drbgReady then others else lane :: others }))

end Sys2Proof.Machine
end

