-- ==== Sys2Proof/Machine/Threads.lean ====
section
/-! DEFINITION. Barbor threads, their events, locks and channels as every chapter needs them (R260 to R263, R270 to R278). Threads are
numbered 8 × core + thread. -/
namespace Sys2Proof.Machine
open Sys2Proof

/-- A thread. -/
def Dev.thread (d : Dev) (n : Nat) : Thread := mapGetD d.barb.threads n {}
/-- A thread stored. -/
def Dev.putThread (d : Dev) (n : Nat) (t : Thread) : Dev := d.modBarb (fun b => { b with threads := mapPut b.threads n t })
/-- A thread changed. -/
def Dev.modThread (d : Dev) (n : Nat) (f : Thread → Thread) : Dev := d.putThread n (f (d.thread n))
/-- The threads of a core. -/
def coreThreads (c : Nat) : List Nat := (List.range 8).map (fun t => 8 * c + t)

/-- An event bit of a thread set (R276); an event is work, and wakes a gated core (R29). -/
def Dev.threadEvent (d : Dev) (n bit : Nat) : Dev :=
  if n < 512 then (d.wake 0 (n / 8)).modThread n (fun t => { t with events := t.events ||| 2 ^ bit }) else d

/-! ## Registers -/

/-- A register; w0 reads 0 (R260). -/
def Thread.reg (t : Thread) (r : Nat) : Dword := if r = 0 then 0 else mapGetD t.regs r 0
/-- A register written; a write to w0 is discarded (R260). -/
def Thread.setReg (t : Thread) (r : Nat) (v : Dword) : Thread := if r = 0 then t else { t with regs := mapPut t.regs r v }

/-! ## Pools and programs -/

/-- Whether a thread is a DISPATCH thread (R263). -/
def Dev.isDispatch (d : Dev) (n : Nat) : Bool := (d.sh (F.BARB_CORE_POOL_DISPATCH (n / 8))).testBit (n % 8)
/-- Whether a thread is a GUAR thread (R263). -/
def Dev.isGuar (d : Dev) (n : Nat) : Bool := d.isDispatch n && (d.sh (F.BARB_CORE_POOL_GUAR (n / 8))).testBit (n % 8)

/-- The words of a core's code region, as the image gives them (R260). -/
def Dev.codeWords (d : Dev) (c : Nat) : Nat := mapGetD d.barb.code c 0

/-! ## Channels -/

/-- The binding record of a channel (Table 13): valid, and its thread's number. -/
def Dev.chanThread (d : Dev) (q : Nat) : Option Nat :=
  let r := d.cfg.active.record Tab.binding q
  if recGet r ⟨3, 1⟩ = 1 then some (8 * (q / 16) + recGet r ⟨0, 3⟩) else none
/-- The messages of a channel. -/
def Dev.chan (d : Dev) (q : Nat) : List (List Dword) := mapGetD d.barb.chans q []
/-- Messages on their way to a channel. -/
def Dev.chanFlight (d : Dev) (q : Nat) : Nat := (d.barb.flight.filter (fun m => m.chan == q)).length
/-- Whether a channel has a place: 8 messages, those on their way counted (R273, R274). -/
def Dev.chanRoom (d : Dev) (q : Nat) : Bool := decide ((d.chan q).length + d.chanFlight q < 8)
/-- A message put on its way behind the earlier ones: those sent in one weave-clock cycle enter in order of logical core, then thread (R273). -/
def sendBehind (l : List ChanMsg) (m : ChanMsg) : List ChanMsg :=
  let later := fun (x : ChanMsg) => x.cycle == m.cycle && decide (x.sender > m.sender)
  l.filter (fun x => !later x) ++ [m] ++ l.filter later
/-- A message sent on its way by thread `n`. -/
def Dev.chanSend (d : Dev) (n q : Nat) (m : List Dword) : Dev :=
  d.modBarb (fun b => { b with flight := sendBehind b.flight ⟨q, m, n, d.time.cycles⟩ })

/-- The event bits of a thread as WAITE sees them: CHANNEL is set while a queue bound to the thread is non-empty (Table 8). -/
def Dev.threadEvents (d : Dev) (n : Nat) : Nat :=
  let ch := (List.range 16).any (fun k => d.chanThread (16 * (n / 8) + k) == some n && !(d.chan (16 * (n / 8) + k)).isEmpty)
  (d.thread n).events ||| (if ch then 1 else 0)

/-! ## Locks (R270 to R272) -/

/-- The locks a thread holds, in index order. -/
def Dev.locksOf (d : Dev) (n : Nat) : List Nat := (d.barb.locks.filter (fun p => p.2.owner == n)).map (·.1)
/-- A lock released: it passes to the head of its FIFO (R271). -/
def Dev.unlock (d : Dev) (k : Nat) : Dev :=
  match mapGet d.barb.locks k with
  | none => d
  | some l => match l.waiters with
    | [] => d.modBarb (fun b => { b with locks := mapErase b.locks k })
    | w :: t => d.modBarb (fun b => { b with locks := mapPut b.locks k ⟨w, t⟩ })
/-- Every waiting request of a thread withdrawn. -/
def Dev.withdrawLocks (d : Dev) (n : Nat) : Dev :=
  d.modBarb (fun b => { b with locks := b.locks.map (fun p => (p.1, { p.2 with waiters := p.2.waiters.filter (fun w => w != n) })) })
/-- The locks of an ended thread released in index order and its request withdrawn; each lock is counted (R272). -/
def Dev.dropLocks (d : Dev) (n : Nat) : Dev :=
  let l := d.locksOf n
  let d := l.foldl (fun d k => d.unlock k) (d.withdrawLocks n)
  if l.isEmpty then d else (d.count K.BARB_LOCK_LEAKED l.length).raise F.BARB_EVENT_LOCK_LEAK

/-! ## The end of a thread -/

/-- A thread becomes IDLE: its locks are released and its staging area is discarded (R272, R275); the registers and events stay. -/
def Dev.endThread (d : Dev) (n : Nat) : Dev :=
  (d.dropLocks n).modThread n (fun t => { t with run := 0, halted := false, stepDue := false, wait := .none, staging := [], shuttle := none, win := [], guar := false })

/-- A BARB_LOG entry (ch. 11, BARB registers). -/
def Dev.barbLog (d : Dev) (n cause pc program : Nat) : Dev :=
  d.logPut 0xB00008 0xB00800 4 (d.nowNs % 2 ^ 64 + 2 ^ 64 * (n / 8 % 64) + 2 ^ 72 * (n % 8) + 2 ^ 80 * cause + 2 ^ 96 * (pc % 2 ^ 16) + 2 ^ 112 * (program % 2 ^ 16))

/-- The program of the shuttle that a thread holds; 0 for none. -/
def Dev.programOf (d : Dev) (n : Nat) : Nat :=
  match (d.thread n).shuttle with
  | none => 0
  | some i => match d.shut i with
    | some s => s.get S.PROGRAM
    | none => 0

/-- A shuttle whose program failed runs its flow's exception list, and its pass then ends (R149, R282). -/
def Dev.programExc (d : Dev) (i : Nat) : Dev :=
  match d.shut i with
  | none => d
  | some s => (((d.putShut i { s with stage := .pass }).setStatus i St.programFault).runExc i s.exc 1 none).settlePass i

/-- A shuttle held by a thread is discarded by the module: the thread ends as by TSTOP (R279). -/
def Dev.threadOf (d : Dev) (i : Nat) : Option Nat := (d.barb.threads.find? (fun p => p.2.shuttle == some i)).map (·.1)
/-- The thread that holds a shuttle ended without write-back (R279). -/
def Dev.leaveThread (d : Dev) (i : Nat) : Dev :=
  match d.threadOf i with
  | some n => d.endThread n
  | none => d

end Sys2Proof.Machine
end

