-- ==== Sys2Proof/Machine/Mailbox.lean ====
section
/-! DEFINITION. Mailboxes (R341 to R350). -/
namespace Sys2Proof.Machine
open Sys2Proof

/-! ## One direction (R341, R342) -/

/-- What a write or a read of a direction led to: nothing to report, a message, or a message whose word 15 was written again. -/
structure MboxEff where
  sent : Bool := false
  collision : Bool := false
  emptied : Bool := false
  deriving DecidableEq, Repr

/-- A write of one word: word 15 sends; a write while FULL sets COLLISION on both sides. -/
def MboxDir.write (x : MboxDir) (w : Nat) (v : Word) : MboxDir × MboxEff :=
  let col := x.full
  ({ x with words := mapPut x.words w v, full := x.full || w == 15, colS := x.colS || col, colR := x.colR || col },
   { sent := w == 15, collision := col })

/-- A read of word 15 while FULL empties the direction. -/
def MboxDir.readLast (x : MboxDir) : MboxDir × MboxEff := ({ x with full := false }, { emptied := x.full })

/-- A receiver reset (R345): the words and flags clear, and the sender's ABORTED is set. -/
def MboxDir.receiverReset (_ : MboxDir) : MboxDir := { aborted := true }

/-! ## Interrupts (R347) -/

/-- A vector of a function raised; while Bus Master Enable is clear its pending bit is set instead (R309). -/
def Dev.raiseVector (d : Dev) (inst v : Nat) : Dev :=
  if d.mayRequest inst then d.emit (.msix inst v)
  else d.modHif (fun h => { h with pending := mapPut h.pending inst (v :: mapGetD h.pending inst []) })

/-- A bit of MBOX_EVENT set; the manager's vector is raised when the register leaves 0 while IRQ_EN = 1. -/
def Dev.mboxEvent (d : Dev) (f : Fld) : Dev :=
  let was := (d.word 0xD00000).toNat
  let d := d.raise f
  if was = 0 ∧ d.get F.MBOX_MGR_CFG_IRQ_EN = 1 then d.raiseVector 0 (d.get F.MBOX_MGR_CFG_VECTOR) else d

/-! ## User-class pairs (R346 to R348) -/

/-- The pair of an instance. -/
def Dev.pair (d : Dev) (inst : Nat) : MboxPair := mapGetD d.mbox.user inst {}
/-- The pair of an instance stored. -/
def Dev.putPair (d : Dev) (inst : Nat) (p : MboxPair) : Dev := d.modMbox (fun m => { m with user := mapPut m.user inst p })
/-- DOWN_IRQ and EMPTY_IRQ of a function's CTRL. -/
def MboxPair.downIrq (p : MboxPair) : Bool := p.ctrl.toNat.testBit 16
def MboxPair.emptyIrq (p : MboxPair) : Bool := p.ctrl.toNat.testBit 17
def MboxPair.vector (p : MboxPair) : Nat := bitsOf p.ctrl.toNat 0 11

/-- A collision of a user pair counted and reported (R342). -/
def Dev.userCollision (d : Dev) (e : MboxEff) : Dev :=
  if e.collision then (d.count K.MBOX_COLLISIONS).mboxEvent F.MBOX_EVENT_COLLISION else d

/-- A write of one UP word by the function. -/
def Dev.upWrite (d : Dev) (inst w : Nat) (v : Word) : Dev :=
  let p := d.pair inst
  let (x, e) := p.up.write w v
  let d := (d.putPair inst { p with up := x }).userCollision e
  if e.sent then (d.count K.MBOX_USER_SENT).mboxEvent F.MBOX_EVENT_UP_FULL else d

/-- A write of one DOWN word by the manager: discarded for a DISABLED or RESETTING function, which sets ABORTED (R348). -/
def Dev.downWrite (d : Dev) (inst w : Nat) (v : Word) : Dev :=
  let p := d.pair inst
  if (d.fn inst).state = FnSt.disabled ∨ (d.fn inst).state = FnSt.resetting then
    (d.putPair inst { p with down := { p.down with aborted := true } }).count K.MBOX_ABORTS
  else
    let (x, e) := p.down.write w v
    let d := (d.putPair inst { p with down := x }).userCollision e
    if e.sent then
      let d := d.count K.MBOX_USER_SENT
      if p.downIrq then d.raiseVector inst p.vector else d
    else d

/-- The function's own copies in STATUS cleared by writing 1 (Table 1). -/
def MboxPair.fnClear (p : MboxPair) (v : Nat) : MboxPair :=
  { p with up := { p.up with colS := p.up.colS && !v.testBit 2, aborted := p.up.aborted && !v.testBit 4 },
           down := { p.down with colR := p.down.colR && !v.testBit 3 }, fnReset := p.fnReset && !v.testBit 5 }

/-- STATUS of the mailbox page (Table 1). -/
def MboxPair.fnStatus (p : MboxPair) : Nat :=
  p.up.full.toNat + 2 * p.down.full.toNat + 4 * p.up.colS.toNat + 8 * p.down.colR.toNat + 16 * p.up.aborted.toNat + 32 * p.fnReset.toNat
/-- MBOX_USER_STATUS of the pair. -/
def MboxPair.mgrStatus (p : MboxPair) : Nat :=
  p.up.full.toNat + 2 * p.down.full.toNat + 4 * p.up.colR.toNat + 8 * p.down.colS.toNat + 16 * p.down.aborted.toNat + 32 * p.mgrReset.toNat

/-- A write to the mailbox page of a function (Table 1). -/
def Dev.pageWrite (d : Dev) (inst off : Nat) (v : Word) : Dev :=
  if (d.fn inst).state = FnSt.disabled ∨ (d.fn inst).state = FnSt.resetting then d
  else if off < 0x40 then d.upWrite inst (off / 4) v
  else if off = 0x80 then d.putPair inst ((d.pair inst).fnClear v.toNat)
  else if off = 0x84 then d.putPair inst { d.pair inst with ctrl := v &&& 0x307FF }
  else d

/-- A pair reset with its function (R348): a receiver reset of DOWN, the UP message discarded, and PEER_RESET for the manager. -/
def Dev.mboxFnReset (d : Dev) (inst : Nat) : Dev :=
  let p := d.pair inst
  let d := d.putPair inst { up := {}, down := p.down.receiverReset, mgrReset := true }
  (d.count K.MBOX_ABORTS).mboxEvent F.MBOX_EVENT_DOWN_EMPTY

/-- FLR of PF_0: every pair is cleared, and each function sees ABORTED and PEER_RESET (R348). -/
def Dev.mboxAllReset (d : Dev) : Dev :=
  let l := d.mbox.user
  let d := (d.count K.MBOX_ABORTS 4096).modMbox (fun m => { m with user := (List.range 4096).map (fun i =>
    (i, { up := { aborted := true }, down := {}, fnReset := true, ctrl := (mapGetD l i {}).ctrl })) })
  l.foldl (fun d p => if p.2.emptyIrq && p.1 != 0 then d.raiseVector p.1 p.2.vector else d) d

/-! ## Data-class directions (R349, R350) -/

/-- A data-class direction. -/
def Dev.dataDir (d : Dev) (m : Nat) : MboxDir := mapGetD d.mbox.data m {}
/-- A data-class direction stored, and shown in its BIND register. -/
def Dev.putData (d : Dev) (m : Nat) (x : MboxDir) : Dev :=
  ((d.modMbox (fun b => { b with data := mapPut b.data m x })).set (F.MBOX_DATA_BIND_FULL m) x.full.toNat).set (F.MBOX_DATA_BIND_COLLISION m) x.colR.toNat
/-- Whether a mailbox is bound. -/
def Dev.dataBound (d : Dev) (m : Nat) : Bool := decide (m < 256) && d.get (F.MBOX_DATA_BIND_VALID m) == 1
/-- Whether an endpoint lies in an OFF domain: a core that is OUT. -/
def Dev.endpointOff (d : Dev) (e : Nat) : Bool := decide (e < 64) && d.flt.outUnits.contains (2, e / 8)
/-- The event of an endpoint that is a thread. -/
def Dev.endpointEvent (d : Dev) (e : Nat) : Dev := if e < 64 then d.threadEvent e 2 else d
/-- An access met an OFF domain (R350). -/
def Dev.noPeer (d : Dev) (m : Nat) : Dev :=
  ((d.set (F.MBOX_DATA_BIND_NO_PEER m) 1).count K.MBOX_POWER_ERRORS).mboxEvent F.MBOX_EVENT_POWER_ERROR

/-- A write of one word by the sender. -/
def Dev.dataWrite (d : Dev) (m w : Nat) (v : Word) : Dev :=
  if !d.dataBound m then d else
  let r := d.get (F.MBOX_DATA_BIND_RECEIVER m)
  if d.endpointOff r then d.noPeer m else
  let (x, e) := (d.dataDir m).write w v
  let d := (d.set (F.MBOX_DATA_BIND_NO_PEER m) 0).putData m x
  let d := if e.collision then d.count K.MBOX_COLLISIONS else d
  if e.sent then (d.count K.MBOX_DATA_SENT).endpointEvent r else d

/-- A receiver reset of a data-class direction (R345, R350). -/
def Dev.dataReset (d : Dev) (m : Nat) : Dev :=
  ((d.putData m (d.dataDir m).receiverReset).count K.MBOX_ABORTS).endpointEvent (d.get (F.MBOX_DATA_BIND_SENDER m))

/-- Whether an endpoint is a thread of a core that is gated and must wake first (R29, R30, R350). -/
def Dev.endpointAsleep (d : Dev) (e : Nat) : Bool := decide (e < 64) && d.asleep 0 (e / 8)

/-- An endpoint's own status of a data-class direction cleared by writing 1: bit 0 COLLISION, and the sender's bit 1 ABORTED (R342, R345). The spec
gives these copies no address: words 16, the sender's, and 17, the receiver's, stand for them (DESIGN CHOICE, assumption log 95). -/
def Dev.dataClear (d : Dev) (m w : Nat) (v : Word) : Dev :=
  if !d.dataBound m then d else
  let x := d.dataDir m
  let col := v.toNat.testBit 0
  if w = 16 then d.putData m { x with colS := x.colS && !col, aborted := x.aborted && !v.toNat.testBit 1 }
  else if w = 17 then d.putData m { x with colR := x.colR && !col }
  else d

/-- The directions whose receiver is a thread of a core that is reset. -/
def Dev.mboxCoreReset (d : Dev) (c : Nat) : Dev :=
  (List.range 256).foldl (fun d m =>
    if d.dataBound m && decide (d.get (F.MBOX_DATA_BIND_RECEIVER m) / 8 = c) then d.dataReset m else d) d

/-! ## Commands -/

/-- MAILBOX_WRITE (R341, R342, R346 to R350): side 0 writes the mailbox page of function `unit` at byte offset 4 × `word`; side 1 writes
the manager's DOWN window, of the selected pair; side 2 writes data-class mailbox `unit`, after the wake of a gated core at its other end
(R350). A write that covers several words is one command
for each word, in ascending order. -/
def execMailboxWrite (side unit word : Nat) (value : Word) (s : State) : Host.Outcome State Fault Refusal :=
  let d := s.dev
  if !d.responds 0xD00000 then done s d else
  match side with
  | 0 => done s (d.pageWrite (unit % 4096) (4 * word) value)
  | 1 => done s (if word < 16 then d.downWrite (d.get F.MBOX_USER_SEL_INSTANCE) word value else d)
  | _ =>
    let r := d.get (F.MBOX_DATA_BIND_RECEIVER unit)
    if d.dataBound unit && d.endpointAsleep r && decide (word < 16) then done s (d.holdFor 0 (r / 8) (.mailboxWrite unit word value))
    else done s (if word < 16 then d.dataWrite unit word value else d.dataClear unit word value)

/-- MAILBOX_READ_LAST (R341): a read of word 15; side 0 is the function `unit` reading DOWN, 1 the manager reading UP of the selected
pair, 2 the receiver of data-class mailbox `unit`. -/
def execMailboxReadLast (side unit : Nat) (s : State) : Host.Outcome State Fault Refusal :=
  let d := s.dev
  if !d.responds 0xD00000 then done s (d.emit (.readData 0)) else
  match side with
  | 0 =>
    let inst := unit % 4096
    let p := d.pair inst
    if (d.fn inst).state = FnSt.disabled ∨ (d.fn inst).state = FnSt.resetting then done s d else
    let (x, e) := p.down.readLast
    let d := (d.emit (.readData (mapGetD p.down.words 15 0).toNat)).putPair inst { p with down := x }
    done s (if e.emptied then d.mboxEvent F.MBOX_EVENT_DOWN_EMPTY else d)
  | 1 =>
    let inst := d.get F.MBOX_USER_SEL_INSTANCE
    let p := d.pair inst
    let (x, e) := p.up.readLast
    let d := (d.emit (.readData (mapGetD p.up.words 15 0).toNat)).putPair inst { p with up := x }
    done s (if e.emptied && p.emptyIrq then d.raiseVector inst p.vector else d)
  | _ =>
    if !d.dataBound unit then done s (d.emit (.readData 0)) else
    let sender := d.get (F.MBOX_DATA_BIND_SENDER unit)
    if d.endpointAsleep sender then done s (d.holdFor 0 (sender / 8) (.mailboxRead unit))
    else if d.endpointOff sender then done s ((d.emit (.readData 0)).noPeer unit) else
    let x0 := d.dataDir unit
    let (x, e) := x0.readLast
    let d := ((d.emit (.readData (mapGetD x0.words 15 0).toNat)).set (F.MBOX_DATA_BIND_NO_PEER unit) 0).putData unit x
    done s (if e.emptied then d.endpointEvent sender else d)

end Sys2Proof.Machine
end

