-- ==== Sys2Proof/Machine/Cores.lean ====
section
/-! DEFINITION. What happens to a program core as a whole: faults of its threads, core resets, and its image contents (R31, R259, R260,
R282, R283). -/
namespace Sys2Proof.Machine
open Sys2Proof

/-! ## What the image gives a core -/

/-- The firmware and action programs in force, as measured: M1 and M2 (R408). -/
def Dev.imageKey (d : Dev) : List Byte := d.boot.meas.getD 1 [] ++ d.boot.meas.getD 2 []
/-- A byte of a core's local memory; one not stored since the image was loaded reads as the image gives it (R260). -/
def Dev.localByte (d : Dev) (c a : Nat) : Byte := mapGetD (mapGetD d.barb.local_ c []) a (Config.localImage d.imageKey c a)
/-- `n` bytes of a core's local memory. -/
def Dev.localBytes (d : Dev) (c a n : Nat) : List Byte := (List.range n).map (fun k => d.localByte c (a + k))
/-- Bytes stored in a byte table from an address. -/
def mapBytes (m : SMap Byte) (a : Nat) : List Byte → SMap Byte
  | [] => m
  | b :: t => mapBytes (mapPut m a b) (a + 1) t
/-- Bytes stored in a core's local memory. -/
def Dev.localWrite (d : Dev) (c a : Nat) (l : List Byte) : Dev :=
  d.modBarb (fun b => { b with local_ := mapPut b.local_ c (mapBytes (mapGetD b.local_ c []) a l) })

/-- The threads of a core at start: all IDLE but thread 0, which runs at the image's master entry (Table 9). -/
def Dev.startCore (d : Dev) (c : Nat) : Dev :=
  d.modBarb (fun b => { b with
    threads := mapPut (b.threads.filter (fun p => p.1 / 8 != c)) (8 * c) { run := 1, pc := mapGetD b.master c 0 },
    local_ := mapErase b.local_ c })

/-! ## Core reset (R31, R283) -/

/-- A shuttle that a core reset meets in a thread: retried once with RETRIED set, or sent through its exception list (R283). -/
def Dev.retryShut (d : Dev) (n i : Nat) : Dev :=
  match d.shut i with
  | none => d
  | some s =>
    if s.flag Fl.RETRIED then
      let d := (d.count K.BARB_RETRY_FAILED).barbLog n 0x11 (d.thread n).pc (s.get S.PROGRAM)
      ((match d.shut i with
        | some s => d.declareMiss i s Miss.fault 0
        | none => d)).programExc i
    else (d.count K.BARB_RETRIED).arrive i (s.mark Fl.RETRIED) .dispatch

/-- CORE_RESET (R31, R272, R274, R283): locks of its threads are released, its queues and staged messages are discarded, mailboxes whose
receiver is on it are reset (R345), its CRC units are freed, and the shuttles its threads hold are retried once. `detail` is the transient
count that the fault log shows. -/
def Dev.coreReset (d : Dev) (c detail : Nat) : Dev :=
  let held := (coreThreads c).filterMap (fun n => (d.thread n).shuttle.map (fun i => (n, i)))
  let d := (d.count K.BARB_CORE_RESETS).raise F.BARB_EVENT_CORE_RESET
  let d := d.fault Code.coreReset 2 (d.get (F.BARB_CORE_CFG_PHYS c)) detail
  let d := (coreThreads c).foldl (fun d n => d.endThread n) d
  let d := d.modBarb (fun b => { b with chans := b.chans.filter (fun p => p.1 / 16 != c), flight := b.flight.filter (fun m => m.chan / 16 != c) })
  let d := (d.crcAbandonAll (fun o => o.1 == 0 && o.2 / 8 == c)).mboxCoreReset c
  held.foldl (fun d p => d.retryShut p.1 p.2) (d.startCore c)

end Sys2Proof.Machine
end

