-- ==== Sys2Proof/Machine/Spares.lean ====
section
/-! DEFINITION. Unit transients, retirement and spares (R386, R387). Kinds: 2 Barbor core, 3 cipher lane, 4 CRC unit, 5 table-store row,
6 other SRAM row. Units are logical cores, lanes and CRC units, and banks and macros. -/
namespace Sys2Proof.Machine
open Sys2Proof

/-- Spares left of a kind, as FLT_HEALTH shows them. -/
def spareField : Nat → Fld
  | 2 => F.FLT_HEALTH_CORE_SPARES
  | 3 => F.FLT_HEALTH_CIPHER_SPARES
  | 4 => F.FLT_HEALTH_CRC_SPARES
  | _ => F.FLT_HEALTH_BANK_SPARES

/-- The physical index past the last spare of a kind: cores 64 to 67, lanes 16 and 17, CRC units 32 and 33, banks by number. -/
def spareEnd : Nat → Nat
  | 2 => 68
  | 3 => 18
  | 4 => 34
  | _ => 2

/-- The physical unit that serves a logical one. -/
def Dev.physOf (d : Dev) (kind unit : Nat) : Nat :=
  match kind with
  | 2 => d.get (F.BARB_CORE_CFG_PHYS unit)
  | 3 => d.get (F.CIPH_LANE_CFG_PHYS unit)
  | 4 => mapGetD d.flt.crcPhys unit unit
  | _ => unit

/-- A logical unit served by another physical one. -/
def Dev.setPhys (d : Dev) (kind unit p : Nat) : Dev :=
  match kind with
  | 2 => d.set (F.BARB_CORE_CFG_PHYS unit) p
  | 3 => d.set (F.CIPH_LANE_CFG_PHYS unit) p
  | 4 => d.modFlt (fun f => { f with crcPhys := mapPut f.crcPhys unit p })
  | _ => d

/-- A physical unit retired: recorded in the persistent store, and a SPARE record with byte 24 = 1 (R385, R387). -/
def Dev.retireUnit (d : Dev) (kind p : Nat) : Dev :=
  (d.modStore (fun s => { s with retiredUnits := s.retiredUnits ++ [(kind, p)] })).spareRecord kind p 1 Code.unitSpared

/-- The next spare of a kind, taken: its physical index. -/
def Dev.takeSpare (d : Dev) (kind : Nat) : Option (Nat × Dev) :=
  let n := d.get (spareField kind)
  if n = 0 then none else some (spareEnd kind - n, d.set (spareField kind) (n - 1))

/-- The frame that a lane holds is discarded, and its counter value is not used again; a guaranteed frame is a miss with cause FAULT
(Table 4). -/
def Dev.laneError (d : Dev) (lane : Nat) : Dev :=
  let l := (d.shuts.filter (fun (p : Nat × Shut) => p.2.lane == some lane)).map (·.1)
  l.foldl (fun d i => (d.modShut i (fun s => { s with lane := none })).discardMiss i 6 Miss.fault) d

/-- A CRC unit that fails its check: FAULTED, and its owner is told (ch. 9, Table 6). -/
def Dev.crcFault (d : Dev) (u : Nat) : Dev :=
  if d.get (F.STOR_CRC_STATUS_STATE u) ≠ 1 then d else (d.set (F.STOR_CRC_STATUS_STATE u) 2).set (F.STOR_CRC_STATUS_ERROR u) 1

/-- A logical unit OUT: reported and kept (R387). -/
def Dev.outNote (d : Dev) (kind unit : Nat) : Dev :=
  let d := (d.modFlt (fun f => { f with outUnits := f.outUnits ++ [(kind, unit)] })).set F.FLT_HEALTH_UNITS_OUT 1
  ((d.count K.FLT_UNITS_OUT).fault Code.unitOut kind (d.physOf kind unit)).spareRecord kind (d.physOf kind unit) 2 Code.unitOut

/-- A book whose capacity changed is to be admitted again, and a pending commit is checked again at its swap (R51, R59, R387). -/
def Dev.bookFell (d : Dev) (k : Nat) : Dev :=
  d.modLoom (fun l => { l with
    readmit := if l.readmit.contains k then l.readmit else l.readmit ++ [k]
    commit := l.commit.map (fun c => { c with capChanged := true }) })

/-- The highest-numbered program core not yet OUT. -/
def Dev.lastCore (d : Dev) : Option Nat := ((List.range 64).reverse).find? (fun c => decide (8 ≤ c) && !d.flt.outUnits.contains (2, c))

/-- A program core goes OUT: its shuttles leave it, and its book falls to 0. -/
def Dev.coreOut (d : Dev) (c : Nat) : Dev :=
  let d := (d.outNote 2 c).coreReset c 0
  let d := (d.bookFell (c + 17)).set (F.LOOM_BOOK_CAP_CAP (c + 17)) 0
  d.modBarb (fun b => { b with threads := b.threads.filter (fun p => p.1 / 8 != c) })

/-- A table-store bank OUT (Table 4): its records meet the parity failures of R145 and R185. -/
def Dev.bankOut (d : Dev) (b : Nat) : Dev :=
  let d := ((d.fwd.entries.filter (fun p => !inDdr p.1 && Config.tableBank p.1 == b)).map (·.1)).foldl (fun d i => d.fwdParity i) d
  ((d.cfg.active.table Tab.flow).filter (fun p => decide (p.1 < 131072) && recGet p.2 FR.VALID == 1 && Config.flowBank p.1 == b)).foldl
    (fun d p => ((d.modHed (fun h => { h with noIndex := p.1 :: h.noIndex.filter (fun x => x != p.1) })).raise F.HED_EVENT_INDEX_PARITY).fault
      Code.tableParity) d

/-- No spare is left for a unit (R387, Table 4). A firmware core takes the physical core of the highest-numbered program core, which goes
OUT in its place. -/
def Dev.unitOut (d : Dev) (kind unit : Nat) : Dev :=
  match kind with
  | 2 =>
    if unit < 8 then match d.lastCore with
      | some c =>
        let p := d.physOf 2 c
        ((d.coreOut c).setPhys 2 unit p).coreReset unit 0
      | none => d.outNote 2 unit
    else d.coreOut unit
  | 3 =>
    let d := ((d.outNote 3 unit).laneError unit).set (F.CIPH_LANE_CFG_OUT unit) 1
    let g := d.sh (F.CIPH_LANE_CFG_GROUP unit)
    ((d.set (F.LOOM_BOOK_CAP_CAP (16 + g)) (100000 * (d.lanesOf g).length)).bookFell (16 + g)).noLanes
  | 5 => (d.outNote 5 unit).bankOut unit
  | _ => d.outNote kind unit

/-- A spare of its kind takes over a logical unit, or the unit goes OUT (R386, R387). A CRC unit changes at its next FREE. -/
def Dev.replaceUnit (d : Dev) (kind unit detail : Nat) : Dev :=
  let d := d.retireUnit kind (d.physOf kind unit)
  match d.takeSpare kind with
  | none => d.unitOut kind unit
  | some (p, d) => match kind with
    | 2 => ((d.setPhys 2 unit p).sparedNote 2 p detail).coreReset unit detail
    | 3 => ((d.laneError unit).setPhys 3 unit p).sparedNote 3 p detail
    | 4 =>
      let d := d.modFlt (fun f => { f with crcMoves := mapPut f.crcMoves unit (p, detail) })
      if d.get (F.STOR_CRC_STATUS_STATE unit) = 0 then d.crcTakeover unit else d
    | _ => (d.modFlt (fun f => { f with bankCopy := f.bankCopy ++ [(unit, p)] })).sparedNote kind p detail

/-- The key under which a unit's transients are counted. -/
def unitKey (kind unit row : Nat) : Nat := kind + 16 * (unit + 65536 * row)

/-- A transient counted: how many lie within the kind's window, and whether the unit is permanent-faulty (R386). -/
def Dev.countTransient (d : Dev) (kind unit row : Nat) : Dev × Nat × Bool :=
  let k := unitKey kind unit row
  let window := d.get (F.FLT_POLICY_WINDOW_S kind) * secondCycles
  let times := ((mapGetD d.flt.unitTimes k []).filter (fun t => d.time.cycles - t ≤ window)) ++ [d.time.cycles]
  let perm := decide (times.length ≥ d.get (F.FLT_POLICY_COUNT kind))
  (d.modFlt (fun f => { f with unitTimes := if perm then mapErase f.unitTimes k else mapPut f.unitTimes k times }), times.length, perm)

/-- A core reset as a transient fault of its core (R284, R386): the spare's takeover is itself the core reset. -/
def Dev.coreTransient (d : Dev) (c : Nat) : Dev :=
  let (d, n, perm) := d.countTransient 2 c 0
  if perm then d.replaceUnit 2 c n else d.coreReset c n

/-- An uncorrectable error of a core's local memory (Table 10 of ch. 11, Table 4): a core reset, logged with cause ECC; the second at one
word makes the core permanent-faulty. -/
def Dev.localEcc (d : Dev) (c word : Nat) : Dev :=
  let k := unitKey 15 c word
  let again := (mapGet d.flt.unitTimes k).isSome
  let d := (((d.barbLog (8 * c) 0xB 0 0).count K.BARB_PROGRAM_FAULT).raise F.BARB_EVENT_FAULT).modFlt (fun f => { f with unitTimes := mapPut f.unitTimes k [d.time.cycles] })
  if again then d.replaceUnit 2 c 2 else d.coreTransient c

/-- The kind under which a retired row of a bank or macro is kept in the persistent store. -/
def rowKind (kind : Nat) : Nat := 16 + kind

/-- A table-store or other SRAM row that is permanent-faulty: a spare row when one is left, else the bank's spare bank, or the report of
Table 4. -/
def Dev.rowFault (d : Dev) (kind unit : Nat) (spareRow : Bool) (detail : Nat) : Dev :=
  if spareRow then (((d.modStore (fun s => { s with retiredUnits := s.retiredUnits ++ [(rowKind kind, unit)] })).spareRecord kind unit 1
      Code.unitSpared).sparedNote kind unit detail).modFlt
      (fun f => { f with rowSparesUsed := mapPut f.rowSparesUsed (unitKey kind unit 0) (mapGetD f.rowSparesUsed (unitKey kind unit 0) 0 + 1) })
  else if kind = 5 then d.replaceUnit 5 unit detail
  else d.fault Code.sramRepair 6 unit detail

/-- UNIT_TRANSIENT (R386, R387): a transient of a core (2), lane (3), CRC unit (4), table-store bank's row (5) or other macro's row (6).
`row` is the row, or the local-memory word of an uncorrectable error in a core; `spareRow` says whether the bank or macro has a spare row
left. -/
def execUnitTransient (kind unit row : Nat) (uncorrectable spareRow : Bool) (s : State) : Host.Outcome State Fault Refusal :=
  let d := s.dev
  if !d.responds 0x1000000 then done s d else
  match kind with
  | 2 => if unit ≥ 64 || d.flt.outUnits.contains (2, unit) then done s d else doneH s (if uncorrectable then d.localEcc unit row else d.coreTransient unit)
  | 3 =>
    if unit ≥ 16 || d.get (F.CIPH_LANE_CFG_OUT unit) = 1 then done s d else
    let (d, n, perm) := d.countTransient 3 unit 0
    let d := d.laneError unit
    doneH s (if perm then d.replaceUnit 3 unit n else d)
  | 4 =>
    if unit ≥ 32 || d.flt.outUnits.contains (4, unit) then done s d else
    let (d, n, perm) := d.countTransient 4 unit 0
    let d := d.crcFault unit
    done s (if perm then d.replaceUnit 4 unit n else d)
  | 5 | 6 =>
    if unit ≥ 65536 then done s d else
    let (d, n, perm) := d.countTransient kind unit row
    done s (if perm || uncorrectable then d.rowFault kind unit spareRow n else d)
  | _ => done s d

/-- SPARE_BANK_COPY_DONE (R386): reads move from the old bank to the spare. -/
def execSpareBankCopyDone (bank : Nat) (s : State) : Host.Outcome State Fault Refusal :=
  done s (s.dev.modFlt (fun f => { f with bankCopy := f.bankCopy.filter (fun p => p.1 != bank) }))

/-- CRC_PARITY_FAULT (R233, R386): the unit becomes FAULTED with ERROR set, and the fault counts as a transient of the unit. -/
def execCrcParityFault (unit : Nat) (s : State) : Host.Outcome State Fault Refusal :=
  let d := s.dev
  if unit ≥ 32 ∨ d.get (F.STOR_CRC_STATUS_STATE unit) ≠ 1 then done s d else
  let (d, n, perm) := (d.crcFault unit).countTransient 4 unit 0
  done s (if perm then d.replaceUnit 4 unit n else d)

/-! ## Self-test and wear (R384, R388) -/

/-- SELF_TEST_VECTOR (R384): a vector runs on a decision unit of a powered side; one that fails is run again, and its second failure
retires the side. -/
def execSelfTestVector (side unit vector : Nat) (pass : Bool) (s : State) : Host.Outcome State Fault Refusal :=
  let d := s.dev
  if side ≥ 3 ∨ d.side side = 0 ∨ d.side side = 4 then done s d else
  let again := d.flt.suspect.contains (side, unit, vector)
  let clear := fun (d : Dev) => d.modFlt (fun f => { f with suspect := f.suspect.filter (fun x => x != (side, unit, vector)) })
  if pass then done s (clear d)
  else if !again then done s (d.modFlt (fun f => { f with suspect := f.suspect ++ [(side, unit, vector)] }))
  else
    let d := (clear d).sideFails side
    done s (if d.side side = 1 ∨ d.side side = 2 then d.sideLeaves side else d.retireSide side)

/-- Whether a spare of a kind is left. -/
def Dev.spareLeft (d : Dev) (kind : Nat) : Bool :=
  if kind = 1 then ([0, 1, 2] : List Nat).any (fun k => d.side k == 0) else d.get (spareField kind) != 0

/-- A planned move of a worn unit to its spare (R388). A core first stops receiving dispatches; a lane's new frames go to the spare while
the old one finishes its own. -/
def Dev.wearMove (d : Dev) (kind unit : Nat) : Dev :=
  let d := d.count K.FLT_WEAR_MOVES
  match kind with
  | 1 => d.sideLeaves unit
  | 2 => d.modFlt (fun f => { f with wearMoves := f.wearMoves ++ [(2, unit)] })
  | 3 => match d.takeSpare 3 with
    | some (p, d) => ((d.retireUnit 3 (d.physOf 3 unit)).setPhys 3 unit p).sparedNote 3 p 0
    | none => d
  | _ => d.replaceUnit kind unit 0

/-- WEAR_READ (R388): the reading of one unit's drift sensor against its production value, in 0.1 % of slowdown. One move is made at a
time; a unit that has no spare is reported. -/
def execWearRead (kind unit slow : Nat) (s : State) : Host.Outcome State Fault Refusal :=
  let d := s.dev
  if !d.sys.ready ∨ kind = 0 ∨ kind > 5 ∨ slow < d.get F.FLT_WEAR_LIMIT ∨ d.flt.outUnits.contains (kind, unit) then done s d
  else if !d.spareLeft kind then done s ((d.set F.FLT_HEALTH_WEAR 1).fault Code.wear kind (d.physOf kind unit))
  else if !d.flt.wearMoves.isEmpty then done s d
  else doneH s (d.wearMove kind unit)

/-- WEAR_CORE_MOVE (R388): the worn core's threads have reached TEND, or 1 ms has passed, and the spare takes over as a core reset. -/
def execWearCoreMove (core : Nat) (s : State) : Host.Outcome State Fault Refusal :=
  let d := s.dev
  if !d.flt.wearMoves.contains (2, core) then done s d else
  doneH s ((d.modFlt (fun f => { f with wearMoves := f.wearMoves.filter (fun x => x != (2, core)) })).replaceUnit 2 core 0)

end Sys2Proof.Machine
end

