-- ==== Sys2Proof/Machine/Barbor.lean ====
section
/-! DEFINITION. The Barbor instruction set (R265 to R282): dispatch, issue with its budget, and one meaning for each instruction. An
instruction command says which instruction a RUNNING thread issues next, with its operands (DESIGN CHOICE, assumption log 31). -/
namespace Sys2Proof.Machine
open Sys2Proof

/-! ## Faults (R282, Table 10) -/

namespace Cause
def illegal : Nat := 1
def range : Nat := 2
def align : Nat := 3
def roField : Nat := 4
def budget : Nat := 5
def guar : Nat := 6
def lock : Nat := 7
def masterOnly : Nat := 8
def owner : Nat := 9
def lockLeak : Nat := 0xA
end Cause

/-- A fault of a thread logged and counted (R282). -/
def Dev.faultNote (d : Dev) (n cause : Nat) : Dev :=
  let d := ((d.barbLog n cause (d.thread n).pc (d.programOf n)).count K.BARB_PROGRAM_FAULT).raise F.BARB_EVENT_FAULT
  if cause = Cause.budget then (d.count K.BARB_BUDGET_OVERRUN).raise F.BARB_EVENT_BUDGET else d

/-- PROGRAM_FAULT (R282): a dispatch thread's shuttle runs its exception list; thread 0 resets its core; any other thread tells thread 0. -/
def Dev.progFault (d : Dev) (n cause : Nat) : Dev :=
  let sh := (d.thread n).shuttle
  let d := d.faultNote n cause
  match sh with
  | some i => (d.endThread n).programExc i
  | none => if n % 8 = 0 then d.coreTransient (n / 8) else (d.endThread n).threadEvent (8 * (n / 8)) 5

/-! ## Issue (R262, R267, R280) -/

/-- What an instruction does once it has issued: go on, jump, fault, or wait. -/
inductive Eff where
  | ok (d : Dev)
  | jump (d : Dev) (pc : Nat)
  | fault (cause : Nat)
  | wait (d : Dev) (w : Wait)

/-- Whether a thread issues: it is RUNNING, and not HALTED but for one STEP (R278, R285). -/
def Thread.issues (t : Thread) : Bool := t.run == 1 && (!t.halted || t.stepDue)

/-- One instruction of thread `th` of core `core` (R267, R280): `cost` is charged to the budget, `okG` says that guaranteed context
allows it, and `wd` is the register that a wait's result goes to. -/
def Dev.instr (d : Dev) (core th wd cost : Nat) (okG : Bool) (f : Dev → Thread → Eff) : Dev :=
  let n := 8 * core + th
  let t := d.thread n
  if core ≥ 64 || th ≥ 8 || !t.issues then d else
  let d := d.modThread n (fun t => { t with stepDue := false })
  if t.guar && !okG then d.progFault n Cause.guar else
  let dear := match t.budget with
    | some b => decide (cost > b)
    | none => false
  if dear then d.progFault n Cause.budget else
  let d := d.modThread n (fun t => { t with budget := t.budget.map (fun b => b - cost) })
  match f d (d.thread n) with
  | .ok d => d.modThread n (fun t => { t with pc := t.pc + 1 })
  | .jump d pc => d.modThread n (fun t => { t with pc := pc })
  | .fault c => d.progFault n c
  | .wait d w => d.modThread n (fun t => { t with run := 2, wait := w, wd := wd, pc := t.pc + 1 })

/-- A register of a thread written. -/
def Dev.wreg (d : Dev) (n r : Nat) (v : Dword) : Dev := d.modThread n (fun t => t.setReg r v)
/-- An instruction that only writes its destination register. -/
def Dev.regInstr (d : Dev) (core th wd cost : Nat) (v : Thread → Dword) : Dev :=
  d.instr core th wd cost true (fun d t => .ok (d.wreg (8 * core + th) wd (v t)))

/-! ## Arithmetic and control (Table 2) -/

/-- IMM16 sign-extended to 64 bits. -/
def sext16 (imm : BitVec 16) : Dword := imm.signExtend 64
/-- IMM16 zero-extended to 64 bits. -/
def zext16 (imm : BitVec 16) : Dword := imm.zeroExtend 64
/-- The bytes of a register, least significant first. -/
def regBytes (v : Dword) : List Byte := leBytes 8 v.toNat

/-- ADD (ALU FN 0). -/
def execAdd (core thread wd wa wb : Nat) (s : State) : Host.Outcome State Fault Refusal :=
  doneH s (s.dev.regInstr core thread wd 1 (fun t => t.reg wa + t.reg wb))
/-- SUB (FN 1). -/
def execSub (core thread wd wa wb : Nat) (s : State) : Host.Outcome State Fault Refusal :=
  doneH s (s.dev.regInstr core thread wd 1 (fun t => t.reg wa - t.reg wb))
/-- AND (FN 2). -/
def execAnd_ (core thread wd wa wb : Nat) (s : State) : Host.Outcome State Fault Refusal :=
  doneH s (s.dev.regInstr core thread wd 1 (fun t => t.reg wa &&& t.reg wb))
/-- OR (FN 3). -/
def execOr_ (core thread wd wa wb : Nat) (s : State) : Host.Outcome State Fault Refusal :=
  doneH s (s.dev.regInstr core thread wd 1 (fun t => t.reg wa ||| t.reg wb))
/-- XOR (FN 4). -/
def execXor (core thread wd wa wb : Nat) (s : State) : Host.Outcome State Fault Refusal :=
  doneH s (s.dev.regInstr core thread wd 1 (fun t => t.reg wa ^^^ t.reg wb))
/-- The shift count wb[5:0]. -/
def shiftCount (v : Dword) : Nat := v.toNat % 64
/-- SHL (FN 5). -/
def execShl (core thread wd wa wb : Nat) (s : State) : Host.Outcome State Fault Refusal :=
  doneH s (s.dev.regInstr core thread wd 1 (fun t => t.reg wa <<< shiftCount (t.reg wb)))
/-- SHR (FN 6). -/
def execShr (core thread wd wa wb : Nat) (s : State) : Host.Outcome State Fault Refusal :=
  doneH s (s.dev.regInstr core thread wd 1 (fun t => t.reg wa >>> shiftCount (t.reg wb)))
/-- SAR (FN 7). -/
def execSar (core thread wd wa wb : Nat) (s : State) : Host.Outcome State Fault Refusal :=
  doneH s (s.dev.regInstr core thread wd 1 (fun t => (t.reg wa).sshiftRight (shiftCount (t.reg wb))))
/-- SLT (FN 8): wd = 1 if wa < wb, signed. -/
def execSlt (core thread wd wa wb : Nat) (s : State) : Host.Outcome State Fault Refusal :=
  doneH s (s.dev.regInstr core thread wd 1 (fun t => if (t.reg wa).slt (t.reg wb) then 1 else 0))
/-- SLTU (FN 9). -/
def execSltu (core thread wd wa wb : Nat) (s : State) : Host.Outcome State Fault Refusal :=
  doneH s (s.dev.regInstr core thread wd 1 (fun t => if (t.reg wa).ult (t.reg wb) then 1 else 0))
/-- BSWAP (FN 10): the bytes of wa reversed. -/
def execBswap (core thread wd wa : Nat) (s : State) : Host.Outcome State Fault Refusal :=
  doneH s (s.dev.regInstr core thread wd 1 (fun t => BitVec.ofNat 64 (beNat (regBytes (t.reg wa)))))
/-- ADDI. -/
def execAddi (core thread wd wa : Nat) (imm : BitVec 16) (s : State) : Host.Outcome State Fault Refusal :=
  doneH s (s.dev.regInstr core thread wd 1 (fun t => t.reg wa + sext16 imm))
/-- ANDI. -/
def execAndi (core thread wd wa : Nat) (imm : BitVec 16) (s : State) : Host.Outcome State Fault Refusal :=
  doneH s (s.dev.regInstr core thread wd 1 (fun t => t.reg wa &&& zext16 imm))
/-- ORI. -/
def execOri (core thread wd wa : Nat) (imm : BitVec 16) (s : State) : Host.Outcome State Fault Refusal :=
  doneH s (s.dev.regInstr core thread wd 1 (fun t => t.reg wa ||| zext16 imm))
/-- SHI: IMM16[7:6] selects SHL, SHR or SAR, and 3 is ILLEGAL; the count is IMM16[5:0]. -/
def execShi (core thread wd wa : Nat) (imm : BitVec 16) (s : State) : Host.Outcome State Fault Refusal :=
  let k := imm.toNat % 64
  doneH s (match imm.toNat / 64 % 4 with
    | 0 => s.dev.regInstr core thread wd 1 (fun t => t.reg wa <<< k)
    | 1 => s.dev.regInstr core thread wd 1 (fun t => t.reg wa >>> k)
    | 2 => s.dev.regInstr core thread wd 1 (fun t => (t.reg wa).sshiftRight k)
    | _ => s.dev.instr core thread wd 0 true (fun _ _ => .fault Cause.illegal))
/-- SHIN. -/
def execShin (core thread wd wa : Nat) (imm : BitVec 16) (s : State) : Host.Outcome State Fault Refusal :=
  doneH s (s.dev.regInstr core thread wd 1 (fun t => (t.reg wa <<< 16) ||| zext16 imm))
/-- MUL: cost 3. -/
def execMul (core thread wd wa wb : Nat) (s : State) : Host.Outcome State Fault Refusal :=
  doneH s (s.dev.regInstr core thread wd 3 (fun t => t.reg wa * t.reg wb))

/-- A program counter that a jump may take: it lies in the code region (R260, R269). -/
def Dev.codePc (d : Dev) (core pc : Nat) : Bool := decide (pc < d.codeWords core)
/-- A jump, or its RANGE fault. -/
def Dev.jumpTo (d : Dev) (core pc : Nat) : Eff := if d.codePc core pc then .jump d pc else .fault Cause.range
/-- The target of a displacement, counted in words from the next instruction (R268); one below 0 lies outside every code region. -/
def relPc (pc : Nat) (imm : BitVec 16) : Nat := ((pc : Int) + 1 + imm.toInt).toNat
/-- Whether a displacement leads below word 0. -/
def relNeg (pc : Nat) (imm : BitVec 16) : Bool := decide ((pc : Int) + 1 + imm.toInt < 0)

/-- A conditional branch: cost 1 not taken, 2 taken. -/
def Dev.branch (d : Dev) (core th ra rb : Nat) (imm : BitVec 16) (c : Dword → Dword → Bool) : Dev :=
  let t := d.thread (8 * core + th)
  let taken := c (t.reg ra) (t.reg rb)
  d.instr core th 0 (if taken then 2 else 1) true (fun d t =>
    if taken then (if relNeg t.pc imm then .fault Cause.range else d.jumpTo core (relPc t.pc imm)) else .ok d)

/-- BEQ: compares wd with wa. -/
def execBeq (core thread wd wa : Nat) (imm : BitVec 16) (s : State) : Host.Outcome State Fault Refusal :=
  doneH s (s.dev.branch core thread wd wa imm (fun a b => a == b))
/-- BNE. -/
def execBne (core thread wd wa : Nat) (imm : BitVec 16) (s : State) : Host.Outcome State Fault Refusal :=
  doneH s (s.dev.branch core thread wd wa imm (fun a b => a != b))
/-- BLTU. -/
def execBltu (core thread wd wa : Nat) (imm : BitVec 16) (s : State) : Host.Outcome State Fault Refusal :=
  doneH s (s.dev.branch core thread wd wa imm (fun a b => a.ult b))
/-- BGEU. -/
def execBgeu (core thread wd wa : Nat) (imm : BitVec 16) (s : State) : Host.Outcome State Fault Refusal :=
  doneH s (s.dev.branch core thread wd wa imm (fun a b => !a.ult b))
/-- JAL: wd = next PC; PC = next PC + IMM16. -/
def execJal (core thread wd : Nat) (imm : BitVec 16) (s : State) : Host.Outcome State Fault Refusal :=
  doneH s (s.dev.instr core thread wd 2 true (fun d t =>
    if relNeg t.pc imm then .fault Cause.range
    else (d.wreg (8 * core + thread) wd (BitVec.ofNat 64 (t.pc + 1))).jumpTo core (relPc t.pc imm)))
/-- JR: PC = wa. -/
def execJr (core thread wa : Nat) (s : State) : Host.Outcome State Fault Refusal :=
  doneH s (s.dev.instr core thread 0 2 true (fun d t => d.jumpTo core (t.reg wa).toNat))
/-- ILLEGAL_INSTRUCTION (R268): a reserved OP, FN or SZ. -/
def execIllegalInstruction (core thread : Nat) (s : State) : Host.Outcome State Fault Refusal :=
  doneH s (s.dev.instr core thread 0 0 true (fun _ _ => .fault Cause.illegal))

/-! ## Local memory, shuttle and frame access (Table 3, R269) -/

/-- The address of a format M access, wa + DISP. -/
def Thread.addr (t : Thread) (wa : Nat) (disp : BitVec 13) : Nat := (t.reg wa + disp.zeroExtend 64).toNat

/-- One format M instruction: SZ of 4 to 7 is ILLEGAL, and an access not aligned to its size faults with ALIGN (R268). -/
def Dev.memInstr (d : Dev) (core th wd wa sz : Nat) (disp : BitVec 13) (f : Dev → Thread → Nat → Nat → Eff) : Dev :=
  if sz ≥ 4 then d.instr core th wd 0 true (fun _ _ => .fault Cause.illegal)
  else d.instr core th wd 1 true (fun d t =>
    let a := t.addr wa disp
    if a % 2 ^ sz ≠ 0 then .fault Cause.align else f d t a (2 ^ sz))

/-- Whether an access lies in a core's data region: 256 KiB, less the code region at its start (R260; DEDUCED, assumption log 32). -/
def Dev.localOk (d : Dev) (core a n : Nat) : Bool := decide (4 * d.codeWords core ≤ a) && decide (a + n ≤ 262144)

/-- LD. -/
def execLd (core thread wd wa sz : Nat) (disp : BitVec 13) (s : State) : Host.Outcome State Fault Refusal :=
  doneH s (s.dev.memInstr core thread wd wa sz disp (fun d _ a n =>
    if d.localOk core a n then .ok (d.wreg (8 * core + thread) wd (BitVec.ofNat 64 (leNat (d.localBytes core a n)))) else .fault Cause.range))
/-- ST. -/
def execSt (core thread ws wa sz : Nat) (disp : BitVec 13) (s : State) : Host.Outcome State Fault Refusal :=
  doneH s (s.dev.memInstr core thread ws wa sz disp (fun d t a n =>
    if d.localOk core a n then .ok (d.localWrite core a (leBytes n (t.reg ws).toNat)) else .fault Cause.range))

/-- The bits of a shuttle that a program may write (ch. 1, Tables 2 and 4): TC, ACTION, the destination, KEY, the flags RECIRCULATE, DROP
and EXCEPTION, and SCRATCH. R22 names read-only and reserved fields for RO_FIELD and leaves CELL open, whose program access is none: an SST that
changes its bits faults with RO_FIELD too (DESIGN CHOICE, assumption log 84). -/
def programMask : ShuttleWord :=
  BitVec.ofNat 1024 (7 * 2 ^ 170 + (2 ^ 32 - 1) * 2 ^ 288 + (2 ^ 19 - 1) * 2 ^ 352 + (2 ^ 64 - 1) * 2 ^ 576
    + (2 ^ 6 + 2 ^ 7 + 2 ^ 20) * 2 ^ 640 + (2 ^ 256 - 1) * 2 ^ 768)

/-- SLD: a thread that holds no shuttle has no copy. -/
def execSld (core thread wd wa sz : Nat) (disp : BitVec 13) (s : State) : Host.Outcome State Fault Refusal :=
  doneH s (s.dev.memInstr core thread wd wa sz disp (fun d t a n =>
    if t.shuttle.isNone || decide (a + n > 128) then .fault Cause.range
    else .ok (d.wreg (8 * core + thread) wd (BitVec.ofNat 64 (bitsOf t.copy.toNat (8 * a) (8 * n))))))
/-- SST: a write that changes a bit the program may not write faults with RO_FIELD (R22, R269). -/
def execSst (core thread ws wa sz : Nat) (disp : BitVec 13) (s : State) : Host.Outcome State Fault Refusal :=
  doneH s (s.dev.memInstr core thread ws wa sz disp (fun d t a n =>
    if t.shuttle.isNone || decide (a + n > 128) then .fault Cause.range else
    let w : ShuttleWord := BitVec.ofNat 1024 (bitsSet t.copy.toNat (8 * a) (8 * n) (t.reg ws).toNat)
    if ((w ^^^ t.copy) &&& ~~~ programMask) ≠ 0 then .fault Cause.roField
    else .ok (d.modThread (8 * core + thread) (fun t => { t with copy := w }))))

/-- The frame window as it stands: the frame with its FCS once ended, with the bytes that FST changed (R265). -/
def Shut.window (s : Shut) : List Byte := if s.ended then s.frame ++ leBytes 4 (crc32 s.frame) else s.frame
/-- Bytes of the frame window of a thread; bytes at or beyond LENGTH read 0. -/
def Thread.frameBytes (t : Thread) (s : Shut) (a n : Nat) : List Byte := (List.range n).map (fun k => mapGetD t.win (a + k) (s.window.getD (a + k) 0))
/-- Whether the bytes up to a place have arrived, or never will. -/
def Shut.arrived (s : Shut) (stop : Nat) : Bool := s.ended || decide (stop ≤ s.frame.length)

/-- The checks that FLD and FST share (R267, R269): a shuttle, the window, and bytes 0 to 127 only in guaranteed context. -/
def Thread.frameCheck (t : Thread) (a n : Nat) : Option Nat :=
  if t.shuttle.isNone || decide (a + n > 256) then some Cause.range
  else if t.guar && decide (a + n > 128) then some Cause.guar else none

/-- FLD: it waits for bytes that have not arrived. -/
def execFld (core thread wd wa sz : Nat) (disp : BitVec 13) (s : State) : Host.Outcome State Fault Refusal :=
  doneH s (s.dev.memInstr core thread wd wa sz disp (fun d t a n =>
    match t.frameCheck a n with
    | some c => .fault c
    | none => match d.shut (t.shuttle.getD 0) with
      | none => .fault Cause.range
      | some x => if x.arrived (a + n) then .ok (d.wreg (8 * core + thread) wd (BitVec.ofNat 64 (leNat (t.frameBytes x a n)))) else .wait d (.load a n)))
/-- A store into the window of a thread. -/
def Dev.winStore (d : Dev) (n a size : Nat) (v : Dword) : Dev := d.modThread n (fun t => { t with win := mapBytes t.win a (leBytes size v.toNat) })
/-- FST: one that reaches LENGTH or beyond faults with RO_FIELD. -/
def execFst (core thread ws wa sz : Nat) (disp : BitVec 13) (s : State) : Host.Outcome State Fault Refusal :=
  doneH s (s.dev.memInstr core thread ws wa sz disp (fun d t a n =>
    match t.frameCheck a n with
    | some c => .fault c
    | none => match d.shut (t.shuttle.getD 0) with
      | none => .fault Cause.range
      | some x =>
        if !x.arrived (a + n) then .wait d (.store a n (t.reg ws))
        else if a + n > x.window.length then .fault Cause.roField
        else .ok (d.winStore (8 * core + thread) a n (t.reg ws))))

/-! ## Lookups and check values (Table 4) -/

/-- The MAC address and the domain of a key of R163 loaded little-endian. -/
def keyMac (key : Dword) : Nat := beNat ((regBytes key).take 6)
def keyFd (key : Dword) : Nat := key.toNat / 2 ^ 48
/-- What LKF answers for an entry. -/
def Dev.lkfResult (d : Dev) (i : Nat) : Dword :=
  match d.fwdAt i with
  | none => 0
  | some e => BitVec.ofNat 64 (2 ^ 63 + 2 ^ 62 * e.pin.toNat + 2 ^ 61 * e.isStatic.toNat + 2 ^ 4 * (e.queue % 2 ^ 14) + e.port % 16)
/-- A hit refreshes the entry as any lookup's does (R182). -/
def Dev.lkfHit (d : Dev) (n wd i : Nat) : Dev := (d.refresh i true).wreg n wd (d.lkfResult i)

/-- LKF: guaranteed context allows TIER 1 and 2 only; TIER 0 waits for a DDR5 search when the key is not on-die. -/
def execLkf (core thread wd wa : Nat) (sel : LkfSel) (s : State) : Host.Outcome State Fault Refusal :=
  let tier := sel.sel % 4
  doneH s (s.dev.instr core thread wd 24 (tier == 1 || tier == 2) (fun d t =>
    let key := t.reg wa
    let d := d.parityAt sel.parity
    match d.lookupOndie tier (keyMac key) (keyFd key) with
    | .hit i => .ok (d.lkfHit (8 * core + thread) wd i)
    | .miss => .ok (d.wreg (8 * core + thread) wd 0)
    | .ddr5 => .wait d (.lkf key)))

/-- The configuration set that a thread's lookups read: its shuttle's VERSION, else the active set. -/
def Dev.threadSet (d : Dev) (t : Thread) : CfgSet :=
  match t.shuttle with
  | some i => match d.shut i with
    | some s => d.cfgOf s
    | none => d.cfg.active
  | none => d.cfg.active
/-- The flow of a key in one tier, or in both (R143). -/
def Dev.lkkFind (d : Dev) (c : CfgSet) (key : List Byte) (both : Bool) : Option Nat :=
  let k := leNat key
  ((c.table Tab.flow).find? (fun p => (both || decide (p.1 < 131072)) && recGet p.2 FR.VALID == 1 && recGet p.2 FR.KEY == k && !d.hed.noIndex.contains p.1)).map (·.1)

/-- LKK: the 40-byte key lies in the data region; SEL[0] searches both tiers and waits for the DDR5 search, which guaranteed context
forbids. -/
def execLkk (core thread wd wa sel : Nat) (s : State) : Host.Outcome State Fault Refusal :=
  let both := sel % 2 == 1
  doneH s (s.dev.instr core thread wd 28 (!both) (fun d t =>
    let a := (t.reg wa).toNat
    if !d.localOk core a 40 then .fault Cause.range else
    let key := d.localBytes core a 40
    match d.lkkFind (d.threadSet t) key false with
    | some f => .ok (d.wreg (8 * core + thread) wd (BitVec.ofNat 64 f))
    | none => if both then .wait d (.lkk key) else .ok (d.wreg (8 * core + thread) wd 0)))

/-- HASH: CRC-32C of the 8 bytes of wa, continued from the CRC value in wb (DEDUCED, assumption log 33). -/
def execHash (core thread wd wa wb : Nat) (s : State) : Host.Outcome State Fault Refusal :=
  doneH s (s.dev.regInstr core thread wd 2 (fun t =>
    BitVec.ofNat 64 (crcRun 0x82F63B78 ((t.reg wb).toNat % 2 ^ 32 ^^^ (2 ^ 32 - 1)) (regBytes (t.reg wa)) ^^^ (2 ^ 32 - 1))))

/-- Whether a thread owns a CRC unit. -/
def Dev.threadOwns (d : Dev) (u n : Nat) : Bool := (d.crcUnit u).owner == some (0, n)
/-- CRCS: wd = 0 started, 1 BUSY. It issues once the unit is awake (R29). -/
def execCrcs (core thread wd wa sel : Nat) (imm : BitVec 8) (s : State) : Host.Outcome State Fault Refusal :=
  let n := 8 * core + thread
  if s.dev.isGated 2 (sel % 32) && (s.dev.thread n).issues then done s (s.dev.wake 2 (sel % 32)) else
  doneH s (s.dev.instr core thread wd 16 true (fun d t =>
    let (d, got) := d.crcStart (sel % 32) 0 n (imm.toNat % 4) (if imm.toNat.testBit 2 then some ((t.reg wa).toNat % 65536) else none)
    .ok (d.wreg n wd (if got then 0 else 1))))
/-- CRCF: feeds IMM8[2:0] + 1 bytes of wa; IMM8[3] is END after them. -/
def execCrcf (core thread wa sel : Nat) (imm : BitVec 8) (s : State) : Host.Outcome State Fault Refusal :=
  let n := 8 * core + thread
  doneH s (s.dev.instr core thread 0 1 true (fun d t =>
    if !d.threadOwns (sel % 32) n then .fault Cause.owner else
    let d := d.crcFeed (sel % 32) 0 n ((regBytes (t.reg wa)).take (imm.toNat % 8 + 1))
    .ok (if imm.toNat.testBit 3 then d.crcEnd (sel % 32) 0 n else d)))
/-- CRCX_STOP (CRCX with IMM8 0). -/
def execCrcxStop (core thread sel : Nat) (s : State) : Host.Outcome State Fault Refusal :=
  let n := 8 * core + thread
  doneH s (s.dev.instr core thread 0 1 true (fun d _ => if d.threadOwns (sel % 32) n then .ok (d.crcStop (sel % 32) 0 n) else .fault Cause.owner))
/-- CRCX_READ (CRCX with IMM8 1): the RESULT of the unit's last closed message. -/
def execCrcxRead (core thread wd sel : Nat) (s : State) : Host.Outcome State Fault Refusal :=
  let n := 8 * core + thread
  doneH s (s.dev.instr core thread wd 16 true (fun d _ =>
    if d.threadOwns (sel % 32) n then .ok (d.wreg n wd (BitVec.ofNat 64 (d.crcUnit (sel % 32)).result)) else .fault Cause.owner))

/-! ## Locks (Table 5, R270, R271) -/

/-- The lock that wa names. -/
def lockIndex (v : Dword) : Nat := v.toNat % 4096
/-- Whether a lock request faults: a firmware lock named by an action program, or a lock the thread already holds. -/
def Dev.lockBad (d : Dev) (n k : Nat) : Bool :=
  (decide (64 ≤ n) && decide (k < 1024)) || (match mapGet d.barb.locks k with
    | some l => l.owner == n
    | none => false)
/-- A free lock taken. -/
def Dev.takeLock (d : Dev) (n k : Nat) : Dev := d.modBarb (fun b => { b with locks := mapPut b.locks k ⟨n, []⟩ })

/-- A request that joins the tail of a lock's FIFO: those of one weave-clock cycle in order of logical core, then thread (R271). -/
def Dev.joinLock (d : Dev) (n k : Nat) : Dev :=
  let later := fun w => (d.thread w).askedAt == d.time.cycles && decide (w > n)
  (d.modThread n (fun t => { t with askedAt := d.time.cycles })).modBarb (fun b => { b with
    locks := b.locks.map (fun p => if p.1 = k
      then (p.1, { p.2 with waiters := p.2.waiters.filter (fun w => !later w) ++ [n] ++ p.2.waiters.filter later }) else p) })
/-- LOCK: waits in the FIFO while the lock is held. -/
def execLock (core thread wa : Nat) (s : State) : Host.Outcome State Fault Refusal :=
  let n := 8 * core + thread
  doneH s (s.dev.instr core thread 0 16 false (fun d t =>
    let k := lockIndex (t.reg wa)
    if d.lockBad n k || decide ((d.locksOf n).length ≥ 16) then .fault Cause.lock
    else if (mapGet d.barb.locks k).isSome then .wait (d.joinLock n k) (.lock k) else .ok (d.takeLock n k)))
/-- TRYL: wd = 0 acquired, 1 held. -/
def execTryl (core thread wd wa : Nat) (s : State) : Host.Outcome State Fault Refusal :=
  let n := 8 * core + thread
  doneH s (s.dev.instr core thread wd 16 true (fun d t =>
    let k := lockIndex (t.reg wa)
    if d.lockBad n k then .fault Cause.lock
    else if (mapGet d.barb.locks k).isSome then .ok (d.wreg n wd 1)
    else if (d.locksOf n).length ≥ 16 then .fault Cause.lock else .ok ((d.takeLock n k).wreg n wd 0)))
/-- ULK. -/
def execUlk (core thread wa : Nat) (s : State) : Host.Outcome State Fault Refusal :=
  let n := 8 * core + thread
  doneH s (s.dev.instr core thread 0 2 true (fun d t =>
    let k := lockIndex (t.reg wa)
    match mapGet d.barb.locks k with
    | some l => if l.owner = n then .ok (d.unlock k) else .fault Cause.lock
    | none => .fault Cause.lock))

/-! ## Channels (Table 6, R273 to R275) -/

/-- CHW: staging word IMM8[2:0] = wa. -/
def execChw (core thread wa : Nat) (imm : BitVec 8) (s : State) : Host.Outcome State Fault Refusal :=
  doneH s (s.dev.instr core thread 0 1 true (fun d t =>
    .ok (d.modThread (8 * core + thread) (fun x => { x with staging := mapPut x.staging (imm.toNat % 8) (t.reg wa) }))))
/-- The staged words 0 to n − 1. -/
def Thread.staged (t : Thread) (n : Nat) : List Dword := (List.range n).map (fun k => mapGetD t.staging k 0)
/-- CHS: wd = 0 SENT, 1 FULL, 2 UNBOUND; with BLOCK it waits for a place. A count outside 1 to 8 is no instruction (DEDUCED, assumption log 34). -/
def execChs (core thread wd wa : Nat) (imm : BitVec 8) (s : State) : Host.Outcome State Fault Refusal :=
  let n := 8 * core + thread
  let words := imm.toNat % 16
  let block := imm.toNat.testBit 7
  doneH s (s.dev.instr core thread wd (if words = 0 ∨ words > 8 then 0 else 4) (!block) (fun d t =>
    let q := (t.reg wa).toNat % 1024
    if words = 0 ∨ words > 8 then .fault Cause.illegal
    else if (d.chanThread q).isNone then .ok (d.wreg n wd 2)
    else if d.chanRoom q then .ok ((d.chanSend n q (t.staged words)).wreg n wd 0)
    else if block then .wait d (.send q (t.staged words))
    else .ok ((d.count K.BARB_CHAN_FULL).wreg n wd 1)))
/-- CHANNEL_MESSAGE_ARRIVE (R273, R276): the oldest message on its way to a channel becomes visible whole, and CHANNEL is set while it
waits (`threadEvents`). -/
def execChannelMessageArrive (channel : Nat) (s : State) : Host.Outcome State Fault Refusal :=
  let d := s.dev
  match d.barb.flight.find? (fun m => m.chan == channel) with
  | none => done s d
  | some m =>
    let d := d.modBarb (fun b => { b with flight := b.flight.erase m, chans := mapPut b.chans channel (mapGetD b.chans channel [] ++ [m.words]) })
    done s (d.wake 0 (channel / 16))
/-- The head message of a queue taken into a thread's receive buffer; `none` when the queue is not the thread's own or is empty. -/
def Dev.chanTake (d : Dev) (n wd q : Nat) : Option Dev :=
  if d.chanThread q ≠ some n then none else
  match d.chan q with
  | [] => none
  | m :: t =>
    let d := d.modBarb (fun b => { b with chans := if t.isEmpty then mapErase b.chans q else mapPut b.chans q t })
    some ((d.modThread n (fun x => { x with recv := (List.range m.length).map (fun k => (k, m.getD k 0)) })).wreg n wd (BitVec.ofNat 64 m.length))
/-- CHR: the head message of own queue SEL[3:0]; wd = its length in words, 0 when none; with BLOCK it waits. -/
def execChr (core thread wd sel : Nat) (imm : BitVec 8) (s : State) : Host.Outcome State Fault Refusal :=
  let n := 8 * core + thread
  let q := 16 * core + sel % 16
  let block := imm.toNat.testBit 7
  doneH s (s.dev.instr core thread wd 2 (!block) (fun d _ => match d.chanTake n wd q with
    | some d => .ok d
    | none => if block then .wait d (.recv q) else .ok (d.wreg n wd 0)))
/-- CHL: wd = receive buffer word IMM8[2:0]. -/
def execChl (core thread wd : Nat) (imm : BitVec 8) (s : State) : Host.Outcome State Fault Refusal :=
  doneH s (s.dev.regInstr core thread wd 1 (fun t => mapGetD t.recv (imm.toNat % 8) 0))

/-! ## Waits (Table 7, R276, R277) -/

/-- The wake word: REASON in bits 1:0, TIMER_ALSO in bit 2, event bits in 15:8. -/
def wakeWord (events : Nat) (timer : Bool) : Nat := if events = 0 then 0 else 1 + (if timer then 4 else 0) + 256 * events
/-- The wake word written and kept for debug; the events returned are cleared, but CHANNEL. -/
def Dev.giveWake (d : Dev) (n wd events : Nat) (timer : Bool) : Dev :=
  (d.modThread n (fun t => { t with wake := wakeWord events timer, events := t.events &&& (255 - events) })).wreg n wd (BitVec.ofNat 64 (wakeWord events timer))
/-- WAITT: returns at once when the time has been reached. -/
def execWaitt (core thread wd wa : Nat) (s : State) : Host.Outcome State Fault Refusal :=
  let n := 8 * core + thread
  doneH s (s.dev.instr core thread wd 2 false (fun d t =>
    let T := (t.reg wa).toNat
    if d.nowNs ≥ T then .ok (d.giveWake n wd 0 true) else .wait d (.time T)))
/-- WAITE: returns at once when a masked event is set or the time has been reached. -/
def execWaite (core thread wd wa : Nat) (imm : BitVec 8) (s : State) : Host.Outcome State Fault Refusal :=
  let n := 8 * core + thread
  doneH s (s.dev.instr core thread wd 2 false (fun d t =>
    let T := (t.reg wa).toNat
    let ev := d.threadEvents n &&& imm.toNat
    let due := decide (T ≠ 0) && decide (d.nowNs ≥ T)
    if ev ≠ 0 ∨ due = true then .ok (d.giveWake n wd ev due) else .wait d (.event imm.toNat (if T = 0 then none else some T))))

/-- A WAITING thread runs again. -/
def Dev.rouse (d : Dev) (n : Nat) : Dev := d.modThread n (fun t => { t with run := 1, wait := .none })

/-- THREAD_WAKE (R277, R278): what the thread waits for has come, and it receives its wake word or result. A wake of a HALTED thread is
kept for its RESUME. -/
def Dev.threadWake (d : Dev) (n : Nat) : Dev :=
  let t := d.thread n
  if t.run ≠ 2 then d else
  match t.wait with
  | .none => d
  | .time T => if d.nowNs ≥ T then (d.giveWake n t.wd 0 true).rouse n else d
  | .event m at_ =>
    let ev := d.threadEvents n &&& m
    let due := match at_ with
      | some T => decide (d.nowNs ≥ T)
      | none => false
    if ev ≠ 0 ∨ due = true then (d.giveWake n t.wd ev due).rouse n else d
  | .lock k => match mapGet d.barb.locks k with
    | some l => if l.owner = n then d.rouse n else d
    | none => d
  | .send q m =>
    if (d.chanThread q).isNone then (d.wreg n t.wd 2).rouse n
    else if d.chanRoom q then ((d.chanSend n q m).wreg n t.wd 0).rouse n else d
  | .recv q => match d.chanTake n t.wd q with
    | some d => d.rouse n
    | none => d
  | .lkf key => match d.fwdFind (keyMac key) (keyFd key) with
    | some i => (d.lkfHit n t.wd i).rouse n
    | none => (d.wreg n t.wd 0).rouse n
  | .lkk key => (d.wreg n t.wd (BitVec.ofNat 64 ((d.lkkFind (d.threadSet t) key true).getD 0))).rouse n
  | .load a size => match d.shut (t.shuttle.getD 0) with
    | none => d
    | some x => if x.arrived (a + size) then (d.wreg n t.wd (BitVec.ofNat 64 (leNat (t.frameBytes x a size)))).rouse n else d
  | .store a size v => match d.shut (t.shuttle.getD 0) with
    | none => d
    | some x =>
      if !x.arrived (a + size) then d
      else if a + size > x.window.length then (d.modThread n (fun t => { t with pc := t.pc - 1 })).progFault n Cause.roField
      else (d.winStore n a size v).rouse n

/-- THREAD_WAKE. What reaches a gated core waits for its wake (R29). -/
def execThreadWake (core thread : Nat) (s : State) : Host.Outcome State Fault Refusal :=
  if core ≥ 64 || thread ≥ 8 || s.dev.isGated 0 core then done s s.dev else doneH s (s.dev.threadWake (8 * core + thread))

/-- SIG: SIGNAL of thread SEL[2:0] of the same core. -/
def execSig (core thread sel : Nat) (s : State) : Host.Outcome State Fault Refusal :=
  doneH s (s.dev.instr core thread 0 1 true (fun d _ => .ok (d.threadEvent (8 * core + sel % 8) 3)))

/-! ## Thread control (Table 7, R278) -/

/-- An instruction of thread 0 that names another thread, which is not a DISPATCH thread; anything else faults with MASTER_ONLY. -/
def Dev.masterInstr (d : Dev) (core th wd sel cost : Nat) (f : Dev → Thread → Nat → Eff) : Dev :=
  let m := 8 * core + sel % 8
  d.instr core th wd cost true (fun d t => if th ≠ 0 ∨ sel % 8 = 0 ∨ d.isDispatch m = true then .fault Cause.masterOnly else f d t m)
/-- TSET: no effect on a thread that is not IDLE. -/
def execTset (core thread wa sel : Nat) (imm : BitVec 8) (s : State) : Host.Outcome State Fault Refusal :=
  doneH s (s.dev.masterInstr core thread 0 sel 1 (fun d t m =>
    .ok (if (d.thread m).run = 0 then d.wreg m (imm.toNat % 32) (t.reg wa) else d)))
/-- TGO: wd = 0 started, 1 BUSY; the budget is the value of BARM, 0 for none (R280). -/
def execTgo (core thread wd wa sel : Nat) (s : State) : Host.Outcome State Fault Refusal :=
  let n := 8 * core + thread
  doneH s (s.dev.masterInstr core thread wd sel 2 (fun d t m =>
    if (d.thread m).run ≠ 0 then .ok (d.wreg n wd 1)
    else if !d.codePc core (t.reg wa).toNat then .fault Cause.range
    else .ok ((d.modThread m (fun x => { x with run := 1, halted := false, pc := (t.reg wa).toNat, wait := .none, staging := [],
                                                budget := if x.armed = 0 then none else some x.armed })).wreg n wd 0)))
/-- TSTOP: wd = 0 stopped, 1 already IDLE. -/
def execTstop (core thread wd sel : Nat) (s : State) : Host.Outcome State Fault Refusal :=
  let n := 8 * core + thread
  doneH s (s.dev.masterInstr core thread wd sel 2 (fun d _ m =>
    if (d.thread m).run = 0 then .ok (d.wreg n wd 1) else .ok ((d.endThread m).wreg n wd 0)))
/-- BARM: the budget of a thread for its next TGO. -/
def execBarm (core thread wa sel : Nat) (s : State) : Host.Outcome State Fault Refusal :=
  doneH s (s.dev.masterInstr core thread 0 sel 1 (fun d t m => .ok (d.modThread m (fun x => { x with armed := (t.reg wa).toNat % 65536 }))))
/-- BRD: the remaining budget, its own cost charged; the spec gives no value for an unbudgeted thread, which reads a free one (DESIGN CHOICE,
assumption log 4). -/
def execBrd (core thread wd : Nat) (s : State) : Host.Outcome State Fault Refusal :=
  let n := 8 * core + thread
  doneH s (s.dev.instr core thread wd 1 true (fun d t => match t.budget with
    | some b => .ok (d.wreg n wd (BitVec.ofNat 64 b))
    | none =>
      let (v, d) := d.fresh
      .ok (d.wreg n wd v)))

/-! ## Dispatch and TEND (R264 to R266) -/

/-- The changes of a program written back: its writable shuttle fields and the frame bytes that FST changed (R266). An ingress record still to
come keeps the KEY from before (R118). -/
def Shut.writeBack (s : Shut) (t : Thread) : Shut :=
  { s with keyBefore := if s.keyBefore.isSome || s.ingressTaken then s.keyBefore else some (s.get S.KEY),
           w := (s.w &&& ~~~ programMask) ||| (t.copy &&& programMask),
           frame := t.win.foldl (fun f p => if p.1 < f.length then f.set p.1 p.2 else f) s.frame }

/-- What follows a program's TEND (R149, R266): a set DROP discards, a newly set EXCEPTION runs the exception list, and else the pass
ends. -/
def Dev.afterProgram (d : Dev) (i : Nat) (old : Shut) : Dev :=
  match d.shut i with
  | none => d
  | some s =>
    let d := d.putShut i { s with stage := .pass }
    if s.flag Fl.DROP then d.discard i 2
    else if s.flag Fl.EXCEPTION && !old.flag Fl.EXCEPTION then (d.runExc i s.exc 1 none).settlePass i
    else (d.passEnd i).settlePass i

/-- TEND: a dispatched thread's cost is within the 6 turns of R265; one that still holds locks faults with LOCK_LEAK after the write-back
(R272). -/
def execTend (core thread : Nat) (s : State) : Host.Outcome State Fault Refusal :=
  let n := 8 * core + thread
  let t := s.dev.thread n
  if core ≥ 64 || thread ≥ 8 || !t.issues then done s s.dev else
  let leak := !(s.dev.locksOf n).isEmpty
  match t.shuttle with
  | some i => match s.dev.shut i with
    | none => doneH s (s.dev.endThread n)
    | some x =>
      let d := s.dev.putShut i (x.writeBack t)
      if leak then doneH s (((d.faultNote n Cause.lockLeak).endThread n).programExc i)
      else doneH s ((d.endThread n).afterProgram i x)
  | none =>
    doneH s (s.dev.instr core thread 0 1 true (fun d _ =>
      if leak then .fault Cause.lockLeak else .ok (d.endThread n)))

/-- The shuttles that wait for a core: the guaranteed ones, or the others (R264). -/
def Dev.waitingFor (d : Dev) (core : Nat) (guar : Bool) : List (Nat × Shut) :=
  d.shuts.filter (fun (p : Nat × Shut) => p.2.stage == .dispatch && p.2.dropReason.isNone && p.2.guaranteed == guar && d.programCore p.2 == core)

/-- The budget of a dispatched shuttle (R280). -/
def Dev.dispatchBudget (d : Dev) (s : Shut) : Nat :=
  let own := recGet ((d.cfgOf s).record Tab.program (s.get S.PROGRAM)) ⟨32, 16⟩
  match s.envelope with
  | some e => if s.guaranteed then (d.cfgOf s).get (EV.BUDGET e) else own
  | none => own

/-- A shuttle given to a thread (R265): copies of the shuttle and the frame window, the program's ENTRY, w1 to w3, and the budget. CELL is
not a program's to read: its copy is a free value. -/
def Dev.startProgram (d : Dev) (n i : Nat) (s : Shut) : Dev :=
  let e := (d.cfgOf s).record Tab.program (s.get S.PROGRAM)
  let (v, d) := d.fresh
  let t : Thread := { run := 1, pc := recGet e ⟨0, 16⟩, budget := some (d.dispatchBudget s), events := (d.thread n).events, armed := (d.thread n).armed,
                      shuttle := some i, guar := d.isGuar n, copy := (s.set S.CELL v.toNat).w,
                      regs := [(1, BitVec.ofNat 64 (s.get S.PROGRAM)), (2, BitVec.ofNat 64 (s.get S.LENGTH)), (3, BitVec.ofNat 64 (s.get S.CLASS))] }
  ((d.putThread n t).putShut i { s with stage := .thread }).count K.BARB_DISPATCHED

/-- PROGRAM_DISPATCH (R54, R264, R265, R387): the dispatcher of a core hands the next shuttle to an IDLE thread, which the command names:
guaranteed shuttles to GUAR threads, the others to DISPATCH threads that are not GUAR. A core that is OUT sends the shuttle through its
exception list, and a core that is being moved takes none. -/
def execProgramDispatch (core thread : Nat) (s : State) : Host.Outcome State Fault Refusal :=
  let d := s.dev
  let n := 8 * core + thread
  if core ≥ 64 || thread ≥ 8 || !d.deciding || d.isGated 0 core then done s d
  else if d.flt.outUnits.contains (2, core) then
    match d.arbFirst false (d.waitingFor core true ++ d.waitingFor core false) with
    | some i => doneH s (d.programExc i)
    | none => done s d
  else if d.flt.wearMoves.contains (2, core) || !d.isDispatch n || (d.thread n).run ≠ 0 then done s d
  else match d.arbFirst false (d.waitingFor core (d.isGuar n)) with
    | none => done s d
    | some i => match d.shut i with
      | some x => done s (d.startProgram n i x)
      | none => done s d

end Sys2Proof.Machine
end

