-- ==== Sys2Proof/Machine/Debug.lean ====
section
/-! DEFINITION. The stall detector, core resets by software, debug halt, and the manager's BARB operations (R31, R284 to R287). -/
namespace Sys2Proof.Machine
open Sys2Proof

/-! ## Stall detector (R284) -/

/-- Whether a data-class mailbox or a bulk mover's event line is bound to a thread. -/
def Dev.mboxBound (d : Dev) (n : Nat) : Bool :=
  (List.range 256).any (fun m => d.dataBound m && (d.get (F.MBOX_DATA_BIND_RECEIVER m) == n || d.get (F.MBOX_DATA_BIND_SENDER m) == n))
def Dev.moverBound (d : Dev) (n : Nat) : Bool :=
  (List.range 32).any (fun c => d.get (F.MOVE_CH_CFG_EVENT_TO c) == 1 && d.get (F.MOVE_CH_CFG_EVENT_EP c) == n)
/-- Whether a queue is bound to a thread. -/
def Dev.chanBound (d : Dev) (n : Nat) : Bool := (List.range 16).any (fun k => d.chanThread (16 * (n / 8) + k) == some n)

/-- Whether a waiting thread can be woken from outside its core. -/
def Dev.wakesFromOutside (d : Dev) (n : Nat) : Bool :=
  match (d.thread n).wait with
  | .none => false
  | .time _ => true
  | .event m at_ => at_.isSome || (m.testBit 0 && d.chanBound n) || (m.testBit 1 && d.moverBound n) || (m.testBit 2 && decide (n < 64) && d.mboxBound n)
  | .lock k => match mapGet d.barb.locks k with
    | some l => l.owner / 8 != n / 8
    | none => false
  | .send q _ => q / 16 != n / 8
  | .recv _ => true
  | .lkf _ | .lkk _ | .load _ _ | .store _ _ _ => true

/-- A stalled core: no thread RUNNING or HALTED, some thread WAITING, and none that can be woken from outside. -/
def Dev.stalled (d : Dev) (c : Nat) : Bool :=
  let ts := coreThreads c
  ts.all (fun n => (d.thread n).run != 1 && !(d.thread n).halted)
    && ts.any (fun n => (d.thread n).run == 2) && ts.all (fun n => (d.thread n).run != 2 || !d.wakesFromOutside n)

/-- STALL_DETECT (R284): 256 stalled cycles have passed. Thread 0 wakes with CORE when it waits for it; else the core is reset as a
transient fault. -/
def execStallDetect (core : Nat) (s : State) : Host.Outcome State Fault Refusal :=
  let d := s.dev
  if core ≥ 64 || !d.stalled core then done s d else
  let d := (d.count K.BARB_STALL_EVENTS).raise F.BARB_EVENT_STALL
  let t := d.thread (8 * core)
  match t.run, t.wait with
  | 2, .event m _ => if m.testBit 4 then doneH s ((d.threadEvent (8 * core) 4).threadWake (8 * core)) else
      doneH s (((d.count K.BARB_STALL_RESETS).barbLog (8 * core) 0x10 t.pc 0).coreTransient core)
  | _, _ => doneH s (((d.count K.BARB_STALL_RESETS).barbLog (8 * core) 0x10 t.pc 0).coreTransient core)

/-- An access to a core's registers: made after the wake when the core is gated (R30). -/
def coreAccess (core : Nat) (i : HeldOp) (s : State) (now : Dev) : Host.Outcome State Fault Refusal :=
  if core < 64 && s.dev.responds 0xB02018 && s.dev.asleep 0 core then done s (s.dev.holdFor 0 core i) else doneH s now

/-- CORE_RESET_WRITE (R31, R283): ignored for cores 0 to 7, and without the KEY. -/
def execCoreResetWrite (core key : Nat) (s : State) : Host.Outcome State Fault Refusal :=
  let d := s.dev
  if core < 8 ∨ core ≥ 64 ∨ key ≠ 0xC0E5 ∨ d.responds 0xB02014 = false then done s d
  else coreAccess core (.coreReset core key) s (d.coreReset core 0)

/-! ## Debug halt (R285) -/

/-- Whether debug of a core is unlocked. -/
def Dev.debugOpen (d : Dev) (c : Nat) : Bool := if c < 8 then d.flag F.BARB_DBG_STATUS_VENDOR_EN else d.flag F.BARB_DBG_STATUS_DEBUG_EN
/-- Whether a core holds an admitted GT or GD envelope. -/
def Dev.coreAdmitted (d : Dev) (c : Nat) : Bool :=
  decide (8 ≤ c) && d.cfg.active.envs.any (fun e => d.cfg.active.get (EV.CORE e) == c && d.cfg.active.get (EV.STATE e) == 1 && decide (d.cfg.active.get (EV.CLASS e) < 2))
/-- The debug port's commands need a core that is there, the block's response and debug unlocked. -/
def Dev.debugAt (d : Dev) (core th : Nat) : Bool := decide (core < 64) && decide (th < 8) && d.responds 0xB02018 && d.debugOpen core

/-- A thread halted: its wait goes on, but a CHS that waits is withdrawn and issues again on resume (R275, R285). -/
def Thread.halt (t : Thread) : Thread :=
  match t.wait with
  | .send _ _ => { t with halted := true, run := 1, wait := .none, pc := t.pc - 1 }
  | _ => { t with halted := true }

/-- DEBUG_HALT: refused while debug is locked, or when the core holds an admitted envelope. -/
def Dev.debugHalt (d : Dev) (core th : Nat) : Dev :=
  let n := 8 * core + th
  if core ≥ 64 || th ≥ 8 || !d.responds 0xB02018 then d
  else if !d.debugOpen core || d.coreAdmitted core then d.raise F.BARB_EVENT_DBG_REFUSED
  else if (d.thread n).run = 0 ∨ (d.thread n).halted = true then d
  else (d.count K.BARB_DBG_HALTS).modThread n (·.halt)
/-- DEBUG_RESUME. -/
def Dev.debugResume (d : Dev) (core th : Nat) : Dev :=
  if d.debugAt core th then d.modThread (8 * core + th) (fun t => { t with halted := false, stepDue := false }) else d
/-- DEBUG_STEP: the next instruction of a halted thread that is not waiting issues. -/
def Dev.debugStep (d : Dev) (core th : Nat) : Dev :=
  if d.debugAt core th && (d.thread (8 * core + th)).halted && (d.thread (8 * core + th)).run == 1
  then d.modThread (8 * core + th) (fun t => { t with stepDue := true }) else d

/-- DEBUG_HALT (R285). -/
def execDebugHalt (core thread : Nat) (s : State) : Host.Outcome State Fault Refusal :=
  coreAccess core (.debugHalt core thread) s (s.dev.debugHalt core thread)
/-- DEBUG_RESUME (R285): a wake that came while the thread was halted has been kept in its registers. -/
def execDebugResume (core thread : Nat) (s : State) : Host.Outcome State Fault Refusal :=
  coreAccess core (.debugResume core thread) s (s.dev.debugResume core thread)
/-- DEBUG_STEP (R285). -/
def execDebugStep (core thread : Nat) (s : State) : Host.Outcome State Fault Refusal :=
  coreAccess core (.debugStep core thread) s (s.dev.debugStep core thread)

/-- The item of a thread that DBG_SEL selects (BARB_CORE_n_DBG_SEL). -/
def Thread.item (t : Thread) (k : Nat) : Dword :=
  if k < 32 then t.reg k
  else if k = 32 then BitVec.ofNat 64 t.pc
  else if k = 33 then BitVec.ofNat 64 (t.budget.getD 0)
  else if k = 34 then BitVec.ofNat 64 t.wake
  else if k < 43 then mapGetD t.staging (k - 35) 0
  else if k < 51 then mapGetD t.recv (k - 43) 0
  else 0

/-- A debug write (R285): w1 to w31 or the 32-bit PC of a HALTED thread. -/
def Dev.debugDataWrite (d : Dev) (core : Nat) (value : Dword) : Dev :=
  let n := 8 * core + d.get (F.BARB_CORE_DBG_SEL_THREAD core)
  let k := d.get (F.BARB_CORE_DBG_SEL_ITEM core)
  if !d.debugAt core 0 || !(d.thread n).halted || k = 0 || k > 32 then d
  else d.modThread n (fun t => if k = 32 then { t with pc := value.toNat % 2 ^ 32 } else t.setReg k value)
/-- DEBUG_DATA_WRITE. -/
def execDebugDataWrite (core : Nat) (value : Dword) (s : State) : Host.Outcome State Fault Refusal :=
  coreAccess core (.debugData core value) s (s.dev.debugDataWrite core value)

/-! ## Program entries and channel bindings (R287) -/

/-- The BARB_IND_DATA window. -/
def barbWin : Nat := 0xB00240
/-- The table that TABLE and INDEX name. -/
def barbTable (table index : Nat) : Option Nat :=
  if table = 0 ∧ 1 ≤ index ∧ index < 65536 then some Tab.program else if table = 1 ∧ index < 1024 then some Tab.binding else none

/-- BARB_READ. -/
def execBarbRead (table set index : Nat) (s : State) : Host.Outcome State Fault Refusal :=
  done s (s.dev.indirect 0xB00200 0 table set index (fun d => match barbTable table index with
    | none => (d, IndResult.range.code)
    | some tab => (d.showRec barbWin 16 ((d.setBy set).record tab index), IndResult.ok.code)))

/-- A record as BARB_WRITE stages it: the RO fields keep their image values, and entries and bindings of cores 0 to 7 do not change. -/
def Dev.barbMerge (d : Dev) (tab index : Nat) : Rec :=
  let old := d.cfg.shadow.record tab index
  let w := d.winRec barbWin 16
  if tab = Tab.program then
    (if recGet old ⟨16, 6⟩ < 8 then old else recSet (recSet old ⟨22, 1⟩ (recGet w ⟨22, 1⟩)) ⟨32, 16⟩ (recGet w ⟨32, 16⟩))
  else if index < 128 then old else recSet 0 ⟨0, 4⟩ (recGet w ⟨0, 4⟩)

/-- BARB_WRITE. -/
def execBarbWrite (table set index : Nat) (s : State) : Host.Outcome State Fault Refusal :=
  done s (s.dev.indirect 0xB00200 1 table set index (fun d => match barbTable table index with
    | none => (d, IndResult.range.code)
    | some tab => d.indWrite set tab index (some (d.barbMerge tab index)) 16))

end Sys2Proof.Machine
end

