-- ==== Sys2Proof/Machine/Clock.lean ====
section
/-! DEFINITION. Quartz and its inputs and outputs (ch. 4): steering, latching, steps and epochs, PPS_IN, CLK10_IN, TOD, PPS_OUT,
the servo's published states, and the transmit stamp FIFOs. -/
namespace Sys2Proof.Machine
open Sys2Proof

/-- The limit of |F| (R84). -/
def freqLimit : Int := 140737488355
/-- A frequency word brought into its range (R84). -/
def clampFreq (f : Int) : Int := if f > freqLimit then freqLimit else if f < -freqLimit then -freqLimit else f

/-- 60 s in weave-clock cycles. -/
def minuteCycles : Nat := 72000000000

/-- A log of frequency words without those that stopped holding before a cycle. -/
def fTrim (from_ : Nat) : List (Nat × Int) → List (Nat × Int)
  | a :: b :: t => if b.1 ≤ from_ then fTrim from_ (b :: t) else a :: b :: t
  | l => l

/-- The sum of the frequency words of a log over the cycles from `from_` to `now`, each weighed by the cycles it held, and those cycles. -/
def fSum (from_ now : Nat) : List (Nat × Int) → Int × Nat
  | [] => (0, 0)
  | (c, f) :: t =>
    let n := (match t with
      | b :: _ => b.1
      | [] => now) - max c from_
    let r := fSum from_ now t
    (r.1 + f * n, r.2 + n)

/-- The average of F over the last 60 s of LOCKED (R100), rounded down to a unit of F. -/
def Time.fAverage (t : Time) : Int :=
  let r := fSum (t.cycles - minuteCycles) t.cycles t.fLog
  if r.2 = 0 then t.f else r.1 / (r.2 : Int)

/-- F written: clamped with FREQ_CLAMP raised, and shown in TIME_FREQ (R84); in LOCKED the words of the last 60 s are kept (R100). -/
def Dev.setFreq (d : Dev) (f : Int) : Dev :=
  let g := clampFreq f
  let log := if d.get F.TIME_STATUS_SERVO = 2 then fTrim (d.time.cycles - minuteCycles) (d.time.fLog ++ [(d.time.cycles, g)]) else d.time.fLog
  let d := { d with time := { d.time with f := g, fLog := log } }.set F.TIME_FREQ_F (unsignedOf 39 g)
  if f = g then d else d.raise F.TIME_EVENT_FREQ_CLAMP

/-- CLK10_OUT in a weave cycle (R97, R106): its level follows TIME_NS modulo 100, but no phase ends before its 25 ns, and after a step none
begins that would have less than 25 ns left: the phase in progress is stretched. -/
def Time.clkNext (t : Time) : Time :=
  let ns := t.q / unit16 / 65536
  let want := decide (ns % 100 < 50)
  if want != t.clkHigh && decide (t.clkSince + 30 ≤ t.cycles) && decide (ns % 50 ≤ 25) then { t with clkHigh := want, clkSince := t.cycles } else t

/-- Quartz after one weave-clock cycle: P × (1 + F × 2^-48) more, exactly (R84). -/
def quartzNext (t : Time) : Time :=
  Time.clkNext { t with q := ((t.q : Int) + 5 * (2 ^ 48 + t.f)).toNat % quartzMod, cycles := t.cycles + 1 }

/-- FREQ_WRITE (R84): the high word is written; the low word is the one last written. -/
def execFreqWrite (high : Word) (s : State) : Host.Outcome State Fault Refusal :=
  let d := s.dev
  if !d.responds 0x300018 then done s d else
  done s (d.setFreq (signedOf 39 ((d.word 0x300018).toNat + 2 ^ 32 * high.toNat)))

/-- TIME_LATCH (R86). -/
def execTimeLatch (s : State) : Host.Outcome State Fault Refusal :=
  let d := s.dev
  if !d.responds 0x300008 then done s d else
  done s ((d.set F.TIME_NOW_NS_NS d.nowNs).set F.TIME_NOW_FRAC_FRAC (d.now % 65536))

/-! ## Steps (R101 to R106) -/

/-- A step requested; a request while one is pending is ignored with STEP_GO_IGNORED (R101). Δ is in 2^-16 ns. An AT that has passed is as
AT 0. -/
def Dev.requestStep (d : Dev) (delta : Int) (at_ : Nat) : Dev :=
  match d.time.step with
  | some _ => d.raise F.TIME_EVENT_STEP_GO_IGNORED
  | none =>
    let r : StepReq := ⟨delta, if at_ ≤ d.nowNs then 0 else at_, false, d.time.cycles⟩
    { d with time := { d.time with step := some r } }.set F.TIME_STATUS_STEP_PENDING 1

/-- STEP_GO (R101). -/
def execStepGo (frac : Nat) (s : State) : Host.Outcome State Fault Refusal :=
  let d := s.dev
  if !d.responds 0x300030 then done s d else
  let d := d.set F.TIME_STEP_CTRL_FRAC frac
  done s (d.requestStep (signedOf 64 (d.get F.TIME_STEP_NS_DELTA) * 65536 + (frac % 65536 : Nat)) (d.get F.TIME_STEP_AT_AT))

/-- Whether a requested step's time has come (R101): 64 cycles after GO, or when TIME_NS has reached AT. -/
def Dev.stepDue (d : Dev) (r : StepReq) : Bool := if r.at_ = 0 then decide (r.go + 64 ≤ d.time.cycles) else decide (r.at_ ≤ d.nowNs)

/-- Whether a shuttle belongs to a step epoch (R104). -/
def Shut.inEpoch (x : Shut) (e : Nat) : Bool := x.epoch == e || (x.guaranteed && x.dlEpoch == e)

/-- Whether a shuttle or a pending comparison holds a step epoch (R104): the stamps of frames whose shuttle is to come, of doorbells and of
pushes, and the start of guaranteed reads and walks. -/
def Dev.epochHeld (d : Dev) (e : Nat) : Bool :=
  d.shuts.any (fun p => p.2.inEpoch e)
    || d.net.ports.any (fun p => p.2.stamps.any (fun x => x.epoch == e))
    || d.rings.any (fun p => p.2.doorbells.any (fun b => b.2.epoch == e) || p.2.pushes.any (fun x => x.stamp.epoch == e))
    || d.hif.reads.any (fun r => r.guar && r.epoch == e) || d.hif.walks.any (fun w => w.guar && w.epoch == e)

/-- A step applied: Quartz moves by Δ, the epoch advances, the sums of the other epochs grow, a STEP record is written to
every running stream with the instant on the new scale, STEPS counts, VALID and STEP_DONE are set (R83, R102, R105), and the gates take
their new positions (R253). -/
def Dev.applyStep (d : Dev) (delta : Int) : Dev :=
  let was := d.now
  let e := (d.epoch + 1) % 4
  let q := (((d.time.q : Int) + delta * (unit16 : Int)) % (quartzMod : Int)).toNat
  let sums := (d.time.epochSum.map (· + delta)).set e 0
  let d := { d with time := { d.time with q := q, epochSum := sums, step := none } }
  let d := ((d.set F.TIME_STATUS_EPOCH e).set F.TIME_STATUS_STEP_PENDING 0).set F.TIME_STATUS_VALID 1
  let d := (d.raise F.TIME_EVENT_STEP_DONE).count K.TIME_STEPS
  let du := unsignedOf 80 delta
  let d := d.runningStreams.foldl (fun d s => d.offerRecord s 1 true d.nowNs
      (d.moduleRecord d.now 3 (leBytes 2 du ++ leBytes 2 e ++ leBytes 8 (du / 65536) ++ leBytes 4 0))) d
  (List.range 8).foldl (fun d n => d.gateStep was delta n) d

/-- STEP_APPLY (R101, R104, R105): the step whose time has come is applied; while the epoch three steps back is held, it waits and STEP_HELD is
raised. -/
def execStepApply (s : State) : Host.Outcome State Fault Refusal :=
  let d := s.dev
  match d.time.step with
  | none => done s d
  | some r =>
    if !d.stepDue r then done s d
    else if d.epochHeld ((d.epoch + 1) % 4) then
      done s ({ d with time := { d.time with step := some { r with held := true } } }.raise F.TIME_EVENT_STEP_HELD)
    else done s (d.applyStep r.delta)

/-- A stamp's epoch folded into the next one. -/
def foldEpoch (old e : Nat) : Nat := if e = old then (old + 1) % 4 else e
/-- A stamp of a folded epoch. -/
def StampAt.fold (old : Nat) (x : StampAt) : StampAt := { x with epoch := foldEpoch old x.epoch }

/-- A shuttle of the held epoch folded into the next one; a guaranteed one takes the time of the fold as its deadline (R104). -/
def foldShut (now cur old : Nat) (x : Shut) : Shut :=
  let x1 := { x with epoch := foldEpoch old x.epoch, endEpoch := foldEpoch old x.endEpoch
                     creditAt := x.creditAt.map (fun c => (c.1, foldEpoch old c.2)) }
  if x1.dlEpoch = old then
    if x1.guaranteed then { (x1.set S.DEADLINE (stampField now)) with dlEpoch := cur } else { x1 with dlEpoch := (old + 1) % 4 }
  else x1

/-- The pending comparisons of the held epoch folded with its shuttles (DEDUCED, assumption log 89). -/
def Dev.foldPending (d : Dev) (old : Nat) : Dev :=
  let d := d.modNet (fun n => { n with ports := n.ports.map (fun p => (p.1, { p.2 with stamps := p.2.stamps.map (StampAt.fold old) })) })
  let d := d.modHif (fun h => { h with reads := h.reads.map (fun (r : HRead) => { r with epoch := foldEpoch old r.epoch })
                                       walks := h.walks.map (fun (w : Walk) => { w with epoch := foldEpoch old w.epoch }) })
  { d with rings := d.rings.map (fun p => (p.1, { p.2 with doorbells := p.2.doorbells.map (fun b => (b.1, b.2.fold old))
                                                           pushes := p.2.pushes.map (fun (x : Push) => { x with stamp := x.stamp.fold old }) })) }

/-- STEP_FOLD (R104): 10 ms after its GO, a step that is held folds what remains of the held epoch, counts each shuttle, and is applied. -/
def execStepFold (s : State) : Host.Outcome State Fault Refusal :=
  let d := s.dev
  match d.time.step with
  | none => done s d
  | some r =>
    if !r.held || decide (d.time.cycles < r.go + 12000000) then done s d else
    let old := (d.epoch + 1) % 4
    let n := (d.shuts.filter (fun p => p.2.inEpoch old)).length
    let shuts := d.shuts.map (fun (p : Nat × Shut) => (p.1, foldShut d.now d.epoch old p.2))
    done s ((({ d with shuts := shuts }.foldPending old).count K.TIME_EPOCH_FOLD n).applyStep r.delta)

/-! ## Timing inputs (R92 to R95) -/

/-- PPS_IN_EDGE (R93): a declared edge is stamped to 250 ps; `offset` is its measured offset from the follower's last step in
2^-6 ns (R89). An undeclared input or the other edge has no effect (R92). -/
def execPpsInEdge (rising : Bool) (offset : Nat) (s : State) : Host.Outcome State Fault Refusal :=
  let d := s.dev
  if d.time.decl.ppsIn ≠ (if rising then 1 else 2) || d.sys.inReset then done s d else
  let t := netStamp (d.now + offset * 1024)
  let d := if d.time.ppsUnread then (d.count K.TIME_PPS_IN_OVERRUN).raise F.TIME_EVENT_PPS_IN_OVERRUN else d
  let d := (d.set F.TIME_PPS_IN_NS_NS (t / 65536)).set F.TIME_PPS_IN_FRAC_FRAC (t % 65536)
  let d := (d.raise F.TIME_EVENT_PPS_IN).set F.TIME_STATUS_PPS_IN_OK 1
  done s ({ d with time := { d.time with ppsUnread := true } }.count K.TIME_PPS_IN_EDGES)

/-- PPS_IN_LOSS (R93): 1.5 s without an edge; an edge in the same cycle prevents the loss (R34). -/
def execPpsInLoss (edgeToo : Bool) (s : State) : Host.Outcome State Fault Refusal :=
  let d := s.dev
  if edgeToo || d.time.decl.ppsIn = 0 then done s d else
  done s ((d.raise F.TIME_EVENT_PPS_IN_LOSS).set F.TIME_STATUS_PPS_IN_OK 0)

/-- PPS_IN_READ (R93, R11): the nanoseconds are returned, cleared and marked consumed. -/
def execPpsInRead (s : State) : Host.Outcome State Fault Refusal :=
  let d := s.dev
  if !d.responds 0x300040 then done s (d.emit (.readData 0)) else
  let d := (d.emit (.readData (d.get F.TIME_PPS_IN_NS_NS))).set F.TIME_PPS_IN_NS_NS 0
  done s { d with time := { d.time with ppsUnread := false } }

/-- The signed offset of a time from the nearest 100 ns boundary, in 2^-16 ns (R94). R94 does not say which of two equally near boundaries is
meant: an edge 50 ns from both is +50 ns (DESIGN CHOICE, assumption log 84). -/
def clk10Phase (t : Nat) : Int :=
  let m := t % (100 * 65536)
  if 2 * m ≤ 100 * 65536 then (m : Int) else (m : Int) - 100 * 65536

/-- Whether HOLDOVER steers by CLK10_IN: it is declared present and stable (R100). -/
def Dev.clkHolds (d : Dev) : Bool := d.get F.TIME_STATUS_SERVO == 3 && d.time.decl.clk10In == 2

/-- CLK10_MEASURE (R94, R100): `edge.steer` is the frequency word with which firmware keeps the phase from drifting in a HOLDOVER that CLK10_IN holds.
R94 does not say how CLK10_OK judges the tolerance of 50 ppm: a measured edge sets it, and CLK10_LOSS clears it (DESIGN CHOICE, assumption log
84). -/
def execClk10Measure (edge : Clk10Edge) (s : State) : Host.Outcome State Fault Refusal :=
  let d := s.dev
  if d.time.decl.clk10In = 0 then done s d else
  let d := (d.set F.TIME_CLK10_PHASE_PHASE (unsignedOf 32 (clk10Phase (d.now + edge.offset * 1024)))).set F.TIME_STATUS_CLK10_OK 1
  done s (if d.clkHolds && d.sys.firmwareLoaded then d.setFreq edge.steer else d)

/-- CLK10_LOSS (R94, R100): a HOLDOVER that CLK10_IN held goes on with the average of F. -/
def execClk10Loss (s : State) : Host.Outcome State Fault Refusal :=
  let d := s.dev
  if d.time.decl.clk10In = 0 then done s d else
  let fall := d.clkHolds && d.sys.firmwareLoaded && d.flag F.TIME_STATUS_CLK10_OK
  let d := (d.raise F.TIME_EVENT_CLK10_LOSS).set F.TIME_STATUS_CLK10_OK 0
  done s (if fall then d.setFreq d.time.fHold else d)

/-- `n` decimal digits as ASCII. -/
def asciiDec (n x : Nat) : List Byte := (List.range n).reverse.map (fun i => BitVec.ofNat 8 (48 + x / 10 ^ i % 10))
/-- A hexadecimal digit as ASCII. -/
def asciiHex (x : Nat) : Byte := BitVec.ofNat 8 (if x < 10 then 48 + x else 55 + x)

/-- Whether a NMEA 0183 sentence of a kind is whole: its start, its name behind the talker, and its checksum (PRESUMED, assumption log 90). -/
def nmeaOk (kind m : List Byte) : Bool :=
  let n := m.length
  let ck := (sliceBytes m 1 (n - 6)).foldl (fun a b => a ^^^ b) (0 : Byte)
  decide (n ≥ 11) && m.headD 0 == 0x24 && sliceBytes m 3 3 == kind
    && m.drop (n - 5) == [0x2A, asciiHex (ck.toNat / 16), asciiHex (ck.toNat % 16), 0x0D, 0x0A]
/-- Whether a Tyulkan TOD frame is whole (Table 4). -/
def todOk (m : List Byte) : Bool :=
  m.take 3 == [0xA5, 0x5A, 0x01] && (m.getD 3 0).toNat / 16 == 0 && m.drop 14 == beBytes 2 (crc16Ccitt (sliceBytes m 2 12))

/-- What firmware finds in the TOD_RX message so far, in the declared format (R95): none while it goes on, then whether it could be parsed. -/
def todParse (format : Nat) (m : List Byte) : Option Bool :=
  match format with
  | 1 => if m.getLast? == some 0x0A then some (nmeaOk [0x5A, 0x44, 0x41] m) else none
  | 2 => if m.getLast? == some 0x0A then some (nmeaOk [0x52, 0x4D, 0x43] m) else none
  | _ => if m.length = 16 then some (todOk m) else none

/-- TOD_RX_CHAR (R95, R455): the character is stored at HEAD of the 256-character window; the end of a message shows in TOD_OK whether firmware
parsed it. -/
def execTodRxChar (char : Byte) (afterIdle framingError : Bool) (s : State) : Host.Outcome State Fault Refusal :=
  let d := s.dev
  if !d.time.decl.todRx then done s d else
  let head := d.get F.TIME_TOD_RX_INDEX_HEAD
  let tail := d.get F.TIME_TOD_RX_INDEX_TAIL
  let d1 := (d.set ⟨0x302000 + head / 4 * 4, 8 * (head % 4), 8⟩ char.toNat).set F.TIME_TOD_RX_INDEX_HEAD (head + 1)
  let d2 := if (head + 256 - tail) % 256 = 255 then
      (d1.set F.TIME_TOD_RX_INDEX_TAIL (tail + 1)).set F.TIME_TOD_RX_INDEX_LOST (satAdd 65535 (d.get F.TIME_TOD_RX_INDEX_LOST) 1)
    else d1
  let d3 := if framingError then d2.count K.TIME_TOD_RX_ERRORS else d2
  let d4 := if afterIdle then (d3.raise F.TIME_EVENT_TOD_RX).count K.TIME_TOD_RX_MESSAGES else d3
  let m := (if afterIdle then [] else d.time.todMsg) ++ [char]
  let d5 := d4.modTime (fun t => { t with todMsg := m.drop (m.length - 256) })
  done s (if !d.sys.firmwareLoaded then d5 else match todParse d.time.decl.todFormat m with
    | some ok => d5.set F.TIME_STATUS_TOD_OK (if ok then 1 else 0)
    | none => d5)

/-! ## Timing outputs (R96 to R98) -/

/-- Whether TIME_NS is at an edge of PPS_OUT: a multiple of PERIOD_MS × 1,000,000 (R96). An instant that a step jumps over is none, and one
reached again is one again (R106). -/
def Dev.ppsEdge (d : Dev) : Bool := d.nowNs % (max 1 (d.get F.TIME_PPS_OUT_CFG_PERIOD_MS) * 1000000) == 0

/-- PPS_OUT_PULSE (R96, R98, R106): at an edge the output rises when it is declared and enabled, and VALID or FORCE is set; it stays high for
WIDTH_US. An edge on a whole second makes a TOD_TX message due. An edge reached again while the pulse is still high makes it last WIDTH_US from
there (DESIGN CHOICE, assumption log 89). -/
def execPpsOutPulse (s : State) : Host.Outcome State Fault Refusal :=
  let d := s.dev
  if !d.time.decl.ppsOut || !d.flag F.TIME_PPS_OUT_CFG_ENABLE || !d.ppsEdge
      || !(d.flag F.TIME_STATUS_VALID || d.flag F.TIME_PPS_OUT_CFG_FORCE) then done s d else
  let stop := d.time.cycles + 1200 * d.get F.TIME_PPS_OUT_CFG_WIDTH_US
  if d.time.ppsOutHigh then done s (d.modTime (fun t => { t with ppsEnd := max t.ppsEnd stop })) else
  let due := if d.nowNs % 1000000000 = 0 ∧ d.time.decl.todTx ∧ d.flag F.TIME_TOD_CFG_TX_EN then some (d.nowNs / 1000000000)
    else d.time.todTxDue
  done s ((d.modTime (fun t => { t with ppsOutHigh := true, ppsEnd := stop, todTxDue := due })).emit (.pinEdge 0 1))

/-- PPS_OUT_END (R96, R106): the pulse has had its full WIDTH_US. -/
def execPpsOutEnd (s : State) : Host.Outcome State Fault Refusal :=
  let d := s.dev
  if !d.time.ppsOutHigh || decide (d.time.cycles < d.time.ppsEnd) then done s d else
  done s ((d.modTime (fun t => { t with ppsOutHigh := false })).emit (.pinEdge 0 0))

/-- The level of CLK10_OUT: a 10 MHz square wave that rises when TIME_NS becomes a multiple of 100 (R97, R106; `Time.clkNext`). -/
def Dev.clk10Out (d : Dev) : Level :=
  if !d.driving || !d.time.decl.clk10Out then .highZ else if d.time.clkHigh then .high else .low

/-- The level of PPS_OUT and of an idle TOD_TX (R92, R96, R444): high impedance while not driven or not declared. -/
def Dev.ppsOutPin (d : Dev) : Level :=
  if !d.driving || !d.time.decl.ppsOut then .highZ else if d.time.ppsOutHigh then .high else .low
def Dev.todTxPin (d : Dev) : Level := if !d.driving || !d.time.decl.todTx then .highZ else .high

/-- Year, month and day of a day count since 1970-01-01. -/
def civilDate (days : Nat) : Nat × Nat × Nat :=
  let z := days + 719468
  let era := z / 146097
  let doe := z % 146097
  let yoe := (doe - doe / 1460 + doe / 36524 - doe / 146096) / 365
  let doy := doe - (365 * yoe + yoe / 4 - yoe / 100)
  let mp := (5 * doy + 2) / 153
  let m := if mp < 10 then mp + 3 else mp - 9
  (yoe + era * 400 + (if m ≤ 2 then 1 else 0), m, doy - (153 * mp + 2) / 5 + 1)

/-- The NMEA 0183 ZDA sentence of a UTC second (R98). The talker identifier is the model's choice (PRESUMED, assumption log 9). R98 does not say
how ZDA names an inserted second: LEAP61 and LEAP59 change nothing here, and the second after 23:59:59 is 00:00:00 of the next day (DESIGN CHOICE,
assumption log 84). -/
def zdaMessage (utc : Nat) : List Byte :=
  let (y, m, dd) := civilDate (utc / 86400)
  let t := utc % 86400
  let body : List Byte := [0x47, 0x50, 0x5A, 0x44, 0x41, 0x2C] ++ asciiDec 2 (t / 3600) ++ asciiDec 2 (t / 60 % 60) ++ asciiDec 2 (t % 60)
    ++ [0x2E, 0x30, 0x30, 0x2C] ++ asciiDec 2 dd ++ [0x2C] ++ asciiDec 2 m ++ [0x2C] ++ asciiDec 4 y ++ [0x2C, 0x30, 0x30, 0x2C, 0x30, 0x30]
  let ck := (body.foldl (fun a b => a ^^^ b) 0).toNat
  [0x24] ++ body ++ [0x2A, asciiHex (ck / 16), asciiHex (ck % 16), 0x0D, 0x0A]

/-- The Tyulkan TOD frame of a TAI second (ch. 4, Table 4); clock class and accuracy are firmware's and stated nowhere. -/
def todFrame (d : Dev) (sec cls acc : Nat) : List Byte :=
  let flags := d.get F.TIME_UTC_LEAP61 + 2 * d.get F.TIME_UTC_LEAP59 + 4 * d.get F.TIME_STATUS_TRACEABLE
    + 8 * (if d.get F.TIME_STATUS_SERVO = 3 then 1 else 0)
  let mid : List Byte := [1, BitVec.ofNat 8 flags] ++ beBytes 6 sec ++ beBytes 2 (d.get F.TIME_UTC_OFFSET)
    ++ [BitVec.ofNat 8 cls, BitVec.ofNat 8 acc]
  [0xA5, 0x5A] ++ mid ++ beBytes 2 (crc16Ccitt mid)

/-- TOD_TX_SEND (R98): the message names the whole second of the edge, in the format TX_FORMAT selects. -/
def execTodTxSend (s : State) : Host.Outcome State Fault Refusal :=
  let d := s.dev
  match d.time.todTxDue with
  | none => done s d
  | some sec =>
    let d1 := { d with time := { d.time with todTxDue := none } }
    if d.get F.TIME_TOD_CFG_TX_FORMAT = 0 || d.get F.TIME_TOD_CFG_TX_FORMAT = 3 then done s d1
    else if d.get F.TIME_TOD_CFG_TX_FORMAT = 1 then
      done s (d1.emit (.bytes 1 (zdaMessage (((sec : Int) - signedOf 16 (d.get F.TIME_UTC_OFFSET)).toNat))))
    else
      let (v, d2) := d1.fresh
      done s (d2.emit (.bytes 1 (todFrame d sec (v.toNat % 256) (v.toNat / 256 % 256))))

/-! ## The servo's states (R99, Table 5) -/

/-- Seconds in the HOLDOVER under way, saturating at 65,535 (R100). -/
def Dev.holdSeconds (d : Dev) : Nat := min 65535 ((d.time.cycles - d.time.holdStart) / 1200000000)

/-- A servo state change: SERVO_CHANGE and a health record (R99, R134). The log of F begins in LOCKED, and TIME_HOLD keeps its count when HOLDOVER
ends. -/
def Dev.servoTo (d : Dev) (new source : Nat) : Dev :=
  let old := d.get F.TIME_STATUS_SERVO
  let d := if old = 3 then d.set F.TIME_HOLD_ELAPSED_S d.holdSeconds else d
  let d := if new = 2 then d.modTime (fun t => { t with fLog := [(t.cycles, t.f)] }) else d
  let d := ((d.set F.TIME_STATUS_SERVO new).set F.TIME_STATUS_SOURCE source).raise F.TIME_EVENT_SERVO_CHANGE
  d.health 1 (old + 256 * new + 65536 * source) 0

/-- Firmware steps when the offset exceeds STEP_THRESH, and steers otherwise (Table 5). `offsetNs` is what Quartz must gain. -/
def Dev.servoAct (d : Dev) (offsetNs steer : Int) : Dev :=
  if offsetNs.natAbs > d.time.decl.stepThreshNs then d.requestStep (offsetNs * 65536) 0 else d.setFreq steer

/-- Whether an entry of SOURCES (R404) is a source as TIME_STATUS.SOURCE shows it: 1 PTP, 2 PPS_IN with TOD_RX, 3 PPS_IN alone. -/
def sourceKind (k v : Nat) : Bool :=
  match k with
  | 1 => decide (1 ≤ v) && decide (v ≤ 9)
  | 2 => v == 10
  | 3 => v == 11
  | _ => false
/-- Whether the board description declares a source (R99). -/
def Dev.declares (d : Dev) (k : Nat) : Bool := d.time.decl.priority.any (sourceKind k)
/-- Whether a source is declared behind another one, at a lower priority. -/
def Dev.declaredBehind (d : Dev) (cur k : Nat) : Bool :=
  (List.range d.time.decl.priority.length).any (fun j => sourceKind k (d.time.decl.priority.getD j 0)
    && (d.time.decl.priority.take j).any (sourceKind cur))
/-- Whether a source's OK bits are set (R99); PTP is usable while Announce messages arrive, which the command that names it says. -/
def Dev.sourceOk (d : Dev) (k : Nat) : Bool :=
  match k with
  | 2 => d.flag F.TIME_STATUS_PPS_IN_OK && d.flag F.TIME_STATUS_TOD_OK
  | 3 => d.flag F.TIME_STATUS_PPS_IN_OK
  | _ => true
/-- The first place of a source in the declared priority. -/
def Dev.sourceRank (d : Dev) (k : Nat) : Nat := (d.time.decl.priority.findIdx? (sourceKind k)).getD 4
/-- Whether firmware may take a source (R99): it is declared and usable, and neither PPS_IN source is usable at a higher priority. -/
def Dev.mayFollow (d : Dev) (k : Nat) : Bool :=
  d.declares k && d.sourceOk k
    && !(([2, 3] : List Nat).any (fun j => j != k && d.declares j && d.sourceOk j && decide (d.sourceRank j < d.sourceRank k)))

/-- SERVO_SOURCE_USABLE: from FREE_RUN or HOLDOVER to ACQUIRING with a source that firmware may take (R99). -/
def execServoSourceUsable (source : Nat) (offsetNs steer : Int) (s : State) : Host.Outcome State Fault Refusal :=
  let d := s.dev
  let st := d.get F.TIME_STATUS_SERVO
  if !d.sys.firmwareLoaded || !(st == 0 || st == 3) || !d.mayFollow source then done s d else
  done s ((d.servoTo 1 source).servoAct offsetNs steer)

/-- HOLDOVER begins (R99, R100): HOLD counting starts, and F is held at its average over the last 60 s of LOCKED unless CLK10_IN, declared present
and stable and with CLK10_OK set, is there to steer by. -/
def Dev.beginHold (d : Dev) : Dev :=
  let f := d.time.fAverage
  let d := ((d.servoTo 3 0).set F.TIME_HOLD_ELAPSED_S 0).modTime (fun t => { t with holdStart := t.cycles, fHold := f })
  if d.clkHolds && d.flag F.TIME_STATUS_CLK10_OK then d else d.setFreq f

/-- SERVO_SOURCE_LOST: `fallback` is the lower-priority usable source, if any. -/
def execServoSourceLost (fallback : Option Nat) (s : State) : Host.Outcome State Fault Refusal :=
  let d := s.dev
  if !d.sys.firmwareLoaded then done s d else
  match d.get F.TIME_STATUS_SERVO, fallback with
  | 1, _ => done s (d.servoTo 0 0)
  | 2, none => done s d.beginHold
  | 2, some k => done s (if d.declaredBehind (d.get F.TIME_STATUS_SOURCE) k && d.sourceOk k then d.servoTo 1 k else d)
  | _, _ => done s d

/-- SERVO_LOCKED: ACQUIRING to LOCKED with TRACEABLE set. -/
def execServoLocked (s : State) : Host.Outcome State Fault Refusal :=
  let d := s.dev
  if !d.sys.firmwareLoaded || d.get F.TIME_STATUS_SERVO ≠ 1 then done s d else
  done s ((d.servoTo 2 (d.get F.TIME_STATUS_SOURCE)).set F.TIME_STATUS_TRACEABLE 1)

/-- SERVO_OFFSET_EXCEED: LOCKED to ACQUIRING with a step. -/
def execServoOffsetExceed (offsetNs : Int) (s : State) : Host.Outcome State Fault Refusal :=
  let d := s.dev
  if !d.sys.firmwareLoaded || d.get F.TIME_STATUS_SERVO ≠ 2 || offsetNs.natAbs ≤ d.time.decl.stepThreshNs then done s d else
  done s ((d.servoTo 1 (d.get F.TIME_STATUS_SOURCE)).requestStep (offsetNs * 65536) 0)

/-- SERVO_TRACE_LIMIT: in HOLDOVER, an estimate beyond TRACE_LIMIT clears TRACEABLE; TIME_HOLD shows the estimate (R100). -/
def execServoTraceLimit (errorNs : Nat) (s : State) : Host.Outcome State Fault Refusal :=
  let d := s.dev
  if !d.sys.firmwareLoaded || d.get F.TIME_STATUS_SERVO ≠ 3 then done s d else
  let d := d.set F.TIME_HOLD_EST_ERR (min (errorNs / 10) 65535)
  done s (if errorNs > d.time.decl.traceLimitNs then d.set F.TIME_STATUS_TRACEABLE 0 else d)

/-- SERVO_HOLDOVER_EXPIRE: 86,400 s in HOLDOVER end in FREE_RUN with TRACEABLE cleared. -/
def execServoHoldoverExpire (s : State) : Host.Outcome State Fault Refusal :=
  let d := s.dev
  if !d.sys.firmwareLoaded || d.get F.TIME_STATUS_SERVO ≠ 3 || decide (d.time.cycles < d.time.holdStart + 86400 * 1200000000) then done s d else
  done s ((d.servoTo 0 0).set F.TIME_STATUS_TRACEABLE 0)

/-! ## Transmit stamps (R110) -/

/-- The registers of a port's stamp FIFO show its count and its head entry. -/
def Dev.showTxStamps (d : Dev) (n : Nat) : Dev :=
  let l := mapGetD d.time.txStamps n []
  let h := l.headD ⟨0, 0⟩
  ((((d.set (F.TIME_PORT_TXSTAMP_CTRL_COUNT n) l.length).set (F.TIME_PORT_TXSTAMP_NS_NS n) (h.stamp / 65536)).set
    (F.TIME_PORT_TXSTAMP_INFO_FRAC n) (h.stamp % 65536)).set (F.TIME_PORT_TXSTAMP_INFO_SEQ_ID n) h.seqId)

/-- A stamp pushed; with 64 entries held, the oldest is lost, counted and raised (R110). -/
def Dev.pushTxStamp (d : Dev) (n : Nat) (x : TxStamp) : Dev :=
  let l := mapGetD d.time.txStamps n []
  let d := if l.length ≥ 64 then (d.count K.TIME_TXSTAMP_LOST).raise F.TIME_EVENT_TXSTAMP_OVERFLOW else d
  let l := (if l.length ≥ 64 then l.drop 1 else l) ++ [x]
  { d with time := { d.time with txStamps := mapPut d.time.txStamps n l } }.showTxStamps n

/-- TXSTAMP_POP (R110). -/
def execTxstampPop (port : Nat) (s : State) : Host.Outcome State Fault Refusal :=
  let d := s.dev
  if port > 8 || !d.responds 0x30100C then done s d else
  let l := (mapGetD d.time.txStamps port []).drop 1
  done s ({ d with time := { d.time with txStamps := mapPut d.time.txStamps port l } }.showTxStamps port)

/-! ## Stamp compensation (R88) -/

/-- Table 1 in 250 ps units: (C_rx, C_tx) for a mode and FEC code of PORT_n_CFG. -/
def stampComp (mode fec : Nat) : Nat × Nat :=
  match mode, fec with
  | 6, 2 => (59, 37)
  | 6, _ => (50, 31)
  | 5, 2 => (65, 43)
  | 5, _ => (55, 36)
  | 4, 2 => (78, 49)
  | 4, _ => (64, 42)
  | 3, 2 => (99, 70)
  | 3, _ => (81, 61)
  | 2, 1 => (142, 111)
  | 2, _ => (125, 98)
  | 1, 1 => (235, 189)
  | 1, _ => (210, 176)
  | 7, _ => (384, 288)
  | _, _ => (0, 0)

/-- A port's compensation in 2^-16 ns with its fuse trim (R88), unrounded. -/
def Dev.comp (d : Dev) (n : Nat) (tx : Bool) : Int :=
  let c := stampComp (d.sh (F.PORT_CFG_MODE n)) (d.sh (F.PORT_CFG_FEC n))
  let t := mapGetD (if tx then d.boot.fuses.trimTx else d.boot.fuses.trimRx) n 0
  ((if tx then c.2 else c.1) : Nat) * 16384 + t * 1024

/-- TIME_PORT_n_COMP shows the compensation of the current mode, rounded to 250 ps (R88). -/
def Dev.showComp (d : Dev) (n : Nat) : Dev :=
  let r := fun tx => roundTo 16384 (d.comp n tx).toNat / 16384
  (d.set (F.TIME_PORT_COMP_C_RX n) (r false)).set (F.TIME_PORT_COMP_C_TX n) (r true)

end Sys2Proof.Machine
end

