-- ==== Sys2Proof/Machine/Reed.lean ====
section
/-! DEFINITION. Reed (ch. 10): placing shuttles (R238, R239), the choice of the next frame (R240 to R246, R250), shapers (R247, R248,
R256), gate commands (R252), and queue and group records (R257). -/
namespace Sys2Proof.Machine
open Sys2Proof

/-! ## Records -/

/-! Fields of a queue record and of a group record (Tables 5 and 6). -/
namespace QR
def GROUP : Bits := ⟨0, 13⟩
def VALID : Bits := ⟨14, 1⟩
def WEIGHT : Bits := ⟨16, 8⟩
def MIN_RATE : Bits := ⟨32, 20⟩
def MIN_BURST : Bits := ⟨52, 12⟩
def MAX_RATE : Bits := ⟨64, 20⟩
def MAX_BURST : Bits := ⟨84, 12⟩
def LIMIT : Bits := ⟨96, 24⟩
def DEPTH : Bits := ⟨128, 24⟩
def DROPS : Bits := ⟨160, 32⟩
end QR
namespace GR
def PORT : Bits := ⟨0, 4⟩
def TC : Bits := ⟨4, 3⟩
def VALID : Bits := ⟨7, 1⟩
def WEIGHT : Bits := ⟨8, 8⟩
def MAX_RATE : Bits := ⟨32, 20⟩
def MAX_BURST : Bits := ⟨52, 12⟩
end GR

/-- A queue in service. -/
def Dev.rq (d : Dev) (k : Nat) : RQueue := mapGetD d.reed.queues k {}
/-- A queue changed. -/
def Dev.modRq (d : Dev) (k : Nat) (f : RQueue → RQueue) : Dev :=
  d.modReed (fun r => { r with queues := mapPut r.queues k (f (mapGetD r.queues k {})) })
/-- The group record in use: the one of the last refill, else the active set's (R248). -/
def Dev.groupRec (d : Dev) (g : Nat) : Rec :=
  match mapGet d.reed.groups g with
  | some x => x.record
  | none => d.cfg.active.record Tab.group g
/-- The group of a queue in service. -/
def Dev.groupOfQ (d : Dev) (k : Nat) : Nat := recGet (d.rq k).record QR.GROUP
/-- The receive ring of a host queue. -/
def ringOfQ (k : Nat) : Nat := k - 16384

/-! ## Placing (R238, R239) -/

/-- The queue a shuttle goes to: its DEST_QUEUE when valid with a group on its port, else the port's default; the Bool says that the
default was taken. -/
def CfgSet.queueFor (c : CfgSet) (p dq : Nat) : Nat × Bool :=
  let base := if p ≤ 8 then 0 else 16384
  let q := c.record Tab.queue (base + dq)
  if recGet q QR.VALID = 1 ∧ recGet (c.record Tab.group (recGet q QR.GROUP)) GR.PORT = p then (base + dq, false)
  else (base + c.get (F.REED_PORT_CFG_DEFAULT_QUEUE p), true)

/-- An AS or BE shuttle enters the tail of its queue, or is dropped at LIMIT. -/
def Dev.enqueue (d : Dev) (i p : Nat) (s : Shut) : Dev :=
  let c := d.cfgOf s
  let (k, dflt) := c.queueFor p (s.get S.DEST_QUEUE)
  let d := if dflt then (d.count (K.REED_NO_QUEUE p)).raise F.REED_EVENT_NO_QUEUE else d
  let q := match mapGet d.reed.queues k with
    | some q => q
    | none => { record := c.record Tab.queue k }
  if s.get S.DIR = 0 && decide (d.queueDepth q + s.queueSize > recGet q.record QR.LIMIT) then
    let d := (d.modReed (fun r => { r with queues := mapPut r.queues k { q with drops := satAdd (2 ^ 32 - 1) q.drops 1 } }))
    ((d.count (K.REED_QUEUE_DROP p)).raise F.REED_EVENT_QUEUE_DROP).discard i 6
  else
    d.modReed (fun r => { r with queues := mapPut r.queues k { q with frames := q.frames ++ [i] } })

/-- Whether Reed already holds a shuttle. -/
def Dev.inReed (d : Dev) (i : Nat) : Bool :=
  d.reed.queues.any (fun (q : Nat × RQueue) => q.2.frames.contains i) || d.reed.deadlineSet.any (fun (q : Nat × List Nat) => q.2.contains i)

/-- Whether a shuttle that entered earlier may be of the same flow on the same path and has not yet reached Reed (R18). -/
def Dev.flowBehind (d : Dev) (j : Nat) (b : Shut) : Bool :=
  d.shuts.any (fun (p : Nat × Shut) => beforeReed p.2.stage && enteredBefore p.1 p.2 j b && p.2.sameFlow b && !d.inReed p.1)

/-- The receive ring that a host-bound shuttle leaves by: DEST_QUEUE when guaranteed, else that of the queue it enters (R238). -/
def Dev.ringFor (d : Dev) (s : Shut) (p : Nat) : Nat :=
  if s.guaranteed then s.get S.DEST_QUEUE else ringOfQ ((d.cfgOf s).queueFor p (s.get S.DEST_QUEUE)).1

/-- The place of a shuttle's last pipeline among those that reach Reed in one weave-clock cycle: EPIPE_0, EPIPE_1, IPIPE_0, IPIPE_1 (R241). -/
def pipeOrder (s : Shut) : Nat := (s.pipe + 2) % 4

/-- A deadline set with a shuttle that has just reached Reed, in the order of arrival: within one weave-clock cycle by pipeline (R241). -/
def Dev.reedPlace (d : Dev) (i : Nat) (l : List Nat) : List Nat :=
  let later := fun j => match d.shut i, d.shut j with
    | some a, some b => b.reedAt == a.reedAt && decide (pipeOrder a < pipeOrder b)
    | _, _ => false
  l.filter (fun j => !later j) ++ [i] ++ l.filter later

/-- The shuttle of a deadline set that is served first among those that may leave: the earliest DEADLINE, the first to arrive when equal
(R21, R53, R241). -/
def Dev.reedFirst (d : Dev) (l : List (Nat × Shut)) : Option (Nat × Shut) :=
  l.foldl (fun (best : Option (Nat × Shut)) p => match best with
    | none => some p
    | some q => if d.onScale p.2.deadline p.2.dlEpoch < d.onScale q.2.deadline q.2.dlEpoch then some p else best) none

/-- REED_ENQUEUE (R18, R238, R239): a shuttle reaches Reed, behind the earlier frames of its flow. A host-bound frame of a function that may not
receive is discarded (R310). -/
def execReedEnqueue (shuttle : Nat) (s : State) : Host.Outcome State Fault Refusal :=
  let d := s.dev
  match d.shut shuttle with
  | none => done s d
  | some x =>
    let p := x.get S.DEST_PORT
    if x.stage ≠ .reed || x.dropReason.isSome || d.inReed shuttle || d.flowBehind shuttle x then done s d
    else if p ≥ 9 && !d.mayReceive (d.rcf (d.ringFor x p) RC.INSTANCE) then doneH s (d.fnDrop shuttle)
    else if x.guaranteed then
      let d := d.modShut shuttle (fun s => { s with reedAt := d.time.cycles })
      done s (d.modReed (fun r => { r with deadlineSet := mapPut r.deadlineSet p (d.reedPlace shuttle (mapGetD r.deadlineSet p [])) }))
    else doneH s (d.enqueue shuttle p x)

/-! ## Eligibility (R242, R246) -/

/-- A ring's start threshold for a port: its own, at least the port's START; one that reaches the MTU means store-and-forward (R71, R72). -/
def Dev.startAt (d : Dev) (r p : Nat) : Nat := max (d.ring r).thresh (d.sh (F.PORT_CT_START p))

/-- Whether a frame's end, or what stands for it, allows its release (R71, R73, R153, R194, R246). -/
def Dev.releasable (d : Dev) (p : Nat) (s : Shut) : Bool :=
  if s.ended then true
  else if s.get S.DIR = 1 then
    match s.ring with
    | none => false
    | some r => decide (p ≤ 8) && !s.guaranteed && s.encapCsum.isNone && d.rcf r RC.CT == 1 && decide (d.startAt r p < (d.cfgOf s).get (F.PORT_CFG_MTU p))
        && decide (s.frame.length ≥ d.startAt r p)
  else if p ≥ 9 then true
  else
    let c := d.cfgOf s
    let src := s.get S.PORT
    !s.policeDue && s.encapCsum.isNone && (c.pairOf src).isNone && decide (c.portRate p ≤ c.portRate src)
      && (match s.guaranteed, s.envelope with
        | true, some e => c.get (EV.CUT e) == 1
        | true, none => false
        | false, _ => decide (p ≤ 7) && c.get (F.REED_PORT_CFG_CT_EN p) == 1)

/-- Whether a traffic class of a port is paused (R68). -/
def Dev.tcPaused (d : Dev) (p tc : Nat) : Bool :=
  (mapGetD d.net.ports p {}).paused.any (fun k => k == 8 || bitsOf (d.sh (F.PORT_PFC_MAP_MAP p)) (3 * k) 3 == tc)

/-- The length a choice reckons with: LENGTH, or the MTU of the egress point while it is 0 (R243). -/
def Dev.chargeLen (d : Dev) (p : Nat) (s : Shut) : Nat :=
  if s.get S.LENGTH ≠ 0 then s.get S.LENGTH
  else if p ≤ 8 then (d.cfgOf s).get (F.PORT_CFG_MTU p) else d.sh (F.LOOM_HOST_CEIL_HOST_MTU (p - 9))

/-- The length a gate judges: LENGTH, the charge of R153 for an IP frame, or the port MTU (R419). -/
def Dev.gateLen (d : Dev) (p : Nat) (s : Shut) : Nat :=
  if s.get S.LENGTH ≠ 0 then s.get S.LENGTH
  else (chargeOf s (parseFrame ⟨s.frame, s.ended, 0⟩)).getD ((d.cfgOf s).get (F.PORT_CFG_MTU p))

/-- A port's lead time: the Reed decision, the crossing and PCS transmit (R240), in 2^-16 ns. -/
def Dev.leadTime (d : Dev) (p : Nat) : Nat :=
  let t := d.cfg.active.tailOf p
  10 * 65536 + ceilDiv (t.n * 65536) t.d
/-- When a frame chosen now would start at the lands: after the lead time, and behind the frame in transmission. -/
def Dev.startTime (d : Dev) (p : Nat) : Nat := max (d.now + d.leadTime p) (mapGetD d.net.ports p {}).txEnd
/-- Whether a port may choose now: the frame in transmission, if any, has ended or will send its last FCS byte within the lead time (R240). -/
def Dev.choiceTime (d : Dev) (p : Nat) : Bool :=
  let x := mapGetD d.net.ports p {}
  x.sending.isNone && decide (x.txEnd ≤ d.now + d.leadTime p + byteTime 12 (d.cfg.active.portRate p))

/-- An AS or BE head that may be served: its queue, shuttle, group and traffic class. -/
structure Head where
  q : Nat
  i : Nat
  g : Nat
  tc : Nat
  s : Shut
  deriving DecidableEq, Repr

/-- A head whose wire time exceeds the longest window of its class (R250). -/
def Dev.oversize (d : Dev) (p i : Nat) : Dev :=
  let d := (d.count (K.REED_GATE_OVERSIZE p)).raise F.REED_EVENT_GATE_OVERSIZE
  match d.shut i with
  | some s => (if s.get S.DIR = 1 then d.setStatus i St.length else d).discard i 6
  | none => d

/-- When the window of a class that follows an instant opens, in the list in force, or in the pending one where that starts first. -/
def Dev.nextWindow (d : Dev) (p tc t : Nat) : Nat :=
  let at_ := fun (l : GateList) (t : Nat) => l.nextOpen tc (2 * l.entries.length + 2) false t
  match d.gatesOf p, d.nextGatesOf p with
  | some l, none => at_ l t
  | none, some g => at_ g (max t (g.start * 65536))
  | some l, some g => let x := at_ l t; if x < g.start * 65536 then x else at_ g (max t (g.start * 65536))
  | none, none => t

/-- The head of a port's queue judged by its gates (R250): eligible, or waiting, counted once for a window; oversized heads are dropped
until one is not. -/
def Dev.gateHead (d : Dev) (p k : Nat) : Nat → Dev × Option Head
  | 0 => (d, none)
  | n + 1 =>
    match (d.rq k).frames with
    | [] => (d, none)
    | i :: _ => match d.shut i with
      | none => (d, none)
      | some s =>
        let g := d.groupOfQ k
        let tc := recGet (d.groupRec g) GR.TC
        let head := some (⟨k, i, g, tc, s⟩ : Head)
        if !d.releasable p s || d.tcPaused p tc then (d, none) else
        if (d.gatesOf p).isNone && (d.nextGatesOf p).isNone then (d, head) else
        let t := d.startTime p
        let wire := wireTime (d.gateLen p s) (d.cfg.active.portRate p)
        let tooLong := match (d.gatesOf p).bind (fun l => l.longest tc) with
          | none => false
          | some w => decide (wire > w * 65536)
        if tooLong then (d.oversize p i).gateHead p k n
        else if d.gateOpen p tc t (t + wire) then (d, head)
        else
          let q := d.rq k
          if q.waitFrame = some i && decide (t < q.waitTill) then (d, none)
          else ((d.count (K.REED_GATE_WAIT p)).modRq k (fun q => { q with waitFrame := some i, waitTill := d.nextWindow p tc t }), none)

/-- The head of a queue that may be served, with what judging it does. -/
def Dev.headOf (d : Dev) (p k : Nat) : Dev × Option Head :=
  match (d.rq k).frames with
  | [] => (d, none)
  | i :: t => match d.shut i with
    | none => (d, none)
    | some s =>
      if s.get S.DEST_PORT ≠ p then (d, none)
      else if p ≤ 8 then d.gateHead p k (t.length + 1)
      else
        let g := d.groupOfQ k
        let r := ringOfQ k
        if !d.mayReceive (d.rcf r RC.INSTANCE) then (d.fnDrop i, none)
        else if d.releasable p s && d.rxReady r then (d, some ⟨k, i, g, recGet (d.groupRec g) GR.TC, s⟩) else (d, none)

/-- The heads of an egress point's queues. -/
def Dev.headsOf (d : Dev) (p : Nat) : List Nat → Dev × List Head
  | [] => (d, [])
  | k :: t =>
    let (d, h) := d.headOf p k
    let (d, l) := d.headsOf p t
    (d, h.toList ++ l)

/-- Whether a shaper allows a frame; one not in use always does. -/
def shOk (m : SMap Shaper) (k : Nat) : Bool := match mapGet m k with
  | none => true
  | some x => decide (x.count ≥ 0)

/-- The key of a traffic class shaper. -/
def tcKey (p tc : Nat) : Nat := 8 * p + tc

/-- Whether a round may serve a head (R241, R242): 0 committed, 1 excess, 2 BE. -/
def Dev.roundOk (d : Dev) (p r : Nat) (h : Head) : Bool :=
  let as_ := h.s.get S.CLASS == 2
  match r with
  | 0 => as_ && (match mapGet d.reed.shMin h.q with
    | some x => decide (x.count ≥ 0)
    | none => false)
  | 1 => as_ && shOk d.reed.shMax h.q && shOk d.reed.shGroup h.g && shOk d.reed.shTc (tcKey p h.tc)
  | _ => !as_ && shOk d.reed.shMax h.q && shOk d.reed.shGroup h.g && shOk d.reed.shTc (tcKey p h.tc)

/-! ## Deficit weighted round robin (R241) -/

/-- One turn after another over some keys: a key whose turn begins gains its quantum, and keeps its turn while its deficit covers its
head (DEDUCED, assumption log 29). `u` holds the deficits. -/
def drr (keys : List Nat) (size quantum : Nat → Nat) : Nat → Nat → Bool → SMap Int → Nat × SMap Int
  | 0, i, _, u => (keys.getD i 0, u)
  | n + 1, i, add, u =>
    let k := keys.getD i 0
    let v := mapGetD u k 0 + (if add then (quantum k : Int) else 0)
    let u := mapPut u k v
    if v ≥ (size k : Int) then (k, u) else drr keys size quantum n ((i + 1) % keys.length) true u

/-- The turn that follows: the last served key goes on, else the next higher one. -/
def drrPick (keys : List Nat) (size quantum : Nat → Nat) (last : Option Nat) (u : SMap Int) : Nat × SMap Int :=
  let n := 64 * keys.length + 1
  match last with
  | none => drr keys size quantum n 0 true u
  | some c => match keys.findIdx? (fun k => k == c) with
    | some i => drr keys size quantum n i false u
    | none => drr keys size quantum n ((keys.findIdx? (fun k => decide (k > c))).getD 0) true u

/-- Keys of the turns kept in `lastQueue`: of a round's groups in a class, and of a round's queues in a group. -/
def turnG (p r tc : Nat) : Nat := (p * 3 + r) * 8 + tc
def turnQ (g r : Nat) : Nat := 1000 + g * 3 + r

/-- The deficits of a round for some groups and for some queues. -/
def Dev.gDef (d : Dev) (r : Nat) (gs : List Nat) : SMap Int :=
  gs.foldl (fun u g => mapPut u g ((mapGetD d.reed.groups g { record := d.groupRec g }).deficit.getD r 0)) []
def Dev.qDef (d : Dev) (r : Nat) (qs : List Nat) : SMap Int :=
  qs.foldl (fun u k => mapPut u k ((d.rq k).deficit.getD r 0)) []

/-- Deficits written back. -/
def Dev.putG (d : Dev) (r : Nat) (u : SMap Int) : Dev :=
  u.foldl (fun d p => d.modReed (fun x =>
    let g := mapGetD x.groups p.1 { record := d.groupRec p.1 }
    { x with groups := mapPut x.groups p.1 { g with deficit := g.deficit.set r p.2 } })) d
def Dev.putQ (d : Dev) (r : Nat) (u : SMap Int) : Dev :=
  u.foldl (fun d p => d.modRq p.1 (fun q => { q with deficit := q.deficit.set r p.2 })) d

/-- A key noted once, in rising order. -/
def insertKey (l : List Nat) (k : Nat) : List Nat := if l.contains k then l else (l.filter (fun x => decide (x < k))) ++ [k] ++ (l.filter (fun x => decide (x > k)))

/-- The head a round serves among those of one traffic class, with the turns and deficits moved on. -/
def Dev.roundPick (d : Dev) (p r tc : Nat) (l : List Head) : Option (Dev × Head) :=
  let size := fun k => ((l.find? (fun h => h.q == k)).map (fun h => d.chargeLen p h.s)).getD 0
  let gs := l.foldl (fun a h => insertKey a h.g) []
  let inner := fun g =>
    let qs := (l.filter (fun h => h.g == g)).foldl (fun a h => insertKey a h.q) []
    drrPick qs size (fun k => 256 * recGet (d.rq k).record QR.WEIGHT) (mapGet d.reed.lastQueue (turnQ g r)) (d.qDef r qs)
  let (g, gu) := drrPick gs (fun g => size (inner g).1) (fun g => 256 * recGet (d.groupRec g) GR.WEIGHT)
    (mapGet d.reed.lastQueue (turnG p r tc)) (d.gDef r gs)
  let (k, qu) := inner g
  let d1 := (d.putG r (mapPut gu g (mapGetD gu g 0 - (size k : Int)))).putQ r (mapPut qu k (mapGetD qu k 0 - (size k : Int)))
  let d2 := d1.modReed (fun x => { x with lastQueue := mapPut (mapPut x.lastQueue (turnG p r tc) g) (turnQ g r) k })
  (l.find? (fun h => h.q == k)).map (fun h => (d2, h))

/-- The rounds in order, and within each the traffic classes from TC 7 down. -/
def Dev.rounds (d : Dev) (p : Nat) (l : List Head) : List (Nat × Nat) → Option (Dev × Head × Nat)
  | [] => none
  | (r, tc) :: t =>
    let el := l.filter (fun h => h.tc == tc && d.roundOk p r h)
    if el.isEmpty then d.rounds p l t else (d.roundPick p r tc el).map (fun x => (x.1, x.2, r))
/-- Every round with every class. -/
def roundOrder : List (Nat × Nat) := ([0, 1, 2] : List Nat).flatMap (fun r => ([7, 6, 5, 4, 3, 2, 1, 0] : List Nat).map (fun tc => (r, tc)))

/-! ## The choice -/

/-- A shaper's count changed by some bits. -/
def addBits (m : SMap Shaper) (k : Nat) (bits : Int) : SMap Shaper := match mapGet m k with
  | none => m
  | some x => mapPut m k { x with count := x.count + bits }

/-- Bits charged to, or given back to, the shapers of a queue (R243). -/
def Dev.chargeBits (d : Dev) (p k : Nat) (committed : Bool) (bits : Int) : Dev :=
  let g := d.groupOfQ k
  let tc := recGet (d.groupRec g) GR.TC
  d.modReed (fun r => { r with
    shMin := if committed then addBits r.shMin k bits else r.shMin
    shMax := addBits r.shMax k bits
    shGroup := addBits r.shGroup g bits
    shTc := addBits r.shTc (tcKey p tc) bits })

/-- The per-frame overhead of an egress point in bytes. -/
def overhead (p : Nat) : Nat := if p ≥ 9 then 64 else 20

/-- Bytes sent counted by class and round. -/
def Dev.countBytes (d : Dev) (p : Nat) (committed : Bool) (s : Shut) : Dev :=
  d.count (if s.get S.CLASS ≠ 2 then K.REED_BE_BYTES p else if committed then K.REED_AS_COMMITTED_BYTES p else K.REED_AS_EXCESS_BYTES p)
    (s.get S.LENGTH)

/-- The end of a frame chosen before its LENGTH was known: the difference is given back (R243). -/
def Dev.refund (d : Dev) (i : Nat) : Dev :=
  match d.shut i with
  | none => d
  | some s => match s.charged with
    | none => d
    | some (p, k, c, z) =>
      let d := d.modShut i (fun s => { s with charged := none })
      (d.chargeBits p k c (8 * ((z : Int) - (s.get S.LENGTH : Nat)))).countBytes p c s

/-- The chosen frame leaves Reed: for its port's lands, or for its receive ring with a buffer and completion space. -/
def Dev.release (d : Dev) (p i : Nat) (ring : Nat) : Dev :=
  match d.shut i with
  | none => d
  | some s =>
    if p ≥ 9 then
      let inst := d.rcf ring RC.INSTANCE
      let s := if s.get S.DIR = 0 then (s.set S.INSTANCE inst).set S.HOST_LINK (d.linkOf inst) else s
      (d.arrive i s .toHost).rxTake i ring
    else
      let ct := !s.ended && s.get S.DIR == 0
      let d := if ct then d.count (K.REED_CT_RELEASES p) else d
      d.arrive i (if ct then s.mark Fl.CUT_THROUGH else s) .toLands

/-- A frame of the deadline set chosen. One whose receive ring is not ready is discarded (R336), and one whose function may not receive
likewise (R310). -/
def Dev.chooseGuar (d : Dev) (p i : Nat) (s : Shut) : Dev :=
  let r := s.get S.DEST_QUEUE
  let d := d.unqueue i
  if p ≥ 9 && !d.mayReceive (d.rcf r RC.INSTANCE) then d.fnDrop i
  else if p ≥ 9 && !d.rxReady r then (d.count K.RING_RX_NO_BUF).discardMiss i 6 Miss.hostCredit
  else (d.count (K.REED_GUAR_FRAMES p)).release p i r

/-- An AS or BE frame chosen by a round. -/
def Dev.chooseHead (d : Dev) (p : Nat) (h : Head) (r : Nat) : Dev :=
  let known := decide (h.s.get S.LENGTH ≠ 0)
  let d := (d.unqueue h.i).chargeBits p h.q (r == 0) (-(8 * ((d.chargeLen p h.s + overhead p : Nat) : Int)))
  let d := if known then d.countBytes p (r == 0) h.s
    else d.modShut h.i (fun s => { s with charged := some (p, h.q, r == 0, d.chargeLen p h.s) })
  d.release p h.i (ringOfQ h.q)

/-- Whether an egress point has a choice that has not yet left Reed's hands (R240). -/
def Dev.choiceHeld (d : Dev) (p : Nat) : Bool :=
  d.shuts.any (fun (x : Nat × Shut) => x.2.get S.DEST_PORT == p && x.2.dropReason.isNone
    && ((x.2.stage == .toLands && !x.2.departed) || (x.2.stage == .toHost && !x.2.writtenHost)))

/-- A choice of Reed carried out, or its shuttle lost to what the packet buffer gives (R363). -/
def Dev.chooseRead (d : Dev) (i : Nat) (pbuf : PbufError) (go : Dev → Dev) : Dev :=
  match pbuf with
  | .none => go d
  | .cell at_ => go (d.cellBad i at_)
  | .shuttle => d.shuttleLost i

/-- REED_CHOOSE (R240 to R246, R363): the deadline set, earliest DEADLINE first, then the committed, the excess and the BE round. -/
def execReedChoose (choice : PointChoice) (s : State) : Host.Outcome State Fault Refusal :=
  let d := s.dev
  let point := choice.point
  if !d.deciding || point > 10 || d.choiceHeld point || (point ≤ 8 && (d.get (F.PORT_STATUS_LINK point) = 0 || !d.choiceTime point))
  then done s d else
  let l := (mapGetD d.reed.deadlineSet point []).filterMap (fun i => (d.shut i).map (fun x => (i, x)))
  match d.reedFirst (l.filter (fun p => d.releasable point p.2)) with
  | some (i, x) => doneH s (d.chooseRead i choice.pbuf (fun d => d.chooseGuar point i ((d.shut i).getD x)))
  | none =>
    let (d, heads) := d.headsOf point ((d.reed.queues.filter (fun (q : Nat × RQueue) => !q.2.frames.isEmpty)).map (·.1))
    match d.rounds point heads roundOrder with
    | none => doneH s d
    | some (d', h, r) => doneH s (if choice.pbuf = .shuttle then d.shuttleLost h.i else d'.chooseRead h.i choice.pbuf (fun d => d.chooseHead point h r))

/-! ## Shapers (R247, R248, R256) -/

/-- One refill of one shaper: RATE bits up to its cap; full when it first comes into use. `k` scales the gain in 1/256. -/
def refillOne (old : Option Shaper) (rate burst k : Nat) : Option Shaper :=
  if rate = 0 then none else
  let cap : Int := (burst * 2048 : Nat)
  match old with
  | none => some ⟨cap⟩
  | some x => some ⟨min cap (x.count + (rate * k / 256 : Nat))⟩

/-- Every shaper of a kind refilled from its keys, rates, bursts and scales. -/
def refillMap (m : SMap Shaper) (l : List (Nat × Nat × Nat × Nat)) : SMap Shaper :=
  l.foldl (fun a x => match refillOne (mapGet m x.1) x.2.1 x.2.2.1 x.2.2.2 with
    | some y => mapPut a x.1 y
    | none => a) []

/-- The limit of R258 for the sum of MIN_RATE at an egress point, in 1/256 Mb/s. -/
def Dev.minLimit (d : Dev) (p : Nat) : Nat :=
  if p = 8 then 256 * 1000 else
  let k := if p ≤ 7 then p else 12 + 2 * (p - 9)
  (256 - d.sh (F.LOOM_BOOK_SHARE_SHARE k)) * d.get (F.LOOM_BOOK_CAP_CAP k)

/-- The sum of MIN_RATE over the valid queues of an egress point. -/
def Dev.minSum (d : Dev) (p : Nat) : Nat :=
  (d.cfg.active.validRecs Tab.queue QR.VALID).foldl (fun n q =>
    if recGet (d.cfg.active.record Tab.group (recGet q.2 QR.GROUP)) GR.PORT = p then n + recGet q.2 QR.MIN_RATE else n) 0
/-- The MIN factor of an egress point, and its status (R256). -/
def Dev.scaleOf (d : Dev) (p : Nat) : Dev :=
  let sum := d.minSum p
  if 256 * sum > d.minLimit p then
    let k := d.minLimit p / sum
    let d := if (mapGet d.reed.scaled p).isNone then d.raise F.REED_EVENT_AS_SCALED else d
    (d.modReed (fun r => { r with scaled := mapPut r.scaled p k })).set (F.REED_PORT_STATUS_AS_SCALED p) 1
  else (d.modReed (fun r => { r with scaled := mapErase r.scaled p })).set (F.REED_PORT_STATUS_AS_SCALED p) 0

/-- Records of the active set taken into use (R248, R258): a queue made invalid stays in service, with its group, until it is empty. -/
def Dev.takeRecords (d : Dev) : Dev :=
  let c := d.cfg.active
  d.modReed (fun r =>
    let kept := r.queues.filter (fun (q : Nat × RQueue) => recGet (c.record Tab.queue q.1) QR.VALID == 1 || !q.2.frames.isEmpty)
    let groups := r.groups.filter (fun (g : Nat × RGroup) =>
      recGet (c.record Tab.group g.1) GR.VALID == 1 || kept.any (fun (q : Nat × RQueue) => !q.2.frames.isEmpty && recGet q.2.record QR.GROUP == g.1))
    { r with
      queues := (c.validRecs Tab.queue QR.VALID).foldl (fun m p => mapPut m p.1 { mapGetD m p.1 {} with record := p.2 }) kept
      groups := (c.validRecs Tab.group GR.VALID).foldl (fun m p => mapPut m p.1 { mapGetD m p.1 {} with record := p.2 }) groups })

/-- SHAPER_REFILL (R247, R248, R256): 1,200 weave-clock cycles since the last. -/
def execShaperRefill (s : State) : Host.Outcome State Fault Refusal :=
  let d := (List.range 11).foldl (fun d p => d.scaleOf p) s.dev.takeRecords
  let scale := fun (q : Rec) => mapGetD d.reed.scaled (recGet (d.groupRec (recGet q QR.GROUP)) GR.PORT) 256
  let qs := d.reed.queues
  done s (d.modReed (fun r => { r with
    shMin := refillMap r.shMin (qs.map (fun (q : Nat × RQueue) => (q.1, recGet q.2.record QR.MIN_RATE, recGet q.2.record QR.MIN_BURST, scale q.2.record)))
    shMax := refillMap r.shMax (qs.map (fun (q : Nat × RQueue) => (q.1, recGet q.2.record QR.MAX_RATE, recGet q.2.record QR.MAX_BURST, 256)))
    shGroup := refillMap r.shGroup (r.groups.map (fun (g : Nat × RGroup) => (g.1, recGet g.2.record GR.MAX_RATE, recGet g.2.record GR.MAX_BURST, 256)))
    shTc := refillMap r.shTc ((List.range 11).flatMap (fun p => (List.range 8).map (fun t =>
      (tcKey p t, d.sh (F.REED_TC_RATE p t), d.sh (F.REED_TC_BURST p t), 256)))) }))

/-! ## Gates (R250, R252) -/

/-- The first BASE_TIME + k × CYCLE_NS at least 10 µs after a swap, in ns. -/
def gateStartNs (base cycle swap : Nat) : Nat :=
  let t := ceilDiv swap 65536 + 10000
  if t ≤ base then base else base + ceilDiv (t - base) (max 1 cycle) * max 1 cycle

/-- What a swap does to a port's list (R252): `old` and `new` are the sets before and after. -/
def Dev.gateSwap (d : Dev) (old new : CfgSet) (n : Nat) : Dev :=
  let on := new.get (F.REED_GATE_CFG_ENABLE n) == 1
  let same := old.get (F.REED_GATE_CFG_ENABLE n) == 1 && old.gateList n == new.gateList n
    && old.get (F.REED_GATE_CYCLE_CYCLE_NS n) == new.get (F.REED_GATE_CYCLE_CYCLE_NS n)
    && old.get (F.REED_GATE_BASE_BASE_TIME n) == new.get (F.REED_GATE_BASE_BASE_TIME n)
  if !on then
    let d := d.modReed (fun r => { r with gates := mapErase r.gates n, nextGates := mapErase r.nextGates n })
    (d.set (F.REED_GATE_STATUS_PENDING n) 0).gateRefresh n
  else if same then d
  else
    let cyc := new.get (F.REED_GATE_CYCLE_CYCLE_NS n)
    let S := gateStartNs (new.get (F.REED_GATE_BASE_BASE_TIME n)) cyc d.now
    ((d.modReed (fun r => { r with nextGates := mapPut r.nextGates n ⟨new.gateList n, cyc, S⟩ })).set (F.REED_GATE_STATUS_PENDING n) 1).set
      (F.REED_GATE_START_S n) S

/-- What a swap does to Reed at once: the gate lists; a commit that lowers the sum of MIN_RATE ends the scaling (R252, R256). -/
def Dev.reedSwap (d : Dev) (old : CfgSet) : Dev :=
  let d := (List.range 8).foldl (fun d n => d.gateSwap old d.cfg.active n) d
  (List.range 11).foldl (fun d p => if (mapGet d.reed.scaled p).isSome && decide (256 * d.minSum p ≤ d.minLimit p) then d.scaleOf p else d) d

/-- An enabled list of the image's set (R250, R405): no commit brings it in, so it is in force from dataplane ready with BASE_TIME as its
start S, or from BASE_TIME where that is still to come (DEDUCED, assumption log 83). -/
def Dev.gateInstall (d : Dev) (n : Nat) : Dev :=
  let c := d.cfg.active
  if c.get (F.REED_GATE_CFG_ENABLE n) = 0 then d.gateRefresh n else
  let base := c.get (F.REED_GATE_BASE_BASE_TIME n)
  let g : GateList := ⟨c.gateList n, c.get (F.REED_GATE_CYCLE_CYCLE_NS n), base⟩
  let d := d.set (F.REED_GATE_START_S n) base
  if base * 65536 ≤ d.now then (d.modReed (fun r => { r with gates := mapPut r.gates n g })).gateRefresh n
  else ((d.modReed (fun r => { r with nextGates := mapPut r.nextGates n g })).set (F.REED_GATE_STATUS_PENDING n) 1).gateRefresh n

/-- GATE_ENTRY_CHANGE (R250): the list of a port moves to the entry in force now. -/
def execGateEntryChange (port : Nat) (s : State) : Host.Outcome State Fault Refusal := done s (s.dev.gateRefresh port)

/-- GATE_LIST_START (R252): the pending list of a port starts once Quartz has reached its start. -/
def execGateListStart (port : Nat) (s : State) : Host.Outcome State Fault Refusal := done s (s.dev.gateStart port)

/-! ## Queue and group records (R257) -/

/-- A queue record with its live fields (Table 5). -/
def Dev.queueShow (d : Dev) (k : Nat) (r : Rec) : Rec :=
  recSet (recSet r QR.DEPTH (d.queueDepth (d.rq k))) QR.DROPS (d.rq k).drops

/-- REED_READ (R257). -/
def execReedRead (table set index : Nat) (s : State) : Host.Outcome State Fault Refusal :=
  done s (s.dev.indirect 0x900100 0 table set index (fun d =>
    if table = 0 ∧ index < 32768 then
      (d.showRec 0x900200 32 (d.queueShow index ((d.setBy set).record Tab.queue index)), IndResult.ok.code)
    else if table = 1 ∧ index < 8192 then (d.showRec 0x900200 32 ((d.setBy set).record Tab.group index), IndResult.ok.code)
    else (d, IndResult.range.code)))

/-- REED_WRITE (R257). -/
def execReedWrite (table set index : Nat) (s : State) : Host.Outcome State Fault Refusal :=
  done s (s.dev.indirect 0x900100 1 table set index (fun d =>
    let w := (d.winRec 0x900200 32).toNat
    if table = 0 ∧ index < 32768 then d.indWrite set Tab.queue index (some (BitVec.ofNat 2048 (w % 2 ^ 128))) 16
    else if table = 1 ∧ index < 8192 then d.indWrite set Tab.group index (some (BitVec.ofNat 2048 (w % 2 ^ 64))) 8
    else (d, IndResult.range.code)))

end Sys2Proof.Machine
end

