-- ==== Sys2Proof/Machine/Rx.lean ====
section
/-! DEFINITION. Frame reception (R87 to R89, R136, R40, R69, R74, R78): SFD stamps, parse windows, the end of a frame and all that waits for
it; and the entries of the command tables (R227). -/
namespace Sys2Proof.Machine
open Sys2Proof

/-- A port's state. -/
def Dev.port (d : Dev) (n : Nat) : PortSt := mapGetD d.net.ports n {}
/-- A port's state changed. -/
def Dev.modPort (d : Dev) (n : Nat) (f : PortSt → PortSt) : Dev :=
  d.modNet (fun x => { x with ports := mapPut x.ports n (f (mapGetD x.ports n {})) })

/-- Whether a port takes frames: the dataplane is ready and not stopped, and the link is UP. -/
def Dev.receives (d : Dev) (n : Nat) : Bool :=
  decide (n ≤ 8) && d.sys.ready && !d.sys.stopped && d.get (F.PORT_STATUS_LINK n) == 1

/-- A receive stamp (R88, R89): the instant `offset`, in 2^-6 ns, after the present step, less the fixed and the measured term. -/
def Dev.rxStamp (d : Dev) (n offset : Nat) (measured : Int) : Nat :=
  netStamp (((d.now + offset * 1024 : Nat) : Int) - d.comp n false - measured * 1024).toNat

/-- SFD_RX (R87 to R89): the port takes the ingress stamp of a frame. -/
def execSfdRx (port offset : Nat) (measured : Int) (s : State) : Host.Outcome State Fault Refusal :=
  let d := s.dev
  if !d.receives port then done s d else
  done s (d.modPort port (fun p => { p with stamps := p.stamps ++ [d.stampOf (d.rxStamp port offset measured)] }))

/-- Cells in use: every frame takes whole cells of 256 bytes. -/
def Dev.cellsUsed (d : Dev) : Nat := d.shuts.foldl (fun n (p : Nat × Shut) => n + max 1 (ceilDiv p.2.rx.length 256)) 0
/-- Whether a frame finds a free cell and a free shuttle slot (R362). -/
def Dev.cellFree (d : Dev) : Bool :=
  decide (d.cellsUsed < 24576 * d.sh F.DRAM_PBUF_CFG_BANKS) && decide (d.shuts.length < 98304)

/-- The shuttle of a frame from the network as it is created (R19, R20): every field not listed is 0. -/
def newShut (port version cell : Nat) (stamp : StampAt) (bytes : List Byte) : Shut :=
  let s : Shut := { frame := bytes, rx := bytes, pipe := if 4 ≤ port ∧ port ≤ 7 then 1 else 0, epoch := stamp.epoch, dlEpoch := stamp.epoch
                    trace := stamp.trace }
  let s := ((s.set S.INGRESS_STAMP (stampField stamp.time)).set S.DEADLINE noDeadline).set S.PORT port
  ((s.set S.CLASS 3).set S.VERSION version).set S.CELL cell

/-- FIRST_WINDOW_READY (R16, R136): the first 128 bytes of a frame, or all of a shorter one with its FCS, are in cells. A frame that finds
no free cell is discarded and counted. -/
def execFirstWindowReady (port : Nat) (bytes : List Byte) (s : State) : Host.Outcome State Fault Refusal :=
  let d := s.dev
  match (d.port port).stamps with
  | [] => done s d
  | stamp :: t =>
    if (d.port port).cur.isSome || !d.receives port then done s d else
    let d := d.modPort port (fun p => { p with stamps := t })
    if !d.cellFree then done s ((d.count K.DRAM_CELL_DROP).modPort port (fun p => { p with cur := none })) else
    let (cell, d) := d.newCell
    let i := d.nextShut
    let d := ({ d with nextShut := i + 1 }).arrive i (newShut port d.cfg.version cell stamp bytes) .entry
    doneH s (d.modPort port (fun p => { p with cur := some i }))

/-- Bytes that arrive for a frame: as received, and behind what the pipelines have made of its head. -/
def Shut.append (s : Shut) (b : List Byte) : Shut := { s with frame := s.frame ++ b, rx := s.rx ++ b }

/-- The PRP copies of a frame that still wait for its end. -/
def Dev.openCopies (d : Dev) (i : Nat) : List Nat :=
  (d.shuts.filter (fun (p : Nat × Shut) => p.2.prpCopyOf == some i && !p.2.ended)).map (·.1)

/-- SECOND_WINDOW_READY (R136): bytes 128 to 255, or as many as the frame has, have arrived. -/
def execSecondWindowReady (port : Nat) (bytes : List Byte) (s : State) : Host.Outcome State Fault Refusal :=
  let d := s.dev
  match (d.port port).cur with
  | none => done s d
  | some i => doneH s ((i :: d.openCopies i).foldl (fun d j => d.modShut j (fun x => x.append bytes)) d)

/-! ## The end of a frame -/

/-- The duplicate-discard unit at the end of a frame from a paired port (R78): false for a duplicate, which leaves no record. A frame
with a bad FCS is not judged (DEDUCED, assumption log 30). -/
def Dev.prpAtEnd (d : Dev) (i : Nat) : Dev :=
  match d.shut i with
  | none => d
  | some s =>
    if s.get S.DIR = 1 || s.flag Fl.FCS_BAD then d else
    match d.prpJudge s with
    | (d, true) => d
    | (d, false) => (d.modShut i (fun s => { s with witness := 0 })).discard i 3

/-- IP_LEN of a frame whose pass was before its end (R141): a frame not yet parsed is judged by its pass. -/
def Dev.ipLenAtEnd (d : Dev) (i : Nat) : Dev :=
  match d.shut i with
  | none => d
  | some s =>
    if s.flag Fl.MALFORMED || s.get S.PASS = 0 || s.stage == .pass || (s.stage == .ddr5 && !s.pass1Done) then d else
    let n := if s.get S.DIR = 1 then s.rx.length else s.rx.length - 4
    if s.ipLenBad (parseFrame ⟨s.rx.take n, true, (d.cfgOf s).get F.HED_PARSE_CFG_NVME_PORT⟩) n then d.ipLenDrop i else d

/-- A frame delivered by its feed group whose FCS then failed (R79). -/
def Dev.abAtEnd (d : Dev) (i : Nat) : Dev :=
  match d.shut i with
  | none => d
  | some s => match s.flag Fl.FCS_BAD, s.abLeg, s.abSeq with
    | true, some (g, _), some n => d.abUnmark g n
    | _, _, _ => d

/-- A frame whose policer waited for its end (R153). -/
def Dev.policeAtEnd (d : Dev) (i : Nat) : Dev :=
  match d.shut i with
  | none => d
  | some s => if s.policeDue && s.dropReason.isNone then d.policeWith i (s.get S.LENGTH) else d

/-- The ingress record at the later of the frame's end and the end of pass 1 (R118). -/
def Dev.ingressAtEnd (d : Dev) (i : Nat) : Dev :=
  match d.shut i with
  | none => d
  | some s => if s.pass1Done then d.takeIngress i s else d

/-- STOR work that waited for the frame's end. -/
def Dev.storAtEnd (d : Dev) (i : Nat) : Dev :=
  match d.shut i with
  | none => d
  | some s => if s.storEnd && s.dropReason.isNone then (d.putShut i { s with storEnd := false }).storEnter i else d

/-- A frame that waited for its end before its encapsulation (R194). -/
def Dev.heldAtEnd (d : Dev) (i : Nat) : Dev :=
  match d.shut i with
  | none => d
  | some s => if s.stage == .held && s.dropReason.isNone then d.lastPassEnd i else d

/-- A copy takes the end of its original. -/
def Shut.endOf (x s : Shut) : Shut :=
  let x := { x with frame := s.frame, rx := s.rx, ended := true, endStamp := s.endStamp, endEpoch := s.endEpoch, transformed := s.transformed, tagOk := s.tagOk,
                    lane := s.lane, endDone := true, stomp := x.stomp || s.stomp }
  let x := x.set S.LENGTH (s.get S.LENGTH)
  if s.flag Fl.FCS_BAD then x.mark Fl.FCS_BAD else x

/-- The PRP copies that wait for a frame's end take it; they are stomped when the frame is gone. -/
def Dev.copiesEnd (d : Dev) (copies : List Nat) (i : Nat) : Dev :=
  match d.shut i with
  | some x => copies.foldl (fun (d : Dev) j => d.modShut j (fun y => y.endOf x)) d
  | none => copies.foldl (fun (d : Dev) j => d.modShut j (fun y => { y with ended := true, endDone := true, stomp := true })) d

/-- What waited for a frame's end, from either direction, in order: its records and policers, the tunnel and the lane, its PRP copies and
trailers, STOR, Reed's charge, and the end at the lands. -/
def Dev.frameEnded (d : Dev) (i : Nat) : Dev :=
  match d.shut i with
  | none => d
  | some s =>
    if !s.ended || s.endDone then d else
    let copies := d.openCopies i
    let d := d.putShut i { s with endDone := true }
    match s.dropReason with
    | some r =>
      let d := (d.releaseLearn i).laneEnd i
      let d := d.copiesEnd copies i
      copies.foldl (fun d j => ((d.prpTail j).refund j).departEnd j) (d.discard i r)
    | none =>
      let d := (((d.prpAtEnd i).setDeadline i).ipLenAtEnd i).abAtEnd i
      let d := ((d.policeAtEnd i).releaseLearn i).ingressAtEnd i
      let d := ((d.tunnelEnd i).heldAtEnd i).laneEnd i
      let d := d.copiesEnd copies i
      let d := if ((d.shut i).elim (some 0) Shut.dropReason).isSome then copies.foldl (fun d j => d.stompOrDrop j 6) d else d
      let d := (i :: copies).foldl (fun d j => (d.prpTail j).refund j) d
      ((i :: copies).foldl (fun d j => d.departEnd j) (d.storAtEnd i)).hostEnd i

/-- FRAME_END_RX (R40, R64, R74, R78): the last bytes of a frame with its FCS. `offset` and `measured` place the end-of-frame stamp;
`corrected`, `uncorrected` and `symbols` are what the PCS found in it. -/
def execFrameEndRx (port : Nat) (bytes : List Byte) (offset : Nat) (measured : Int) (corrected uncorrected symbols : Nat) (s : State) :
    Host.Outcome State Fault Refusal :=
  let d := s.dev
  if !d.receives port then done s d else
  let d := (d.count (K.PORT_RX_FRAMES port)).count (K.PORT_RX_FEC_CORR port) corrected
  let d := if uncorrected > 0 then (d.count (K.PORT_RX_FEC_UNCORR port) uncorrected).raise (F.PORT_EVENT_FEC_UNCORR port) else d
  let noFec := d.sh (F.PORT_CFG_FEC port) == 0
  let d := if noFec then d.count (K.PORT_RX_SYMBOL_ERR port) symbols else d
  match (d.port port).cur with
  | none => doneH s d
  | some i =>
    let d := d.modPort port (fun p => { p with cur := none })
    match d.shut i with
    | none => doneH s d
    | some x =>
      let x := x.append bytes
      let body := x.rx.take (x.rx.length - 4)
      let bad := crc32 body != fcsOf x.rx || decide (uncorrected > 0) || (noFec && decide (symbols > 0))
      let d := if bad then d.count (K.PORT_RX_FCS_BAD port) else d
      let x := { x with frame := x.frame.take (x.frame.length - 4), ended := true, endStamp := d.rxStamp port offset measured, endEpoch := d.epoch }
      let x := if bad then x.mark Fl.FCS_BAD else x
      let x := if (prpTrailer body).isSome then x.mark Fl.PRP_RCT else x
      doneH s (((d.putShut i (x.set S.LENGTH (x.frame.length + 4))).frameEnded i).settlePass i)

/-! ## Command table entries (R227) -/

/-- The segments a list gives so far: addresses and lengths, and whether its last entry has been read. -/
def segList (b : List Byte) : List (Nat × Nat) × Bool :=
  let l := (List.range (b.length / 16)).map (fun k => (ceN b (16 * k) 8, ceN b (16 * k + 8) 4))
  (l, l.length ≥ 256 || (decide (b.length ≥ 16) && (ceN b (b.length - 4) 1).testBit 0))

/-- Shuttles that wait at STOR for a key, in order of arrival. -/
def Dev.storWaiting (d : Dev) (key : Nat) : List Nat :=
  (d.shuts.filter (fun (p : Nat × Shut) => p.2.stage == .stor && p.2.dropReason.isNone && (match p.2.stor with
    | it :: _ => it.key == key
    | [] => false))).map (·.1)

/-- Every shuttle that waits at STOR tried again. -/
def Dev.storRetry (d : Dev) : Dev :=
  let l := (d.shuts.filter (fun (p : Nat × Shut) => p.2.stage == .stor && p.2.dropReason.isNone && !p.2.storEnd)).map (·.1)
  l.foldl (fun d i => (d.storGo i).settlePass i) d

/-- A reset of an instance, or a clear of its bus master enable, at the STOR unit (R231): segments that waited go on without placement. -/
def Dev.storStop (d : Dev) (inst : Nat) : Dev := (d.storReset inst).storRetry

/-- STOR_DELETE (R231, R236). -/
def execStorDelete (index : Nat) (s : State) : Host.Outcome State Fault Refusal :=
  doneH s (s.dev.storIndirect 2 index (fun d => match d.validCtx index with
    | some _ => (((d.storDrop index).modStor (fun x => { x with ctxs := mapErase x.ctxs index })).storRetry, 0)
    | none => (d, 1)))

/-- An entry that may not be used: its PDU data is NOT_PLACED, and NO_ENTRY counted. -/
def Dev.noEntry (d : Dev) (key : Nat) : Dev :=
  (d.storWaiting key).foldl (fun d i => d.modShut i (fun s =>
    { (if s.storTx then s else s.storSay SR.notPlaced) with stor := s.stor.filter (fun it => it.key != key) })) (d.count K.STOR_NO_ENTRY)

/-- The reads of an entry have ended: it is cached, found unusable, or its segment list is read on. -/
def Dev.cidArrive (d : Dev) (key : Nat) : Dev :=
  let b := mapGetD d.stor.data key []
  let e := b.take 32
  let drop := fun (d : Dev) => d.modStor (fun x => { x with fetching := x.fetching.filter (fun k => k != key), data := mapErase x.data key })
  let inst := match mapGet d.stor.ctxs (key / 65536) with
    | some c => recGet c.record QC.INSTANCE
    | none => 0
  let busy := d.hif.reads.any (fun r => r.use == .cid key && !r.quarantined) || d.hif.waiting.any (fun o => o.use == .cid key && decide (o.len > 0))
  let fault := fun (d : Dev) => (d.storWaiting key).foldl (fun d i => (d.setStatus i St.xlateFault).placeFault i key)
    ((drop d).putCid key { bytes := List.replicate 32 0, dead := true })
  if !d.stor.fetching.contains key || busy then d
  else if d.hif.faulted.contains (.cid key) then fault (d.modHif (fun h => { h with faulted := h.faulted.filter (fun u => u != .cid key) }))
  else if b.length < 32 then d
  else if !ceValid e || ceN e 14 2 != key % 65536 then (drop d).noEntry key
  else if !ceList e then (drop d).putCid key { bytes := e }
  else
    let (l, fin) := segList (b.drop 32)
    if !fin then d.dmaRead inst (ceN e 0 8 + (b.length - 32)) 16 (.cid key) false
    else if l.foldl (fun n p => n + p.2) 0 ≠ ceLength e then
      (d.storWaiting key).foldl (fun d i => d.placeFault i key) ((drop d).putCid key { bytes := e, dead := true })
    else (drop d).putCid key { bytes := e, segments := l }

/-- CID_ENTRY_FETCH (R227): the reads of a command table entry have come, and the data that waits for it is placed, or not. -/
def execCidEntryFetch (context cid : Nat) (s : State) : Host.Outcome State Fault Refusal :=
  doneH s (s.dev.cidArrive (cidKey context cid)).storRetry

end Sys2Proof.Machine
end

