-- ==== Sys2Proof/Machine/LedgerCmds.lean ====
section
/-! DEFINITION. The ledger's own commands (ch. 5): streams started and ended at a swap, cuts, seals signed and written, export to the host,
and the periodic health record (R121 to R134). -/
namespace Sys2Proof.Machine
open Sys2Proof

/-! ## Streams (R121, R127, R128) -/

/-- The device identity key (R407). -/
def identityPublic : List Byte := edPublic Config.identitySeed
/-- An identifier of a public key: the first 8 bytes of its SHA-512 (R126, R127). -/
def keyId (pub : List Byte) : List Byte := (sha512 pub).take 8

/-- Bytes 0 to 127 of a certificate record (Table 7). -/
def Dev.certBody (d : Dev) (s : Nat) : List Byte :=
  ledgHeader d.now 11 0 7 d.activeVersion 0 0 d.traceable 0 0
    ++ leBytes 8 (d.get F.LEDG_KEY_ID_KEY_ID) ++ leBytes 8 (d.get F.BOOT_COUNT_BOOT_NUMBER) ++ d.ledg.publicKey
    ++ keyId identityPublic ++ leBytes 8 (d.get F.BOOT_IMAGE_VERSION_VERSION)
    ++ leBytes 4 (d.sh F.LEDG_SEAL_CFG_SEAL_US) ++ leBytes 4 (d.sh F.LEDG_SEAL_LIMIT_LIMIT) ++ leBytes 1 s ++ List.replicate 23 0
    ++ sliceBytes Config.serial 0 16

/-- Bytes 0 to 127 of a seal (Table 6). -/
def SealJob.body (j : SealJob) : List Byte :=
  ledgHeader j.stamp.time 11 0 2 j.version 0 0 j.stamp.trace 0 j.alive
    ++ leBytes 8 j.number ++ leBytes 8 (j.batch.length / 32) ++ leBytes 8 (j.before + j.batch.length / 32) ++ leBytes 8 j.keyId
    ++ leBytes 1 j.stream ++ leBytes 1 j.causes ++ List.replicate 14 0 ++ sha512 (j.prev ++ j.batch)

/-- The six slots of a seal written where it was cut; `sig` is its signature. -/
def Dev.putSeal (d : Dev) (j : SealJob) (sig : List Byte) : Dev :=
  let d := d.writeSlots j.ring j.slot (j.body ++ sig) 6
  let x := d.stream j.stream
  let d := d.putStream j.stream { x with reserved := x.reserved.filter (fun k => k != j.slot) }
  (d.setCtr (kLastSeal j.stream) j.number).count (K.LEDG_SEALS j.stream)

/-- The seals of a stream's last run that still wait are signed and written before it starts again (DESIGN CHOICE, assumption log 84). -/
def Dev.sealsDue (d : Dev) (s : Nat) : Dev :=
  (d.ledg.signer.filter (fun j => j.stream == s)).foldl (fun (d : Dev) j => d.putSeal j (edSign d.ledg.privateKey j.body))
    (d.modLedg (fun l => { l with signer := l.signer.filter (fun j => j.stream != s) }))

/-- A stream starts with its CERT record, alive counter 0 and H_0 (R121, R122, R127). -/
def Dev.startStream (d : Dev) (s : Nat) : Dev :=
  let d := (d.sealsDue s).putStream s { running := true, digest := List.replicate 64 0 }
  let d := (((d.setCtr (kHead s) 0).setCtr (kExported s) 0).setCtr (kHostTail s) 0).setCtr (kLastSeal s) 0
  let d := (d.set ⟨0x400004, 16 + s, 1⟩ 0).set ⟨0x400004, 8 + s, 1⟩ (d.get (F.LEDG_STREAM_CFG_EXPORT s))
  let body := d.certBody s
  d.putRecord s (fun _ => body ++ edSign Config.identitySeed body)

/-- A stream disabled takes its final seal (R123). -/
def Dev.endStream (d : Dev) (s : Nat) : Dev :=
  let d := d.cutSeal s 3
  d.putStream s { d.stream s with running := false }

/-- OWNER of every bulk mover channel (R351): firmware for those the image reserves, the ledger for those an enabled stream names. -/
def Dev.showOwners (d : Dev) : Dev :=
  (List.range 32).foldl (fun (d : Dev) c => d.set (F.MOVE_CH_CFG_OWNER c) (if d.boot.fwChannels.contains c then 1
    else if (List.range 8).any (fun s => d.sh (F.LEDG_STREAM_CFG_ENABLE s) == 1 && d.sh (F.LEDG_STREAM_CFG_CH s) == c) then 2 else 0)) d

/-- What a swap does to the streams before it: those the new set disables are sealed. -/
def Dev.ledgBefore (d : Dev) (new : CfgSet) : Dev :=
  (List.range 8).foldl (fun d s => if (d.stream s).running && new.get (F.LEDG_STREAM_CFG_ENABLE s) == 0 then d.endStream s else d) d

/-- What a swap does to the streams after it: those it enables start, and the COMMIT record is written to every stream (R134, R135). -/
def Dev.ledgAfter (d : Dev) (retiring : Nat) : Dev :=
  let d := (List.range 8).foldl (fun d s =>
    if !(d.stream s).running && d.sh (F.LEDG_STREAM_CFG_ENABLE s) == 1 && d.sys.ready then d.startStream s else d) d
  d.showOwners.health 6 (d.cfg.version + 256 * retiring) 0

/-! ## Cuts and seals (R123 to R125) -/

/-- SEAL_INTERVAL_EXPIRE (R123): one that falls in a gap is made after it (R380). -/
def execSealIntervalExpire (stream : Nat) (s : State) : Host.Outcome State Fault Refusal :=
  if stream < 8 && s.dev.flt.gap == 0 then done s (s.dev.cutSeal stream 0) else done s s.dev

/-- SEAL_NOW (R123): the streams named are cut in stream order. -/
def execSealNow (streams : Nat) (s : State) : Host.Outcome State Fault Refusal :=
  if !s.dev.responds 0x400014 then done s s.dev else
  done s ((List.range 8).foldl (fun d k => if streams.testBit k then d.cutSeal k 2 else d) s.dev)

/-- SEAL_WRITE (R124, R125): the seal at the signer's head is signed, checked and written, once the weave cycle of its cut has ended (R122).
`failures` is how many checks failed: after one the module has signed again, after two the seal is written without a signature. -/
def execSealWrite (failures : Nat) (s : State) : Host.Outcome State Fault Refusal :=
  let d := s.dev
  match d.ledg.signer with
  | [] => done s d
  | j :: t =>
    if j.cycle ≥ d.time.cycles then done s d else
    let d := d.modLedg (fun l => { l with signer := t })
    if failures ≥ 2 then
      let d := (d.putSeal j (List.replicate 64 0)).set F.LEDG_STATUS_SIGNER_FAULT 1
      done s ((d.raise F.LEDG_EVENT_SEAL_FAULT).fault Code.ledgerSeal)
    else done s ((d.putSeal j (edSign d.ledg.privateKey j.body)).set F.LEDG_STATUS_SIGNER_FAULT 0)

/-! ## Export (R132, R133) -/

/-- Slots that may be exported: none from the first seal that is not yet written. -/
def Dev.exportEnd (d : Dev) (s : Nat) : Nat := (d.stream s).reserved.foldl min (d.ctr (kHead s))

/-- Slots of the next burst: written, with room at the reader, in one burst of the channel, one host page and one lap of each buffer. -/
def Dev.exportSlots (d : Dev) (s : Nat) : Nat :=
  let host := 2 ^ d.sh (F.LEDG_STREAM_CFG_HOST_LOG2 s) / 32
  let at_ := d.ctr (kExported s)
  let addr := d.sh (F.LEDG_STREAM_HOST_BASE_BASE s) + 32 * (at_ % host)
  let ring := d.ringSlots s
  min (min (min (d.exportEnd s - at_) (host - (at_ - d.ctr (kHostTail s)))) (2 * 2 ^ d.get (F.MOVE_CH_CFG_BURST (d.sh (F.LEDG_STREAM_CFG_CH s)))))
    (min (ring - at_ % ring) (min (host - at_ % host) ((4096 - addr % 4096) / 32)))

/-- Whether a stream's export may go on: EXPORT is set and its function may be written to. -/
def Dev.exporting (d : Dev) (s : Nat) : Bool :=
  decide (s < 8) && d.flag (F.LEDG_STREAM_CFG_EXPORT s) && d.mayRequest (d.sh (F.LEDG_STREAM_CFG_INSTANCE s)) && d.sys.ready

/-- LEDGER_EXPORT_BURST (R132, R133): the slots of one burst and then the exported count go to the host, once both places are translated and no
earlier write of the function waits; a translation that fails stops the export with nothing exported. -/
def execLedgerExportBurst (stream : Nat) (s : State) : Host.Outcome State Fault Refusal :=
  let d := s.dev
  let n := d.exportSlots stream
  if !d.exporting stream || n == 0 then done s d else
  let inst := d.sh (F.LEDG_STREAM_CFG_INSTANCE stream)
  let at_ := d.ctr (kExported stream)
  let host := 2 ^ d.sh (F.LEDG_STREAM_CFG_HOST_LOG2 stream) / 32
  let data := d.sh (F.LEDG_STREAM_HOST_BASE_BASE stream) + 32 * (at_ % host)
  let mirror := d.sh (F.LEDG_STREAM_MIRROR_ADDR stream)
  if d.hif.waiting.any (fun w => w.inst == inst && w.len == 0) then done s d else
  match d.xlate inst data true, d.xlate inst mirror true with
  | .fault r, _ => doneH s ((d.xlateFault inst data r true).stopExport stream 3)
  | .miss, _ => doneH s (d.startWalk inst data false)
  | .hit _, .fault r => doneH s ((d.xlateFault inst mirror r true).stopExport stream 3)
  | .hit _, .miss => doneH s (d.startWalk inst mirror false)
  | .hit _, .hit _ =>
    let addr := d.slotAddr stream at_
    let b := memRead (ddrView s.ddr d.dram.wq) addr (32 * n)
    let d := d.dmaWrite inst data b (.export_ stream) (d.poisonRanges addr (32 * n))
    let d := d.dmaWrite inst mirror (leBytes 8 (at_ + n)) (.export_ stream)
    doneH s (((d.setCtr (kExported stream) (at_ + n)).count K.MOVE_BYTES (32 * n)).unstall stream)

/-- LEDGER_TAIL_DOORBELL (R132, R326): a function writes the 64-bit count of slots it has consumed to page 0 of its BAR2. `single` says
that the write is one aligned 64-bit TLP; a poisoned one is ignored (R298). -/
def execLedgerTailDoorbell (inst stream slots : Nat) (single poisoned : Bool) (s : State) : Host.Outcome State Fault Refusal :=
  let d := s.dev
  if !d.sys.ready then done s d
  else if poisoned then done s (d.count K.HIF_POISON_RX)
  else if !single || decide (stream ≥ 8) then done s ((d.count K.RING_BAD_DOORBELL).raise F.RING_EVENT_BAD_DOORBELL)
  else if d.sh (F.LEDG_STREAM_CFG_INSTANCE stream) ≠ inst then done s (d.count K.RING_LEDGER_TAIL_IGNORED)
  else done s (d.setCtr (kHostTail stream) slots)

/-- LEDGER_HOST_TAIL_WRITE (R132): the manager writes LEDG_STREAM_s_HOST_TAIL. -/
def execLedgerHostTailWrite (stream slots : Nat) (s : State) : Host.Outcome State Fault Refusal :=
  if stream < 8 && s.dev.responds (kHostTail stream) then done s (s.dev.setCtr (kHostTail stream) slots) else done s s.dev

/-- EXPORT_STOP (R133): EXPORT written 0. -/
def execExportStop (stream : Nat) (s : State) : Host.Outcome State Fault Refusal :=
  if stream < 8 && s.dev.responds 0x401000 then done s (s.dev.stopExport stream 4) else done s s.dev

/-- EXPORT_RESUME (R133): EXPORT written 1; a stream that exports already is left as it is. -/
def execExportResume (stream : Nat) (s : State) : Host.Outcome State Fault Refusal :=
  let d := s.dev
  if stream ≥ 8 ∨ !d.responds 0x401000 ∨ d.flag (F.LEDG_STREAM_CFG_EXPORT stream) then done s d else
  let d := (d.set (F.LEDG_STREAM_CFG_EXPORT stream) 1).set ⟨0x400004, 8 + stream, 1⟩ 1
  done s (d.health 7 (stream + 256) 0)

/-- HEALTH_SELF_TEST_RECORD (R134): HEALTH_S seconds have passed; 0 takes none. DETAIL holds the health report register. -/
def execHealthSelfTestRecord (s : State) : Host.Outcome State Fault Refusal :=
  let d := s.dev
  if d.get F.LEDG_CTRL_HEALTH_S = 0 then done s d else done s (d.health 5 (d.word 0x1000000).toNat 0)

end Sys2Proof.Machine
end

