-- ==== Sys2Proof/Machine/Port.lean ====
section
/-! DEFINITION. Network ports (ch. 3): link states (R65 to R67), PAUSE, PFC and the watchdog (R68 to R70), recovered clocks (R81), and
a frame at its transmit land with its stamp, its departure test and PTP insertion (R42, R56, R87, R109 to R113, R72). -/
namespace Sys2Proof.Machine
open Sys2Proof

/-! Link states as PORT_n_STATUS.LINK_STATE shows them (Table 2). -/
namespace LS
def disabled : Nat := 0
def negotiate : Nat := 1
def train : Nat := 2
def align : Nat := 3
def up : Nat := 4
end LS

/-- LINK_STATE of a port. -/
def Dev.linkState (d : Dev) (n : Nat) : Nat := d.get (F.PORT_STATUS_LINK_STATE n)
/-- A port moved to a link state. -/
def Dev.setLink (d : Dev) (n st : Nat) : Dev := d.set (F.PORT_STATUS_LINK_STATE n) st
/-- Where a link restarts: NEGOTIATE with AN, else TRAIN. -/
def Dev.linkStart (d : Dev) (n : Nat) : Dev := d.setLink n (if d.sh (F.PORT_CFG_AN n) = 1 then LS.negotiate else LS.train)

/-- Whether a set runs a port: an active one of its group's mode, or the management port (R62, R75). -/
def CfgSet.runs (c : CfgSet) (n : Nat) : Bool :=
  if n = 8 then c.get (F.PORT_CFG_ENABLE 8) == 1 && c.get (F.PORT_CFG_MODE 8) == 7 else c.portActive n
/-- Whether the module runs a port of the active set: the management port exists only where the board description declares it (R75). -/
def Dev.runs (d : Dev) (n : Nat) : Bool := d.cfg.active.runs n && (n != 8 || d.net.mgmt)
/-- The mode of a lane group: that of its active ports, 0 without one. -/
def CfgSet.groupMode (c : CfgSet) (g : Nat) : Nat :=
  ((((List.range 4).map (fun k => 4 * g + k)).find? c.portActive).map (fun n => c.get (F.PORT_CFG_MODE n))).getD 0

/-! ## Recovered clocks (R81) -/

/-- The outputs that select a port are squelched. -/
def Dev.squelch (d : Dev) (n : Nat) : Dev :=
  ([0, 1] : List Nat).foldl (fun d k => if d.get (F.PORT_RCLK_PORT k) = n then d.set (F.PORT_RCLK_SQUELCHED k) 1 else d) d

/-- The divisor of a port mode (Table 6): by it the recovered clock of the first lane becomes 156.25 MHz. -/
def rclkDivisor (mode : Nat) : Nat :=
  if mode = 1 then 66 else if mode = 2 then 165 else if mode = 3 then 170 else if 4 ≤ mode ∧ mode ≤ 6 then 340 else 0

/-- What a recovered clock output carries (R81): low, or the clock of the first lane of a port with its divisor. -/
def Dev.rclkOut (d : Dev) (k : Nat) : Option (Nat × Nat) :=
  let p := d.get (F.PORT_RCLK_PORT k)
  if p > 7 || d.flag (F.PORT_RCLK_SQUELCHED k) then none else some (p, rclkDivisor (d.sh (F.PORT_CFG_MODE p)))

/-- CDR_LOCK_LOSS (R81). -/
def execCdrLockLoss (port : Nat) (s : State) : Host.Outcome State Fault Refusal :=
  if port > 8 then done s s.dev else done s ((s.dev.set (F.PORT_STATUS_CDR_LOCK port) 0).squelch port)

/-- CDR_LOCK_GAIN (R81). -/
def execCdrLockGain (port : Nat) (s : State) : Host.Outcome State Fault Refusal :=
  if port > 8 then done s s.dev else done s (s.dev.set (F.PORT_STATUS_CDR_LOCK port) 1)

/-- RCLK_RESTORE (R81): the first lane of the port that an output selects has been locked for 10 ms without a break. -/
def execRclkRestore (output : Nat) (s : State) : Host.Outcome State Fault Refusal :=
  let d := s.dev
  let p := d.get (F.PORT_RCLK_PORT output)
  if output < 2 && decide (p < 8) && d.flag (F.PORT_STATUS_CDR_LOCK p) then done s (d.set (F.PORT_RCLK_SQUELCHED output) 0) else done s d

/-! ## Links (R66, R67) -/

/-- The frames queued for a port are discarded (R67). -/
def Dev.dropQueued (d : Dev) (n : Nat) : Dev :=
  let l := (d.shuts.filter (fun (p : Nat × Shut) =>
    p.2.get S.DEST_PORT == n && p.2.dropReason.isNone && (p.2.stage == .reed || (p.2.stage == .toLands && !p.2.departed)))).map (·.1)
  l.foldl (fun d i => (d.count (K.PORT_TX_LINKDOWN_DROP n)).discardMiss i 3 Miss.shed) d

/-- A frame in reception when its link is lost ends with a bad FCS. -/
def Dev.cutReception (d : Dev) (n : Nat) : Dev :=
  match (d.port n).cur with
  | none => d
  | some i =>
    let d := d.modPort n (fun p => { p with cur := none })
    ((d.modShut i (fun x => { (x.mark Fl.FCS_BAD) with ended := true, endStamp := netStamp d.now, endEpoch := d.epoch })).frameEnded i).settlePass i

/-- A port leaves UP: the actions of R67. -/
def Dev.linkLeave (d : Dev) (n : Nat) : Dev :=
  if d.linkState n ≠ LS.up then d else
  let d := ((d.set (F.PORT_STATUS_LINK n) 0).raise (F.PORT_EVENT_LINK_CHANGE n)).set (F.PORT_STATUS_FEC_ACTIVE n) 0
  let d := if n < 8 then (d.set (F.LOOM_BOOK_CAP_CAP n) 0).bookFell n else d
  let d := d.setLink n LS.disabled
  (((d.modPort n (fun p => { p with stamps := [] })).cutReception n).dropQueued n).squelch n

/-- A port goes to DISABLED from any state with the actions of R67: only UP has a link and a capacity to lose. -/
def Dev.linkDisable (d : Dev) (n : Nat) : Dev :=
  if d.linkState n = LS.up then (d.linkLeave n).setLink n LS.disabled
  else if d.linkState n = LS.disabled then d
  else (d.dropQueued n).setLink n LS.disabled

/-- What a swap does to the ports (R65, R66): `old` is the set that was active. -/
def Dev.portSwapOne (d : Dev) (old : CfgSet) (n : Nat) : Dev :=
  let new := d.cfg.active
  let change := n < 8 && old.groupMode (n / 4) != new.groupMode (n / 4)
  let d := if change || !d.runs n then d.linkDisable n else d
  let d := if d.runs n && d.linkState n == LS.disabled && d.sys.ready then d.linkStart n else d
  d.showComp n
/-- Every port after a swap. -/
def Dev.portSwap (d : Dev) (old : CfgSet) : Dev := (List.range 9).foldl (fun d n => d.portSwapOne old n) d

/-- AN_COMPLETE (R66): negotiation has resolved the configured mode, or not. -/
def execAnComplete (port : Nat) (matches_ : Bool) (s : State) : Host.Outcome State Fault Refusal :=
  let d := s.dev
  if port > 8 ∨ d.linkState port ≠ LS.negotiate then done s d
  else if matches_ then done s (d.setLink port LS.train)
  else done s (d.count (K.PORT_AN_FAIL port))

/-- TRAINING_COMPLETE (R66): training has completed, or is skipped for C2M. -/
def execTrainingComplete (port : Nat) (s : State) : Host.Outcome State Fault Refusal :=
  let d := s.dev
  if port > 8 ∨ d.linkState port ≠ LS.train then done s d else done s (d.setLink port LS.align)

/-- TRAINING_TIMEOUT (R66). -/
def execTrainingTimeout (port : Nat) (s : State) : Host.Outcome State Fault Refusal :=
  let d := s.dev
  if port > 8 ∨ d.linkState port ≠ LS.train then done s d else done s (d.linkStart port)

/-- LINK_UP (R66): the port's book has its capacity again (R67). -/
def execLinkUp (port : Nat) (s : State) : Host.Outcome State Fault Refusal :=
  let d := s.dev
  if port > 8 ∨ d.linkState port ≠ LS.align then done s d else
  let d := ((d.setLink port LS.up).set (F.PORT_STATUS_LINK port) 1).raise (F.PORT_EVENT_LINK_CHANGE port)
  let d := d.set (F.PORT_STATUS_FEC_ACTIVE port) (d.sh (F.PORT_CFG_FEC port))
  done s (if port < 8 then (d.set (F.LOOM_BOOK_CAP_CAP port) (d.cfg.active.portRate port)).bookFell port else d)

/-- LINK_LOSS (R66, R67): lock or alignment is lost, or a remote fault has come. -/
def execLinkLoss (port : Nat) (s : State) : Host.Outcome State Fault Refusal :=
  let d := s.dev
  if port > 8 ∨ d.linkState port ≠ LS.up then done s d else doneH s ((d.linkLeave port).linkStart port)

/-! ## PAUSE and PFC received (R68, R70) -/

/-- PAUSE_STATE and PFC_PAUSED of a port as its pauses stand; `rest` is the state when none is in force. -/
def Dev.showPause (d : Dev) (n rest : Nat) : Dev :=
  let l := (d.port n).paused
  let d := d.set (F.PORT_STATUS_PFC_PAUSED n) ((l.filter (fun k => decide (k < 8))).foldl (fun m k => m + 2 ^ k) 0)
  d.set (F.PORT_STATUS_PAUSE_STATE n) (if l.isEmpty then rest else 1)

/-- A pause taken or refreshed for a priority; 8 is the whole port. Pause in hold-off is ignored. -/
def Dev.pauseOn (d : Dev) (n prio : Nat) : Dev :=
  let p := d.port n
  if p.holdoff.contains prio || p.paused.contains prio then d else
  ((d.modPort n (fun p => { p with paused := p.paused ++ [prio] })).set (F.PORT_STATUS_WATCHDOG_ALSO n) 0).showPause n 1

/-- A pause ends: RELEASED when none is left. -/
def Dev.pauseOff (d : Dev) (n prio : Nat) : Dev :=
  if !(d.port n).paused.contains prio then d else
  (d.modPort n (fun p => { p with paused := p.paused.filter (fun k => k != prio) })).showPause n 2

/-- One request of a pause frame: quanta 0 is XON. -/
def Dev.pauseAct (d : Dev) (n prio quanta : Nat) : Dev := if quanta = 0 then d.pauseOff n prio else d.pauseOn n prio

/-- A pause that ends in the PCS cycle of its watchdog limit shows WATCHDOG_ALSO (R34, R70). -/
def Dev.pauseAlso (d : Dev) (n : Nat) (ended : Bool) : Dev := if ended then d.set (F.PORT_STATUS_WATCHDOG_ALSO n) 1 else d

/-- PAUSE_FRAME_RX (R68, R70): `pause.also` says that the watchdog limit of a pause in force falls in the same PCS cycle. -/
def execPauseFrameRx (port : Nat) (pause : PauseTime) (s : State) : Host.Outcome State Fault Refusal :=
  let d := s.dev
  if !d.receives port || d.sh (F.PORT_PAUSE_RX_MODE port) ≠ 1 then done s d else
  done s ((d.pauseAct port 8 pause.quanta).pauseAlso port (pause.also && decide (pause.quanta = 0) && (d.port port).paused.contains 8))

/-- PFC_FRAME_RX (R68, R70): the priorities that a frame names, with the quanta of each; `pauses.also` holds the priorities whose watchdog limit
falls in the same PCS cycle. -/
def execPfcFrameRx (port enables : Nat) (pauses : PfcTimes) (s : State) : Host.Outcome State Fault Refusal :=
  let d := s.dev
  if !d.receives port || port = 8 || d.sh (F.PORT_PAUSE_RX_MODE port) ≠ 2 then done s d else
  let on := enables &&& d.sh (F.PORT_PAUSE_PFC_EN port)
  done s ((List.range 8).foldl (fun d k =>
    if on.testBit k then
      let q := pauses.quanta.getD k 0
      (d.pauseAct port k q).pauseAlso port (pauses.also.testBit k && decide (q = 0) && (d.port port).paused.contains k)
    else d) d)

/-- PAUSE_QUANTA_EXPIRE (R70): `also` says that the watchdog limit fell in the same PCS cycle (R34). -/
def execPauseQuantaExpire (port priority : Nat) (also : Bool) (s : State) : Host.Outcome State Fault Refusal :=
  let d := s.dev
  if port > 8 || !(d.port port).paused.contains priority then done s d else
  done s ((d.pauseOff port priority).pauseAlso port also)

/-- PAUSE_WATCHDOG_EXPIRE (R70): a pause has lasted LIMIT_US without a break. -/
def execPauseWatchdogExpire (port priority : Nat) (s : State) : Host.Outcome State Fault Refusal :=
  let d := s.dev
  if port > 8 || !(d.port port).paused.contains priority then done s d else
  let d := d.modPort port (fun p => { p with paused := p.paused.filter (fun k => k != priority), holdoff := p.holdoff ++ [priority] })
  let d := (d.showPause port 3).set (F.PORT_STATUS_PAUSE_STATE port) 3
  done s ((d.count (K.PORT_PAUSE_WDOG port)).raise (F.PORT_EVENT_PAUSE_WDOG port))

/-- PAUSE_HOLDOFF_EXPIRE (R70). -/
def execPauseHoldoffExpire (port priority : Nat) (s : State) : Host.Outcome State Fault Refusal :=
  let d := s.dev
  if port > 8 || !(d.port port).holdoff.contains priority then done s d else
  let d := d.modPort port (fun p => { p with holdoff := p.holdoff.filter (fun k => k != priority) })
  done s (d.showPause port (if (d.port port).holdoff.isEmpty then 0 else 3))

/-- XOFF_REFRESH (R69): half a quanta period has passed while XOFF holds. -/
def execXoffRefresh (port priority : Nat) (s : State) : Host.Outcome State Fault Refusal :=
  let d := s.dev
  if port > 8 || !(d.port port).xoff.contains priority || !d.xoffFits port priority then done s d else
  done s (d.emit (.pause port (d.sh (F.PORT_PAUSE_QUANTA port)) (2 ^ priority)))

/-! ## PTP at the transmit land (R109 to R113) -/

/-- A checksum with `old` bytes replaced by `new` ones at an even distance (RFC 1624). R109 does not say what an updated checksum that comes
to 0 becomes: it is written as 0x0000 (DESIGN CHOICE, assumption log 84). -/
def sumPatch (sum : Nat) (old new : List Byte) : Nat :=
  0xFFFF - onesSum (beBytes 2 (0xFFFF - sum) ++ beBytes 2 (0xFFFF - onesSum old) ++ new)

/-- Bytes of a PTP message replaced; the UDP checksum is updated, and one of 0 over IPv4 is left. -/
def ptpPatch (f : List Byte) (ptp transport off : Nat) (new : List Byte) : List Byte :=
  let old := sliceBytes f (ptp + off) new.length
  let g := patchBytes f (ptp + off) new
  let at_ := ptp - 2
  let sum := beNat (sliceBytes f at_ 2)
  if transport = 0 ∨ (transport = 4 ∧ sum = 0) then g else patchBytes g at_ (beBytes 2 (sumPatch sum old new))

/-- A signed amount in 2^-16 ns added to correctionField. -/
def ptpAdd (f : List Byte) (ptp transport : Nat) (x : Int) : List Byte :=
  ptpPatch f ptp transport 8 (beBytes 8 (unsignedOf 64 (signedOf 64 (beNat (sliceBytes f (ptp + 8) 8)) + x)))

/-- A one-step event message with its egress stamp (R109): originTimestamp of a Sync, or the residence of a Pdelay_Resp. -/
def ptpOneStep (s : Shut) (ptp transport stamp : Nat) : List Byte :=
  if byteN s.frame ptp % 16 = 3 then ptpAdd s.frame ptp transport ((stamp : Int) - fieldStamp s.t2)
  else
    let ns := stamp / 65536
    let f := ptpPatch s.frame ptp transport 34 (beBytes 6 (ns / 10 ^ 9) ++ beBytes 4 (ns % 10 ^ 9))
    ptpAdd f ptp transport (stamp % 65536 : Nat)

/-- Whether a departing frame has been, or is being, encrypted by MACsec or IPsec (R113): its last pass asked for it, and no frame that
did leaves without its lane. -/
def Dev.encrypting (d : Dev) (s : Shut) : Bool :=
  s.get S.CIPHER_OP == 2 && (match mapGet d.ciph.sas (s.get S.SA) with
    | some a => recGet a.record ⟨3, 1⟩ == 1 && decide (recGet a.record ⟨0, 3⟩ ≤ 2)
    | none => false)

/-- PTP work on a frame with its egress stamp: insertion, correction, or skipped because the frame was encrypted. -/
def Dev.ptpDepart (d : Dev) (i stamp : Nat) : Dev :=
  match d.shut i with
  | none => d
  | some s =>
    let one := s.get S.DIR == 1 && s.txFlags % 2 == 1 && s.flag Fl.PTP_EVENT
      && (d.cfgOf s).get (F.TIME_PORT_PTP_ONE_STEP (s.get S.DEST_PORT)) == 1
    let fix := s.flag Fl.PTP_CORRECT
    if !one && !fix then d else
    let p := parseFrame ⟨s.frame, s.ended, 0⟩
    match p.ptp, d.encrypting s with
    | some t, false =>
      let ptp := p.pos - 34
      if one && byteN s.frame ptp % 16 != 0 && byteN s.frame ptp % 16 != 3 then d
      else if one then (d.putShut i { s with frame := ptpOneStep s ptp t stamp }).count K.TIME_PTP_ONE_STEP
      else
        let src := s.get S.PORT
        let link := if (d.cfgOf s).get (F.TIME_PORT_PTP_TC (s.get S.DEST_PORT)) = 2 then d.get (F.TIME_PORT_LINK_DELAY_DELAY src) else 0
        let stay := d.onScale stamp d.epoch - d.onScale (fieldStamp (s.get S.INGRESS_STAMP)) s.epoch
        (d.putShut i { s with frame := ptpAdd s.frame ptp t (stay + (link : Nat)) }).count K.TIME_PTP_CORRECTED
    | _, enc => if enc || p.offs.getD Off.sec 0xFFFF != 0xFFFF then d.count K.TIME_PTP_CORR_SKIPPED else d

/-! ## Transmission -/

/-- The chosen frame of a port that is next at its lands. -/
def Dev.nextSent (d : Dev) (port : Nat) : Option (Nat × Shut) :=
  (d.shuts.filter (fun (p : Nat × Shut) =>
    p.2.stage == .toLands && p.2.get S.DEST_PORT == port && !p.2.departed && p.2.dropReason.isNone)).foldl
    (fun (b : Option (Nat × Shut)) p => match b with
      | none => some p
      | some q => if p.2.seq < q.2.seq then some p else b) none

/-- The first copy of a PRP pair to leave is the one its records and completion take (R77, R333). -/
def Dev.twinLeaves (d : Dev) (s : Shut) (stamp : Nat) : Dev :=
  if s.twinDone then d else
  match s.twin with
  | none => d
  | some j => d.modShut j (fun x => { x with twinDone := true, txStamp := if s.prpCopyOf = some j then some (d.stampOf stamp) else x.txStamp })

/-- FRAME_TRANSMIT (R42, R56, R87): the SFD of a port's next frame crosses the lands, `offset` 2^-6 ns after the present step;
`departure.measured` is the term M of R88, and `departure.pbuf` what reading the frame from its cells meets (R363). -/
def execFrameTransmit (port offset : Nat) (departure : Departure) (s : State) : Host.Outcome State Fault Refusal :=
  let d := s.dev
  if port > 8 || d.get (F.PORT_STATUS_LINK port) = 0 || (d.port port).sending.isSome then done s d else
  match d.nextSent port with
  | none => done s d
  | some (i, x) =>
    if departure.pbuf = .shuttle then doneH s (d.shuttleLost i) else
    let d := match departure.pbuf with
      | .cell at_ => d.cellBad i at_
      | _ => d
    let x := (d.shut i).getD x
    let stamp := netStamp (((d.now + offset * 1024 : Nat) : Int) + d.comp port true + departure.measured * 1024).toNat
    let late : Int := d.onScale stamp d.epoch - d.onScale x.deadline x.dlEpoch
    let d := if x.guaranteed && decide (late > 0) then d.declareMiss i x (missCause x (d.pathShedding x) late.toNat) late.toNat else d
    let d := d.modShut i (fun y => { y with departed := true, txStamp := some (d.stampOf stamp) })
    let d := (d.twinLeaves x stamp).ptpDepart i stamp
    let len := (d.shut i).elim 0 Shut.queueSize
    let d := d.modPort port (fun p =>
      { p with sending := some i, txEnd := stamp + byteTime (len + 12) (d.cfg.active.portRate port), txTc := x.get S.TC, txGuar := x.guaranteed })
    let d := if x.get S.PORT = 11 ∧ x.flag Fl.PTP_EVENT then
        let p := parseFrame ⟨x.frame, x.ended, 0⟩
        d.pushTxStamp port ⟨stamp, beNat (sliceBytes x.frame (p.pos - 34 + 30) 2)⟩
      else d
    doneH s (d.departEnd i)

/-- TX_UNDERRUN (R72): host data has not kept ahead of the MAC; the frame ends with what has come, stomped. The copies of a PRP pair share
their data, so both end. -/
def execTxUnderrun (port : Nat) (s : State) : Host.Outcome State Fault Refusal :=
  let d := s.dev
  match (d.port port).sending with
  | none => done s d
  | some i => match d.shut i with
    | none => done s d
    | some x =>
      let o := x.prpCopyOf.getD i
      if x.ended || x.get S.DIR ≠ 1 then done s d else
      let d := (d.count (K.PORT_TX_UNDERRUN port)).raise (F.PORT_EVENT_UNDERRUN port)
      let d := match x.ring with
        | some r => d.modRing r (fun y => { y with thresh := d.startAt r port + 64, clean := 0 })
        | none => d
      let d := d.modHif (fun h => { h with
        reads := h.reads.map (fun (q : HRead) => match q.use with
          | .txData j _ => if j = o then { q with dead := true } else q
          | _ => q)
        waiting := h.waiting.filter (fun q => match q.use with
          | .txData j _ => j != o
          | _ => true) })
      let d := d.modShut o (fun y => { (y.status St.underrun).set S.LENGTH (y.frame.length + 4) with ended := true, stomp := true, toRead := [] })
      doneH s (d.frameEnded o)

end Sys2Proof.Machine
end

