-- ==== Sys2Proof/Machine/FnRecords.lean ====
section
/-! DEFINITION. Which records of a configuration set belong to a function, for migration (R311, R313, R314; DESIGN CHOICE, assumption log 36): its rings, its
flows and what they name, and the groups of its instance. -/
namespace Sys2Proof.Machine
open Sys2Proof

/-- SOURCE of a flow's key: its bytes 0 and 1, the high byte first (R143). -/
def keySource (r : Rec) : Nat := recGet r ⟨0, 8⟩ * 256 + recGet r ⟨8, 8⟩
/-- A flow record with another SOURCE. -/
def setSource (r : Rec) (x : Nat) : Rec := recSet (recSet r ⟨0, 8⟩ (x / 256)) ⟨8, 8⟩ (x % 256)
/-- Whether a flow's key is for frames that a function sends. -/
def fromFn (inst : Nat) (r : Rec) : Bool := (keySource r / 4096 == 9 || keySource r / 4096 == 10) && keySource r % 4096 == inst

/-- The valid rings of a function. -/
def CfgSet.fnRings (c : CfgSet) (inst : Nat) : List Nat :=
  ((c.validRecs Tab.ring RC.VALID).filter (fun p => recGet p.2 RC.INSTANCE == inst)).map (·.1)

/-- Whether a list delivers to one of some rings. -/
def listTo (rings : List Nat) (l : List Nat) : Bool :=
  l.any (fun w => awOp w == 3 && decide (bitsOf w 0 4 ≥ 9) && rings.contains (bitsOf w 4 14))

/-- The flows of a function: those keyed by it, and those whose lists deliver to its rings. -/
def CfgSet.fnFlows (c : CfgSet) (inst : Nat) : List (Nat × Rec) :=
  let rings := c.fnRings inst
  (c.validRecs Tab.flow FR.VALID).filter (fun p => fromFn inst p.2 || listTo rings (c.list (recGet p.2 FR.ACTION)))

/-- The words of a function's lists. -/
def CfgSet.fnWords (c : CfgSet) (inst : Nat) : List Nat := (c.fnFlows inst).flatMap (fun p => c.list (recGet p.2 FR.ACTION))

/-- The envelopes of a function: those its flows and its rings name. -/
def CfgSet.fnEnvs (c : CfgSet) (inst : Nat) : List Nat :=
  let named := (guarOf (c.fnWords inst)).map (·.1) ++ ((c.envRings.filter (fun r => recGet r.2.2 RC.INSTANCE == inst)).map (·.1))
  c.envs.filter (fun e => named.contains e)

/-- The SAs that a function's lists name. -/
def CfgSet.fnSas (c : CfgSet) (inst : Nat) : List Nat := (((c.fnWords inst).filter (fun w => awOp w == 7)).map (fun w => bitsOf w 0 20)).eraseDups

/-- The groups of a function, and the queues of those groups. -/
def CfgSet.fnGroups (c : CfgSet) (inst : Nat) : List (Nat × Rec) :=
  (c.validRecs Tab.group GR.VALID).filter (fun p => recGet p.2 ⟨16, 12⟩ == inst)
def CfgSet.fnQueues (c : CfgSet) (inst : Nat) : List (Nat × Rec) :=
  let g := (c.fnGroups inst).map (·.1)
  (c.validRecs Tab.queue QR.VALID).filter (fun p => g.contains (recGet p.2 QR.GROUP))

/-- The words of an envelope that a write may stage: the first six (R43). -/
def envWords (e : Nat) : List Nat := (List.range 6).map (fun k => 0xA80000 + 32 * e + 4 * k)

/-- The deletion of a function's flow records and envelopes staged in the shadow set (R314), and its rings with them. -/
def Dev.releaseStage (d : Dev) (inst : Nat) : Dev :=
  let c := d.cfg.shadow
  let d := (c.fnFlows inst).foldl (fun (d : Dev) p => (d.stageRec Tab.flow p.1 none []).1) d
  let d := (c.fnEnvs inst).foldl (fun (d : Dev) e => (envWords e).foldl (fun (d : Dev) a => d.stage a (2 ^ 32 - 1) 0) d) d
  (c.fnRings inst).foldl (fun (d : Dev) r =>
    (d.stageRec Tab.ring r (some 0) (List.replicate 40 0)).1) d

/-- Deletions that waited for a commit's end. -/
def Dev.releaseAll (d : Dev) : Dev :=
  let l := d.hif.releaseDue
  if l.isEmpty then d else l.foldl (fun (d : Dev) i => d.releaseStage i) (d.modHif (fun h => { h with releaseDue := [] }))

end Sys2Proof.Machine
end

