-- ==== Sys2Proof/Machine/Loom.lean ====
section
/-! DEFINITION. The Loom's commands (ch. 2): commits and their checks (R49 to R52), the swap and what every block does at it (R158, R252, R318,
R65, R121, R408), re-admission and demotion (R59 to R61), misses declared by time (R56), and stale shuttles (R160). -/
namespace Sys2Proof.Machine
open Sys2Proof

/-! ## The swap -/

/-- BOUND, DELAY and STATE written into a set: those of the envelopes it admits, and none for the others (R49, R51, Table 2). -/
def CfgSet.admitted (c : CfgSet) (l : List (Nat × Nat × Nat)) : CfgSet :=
  let c := { c with words := c.words.filter (fun (p : Nat × Word) => !(decide (0xA80000 ≤ p.1 ∧ p.1 < 0xB00000) && decide (p.1 % 32 ≥ 24))) }
  l.foldl (fun c (x : Nat × Nat × Nat) => ((c.set (EV.BOUND x.1) x.2.1).set (EV.DELAY x.1) x.2.2).set (EV.STATE x.1) 1) c

/-- The admitted envelopes of a set. -/
def CfgSet.admittedEnvs (c : CfgSet) : List Nat := c.envs.filter (fun e => c.get (EV.STATE e) == 1)

/-- Token buckets at a swap (R152, R154): those of envelopes that stay admitted, and of policers that have been valid, are brought up to now at
the old rate and clamped to the new depth; an envelope newly admitted, and a policer first valid, starts full. -/
def Dev.swapBuckets (d : Dev) (old : CfgSet) : Dev :=
  let new := d.cfg.active
  let now := d.time.cycles
  let kept := fun (b : Bucket) rate depth newDepth => let b := b.refill rate depth now; { b with tokens := min b.tokens (newDepth * 9600) }
  let env := new.admittedEnvs.foldl (fun (m : SMap Bucket) e =>
    let old' := old.get (EV.BURST e)
    mapPut m e (if old.get (EV.STATE e) = 1 then
        kept (mapGetD d.hed.env e (Bucket.full old' now)) (old.get (EV.RATE e)) old' (new.get (EV.BURST e))
      else Bucket.full (new.get (EV.BURST e)) now)) []
  let held := d.hed.pol.map (fun (p : Nat × Bucket) =>
    let r := old.record Tab.policer p.1
    (p.1, kept p.2 (recGet r ⟨0, 20⟩) (recGet r ⟨32, 24⟩) (recGet (new.record Tab.policer p.1) ⟨32, 24⟩)))
  let pol := (new.table Tab.policer).foldl (fun (m : SMap Bucket) p =>
    if (mapGet m p.1).isNone && decide (recGet p.2 ⟨0, 20⟩ ≥ 1 ∧ recGet p.2 ⟨32, 24⟩ ≥ 64)
    then mapPut m p.1 (Bucket.full (recGet p.2 ⟨32, 24⟩) now) else m) held
  d.modHed (fun h => { h with env := env, pol := pol })

/-- LOOM_BOOK_USED and the capacities that follow the set: cipher groups and cores (R45). USED is rounded down. -/
def Dev.showBooks (d : Dev) : Dev :=
  let c := d.cfg.active
  let l := c.admittedEnvs.map c.envInfo
  (List.range 82).foldl (fun (d : Dev) k =>
    let cap := d.bookCap c l k
    let dem := Frac.sum ((l.filter (fun x => x.books.contains k)).map (fun x => x.demand k))
    let used := if dem.n = 0 then 0 else if cap = 0 then 511 else min 511 (256 * dem.n / (dem.d * cap))
    let d := if (16 ≤ k ∧ k < 24) ∨ (25 ≤ k ∧ k < 81) then d.set (F.LOOM_BOOK_CAP_CAP k) cap else d
    d.set (F.LOOM_BOOK_USED_USED k) used) d

/-- Measurement 6 extended by the writes staged into the set, in order, and its VERSION (R408). -/
def Dev.measureCommit (d : Dev) : Dev :=
  d.modBoot (fun b => { b with
    meas := b.meas.set 6 (sha512 (b.meas.getD 6 (List.replicate 64 0) ++ sha512 (b.stagedLog ++ leBytes 1 d.cfg.version)))
    stagedLog := [] })

/-- Whether a domain lies on the path of an admitted GT or GD envelope, and so is held ON (R28). -/
def Dev.domHeld (d : Dev) (kind unit : Nat) : Bool :=
  let c := d.cfg.active
  let book := match kind with
    | 0 => 17 + unit
    | 1 => 16 + c.get (F.CIPH_LANE_CFG_GROUP unit)
    | 4 => 81
    | _ => 82
  (c.envs.filter (fun e => c.get (EV.STATE e) == 1 && decide (c.get (EV.CLASS e) < 2))).any (fun e => (c.envInfo e).books.contains book)
    && !(kind == 0 && decide (unit < 8))

/-- Gated domains that a swap makes part of an admitted path are ON from the swap (R28); what waits for one goes on at its DOMAIN_WAKE_DONE. -/
def Dev.wakeHeld (d : Dev) : Dev :=
  d.modDom (fun x => { x with
    gated := x.gated.filter (fun p => !d.domHeld p.1 p.2)
    waking := x.waking.filter (fun p => !d.domHeld p.1 p.2 || x.held.any (fun h => h.1 == p) || (p == (4, 0) && !x.records.isEmpty)) })

/-- The swap row of Table 7: the slots change in one cycle, and every block takes the new set. -/
def Dev.swapSet (d : Dev) (passed : List (Nat × Nat × Nat)) : Dev :=
  let old := d.cfg.active
  let was := d.cfg.version
  let d := d.modCfg (fun c => { c with shadow := c.shadow.admitted passed })
  let d := ((d.ledgBefore d.cfg.shadow).swapSlots).measureCommit
  let d := (((d.swapBuckets old).ringsSwap old).reedSwap old).portSwap old
  (d.showBooks.wakeHeld.ledgAfter was).noLanes

/-! ## Commits (R51, R52) -/

/-- The fields that a new commit clears, with what it is. -/
def Dev.commitStart (d : Dev) (dry : Bool) : Dev :=
  if d.get F.LOOM_COMMIT_STATUS_STATE = 1 then d.raise F.LOOM_COMMIT_STATUS_GO_IGNORED else
  let d := ((d.set F.LOOM_COMMIT_STATUS_REASON 0).set F.LOOM_COMMIT_STATUS_BOOK 127).set F.LOOM_COMMIT_DETAIL_EXCESS 0
  let d := ((d.set F.LOOM_COMMIT_DETAIL_NO_ENVELOPE 0).set F.LOOM_COMMIT_DETAIL_ENVELOPE 0).set F.LOOM_COMMIT_STATUS_RECHECKED 0
  let d := (d.set F.LOOM_COMMIT_STATUS_DRY (if dry then 1 else 0)).set F.LOOM_COMMIT_STATUS_STATE 1
  d.modLoom (fun l => { l with commit := some { dry := dry, waiting := false, capChanged := false } })

/-- COMMIT_GO (R51). -/
def execCommitGo (s : State) : Host.Outcome State Fault Refusal :=
  if s.dev.responds 0xA00000 then done s (s.dev.commitStart false) else done s s.dev

/-- COMMIT_DRY_RUN (R51). -/
def execCommitDryRun (s : State) : Host.Outcome State Fault Refusal :=
  if s.dev.responds 0xA00000 then done s (s.dev.commitStart true) else done s s.dev

/-- The commit ends DONE. -/
def Dev.commitDone (d : Dev) : Dev := ((d.modLoom (fun l => { l with commit := none })).set F.LOOM_COMMIT_STATUS_STATE 2).releaseAll

/-- The commit ends REJECTED (Table 8). -/
def Dev.commitReject (d : Dev) (reason book : Nat) (env : Option Nat) (excess : Nat) : Dev :=
  let d := (d.modLoom (fun l => { l with commit := none })).set F.LOOM_COMMIT_STATUS_STATE 3
  let d := ((d.set F.LOOM_COMMIT_STATUS_REASON reason).set F.LOOM_COMMIT_STATUS_BOOK book).set F.LOOM_COMMIT_DETAIL_EXCESS excess
  ((d.set F.LOOM_COMMIT_DETAIL_NO_ENVELOPE (if env.isNone then 1 else 0)).set F.LOOM_COMMIT_DETAIL_ENVELOPE (env.getD 0)).releaseAll

/-- A retiring slot that has drained is free again, and its dead records wait to be reclaimed (R157, R159). -/
def Dev.freeSlot (d : Dev) : Dev :=
  if d.cfg.retiringVersion.isNone || !d.drained then d else
  let d := (d.modCfg (fun c => { c with retiringVersion := none })).set F.HED_VERSION_RETIRING_LIVE 0
  if d.cfg.dead.isEmpty && d.cfg.gone.isEmpty then d else d.set F.HED_SHADOW_STATUS_RECLAIMING 1

/-- The commit in hand swaps. -/
def Dev.commitSwap (d : Dev) (passed : List (Nat × Nat × Nat)) : Dev := (d.swapSet passed).commitDone

/-- A SAVE or RESTORE that runs holds the swap of a commit other than its own (R422). -/
def Dev.swapHeld (d : Dev) : Bool :=
  match d.hif.op with
  | some (5, _) => true
  | some (6, _) => d.hif.restore.isNone
  | _ => false

/-- COMMIT_CHECKS_DONE (R49, R51). -/
def execCommitChecksDone (s : State) : Host.Outcome State Fault Refusal :=
  let d := s.dev
  match d.loom.commit with
  | none => done s d
  | some c =>
    if !d.deciding || c.waiting then done s d else
    match d.check d.cfg.shadow false with
    | .reject reason book env excess _ => done s (d.commitReject reason book env excess)
    | .pass l =>
      if c.dry then done s d.commitDone else
      let d := d.freeSlot
      if d.cfg.retiringVersion.isNone && !d.swapHeld then doneH s (d.commitSwap l)
      else done s (d.modLoom (fun x => { x with commit := some { c with waiting := true, capChanged := false, passed := l } }))

/-- A commit that waited goes on once the slot is free: after a recheck when a capacity changed (R51). -/
def Dev.commitGoOn (d : Dev) : Dev :=
  match d.loom.commit with
  | none => d
  | some c =>
    if !c.waiting || d.cfg.retiringVersion.isSome || d.swapHeld then d
    else if !c.capChanged then d.commitSwap c.passed
    else
      let d := d.set F.LOOM_COMMIT_STATUS_RECHECKED 1
      match d.check d.cfg.shadow false with
      | .reject reason book env excess _ => d.commitReject reason book env excess
      | .pass l => d.commitSwap l

/-- RETIRING_SLOT_DRAIN (R51, R159). -/
def execRetiringSlotDrain (s : State) : Host.Outcome State Fault Refusal := doneH s s.dev.freeSlot.commitGoOn

/-- COMMIT_LIMIT_EXPIRE (R51, R52): a slot that drains in the same cycle lets the commit proceed. -/
def execCommitLimitExpire (s : State) : Host.Outcome State Fault Refusal :=
  let d := s.dev
  match d.loom.commit with
  | none => done s d
  | some c =>
    if !d.deciding || !c.waiting then done s d else
    let d := d.freeSlot
    if d.cfg.retiringVersion.isNone && !d.swapHeld then doneH s d.commitGoOn else done s (d.commitReject 8 127 none 0)

/-! ## Shedding (R59 to R61) -/

/-- Demotion of an envelope for a book (R60). -/
def Dev.demote (d : Dev) (e book : Nat) : Dev :=
  let d := d.modCfg (fun c => { c with active := c.active.set (EV.STATE e) 2 })
  let d := { d with shuts := d.shuts.map (fun (p : Nat × Shut) =>
    if p.2.envelope = some e ∧ p.2.guaranteed then (p.1, { p.2 with shed := true }) else p) }
  let d := ((d.set F.LOOM_SHED_LAST_BOOK book).set F.LOOM_SHED_LAST_ENVELOPE e).count K.LOOM_SHED
  (d.health 2 (e + 2 ^ 16 * book) Code.envelopeShed).fault Code.envelopeShed

/-- The candidates of a failed check: those at the book, or, for a delay, those that share a queueing book with the failing envelope. -/
def Dev.shedCandidates (d : Dev) (l : List EnvInfo) (book : Nat) (env : Option Nat) (delay : Bool) : List EnvInfo :=
  if !delay then l.filter (fun x => x.books.contains book) else
  match l.find? (fun x => some x.i == env) with
  | none => []
  | some f =>
    let q := f.books.filter (fun k => (d.queueTerm d.cfg.active l k).isSome)
    l.filter (fun x => x.i == f.i || q.any (fun k => x.books.contains k))

/-- The candidate with the lowest RANK, the highest index on a tie. -/
def lowestRank : List EnvInfo → Option EnvInfo
  | [] => none
  | x :: t => match lowestRank t with
    | none => some x
    | some y => if y.rank < x.rank ∨ (y.rank = x.rank ∧ y.i > x.i) then some y else some x

/-- The loop of R59 over the admitted envelopes of the active set. -/
def Dev.shedLoop (d : Dev) : Nat → Dev
  | 0 => d
  | n + 1 =>
    let c := d.cfg.active
    match d.admitSet c c.admittedEnvs with
    | .pass _ => d
    | .reject _ book env _ delay =>
      match lowestRank (d.shedCandidates (c.admittedEnvs.map c.envInfo) book env delay) with
      | none => d
      | some x => (d.demote x.i book).shedLoop n

/-- SHEDDING_READMIT (R59, R61): the re-admission that a capacity change started ends. -/
def execSheddingReadmit (s : State) : Host.Outcome State Fault Refusal :=
  let d := s.dev
  if d.loom.readmit.isEmpty then done s d else
  let d := (d.shedLoop (d.cfg.active.admittedEnvs.length + 1)).modLoom (fun l => { l with readmit := [] })
  done s d.showBooks

/-! ## Time (R56, R160) -/

/-- T_tail of a shuttle in hundredths of a ns: that of its egress port, or of host transmit. -/
def Dev.tailCent (d : Dev) (s : Shut) : Nat :=
  let c := d.cfgOf s
  let port := if s.get S.DEST_VALID = 1 then s.get S.DEST_PORT else match s.envelope with
    | some e => c.get (EV.DST e)
    | none => s.get S.DEST_PORT
  if port ≥ 9 then 6500 else (c.tailOf port).n

/-- Whether a shuttle has entered its final stage: Reed has released it to the PCS, or the ring engine its first TLP. -/
def Shut.inFinal (s : Shut) : Bool := s.stage == .toLands || s.writtenHost || s.stage == .ended

/-- DEADLINE_TAIL_EXPIRE (R56, R58, R380): Quartz is beyond DEADLINE − T_tail and the shuttle has not entered its final stage. -/
def execDeadlineTailExpire (shuttle : Nat) (s : State) : Host.Outcome State Fault Refusal :=
  let d := s.dev
  match d.shut shuttle with
  | none => done s d
  | some x =>
    let past := (d.onScale d.now d.epoch - d.onScale x.deadline x.dlEpoch) * 100 + (d.tailCent x * 65536 : Nat)
    if !d.deciding || !x.guaranteed || x.inFinal || x.dropReason.isSome || x.flag Fl.DEADLINE_MISS || decide (past ≤ 0) then done s d else
    done s (d.declareMiss shuttle x (missCause (d.creditSoFar x) (d.pathShedding x) (min ((past + 99) / 100).toNat 54613)) 0)

/-- STALE_VERSION_EXPIRE (R160, R380). -/
def execStaleVersionExpire (shuttle : Nat) (s : State) : Host.Outcome State Fault Refusal :=
  let d := s.dev
  match d.shut shuttle with
  | none => done s d
  | some x =>
    let age := d.onScale d.now d.epoch - d.onScale (fieldStamp (x.get S.INGRESS_STAMP)) x.epoch
    if !d.deciding || x.guaranteed || x.inFinal || x.dropReason.isSome || d.cfg.retiringVersion ≠ some (x.get S.VERSION)
      || decide (age ≤ 2000000 * 65536) then done s d
    else
      let d := ((d.count K.HED_STALE_VERSION).raise F.HED_EVENT_STALE).leaveThread shuttle
      doneH s ((d.setStatus shuttle St.staleVersion).discard shuttle 6)

end Sys2Proof.Machine
end

