-- ==== Sys2Proof/Machine/HostReads.lean ====
section
/-! DEFINITION. The read tracker of a host link (R295 to R298): completions and their measurement against H, timeouts, quarantined tags,
and what the data of a read does for the work that asked. -/
namespace Sys2Proof.Machine
open Sys2Proof

/-- The outstanding read of a tag. -/
def Dev.readOf (d : Dev) (tag : Nat) : Option HRead := d.hif.reads.find? (fun r => r.tag == tag)
/-- An outstanding read changed. -/
def Dev.modRead (d : Dev) (tag : Nat) (f : HRead → HRead) : Dev :=
  d.modHif (fun h => { h with reads := h.reads.map (fun (r : HRead) => if r.tag = tag then f r else r) })
/-- A tag freed; reads that wait for one go on (R296). -/
def Dev.freeTag (d : Dev) (tag : Nat) : Dev :=
  (d.modHif (fun h => { h with reads := h.reads.filter (fun r => r.tag != tag) })).resumeOps


/-- One completed request measured (R295): MAX_READ_NS, READ_LATE, and its excess over H in 2^-16 ns. -/
def Dev.measureRead (d : Dev) (r : HRead) : Nat × Dev :=
  let t := d.elapsed r.sent r.epoch
  let h := d.sh (F.LOOM_HOST_CEIL_CEIL_NS r.link) * 65536
  let f := F.HIF_LINK_STATUS_MAX_READ_NS r.link
  let d := d.set f (max (d.get f) (min 65535 (ceilDiv t 65536)))
  if t > h then (t - h, d.count K.HIF_READ_LATE) else (0, d)

/-! ## Transmit data (R328, R41, R71) -/

/-- The contiguous bytes of a transmit frame that are in. -/
def Shut.fetched (s : Shut) : Nat := s.toRead.foldl (fun n p => min n p.1) s.total

/-- Whether a frame still being fetched goes on to its pipeline: a best-effort frame of a cut-through ring with its first window in. -/
def Dev.earlyEntry (d : Dev) (s : Shut) : Bool :=
  s.stage == .fetch && !s.toRead.isEmpty && !s.guaranteed && s.dropReason.isNone && decide (s.frame.length ≥ 128)
    && (match s.ring with
      | some r => d.rcf r RC.CT == 1
      | none => false)

/-- What waited for the end of a transmit frame that was taken before its end. -/
def Dev.txEnd (d : Dev) (i : Nat) : Dev :=
  match d.shut i with
  | none => d
  | some s => if s.ended && !s.endDone then (d.frameEnded i).settlePass i else d

/-- Bytes of a transmit frame arrive for the piece that ends at `stop`; `fin` ends the piece. -/
def Dev.txArrive (d : Dev) (i stop : Nat) (b : List Byte) (fin bad : Bool) : Dev :=
  match d.shut i with
  | none => d
  | some s => match s.toRead.find? (fun p => p.1 + p.2 == stop) with
    | none => d
    | some p =>
      let b := b.take p.2
      let was := s.fetched
      let left := s.toRead.filter (fun q => q != p) ++ (if fin || b.length ≥ p.2 then [] else [(p.1 + b.length, p.2 - b.length)])
      let s := { s with rx := patchBytes s.rx p.1 b, toRead := left }
      let new := sliceBytes s.rx was (s.fetched - was)
      let s := { s with frame := s.frame ++ new,
                        badAt := if bad then s.badAt ++ [(p.1 + s.frame.length - was, b.length)] else s.badAt }
      let d := (d.openCopies i).foldl (fun (d : Dev) j => d.modShut j (fun x => { x with frame := x.frame ++ new, rx := s.rx })) d
      let s := if bad then (s.mark Fl.HOST_POISON).status St.hostPoison else s
      let d := d.putShut i s
      if left.isEmpty then (d.txFetched i).txEnd i
      else if d.earlyEntry s then d.arrive i s .entry else d

/-- The read of a piece of a transmit frame failed (R297). -/
def Dev.txLost (d : Dev) (i stop : Nat) : Dev :=
  match d.shut i with
  | none => d
  | some s => match s.toRead.find? (fun p => p.1 + p.2 == stop) with
    | none => d
    | some p => ((d.leaveThread i).txPieceFailed i p.1 St.hostAbort).txEnd i

/-! ## Walk reads (R301, R302) -/

/-- What a walk gives. -/
inductive WalkRes where
  | page (log2 host : Nat) (rd wr : Bool)
  | fault (reason : Nat)
  /-- the entries given end before a leaf or a fault. -/
  | more
  deriving DecidableEq, Repr

/-- One table walk over the entries read, from level 1; `k` is log2 of the 4 KiB pages that a leaf of the level maps. -/
def walkTable : Nat → List Dword → WalkRes
  | _, [] => .more
  | k, e :: t =>
    let x := e.toNat
    let leaf := x.testBit 3
    let addr := bitsOf x 12 40
    if !x.testBit 0 then .fault 1
    else if bitsOf x 4 8 ≠ 0 ∨ bitsOf x 52 12 ≠ 0 ∨ (leaf ∧ k = 27) ∨ (!leaf ∧ k = 0) ∨ (leaf ∧ addr % 2 ^ k ≠ 0) then .fault 4
    else if leaf then .page k (addr * 4096) (x.testBit 1) (x.testBit 2)
    else walkTable (k - 9) t

/-- What the reads of a walk have found. -/
def Walk.result (w : Walk) : WalkRes := if w.failed ≠ 0 then .fault w.failed else walkTable 27 w.got

/-- The walk of a page. -/
def Dev.walkOf (d : Dev) (inst page : Nat) : Option Walk := d.hif.walks.find? (fun w => w.inst == inst && w.page == page)
/-- A walk changed. -/
def Dev.modWalk (d : Dev) (inst page : Nat) (f : Walk → Walk) : Dev :=
  d.modHif (fun h => { h with walks := h.walks.map (fun (w : Walk) => if w.inst = inst ∧ w.page = page then f w else w) })

/-- A table entry read: the walk goes on to the next level, unless the entry ends it. -/
def Dev.walkEntry (d : Dev) (inst page : Nat) (e : Dword) (poisoned : Bool) : Dev :=
  let d := d.modWalk inst page (fun w => if poisoned then { w with failed := 6 } else { w with got := w.got ++ [e] })
  match d.walkOf inst page with
  | none => d
  | some w => match w.result with
    | .more => d.walkRead inst page (bitsOf e.toNat 12 40 * 4096 + 8 * (page / 2 ^ (27 - 9 * w.got.length) % 512))
    | _ => d

/-! ## What the data of a read does -/

/-- Bytes of one completion given to the work that asked; `fin` says that the request has ended well, `bad` that this data or earlier data
was poisoned. -/
def Dev.readData (d : Dev) (r : HRead) (b : List Byte) (fin poisoned : Bool) : Dev :=
  match r.use with
  | .txData i off => d.txArrive i (off + r.len) b fin poisoned
  | .mover c id off => d.modMovReq c id (fun q =>
      let q := { q with data := patchBytes q.data (off - q.off + r.got.length) b }
      if poisoned then q.fail 3 else q)
  | .cid key =>
    if poisoned then (d.xlateFault r.inst r.iova 6 false).modHif (fun h => { h with faulted := h.faulted ++ [.cid key] })
    else d.modStor (fun x => { x with data := mapPut x.data key (mapGetD x.data key [] ++ b) })
  | .blob off =>
    if poisoned then (d.xlateFault r.inst r.iova 6 false).modHif (fun h => { h with faulted := h.faulted ++ [.blob off] })
    else d.modHif (fun h => { h with blob := patchBytes h.blob (off + r.got.length) b })
  | _ => d

/-- The end of a request: its excess goes to the frame it serves, and a descriptor goes to its ring (R58, R295, R298). -/
def Dev.readDone (d : Dev) (r : HRead) (excess : Nat) (poisoned : Bool) : Dev :=
  match r.use with
  | .txData i _ => d.modShut i (fun s => { s with readExcess := s.readExcess + excess })
  | .desc q pos _ => d.descArrive q pos (r.got ++ List.replicate (32 - r.got.length) 0) (if poisoned then St.hostPoison else 0) excess
  | .walk i p => d.walkEntry i p (BitVec.ofNat 64 (leNat r.got)) poisoned
  | _ => d

/-- A read that ended by UR, CA or its timeout: its work ends with HOST_ABORT (R297); `reason` is what a walk fails with (Table 6). -/
def Dev.readLost (d : Dev) (r : HRead) (reason : Nat) : Dev :=
  match r.use with
  | .walk i p => d.modWalk i p (fun w => { w with failed := reason })
  | .txData i off => d.txLost i (off + r.len)
  | .desc q pos _ => d.descArrive q pos (List.replicate 32 0) St.hostAbort 0
  | .mover c id _ => d.modMovReq c id (fun q => q.fail 2)
  | .cid key => ((d.storWaiting key).foldl (fun (d : Dev) i => d.setStatus i St.hostAbort) d).modHif (fun h => { h with faulted := h.faulted ++ [.cid key] })
  | .blob off => d.modHif (fun h => { h with faulted := h.faulted ++ [.blob off] })
  | _ => d

/-! ## Commands -/

/-- HOST_READ_COMPLETION (R295 to R298): one completion of a tag with its bytes; `last` says that it is the request's last; `status` is 0 SC,
1 UR, 2 CA; `poisoned` that its EP bit is set. -/
def execHostReadCompletion (tag : Nat) (bytes : List Byte) (last : Bool) (status : Nat) (poisoned : Bool) (s : State) :
    Host.Outcome State Fault Refusal :=
  let d := s.dev
  match d.readOf tag with
  | none => done s d
  | some r =>
    let fin := last || status != 0
    if r.quarantined then done s (d.count K.HIF_LATE_CPL)
    else if r.dead then
      let d := if r.killed then d.count K.HIF_DISCARD_CPL else d
      doneH s (if fin then d.freeTag tag else d)
    else if status ≠ 0 then
      let (_, d) := d.measureRead r
      doneH s ((d.readLost r 6).freeTag tag)
    else
      let d := if poisoned then d.count K.HIF_POISON_RX else d
      let b := bytes.take (r.len - r.got.length)
      let d := d.readData r b last poisoned
      let bad := poisoned || r.bad
      let r := { r with got := r.got ++ b, bad := bad }
      if last then
        let (x, d) := d.measureRead r
        doneH s ((d.readDone r (r.excess + x) bad).freeTag tag)
      else doneH s (d.modRead tag (fun _ => r))

/-- COMPLETION_TIMEOUT (R297): the completion timeout value that the host programmed has passed. -/
def execCompletionTimeout (tag : Nat) (s : State) : Host.Outcome State Fault Refusal :=
  let d := s.dev
  match d.readOf tag with
  | none => done s d
  | some r =>
    if r.quarantined then done s d else
    let d := (d.count K.HIF_CPL_TIMEOUTS).raise F.HIF_EVENT_CPL_TIMEOUT
    let d := if r.dead then d else d.readLost r 9
    doneH s (d.modRead tag (fun r => { r with quarantined := true, dead := true }))

/-- TAG_QUARANTINE_END (R297): twice the timeout value has passed since the timeout. -/
def execTagQuarantineEnd (tag : Nat) (s : State) : Host.Outcome State Fault Refusal :=
  let d := s.dev
  match d.readOf tag with
  | none => done s d
  | some r => if r.quarantined then doneH s (d.freeTag tag) else done s d

/-- MAX_READ_READ (R295): HIF_LINK_n_STATUS is read, which clears MAX_READ_NS. -/
def execMaxReadRead (link : Nat) (s : State) : Host.Outcome State Fault Refusal :=
  let d := s.dev
  let a := 0x100000 + 4 * link
  if link ≥ 2 ∨ !d.responds a then done s d else
  done s ((d.emit (.readData (d.word a).toNat)).set (F.HIF_LINK_STATUS_MAX_READ_NS link) 0)

end Sys2Proof.Machine
end

