-- ==== Sys2Proof/Machine/Selvedge.lean ====
section
/-! DEFINITION. Selvedge (R300 to R304, R316): the translations that walks and ATS answers bring, pin ranges, invalidation, and the contexts. -/
namespace Sys2Proof.Machine
open Sys2Proof

/-! ## Contexts (Table 11) -/

/-- The pin ranges of a context record: first page and pages. -/
def pinRanges (r : Rec) : List (Nat × Nat) :=
  ([0, 1, 2] : List Nat).map (fun i => (recGet r ⟨128 + 128 * i, 64⟩ / 4096, recGet r ⟨192 + 128 * i, 32⟩))
/-- Pages that the pin ranges of a record ask for. -/
def pinCount (r : Rec) : Nat := (pinRanges r).foldl (fun n p => n + p.2) 0
/-- Whether a run of pages overlaps a pin range of an instance; MODE OFF pins nothing. -/
def Dev.isPinned (d : Dev) (inst page n : Nat) : Bool :=
  d.xlMode inst != 0 && (pinRanges (d.selvedge inst)).any (fun p => decide (page < p.1 + p.2 ∧ p.1 < page + n))

/-! ## Walks (Tables 5 and 6) -/

/-- An ATS answer: address, permissions (bit 0 read, bit 1 write) and log2 of its pages; no permission is ATS_DENY. -/
def atsAnswer (e : List Dword) : WalkRes :=
  match e with
  | a :: p :: k :: _ =>
    if p.toNat % 4 = 0 then .fault 7
    else .page k.toNat (a.toNat / (4096 * 2 ^ k.toNat) * (4096 * 2 ^ k.toNat)) (p.toNat.testBit 0) (p.toNat.testBit 1)
  | _ => .more

/-- The least recently used unpinned translation evicted while more than 32,768 are cached (R303). -/
def Dev.evictXl (d : Dev) : Dev :=
  if d.hif.xl.length ≤ 32768 then d else
  match (d.hif.xl.filter (fun x => !x.pinned)).foldl (fun (b : Option Xl) x => match b with
      | none => some x
      | some y => if x.used < y.used then some x else b) none with
  | none => d
  | some x => d.modHif (fun h => { h with xl := h.xl.erase x })

/-- A translation enters the cache; walks for pages that it covers have their answer too. -/
def Dev.fillXl (d : Dev) (inst page log2 host : Nat) (rd wr : Bool) : Dev :=
  let x : Xl := { inst := inst, page := page / 2 ^ log2 * 2 ^ log2, log2 := log2, host := host, rd := rd, wr := wr,
                  pinned := d.isPinned inst (page / 2 ^ log2 * 2 ^ log2) (2 ^ log2), used := d.hif.useCount }
  (d.modHif (fun h => { h with
    useCount := h.useCount + 1
    xl := h.xl.filter (fun y => !(y.inst == inst && (x.covers inst y.page))) ++ [x]
    walks := h.walks.filter (fun w => !(x.covers inst w.page && w.inst == inst)) })).evictXl

/-- A guaranteed walk's whole duration is host excess of the accesses and shuttles that waited for it (R303). -/
def Dev.walkExcess (d : Dev) (w : Walk) : Dev :=
  if !w.guar then d else
  let t := d.elapsed w.start w.epoch
  let d := d.modHif (fun h => { h with waiting := h.waiting.map (fun (o : HostOp) =>
    if o.inst = w.inst ∧ o.guar ∧ o.iova / 4096 = w.page then { o with excess := o.excess + t } else o) })
  { d with shuts := d.shuts.map (fun (p : Nat × Shut) =>
      if p.2.stage = .toHost ∧ p.2.guaranteed ∧ !p.2.writtenHost ∧ p.2.get S.INSTANCE = w.inst ∧ p.2.rxAddr / 4096 ≤ w.page
        ∧ w.page ≤ (p.2.rxAddr + p.2.frame.length) / 4096 then (p.1, { p.2 with readExcess := p.2.readExcess + t }) else p) }

/-- What a walk's end lets go on: accesses, STOR work, and the ends of frames. -/
def Dev.walked (d : Dev) : Dev := (d.resumeOps.faultsN 4).storRetry

/-- XLATE_WALK_DONE (R301 to R303): the walk of a page ends with what its reads found; a table walk whose reads have not all come goes on.
In ATS mode `entries` is the answer of the translation agent, and `status` is 0, or 6 for one that completed UR or CA. A walk that an
invalidation met is done again (R304). -/
def execXlateWalkDone (inst page : Nat) (entries : List Dword) (status : Nat) (s : State) : Host.Outcome State Fault Refusal :=
  let d := s.dev
  match d.walkOf inst page with
  | none => done s d
  | some w =>
    let res := if !w.ats then w.result else if status = 6 then .fault 6 else atsAnswer entries
    let gone := fun (d : Dev) => d.modHif (fun h => { h with walks := h.walks.filter (fun x => x != w) })
    if res = .more then done s d
    else if d.hif.rewalk.contains (inst, page) then
      doneH s ((d.modHif (fun h => { h with rewalk := h.rewalk.filter (fun x => x != (inst, page)) })).walkAgain inst page)
    else match res with
      | .page k host rd wr => doneH s (((gone d).walkExcess w).fillXl inst page k host rd wr).walked
      | .fault reason =>
        let d := (gone d).walkExcess w
        let d := if w.asked then d.modHif (fun h => { h with xlFault := h.xlFault ++ [(inst, page, reason)] }) else d
        doneH s d.walked
      | .more => done s d

/-! ## Invalidation (R304) -/

/-- Translations that overlap a run of pages of an instance removed; pinned ones and walks in progress are walked again. The tags of
the outstanding reads that used them are answered. -/
def Dev.invalidate (d : Dev) (inst page n : Nat) : List Nat × Dev :=
  let hits := fun (p k : Nat) => decide (n = 0) || decide (p < page + n ∧ page < p + k)
  let gone := d.hif.xl.filter (fun x => x.inst == inst && hits x.page (2 ^ x.log2))
  let tags := (d.hif.reads.filter (fun r => r.inst == inst && !r.quarantined && r.use.walks.isNone && d.xlMode inst != 0
    && gone.any (fun x => x.covers inst (r.iova / 4096)))).map (·.tag)
  let again := (d.hif.walks.filter (fun w => w.inst == inst && hits w.page 1)).map (fun w => (inst, w.page))
  let d := d.modHif (fun h => { h with
    xl := h.xl.filter (fun x => !(x.inst == inst && hits x.page (2 ^ x.log2)))
    xlFault := h.xlFault.filter (fun f => !(f.1 == inst && hits f.2.1 1))
    rewalk := h.rewalk ++ again.filter (fun x => !h.rewalk.contains x) })
  (tags, (gone.filter (fun x => x.pinned)).foldl (fun (d : Dev) x => d.beginWalk inst x.page true) d)

/-- XLATE_INVALIDATE (R304): a write of HIF_XLATE_INV with GO; PAGES 0 means the whole instance. -/
def execXlateInvalidate (instance_ pages : Nat) (s : State) : Host.Outcome State Fault Refusal :=
  let d := s.dev
  if !d.responds 0x100060 || d.flag F.HIF_XLATE_INV_BUSY then done s d else
  let (tags, d) := d.invalidate (instance_ % 4096) (d.get F.HIF_XLATE_INV_ADDR_IOVA / 4096) (pages % 2 ^ 17)
  let d := (d.set F.HIF_XLATE_INV_BUSY 1).set F.HIF_XLATE_INV_DONE 0
  doneH s (d.modHif (fun h => { h with invTags := tags }))

/-- ATS_INVALIDATE_REQUEST (R301, R304): the host invalidates a run of pages of an ATS instance; whole instance for 0 pages. -/
def execAtsInvalidateRequest (inst page pages : Nat) (s : State) : Host.Outcome State Fault Refusal :=
  let d := s.dev
  if d.xlMode inst ≠ 2 || !(d.fn inst).atsEnable then done s d else
  let (tags, d) := d.invalidate inst page pages
  doneH s (d.modHif (fun h => { h with atsInv := h.atsInv ++ [(inst, tags)] }))

/-- Whether every read among some tags has ended or has had its tag quarantined. -/
def Dev.tagsEnded (d : Dev) (l : List Nat) : Bool := l.all (fun t => !(d.hif.reads.any (fun r => r.tag == t && !r.quarantined)))

/-- XLATE_INV_DONE (R304): every request that used a removed translation has left, and every such read has ended: DONE is set, and ATS
invalidations get their Invalidate Completions. -/
def execXlateInvDone (s : State) : Host.Outcome State Fault Refusal :=
  let d := s.dev
  let d := if d.flag F.HIF_XLATE_INV_BUSY && d.tagsEnded d.hif.invTags then
      ((d.set F.HIF_XLATE_INV_BUSY 0).set F.HIF_XLATE_INV_DONE 1).modHif (fun h => { h with invTags := [] })
    else d
  let fin := d.hif.atsInv.filter (fun p => d.tagsEnded p.2)
  let d := d.modHif (fun h => { h with atsInv := h.atsInv.filter (fun p => !fin.contains p) })
  done s (fin.foldl (fun (d : Dev) p => d.emit (.ats 1 p.1 0)) d)

/-! ## Contexts through HIF_IND_CTRL (R316) -/

/-- SELVEDGE_READ. -/
def execSelvedgeRead (table index : Nat) (s : State) : Host.Outcome State Fault Refusal :=
  done s (s.dev.indirect 0x100200 0 table 0 index (fun d =>
    if table ≠ 0 ∨ index ≥ 4096 then (d, IndResult.range.code) else (d.showRec 0x100240 64 (d.selvedge index), IndResult.ok.code)))

/-- A context stored: its bits, with reserved ones 0. -/
def selvedgeRec (r : Rec) : Rec :=
  let x := recSet (recSet 0 ⟨0, 2⟩ (recGet r ⟨0, 2⟩)) ⟨64, 64⟩ (recGet r ⟨64, 64⟩)
  ([0, 1, 2] : List Nat).foldl (fun z i =>
    recSet (recSet z ⟨128 + 128 * i, 64⟩ (recGet r ⟨128 + 128 * i, 64⟩)) ⟨192 + 128 * i, 32⟩ (recGet r ⟨192 + 128 * i, 32⟩)) x

/-- A context takes effect when its write completes (R300): no translation made under the old one is used again, a walk in progress
starts again, and those of the new pin ranges are loaded (DEDUCED, assumption log 82). -/
def Dev.putSelvedge (d : Dev) (inst : Nat) (r : Rec) : Dev :=
  let d := d.modHif (fun h => { h with selvedge := mapPut h.selvedge inst r })
  let again := (d.hif.walks.filter (fun w => w.inst == inst && d.xlMode inst != 0)).map (fun w => (inst, w.page))
  let d := d.modHif (fun h => { h with
    xl := h.xl.filter (fun x => x.inst != inst)
    xlFault := h.xlFault.filter (fun f => f.1 != inst)
    rewalk := h.rewalk ++ again.filter (fun x => !h.rewalk.contains x) })
  if d.xlMode inst = 0 ∨ (d.xlMode inst = 1 ∧ d.xlRoot inst = 0) then d else
  (pinRanges r).foldl (fun (d : Dev) p => (List.range p.2).foldl (fun (d : Dev) k => d.beginWalk inst (p.1 + k) true) d) d

/-- SELVEDGE_WRITE (R300, R303): RANGE for MODE 3, and for OFF of any instance but 0; NO_SPACE when more than 4,096 pages would be
pinned. -/
def execSelvedgeWrite (table index : Nat) (s : State) : Host.Outcome State Fault Refusal :=
  doneH s (s.dev.indirect 0x100200 1 table 0 index (fun d =>
    let r := selvedgeRec (d.winRec 0x100240 64)
    let mode := recGet r ⟨0, 2⟩
    let others := (d.hif.selvedge.filter (fun p => p.1 != index)).foldl (fun n p => n + pinCount p.2) 0
    if table ≠ 0 ∨ index ≥ 4096 ∨ mode = 3 ∨ (mode = 0 ∧ index ≠ 0) then (d, IndResult.range.code)
    else if others + pinCount r > 4096 then (d, IndResult.noSpace.code)
    else (d.putSelvedge index r, IndResult.ok.code)))

end Sys2Proof.Machine
end

