-- ==== Sys2Proof/Machine/Functions.lean ====
section
/-! DEFINITION. Host links and functions (R46, R288 to R291, R305 to R310, R420): training, configuration writes, function resets, Bus
Master Enable, virtual functions, and the manager's operations that stop and start a function. -/
namespace Sys2Proof.Machine
open Sys2Proof

/-! ## Host links -/

/-- Usable capacity of a host link per direction in Mb/s (ch. 2, Table 4). -/
def hostCapacity (speed width : Nat) : Nat :=
  let x8 := ([0, 14000, 28000, 60480, 120800, 242000, 484000] : List Nat).getD speed 0
  let x16 := ([0, 28000, 56000, 120800, 242000, 484000, 968000] : List Nat).getD speed 0
  if width = 16 then x16 else x8 * width / 8

/-- The two books of a host link given a capacity; a change starts re-admission (R46, R59). -/
def Dev.hostBooks (d : Dev) (link cap : Nat) : Dev :=
  ([12 + 2 * link, 13 + 2 * link] : List Nat).foldl (fun (d : Dev) k =>
    if d.get (F.LOOM_BOOK_CAP_CAP k) = cap then d else (d.set (F.LOOM_BOOK_CAP_CAP k) cap).bookFell k) d

/-- A link's trained state shown, and LINK_CHANGE raised when it changed. -/
def Dev.showLink (d : Dev) (link up speed width : Nat) : Dev :=
  let a := 0x100000 + 4 * link
  let was := (d.word a).toNat % 2 ^ 16
  let d := ((d.set (F.HIF_LINK_STATUS_UP link) up).set (F.HIF_LINK_STATUS_SPEED link) speed).set (F.HIF_LINK_STATUS_WIDTH link) width
  let d := d.set (F.HIF_LINK_STATUS_FLIT link) (if speed = 6 then 1 else 0)
  if (d.word a).toNat % 2 ^ 16 = was then d else d.raise F.HIF_EVENT_LINK_CHANGE

/-- Whether the module has a link: link 1 exists in SPLIT mode only (R288). -/
def Dev.hasLink (d : Dev) (link : Nat) : Bool := link == 0 || (link == 1 && d.hif.split)

/-- PCIE_LINK_UP (R46, R288, R305): a link trains or retrains; its books are rewritten, and its PFs become ACTIVE; the golden
image starts PF_0 alone (R401). -/
def execPcieLinkUp (link speed width : Nat) (s : State) : Host.Outcome State Fault Refusal :=
  let d := s.dev
  let widths : List Nat := if d.hif.split then [1, 2, 4, 8] else [1, 2, 4, 8, 16]
  if !d.sys.configReady || !d.hasLink link || speed = 0 || speed > 6 || !widths.contains width then done s d else
  let d := (d.showLink link 1 speed width).hostBooks link (hostCapacity speed width)
  doneH s (([0, 1, 2, 3] : List Nat).foldl (fun (d : Dev) k =>
    if d.linkOf k = link ∧ (d.fn k).state = FnSt.disabled ∧ (k = 0 ∨ d.boot.running ≠ 2) then d.putFn k { d.fn k with state := FnSt.active } else d) d).resumeOps

/-- PCIE_LINK_DOWN (R46, R420). -/
def execPcieLinkDown (link : Nat) (s : State) : Host.Outcome State Fault Refusal :=
  let d := s.dev
  if !d.hasLink link || !d.flag (F.HIF_LINK_STATUS_UP link) then done s d else
  let d := (d.showLink link 0 0 0).hostBooks link 0
  let l := (d.shuts.filter (fun (p : Nat × Shut) => p.2.get S.DEST_VALID == 1 && p.2.get S.DEST_PORT == 9 + link && p.2.dropReason.isNone)).map (·.1)
  doneH s (l.foldl (fun (d : Dev) i => (d.leaveThread i).fnDrop i) d)

/-! ## Work of a function -/

/-- The host-bound shuttles of a function not yet released. -/
def Dev.hostBound (d : Dev) (inst : Nat) : List Nat :=
  (d.shuts.filter (fun (p : Nat × Shut) => p.2.get S.DEST_VALID == 1 && p.2.get S.DEST_PORT ≥ 9 && p.2.dropReason.isNone
    && d.rcf (p.2.get S.DEST_QUEUE) RC.INSTANCE == inst)).map (·.1)

/-- The transmit shuttles of a function whose completion is still to come. -/
def Dev.txWork (d : Dev) (inst : Nat) : List Nat :=
  (d.shuts.filter (fun (p : Nat × Shut) => match p.2.ring with
    | some r => d.rcf r RC.INSTANCE == inst && !p.2.cplDone && p.2.dropReason.isNone
    | none => false)).map (·.1)

/-- Whether a function has work in flight (R305). Receive buffers that wait for frames are copies that draining drops, and no work (DEDUCED,
assumption log 46). -/
def Dev.busyFn (d : Dev) (inst : Nat) : Bool :=
  d.hif.reads.any (fun r => r.inst == inst && !r.quarantined && r.use.walks.isNone)
    || d.hif.waiting.any (fun o => o.inst == inst && o.use.walks.isNone) || !(d.hostBound inst).isEmpty
    || (d.ringsOf inst).any (fun r => (d.ring r).inWork != 0 || !(d.ring r).pushes.isEmpty
      || ((d.ring r).state == RS.active && d.rcf r RC.KIND == 0 && !(d.ring r).cached.isEmpty))

/-- The copies of descriptors that a function's rings hold dropped, to be read again. -/
def Dev.dropCopies (d : Dev) (inst : Nat) : Dev :=
  (d.ringsOf inst).foldl (fun (d : Dev) r => (d.voidDescReads r).modRing r (fun x => { x with cached := [], fetch := x.take, stopped := false })) d

/-- What the loss of a host access by its function's reset or Bus Master Enable means for the work that asked (R307, R309). -/
def Dev.useKilled (d : Dev) (u : Use) (len : Nat) : Dev :=
  match u with
  | .txData i off => d.txLost i (off + len)
  | .mover c id _ => d.modMovReq c id (fun q => q.fail 9)
  | .cid key => d.modHif (fun h => { h with faulted := h.faulted ++ [.cid key] })
  | .blob off => d.modHif (fun h => { h with faulted := h.faulted ++ [.blob off] })
  | .walk i p => d.walkAgain i p
  | _ => d

/-- No request of a function follows: its waiting accesses are dropped, and completions of its reads will be discarded. A walk that
read with its requester ID begins again once it may issue requests (DESIGN CHOICE, assumption log 47). -/
def Dev.killReads (d : Dev) (inst : Nat) : Dev :=
  let mine := d.hif.reads.filter (fun r => r.inst == inst && !r.dead)
  let wait := d.hif.waiting.filter (fun o => o.inst == inst)
  let d := d.modHif (fun h => { h with
    reads := h.reads.map (fun (r : HRead) => if r.inst = inst then { r with dead := true, killed := true } else r)
    waiting := h.waiting.filter (fun o => o.inst != inst) })
  let d := mine.foldl (fun (d : Dev) r => d.useKilled r.use (r.len - r.got.length)) d
  wait.foldl (fun (d : Dev) o => d.useKilled o.use (if o.len = 0 then o.bytes.length else o.len)) d

/-! ## Function resets (R31, R305, R307) -/

/-- The end of the manager operation that runs, with its result (Table 10); a commit that it held goes on (R422). -/
def Dev.fnResult (d : Dev) (code : Nat) : Dev :=
  let held := d.swapHeld
  let d := (((d.set F.HIF_FN_STATUS_BUSY 0).set F.HIF_FN_STATUS_RESULT code).raise F.HIF_EVENT_FN_DONE).modHif (fun h =>
    { h with op := none, blob := [], restore := none })
  if held then d.freeSlot.commitGoOn else d

/-- An operation on a function that leaves its state under it ends with STATE. -/
def Dev.cancelOp (d : Dev) (inst : Nat) : Dev :=
  match d.hif.op with
  | some (_, k) => if k = inst then d.fnResult 1 else d
  | none => d

/-- A reset of a function begins: no request of it follows, its transmit work loses its completions, and its host-bound shuttles are
discarded; `flr` says that the host asked, `teardown` that the function goes. -/
def Dev.beginReset (d : Dev) (inst : Nat) (flr teardown : Bool) : Dev :=
  let d := if flr || teardown then d.cancelOp inst else d
  let d := d.putFn inst { d.fn inst with state := FnSt.resetting, flr := flr, teardown := teardown }
  let d := ((d.stopExports inst 1).storStop inst).killReads inst
  let l := d.txWork inst
  let d := l.foldl (fun (d : Dev) i => d.modShut i (fun s => { s with cplDone := true })) d
  (d.hostBound inst).foldl (fun (d : Dev) i => (d.leaveThread i).fnDrop i) d

/-- Whether the reads of a function have ended or are quarantined. -/
def Dev.readsEnded (d : Dev) (inst : Nat) : Bool := !d.hif.reads.any (fun r => r.inst == inst && !r.quarantined)

/-- A reset of a function is complete (R31): its rings, MSI-X state, mailbox pair and cached translations; an FLR leaves its configuration
space at its reset values, and the DOE context of PF_0 or PF_2 (R410). -/
def Dev.finishReset (d : Dev) (inst : Nat) : Dev :=
  let f := d.fn inst
  let d := if inst = 0 && f.flr then d.mboxAllReset else d.mboxFnReset inst
  let d := d.modHif (fun h => { h with
    xl := h.xl.filter (fun x => x.inst != inst)
    xlFault := h.xlFault.filter (fun x => x.1 != inst)
    pending := mapErase h.pending inst
    msix := h.msix.filter (fun p => p.1 / 2048 != inst) })
  let d := if f.flr && (inst == 0 || inst == 2) then d.modBoot (fun b => { b with spdm := mapErase b.spdm inst }) else d
  let d := if f.teardown then d.putFn inst {}
    else if f.flr then d.putFn inst { state := FnSt.active }
    else d.putFn inst { f with state := FnSt.active }
  d.ringsFnReset inst

/-- The instance tags of the VFs of PF_k that NumVFs covers. -/
def Dev.vfsOf (d : Dev) (k : Nat) : List Nat :=
  if k = 0 ∨ k > 3 then [] else (List.range (d.hif.numVfs.getD (k - 1) 0)).map (fun j => d.vfTag k (j + 1))

/-- Whether a function answers configuration requests now, or with Request Retry Status (R308, R402). -/
def Dev.configRetry (d : Dev) (inst : Nat) : Bool := !d.sys.configReady || (d.fn inst).state == FnSt.resetting

/-- INITIATE_FLR (R307): an FLR of a PF takes its VFs with it, whose VF Enable holds its reset value afterwards. -/
def execInitiateFlr (inst : Nat) (s : State) : Host.Outcome State Fault Refusal :=
  let d := s.dev
  if d.configRetry inst then done s (d.emit .retryStatus)
  else if (d.fn inst).state = FnSt.disabled then done s (d.emit (.unsupported inst))
  else
    let vfs := (if inst < 4 then d.vfsOf inst else []).filter (fun v => (d.fn v).state != FnSt.disabled)
    doneH s (vfs.foldl (fun (d : Dev) v => d.beginReset v true true) (d.beginReset inst true false))

/-- The functions that an FLR resets. -/
def Dev.flrSet (d : Dev) (inst : Nat) : List Nat :=
  inst :: (if inst < 4 then d.vfsOf inst else []).filter (fun v => (d.fn v).state == FnSt.resetting && (d.fn v).teardown)

/-- FLR_QUARANTINE (R307): 9 ms after the write, every read still outstanding is quarantined. -/
def execFlrQuarantine (inst : Nat) (s : State) : Host.Outcome State Fault Refusal :=
  let d := s.dev
  if (d.fn inst).state ≠ FnSt.resetting then done s d else
  let l := d.flrSet inst
  doneH s (d.modHif (fun h => { h with
    reads := h.reads.map (fun (r : HRead) => if l.contains r.inst then { r with quarantined := true } else r) }))

/-- FLR_COMPLETE (R307). -/
def execFlrComplete (inst : Nat) (s : State) : Host.Outcome State Fault Refusal :=
  let d := s.dev
  let f := d.fn inst
  let l := d.flrSet inst
  if f.state ≠ FnSt.resetting || !f.flr || f.teardown || l.any (fun i => !d.readsEnded i) then done s d else
  let d := l.foldl (fun (d : Dev) i => d.finishReset i) d
  let d := if 1 ≤ inst ∧ inst ≤ 3 then d.modHif (fun h => { h with numVfs := h.numVfs.set (inst - 1) 0, vfEnable := h.vfEnable.set (inst - 1) false }) else d
  let link := d.linkOf inst
  doneH s (if inst = 2 * link then d.modHif (fun h => { h with links := h.links.set link {} }) else d)

/-! ## Configuration writes -/

/-- CONFIG_REQUEST (R290, R308): `field` 0 reads (data that the spec does not describe: a free value; DESIGN CHOICE, assumption log 45), 1 writes
Max_Read_Request_Size in bytes, 2 ATS Enable, 3 and 4 the 14-bit and 10-bit Tag Requester Enables of the function's link, 5 NumVFs while VF
Enable is clear, 6 Enable Relaxed Ordering, 7 Max_Payload_Size in bytes. -/
def execConfigRequest (inst field value : Nat) (s : State) : Host.Outcome State Fault Refusal :=
  let d := s.dev
  let f := d.fn inst
  let link := d.linkOf inst
  let x := d.hif.links.getD link {}
  if d.configRetry inst then done s (d.emit .retryStatus)
  else if f.state = FnSt.disabled then done s (d.emit (.unsupported inst))
  else match field with
    | 0 => let (v, d) := d.fresh; done s (d.emit (.readData (v.toNat % 2 ^ 32)))
    | 1 => done s (if ([128, 256, 512, 1024, 2048, 4096] : List Nat).contains value then d.putFn inst { f with maxRead := value } else d)
    | 2 => done s (d.putFn inst { f with atsEnable := value % 2 == 1 })
    | 3 => doneH s (d.modHif (fun h => { h with links := h.links.set link { x with tagExt14 := value % 2 == 1 } })).resumeOps
    | 4 => doneH s (d.modHif (fun h => { h with links := h.links.set link { x with tagExt10 := value % 2 == 1 } })).resumeOps
    | 5 =>
      if 1 ≤ inst ∧ inst ≤ 3 ∧ d.hif.vfEnable.getD (inst - 1) false = false ∧ value ≤ d.hif.totalVfs.getD (inst - 1) 0 then
        done s (d.modHif (fun h => { h with numVfs := h.numVfs.set (inst - 1) value }))
      else done s d
    | 6 => done s (d.putFn inst { f with relaxed := value % 2 == 1 })
    | 7 => done s (if ([128, 256, 512] : List Nat).contains value then d.putFn inst { f with maxPayload := value } else d)
    | _ => done s d

/-- BUS_MASTER_CLEAR (R309). -/
def execBusMasterClear (inst : Nat) (s : State) : Host.Outcome State Fault Refusal :=
  let d := s.dev
  if d.configRetry inst then done s (d.emit .retryStatus)
  else if (d.fn inst).state = FnSt.disabled then done s (d.emit (.unsupported inst))
  else if !(d.fn inst).bme then done s d
  else
    let d := d.putFn inst { d.fn inst with bme := false }
    let d := ((d.stopExports inst 2).storStop inst).killReads inst
    doneH s ((d.ringsOf inst).foldl (fun (d : Dev) r => d.ringErrorOne r 3) d)

/-- BUS_MASTER_SET (R309): pending vectors are sent; the rings stay in ERROR. -/
def execBusMasterSet (inst : Nat) (s : State) : Host.Outcome State Fault Refusal :=
  let d := s.dev
  if d.configRetry inst then done s (d.emit .retryStatus)
  else if (d.fn inst).state = FnSt.disabled then done s (d.emit (.unsupported inst))
  else if (d.fn inst).bme then done s d
  else
    let d := (d.putFn inst { d.fn inst with bme := true }).resumeOps
    if !d.mayRequest inst then doneH s d else
    let l := mapGetD d.hif.pending inst []
    let d := d.modHif (fun h => { h with pending := mapErase h.pending inst })
    doneH s (l.eraseDups.foldl (fun (d : Dev) v => d.emit (.msix inst v)) d)

/-- VF_ENABLE_SET (R305, R308): VF Enable is written 1 on PF_k with NumVFs. -/
def execVfEnableSet (pf numVfs : Nat) (s : State) : Host.Outcome State Fault Refusal :=
  let d := s.dev
  if pf = 0 ∨ pf > 3 then done s d
  else if d.configRetry pf || (d.vfsOf pf).any (fun v => (d.fn v).state == FnSt.resetting) then done s (d.emit .retryStatus)
  else if numVfs > d.hif.totalVfs.getD (pf - 1) 0 ∨ (d.fn pf).state = FnSt.disabled ∨ numVfs < (d.vfsOf pf).length ∧ d.hif.vfEnable.getD (pf - 1) false
  then done s d
  else
    let d := d.modHif (fun h => { h with numVfs := h.numVfs.set (pf - 1) numVfs, vfEnable := h.vfEnable.set (pf - 1) true })
    done s ((d.vfsOf pf).foldl (fun (d : Dev) v =>
      if (d.fn v).state = FnSt.disabled then d.putFn v { state := FnSt.active } else d) d)

/-- VF_ENABLE_CLEAR (R305, R306): VF Enable cleared (`numVfs` 0) or NumVFs lowered. -/
def execVfEnableClear (pf numVfs : Nat) (s : State) : Host.Outcome State Fault Refusal :=
  let d := s.dev
  if pf = 0 ∨ pf > 3 then done s d
  else if d.configRetry pf then done s (d.emit .retryStatus)
  else
    let gone := (d.vfsOf pf).drop numVfs
    let held := gone.filter (fun v => (d.fn v).state != FnSt.quiesced && (d.fn v).state != FnSt.disabled)
    if !held.isEmpty then done s ((d.modHif (fun h => { h with refused := h.refused ++ held.take 1 })).raise F.HIF_EVENT_REMOVE_REFUSED)
    else
      let d := gone.foldl (fun (d : Dev) v => if (d.fn v).state = FnSt.quiesced then d.beginReset v false true else d) d
      let left := gone.any (fun v => (d.fn v).state == FnSt.resetting)
      doneH s (if gone.isEmpty then d else
        d.modHif (fun h => { h with
          numVfs := if left then h.numVfs else h.numVfs.set (pf - 1) numVfs
          vfEnable := if numVfs = 0 then h.vfEnable.set (pf - 1) false else h.vfEnable }))

/-! ## Manager operations (R305, R306, R312) -/

/-- A GO of HIF_FN_CTRL: ignored while BUSY; STATE in a state that Table 7 does not name; else BUSY is set and `act` runs. -/
def Dev.fnOp (d : Dev) (op inst : Nat) (states : List Nat) (act : Dev → Dev) : Dev :=
  if !d.responds 0x100040 || d.flag F.HIF_FN_STATUS_BUSY || inst ≥ 4096 then d else
  let d := d.set F.HIF_FN_STATUS_INSTANCE inst
  if !states.contains (d.fn inst).state then d.fnResult 1
  else act ((d.modHif (fun h => { h with op := some (op, inst), restore := none, blob := [] })).set F.HIF_FN_STATUS_BUSY 1)

/-- A function's state changed. -/
def Dev.fnState (d : Dev) (inst st : Nat) : Dev := d.putFn inst { d.fn inst with state := st }

/-- The drain of a function starts: no new descriptor fetch or push acceptance, and its ledger exports stop (R133). -/
def Dev.drainStart (d : Dev) (inst st : Nat) : Dev :=
  (d.putFn inst { d.fn inst with state := st, drained := false }).stopExports inst 5

/-- QUIESCE. -/
def execQuiesce (inst : Nat) (s : State) : Host.Outcome State Fault Refusal :=
  doneH s (s.dev.fnOp 1 inst [FnSt.active] (fun d => d.drainStart inst FnSt.quiescing))

/-- FREEZE. -/
def execFreeze (inst : Nat) (s : State) : Host.Outcome State Fault Refusal :=
  doneH s (s.dev.fnOp 4 inst [FnSt.active] (fun d => d.drainStart inst FnSt.freezing))

/-- RESUME. -/
def execFnResume (inst : Nat) (s : State) : Host.Outcome State Fault Refusal :=
  doneH s (s.dev.fnOp 2 inst [FnSt.quiesced, FnSt.frozen, FnSt.saved] (fun d => (d.fnState inst FnSt.active).fnResult 0))

/-- RESET. -/
def execFnReset (inst : Nat) (s : State) : Host.Outcome State Fault Refusal :=
  doneH s (s.dev.fnOp 3 inst [FnSt.quiesced] (fun d => d.beginReset inst false false))

/-- The drain has ended: QUIESCED or FROZEN. -/
def Dev.drainEnd (d : Dev) (inst : Nat) (drained : Bool) : Dev :=
  let st := if (d.fn inst).state = FnSt.quiescing then FnSt.quiesced else FnSt.frozen
  let d := (d.dropCopies inst).putFn inst { d.fn inst with state := st, drained := drained }
  match d.hif.op with
  | some (_, k) => if k = inst then d.fnResult 0 else d
  | none => d

/-- Whether a function drains. -/
def Dev.draining (d : Dev) (inst : Nat) : Bool := (d.fn inst).state == FnSt.quiescing || (d.fn inst).state == FnSt.freezing

/-- FN_DRAINED (R305). -/
def execFnDrained (inst : Nat) (s : State) : Host.Outcome State Fault Refusal :=
  if s.dev.draining inst && !s.dev.busyFn inst then doneH s (s.dev.drainEnd inst true) else done s s.dev

/-- The remaining AS and BE work of a function discarded, and counted in DRAIN_DISCARD (R305): its shuttles, pushes, and fetched transmit
descriptors. What is taken and pushes complete with HOST_ABORT, since R335 and R332 ask for a completion, and descriptors are read again after
a RESUME (DESIGN CHOICE, assumption log 46). -/
def Dev.drainDiscard (d : Dev) (inst : Nat) : Dev :=
  let l := (d.txWork inst ++ d.hostBound inst).eraseDups.filter (fun i => match d.shut i with
    | some s => !s.guaranteed && !s.writtenHost
    | none => false)
  let d := l.foldl (fun (d : Dev) i => (((d.leaveThread i).setStatus i St.hostAbort).discard i 5).count K.HIF_DRAIN_DISCARD) d
  (d.ringsOf inst).foldl (fun (d : Dev) r =>
    if d.rcf r RC.KIND ≠ 0 || (d.ringEnvelope r).isSome then d else
    if d.rcf r RC.FEED = 0 then d.count K.HIF_DRAIN_DISCARD (d.ring r).cached.length else
    let l := (d.ring r).pushes
    l.foldl (fun (d : Dev) p => (d.pushDiscard r p.index St.hostAbort).count K.HIF_DRAIN_DISCARD) (d.modRing r (fun x => { x with pushes := [] }))) d

/-- A drain limit elapses; a drain that ends in the same cycle completes normally (R34). -/
def Dev.drainLimit (d : Dev) (inst : Nat) : Dev :=
  if d.busyFn inst then (d.drainDiscard inst).drainEnd inst false else d.drainEnd inst true

/-- QUIESCE_LIMIT_EXPIRE (R305). -/
def execQuiesceLimitExpire (inst : Nat) (s : State) : Host.Outcome State Fault Refusal :=
  if (s.dev.fn inst).state = FnSt.quiescing then doneH s (s.dev.drainLimit inst) else done s s.dev

/-- FREEZE_LIMIT_EXPIRE (R310). -/
def execFreezeLimitExpire (inst : Nat) (s : State) : Host.Outcome State Fault Refusal :=
  if (s.dev.fn inst).state = FnSt.freezing then doneH s (s.dev.drainLimit inst) else done s s.dev

/-- FN_RESET_DONE (R305): a function reset or a VF teardown is complete. -/
def execFnResetDone (inst : Nat) (s : State) : Host.Outcome State Fault Refusal :=
  let d := s.dev
  let f := d.fn inst
  if f.state ≠ FnSt.resetting || f.flr || !d.readsEnded inst then done s d else
  let d := d.finishReset inst
  let d := if f.teardown then
      let k := d.pfOf inst
      let n := inst - d.vfTag k 1
      d.modHif (fun h => { h with numVfs := h.numVfs.set (k - 1) (min (h.numVfs.getD (k - 1) 0) n) })
    else d
  doneH s (match d.hif.op with
    | some (_, k) => if k = inst then d.fnResult 0 else d
    | none => d)

end Sys2Proof.Machine
end

