-- ==== Sys2Proof/Machine/Peer.lean ====
section
/-! DEFINITION. The peer window (R293, R294, R298, R299), dirty logging's epochs (R315), and the migration key (R311). -/
namespace Sys2Proof.Machine
open Sys2Proof

/-! ## Peer window -/

/-- Whether `n` bytes at an offset of BAR4 lie in the window in force; with a size of 0 there is none. -/
def Dev.inWindow (d : Dev) (offset n : Nat) : Bool := decide (offset + n ≤ d.hif.peerSize)

/-- Whether BAR4 answers: after dataplane ready, and memory requests of PF_0 reach it. -/
def Dev.peerOn (d : Dev) : Bool := d.sys.ready && (d.fn 0).state != FnSt.disabled && (d.fn 0).state != FnSt.resetting

/-- PEER_WINDOW_READ (R293, R299, R369): DDR5 data, its poison shown by EP, or UR. `err` is what the read finds in the DDR5 word at `addr`. -/
def execPeerWindowRead (offset length err addr row : Nat) (s : State) : Host.Outcome State Fault Refusal :=
  let d := s.dev
  if !d.peerOn || !d.inWindow offset length || !d.hif.peerRd then done s ((d.count K.HIF_PEER_UR).emit (.unsupported offset)) else
  let a := d.hif.peerBase + offset
  let d := d.dramFound err addr row
  let bad := d.poisoned a length
  let d := if bad then d.count K.HIF_POISON_TX else d
  done s (d.emit (.peerData (memRead (ddrView s.ddr d.dram.wq) a length) bad))

/-- PEER_WINDOW_WRITE (R293, R298): a posted write lands in DDR5; a poisoned one is written and marks the words it covers. -/
def execPeerWindowWrite (offset : Nat) (bytes : List Byte) (poisoned : Bool) (s : State) : Host.Outcome State Fault Refusal :=
  let d := s.dev
  let n := bytes.length
  let d := if poisoned then d.count K.HIF_POISON_RX else d
  if !d.peerOn || !d.inWindow offset n || !d.hif.peerWr then done s ((d.count K.HIF_PEER_UR).emit (.unsupported offset)) else
  let a := d.hif.peerBase + offset
  let d := (d.clearPoison a n).ddrWrite a bytes
  if !poisoned || n = 0 then done s d else
  let l := (List.range ((a + n - 1) / 8 + 1 - a / 8)).map (fun k => a / 8 + k)
  done s (d.modDram (fun r => { r with poison := r.poison ++ l.filter (fun w => !r.poison.contains w) }))

/-- PEER_COMMIT (R294): the staged window is applied, refused with RANGE, or ignored while DRAINED = 0. -/
def execPeerCommit (s : State) : Host.Outcome State Fault Refusal :=
  let d := s.dev
  if !d.responds 0x100020 then done s d
  else if !d.flag F.HIF_PEER_CTRL_DRAINED then done s (d.raise F.HIF_PEER_CTRL_COMMIT_IGNORED)
  else
    let k := d.get F.HIF_PEER_CFG_SIZE_LOG2
    let base := d.get F.HIF_PEER_BASE_BASE
    let area := d.hif.peerAreaBase
    if k < 20 ∨ k > 34 ∨ base % 2 ^ k ≠ 0 ∨ base < area ∨ area + d.hif.peerAreaSize < base + 2 ^ k then done s (d.set F.HIF_PEER_CTRL_RANGE 1)
    else
      let rd := d.flag F.HIF_PEER_CFG_RD_EN
      let wr := d.flag F.HIF_PEER_CFG_WR_EN
      let d := ((d.set F.HIF_PEER_CTRL_RANGE 0).set F.HIF_PEER_CTRL_GEN (d.get F.HIF_PEER_CTRL_GEN + 1)).set F.HIF_PEER_CTRL_DRAINED 0
      done s (d.modHif (fun h => { h with peerBase := base, peerSize := 2 ^ k, peerRd := rd, peerWr := wr }))

/-- PEER_DRAINED (R294): every TLP decoded against the old window has been served. -/
def execPeerDrained (s : State) : Host.Outcome State Fault Refusal := done s (s.dev.set F.HIF_PEER_CTRL_DRAINED 1)

/-! ## Dirty logging (R315) -/

/-- The touched words of an epoch written to its bitmap, each once, as 64-bit posted writes. -/
def Dev.writeBitmap (d : Dev) (slot base : Nat) (l : SMap Nat) : Dev :=
  l.foldl (fun (d : Dev) p => d.dmaWrite 0 (base + 8 * p.1) (leBytes 8 p.2) (.dirty slot)) d

/-- DIRTY_SWAP: SWAP of HIF_DIRTY_k_CFG ends the epoch. OVERFLOW, which the register gives for the present epoch, begins at 0 in the next (DESIGN
CHOICE, assumption log 84). -/
def execDirtySwap (slot : Nat) (s : State) : Host.Outcome State Fault Refusal :=
  let d := s.dev
  if slot ≥ 4 ∨ !d.responds 0x100100 then done s d else
  let x := mapGetD d.hif.dirty slot {}
  let cur := d.get (F.HIF_DIRTY_CFG_ACTIVE_BMP slot)
  let base := if cur = 0 then d.get (F.HIF_DIRTY_BMP0_ADDR slot) else d.get (F.HIF_DIRTY_BMP1_ADDR slot)
  let d := d.modHif (fun h => { h with dirty := mapPut h.dirty slot { words := [], old := x.words, swapping := true } })
  let d := ((d.set (F.HIF_DIRTY_CFG_ACTIVE_BMP slot) (1 - cur)).set (F.HIF_DIRTY_CFG_SWAP_DONE slot) 0).set (F.HIF_DIRTY_CFG_OVERFLOW slot) 0
  doneH s (d.writeBitmap slot base x.words)

/-- SWAP_DONE: every write of the old epoch has left the lands. -/
def execSwapDone (slot : Nat) (s : State) : Host.Outcome State Fault Refusal :=
  let d := s.dev
  let x := mapGetD d.hif.dirty slot {}
  if slot ≥ 4 || !x.swapping || d.hif.waiting.any (fun o => o.use == .dirty slot) then done s d else
  let d := d.modHif (fun h => { h with dirty := mapPut h.dirty slot { x with old := [], swapping := false }, faulted := h.faulted.filter (fun u => u != .dirty slot) })
  done s (d.set (F.HIF_DIRTY_CFG_SWAP_DONE slot) 1)

/-! ## Migration key -/

/-- MIG_KEY_WRITE (R311, R316): a word of the write-only key window. -/
def execMigKeyWrite (offset : Nat) (value : Word) (s : State) : Host.Outcome State Fault Refusal :=
  let d := s.dev
  if !d.responds (0x100400 + offset) || offset ≥ 32 then done s d else
  done s (d.modHif (fun h => { h with migKey := patchBytes h.migKey (offset / 4 * 4) (leBytes 4 value.toNat), migLoaded := true }))

end Sys2Proof.Machine
end

