-- ==== Sys2Proof/Machine/Migration.lean ====
section
/-! DEFINITION. Migration (R311 to R314, R421, R422): the blob and its sections, SAVE, RESTORE and RELEASE. Where Table 9 gives a section's
content and size and no byte layout, the layout is the model's (DESIGN CHOICE, assumption log 36). -/
namespace Sys2Proof.Machine
open Sys2Proof

/-! ## The blob (Table 9) -/

/-- Bytes padded or cut to a length. -/
def padTo (n : Nat) (b : List Byte) : List Byte := (b ++ List.replicate n 0).take n
/-- Pieces of `n` bytes. -/
def chunks (n : Nat) (b : List Byte) : List (List Byte) := (List.range (b.length / n)).map (fun i => sliceBytes b (n * i) n)
/-- A section with its 16-byte header: type, an auxiliary count, and length; an empty one is left out. -/
def blobSection (t aux : Nat) (b : List Byte) : List Byte :=
  if b.isEmpty then [] else leBytes 4 t ++ leBytes 4 aux ++ leBytes 8 b.length ++ b

/-- The replay window below the highest accepted value: bit i is value highest − 1 − i. -/
def Sa.windowBits (a : Sa) : List Byte :=
  leBytes 128 (a.marked.foldl (fun n v => if v < a.counter ∧ a.counter - v ≤ 1024 then n ||| 2 ^ (a.counter - 1 - v) else n) 0)
/-- The marked values of a window. -/
def markedOf (counter : Nat) (w : List Byte) : List Nat :=
  counter :: ((List.range 1024).filter (fun i => decide (i + 1 ≤ counter) && (leNat w).testBit i)).map (fun i => counter - 1 - i)

/-- The bytes of an SA's key that its type and algorithm use; those above are 0 in a blob. XTS has two keys of 256 bits. -/
def keyLen (r : Rec) : Nat := if recGet r SAR.TYPE = SaT.xts then 64 else 32

/-- An envelope's bucket brought up to now. -/
def Dev.envTokens (d : Dev) (e : Nat) : Nat :=
  let a := d.cfg.active
  ((mapGetD d.hed.env e (Bucket.full (a.get (EV.BURST e)) d.time.cycles)).refill (a.get (EV.RATE e)) (a.get (EV.BURST e)) d.time.cycles).tokens

/-- A shaper's count as 64 bits. -/
def shCount (m : SMap Shaper) (k : Nat) : List Byte := leBytes 8 (unsignedOf 64 (((mapGet m k).map (·.count)).getD 0))

/-- The sections of a function in the order of Table 9, from the active set, with how many they are. -/
def Dev.blobSections (d : Dev) (inst : Nat) : List (List Byte) :=
  let c := d.cfg.active
  let ring := (c.fnRings inst).flatMap (fun r => leBytes 56 (d.ringShow r (c.record Tab.ring r)).toNat ++ leBytes 8 r)
  let flow := (c.fnFlows inst).flatMap (fun p =>
    leBytes 64 p.2.toNat ++ leBytes 4 (recGet p.2 FR.ACTION) ++ leBytes 4 (if p.1 ≥ 131072 then 1 else 0) ++ leBytes 8 p.1)
  let sa := (c.fnSas inst).flatMap (fun k => match mapGet d.ciph.sas k with
    | none => []
    | some a => leBytes 60 { a with sync := a.sync && a.tls.isEmpty }.show.toNat ++ leBytes 4 k
      ++ padTo 192 (aesWrap d.hif.migKey (a.key.take (keyLen a.record)) ++ (if a.f SAR.TYPE = SaT.xts then [] else
        List.replicate (56 - keyLen a.record) 0 ++ a.windowBits)))
  let env := (c.fnEnvs inst).flatMap (fun e =>
    (List.range 8).flatMap (fun k => leBytes 4 (wordAt shReset c.words (0xA80000 + 32 * e + 4 * k)).toNat) ++ leBytes 8 (d.envTokens e) ++ leBytes 8 e)
  let queues := c.fnQueues inst
  let shaper := queues.flatMap (fun p => leBytes 16 p.2.toNat ++ leBytes 16 p.1 ++ shCount d.reed.shMin p.1 ++ shCount d.reed.shMax p.1)
    ++ (c.fnGroups inst).flatMap (fun p => leBytes 8 p.2.toNat ++ leBytes 8 p.1)
  let sel := d.selvedge inst
  let pins := (([0, 1, 2] : List Nat).filter (fun i => recGet sel ⟨192 + 128 * i, 32⟩ != 0)).flatMap (fun i =>
    leBytes 8 (recGet sel ⟨128 + 128 * i, 64⟩) ++ leBytes 8 (recGet sel ⟨192 + 128 * i, 32⟩))
  let stor := (d.stor.ctxs.filter (fun p => recGet p.2.record QC.VALID == 1 && recGet p.2.record QC.INSTANCE == inst)).flatMap (fun p =>
    leBytes 32 p.2.show.toNat)
  let msix := (d.hif.msix.filter (fun p => p.1 / 2048 == inst)).flatMap (fun p => p.2.take 14 ++ leBytes 2 (p.1 % 2048))
  [blobSection 1 0 ring, blobSection 2 0 flow, blobSection 3 0 sa, blobSection 4 0 env, blobSection 5 queues.length shaper,
   blobSection 6 0 (leBytes 64 sel.toNat ++ pins), blobSection 7 0 stor, blobSection 8 0 msix].filter (fun s => !s.isEmpty)

/-- The header with its tag still 0: FORMAT 1, stepping, instance tag, function kind, section count, body length, nonce. -/
def blobHeader (stepping inst kind count len : Nat) (nonce : List Byte) : List Byte :=
  padTo 128 (leBytes 2 1 ++ leBytes 2 stepping ++ leBytes 2 inst ++ leBytes 1 kind ++ leBytes 1 count ++ leBytes 8 len ++ padTo 12 nonce)

/-- Function kind: 0 a PF, 1 a VF. -/
def fnKind (inst : Nat) : Nat := if inst < 4 then 0 else 1

/-- The whole blob (R311): the body ends with the digest, and is encrypted with the header as associated data. -/
def Dev.blobOf (d : Dev) (inst : Nat) (nonce : List Byte) : List Byte :=
  let l := d.blobSections inst
  let secs := l.flatMap id
  let head := blobHeader ((d.word 0).toNat % 256) inst (fnKind inst) l.length (secs.length + 64) nonce
  let ct := gcmCrypt d.hif.migKey nonce (secs ++ sha512 (head ++ secs))
  patchBytes head 32 (gcmTag d.hif.migKey nonce head ct) ++ ct

/-- The sections of a body: type, auxiliary count and bytes; none when a type is unknown or a length does not fit. -/
def readSections : Nat → List Byte → Option (List (Nat × Nat × List Byte))
  | 0, b => if b.isEmpty then some [] else none
  | n + 1, b =>
    if b.isEmpty then some [] else
    let t := leNat (b.take 4)
    let len := leNat (sliceBytes b 8 8)
    if b.length < 16 ∨ t = 0 ∨ t > 8 ∨ b.length < 16 + len then none
    else (readSections n (b.drop (16 + len))).map (fun l => (t, leNat (sliceBytes b 4 4), (b.drop 16).take len) :: l)

/-- A blob opened (R313, Table 10): its sections, or the result that refuses it. -/
def openBlob (key : List Byte) (inst : Nat) (b : List Byte) : Except Nat (List (Nat × Nat × List Byte)) :=
  let nonce := sliceBytes b 16 12
  let head := patchBytes (b.take 128) 32 (List.replicate 16 0)
  let n := leNat (sliceBytes b 8 8)
  let ct := (b.drop 128).take n
  if b.length < 128 then .error 4
  else if leNat (b.take 2) > 1 then .error 5
  else if n < 64 ∨ ct.length < n ∨ gcmTag key nonce head ct ≠ sliceBytes b 32 16 then .error 4
  else
    let plain := gcmCrypt key nonce ct
    let secs := plain.take (n - 64)
    if sha512 (head ++ secs) ≠ plain.drop (n - 64) then .error 4
    else match readSections 9 secs with
      | none => .error 5
      | some l => if leNat (sliceBytes b 6 1) ≠ fnKind inst then .error 5 else .ok l

/-! ## SAVE -/

/-- Bytes of `Use.blob` accesses still under way. -/
def Dev.blobBusy (d : Dev) : Bool :=
  let mine := fun (u : Use) => match u with
    | .blob _ => true
    | _ => false
  d.hif.waiting.any (fun o => mine o.use) || d.hif.reads.any (fun r => mine r.use && !r.quarantined && !r.dead)

/-- Whether a blob access failed; the failures are taken. -/
def Dev.blobFault (d : Dev) : Bool × Dev :=
  let mine := fun (u : Use) => match u with
    | .blob _ => true
    | _ => false
  (d.hif.faulted.any mine, d.modHif (fun h => { h with faulted := h.faulted.filter (fun u => !mine u) }))

/-- A SAVE takes its nonce and writes its blob. -/
def Dev.saveGo (d : Dev) (inst : Nat) : Dev :=
  let (v, d) := d.fresh
  let (w, d) := d.fresh
  let d := d.drbgUsed 1
  let b := d.blobOf inst (leBytes 8 v.toNat ++ leBytes 4 w.toNat)
  let d := (d.fnState inst FnSt.saving).modHif (fun h => { h with blob := b, nonceDue := false })
  d.dmaWrite 0 (d.get F.HIF_FN_ADDR_ADDR) b (.blob 0)

/-- A SAVE that waits for its nonce goes on once the DRBG gives it (R220). -/
def Dev.saveResume (d : Dev) : Dev :=
  match d.hif.op with
  | some (5, inst) => if d.hif.nonceDue && (d.fn inst).state == FnSt.saving then d.saveGo inst else d
  | _ => d

/-- ENTROPY_RETEST (R220): the start-up test repeated after a failure. -/
def execEntropyRetest (pass : Bool) (s : State) : Host.Outcome State Fault Refusal :=
  let d := s.dev
  if !pass || d.drbgReady || !d.sys.ready then done s d else doneH s d.drbgSeed.saveResume

/-- SAVE (R311, R422): BUSY while a commit is PENDING, NO_KEY without the key, NO_SPACE for a buffer shorter than the blob; while the DRBG is stopped it
waits for its nonce (R220). -/
def execSave (inst : Nat) (s : State) : Host.Outcome State Fault Refusal :=
  doneH s (s.dev.fnOp 5 inst [FnSt.frozen] (fun d =>
    if d.get F.LOOM_COMMIT_STATUS_STATE = 1 then d.fnResult 2
    else if !d.hif.migLoaded then d.fnResult 8
    else if (d.blobOf inst (List.replicate 12 0)).length > d.get F.HIF_FN_LEN_LEN then d.fnResult 6
    else if !d.mayRequest 0 then d.fnResult 7
    else if d.drbgReady then d.saveGo inst
    else (d.fnState inst FnSt.saving).modHif (fun h => { h with nonceDue := true })))

/-- An outbound SA of a saved function is retired on the source (R204, R311). -/
def Dev.retireOut (d : Dev) (k : Nat) : Dev :=
  match mapGet d.ciph.sas k with
  | none => d
  | some a =>
    if a.state ≠ SaS.active ∨ a.f SAR.DIR = 0 then d
    else ((d.putSa k { a with state := SaS.retired }).ciphLog k 2).freeSa k

/-- SAVE_DONE (R311): the blob is written, or its buffer faulted. -/
def execSaveDone (inst : Nat) (s : State) : Host.Outcome State Fault Refusal :=
  let d := s.dev
  if d.hif.op ≠ some (5, inst) || (d.fn inst).state ≠ FnSt.saving || d.hif.nonceDue || d.blobBusy then done s d else
  let (bad, d) := d.blobFault
  if bad then doneH s ((d.fnState inst FnSt.frozen).fnResult 7)
  else
    let n := d.hif.blob.length
    let d := (d.cfg.active.fnSas inst).foldl (fun (d : Dev) k => d.retireOut k) d
    doneH s (((d.fnState inst FnSt.saved).set F.HIF_FN_LEN_LEN n).fnResult 0)

/-! ## RESTORE -/

/-- The first free indices from `i` below `hi`: `n` of them, if there are as many. -/
def freeIdx (used : Nat → Bool) (hi : Nat) : Nat → Nat → Nat → List Nat
  | 0, _, _ => []
  | f + 1, i, n =>
    if i ≥ hi ∨ n = 0 then [] else if used i then freeIdx used hi f (i + 1) n else i :: freeIdx used hi f (i + 1) (n - 1)

/-- Indices of a blob's objects on the source, paired with those allocated. -/
abbrev Remap := List (Nat × Nat)
/-- An index renamed; one outside the blob keeps its value (R313). -/
def Remap.of (m : Remap) (k : Nat) : Nat := (((m : List (Nat × Nat)).find? (fun p => p.1 == k)).map (·.2)).getD k

/-- What a RESTORE allocated for the objects of its blob. -/
structure Remaps where
  rings : Remap
  flows : Remap
  sas : Remap
  envs : Remap
  queues : Remap
  groups : Remap
  lists : Remap
  link : Nat
  inst : Nat
  deriving DecidableEq, Repr

/-- A port code: a host link becomes the target function's. -/
def Remaps.port (m : Remaps) (p : Nat) : Nat := if p ≥ 9 then 9 + m.link else p

/-- One word of a restored list, its references rewritten. -/
def Remaps.word (m : Remaps) (w : Nat) : Nat :=
  match awOp w with
  | 1 => bitsSet w 0 14 (m.envs.of (bitsOf w 0 14))
  | 3 =>
    let q := bitsOf w 4 14
    if bitsOf w 0 4 ≤ 8 then bitsSet w 4 14 (m.queues.of q)
    else if (m.rings : List (Nat × Nat)).any (fun p => p.1 == q) then bitsSet (bitsSet w 0 4 (9 + m.link)) 4 14 (m.rings.of q) else w
  | 7 => bitsSet w 0 20 (m.sas.of (bitsOf w 0 20))
  | _ => w

/-- A restored flow record. -/
def Remaps.flow (m : Remaps) (r : Rec) : Rec :=
  let r := if keySource r / 4096 = 9 ∨ keySource r / 4096 = 10 then setSource r ((9 + m.link) * 4096 + m.inst) else r
  recSet r FR.ACTION (m.lists.of (recGet r FR.ACTION))

/-- A restored ring context: its configuration fields. -/
def Remaps.ring (m : Remaps) (r : Rec) : Rec :=
  let r := BitVec.ofNat 2048 (r.toNat % 2 ^ 320)
  recSet (recSet (recSet r RC.INSTANCE m.inst) RC.CPL_RING (m.rings.of (recGet r RC.CPL_RING))) RC.ENVELOPE (m.envs.of (recGet r RC.ENVELOPE))

/-- A restored queue, and a restored group. -/
def Remaps.queue (m : Remaps) (r : Rec) : Rec := recSet r QR.GROUP (m.groups.of (recGet r QR.GROUP))
def Remaps.group (m : Remaps) (r : Rec) : Rec := recSet (recSet r ⟨16, 12⟩ m.inst) GR.PORT (m.port (recGet r GR.PORT))

/-- The six words of a restored envelope: SRC and DST name the target's host link. -/
def Remaps.envWord (m : Remaps) (k w : Nat) : Nat :=
  if k = 3 then bitsSet (bitsSet w 16 4 (m.port (bitsOf w 16 4))) 24 4 (m.port (bitsOf w 24 4)) else w

/-- The parts of a blob's sections. -/
structure Parts where
  rings : List (List Byte)
  flows : List (List Byte)
  sas : List (List Byte)
  envs : List (List Byte)
  queues : List (List Byte)
  groups : List (List Byte)
  selvedge : Rec
  stor : List (List Byte)
  msix : List (List Byte)
  deriving DecidableEq, Repr

/-- The parts found in a blob's sections. -/
def partsOf (l : List (Nat × Nat × List Byte)) : Parts :=
  let sec := fun t => ((l.find? (fun x => x.1 == t)).map (fun x => x.2.2)).getD []
  let q := ((l.find? (fun x => x.1 == 5)).map (fun x => x.2.1)).getD 0
  { rings := chunks 64 (sec 1), flows := chunks 80 (sec 2), sas := chunks 256 (sec 3), envs := chunks 48 (sec 4),
    queues := chunks 48 ((sec 5).take (48 * q)), groups := chunks 16 ((sec 5).drop (48 * q)),
    selvedge := BitVec.ofNat 2048 (leNat ((sec 6).take 64)), stor := chunks 32 (sec 7), msix := chunks 16 (sec 8) }

/-- A number from bytes of a part. -/
def partN (b : List Byte) (off n : Nat) : Nat := leNat (sliceBytes b off n)
/-- A record from the first bytes of a part. -/
def partRec (b : List Byte) (n : Nat) : Rec := BitVec.ofNat 2048 (leNat (b.take n))

/-- The last word of the action store that either set uses. -/
def Dev.lastAction (d : Dev) : Nat := ((d.cfg.shadow.table Tab.action) ++ (d.cfg.active.table Tab.action)).foldl (fun n p => max n p.1) 0

/-- Distinct lists of a blob, with the words each takes: they are read from the target's shadow set at their own indices (R313). -/
def Dev.blobLists (d : Dev) (p : Parts) : List (Nat × Nat) :=
  ((p.flows.map (fun b => partN b 64 4)).eraseDups).map (fun a => (a, (d.cfg.shadow.list a).length))

/-- New places for lists, one after another. -/
def placeLists : Nat → List (Nat × Nat) → Remap
  | _, [] => []
  | k, (a, n) :: t => (a, k) :: placeLists (k + n) t

/-- Indices for every object of a blob on the target (R313); none when something is short (NO_SPACE). -/
def Dev.allocate (d : Dev) (inst : Nat) (p : Parts) : Option Remaps :=
  let sh := d.cfg.shadow
  let ac := d.cfg.active
  let both := fun tab (b : Bits) (i : Nat) => recGet (sh.record tab i) b == 1 || recGet (ac.record tab i) b == 1
  let mine := ((sh.table Tab.ring).filter (fun r => recGet r.2 RC.INSTANCE == inst)).map (·.1)
  let n := sh.recs.length + ac.recs.length
  let envUsed := fun e => sh.envs.contains e || ac.envs.contains e
  let hot := p.flows.filter (fun b => partN b 68 4 == 0)
  let cold := p.flows.filter (fun b => partN b 68 4 != 0)
  let net := p.queues.filter (fun b => partN b 16 4 < 16384)
  let fHot := freeIdx (both Tab.flow FR.VALID) 131072 (n + hot.length + 1) 1 hot.length
  let fCold := freeIdx (both Tab.flow FR.VALID) 4194304 (n + cold.length + 1) 131072 cold.length
  let sas := freeIdx (fun k => (mapGet d.ciph.sas k).isSome) 1048576 (d.ciph.sas.length + p.sas.length + 1) 0 p.sas.length
  let envs := freeIdx envUsed 16384 (sh.words.length + ac.words.length + p.envs.length + 1) 0 p.envs.length
  let qs := freeIdx (both Tab.queue QR.VALID) 16384 (n + net.length + 1) 0 net.length
  let gs := freeIdx (both Tab.group GR.VALID) 8192 (n + p.groups.length + 1) 0 p.groups.length
  let lists := d.blobLists p
  let words := lists.foldl (fun n a => n + a.2) 0
  let others := (d.hif.selvedge.filter (fun x => x.1 != inst)).foldl (fun n x => n + pinCount x.2) 0
  if mine.length < p.rings.length ∨ fHot.length < hot.length ∨ fCold.length < cold.length ∨ sas.length < p.sas.length
    ∨ envs.length < p.envs.length ∨ qs.length < net.length ∨ gs.length < p.groups.length ∨ d.lastAction + 1 + words > 1048576
    ∨ others + pinCount p.selvedge > 4096 ∨ d.stor.ctxs.length + p.stor.length > 16384 then none
  else
    let rings : Remap := (p.rings.map (fun b => partN b 56 4)).zip mine
    some { rings := rings, flows := ((hot.map (fun b => partN b 72 4)).zip fHot) ++ ((cold.map (fun b => partN b 72 4)).zip fCold),
           sas := (p.sas.map (fun b => partN b 60 4)).zip sas, envs := (p.envs.map (fun b => partN b 40 4)).zip envs,
           queues := ((net.map (fun b => partN b 16 4)).zip qs)
             ++ (p.queues.filter (fun b => partN b 16 4 ≥ 16384)).map (fun b => (partN b 16 4, 16384 + rings.of (partN b 16 4 - 16384))),
           groups := (p.groups.map (fun b => partN b 8 4)).zip gs, lists := placeLists (d.lastAction + 1) lists,
           link := d.linkOf inst, inst := inst }

/-- Records staged in turn: table, index, record and bytes; none when a copy reserve is full. -/
def Dev.stageAll (d : Dev) (l : List (Nat × Nat × Rec × Nat)) : Option Dev :=
  l.foldl (fun o x => o.bind (fun (d : Dev) =>
    match d.stageRec x.1 x.2.1 (some x.2.2.1) (leBytes x.2.2.2 x.2.2.1.toNat) with
    | (d, true) => some d
    | _ => none)) (some d)

/-- The records a blob stages. -/
def Dev.blobRecords (d : Dev) (p : Parts) (m : Remaps) : List (Nat × Nat × Rec × Nat) :=
  (d.blobLists p).flatMap (fun a => (List.range a.2).map (fun k =>
      (Tab.action, m.lists.of a.1 + k, BitVec.ofNat 2048 (m.word (d.cfg.shadow.action (a.1 + k))), 8)))
  ++ p.flows.map (fun b => (Tab.flow, m.flows.of (partN b 72 4), m.flow (partRec b 64), 64))
  ++ p.groups.map (fun b => (Tab.group, m.groups.of (partN b 8 4), m.group (partRec b 8), 8))
  ++ p.queues.map (fun b => (Tab.queue, m.queues.of (partN b 16 4), m.queue (partRec b 16), 16))
  ++ p.rings.map (fun b => (Tab.ring, m.rings.of (partN b 56 4), m.ring (partRec b 56), 40))

/-- A restored SA, ACTIVE at its saved counter, its key unwrapped with the migration key (R311, R313). -/
def restoredSa (migKey b : List Byte) : Sa :=
  let r := partRec b 60
  let counter := recGet r SAR.COUNTER
  let r2 := saWritable r
  let r2 := if recGet r SAR.TYPE = SaT.espTunnel then recSet r2 ⟨64, 14⟩ (recGet r ⟨64, 14⟩) else r2
  { record := r2, key := padTo 64 (aesUnwrap migKey (sliceBytes b 64 (8 + keyLen r))), state := SaS.active, exhausted := false, sync := recGet r SAR.SYNC == 1, counter := counter,
    marked := if recGet r SAR.REPLAY_EN = 1 then markedOf counter (b.drop 128) else [], tcpSeq := recGet r SAR.TCP_SEQ,
    cached := recGet r SAR.PIN == 1 }

/-- A blob staged on the target, with what its install will need. -/
def Dev.stageBlob (d : Dev) (inst : Nat) (p : Parts) : Option (Dev × Restore) :=
  (d.allocate inst p).bind (fun m => (d.stageAll (d.blobRecords p m)).map (fun (d : Dev) =>
    let d := p.envs.foldl (fun (d : Dev) b => (List.range 6).foldl (fun (d : Dev) k =>
      d.stage (0xA80000 + 32 * m.envs.of (partN b 40 4) + 4 * k) (2 ^ 32 - 1) (m.envWord k (partN b (4 * k) 4))) d) d
    let d := p.sas.foldl (fun (d : Dev) b =>
      let pin := recGet (partRec b 60) SAR.PIN
      ((d.putSa (m.sas.of (partN b 60 4)) (restoredSa d.hif.migKey b)).storeSa (m.sas.of (partN b 60 4)) (restoredSa d.hif.migKey b)).set F.CIPH_CACHE_STATUS_PINNED (d.get F.CIPH_CACHE_STATUS_PINNED + pin)) d
    (d, { sas := p.sas.map (fun b => m.sas.of (partN b 60 4)), envs := p.envs.map (fun b => (m.envs.of (partN b 40 4), partN b 32 8)),
          queues := p.queues.map (fun b => (m.queues.of (partN b 16 4), partN b 32 8, partN b 40 8)),
          rings := p.rings.map (fun b => (m.rings.of (partN b 56 4), partRec b 56)), selvedge := selvedgeRec p.selvedge,
          stor := p.stor.map (fun b => (m.flows.of (recGet (partRec b 32) QC.FLOW_ID), partRec b 32)),
          msix := p.msix.map (fun b => (partN b 14 2, b.take 14 ++ [0, 0])) })))

/-- Live indices of a restored ring (Table 9): the saved ones, with the copies it held to be read again. -/
def Dev.ringRestore (d : Dev) (x : Nat × Rec) : Dev :=
  let pos := fun (b : Bits) => d.posOf x.1 (recGet x.2 b % 2 ^ 16) (recGet x.2 b / 2 ^ 16)
  let first := pos ⟨320, 17⟩
  d.modRing x.1 (fun r => { r with fetch := first, take := first, producer := pos ⟨352, 17⟩, consumer := pos ⟨384, 17⟩, reserved := first,
                                   armed := recGet x.2 ⟨401, 1⟩ == 1, thresh := recGet x.2 ⟨416, 14⟩ })

/-- What a RESTORE installs when its commit is DONE (R313). -/
def Dev.install (d : Dev) (inst : Nat) (x : Restore) : Dev :=
  let d := x.envs.foldl (fun (d : Dev) e => d.modHed (fun h => { h with env := mapPut h.env e.1 ⟨e.2, d.time.cycles⟩ })) d
  let d := x.queues.foldl (fun (d : Dev) q =>
    d.modReed (fun y => { y with
      shMin := mapPut y.shMin q.1 ⟨signedOf 64 q.2.1⟩
      shMax := mapPut y.shMax q.1 ⟨signedOf 64 q.2.2⟩ })) d
  let d := x.rings.foldl (fun (d : Dev) r => d.ringRestore r) d
  let d := x.stor.foldl (fun (d : Dev) c =>
    match freeIdx (fun k => (mapGet d.stor.ctxs k).isSome) 16384 (d.stor.ctxs.length + 2) 0 1 with
    | k :: _ =>
      let r := recSet (recSet c.2 QC.FLOW_ID c.1) QC.INSTANCE inst
      d.putCtx k { record := r, sync := recGet r QC.SYNC == 1 && recGet r QC.RX_PDU_LEFT == 0, rxSeq := recGet r QC.RX_SEQ, txSeq := recGet r QC.TX_SEQ }
    | [] => d) d
  let d := d.modHif (fun h => { h with msix := x.msix.foldl (fun m e => mapPut m (2048 * inst + e.1) e.2) h.msix })
  d.putSelvedge inst x.selvedge

/-- RESTORE (R313): it needs an unchanged shadow set, no commit PENDING, and the key; then the blob is read. -/
def execRestore (inst : Nat) (s : State) : Host.Outcome State Fault Refusal :=
  doneH s (s.dev.fnOp 6 inst [FnSt.quiesced] (fun d =>
    if d.flag F.HED_SHADOW_STATUS_CHANGED ∨ d.get F.LOOM_COMMIT_STATUS_STATE = 1 then d.fnResult 2
    else if !d.hif.migLoaded then d.fnResult 8
    else if !d.mayRequest 0 then d.fnResult 7
    else
      let n := d.get F.HIF_FN_LEN_LEN
      let d := (d.fnState inst FnSt.restoring).modHif (fun h => { h with blob := List.replicate n 0 })
      d.dmaRead 0 (d.get F.HIF_FN_ADDR_ADDR) n (.blob 0) false))

/-- A RESTORE ends without its function: QUIESCED, with its result. -/
def Dev.restoreFail (d : Dev) (inst code : Nat) : Dev := (d.fnState inst FnSt.quiesced).fnResult code

/-- The blob is in: checked, and its records staged and given to the Loom, or refused. -/
def Dev.restoreBlob (d : Dev) (inst : Nat) : Dev :=
  let (bad, d) := d.blobFault
  if bad then d.restoreFail inst 7 else
  match openBlob d.hif.migKey inst d.hif.blob with
  | .error code => d.restoreFail inst code
  | .ok l =>
    if d.flag F.HED_SHADOW_STATUS_CHANGED ∨ d.get F.LOOM_COMMIT_STATUS_STATE = 1 then d.restoreFail inst 2 else
    match d.stageBlob inst (partsOf l) with
    | none => d.discardShadow.restoreFail inst 6
    | some (d, x) => (d.modHif (fun h => { h with restore := some x })).commitStart false

/-- RESTORE_DONE (R313): first when the blob has been read, and again when the Loom has decided on its commit. -/
def execRestoreDone (inst : Nat) (s : State) : Host.Outcome State Fault Refusal :=
  let d := s.dev
  if d.hif.op ≠ some (6, inst) || (d.fn inst).state ≠ FnSt.restoring || d.blobBusy then done s d else
  match d.hif.restore with
  | none => doneH s (d.restoreBlob inst)
  | some x =>
    if d.get F.LOOM_COMMIT_STATUS_STATE = 1 then done s d
    else if d.get F.LOOM_COMMIT_STATUS_STATE = 2 then doneH s (((d.install inst x).fnState inst FnSt.frozen).fnResult 0)
    else
      let d := d.modCiph (fun c => { c with sas := c.sas.filter (fun p => !x.sas.contains p.1) })
      doneH s (d.discardShadow.restoreFail inst 3)

/-! ## RELEASE -/

/-- RELEASE (R314, R422): the rings and the Selvedge context cleared, the SAs freed, and the deletions staged, after a PENDING commit. -/
def execFnRelease (inst : Nat) (s : State) : Host.Outcome State Fault Refusal :=
  doneH s (s.dev.fnOp 7 inst [FnSt.saved] (fun d =>
    let c := d.cfg.active
    let d := (c.fnRings inst).foldl (fun (d : Dev) r => (d.dropCached r).modRing r (fun _ => {})) d
    let d := d.modHif (fun h => { h with selvedge := mapErase h.selvedge inst, xl := h.xl.filter (fun x => x.inst != inst) })
    let d := (c.fnSas inst).foldl (fun (d : Dev) k => match mapGet d.ciph.sas k with
      | some a => (d.putSa k { a with state := SaS.retired }).freeSa k
      | none => d) d
    let d := if d.get F.LOOM_COMMIT_STATUS_STATE = 1 then d.modHif (fun h => { h with releaseDue := h.releaseDue ++ [inst] }) else d.releaseStage inst
    (d.fnState inst FnSt.quiesced).fnResult 0))

end Sys2Proof.Machine
end

