-- ==== Sys2Proof/Machine/Mover.lean ====
section
/-! DEFINITION. The bulk mover (R351 to R358): descriptors, bursts and their responses, channel states, retries and chains. -/
namespace Sys2Proof.Machine
open Sys2Proof

/-! ## Channels -/

/-! Channel states of ch. 14, Table 6. -/
namespace Ms
def idle : Nat := 0
def running : Nat := 1
def donePending : Nat := 2
def doneSt : Nat := 3
def parked : Nat := 4
def error : Nat := 5
end Ms

/-! Error causes of ch. 14, Table 7. -/
namespace Mc
def xlate : Nat := 1
def hostAbort : Nat := 2
def poison : Nat := 3
def ecc : Nat := 4
def desc : Nat := 5
def crcBusy : Nat := 6
def power : Nat := 7
def range : Nat := 8
def fnReset : Nat := 9
end Mc

/-- A channel. -/
def Dev.mov (d : Dev) (c : Nat) : Mov := mapGetD d.movers c {}
/-- A channel changed. -/
def Dev.modMov (d : Dev) (c : Nat) (f : Mov → Mov) : Dev := { d with movers := mapPut d.movers c (f (d.mov c)) }
/-- STATE of a channel. -/
def Dev.movState (d : Dev) (c : Nat) : Nat := d.get (F.MOVE_CH_STATUS_STATE c)
/-- Whether a channel runs a chain. -/
def Dev.movChain (d : Dev) (c : Nat) : Bool := d.get (F.MOVE_CH_CFG_MODE c) == 1
/-- Whether a party owns a channel: 0 the manager, 1 firmware, 2 the ledger (R351). -/
def Dev.movOwned (d : Dev) (c party : Nat) : Bool := decide (c < 32) && d.get (F.MOVE_CH_CFG_OWNER c) == party

/-- The mirror (R355): DONE_BYTES, DESC_SEQ, STATE and CAUSE in 8 bytes; no mirror at address 0. -/
def Dev.movMirror (d : Dev) (c : Nat) : Dev :=
  let a := d.get (F.MOVE_CH_MIRROR_ADDR c)
  if a = 0 then d else
  let v := d.get (F.MOVE_CH_DONE_DONE_BYTES c) % 2 ^ 40 + 2 ^ 40 * d.get (F.MOVE_CH_STATUS_DESC_SEQ c) + 2 ^ 48 * d.movState c
    + 2 ^ 51 * d.get (F.MOVE_CH_STATUS_CAUSE c)
  if d.get (F.MOVE_CH_CFG_MIRROR_SPACE c) = 1 then d.dmaWrite (d.get (F.MOVE_CH_CFG2_INSTANCE c)) a (leBytes 8 v) .other
  else if a + 8 ≤ d.ddrSize then (d.clearPoison a 8).ddrWrite a (leBytes 8 v) else d

/-- A change of STATE, with its mirror. -/
def Dev.movEnter (d : Dev) (c st : Nat) : Dev := (d.set (F.MOVE_CH_STATUS_STATE c) st).movMirror c

/-- A pulse on the line of EVENT_TO (R355): the MOVER event of a thread. -/
def Dev.movPulse (d : Dev) (c : Nat) : Dev :=
  if d.get (F.MOVE_CH_CFG_EVENT_TO c) = 1 then d.threadEvent (d.get (F.MOVE_CH_CFG_EVENT_EP c)) 1 else d

/-! ## Descriptors (Table 5) -/

/-- SRC. -/
def MovDesc.src (x : MovDesc) : Nat := leNat (sliceBytes x.bytes 0 8)
/-- DST. -/
def MovDesc.dst (x : MovDesc) : Nat := leNat (sliceBytes x.bytes 8 8)
/-- LEN. -/
def MovDesc.len (x : MovDesc) : Nat := leNat (sliceBytes x.bytes 16 4)
/-- Bytes 20 and 21 as one number. -/
def MovDesc.ctl (x : MovDesc) : Nat := leNat (sliceBytes x.bytes 20 2)
/-- SRC_SPACE. -/
def MovDesc.srcSpace (x : MovDesc) : Nat := bitsOf x.ctl 0 2
/-- DST_SPACE. -/
def MovDesc.dstSpace (x : MovDesc) : Nat := bitsOf x.ctl 2 2
/-- SRC_CIRC. -/
def MovDesc.srcCirc (x : MovDesc) : Bool := x.ctl.testBit 4
/-- DST_CIRC. -/
def MovDesc.dstCirc (x : MovDesc) : Bool := x.ctl.testBit 5
/-- PULSE. -/
def MovDesc.pulse (x : MovDesc) : Bool := x.ctl.testBit 6
/-- CRC_UNIT. -/
def MovDesc.crcUnit (x : MovDesc) : Nat := bitsOf x.ctl 8 5
/-- POLY. -/
def MovDesc.poly (x : MovDesc) : Nat := bitsOf x.ctl 13 2
/-- CRC_END. -/
def MovDesc.crcEnd (x : MovDesc) : Bool := x.ctl.testBit 15
/-- The last 8 bytes: NEXT, EOC and reserved bits. -/
def MovDesc.link (x : MovDesc) : Nat := leNat (sliceBytes x.bytes 24 8)
/-- The address that a NEXT word names; descriptors are aligned to 32 bytes. -/
def nextAddr (w : Nat) : Nat := w % 2 ^ 48 / 32 * 32
/-- EOC of a NEXT word. -/
def eocOf (w : Nat) : Bool := w.testBit 63

/-- The size of a channel's circular source region. -/
def Dev.srcSize (d : Dev) (c : Nat) : Nat := 2 ^ d.get (F.MOVE_CH_SRC_CIRC_SIZE_LOG2 c)
/-- The size of a channel's circular destination region. -/
def Dev.dstSize (d : Dev) (c : Nat) : Nat := 2 ^ d.get (F.MOVE_CH_DST_CIRC_SIZE_LOG2 c)

/-- Whether a space code is LOCAL with a core that the channel's owner may not name (Table 4). -/
def Dev.localMisuse (d : Dev) (c space addr : Nat) : Bool :=
  space == 2 && decide (bitsOf addr 32 6 < 8) && d.get (F.MOVE_CH_CFG_OWNER c) != 1

/-- Whether a descriptor fails with cause DESC (Tables 5 and 7). -/
def Dev.descBad (d : Dev) (c : Nat) (x : MovDesc) : Bool :=
  x.ctl.testBit 7 || leNat (sliceBytes x.bytes 22 2) != 0 || bitsOf x.link 48 15 != 0 || x.len == 0 || x.srcSpace == 3
    || (x.srcCirc && decide (x.len > d.srcSize c)) || (x.dstSpace != 3 && x.dstCirc && decide (x.len > d.dstSize c))
    || (!x.srcCirc && d.localMisuse c x.srcSpace x.src) || (!x.dstCirc && d.localMisuse c x.dstSpace x.dst)

/-- The source address of a byte of a descriptor (R352). -/
def Dev.srcAddr (d : Dev) (c : Nat) (x : MovDesc) (off : Nat) : Nat :=
  if x.srcCirc then 4096 * d.get (F.MOVE_CH_SRC_CIRC_BASE c) + (x.src + off) % d.srcSize c else x.src + off
/-- The destination address of a byte of a descriptor. -/
def Dev.dstAddr (d : Dev) (c : Nat) (x : MovDesc) (off : Nat) : Nat :=
  if x.dstCirc then 4096 * d.get (F.MOVE_CH_DST_CIRC_BASE c) + (x.dst + off) % d.dstSize c else x.dst + off

/-- Bytes of one burst from an offset: BURST, the descriptor's end, the 4 KiB pages of host sides, and circular wraps (R354). -/
def Dev.burstLen (d : Dev) (c : Nat) (x : MovDesc) : Nat :=
  let off := x.issued
  let page := fun (sp a n : Nat) => if sp = 1 then min n (4096 - a % 4096) else n
  let n := min (x.len - off) (64 * 2 ^ d.get (F.MOVE_CH_CFG_BURST c))
  let n := page x.srcSpace (d.srcAddr c x off) (page x.dstSpace (d.dstAddr c x off) n)
  let n := if x.srcCirc then min n (d.srcSize c - (x.src + off) % d.srcSize c) else n
  if x.dstSpace ≠ 3 ∧ x.dstCirc then min n (d.dstSize c - (x.dst + off) % d.dstSize c) else n

/-! ## Requests -/

/-- Why an access to a space cannot be made: an address outside its space, a core in an OFF domain, a core that the owner may not name. -/
def Dev.spaceFault (d : Dev) (c space addr n : Nat) : Nat :=
  match space with
  | 0 => if addr + n ≤ d.ddrSize then 0 else Mc.range
  | 1 => if addr + n ≤ 2 ^ 64 then 0 else Mc.range
  | 2 =>
    let core := bitsOf addr 32 6
    if addr ≥ 2 ^ 38 ∨ bitsOf addr 18 14 ≠ 0 then Mc.range
    else if d.localMisuse c space addr then Mc.desc
    else if d.flt.outUnits.contains (2, core) then Mc.power
    else if d.localOk core (addr % 2 ^ 18) n then 0 else Mc.range
  | _ => 0

/-- Whether an access waits for a gated core to wake (R29), and the device with the wake begun. -/
def Dev.coreWait (d : Dev) (space addr : Nat) : Bool × Dev :=
  if space = 2 then (d.isGated 0 (bitsOf addr 32 6), d.wake 0 (bitsOf addr 32 6)) else (false, d)
/-- Whether a burst waits for a gated CRC unit that its channel has still to start (R29, R353), and the device with the wake begun. -/
def Dev.unitWait (d : Dev) (c : Nat) (x : MovDesc) : Bool × Dev :=
  if x.dstSpace = 3 ∧ (d.mov c).crcs.contains x.crcUnit = false then (d.isGated 2 x.crcUnit, d.wake 2 x.crcUnit) else (false, d)

/-- A request placed behind the others of its channel; its number. -/
def Dev.movAsk (d : Dev) (c : Nat) (q : MovReq) : Nat × Dev :=
  let id := (d.mov c).nextId
  (id, d.modMov c (fun m => { m with nextId := id + 1, reqs := m.reqs ++ [{ q with id := id }] }))

/-- A read of a space that can be made. DDR5 and local memory are read as the request issues, but a gated core's memory when it has woken (R29). -/
def Dev.movRead (d : Dev) (mem : List Host.Cell) (c space addr len kind desc off : Nat) : Dev :=
  let q : MovReq := { id := 0, kind := kind, desc := desc, off := off, len := len }
  match space with
  | 1 =>
    let (id, d) := d.movAsk c { q with host := true, data := List.replicate len 0 }
    d.dmaRead (d.get (F.MOVE_CH_CFG2_INSTANCE c)) addr len (.mover c id off) false
  | 2 =>
    let (w, d) := d.coreWait space addr
    if w then (d.movAsk c { q with core := some (bitsOf addr 32 6, addr % 2 ^ 18) }).2
    else (d.movAsk c { q with data := d.localBytes (bitsOf addr 32 6) (addr % 2 ^ 18) len }).2
  | _ =>
    (d.movAsk c { q with
      data := memRead (ddrView mem d.dram.wq) addr len
      err := if d.poisoned addr len then Mc.poison else 0 }).2

/-- A descriptor or tail read (kinds 2 and 3) in CHAIN_SPACE. A fresh copy of a descriptor uses up a kick that came before it. -/
def Dev.movLinkRead (d : Dev) (mem : List Host.Cell) (c kind addr : Nat) : Dev :=
  let (a, n) := if kind = 3 then (addr + 24, 8) else (addr, 32)
  let sp := d.get (F.MOVE_CH_CFG_CHAIN_SPACE c)
  let d := d.set (F.MOVE_CH_STATUS_KICK_PENDING c) 0
  let e := d.spaceFault c sp a n
  if e ≠ 0 then (d.movAsk c { id := 0, kind := kind, desc := addr, off := 0, len := n, err := e }).2
  else d.movRead mem c sp a n kind addr 0

/-- The write of a burst to its destination (R353); its response is a request of its own. -/
def Dev.movWrite (d : Dev) (c : Nat) (x : MovDesc) (off : Nat) (b : List Byte) : Dev :=
  let a := d.dstAddr c x off
  let e := d.spaceFault c x.dstSpace a b.length
  let (id, d) := d.movAsk c { id := 0, kind := 1, desc := x.id, off := off, len := b.length, host := x.dstSpace == 1, err := e }
  if e ≠ 0 then d else
  match x.dstSpace with
  | 0 => (d.clearPoison a b.length).ddrWrite a b
  | 1 => d.dmaWrite (d.get (F.MOVE_CH_CFG2_INSTANCE c)) a b (.mover c id off)
  | 2 => d.localWrite (bitsOf a 32 6) (a % 2 ^ 18) b
  | _ =>
    let u := x.crcUnit
    let d := if off = 0 then d.modMov c (fun m => { m with
      descs := m.descs.map (fun (y : MovDesc) => if y.id = x.id then { y with crcAt := some (d.crcUnit u).message.length } else y) }) else d
    let d := d.crcFeed u 1 c b
    if x.crcEnd && off + b.length == x.len then d.crcEnd u 1 c else d

/-- The CRC unit of a descriptor started at the first one that needs it (R353); whether the channel has it. -/
def Dev.movCrc (d : Dev) (c : Nat) (x : MovDesc) : Bool × Dev :=
  if x.dstSpace ≠ 3 ∨ (d.mov c).crcs.contains x.crcUnit then (true, d) else
  let (d, ok) := d.crcStart x.crcUnit 1 c x.poly none
  (ok, if ok then d.modMov c (fun m => { m with crcs := m.crcs ++ [x.crcUnit] }) else d)

/-- The channel's CRC units stopped: it has left RUNNING for good. -/
def Dev.movLeave (d : Dev) (c : Nat) : Dev :=
  ((d.mov c).crcs.foldl (fun (d : Dev) u => d.crcStop u 1 c) d).modMov c (fun m => { m with
    descs := []
    crcs := []
    cause := 0
    aborting := false
    redo := none
    tried := false })

/-! ## States (Table 6) -/

/-- Whether a request has its response: no access of it waits or is outstanding. -/
def Dev.movReady (d : Dev) (c : Nat) (q : MovReq) : Bool :=
  let mine := fun (u : Use) => match u with
    | .mover k id _ => k == c && id == q.id
    | _ => false
  (match q.core with
    | some (k, _) => !d.isGated 0 k
    | none => true) && !d.hif.waiting.any (fun o => mine o.use) && !d.hif.reads.any (fun r => mine r.use && !r.dead)

/-- Descriptors whose bytes have all moved complete, the oldest first (R353, R355). -/
def Dev.movComplete (d : Dev) (c : Nat) : Nat → Dev
  | 0 => d
  | n + 1 => match (d.mov c).descs with
    | [] => d
    | x :: _ =>
      if x.failed ∨ x.moved < x.len then d else
      let d := d.modMov c (fun m => { m with descs := m.descs.drop 1 })
      let d := d.set (F.MOVE_CH_DONE_DONE_BYTES c) (d.get (F.MOVE_CH_DONE_DONE_BYTES c) + x.len)
      let d := d.set (F.MOVE_CH_STATUS_DESC_SEQ c) (d.get (F.MOVE_CH_STATUS_DESC_SEQ c) + 1)
      let d := ((d.count K.MOVE_BYTES x.len).count K.MOVE_DESCRIPTORS).movMirror c
      (if x.pulse then d.movPulse c else d).movComplete c n

/-- Whether the failure of a channel has been retried already (R357): its earliest failed descriptor, or the failed read of one. -/
def Mov.wasRetried (m : Mov) : Bool :=
  match m.descs.find? (fun x => x.failed) with
  | some x => x.retried
  | none => m.tried

/-- The descriptors of a retry (R357): from the earliest failed one on, each runs again from its first byte. -/
def restartFrom : List MovDesc → List MovDesc
  | [] => []
  | x :: t =>
    if x.failed then (x :: t).map (fun (y : MovDesc) => { y with issued := 0, moved := 0, failed := false, retried := true })
    else x :: restartFrom t

/-- A retry (R357): RUNNING again; a CRC unit's message goes back to where the earliest descriptor that runs again found it. -/
def Dev.movRetry (d : Dev) (mem : List Host.Cell) (c : Nat) : Dev :=
  let m := d.mov c
  let d := match m.descs.find? (fun x => x.failed) with
    | some x => match x.crcAt with
      | some n => if d.crcOwns x.crcUnit 1 c then
          d.putCrc x.crcUnit { d.crcUnit x.crcUnit with message := (d.crcUnit x.crcUnit).message.take n } else d
      | none => d
    | none => d
  let d := ((d.set (F.MOVE_CH_STATUS_RETRIED c) 1).raise F.MOVE_EVENT_RETRY).count K.MOVE_RETRIES
  let d := (d.set (F.MOVE_CH_STATUS_CAUSE c) 0).modMov c (fun m => { m with
    descs := restartFrom m.descs
    cause := 0
    redo := none
    tried := m.tried || m.redo.isSome })
  let d := d.movEnter c Ms.running
  match m.redo with
  | some (k, a) => d.movLinkRead mem c k a
  | none => d

/-- A channel whose responses are all in after an error (R357): ERROR with its pulse and its log entry, and then one retry where it applies. -/
def Dev.movError (d : Dev) (mem : List Host.Cell) (c : Nat) : Dev :=
  let m := d.mov c
  let again := m.wasRetried
  let d := (d.count K.MOVE_ERRORS).raise F.MOVE_EVENT_ERROR
  let d := d.logPut 0xE00008 0xE05000 4 (d.nowNs % 2 ^ 64 + 2 ^ 64 * c + 2 ^ 72 * m.cause + 2 ^ 80 * d.get (F.MOVE_CH_STATUS_DESC_SEQ c)
    + 2 ^ 88 * (if again then 1 else 0))
  let d := ((d.set (F.MOVE_CH_STATUS_CAUSE c) m.cause).movEnter c Ms.error).movPulse c
  if d.flag (F.MOVE_CH_CFG_IDEMPOTENT c) && !m.aborting && !again && decide (2 ≤ m.cause ∧ m.cause ≤ 4) then d.movRetry mem c
  else d.movLeave c

/-- What follows from a channel's requests (Table 6): an error or an ABORT ends RUNNING, and DONE_PENDING ends once every response is in. -/
def Dev.movSettle (d : Dev) (mem : List Host.Cell) (c : Nat) : Dev :=
  let m := d.mov c
  let st := d.movState c
  let d := if (st = Ms.running ∨ st = Ms.parked) ∧ (m.cause ≠ 0 ∨ m.aborting) then d.movEnter c Ms.donePending else d
  if d.movState c ≠ Ms.donePending || !m.reqs.isEmpty then d
  else if m.cause ≠ 0 then d.movError mem c
  else if m.aborting then (d.movEnter c Ms.idle).movLeave c
  else if !d.movChain c then ((d.movEnter c Ms.doneSt).movPulse c).movLeave c
  else if d.flag (F.MOVE_CH_STATUS_KICK_PENDING c) then d.movLinkRead mem c 3 m.tail
  else ((d.count K.MOVE_PARKS).movEnter c Ms.parked).movPulse c

/-- A descriptor begins, or fails its check. -/
def Dev.movBegin (d : Dev) (c : Nat) (bytes : List Byte) : Dev :=
  let x : MovDesc := { id := (d.mov c).nextId, bytes := bytes }
  if d.descBad c x then d.modMov c (fun m => { m with cause := if m.cause = 0 then Mc.desc else m.cause })
  else d.modMov c (fun m => { m with nextId := m.nextId + 1, descs := m.descs ++ [x], tried := false })

/-- An error of a request or of a burst, with the descriptor that it fails. -/
def Dev.movFail (d : Dev) (c desc cause : Nat) : Dev :=
  d.modMov c (fun m => { m with
    cause := if m.cause = 0 then cause else m.cause
    descs := m.descs.map (fun (y : MovDesc) => if y.id = desc then { y with failed := true } else y) })

/-! ## Commands -/

/-- MOVER_START (R351, R352, R356), after the wake when the group is gated (R29): START by `party`, which is 0 the manager, 1 firmware, 2 the ledger. -/
def execMoverStart (channel party : Nat) (s : State) : Host.Outcome State Fault Refusal :=
  let d := s.dev
  let c := channel
  if !d.movOwned c party || !d.responds 0xE01004 then done s d
  else if d.asleep 3 (c / 4) then done s (d.holdFor 3 (c / 4) (.moverStart channel party))
  else
    let st := d.movState c
    if st = Ms.running ∨ st = Ms.donePending ∨ st = Ms.parked then done s (d.raise F.MOVE_EVENT_WRITE_IGNORED) else
    let d := (d.set (F.MOVE_CH_DONE_DONE_BYTES c) 0).putWord (0xE01008 + 0x80 * c) 0
    let d := (d.modMov c (fun m => { nextId := m.nextId })).movEnter c Ms.running
    let d := if d.movChain c then
        let a := d.get (F.MOVE_CH_CHAIN_HEAD c) / 32 * 32
        (d.modMov c (fun m => { m with tail := a })).movLinkRead s.ddr c 2 a
      else d.movBegin c (d.winBytes (0xE01040 + 0x80 * c) 32)
    doneH s (d.movSettle s.ddr c)

/-- MOVER_ABORT (Table 6): a RUNNING channel issues no more requests. -/
def execMoverAbort (channel party : Nat) (s : State) : Host.Outcome State Fault Refusal :=
  let d := s.dev
  let c := channel
  if !d.movOwned c party || !d.responds 0xE01004 then done s d
  else if d.asleep 3 (c / 4) then done s (d.holdFor 3 (c / 4) (.moverAbort channel party))
  else
    if d.movState c ≠ Ms.running then done s d
    else doneH s ((d.modMov c (fun m => { m with aborting := true })).movSettle s.ddr c)

/-- CHAIN_KICK (R358): a parked channel reads its tail again, one that runs a chain remembers the kick, and any other counts it. -/
def execChainKick (channel party : Nat) (s : State) : Host.Outcome State Fault Refusal :=
  let d := s.dev
  let c := channel
  if !d.movOwned c party || !d.responds 0xE01004 then done s d
  else if d.asleep 3 (c / 4) then done s (d.holdFor 3 (c / 4) (.chainKick channel party))
  else
    let d := d.count K.MOVE_KICKS
    let st := d.movState c
    if st = Ms.parked ∧ (d.mov c).reqs = [] then doneH s (d.movLinkRead s.ddr c 3 (d.mov c).tail)
    else if d.movChain c ∧ (st = Ms.running ∨ st = Ms.donePending ∨ st = Ms.parked) then done s (d.set (F.MOVE_CH_STATUS_KICK_PENDING c) 1)
    else done s (d.count K.MOVE_KICK_IDLE)

/-- What follows the last burst of a descriptor (Table 6): the NEXT read, or DONE_PENDING at the end. -/
def Dev.movDescIssued (d : Dev) (mem : List Host.Cell) (c : Nat) (x : MovDesc) : Dev :=
  let m := d.mov c
  if m.descs.any (fun y => y.issued < y.len) || m.reqs.any (fun q => q.kind == 2) then d
  else if d.movChain c && !eocOf x.link then
    let a := nextAddr x.link
    (d.modMov c (fun m => { m with tail := a })).movLinkRead mem c 2 a
  else d.movEnter c Ms.donePending

/-- MOVER_BURST (R352, R354): the channel issues its next burst: the read of its source. -/
def execMoverBurst (channel : Nat) (s : State) : Host.Outcome State Fault Refusal :=
  let d := s.dev
  let c := channel
  let m := d.mov c
  if c ≥ 32 || d.movState c ≠ Ms.running || m.cause ≠ 0 || m.aborting || d.isGated 3 (c / 4) then done s d else
  match m.descs.find? (fun x => x.issued < x.len) with
  | none => done s d
  | some x =>
    let off := x.issued
    let n := d.burstLen c x
    let a := d.srcAddr c x off
    let b := d.dstAddr c x off
    let (w1, d) := d.coreWait x.srcSpace a
    let (w2, d) := d.coreWait x.dstSpace b
    let (w3, d) := d.unitWait c x
    let e := d.spaceFault c x.srcSpace a n
    let e := if e = 0 then d.spaceFault c x.dstSpace b n else e
    if e ≠ 0 then doneH s ((d.movFail c x.id e).movSettle s.ddr c)
    else if w1 || w2 || w3 then done s d
    else
      let (ok, d) := d.movCrc c x
      if !ok then doneH s ((d.movFail c x.id Mc.crcBusy).movSettle s.ddr c) else
      let d := d.modMov c (fun m => { m with
        descs := m.descs.map (fun (y : MovDesc) => if y.id = x.id then { y with issued := off + n } else y) })
      let d := d.movRead s.ddr c x.srcSpace a n 0 x.id off
      doneH s ((if off + n ≥ x.len then d.movDescIssued s.ddr c x else d).movSettle s.ddr c)

/-- Whether a response may be taken now: source data for a CRC unit comes in order. -/
def Mov.inOrder (m : Mov) (q : MovReq) : Bool :=
  q.kind != 0 || !m.reqs.any (fun r => r.kind == 0 && decide (r.id < q.id))

/-- What one response does, without error: source data goes to its destination, a write counts, a descriptor begins, a tail is looked at. -/
def Dev.movResponse (d : Dev) (mem : List Host.Cell) (c : Nat) (q : MovReq) : Dev :=
  let m := d.mov c
  let going := m.cause = 0 ∧ !m.aborting
  match q.kind with
  | 0 => match m.descs.find? (fun x => x.id == q.desc) with
    | some x => if going then d.movWrite c x q.off q.data else d
    | none => d
  | 1 => (d.modMov c (fun m => { m with
      descs := m.descs.map (fun (y : MovDesc) => if y.id = q.desc then { y with moved := y.moved + q.len } else y) })).movComplete c
        (m.descs.length + 1)
  | 2 => if going then d.movBegin c q.data else d
  | _ =>
    let w := leNat (q.data.take 8)
    if !going then d
    else if !eocOf w then
      let d := if d.movState c = Ms.running then d else d.movEnter c Ms.running
      let a := nextAddr w
      (d.modMov c (fun m => { m with tail := a, tried := false })).movLinkRead mem c 2 a
    else if d.movState c = Ms.parked then (if d.flag (F.MOVE_CH_STATUS_KICK_PENDING c) then d.movLinkRead mem c 3 m.tail else d)
    else if d.movState c = Ms.running then d.movEnter c Ms.donePending else d

/-- MOVER_RESPONSE (R353, R355 to R358): the oldest request whose data or acknowledgement is in gets its response. `err`, at the DDR5 word
`addr` or in a core's local memory, is what the read finds (R369). -/
def execMoverResponse (channel err addr row : Nat) (s : State) : Host.Outcome State Fault Refusal :=
  let d := s.dev
  let c := channel
  let m := d.mov c
  match m.reqs.find? (fun q => d.movReady c q && m.inOrder q) with
  | none => done s d
  | some q =>
    let d := d.modMov c (fun m => { m with reqs := m.reqs.filter (fun r => r.id != q.id) })
    let q : MovReq := match q.core with
      | some (k, a) => { q with data := d.localBytes k a q.len }
      | none => q
    let x := m.descs.find? (fun x => x.id == q.desc)
    let fromCore := q.kind == 0 && (match x with
      | some x => x.srcSpace == 2
      | none => false)
    let fromDdr := q.kind != 1 && !q.host && !fromCore && q.err == 0
    let d := if fromDdr then d.dramFound err addr row
      else if fromCore && decide (err ≥ 2) then (match x with
        | some x => d.localEcc (bitsOf (d.srcAddr c x q.off) 32 6) row
        | none => d)
      else d
    let q := if (fromDdr && decide (err ≥ 2) && !mirrored addr) || (fromCore && decide (err ≥ 2)) then q.fail Mc.ecc else q
    let d := if q.err = 0 then d.movResponse s.ddr c q
      else
        let d := d.movFail c (if q.kind < 2 then q.desc else m.nextId) q.err
        if q.kind < 2 then d else d.modMov c (fun m => { m with redo := some (q.kind, q.desc) })
    doneH s (d.movSettle s.ddr c)

end Sys2Proof.Machine
end

