-- ==== Sys2Proof/Machine/Domains.lean ====
section
/-! DEFINITION. Power domains (R27 to R30): the state of each domain of ch. 1, Table 8, gating of AUTO domains after the hold-off, and waking.
AUTO kinds are those of PWR_HOLDOFF_k: 0 Barbor core, 1 cipher lane, 2 CRC unit, 3 bulk mover group, 4 ledger hashing. -/
namespace Sys2Proof.Machine
open Sys2Proof

/-- Whether a kind has a unit. -/
def autoUnit (kind unit : Nat) : Bool :=
  match kind with
  | 0 => decide (unit < 64)
  | 1 => decide (unit < 16)
  | 2 => decide (unit < 32)
  | 3 => decide (unit < 8)
  | 4 => unit == 0
  | _ => false

/-! ## The 212 domains (R27) -/

/-- A power domain of Table 8. Cores, lanes and CRC units are the physical ones, spares included. -/
inductive PowerDomain where
  | core (p : Nat) | lane (p : Nat) | crc (p : Nat) | port (n : Nat) | mgmtPort | movers (g : Nat)
  | tableBank (b : Nat) | pbufBank (b : Nat) | wildBank (b : Nat) | pipeline (n : Nat) | dram (c : Nat) | hostHalf (h : Nat)
  | side (k : Nat) | hashing | timingIo | root | alwaysOn
  deriving DecidableEq, Repr

/-- The domains of each kind, by Table 8's counts. -/
def powerDomains : List PowerDomain :=
  (List.range 68).map .core ++ (List.range 18).map .lane ++ (List.range 34).map .crc ++ (List.range 8).map .port ++ [.mgmtPort]
    ++ (List.range 8).map .movers ++ (List.range 34).map .tableBank ++ (List.range 16).map .pbufBank ++ (List.range 8).map .wildBank
    ++ (List.range 4).map .pipeline ++ (List.range 4).map .dram ++ (List.range 2).map .hostHalf ++ (List.range 3).map .side
    ++ [.hashing, .timingIo, .root, .alwaysOn]

/-- Whether some logical unit of an AUTO kind runs on a physical one and is awake. A spare that serves none is OFF. -/
def Dev.unitOn (d : Dev) (kind phys : Nat) : Bool :=
  (List.range 64).any (fun u => autoUnit kind u && !d.isGated kind u && (match kind with
    | 0 => d.physOf 2 u == phys && !d.flt.outUnits.contains (2, u)
    | 1 => d.physOf 3 u == phys && !d.flt.outUnits.contains (3, u)
    | _ => d.physOf 4 u == phys && !d.flt.outUnits.contains (4, u)))

/-- Whether a power domain is ON under its policy (R27). A host link half is ON when the link width uses it, which both link modes of R288 do; a
packet-buffer bank within the configured size (R362); a table-store or wildcard-store bank while it holds entries, whose placement is free
(assumption log 91). -/
def Dev.domainOn (d : Dev) : PowerDomain → Bool
  | .core p => d.unitOn 0 p
  | .lane p => d.unitOn 1 p
  | .crc p => d.unitOn 2 p
  | .port n => !d.portOff n
  | .mgmtPort => !d.portOff 8
  | .movers g => !d.isGated 3 g
  | .tableBank b => d.fwd.entries.any (fun p => !inDdr p.1 && Config.tableBank p.1 == b)
      || (d.cfg.active.table Tab.flow).any (fun p => decide (p.1 < 131072) && recGet p.2 FR.VALID == 1 && Config.flowBank p.1 == b) || d.flt.bankCopy.any (fun p => 32 + p.2 == b)
  | .pbufBank b => decide (b < 2 + d.sh F.DRAM_PBUF_CFG_BANKS)
  | .wildBank b => (d.cfg.active.table Tab.wildcard).any (fun p => recGet p.2 WR.VALID == 1 && Config.wildBank p.1 == b)
  | .side k => d.side k != 0 && d.side k != 4
  | .hashing => !d.isGated 4 0
  | .hostHalf _ | .pipeline _ | .dram _ | .timingIo | .root | .alwaysOn => true

/-! ## Gating and waking -/

/-- Whether a domain is idle: every thread of the core is IDLE and no shuttle waits for it or crosses to it; no frame is in the lane or waits for
its group; the CRC unit has no owner; no channel of the group moves data; no witnessed frame is in the module. -/
def Dev.domIdle (d : Dev) (kind unit : Nat) : Bool :=
  match kind with
  | 0 => (coreThreads unit).all (fun n => (d.thread n).run == 0) && (d.waitingFor unit true).isEmpty && (d.waitingFor unit false).isEmpty
      && !d.shuts.any (fun (p : Nat × Shut) => p.2.stage == .cross && d.programCore p.2 == unit)
  | 1 => !d.shuts.any (fun (p : Nat × Shut) => p.2.lane == some unit) && (d.laneHeads unit).isEmpty
  | 2 => d.get (F.STOR_CRC_STATUS_STATE unit) != 1
  | 3 => (List.range 4).all (fun k => d.movState (4 * unit + k) != Ms.running && d.movState (4 * unit + k) != Ms.donePending)
  | _ => !d.shuts.any (fun (p : Nat × Shut) => p.2.flag Fl.WITNESSED)

/-- AUTO_GATE_OFF (R28, R29): the hold-off of an idle domain has passed; work that arrives in the same cycle cancels the gating. -/
def execAutoGateOff (kind unit : Nat) (workArrives : Bool) (s : State) : Host.Outcome State Fault Refusal :=
  let d := s.dev
  if !d.sys.ready || !autoUnit kind unit || d.isGated kind unit || d.dom.waking.contains (kind, unit) || workArrives || d.domHeld kind unit
      || !d.domIdle kind unit then done s d
  else done s (d.modDom (fun x => { x with gated := x.gated ++ [(kind, unit)] }))

/-- One access or start that has waited for its domain, made now. -/
def lateAccess (i : HeldOp) (s : State) : Host.Outcome State Fault Refusal :=
  match i with
  | .write addr value => execRegisterWrite addr value 15 s
  | .coreReset core key => execCoreResetWrite core key s
  | .debugHalt core thread => execDebugHalt core thread s
  | .debugResume core thread => execDebugResume core thread s
  | .debugStep core thread => execDebugStep core thread s
  | .debugData core value => execDebugDataWrite core value s
  | .crcStart unit kind owner poly alive => execCrcStart unit kind owner poly alive s
  | .crcRelease unit => execCrcRelease unit s
  | .crcStatus unit => execCrcStatusRead unit s
  | .moverStart channel party => execMoverStart channel party s
  | .moverAbort channel party => execMoverAbort channel party s
  | .chainKick channel party => execChainKick channel party s
  | .mailboxWrite unit word value => execMailboxWrite 2 unit word value s
  | .mailboxRead unit => execMailboxReadLast 2 unit s

/-- The accesses that have waited, made in order of arrival. -/
def lateAccesses : List HeldOp → State → Host.Outcome State Fault Refusal
  | [], s => done s s.dev
  | i :: t, s => match lateAccess i s with
    | .next s' => lateAccesses t s'
    | o => o

/-- GAP_END (R379): no retry is under way any more, and the register writes held during the gap are made in order. -/
def execGapEnd (s : State) : Host.Outcome State Fault Refusal :=
  let d := s.dev.modFlt (fun f => { f with gap := 0, retries := 0 })
  let l := (d.dom.held.filter (fun h => h.1 == (5, 0))).map (·.2)
  lateAccesses l { s with dev := d.modDom (fun x => { x with held := x.held.filter (fun h => h.1 != (5, 0)) }) }

/-- The records that waited for ledger hashing, offered to their streams (R29). -/
def Dev.lateRecords (d : Dev) : Dev :=
  d.dom.records.foldl (fun d (r : Nat × Nat × Nat × List Byte) => d.offerRecord r.1 r.2.1 false r.2.2.1 (withAlive r.2.2.2))
    (d.modDom (fun x => { x with records := [] }))

/-- DOMAIN_WAKE_DONE (R29, R30): the domain is on again, and what waited for it goes on. -/
def execDomainWakeDone (kind unit : Nat) (s : State) : Host.Outcome State Fault Refusal :=
  let d := s.dev
  if !d.dom.waking.contains (kind, unit) then done s d else
  let l := (d.dom.held.filter (fun h => h.1 == (kind, unit))).map (·.2)
  let d := d.modDom (fun x => { x with
    gated := x.gated.filter (fun p => p != (kind, unit))
    waking := x.waking.filter (fun p => p != (kind, unit))
    held := x.held.filter (fun h => h.1 != (kind, unit)) })
  let d := if kind = 4 then d.lateRecords else d
  lateAccesses l { s with dev := d }

end Sys2Proof.Machine
end

