-- ==== Sys2Proof/Machine/Images.lean ====
section
/-! DEFINITION. Images in flash (R392 to R394, R404, R405): regions, manifests, the board description, and the checks that an image must
pass. Results are those of BOOT_CTRL: 0 OK, 2 STATE, 3 SIGNATURE, 4 DIGEST, 5 FORMAT. -/
namespace Sys2Proof.Machine
open Sys2Proof

/-! ## Flash (Table 1) -/

/-- The offset of a region: 0 slot A, 1 slot B, 2 the golden image. -/
def regionBase (s : Nat) : Nat := 0x7000000 * s
/-- The bytes of a region. -/
def regionSize (s : Nat) : Nat := if s = 2 then 24 * 2 ^ 20 else 112 * 2 ^ 20
/-- Bytes of flash; an erased byte reads 0xFF. -/
def Dev.flashBytes (d : Dev) (a n : Nat) : List Byte := (List.range n).map (fun i => mapGetD d.boot.flash (a + i) 0xFF)
/-- Bytes programmed. -/
def Dev.flashWrite (d : Dev) (a : Nat) (l : List Byte) : Dev :=
  d.modBoot (fun b => { b with flash := (List.range l.length).foldl (fun m i =>
    if l.getD i 0xFF = 0xFF then mapErase m (a + i) else mapPut m (a + i) (l.getD i 0xFF)) b.flash })
/-- Bytes erased. -/
def Dev.flashErase (d : Dev) (a n : Nat) : Dev :=
  d.modBoot (fun b => { b with flash := b.flash.filter (fun p => p.1 < a || a + n ≤ p.1) })

/-! ## The manifest (Table 2) -/

/-- The manifest of a region. -/
def Dev.manifest (d : Dev) (s : Nat) : List Byte := d.flashBytes (regionBase s) 4096
/-- A little-endian field of a manifest or of another byte string. -/
def field (m : List Byte) (off n : Nat) : Nat := leNat (sliceBytes m off n)
/-- Whether a run of bytes is 0. -/
def zeros (m : List Byte) (off n : Nat) : Bool := (sliceBytes m off n).all (fun b => b == 0)
/-- SVN of a manifest. -/
def svnOf (m : List Byte) : Nat := field m 4 4
/-- OWNER_PUBKEY of a manifest. -/
def ownerOf (m : List Byte) : List Byte := sliceBytes m 16 32
/-- The section entries of a manifest, as bytes. -/
def entriesOf (m : List Byte) : List (List Byte) := (List.range (min 32 (field m 2 2))).map (fun i => sliceBytes m (128 + 80 * i) 80)
/-- A section entry. -/
def sectOf (e : List Byte) : Sect :=
  { kind := field e 0 1, vendor := field e 1 1 % 2 == 1, offset := field e 8 4, length := field e 12 4, digest := sliceBytes e 16 64 }
/-- The sections of a manifest. -/
def sectsOf (m : List Byte) : List Sect := (entriesOf m).map sectOf
/-- Sections of a type. -/
def ofKind (l : List Sect) (k : Nat) : List Sect := l.filter (fun x => x.kind == k)
/-- Whether no two sections of a list overlap. -/
def disjoint : List Sect → Bool
  | [] => true
  | x :: t => t.all (fun y => x.offset + x.length ≤ y.offset || y.offset + y.length ≤ x.offset) && disjoint t

/-- The fields, ranges and sections of a manifest (R393, R394); sections lie behind the manifest and within the region. -/
def manifestOk (s : Nat) (m : List Byte) : Bool :=
  let n := field m 2 2
  let l := sectsOf m
  field m 0 2 == 1 && decide (1 ≤ n) && decide (n ≤ 32) && decide (svnOf m ≤ 64) && zeros m 48 80 && zeros m 2688 1280
    && (entriesOf m).all (fun e => decide (1 ≤ field e 0 1) && decide (field e 0 1 ≤ 6) && decide (field e 1 1 ≤ 1) && zeros e 2 6)
    && l.all (fun x => decide (4096 ≤ x.offset) && decide (x.offset + x.length ≤ regionSize s)) && disjoint l
    && ([1, 3, 4, 6] : List Nat).all (fun k => (ofKind l k).length == 1) && (ofKind l 1).all (fun x => x.vendor)
    && (s != 2 || (l.all (fun x => x.vendor) && zeros m 16 32 && zeros m 4032 64))

/-- Whether VENDOR_SIG verifies under a Tyulkan image key: it covers SHA-512 of the entries with VENDOR = 1. -/
def vendorOk (m : List Byte) : Bool :=
  let h := sha512 ((entriesOf m).filter (fun e => (sectOf e).vendor)).flatten
  Config.imageKeys.any (fun k => edVerify k h (sliceBytes m 3968 64))

/-- The owner key in force, as its hash: the lowest place that is written and not revoked (R395). -/
def Dev.keyInForce (d : Dev) : Option (List Byte) :=
  (d.boot.fuses.places.find? (fun p => match p with
    | some k => !k.revoked
    | none => false)).join.map (·.hash)
/-- The hash that a place holds of a public key. -/
def ownerHash (pub : List Byte) : List Byte := (sha512 pub).take 32

/-- Whether OWNER_SIG verifies under the key that R397 designates; the golden image has none. -/
def Dev.ownerOk (d : Dev) (s : Nat) (m : List Byte) : Bool :=
  s == 2 || (edVerify (ownerOf m) (sha512 (m.take 4032)) (sliceBytes m 4032 64) && (match d.keyInForce with
    | some h => h == ownerHash (ownerOf m)
    | none => d.boot.fuses.places.all (fun p => p.isNone)))

/-- What the manifest of a region leads to. -/
def Dev.manifestResult (d : Dev) (s : Nat) : Nat :=
  let m := d.manifest s
  if !manifestOk s m then 5
  else if !vendorOk m || !d.ownerOk s m then 3
  else if svnOf m < d.boot.fuses.rollback then 2
  else 0

/-! ## Sections -/

/-- The bytes of a section of a region. -/
def Dev.sectBytes (d : Dev) (s : Nat) (x : Sect) : List Byte := d.flashBytes (regionBase s + x.offset) x.length
/-- Whether a section's SHA-512 equals its DIGEST. -/
def Dev.sectOk (d : Dev) (s : Nat) (x : Sect) : Bool := sha512 (d.sectBytes s x) == x.digest
/-- The bytes of the one section of a type. -/
def Dev.sectFor (d : Dev) (s k : Nat) (l : List Sect) : List Byte :=
  match ofKind l k with
  | x :: _ => d.sectBytes s x
  | [] => []

/-! ## Board description (Table 4) -/

/-- Whether TOD_RX or TOD_TX is declared. -/
def todDeclared (b : List Byte) : Bool := field b 14 1 % 4 != 0 || (field b 15 1).testBit 2
/-- Whether a time source names an input that is declared; a port is looked at with the configuration set. -/
def sourceOk (b : List Byte) (v : Nat) : Bool :=
  decide (v ≤ 11) && (v != 10 || (field b 10 1 != 0 && field b 14 1 % 4 != 0)) && (v != 11 || field b 10 1 != 0)
/-- A cage byte: bit 6 reserved, and its ports within 0 to 7. -/
def cageOk (v : Nat) : Bool := !v.testBit 6 && (!v.testBit 7 || decide (bitsOf v 0 3 + bitsOf v 3 3 < 8))

/-- Every field of a board description within its range, and reserved ones 0 (R404). -/
def boardOk (b : List Byte) : Bool :=
  b.length == 512 && field b 0 2 == 1 && decide (field b 2 1 < 8) && decide (1 ≤ field b 3 1) && decide (field b 3 1 ≤ 6)
    && decide (field b 4 1 < 2) && decide (0x08 ≤ field b 5 1) && decide (field b 5 1 ≤ 0x77)
    && ([6, 7, 8, 9] : List Nat).all (fun k => cageOk (field b k 1))
    && decide (field b 10 1 ≤ 2) && decide (field b 11 1 ≤ 2) && decide (field b 12 2 ≤ 1000)
    && decide (field b 14 1 % 128 ≤ 3) && decide (field b 15 1 < 8)
    && (if todDeclared b then decide (9600 ≤ field b 16 4) && decide (field b 16 4 ≤ 921600) else field b 16 4 == 0)
    && (List.range 18).all (fun k => decide (field b (20 + k) 1 ≤ 200)) && (List.range 4).all (fun k => sourceOk b (field b (38 + k) 1))
    && decide (50 ≤ field b 42 4) && decide (field b 42 4 ≤ 10 ^ 9) && decide (1 ≤ field b 46 4) && decide (field b 46 4 ≤ 10 ^ 9)
    && zeros b 66 446

/-- What the description declares for the timing lands (R92). -/
def boardTime (b : List Byte) : TimeDecl :=
  { ppsIn := field b 10 1
    clk10In := field b 11 1
    todRx := field b 14 1 % 4 != 0
    todFormat := field b 14 1 % 4
    todBaud := field b 16 4
    ppsOut := (field b 15 1).testBit 0
    clk10Out := (field b 15 1).testBit 1
    todTx := (field b 15 1).testBit 2
    stepThreshNs := field b 42 4
    traceLimitNs := field b 46 4
    priority := (List.range 4).map (fun k => field b (38 + k) 1) }

/-- Whether each source that names a port names one that the set runs (R404). -/
def sourcePortsOk (b : List Byte) (c : CfgSet) : Bool :=
  (List.range 4).all (fun k =>
    let v := field b (38 + k) 1
    !(decide (1 ≤ v) && decide (v ≤ 9)) || (c.runs (v - 1) && (v != 9 || field b 4 1 == 1)))

/-! ## Host section and configuration set -/

/-- Whether a host section's values are within range (R291, R292, R294, R351, R360). -/
def hostOk (d : Dev) (h : Config.HostSection) (l : List Sect) : Bool :=
  h.totalVfs.length == 3 && decide (h.totalVfs.foldl (· + ·) 0 ≤ 4092) && h.bar2Log2.length == 4
    && h.bar2Log2.all (fun k => decide (17 ≤ k) && decide (k ≤ 25)) && h.fwChannels.all (fun c => decide (c < 32))
    && (h.option_ == !(ofKind l 5).isEmpty) && (h.peerArea.2 == 0 || (decide (2 ^ 30 ≤ h.peerArea.1) && decide (h.peerArea.1 + h.peerArea.2 ≤ d.ddrSize)))

/-- The device with the values of an image's board description and host section. -/
def Dev.asImage (d : Dev) (b : List Byte) (h : Config.HostSection) : Dev :=
  let d := d.modHif (fun x => { x with
    split := (field b 2 1).testBit 0
    totalVfs := h.totalVfs
    bar2Log2 := h.bar2Log2
    peerAreaBase := h.peerArea.1
    peerAreaSize := h.peerArea.2 })
  let d := d.modBoot (fun x => { x with fwChannels := h.fwChannels })
  (d.modTime (fun t => { t with decl := boardTime b })).modNet (fun n => { n with mgmt := (field b 4 1).testBit 0 })

/-- The set of a configuration set section, still without admission. -/
def configSetOf (x : Config.ConfigSet) : CfgSet :=
  { words := x.words, recs := x.recs.map (fun p => (p.1, keepRec (p.1 / 2 ^ 24) p.2)) }

/-- The device as the check of an image's set finds it (R405): nothing installed, and nominal capacities: each port's configured rate, and
each host link's declared speed at its trained width, its full width while it is down. -/
def Dev.nominal (d : Dev) (b : List Byte) (c : CfgSet) : Dev :=
  let d := d.modCfg (fun _ => { shadow := c })
  let d := (List.range 8).foldl (fun (d : Dev) k => d.set (F.LOOM_BOOK_CAP_CAP k) (if c.portActive k then c.portRate k else 0)) d
  ([0, 1] : List Nat).foldl (fun (d : Dev) k =>
    let width := if d.flag (F.HIF_LINK_STATUS_UP k) then d.get (F.HIF_LINK_STATUS_WIDTH k) else if d.hif.split then 8 else 16
    let cap := if d.hasLink k then hostCapacity (field b 3 1) width else 0
    (d.set (F.LOOM_BOOK_CAP_CAP (12 + 2 * k)) cap).set (F.LOOM_BOOK_CAP_CAP (13 + 2 * k)) cap) d

/-- Whether the board description and the host section of an image pass (R394). -/
def Dev.boardHostOk (d : Dev) (s : Nat) (l : List Sect) : Bool :=
  (ofKind l 4 ++ ofKind l 6).all (fun x => d.sectOk s x) && boardOk (d.sectFor s 4 l) && (match Config.hostSection (d.sectFor s 6 l) with
    | some h => hostOk d h l
    | none => false)

/-- Whether the other sections of an image pass as they load: their digests, and the configuration set read with its time sources. -/
def Dev.restOk (d : Dev) (s : Nat) (l : List Sect) : Bool :=
  l.all (fun x => d.sectOk s x) && (match Config.configSet (d.sectFor s 3 l) with
    | some x => decide (x.version < 16) && sourcePortsOk (d.sectFor s 4 l) (configSetOf x)
    | none => false)

/-- The check of R49 over the set of the image in hand against nominal capacities (R405): the set, its description, and what the check gives. -/
def Dev.installCheck (d : Dev) : Option (Config.ConfigSet × List (Nat × Nat × Nat)) :=
  match Config.configSet (d.sectFor d.boot.running 3 d.boot.sections) with
  | none => none
  | some x => match (d.nominal (d.sectFor d.boot.running 4 d.boot.sections) (configSetOf x)).check (configSetOf x) true with
    | .pass l => some (x, l)
    | .reject _ _ _ _ _ => none

/-- VERIFY (R406): everything R394 requires of a slot, with FORMAT rules only for its set. -/
def Dev.verifyResult (d : Dev) (s : Nat) : Nat :=
  let r := d.manifestResult s
  if r ≠ 0 then r else
  let l := sectsOf (d.manifest s)
  if !l.all (fun x => d.sectOk s x) then 4
  else if !d.boardHostOk s l || !d.restOk s l then 5
  else match Config.hostSection (d.sectFor s 6 l), Config.configSet (d.sectFor s 3 l) with
    | some h, some x =>
      let b := d.sectFor s 4 l
      if (((d.asImage b h).nominal b (configSetOf x)).formatBad (configSetOf x) true).isEmpty then 0 else 5
    | _, _ => 5

end Sys2Proof.Machine
end

