-- ==== Sys2Proof/Machine/Boot.lean ====
section
/-! DEFINITION. Start-up (R372, R385, R399 to R405, R408, R126 to R128, R219, R292): the choice of an image, its measurements, and the steps
to dataplane ready. -/
namespace Sys2Proof.Machine
open Sys2Proof

/-! ## Measurements (R408) -/

/-- A measurement register. -/
def Dev.measured (d : Dev) (i : Nat) : List Byte := d.boot.meas.getD i (List.replicate 64 0)
/-- M_i extended. -/
def Dev.extend (d : Dev) (i : Nat) (x : List Byte) : Dev :=
  d.modBoot (fun b => { b with meas := b.meas.set i (sha512 (d.measured i ++ x)) })
/-- M7 extended with an event: 1 debug, 2 enroll, 3 revoke, 4 rollback. -/
def Dev.extendEvent (d : Dev) (code detail : Nat) : Dev := d.extend 7 (leBytes 8 code ++ leBytes 8 detail)

/-! ## Retirements (R372, R385 to R387) -/

/-- Spares of a kind that are not retired, in order. -/
def Dev.liveSpares (d : Dev) (kind first : Nat) : List Nat :=
  ((List.range (spareEnd kind - first)).map (· + first)).filter (fun p => !d.boot.store.retiredUnits.contains (kind, p))

/-- The retired units of a kind with `n` logical units given to spares in order; one that finds none is OUT, and a firmware core then takes
the physical core of the highest-numbered program core (R387). -/
def Dev.applyUnits (d : Dev) (kind n : Nat) : Dev :=
  let dead := (List.range n).filter (fun u => d.boot.store.retiredUnits.contains (kind, u))
  let spares := d.liveSpares kind n
  let d := (List.range dead.length).foldl (fun (d : Dev) k =>
    let u := dead.getD k 0
    let out := fun (d : Dev) v => (d.modFlt (fun f => { f with outUnits := f.outUnits ++ [(kind, v)] })).set F.FLT_HEALTH_UNITS_OUT 1
    match spares[k]? with
    | some p => d.setPhys kind u p
    | none =>
      if kind = 2 ∧ u < 8 then match d.lastCore with
        | some c => (out d c).setPhys 2 u (d.physOf 2 c)
        | none => out d u
      else if kind = 3 then (out d u).set (F.CIPH_LANE_CFG_OUT u) 1
      else out d u) d
  d.set (spareField kind) (spares.length - dead.length)

/-- The sides in the order A, B, C, those recorded as retired passed over: the first ACTIVE with claim 1, the second STANDBY (R372, R377). -/
def Dev.applySides (d : Dev) : Dev :=
  let live := ([0, 1, 2] : List Nat).filter (fun k => !d.boot.store.retiredSides.contains k)
  let d := ([0, 1, 2] : List Nat).foldl (fun (d : Dev) k =>
    let st := if !live.contains k then 4 else if live[0]? = some k then 1 else if live[1]? = some k then 2 else 0
    (d.set (F.FLT_SIDE_STATE k) st).set (F.FLT_CLAIM_CLAIM k) (if live[0]? = some k then 1 else 0)) d
  let d := d.set F.FLT_HEALTH_RETIRED ((([0, 1, 2] : List Nat).filter (fun k => !live.contains k)).foldl (fun n k => n + 2 ^ k) 0)
  if live.isEmpty then d else (d.setRoles (live.getD 0 0) (live.getD 1 3)).checkDegraded

/-- Every retirement that the persistent store records, applied. -/
def Dev.applyRetired (d : Dev) : Dev :=
  let banks := (d.boot.store.retiredUnits.filter (fun p => p.1 == 5)).length
  let d := (((d.applySides.applyUnits 2 64).applyUnits 3 16).applyUnits 4 32).set F.FLT_HEALTH_BANK_SPARES (2 - banks)
  if d.boot.store.retiredPhases.isEmpty then d else d.set F.FLT_HEALTH_REGULATOR 1

/-! ## Candidates (R399 to R401) -/

/-- BOOT_SLOT_s as the store and the flash give it. -/
def Dev.showSlot (d : Dev) (s : Nat) : Dev :=
  let m := d.manifest s
  let d := d.set (F.BOOT_SLOT_SVN s) (if field m 0 2 = 1 ∧ svnOf m ≤ 64 then svnOf m else 127)
  (d.set (F.BOOT_SLOT_TRIAL s) (if d.boot.store.trial = some s then 1 else 0)).set (F.BOOT_SLOT_PREFERRED s) (if d.boot.store.preferred = s then 1 else 0)
/-- Every BOOT_SLOT register. -/
def Dev.showSlots (d : Dev) : Dev := ([0, 1, 2] : List Nat).foldl (fun (d : Dev) s => d.showSlot s) d

/-- The candidates in order (R399). -/
def Dev.candidateOrder (d : Dev) : List Nat :=
  let p := d.boot.store.preferred % 2
  if !d.sys.recoverN then [2] else match d.boot.store.trial with
    | some t => t :: ([p, 1 - p] : List Nat).filter (fun s => s != t) ++ [2]
    | none => [p, 1 - p, 2]

/-- The next candidate is taken: its manifest is read and checked, and M0 measures it. A start from another image than the one asked for is
reported. With none left the module gives up (R400). -/
def Dev.nextCandidate (d : Dev) : Dev :=
  match d.boot.candidates with
  | [] => d.modBoot (fun b => { b with failed := true, accepted := false })
  | s :: rest =>
    let d := (d.modBoot (fun b => { b with running := s, candidates := rest, accepted := false, sections := [], ownerKey := [] })).set
      F.BOOT_STATUS_RUNNING s
    if d.manifestResult s ≠ 0 then d else
    let m := d.manifest s
    let d := (d.modBoot (fun b => { b with accepted := true, sections := sectsOf m, ownerKey := ownerOf m })).extend 0 (sha512 m)
    let d := ((d.set F.BOOT_STATUS_SVN (svnOf m)).set F.BOOT_IMAGE_VERSION_VERSION (field m 8 8)).set (F.BOOT_SLOT_VERIFIED s) 1
    if s = d.get F.BOOT_STATUS_ASKED then d else (d.set F.BOOT_STATUS_FALLBACK 1).fault Code.bootImage

/-- BOOT_START (R372, R385, R394, R397, R399, R401, R402, R408): the boot ROM reads the fuses and the store, advances BOOT_NUMBER, applies
retirements, and chooses the candidate. With every side retired nothing is started. -/
def execBootStart (s : State) : Host.Outcome State Fault Refusal :=
  let d := s.dev
  if !d.sys.powerGood || d.sys.inReset || d.boot.started then done s d else
  let d := d.modBoot (fun b => { b with
    started := true
    meas := List.replicate 8 (List.replicate 64 0)
    store := { b.store with bootNumber := b.store.bootNumber + 1 } })
  let d := (d.set F.BOOT_COUNT_BOOT_NUMBER d.boot.store.bootNumber).set F.BOOT_STATUS_ROLLBACK d.boot.fuses.rollback
  let d := d.set F.BOOT_STATUS_OWNER_ENROLLED (if d.keyInForce.isSome then 1 else 0)
  let d := (d.applyRetired).set F.BOOT_STATUS_RECOVER (if d.sys.recoverN then 0 else 1)
  let order := d.candidateOrder
  let d := d.modBoot (fun b => { b with candidates := order, store := { b.store with trial := if d.sys.recoverN then none else b.store.trial } })
  let d := (d.set F.BOOT_STATUS_ASKED (order.getD 0 2)).showSlots
  done s (if ([0, 1, 2] : List Nat).all (fun k => d.side k == 4) then d.modBoot (fun b => { b with failed := true, candidates := [] })
    else d.nextCandidate)

/-- Whether the candidate in hand fails at the step it has reached (R394, R400, R405). -/
def Dev.candidateBad (d : Dev) : Bool :=
  let s := d.boot.running
  !d.boot.accepted || (!d.sys.configReady && !d.boardHostOk s d.boot.sections)
    || (d.sys.configReady && !d.sys.firmwareLoaded && !d.restOk s d.boot.sections)
    || (d.sys.firmwareLoaded && s != 2 && d.installCheck.isNone)

/-- A candidate that fails once configuration space is ready: the host links go down, and the next one starts as at power-good. -/
def Dev.restart (d : Dev) : Dev :=
  let d := ([0, 1] : List Nat).foldl (fun (d : Dev) k =>
    let d := if d.hasLink k then d.showLink k 0 0 0 else d
    ((d.set (F.HIF_LINK_STATUS_SPLIT k) 0).set (F.HIF_LINK_STATUS_SRIS k) 0).set (F.LOOM_BOOK_CAP_CAP (12 + 2 * k)) 0
      |>.set (F.LOOM_BOOK_CAP_CAP (13 + 2 * k)) 0) d
  let d := (d.modHif (fun _ => {})).modBarb (fun _ => {})
  let d := (d.modTime (fun t => { t with decl := {} })).modNet (fun n => { n with mgmt := false })
  let d := d.modBoot (fun b => { b with spdm := [], fwChannels := [] })
  (d.modSys (fun x => { x with configReady := false, ddr5Trained := false, firmwareLoaded := false })).set F.DRAM_STATUS_READY 0

/-- CANDIDATE_FAIL (R394, R400, R405). -/
def execCandidateFail (s : State) : Host.Outcome State Fault Refusal :=
  let d := s.dev
  if !d.boot.started || d.boot.failed || d.sys.ready || !d.candidateBad then done s d else
  done s (if d.sys.configReady then d.restart else d).nextCandidate

/-! ## The steps of Table 3 -/

/-- The board description in force: that of the image, or the stored copy for the golden image (R404). -/
def Dev.boardInForce (d : Dev) : Option (List Byte) :=
  if d.boot.running = 2 then d.boot.store.board else some (d.sectFor d.boot.running 4 d.boot.sections)

/-- What the board description and the host section set: the host links, the timing lands, the management port, and BAR sizes (R288, R289,
R291, R292, R404). The golden image has no VFs. -/
def Dev.applyBoard (d : Dev) (h : Config.HostSection) : Dev :=
  let d := match d.boardInForce with
    | some b => d.asImage b h
    | none => (d.asImage (List.replicate 512 0) h).modTime (fun t => { t with decl := {} })
  let b := d.boardInForce.getD (List.replicate 512 0)
  let d := if d.boot.running = 2 then d.modHif (fun x => { x with totalVfs := [0, 0, 0] })
    else d.modBoot (fun x => { x with store := { x.store with board := some b } })
  let d := ([0, 1] : List Nat).foldl (fun (d : Dev) k => (d.set (F.HIF_LINK_STATUS_SPLIT k) (if d.hif.split then 1 else 0)).set
    (F.HIF_LINK_STATUS_SRIS k) (if (field b 2 1).testBit (1 + k) then 1 else 0)) d
  (d.set F.TIME_TOD_CFG_RX_EN (if d.time.decl.todRx then 1 else 0)).set F.TIME_TOD_CFG_BAUD d.time.decl.todBaud

/-- The digest of the one section of a type. -/
def Dev.digestOf (d : Dev) (k : Nat) : List Byte := ((ofKind d.boot.sections k).flatMap (fun x => x.digest))

/-- CONFIG_SPACE_READY (R32, R92, R288, R289, R291, R401, R402, R404, R408): the board description and the host section are loaded, and
measured by M4 and M5. -/
def execConfigSpaceReady (s : State) : Host.Outcome State Fault Refusal :=
  let d := s.dev
  if !d.boot.started || d.boot.failed || d.sys.configReady || d.candidateBad then done s d else
  match Config.hostSection (d.sectFor d.boot.running 6 d.boot.sections) with
  | none => done s d
  | some h =>
    let d := ((d.applyBoard h).extend 4 (d.digestOf 4)).extend 5 (d.digestOf 6)
    done s (d.modSys (fun x => { x with configReady := true }))

/-- FIRMWARE_LOADED (R260, R402, R408): every other section has been read and hashed; M1, M2, M3 and M5 measure them, and firmware runs in
cores 0 to 7. -/
def execFirmwareLoaded (s : State) : Host.Outcome State Fault Refusal :=
  let d := s.dev
  if !d.sys.configReady || d.sys.firmwareLoaded || d.boot.failed || d.candidateBad then done s d else
  let d := (d.extend 1 (d.digestOf 1)).extend 3 (d.digestOf 3)
  let d := (ofKind d.boot.sections 2).foldl (fun (d : Dev) x => d.extend 2 x.digest) d
  let d := (ofKind d.boot.sections 5).foldl (fun (d : Dev) x => d.extend 5 x.digest) d
  let k := d.imageKey
  let d := d.modBarb (fun b => { b with
    code := (List.range 64).map (fun c => (c, Config.codeWords k c))
    master := (List.range 64).map (fun c => (c, Config.masterEntry k c)) })
  let d := (List.range 8).foldl (fun (d : Dev) c => if d.flt.outUnits.contains (2, c) then d else d.startCore c) d
  done s (d.modSys (fun x => { x with firmwareLoaded := true }))

/-- Random bytes from the CTR_DRBG: free values. -/
def Dev.random (d : Dev) : Nat → Dev × List Byte
  | 0 => (d, [])
  | n + 1 =>
    let (v, d) := d.fresh
    let (d, l) := d.random n
    (d, leBytes 8 v.toNat ++ l)

/-- The ledger key and the forwarding hash seeds drawn, and the generator of neighbour refresh seeded (R126, R167, R219); the root island derives the
die key, of whose source R197 says nothing. -/
def Dev.drawKeys (d : Dev) : Dev :=
  let d := (d.drbgUsed 3).modCiph (fun c => { c with dieKey := Config.dieKey d.free })
  let (d, key) := d.random 4
  let pub := edPublic key
  let d := d.modLedg (fun l => { l with privateKey := key, publicKey := pub })
  let d := ((d.set F.LEDG_KEY_ID_KEY_ID (leNat (keyId pub))).set F.LEDG_STATUS_KEY_READY 1).putWords 0x400040 8 (leNat pub)
  let (v, d) := d.fresh
  (d.set F.FWD_SEED_SEED_ONDIE (v.toNat % 2 ^ 16)).set F.FWD_SEED_SEED_DDR5 (v.toNat / 2 ^ 16 % 2 ^ 16)

/-- ENTROPY_STARTUP_TEST (R219, R220, R402): a pass makes the CTR_DRBG ready, and the ledger key and hash seeds are drawn; a failure is
reported, and the test is repeated. -/
def execEntropyStartupTest (pass : Bool) (s : State) : Host.Outcome State Fault Refusal :=
  let d := s.dev
  if !d.boot.started || d.boot.failed || d.sys.ready || d.drbgReady then done s d
  else if pass then done s d.drbgSeed.drawKeys
  else done s (((d.raise F.CIPH_EVENT_ENTROPY_FAIL).fault Code.entropy).count K.CIPH_ENTROPY_FAIL)

/-- DDR5_TRAINED (R371, R402): DDR5 is trained and cleared, and rows repaired in the last run are permanent. -/
def execDdr5Trained (s : State) : Host.Outcome State Fault Refusal :=
  let d := s.dev
  if !d.sys.configReady || d.sys.ddr5Trained || d.boot.failed then done s d else
  let d := (d.modSys (fun x => { x with ddr5Trained := true })).set F.DRAM_STATUS_READY 15
  .next (s.cleared (d.modDram (fun r => { r with wq := [], poison := [] })))

/-- The image's set installed and active with its VERSION (R405), and every block starting from it (R65, R121, R128, R252, R318). -/
def Dev.installImage (d : Dev) (x : Config.ConfigSet) (passed : List (Nat × Nat × Nat)) (h : Config.HostSection) : Dev :=
  let b := d.sectFor d.boot.running 4 d.boot.sections
  let set := (configSetOf x).admitted passed
  let d := (d.nominal b (configSetOf x)).modCfg (fun _ => { active := set, shadow := set, version := x.version, hostVersion := [x.version, x.version] })
  let d := (d.set F.HED_VERSION_ACTIVE x.version).set F.LOOM_COMMIT_STATUS_VERSION x.version
  let d := x.live.foldl (fun (d : Dev) p => d.putWord p.1 p.2) d
  let d := h.bindings.foldl (fun (d : Dev) p => d.putWord (0xD01000 + 4 * (p.1 % 256)) p.2) d
  let d := (d.set F.DRAM_PEER_AREA_BASE (h.peerArea.1 / 2 ^ 30)).set F.DRAM_PEER_AREA_SIZE_LOG2 (Nat.log2 h.peerArea.2)
  let d := d.modSys (fun y => { y with ready := true })
  let d := (((List.range 8).foldl (fun (d : Dev) n => d.gateInstall n) ((d.swapBuckets {}).ringsSwap {})).portSwap {}).showBooks
  let d := (List.range 8).foldl (fun (d : Dev) s => if d.sh (F.LEDG_STREAM_CFG_ENABLE s) = 1 then d.startStream s else d) d
  let d := (List.range 64).foldl (fun (d : Dev) c => if c < 8 ∨ d.flt.outUnits.contains (2, c) then d else d.startCore c) d
  ([0, 1] : List Nat).foldl (fun (d : Dev) k =>
    if d.flag (F.HIF_LINK_STATUS_UP k) then d.hostBooks k (hostCapacity (d.get (F.HIF_LINK_STATUS_SPEED k)) (d.get (F.HIF_LINK_STATUS_WIDTH k))) else d)
    d.showOwners

/-- DATAPLANE_READY (R1, R27, R121, R126 to R128, R260, R372, R390, R401, R402, R405, R433): everything of Table 3 is done. READY and
FAULT_N rise, ports are enabled, and the streams the image enables start. The golden image never gets here. -/
def execDataplaneReady (s : State) : Host.Outcome State Fault Refusal :=
  let d := s.dev
  if d.sys.ready || d.boot.failed || d.boot.running == 2 || !d.sys.firmwareLoaded || !d.sys.ddr5Trained || !d.drbgReady || !d.sys.ethRefclk
      || ([0, 1, 2] : List Nat).any (fun k => d.side k == 5) then done s d
  else match d.installCheck, Config.hostSection (d.sectFor d.boot.running 6 d.boot.sections) with
    | some (x, l), some h => doneH s ((d.installImage x l h).set F.BOOT_STATUS_DATAPLANE_READY 1)
    | _, _ => done s d

/-! ## Expansion ROM -/

/-- ROM_READ (R292): bytes of the running image's option image, 0xFF beyond its end; PF_0, and PF_2 in SPLIT mode, have the BAR where the
image holds one. -/
def execRomRead (inst offset length : Nat) (s : State) : Host.Outcome State Fault Refusal :=
  let d := s.dev
  let has := inst = 0 ∨ (inst = 2 ∧ d.hif.split = true)
  match ofKind d.boot.sections 5 with
  | x :: _ =>
    if !d.sys.configReady ∨ ¬has ∨ offset + length > 2 ^ 20 then done s (d.emit (.unsupported offset)) else
    done s (d.emit (.bytes 6 ((List.range length).map (fun i =>
      if offset + i < x.length then mapGetD d.boot.flash (regionBase d.boot.running + x.offset + offset + i) 0xFF else 0xFF))))
  | [] => done s (d.emit (.unsupported offset))

end Sys2Proof.Machine
end

