-- ==== Sys2Proof/Machine/BootOps.lean ====
section
/-! DEFINITION. BOOT_CTRL operations, owner keys, anti-rollback, and debug unlock (R392, R395 to R399, R406, R412 to R414). -/
namespace Sys2Proof.Machine
open Sys2Proof

/-! Results of BOOT_CTRL. -/
namespace Br
def ok : Nat := 0
def range : Nat := 1
def state : Nat := 2
def signature : Nat := 3
def goldenLow : Nat := 6
def flash : Nat := 7
end Br

/-- The slot that is not running; while the golden image runs both are, and BOOT_ARG bit 0 names one (DESIGN CHOICE, assumption log 39). -/
def Dev.idleSlot (d : Dev) : Nat := if d.boot.running = 2 then d.get F.BOOT_ARG_ARG % 2 else 1 - d.boot.running

/-- A GO: OP is stored, BUSY is set, and `f` gives the device and the result that the end of the operation will show; what the operation changes
in flash, the store or the fuses it changes at its end (`Dev.bootApply`). A GO while BUSY is ignored. -/
def Dev.bootOp (d : Dev) (op : Nat) (f : Dev → Dev × Nat) : Dev :=
  if !d.responds 0x1200008 || d.flag F.BOOT_CTRL_BUSY then d else
  let a := regionBase d.idleSlot + d.get F.BOOT_ADDR_OFFSET
  let (d, r) := f ((d.set F.BOOT_CTRL_OP op).set F.BOOT_CTRL_BUSY 1)
  d.modBoot (fun b => { b with op := some { op := op, result := r, arg := d.get F.BOOT_ARG_ARG, addr := a,
                                            data := if op = 2 then d.winBytes 0x1200100 256 else [] } })

/-- An operation that needs KEY in the same write (R414); without it only OP is stored. -/
def Dev.keyedOp (d : Dev) (op key : Nat) (f : Dev → Dev × Nat) : Dev :=
  if key = 0xB007 then d.bootOp op f
  else if !d.responds 0x1200008 || d.flag F.BOOT_CTRL_BUSY then d else d.set F.BOOT_CTRL_OP op

/-- A flash operation at BOOT_ADDR of the slot that is not running: `align` of the offset, and `n` bytes. -/
def Dev.flashOp (d : Dev) (op align n : Nat) (f : Dev → Nat → Dev × Nat) : Dev :=
  d.bootOp op (fun d =>
    let a := d.get F.BOOT_ADDR_OFFSET
    if a % align ≠ 0 ∨ a + n > regionSize 0 then (d, Br.range) else f d (regionBase d.idleSlot + a))

/-- An erase or program failure (R386, R392): `failure` is 0 none, 1 the block is remapped to a spare of its region, 2 no spare is left.
The answer says whether the operation failed. -/
def Dev.flashFailure (d : Dev) (failure a : Nat) : Dev × Bool :=
  let block := a / 65536 % 65536
  let region := a / 0x7000000
  match failure with
  | 0 => (d, false)
  | 1 =>
    let d := (d.raise F.BOOT_EVENT_FLASH_ERROR).modStore (fun x => { x with
      spareBlocksUsed := mapPut x.spareBlocksUsed region (mapGetD x.spareBlocksUsed region 0 + 1) })
    ((d.spareRecord 8 block 1 Code.unitSpared).sparedNote 8 block 0, false)
  | _ => (((d.raise F.BOOT_EVENT_FLASH_ERROR).set F.FLT_HEALTH_FLASH_LOW 1).fault Code.flashSpares 8 block, true)

/-! ## Flash (R392, R406) -/

/-- READ (R406, R414). -/
def execBootRead (s : State) : Host.Outcome State Fault Refusal :=
  done s (s.dev.flashOp 0 1 256 (fun d a => (d.putWords 0x1200100 64 (leNat (d.flashBytes a 256)), Br.ok)))

/-- ERASE (R392, R406). -/
def execErase (failure : Nat) (s : State) : Host.Outcome State Fault Refusal :=
  done s (s.dev.flashOp 1 65536 65536 (fun d a =>
    let d := d.set (F.BOOT_SLOT_VERIFIED d.idleSlot) 0
    let (d, failed) := d.flashFailure failure a
    (d, if failed then Br.flash else Br.ok)))

/-- PROGRAM (R392, R406). -/
def execProgram (failure : Nat) (s : State) : Host.Outcome State Fault Refusal :=
  done s (s.dev.flashOp 2 256 256 (fun d a =>
    let d := d.set (F.BOOT_SLOT_VERIFIED d.idleSlot) 0
    let (d, failed) := d.flashFailure failure a
    (d, if failed then Br.flash else Br.ok)))

/-- VERIFY (R394, R406). -/
def execVerify (s : State) : Host.Outcome State Fault Refusal :=
  done s (s.dev.bootOp 3 (fun d =>
    let r := d.verifyResult d.idleSlot
    (d.set (F.BOOT_SLOT_VERIFIED d.idleSlot) (if r = 0 then 1 else 0), r)))

/-! ## Slots (R399, R406) -/

/-- NEXT (R406): accepted for a slot with VERIFIED = 1; PREFERRED or TRIAL changes when the operation ends. -/
def execNext (s : State) : Host.Outcome State Fault Refusal :=
  done s (s.dev.bootOp 4 (fun d =>
    (d, if d.get (F.BOOT_SLOT_VERIFIED (d.get F.BOOT_ARG_ARG % 2)) = 1 then Br.ok else Br.state)))

/-- CONFIRM (R406): allowed after dataplane ready. -/
def execConfirm (s : State) : Host.Outcome State Fault Refusal :=
  done s (s.dev.bootOp 5 (fun d => (d, if d.sys.ready then Br.ok else Br.state)))

/-! ## Fuses (R395 to R398) -/

/-- The fuses changed, and the registers that show them. -/
def Dev.burn (d : Dev) (f : Fuses → Fuses) : Dev :=
  let d := d.modBoot (fun b => { b with fuses := f b.fuses })
  (d.set F.BOOT_STATUS_ROLLBACK d.boot.fuses.rollback).set F.BOOT_STATUS_OWNER_ENROLLED (if d.keyInForce.isSome then 1 else 0)

/-- The SVN of the golden image; 0 when its manifest is unreadable. -/
def Dev.goldenSvn (d : Dev) : Nat := let m := d.manifest 2; if field m 0 2 = 1 then svnOf m else 0

/-- ROLLBACK (R398, R408): the count is to be burned up to the target in BOOT_ARG. -/
def execRollback (key : Nat) (s : State) : Host.Outcome State Fault Refusal :=
  done s (s.dev.keyedOp 6 key (fun d =>
    let t := d.get F.BOOT_ARG_ARG
    (d, if d.boot.running = 2 ∨ t ≤ d.boot.fuses.rollback ∨ t > 64 ∨ t > d.get F.BOOT_STATUS_SVN then Br.state
        else if d.goldenSvn < t then Br.goldenLow else Br.ok)))

/-- ENROLL (R396, R408): the hash of the running image's OWNER_PUBKEY is to be burned into the next unwritten place. -/
def execEnroll (key : Nat) (s : State) : Host.Outcome State Fault Refusal :=
  done s (s.dev.keyedOp 7 key (fun d =>
    (d, if d.boot.running = 2 ∨ d.keyInForce = some (ownerHash d.boot.ownerKey) ∨ d.boot.fuses.places.all (fun p => p.isSome) = true then Br.state
        else Br.ok)))

/-- REVOKE (R396, R408): the REVOKED bit of the place in BOOT_ARG is to be burned, unless it would revoke the key of the running image or the last
place that is not revoked. -/
def execRevoke (key : Nat) (s : State) : Host.Outcome State Fault Refusal :=
  done s (s.dev.keyedOp 8 key (fun d =>
    let k := d.get F.BOOT_ARG_ARG
    let live := d.boot.fuses.places.filter (fun p => match p with
      | some x => !x.revoked
      | none => false)
    match (d.boot.fuses.places.getD k none) with
    | none => (d, if k > 3 then Br.range else Br.state)
    | some x => (d, if (d.boot.running ≠ 2 ∧ x.hash = ownerHash d.boot.ownerKey) ∨ (!x.revoked ∧ live.length ≤ 1) then Br.state else Br.ok)))

/-- What an operation that succeeds changes at its end (R396, R398, R406, R408): the block erased or programmed, PREFERRED and TRIAL, or the fuses,
each fuse burned extending M7. -/
def Dev.bootApply (d : Dev) (r : BootRun) : Dev :=
  match r.op with
  | 1 => d.flashErase r.addr 65536
  | 2 => d.flashWrite r.addr r.data
  | 4 => d.modStore (fun x => if r.arg.testBit 1 then { x with trial := some (r.arg % 2) } else { x with preferred := r.arg % 2 })
  | 5 => d.modStore (fun x => { x with preferred := d.boot.running, trial := none })
  | 6 =>
    let n := d.boot.fuses.rollback
    (List.range (r.arg - n)).foldl (fun (d : Dev) k => (d.burn (fun f => { f with rollback := n + 1 + k })).extendEvent 4 (n + 1 + k)) d
  | 7 => (d.burn (fun f => f.enroll (ownerHash d.boot.ownerKey))).extendEvent 2 ((d.boot.fuses.places.findIdx? (fun p => p.isNone)).getD 0)
  | 8 => (d.burn (fun f => f.revoke r.arg)).extendEvent 3 r.arg
  | _ => d

/-- BOOT_OP_COMPLETE (R406, R414): the operation ends, and takes its effect. A reset before it leaves PREFERRED and TRIAL as they were. -/
def execBootOpComplete (s : State) : Host.Outcome State Fault Refusal :=
  let d := s.dev
  match d.boot.op with
  | none => done s d
  | some r =>
    let d := d.modBoot (fun b => { b with op := none })
    let d := if r.result = 0 then d.bootApply r else d
    done s (((d.set F.BOOT_CTRL_BUSY 0).set F.BOOT_CTRL_RESULT r.result).raise F.BOOT_EVENT_OP_DONE).showSlots

/-! ## Debug unlock (R412, R413) -/

/-- DEBUG_NONCE_READ (R220, R413): the low word of a fresh nonce; while the DRBG is stopped it is 0. -/
def execDebugNonceRead (s : State) : Host.Outcome State Fault Refusal :=
  let d := s.dev
  if !d.responds 0x1200030 then done s (d.emit (.readData 0)) else
  let (v, d) := if d.drbgReady then (let (v, d) := d.fresh; (v.toNat, d.drbgUsed 1)) else (0, d)
  let d := (d.set F.BOOT_DEBUG_NONCE_NONCE v).modBoot (fun b => { b with nonce := v, nonceTime := d.time.cycles, nonceOk := d.drbgReady })
  done s (d.emit (.readData (v % 2 ^ 32)))

/-- Whether a debug certificate is granted (Table 7, R413): its format, its serial number, its nonce, and its signature. -/
def Dev.certOk (d : Dev) (c : List Byte) : Bool :=
  let kind := field c 0 1
  let scope := field c 1 1
  let sig := sliceBytes c 64 64
  let body := c.take 64
  let fresh := d.boot.nonceOk && field c 8 8 == d.boot.nonce && decide (d.time.cycles - d.boot.nonceTime ≤ 60 * secondCycles)
  let owner := match d.keyInForce with
    | some h => ownerHash d.boot.ownerKey == h && edVerify d.boot.ownerKey body sig
    | none => edVerify d.boot.ownerKey body sig
  c.length == 128 && decide (scope < 8) && zeros c 2 6 && zeros c 32 32 && sliceBytes c 16 16 == sliceBytes Config.serial 0 16 && fresh
    && (match kind with
      | 1 => !scope.testBit 1 && owner
      | 2 => Config.debugKeys.any (fun k => edVerify k body sig)
      | _ => false)

/-- A certificate presented (R412, R413): a grant sets its scope, extends M7 and uses up its nonce; a refusal sets RESULT SIGNATURE. -/
def Dev.debugCert (d : Dev) (c : List Byte) : Dev :=
  if !d.certOk c then d.set F.BOOT_CTRL_RESULT Br.signature else
  let scope := field c 1 1
  let d := d.set F.BOOT_STATUS_DEBUG (d.get F.BOOT_STATUS_DEBUG ||| scope)
  let d := if scope.testBit 0 then d.set F.BARB_DBG_STATUS_DEBUG_EN 1 else d
  let d := if scope.testBit 1 then d.set F.BARB_DBG_STATUS_VENDOR_EN 1 else d
  let d := (d.extendEvent 1 scope).raise F.BOOT_EVENT_DEBUG_UNLOCK
  (d.set F.BOOT_CTRL_RESULT Br.ok).modBoot (fun b => { b with nonceOk := false })

/-- DEBUG_CERT_SUBMIT (R412, R413): SUBMIT checks the certificate in the BOOT_DEBUG_CERT window. -/
def execDebugCertSubmit (s : State) : Host.Outcome State Fault Refusal :=
  let d := s.dev
  if d.responds 0x1200038 then done s (d.debugCert (d.winBytes 0x1200400 128)) else done s d

/-- DBG_IO_COMMAND (R285, R412, R413): the debug port. `command` 0 asks for identification, 1 presents the certificate `bytes`, 2 to 4 halt,
resume and step a thread, 5 writes an item of a halted thread from `bytes` and 6 reads one; while the port is locked, only the first two
are answered. -/
def execDbgIoCommand (command core thread item : Nat) (bytes : List Byte) (s : State) : Host.Outcome State Fault Refusal :=
  let d := s.dev
  let n := 8 * core + thread
  let out := fun (d : Dev) l => d.emit (.bytes 5 l)
  if !d.sys.powerGood || d.sys.inReset || !d.boot.started then done s d else
  match command with
  | 0 => done s (out d (leBytes 4 (d.word 0).toNat))
  | 1 => done s (d.debugCert bytes)
  | _ =>
    if !(d.get F.BOOT_STATUS_DEBUG).testBit 2 then done s d else
    match command with
    | 2 => done s (d.debugHalt core thread)
    | 3 => done s (d.debugResume core thread)
    | 4 => done s (d.debugStep core thread)
    | 5 =>
      if !d.debugAt core thread || !(d.thread n).halted || item = 0 || item > 32 then done s d else
      done s (d.modThread n (fun t => if item = 32 then { t with pc := leNat bytes } else t.setReg item (BitVec.ofNat 64 (leNat bytes))))
    | 6 => if d.debugAt core thread then done s (out d (leBytes 8 ((d.thread n).item item).toNat)) else done s d
    | _ => done s d

end Sys2Proof.Machine
end

