-- ==== Sys2Proof/Machine/Attest.lean ====
section
/-! DEFINITION. Attestation (R407 to R411): the SPDM responder over DOE and MCTP, and the MCTP vendor commands. The byte layout of SPDM
messages is DSP0274's and not the spec's: an answer is its response code and the contents that R409 names, in the order given here
(PRESUMED, assumption log 38). Transports are 0 DOE of PF_0, 1 MCTP, 2 DOE of PF_2. -/
namespace Sys2Proof.Machine
open Sys2Proof

/-! ## Keys and chains (R407, R409) -/

/-- The seed of the attestation key: it changes with the rollback count. -/
def Dev.attestKey (d : Dev) : List Byte := Config.attestSeed d.boot.fuses.rollback
/-- The certificate chain of a slot: slot 0 the identity chain, slot 1 that chain extended by the attestation certificate. -/
def Dev.chain (d : Dev) (slot : Nat) : List Byte :=
  if slot = 0 then Config.certChain else Config.certChain ++ Config.attestCert (edPublic d.attestKey)

/-! ## The responder (R409, R410) -/

/-! SPDM codes: a request and its response. -/
namespace Sp
def version : Nat × Nat := (0x84, 0x04)
def capabilities : Nat × Nat := (0xE1, 0x61)
def algorithms : Nat × Nat := (0xE3, 0x63)
def digests : Nat × Nat := (0x81, 0x01)
def certificate : Nat × Nat := (0x82, 0x02)
def challenge : Nat × Nat := (0x83, 0x03)
def measurements : Nat × Nat := (0xE0, 0x60)
/-! Error codes of ERROR (0x7F). -/
def invalid : Nat := 1
def busy : Nat := 3
def unexpected : Nat := 4
def unsupported : Nat := 7
end Sp

/-- The responder's output on a transport. -/
def Dev.spdmOut (d : Dev) (transport : Nat) (l : List Byte) : Dev := d.emit (.bytes (2 + transport) l)
/-- An ERROR answer. -/
def Dev.spdmError (d : Dev) (transport code : Nat) : Dev := d.spdmOut transport [0x7F, BitVec.ofNat 8 code]
/-- The context of a transport. -/
def Dev.spdmAt (d : Dev) (transport : Nat) : Spdm := mapGetD d.boot.spdm transport {}
/-- Whether the responder answers on a transport: firmware runs it, and a DOE function answers configuration requests. -/
def Dev.spdmOn (d : Dev) (transport : Nat) : Bool :=
  d.sys.powerGood && !d.sys.inReset && !d.boot.failed && d.sys.firmwareLoaded
    && (transport == 1 || ((transport == 0 || transport == 2) && !d.configRetry transport && (d.fn transport).state != FnSt.disabled))

/-- One request: `early` says that it came on MCTP while that transport's previous request was unanswered, and is answered Busy (R410);
`need` is the stage that the context must have reached, or the request is unexpected; `f` gives the contents of the answer or an error, and
`next` is the stage that it leads to. The context keeps the request and the answer. -/
def Dev.spdm (d : Dev) (transport : Nat) (early : Bool) (need next : Nat) (code : Nat × Nat) (asked : List Byte)
    (f : List Byte → Except Nat (List Byte)) : Dev :=
  if !d.spdmOn transport then d
  else if early && transport == 1 then d.spdmError transport Sp.busy
  else
    let x := if need = 0 then {} else d.spdmAt transport
    if x.stage < need then d.spdmError transport Sp.unexpected else
    let t := x.transcript ++ [BitVec.ofNat 8 code.1] ++ asked
    match f t with
    | .error e => d.spdmError transport e
    | .ok l =>
      let answer := BitVec.ofNat 8 code.2 :: l
      (d.modBoot (fun b => { b with spdm := mapPut b.spdm transport { stage := max next x.stage, transcript := t ++ answer } })).spdmOut
        transport answer

/-- GET_VERSION: SPDM 1.2; the context starts anew. -/
def execGetVersion (transport : Nat) (early : Bool) (s : State) : Host.Outcome State Fault Refusal :=
  done s (s.dev.spdm transport early 0 1 Sp.version [] (fun _ => .ok (leBytes 2 0x1200)))

/-- GET_CAPABILITIES: certificates (bit 1), challenge (bit 2), signed measurements (bits 4:3 = 2), and nothing else. -/
def execGetCapabilities (transport : Nat) (early : Bool) (s : State) : Host.Outcome State Fault Refusal :=
  done s (s.dev.spdm transport early 1 2 Sp.capabilities [] (fun _ => .ok (leBytes 4 0x16)))

/-- NEGOTIATE_ALGORITHMS: the request offers Ed25519, SHA-512 and the DMTF measurement specification, or none is agreed. -/
def execNegotiateAlgorithms (transport : Nat) (ed25519 sha512_ dmtf early : Bool) (s : State) : Host.Outcome State Fault Refusal :=
  let bit := fun (b : Bool) n => if b then n else 0
  done s (s.dev.spdm transport early 2 3 Sp.algorithms (leBytes 1 (bit ed25519 1 + bit sha512_ 2 + bit dmtf 4)) (fun _ =>
    if ed25519 && sha512_ && dmtf then .ok (leBytes 1 7) else .error Sp.invalid))

/-- GET_DIGESTS: the slots present, and SHA-512 of each chain. -/
def execGetDigests (transport : Nat) (early : Bool) (s : State) : Host.Outcome State Fault Refusal :=
  let d := s.dev
  done s (d.spdm transport early 3 3 Sp.digests [] (fun _ => .ok (leBytes 1 3 ++ sha512 (d.chain 0) ++ sha512 (d.chain 1))))

/-- GET_CERTIFICATE: a portion of the chain of slot 0 or 1, and how much of it remains. -/
def execGetCertificate (transport slot offset length : Nat) (early : Bool) (s : State) : Host.Outcome State Fault Refusal :=
  let d := s.dev
  done s (d.spdm transport early 3 3 Sp.certificate (leBytes 1 slot ++ leBytes 2 offset ++ leBytes 2 length) (fun _ =>
    let c := d.chain slot
    if slot > 1 ∨ offset ≥ c.length then .error Sp.invalid else
    let part := (c.drop offset).take length
    .ok (leBytes 1 slot ++ leBytes 2 part.length ++ leBytes 2 (c.length - offset - part.length) ++ part)))

/-- CHALLENGE: the digest of the slot's chain, the request's nonce, and a signature with the slot 1 key over the context. -/
def execChallenge (transport slot : Nat) (nonce : List Byte) (early : Bool) (s : State) : Host.Outcome State Fault Refusal :=
  let d := s.dev
  let asked := leBytes 1 slot ++ nonce
  done s (d.spdm transport early 3 3 Sp.challenge asked (fun t =>
    if slot > 1 ∨ nonce.length ≠ 32 then .error Sp.invalid else
    let body := leBytes 1 slot ++ sha512 (d.chain slot) ++ nonce
    .ok (body ++ edSign d.attestKey (t ++ body))))

/-- The value of a measurement index: 1 to 8 are M0 to M7, 9 is BOOT_STATUS and the rollback count (R409). -/
def Dev.measurement (d : Dev) (i : Nat) : List Byte :=
  if i = 9 then leBytes 4 (d.word 0x1200000).toNat ++ leBytes 1 d.boot.fuses.rollback else d.measured (i - 1)

/-- GET_MEASUREMENTS (R409, R410): index 0 asks for the number of indices, 255 for all, latched together; `sign` asks for a signature. -/
def execGetMeasurements (transport index : Nat) (sign : Bool) (nonce : List Byte) (early : Bool) (s : State) : Host.Outcome State Fault Refusal :=
  let d := s.dev
  let asked := leBytes 1 index ++ leBytes 1 (if sign then 1 else 0) ++ nonce
  done s (d.spdm transport early 3 3 Sp.measurements asked (fun t =>
    if index > 9 ∧ index ≠ 255 then .error Sp.invalid else
    let l : List Nat := if index = 0 then [] else if index = 255 then [1, 2, 3, 4, 5, 6, 7, 8, 9] else [index]
    let body := leBytes 1 (if index = 0 then 9 else l.length) ++ l.flatMap (fun i => leBytes 1 i ++ d.measurement i)
    .ok (body ++ (if sign then edSign d.attestKey (t ++ body) else []))))

/-- SPDM_UNSUPPORTED: any other message is answered with ERROR UnsupportedRequest. -/
def execSpdmUnsupported (transport : Nat) (early : Bool) (s : State) : Host.Outcome State Fault Refusal :=
  let d := s.dev
  if !d.spdmOn transport then done s d
  else done s (d.spdmError transport (if early && transport == 1 then Sp.busy else Sp.unsupported))

/-! ## MCTP vendor commands (R411) -/

/-- READ_HEALTH: FLT_HEALTH and BOOT_STATUS. It works in the golden image and after a failed start as well. -/
def execReadHealth (s : State) : Host.Outcome State Fault Refusal :=
  let d := s.dev
  if !d.sys.powerGood || !d.boot.started then done s d else
  done s (d.emit (.bytes 3 (leBytes 4 (d.word 0x1000000).toNat ++ leBytes 4 (d.word 0x1200000).toNat)))

/-- READ_ID: GEN_ID and the serial number. -/
def execReadId (s : State) : Host.Outcome State Fault Refusal :=
  let d := s.dev
  if !d.sys.powerGood || !d.boot.started then done s d else
  done s (d.emit (.bytes 3 (leBytes 4 (d.word 0).toNat ++ sliceBytes Config.serial 0 16)))

end Sys2Proof.Machine
end

