-- ==== Sys2Proof/Machine/Read.lean ====
section
/-! DEFINITION. What a plain BAR0 read returns (R10, R11, R30, R403, R452). Such a read changes nothing, so the table has no row for it;
reads with an effect are commands of their own. -/
namespace Sys2Proof.Machine
open Sys2Proof

/-- HED_VERSION with the shuttles that carry the retiring version. -/
def Dev.showVersion (d : Dev) : Nat := bitsSet (d.word 0x500000).toNat 15 17 (min (2 ^ 17 - 1) d.retiringShuttles)
/-- FWD_LEARN_STATUS with the learn requests queued. -/
def Dev.showLearn (d : Dev) : Nat := bitsSet (d.word 0x600010).toNat 0 13 (min 4096 d.fwd.queue.length)
/-- REED_PORT_p_STATUS with the guaranteed shuttles queued. -/
def Dev.showReed (d : Dev) (p : Nat) : Nat :=
  bitsSet (d.word (0x901004 + 0x10 * p)).toNat 0 16 (min 65535 (d.shuts.filter (fun (x : Nat × Shut) =>
    x.2.stage == .reed && x.2.guaranteed && x.2.get S.DEST_PORT == p)).length)
/-- BARB_LOCK_OWNER of the lock that BARB_LOCK_QUERY names (R270, R285). -/
def Dev.showLock (d : Dev) : Nat :=
  match mapGet d.barb.locks (d.get F.BARB_LOCK_QUERY_INDEX) with
  | none => 0
  | some l => 2 ^ 31 + (if (d.thread l.owner).halted then 2 ^ 30 else 0) + 2 ^ 22 * (l.owner % 8) + 2 ^ 16 * (l.owner / 8) + min 1023 l.waiters.length
/-- BARB_CORE_n_STATUS: the state of each thread, and the AS and BE shuttles that wait. -/
def Dev.showCore (d : Dev) (c : Nat) : Nat :=
  (List.range 8).foldl (fun n t =>
    let x := d.thread (8 * c + t)
    n + 4 ^ t * (if x.halted then 3 else x.run)) 0 + 2 ^ 16 * min 64 (d.coreQueued c)
/-- HALTED of BARB_CORE_n_DBG. -/
def Dev.showHalted (d : Dev) (c : Nat) : Nat :=
  (List.range 8).foldl (fun n t => if (d.thread (8 * c + t)).halted then n + 2 ^ (24 + t) else n) 0
/-- BARB_CORE_n_DBG_DATA: the item that DBG_SEL selects, while debug of the core is unlocked (R285). -/
def Dev.showItem (d : Dev) (c : Nat) : Nat :=
  if !d.debugOpen c then 0 else
  ((d.thread (8 * c + d.get (F.BARB_CORE_DBG_SEL_THREAD c))).item (d.get (F.BARB_CORE_DBG_SEL_ITEM c))).toNat
/-- HIF_FN_QUERY of the function it names. -/
def Dev.showFn (d : Dev) : Nat :=
  let i := d.get F.HIF_FN_QUERY_INSTANCE
  let f := d.fn i
  2 ^ 20 * f.state + (if f.bme then 2 ^ 19 else 0) + (if f.drained then 2 ^ 18 else 0) + i
/-- RING_CACHE. -/
def Dev.showCache (d : Dev) : Nat :=
  d.rings.foldl (fun n (p : Nat × RingSt) => n + p.2.pushes.length) 0 * 2 ^ 16
    + min 65535 (d.rings.foldl (fun n (p : Nat × RingSt) => n + p.2.cached.length) 0)
/-- The mailbox pair that MBOX_USER_SEL selects. -/
def Dev.selected (d : Dev) : MboxPair := mapGetD d.mbox.user (d.get F.MBOX_USER_SEL_INSTANCE) {}
/-- MBOX_USER_PEND: bit i is UP_FULL of instance i. -/
def Dev.showPend (d : Dev) (w : Nat) : Nat :=
  (List.range 32).foldl (fun n k => if (mapGetD d.mbox.user (32 * w + k) {}).up.full then n + 2 ^ k else n) 0

/-- TIME_HOLD with the seconds of a HOLDOVER under way (R100). -/
def Dev.showHold (d : Dev) : Nat :=
  if d.get F.TIME_STATUS_SERVO = 3 then bitsSet (d.word 0x300058).toNat 16 16 d.holdSeconds else (d.word 0x300058).toNat

/-- CIPH_STATUS with the physical lanes in service: those that serve a logical lane that is not OUT (R189). -/
def Dev.showLanes (d : Dev) : Nat :=
  (List.range 16).foldl (fun w n => if d.get (F.CIPH_LANE_CFG_OUT n) = 0 then w ||| 2 ^ (14 + d.get (F.CIPH_LANE_CFG_PHYS n)) else w)
    ((d.word 0x700000).toNat % 2 ^ 14) % 2 ^ 32

/-- PWR_VIN_A, PWR_VIN_B and PWR_POWER: measured values (ch. 19; `Config.sensor`). -/
def Dev.showPower (d : Dev) (a : Nat) : Nat :=
  let x := fun k => Config.sensor k d.time.cycles
  if a = 0x1100014 then x 4 % 2 ^ 20 else
  let k := (a - 0x110000C) / 4
  x k % 2 ^ 16 + 2 ^ 16 * (x (2 + k) % 2 ^ 16)

/-- The live word of a register whose value the module works out. -/
def Dev.shown (d : Dev) (a : Nat) : Nat :=
  if a = 0x700000 then d.showLanes
  else if a = 0x110000C ∨ a = 0x1100010 ∨ a = 0x1100014 then d.showPower a
  else if a = 0x300058 then d.showHold
  else if a = 0x500000 then d.showVersion
  else if a = 0x600010 then d.showLearn
  else if 0x901000 ≤ a ∧ a < 0x9010B0 ∧ a % 0x10 = 4 then d.showReed ((a - 0x901000) / 0x10)
  else if a = 0xB00014 then d.showLock
  else if 0xB02000 ≤ a ∧ a < 0xB03000 ∧ a % 0x40 = 4 then d.showCore ((a - 0xB02000) / 0x40)
  else if 0xB02000 ≤ a ∧ a < 0xB03000 ∧ a % 0x40 = 0x18 then d.showHalted ((a - 0xB02000) / 0x40)
  else if 0xB02000 ≤ a ∧ a < 0xB03000 ∧ (a % 0x40 = 0x20 ∨ a % 0x40 = 0x24) then
    d.showItem ((a - 0xB02000) / 0x40) / 2 ^ (8 * (a % 8)) % 2 ^ 32
  else if a = 0x100054 then d.showFn
  else if a = 0xC0000C then d.showCache
  else if a = 0xD00010 then d.selected.mgrStatus
  else (d.word a).toNat

/-- A word of a window that the module fills. -/
def Dev.shownWin (d : Dev) (a : Nat) : Nat :=
  if 0x1201000 ≤ a ∧ a < 0x1201200 then leNat (sliceBytes (d.measured ((a - 0x1201000) / 0x40)) ((a - 0x1201000) % 0x40) 4)
  else if 0xD00040 ≤ a ∧ a < 0xD00080 then (mapGetD d.selected.up.words ((a - 0xD00040) / 4) 0).toNat
  else if 0xD00400 ≤ a ∧ a < 0xD00600 then d.showPend ((a - 0xD00400) / 4)
  else (d.word a).toNat

/-- What a read of the aligned word at an address returns. SH fields return the staged value, the last 8
bytes of an envelope those of the active set (R43), counters the latched copy; WO fields,
registers in an OFF domain, reserved bits, fields that do not apply to the management port, blocks that do not respond and addresses
that nothing covers read 0. -/
def Dev.readWord (d : Dev) (a : Nat) : Word :=
  if !d.responds a then 0 else
  if isCounter (a / 8 * 8) then if d.addrOff a then 0 else
    BitVec.ofNat 32 ((mapGetD d.bus.snap (a / 8 * 8) 0).toNat / 2 ^ (8 * (a % 8)))
  else match regOf a with
  | some _ =>
    let live := if d.addrOff a then 0 else d.shown a &&& accessMask (fun x => x != .sh && x != .wo) a
    let sh := (wordAt shReset d.cfg.shadow.words a).toNat &&& (accessMask (fun x => x == .sh) a &&& appliesMask a)
    BitVec.ofNat 32 (live ||| sh)
  | none => match findWin a with
    | some w => match w.access with
      | .wo => 0
      | .sh => BitVec.ofNat 32 ((wordAt shReset (if w.addr = 0xA80000 ∧ a % 32 ≥ 24 then d.cfg.active.words else d.cfg.shadow.words) a).toNat
          &&& winBits w a)
      | _ => BitVec.ofNat 32 (d.shownWin a)
    | none => 0

end Sys2Proof.Machine
end

