-- ==== Sys2Proof/Machine/Dispatch.lean ====
section
/-! DEFINITION. One arm for each command, each a direct call of its meaning. -/
namespace Sys2Proof.Machine
open Sys2Proof

/-- The effect of a command on everything but the queue. -/
def exec (i : Instr) (s : State) : Host.Outcome State Fault Refusal :=
  match i with
  | .registerWrite addr value byteEnables => Sys2Proof.Machine.execRegisterWrite addr value byteEnables s
  | .snapshotTake addr => Sys2Proof.Machine.execSnapshotTake addr s
  | .logTailWrite index tail => Sys2Proof.Machine.execLogTailWrite index tail s
  | .lostRead index => Sys2Proof.Machine.execLostRead index s
  | .genReset key module_ => Sys2Proof.Machine.execGenReset key module_ s
  | .powerGoodRise => Sys2Proof.Machine.execPowerGoodRise s
  | .powerGoodFall cause => Sys2Proof.Machine.execPowerGoodFall cause s
  | .perstAssert => Sys2Proof.Machine.execPerstAssert s
  | .perstDeassert => Sys2Proof.Machine.execPerstDeassert s
  | .rstNAssert => Sys2Proof.Machine.execRstNAssert s
  | .rstNDeassert => Sys2Proof.Machine.execRstNDeassert s
  | .crossingArrive island => Sys2Proof.Machine.execCrossingArrive island s
  | .autoGateOff kind unit workArrives => Sys2Proof.Machine.execAutoGateOff kind unit workArrives s
  | .domainWakeDone kind unit => Sys2Proof.Machine.execDomainWakeDone kind unit s
  | .sfdRx port offset measured => Sys2Proof.Machine.execSfdRx port offset measured s
  | .firstWindowReady port bytes => Sys2Proof.Machine.execFirstWindowReady port bytes s
  | .secondWindowReady port bytes => Sys2Proof.Machine.execSecondWindowReady port bytes s
  | .frameEndRx port bytes offset measured corrected uncorrected symbols => Sys2Proof.Machine.execFrameEndRx port bytes offset measured corrected uncorrected symbols s
  | .pipelineEntry pipe => Sys2Proof.Machine.execPipelineEntry pipe s
  | .heddlePass shuttle fwdParity keyParity => Sys2Proof.Machine.execHeddlePass shuttle fwdParity keyParity s
  | .ddr5LookupResult shuttle err addr row parity => Sys2Proof.Machine.execDdr5LookupResult shuttle err addr row parity s
  | .staleVersionExpire shuttle => Sys2Proof.Machine.execStaleVersionExpire shuttle s
  | .deadlineTailExpire shuttle => Sys2Proof.Machine.execDeadlineTailExpire shuttle s
  | .commitGo => Sys2Proof.Machine.execCommitGo s
  | .commitDryRun => Sys2Proof.Machine.execCommitDryRun s
  | .commitChecksDone => Sys2Proof.Machine.execCommitChecksDone s
  | .retiringSlotDrain => Sys2Proof.Machine.execRetiringSlotDrain s
  | .commitLimitExpire => Sys2Proof.Machine.execCommitLimitExpire s
  | .sheddingReadmit => Sys2Proof.Machine.execSheddingReadmit s
  | .recordReclaim => Sys2Proof.Machine.execRecordReclaim s
  | .shadowDiscard => Sys2Proof.Machine.execShadowDiscard s
  | .hedRead table set index => Sys2Proof.Machine.execHedRead table set index s
  | .hedWrite table set index => Sys2Proof.Machine.execHedWrite table set index s
  | .hedDelete table set index => Sys2Proof.Machine.execHedDelete table set index s
  | .insertKey table set index => Sys2Proof.Machine.execInsertKey table set index s
  | .hedFindKey table set => Sys2Proof.Machine.execHedFindKey table set s
  | .indirectOpComplete ctrl => Sys2Proof.Machine.execIndirectOpComplete ctrl s
  | .anComplete port matches_ => Sys2Proof.Machine.execAnComplete port matches_ s
  | .trainingComplete port => Sys2Proof.Machine.execTrainingComplete port s
  | .trainingTimeout port => Sys2Proof.Machine.execTrainingTimeout port s
  | .linkUp port => Sys2Proof.Machine.execLinkUp port s
  | .linkLoss port => Sys2Proof.Machine.execLinkLoss port s
  | .rclkRestore output => Sys2Proof.Machine.execRclkRestore output s
  | .pauseFrameRx port pause => Sys2Proof.Machine.execPauseFrameRx port pause s
  | .pfcFrameRx port enables pauses => Sys2Proof.Machine.execPfcFrameRx port enables pauses s
  | .pauseQuantaExpire port priority also => Sys2Proof.Machine.execPauseQuantaExpire port priority also s
  | .pauseWatchdogExpire port priority => Sys2Proof.Machine.execPauseWatchdogExpire port priority s
  | .pauseHoldoffExpire port priority => Sys2Proof.Machine.execPauseHoldoffExpire port priority s
  | .xoffRefresh port priority => Sys2Proof.Machine.execXoffRefresh port priority s
  | .txUnderrun port => Sys2Proof.Machine.execTxUnderrun port s
  | .prpEntryForget pair mac => Sys2Proof.Machine.execPrpEntryForget pair mac s
  | .abGapTimeout group first => Sys2Proof.Machine.execAbGapTimeout group first s
  | .frameTransmit port offset departure => Sys2Proof.Machine.execFrameTransmit port offset departure s
  | .txstampPop port => Sys2Proof.Machine.execTxstampPop port s
  | .freqWrite high => Sys2Proof.Machine.execFreqWrite high s
  | .timeLatch => Sys2Proof.Machine.execTimeLatch s
  | .stepGo frac => Sys2Proof.Machine.execStepGo frac s
  | .stepApply => Sys2Proof.Machine.execStepApply s
  | .stepFold => Sys2Proof.Machine.execStepFold s
  | .ppsInEdge rising offset => Sys2Proof.Machine.execPpsInEdge rising offset s
  | .ppsInLoss edgeToo => Sys2Proof.Machine.execPpsInLoss edgeToo s
  | .ppsInRead => Sys2Proof.Machine.execPpsInRead s
  | .clk10Measure edge => Sys2Proof.Machine.execClk10Measure edge s
  | .clk10Loss => Sys2Proof.Machine.execClk10Loss s
  | .todRxChar char afterIdle framingError => Sys2Proof.Machine.execTodRxChar char afterIdle framingError s
  | .ppsOutPulse => Sys2Proof.Machine.execPpsOutPulse s
  | .ppsOutEnd => Sys2Proof.Machine.execPpsOutEnd s
  | .todTxSend => Sys2Proof.Machine.execTodTxSend s
  | .servoSourceUsable source offsetNs steer => Sys2Proof.Machine.execServoSourceUsable source offsetNs steer s
  | .servoSourceLost fallback => Sys2Proof.Machine.execServoSourceLost fallback s
  | .servoLocked => Sys2Proof.Machine.execServoLocked s
  | .servoOffsetExceed offsetNs => Sys2Proof.Machine.execServoOffsetExceed offsetNs s
  | .servoTraceLimit errorNs => Sys2Proof.Machine.execServoTraceLimit errorNs s
  | .servoHoldoverExpire => Sys2Proof.Machine.execServoHoldoverExpire s
  | .sealIntervalExpire stream => Sys2Proof.Machine.execSealIntervalExpire stream s
  | .sealNow streams => Sys2Proof.Machine.execSealNow streams s
  | .sealWrite failures => Sys2Proof.Machine.execSealWrite failures s
  | .ledgerExportBurst stream => Sys2Proof.Machine.execLedgerExportBurst stream s
  | .ledgerTailDoorbell inst stream slots single poisoned => Sys2Proof.Machine.execLedgerTailDoorbell inst stream slots single poisoned s
  | .ledgerHostTailWrite stream slots => Sys2Proof.Machine.execLedgerHostTailWrite stream slots s
  | .exportStop stream => Sys2Proof.Machine.execExportStop stream s
  | .exportResume stream => Sys2Proof.Machine.execExportResume stream s
  | .healthSelfTestRecord => Sys2Proof.Machine.execHealthSelfTestRecord s
  | .fwdRead table set index => Sys2Proof.Machine.execFwdRead table set index s
  | .fwdWrite table set index => Sys2Proof.Machine.execFwdWrite table set index s
  | .deleteKey table set => Sys2Proof.Machine.execDeleteKey table set s
  | .writeKey table set => Sys2Proof.Machine.execWriteKey table set s
  | .fwdFindKey table set => Sys2Proof.Machine.execFwdFindKey table set s
  | .fwdFlush by_ target => Sys2Proof.Machine.execFwdFlush by_ target s
  | .flushBucket ddr5 bucket => Sys2Proof.Machine.execFlushBucket ddr5 bucket s
  | .learnDecide parity => Sys2Proof.Machine.execLearnDecide parity s
  | .ageTick => Sys2Proof.Machine.execAgeTick s
  | .agerBucketRead bucket sweepLate parity => Sys2Proof.Machine.execAgerBucketRead bucket sweepLate parity s
  | .cipherLaneEnter lane => Sys2Proof.Machine.execCipherLaneEnter lane s
  | .cipherTagResult shuttle => Sys2Proof.Machine.execCipherTagResult shuttle s
  | .saFetchDone sa err addr row => Sys2Proof.Machine.execSaFetchDone sa err addr row s
  | .saRead index => Sys2Proof.Machine.execSaRead index s
  | .saWrite index => Sys2Proof.Machine.execSaWrite index s
  | .saRetire index => Sys2Proof.Machine.execSaRetire index s
  | .saRekey index => Sys2Proof.Machine.execSaRekey index s
  | .saResync index => Sys2Proof.Machine.execSaResync index s
  | .templateRead set index => Sys2Proof.Machine.execTemplateRead set index s
  | .templateWrite set index => Sys2Proof.Machine.execTemplateWrite set index s
  | .keyWrite offset value => Sys2Proof.Machine.execKeyWrite offset value s
  | .rngRead => Sys2Proof.Machine.execRngRead s
  | .entropyHealthFail => Sys2Proof.Machine.execEntropyHealthFail s
  | .entropyRetest pass => Sys2Proof.Machine.execEntropyRetest pass s
  | .drbgReseed => Sys2Proof.Machine.execDrbgReseed s
  | .maskReseed lane => Sys2Proof.Machine.execMaskReseed lane s
  | .storRead index => Sys2Proof.Machine.execStorRead index s
  | .storWrite index => Sys2Proof.Machine.execStorWrite index s
  | .storDelete index => Sys2Proof.Machine.execStorDelete index s
  | .resyncRx index => Sys2Proof.Machine.execResyncRx index s
  | .resyncTx index => Sys2Proof.Machine.execResyncTx index s
  | .cidEntryFetch context cid => Sys2Proof.Machine.execCidEntryFetch context cid s
  | .crcStart unit kind owner poly alive => Sys2Proof.Machine.execCrcStart unit kind owner poly alive s
  | .crcFeed unit kind owner bytes => Sys2Proof.Machine.execCrcFeed unit kind owner bytes s
  | .crcEnd unit kind owner => Sys2Proof.Machine.execCrcEnd unit kind owner s
  | .crcStop unit kind owner => Sys2Proof.Machine.execCrcStop unit kind owner s
  | .crcRelease unit => Sys2Proof.Machine.execCrcRelease unit s
  | .crcParityFault unit => Sys2Proof.Machine.execCrcParityFault unit s
  | .crcStatusRead unit => Sys2Proof.Machine.execCrcStatusRead unit s
  | .reedEnqueue shuttle => Sys2Proof.Machine.execReedEnqueue shuttle s
  | .reedChoose choice => Sys2Proof.Machine.execReedChoose choice s
  | .shaperRefill => Sys2Proof.Machine.execShaperRefill s
  | .gateEntryChange port => Sys2Proof.Machine.execGateEntryChange port s
  | .gateListStart port => Sys2Proof.Machine.execGateListStart port s
  | .reedRead table set index => Sys2Proof.Machine.execReedRead table set index s
  | .reedWrite table set index => Sys2Proof.Machine.execReedWrite table set index s
  | .programDispatch core thread => Sys2Proof.Machine.execProgramDispatch core thread s
  | .add core thread wd wa wb => Sys2Proof.Machine.execAdd core thread wd wa wb s
  | .sub core thread wd wa wb => Sys2Proof.Machine.execSub core thread wd wa wb s
  | .and_ core thread wd wa wb => Sys2Proof.Machine.execAnd_ core thread wd wa wb s
  | .or_ core thread wd wa wb => Sys2Proof.Machine.execOr_ core thread wd wa wb s
  | .xor core thread wd wa wb => Sys2Proof.Machine.execXor core thread wd wa wb s
  | .shl core thread wd wa wb => Sys2Proof.Machine.execShl core thread wd wa wb s
  | .shr core thread wd wa wb => Sys2Proof.Machine.execShr core thread wd wa wb s
  | .sar core thread wd wa wb => Sys2Proof.Machine.execSar core thread wd wa wb s
  | .slt core thread wd wa wb => Sys2Proof.Machine.execSlt core thread wd wa wb s
  | .sltu core thread wd wa wb => Sys2Proof.Machine.execSltu core thread wd wa wb s
  | .bswap core thread wd wa => Sys2Proof.Machine.execBswap core thread wd wa s
  | .addi core thread wd wa imm => Sys2Proof.Machine.execAddi core thread wd wa imm s
  | .andi core thread wd wa imm => Sys2Proof.Machine.execAndi core thread wd wa imm s
  | .ori core thread wd wa imm => Sys2Proof.Machine.execOri core thread wd wa imm s
  | .shi core thread wd wa imm => Sys2Proof.Machine.execShi core thread wd wa imm s
  | .shin core thread wd wa imm => Sys2Proof.Machine.execShin core thread wd wa imm s
  | .mul core thread wd wa wb => Sys2Proof.Machine.execMul core thread wd wa wb s
  | .beq core thread wd wa imm => Sys2Proof.Machine.execBeq core thread wd wa imm s
  | .bne core thread wd wa imm => Sys2Proof.Machine.execBne core thread wd wa imm s
  | .bltu core thread wd wa imm => Sys2Proof.Machine.execBltu core thread wd wa imm s
  | .bgeu core thread wd wa imm => Sys2Proof.Machine.execBgeu core thread wd wa imm s
  | .jal core thread wd imm => Sys2Proof.Machine.execJal core thread wd imm s
  | .jr core thread wa => Sys2Proof.Machine.execJr core thread wa s
  | .illegalInstruction core thread => Sys2Proof.Machine.execIllegalInstruction core thread s
  | .ld core thread wd wa sz disp => Sys2Proof.Machine.execLd core thread wd wa sz disp s
  | .st core thread ws wa sz disp => Sys2Proof.Machine.execSt core thread ws wa sz disp s
  | .sld core thread wd wa sz disp => Sys2Proof.Machine.execSld core thread wd wa sz disp s
  | .sst core thread ws wa sz disp => Sys2Proof.Machine.execSst core thread ws wa sz disp s
  | .fld core thread wd wa sz disp => Sys2Proof.Machine.execFld core thread wd wa sz disp s
  | .fst core thread ws wa sz disp => Sys2Proof.Machine.execFst core thread ws wa sz disp s
  | .lkf core thread wd wa sel => Sys2Proof.Machine.execLkf core thread wd wa sel s
  | .lkk core thread wd wa sel => Sys2Proof.Machine.execLkk core thread wd wa sel s
  | .hash core thread wd wa wb => Sys2Proof.Machine.execHash core thread wd wa wb s
  | .crcs core thread wd wa sel imm => Sys2Proof.Machine.execCrcs core thread wd wa sel imm s
  | .crcf core thread wa sel imm => Sys2Proof.Machine.execCrcf core thread wa sel imm s
  | .crcxStop core thread sel => Sys2Proof.Machine.execCrcxStop core thread sel s
  | .crcxRead core thread wd sel => Sys2Proof.Machine.execCrcxRead core thread wd sel s
  | .lock core thread wa => Sys2Proof.Machine.execLock core thread wa s
  | .tryl core thread wd wa => Sys2Proof.Machine.execTryl core thread wd wa s
  | .ulk core thread wa => Sys2Proof.Machine.execUlk core thread wa s
  | .chw core thread wa imm => Sys2Proof.Machine.execChw core thread wa imm s
  | .chs core thread wd wa imm => Sys2Proof.Machine.execChs core thread wd wa imm s
  | .channelMessageArrive channel => Sys2Proof.Machine.execChannelMessageArrive channel s
  | .chr core thread wd sel imm => Sys2Proof.Machine.execChr core thread wd sel imm s
  | .chl core thread wd imm => Sys2Proof.Machine.execChl core thread wd imm s
  | .waitt core thread wd wa => Sys2Proof.Machine.execWaitt core thread wd wa s
  | .waite core thread wd wa imm => Sys2Proof.Machine.execWaite core thread wd wa imm s
  | .threadWake core thread => Sys2Proof.Machine.execThreadWake core thread s
  | .sig core thread sel => Sys2Proof.Machine.execSig core thread sel s
  | .tset core thread wa sel imm => Sys2Proof.Machine.execTset core thread wa sel imm s
  | .tgo core thread wd wa sel => Sys2Proof.Machine.execTgo core thread wd wa sel s
  | .tend core thread => Sys2Proof.Machine.execTend core thread s
  | .tstop core thread wd sel => Sys2Proof.Machine.execTstop core thread wd sel s
  | .brd core thread wd => Sys2Proof.Machine.execBrd core thread wd s
  | .barm core thread wa sel => Sys2Proof.Machine.execBarm core thread wa sel s
  | .stallDetect core => Sys2Proof.Machine.execStallDetect core s
  | .coreResetWrite core key => Sys2Proof.Machine.execCoreResetWrite core key s
  | .debugHalt core thread => Sys2Proof.Machine.execDebugHalt core thread s
  | .debugResume core thread => Sys2Proof.Machine.execDebugResume core thread s
  | .debugStep core thread => Sys2Proof.Machine.execDebugStep core thread s
  | .debugDataWrite core value => Sys2Proof.Machine.execDebugDataWrite core value s
  | .barbRead table set index => Sys2Proof.Machine.execBarbRead table set index s
  | .barbWrite table set index => Sys2Proof.Machine.execBarbWrite table set index s
  | .pcieLinkUp link speed width => Sys2Proof.Machine.execPcieLinkUp link speed width s
  | .pcieLinkDown link => Sys2Proof.Machine.execPcieLinkDown link s
  | .configRequest inst field value => Sys2Proof.Machine.execConfigRequest inst field value s
  | .initiateFlr inst => Sys2Proof.Machine.execInitiateFlr inst s
  | .flrQuarantine inst => Sys2Proof.Machine.execFlrQuarantine inst s
  | .flrComplete inst => Sys2Proof.Machine.execFlrComplete inst s
  | .busMasterClear inst => Sys2Proof.Machine.execBusMasterClear inst s
  | .busMasterSet inst => Sys2Proof.Machine.execBusMasterSet inst s
  | .vfEnableSet pf numVfs => Sys2Proof.Machine.execVfEnableSet pf numVfs s
  | .vfEnableClear pf numVfs => Sys2Proof.Machine.execVfEnableClear pf numVfs s
  | .hostReadCompletion tag bytes last status poisoned => Sys2Proof.Machine.execHostReadCompletion tag bytes last status poisoned s
  | .completionTimeout tag => Sys2Proof.Machine.execCompletionTimeout tag s
  | .tagQuarantineEnd tag => Sys2Proof.Machine.execTagQuarantineEnd tag s
  | .peerWindowRead offset length err addr row => Sys2Proof.Machine.execPeerWindowRead offset length err addr row s
  | .peerWindowWrite offset bytes poisoned => Sys2Proof.Machine.execPeerWindowWrite offset bytes poisoned s
  | .peerCommit => Sys2Proof.Machine.execPeerCommit s
  | .peerDrained => Sys2Proof.Machine.execPeerDrained s
  | .romRead inst offset length => Sys2Proof.Machine.execRomRead inst offset length s
  | .xlateWalkDone inst page entries status => Sys2Proof.Machine.execXlateWalkDone inst page entries status s
  | .xlateInvalidate instance_ pages => Sys2Proof.Machine.execXlateInvalidate instance_ pages s
  | .xlateInvDone => Sys2Proof.Machine.execXlateInvDone s
  | .atsInvalidateRequest inst page pages => Sys2Proof.Machine.execAtsInvalidateRequest inst page pages s
  | .selvedgeRead table index => Sys2Proof.Machine.execSelvedgeRead table index s
  | .selvedgeWrite table index => Sys2Proof.Machine.execSelvedgeWrite table index s
  | .quiesce inst => Sys2Proof.Machine.execQuiesce inst s
  | .fnResume inst => Sys2Proof.Machine.execFnResume inst s
  | .fnReset inst => Sys2Proof.Machine.execFnReset inst s
  | .freeze inst => Sys2Proof.Machine.execFreeze inst s
  | .save inst => Sys2Proof.Machine.execSave inst s
  | .restore inst => Sys2Proof.Machine.execRestore inst s
  | .fnRelease inst => Sys2Proof.Machine.execFnRelease inst s
  | .fnDrained inst => Sys2Proof.Machine.execFnDrained inst s
  | .quiesceLimitExpire inst => Sys2Proof.Machine.execQuiesceLimitExpire inst s
  | .freezeLimitExpire inst => Sys2Proof.Machine.execFreezeLimitExpire inst s
  | .saveDone inst => Sys2Proof.Machine.execSaveDone inst s
  | .restoreDone inst => Sys2Proof.Machine.execRestoreDone inst s
  | .fnResetDone inst => Sys2Proof.Machine.execFnResetDone inst s
  | .dirtySwap slot => Sys2Proof.Machine.execDirtySwap slot s
  | .swapDone slot => Sys2Proof.Machine.execSwapDone slot s
  | .maxReadRead link => Sys2Proof.Machine.execMaxReadRead link s
  | .migKeyWrite offset value => Sys2Proof.Machine.execMigKeyWrite offset value s
  | .doorbellProducer inst page index lap arrival poisoned => Sys2Proof.Machine.execDoorbellProducer inst page index lap arrival poisoned s
  | .ringInvalidate inst page token single poisoned => Sys2Proof.Machine.execRingInvalidate inst page token single poisoned s
  | .ringResetDoorbell inst page token single poisoned => Sys2Proof.Machine.execRingResetDoorbell inst page token single poisoned s
  | .doorbellConsumer inst page index lap arm single poisoned => Sys2Proof.Machine.execDoorbellConsumer inst page index lap arm single poisoned s
  | .inlinePush inst page offset bytes arrival poisoned => Sys2Proof.Machine.execInlinePush inst page offset bytes arrival poisoned s
  | .descriptorFetch ring => Sys2Proof.Machine.execDescriptorFetch ring s
  | .txFrameTake ring => Sys2Proof.Machine.execTxFrameTake ring s
  | .hostTlpRelease release => Sys2Proof.Machine.execHostTlpRelease release s
  | .interruptModTimer ring => Sys2Proof.Machine.execInterruptModTimer ring s
  | .ringRead table set index => Sys2Proof.Machine.execRingRead table set index s
  | .ringWrite table set index => Sys2Proof.Machine.execRingWrite table set index s
  | .ringReset table index => Sys2Proof.Machine.execRingReset table index s
  | .ringResetDone ring => Sys2Proof.Machine.execRingResetDone ring s
  | .mailboxWrite side unit word value => Sys2Proof.Machine.execMailboxWrite side unit word value s
  | .mailboxReadLast side unit => Sys2Proof.Machine.execMailboxReadLast side unit s
  | .moverStart channel party => Sys2Proof.Machine.execMoverStart channel party s
  | .moverAbort channel party => Sys2Proof.Machine.execMoverAbort channel party s
  | .chainKick channel party => Sys2Proof.Machine.execChainKick channel party s
  | .moverBurst channel => Sys2Proof.Machine.execMoverBurst channel s
  | .moverResponse channel err addr row => Sys2Proof.Machine.execMoverResponse channel err addr row s
  | .scrubRead addr row err passEnd late => Sys2Proof.Machine.execScrubRead addr row err passEnd late s
  | .pprRepair row addr rowLeft => Sys2Proof.Machine.execPprRepair row addr rowLeft s
  | .lockstepMismatch activeFlags standbyFlags => Sys2Proof.Machine.execLockstepMismatch activeFlags standbyFlags s
  | .gapEnd => Sys2Proof.Machine.execGapEnd s
  | .singleCheckFlag => Sys2Proof.Machine.execSingleCheckFlag s
  | .gateClaimConflict => Sys2Proof.Machine.execGateClaimConflict s
  | .resyncDone side => Sys2Proof.Machine.execResyncDone side s
  | .sidePowerOn side => Sys2Proof.Machine.execSidePowerOn side s
  | .sideSelfTestDone side pass => Sys2Proof.Machine.execSideSelfTestDone side pass s
  | .switch key => Sys2Proof.Machine.execSwitch key s
  | .inject key side => Sys2Proof.Machine.execInject key side s
  | .selfTestVector side unit vector pass => Sys2Proof.Machine.execSelfTestVector side unit vector pass s
  | .selfTestPeriod overrun => Sys2Proof.Machine.execSelfTestPeriod overrun s
  | .unitTransient kind unit row uncorrectable spareRow => Sys2Proof.Machine.execUnitTransient kind unit row uncorrectable spareRow s
  | .wearRead kind unit slow => Sys2Proof.Machine.execWearRead kind unit slow s
  | .wearCoreMove core => Sys2Proof.Machine.execWearCoreMove core s
  | .fltPendClear codes => Sys2Proof.Machine.execFltPendClear codes s
  | .bootStart => Sys2Proof.Machine.execBootStart s
  | .candidateFail => Sys2Proof.Machine.execCandidateFail s
  | .configSpaceReady => Sys2Proof.Machine.execConfigSpaceReady s
  | .ddr5Trained => Sys2Proof.Machine.execDdr5Trained s
  | .dataplaneReady => Sys2Proof.Machine.execDataplaneReady s
  | .bootRead => Sys2Proof.Machine.execBootRead s
  | .erase failure => Sys2Proof.Machine.execErase failure s
  | .program failure => Sys2Proof.Machine.execProgram failure s
  | .verify => Sys2Proof.Machine.execVerify s
  | .next => Sys2Proof.Machine.execNext s
  | .confirm => Sys2Proof.Machine.execConfirm s
  | .rollback key => Sys2Proof.Machine.execRollback key s
  | .enroll key => Sys2Proof.Machine.execEnroll key s
  | .revoke key => Sys2Proof.Machine.execRevoke key s
  | .bootOpComplete => Sys2Proof.Machine.execBootOpComplete s
  | .debugNonceRead => Sys2Proof.Machine.execDebugNonceRead s
  | .debugCertSubmit => Sys2Proof.Machine.execDebugCertSubmit s
  | .dbgIoCommand command core thread item bytes => Sys2Proof.Machine.execDbgIoCommand command core thread item bytes s
  | .getVersion transport early => Sys2Proof.Machine.execGetVersion transport early s
  | .getCapabilities transport early => Sys2Proof.Machine.execGetCapabilities transport early s
  | .negotiateAlgorithms transport ed25519 sha512_ dmtf early => Sys2Proof.Machine.execNegotiateAlgorithms transport ed25519 sha512_ dmtf early s
  | .getDigests transport early => Sys2Proof.Machine.execGetDigests transport early s
  | .getCertificate transport slot offset length early => Sys2Proof.Machine.execGetCertificate transport slot offset length early s
  | .challenge transport slot nonce early => Sys2Proof.Machine.execChallenge transport slot nonce early s
  | .getMeasurements transport index sign nonce early => Sys2Proof.Machine.execGetMeasurements transport index sign nonce early s
  | .spdmUnsupported transport early => Sys2Proof.Machine.execSpdmUnsupported transport early s
  | .readHealth => Sys2Proof.Machine.execReadHealth s
  | .readId => Sys2Proof.Machine.execReadId s
  | .vinAccept input millivolts otherMillivolts => Sys2Proof.Machine.execVinAccept input millivolts otherMillivolts s
  | .vinDrop input tooHigh => Sys2Proof.Machine.execVinDrop input tooHigh s
  | .holdupExpire => Sys2Proof.Machine.execHoldupExpire s
  | .phaseFail rail phase => Sys2Proof.Machine.execPhaseFail rail phase s
  | .thermalSample lid junction => Sys2Proof.Machine.execThermalSample lid junction s
  | .thermalStageEnter stage => Sys2Proof.Machine.execThermalStageEnter stage s
  | .thermalStageExit stage => Sys2Proof.Machine.execThermalStageExit stage s
  | .thermalShutdown => Sys2Proof.Machine.execThermalShutdown s
  | .ethRefclkStable => Sys2Proof.Machine.execEthRefclkStable s
  | .cdrLockLoss port => Sys2Proof.Machine.execCdrLockLoss port s
  | .cdrLockGain port => Sys2Proof.Machine.execCdrLockGain port s
  | .entropyStartupTest pass => Sys2Proof.Machine.execEntropyStartupTest pass s
  | .firmwareLoaded => Sys2Proof.Machine.execFirmwareLoaded s
  | .spareBankCopyDone bank => Sys2Proof.Machine.execSpareBankCopyDone bank s

end Sys2Proof.Machine
end

