-- ==== Sys2Proof/Machine/Idle.lean ====
section
/-! DEFINITION. One weave-clock cycle without a command (R84, R366, R391). -/
namespace Sys2Proof.Machine
open Sys2Proof

/-- What the block does while no command waits: Quartz adds its increment, the oldest DDR5 write reaches the devices, and a module reset
that is due is taken. Without power or in module reset nothing runs (DESIGN CHOICE, assumption log 2). -/
def idle (s : State) : State :=
  if !s.dev.sys.powerGood || s.dev.sys.inReset then s
  else if s.dev.sys.resetDue then s.moduleReset s.dev
  else drainOne { s with dev := { s.dev with time := quartzNext s.dev.time } }

end Sys2Proof.Machine
end

