-- ==== Sys2Proof/Safety.lean ====
section
/-! DEFINITION. What statements mean by a step that goes well, by what is observed, and by the form that DDR5 keeps. -/
namespace Sys2Proof.Machine
open Sys2Proof

/-- DDR5 in canonical form: the invariant that every step keeps. -/
def Inv (s : State) : Prop := memWf s.ddr = true

/-- The command answers a next state that has the same DDR5 bytes and the same queue, and whose device has the property. -/
def Yields (c : Instr) (s : State) (P : Dev → Prop) : Prop := ∃ d, exec c s = .next { s with dev := d } ∧ P d

/-- The command answers a next state whose DDR5 is cleared, whose queue is the same, and whose device has the property. -/
def Clears (c : Instr) (s : State) (P : Dev → Prop) : Prop := ∃ d, exec c s = .next (s.cleared d) ∧ P d

/-- The module runs: powered, not in reset, and dataplane ready (R402, R403). -/
def Dev.Live (d : Dev) : Prop := d.sys.powerGood = true ∧ d.sys.inReset = false ∧ d.sys.ready = true

/-- A byte of DDR5 as the next read sees it (R366). -/
def State.byte (s : State) (a : Nat) : Byte := memGet (ddrView s.ddr s.dev.dram.wq) a

/-- Every live BAR0 word but those at the addresses of a list is the same in two devices. -/
def SameWordsBut (l : List Nat) (d e : Dev) : Prop := ∀ a, a ∉ l → d.word a = e.word a

/-- Every 64-bit count but those at the addresses of a list is the same in two devices. -/
def SameCountsBut (l : List Nat) (d e : Dev) : Prop := ∀ k, k ∉ l → d.ctr k = e.ctr k

/-- A whole-word write whose effect is REGISTER_WRITE's own: aligned, of a register that no other row writes and that no rule of its
block ignores or treats apart (MBOX_USER_STATUS, BOOT_CTRL, and a GO that names no operation of its block's indirect registers). -/
def Dev.plainWrite (d : Dev) (a v : Nat) : Bool :=
  a % 4 == 0 && !ownRow a && !writeIgnored a v && (d.moverIgnores a).isNone && a != 0xD00010 && a != 0x1200008 &&
    !(v % 2 == 1 && badIndirect a (bitsOf v 1 3) (bitsOf v 4 3))

/-- What a module reset leaves (R31): every register outside the cold domain reads its Reset entry, every count outside it reads 0, no
shuttle, configuration, key or ledger is left; the persistent store and the ageing tick are kept, and the fuses and the flash too where no BOOT_CTRL
operation was cut short. A rollback count whose burning was cut short stands between its old value and its target (R398; assumption log 39). -/
def AfterModuleReset (before after : Dev) : Prop :=
  (∀ a, isCold a = false → after.word a = liveReset a ∧ after.ctr a = 0) ∧ (∀ a, isCold a = true → after.ctr a = before.ctr a) ∧
  after.cfg = {} ∧ after.shuts = [] ∧ after.ledg = {} ∧ after.rings = [] ∧ after.ciph = {} ∧ after.barb = {} ∧ after.hif = {} ∧
  after.time = {} ∧ after.fwd = { tick := before.fwd.tick } ∧ after.reed = {} ∧ after.mbox = {} ∧ after.movers = [] ∧ after.sys.ready = false ∧
  after.boot.store = before.boot.store ∧
  (before.boot.op = none → after.boot.flash = before.boot.flash ∧ after.boot.fuses = before.boot.fuses) ∧
  ∀ r, before.boot.op = some r → r.op = 6 → r.result = 0 → before.boot.fuses.rollback ≤ r.arg → before.boot.fuses.rollback ≤ after.boot.fuses.rollback ∧
    after.boot.fuses.rollback ≤ r.arg ∧ after.boot.flash = before.boot.flash

/-- Where in its host buffer a stream's next export burst begins (R132). -/
def Dev.exportData (d : Dev) (k : Nat) : Nat :=
  d.sh (F.LEDG_STREAM_HOST_BASE_BASE k) + 32 * (d.ctr (kExported k) % (2 ^ d.sh (F.LEDG_STREAM_CFG_HOST_LOG2 k) / 32))
/-- What translating an address for writing gives the exporting function of a stream (R300). -/
def Dev.exportXlate (d : Dev) (k a : Nat) : XlRes := d.xlate (d.sh (F.LEDG_STREAM_CFG_INSTANCE k)) a true

/-- The indirect registers whose IND_CTRL is at `ctrl` take a GO (R161). -/
def Dev.IndReady (d : Dev) (ctrl : Nat) : Prop := d.Live ∧ d.get ⟨ctrl, 16, 1⟩ = 0

/-- An indirect operation is under way: BUSY is set, and INDIRECT_OP_COMPLETE will show this RESULT (R161). -/
def Dev.IndBusy (d : Dev) (ctrl code : Nat) : Prop := d.get ⟨ctrl, 16, 1⟩ = 1 ∧ mapGet d.ind ctrl = some code

/-- A thread may issue an instruction of some cost (R262, R278, R280): it is RUNNING, not HALTED but for a STEP, and its budget covers the cost; no failed host
access waits to be handled. -/
def Dev.CanIssue (d : Dev) (c th cost : Nat) : Prop :=
  c < 64 ∧ th < 8 ∧ d.hif.faulted = [] ∧ (d.thread (8 * c + th)).issues = true ∧ ∀ b, (d.thread (8 * c + th)).budget = some b → cost ≤ b

/-- A thread whose instruction has issued: the STEP is used and the cost charged (R280, R285). -/
def Thread.charged (t : Thread) (cost : Nat) : Thread := { t with stepDue := false, budget := t.budget.map (fun b => b - cost) }

/-- Only one thread changed, and it became `t`; beside the threads, only a pause that was due may have been sent (R69). -/
def Dev.OnlyThread (d : Dev) (n : Nat) (t : Thread) (e : Dev) : Prop :=
  e.thread n = t ∧ (∀ m, m ≠ n → e.thread m = d.thread m) ∧ { e.barb with threads := d.barb.threads } = d.barb ∧
  { e with barb := d.barb, net := d.net, out := d.out } = d

/-- An instruction that charges its cost, writes one register and goes on (R260: a write to w0 is discarded). -/
def Dev.RegDone (d : Dev) (n cost wd : Nat) (v : Dword) (e : Dev) : Prop :=
  d.OnlyThread n { ((d.thread n).charged cost).setReg wd v with pc := (d.thread n).pc + 1 } e

/-- An instruction that charges its cost and continues at another word. -/
def Dev.JumpDone (d : Dev) (n cost pc : Nat) (e : Dev) : Prop := d.OnlyThread n { (d.thread n).charged cost with pc := pc } e

/-- An instruction that charges its cost and waits; its result will go to `wd` (R277, R278). -/
def Dev.WaitDone (d : Dev) (n cost wd : Nat) (w : Wait) (e : Dev) : Prop :=
  e.thread n = { (d.thread n).charged cost with run := 2, wait := w, wd := wd, pc := (d.thread n).pc + 1 }

/-- The fault of a thread other than thread 0 that holds no shuttle (R282): the thread is IDLE, thread 0 of its core has the event, and the fault is counted,
raised and logged with its cause. -/
def Dev.FaultDone (d : Dev) (c th cause : Nat) (e : Dev) : Prop :=
  (e.thread (8 * c + th)).run = 0 ∧ (e.thread (8 * c)).events.testBit 5 = true ∧ e.ctr K.BARB_PROGRAM_FAULT = (d.ctr K.BARB_PROGRAM_FAULT + 1) % 2 ^ 64 ∧
  e.get F.BARB_EVENT_FAULT = 1 ∧ (e.word (0xB00808 + 16 * d.get F.BARB_LOG_INDEX_HEAD)).toNat = c + 256 * th + 65536 * cause

/-- HIF_FN_CTRL takes a GO (R312): the module runs, and no manager operation is under way. -/
def Dev.FnReady (d : Dev) : Prop := d.Live ∧ d.get F.HIF_FN_STATUS_BUSY = 0 ∧ d.hif.op = none ∧ d.hif.faulted = []

/-- A manager operation has ended with a RESULT of Table 10 (R312). -/
def Dev.FnEnded (d : Dev) (code : Nat) : Prop :=
  d.get F.HIF_FN_STATUS_BUSY = 0 ∧ d.get F.HIF_FN_STATUS_RESULT = code ∧ d.get F.HIF_EVENT_FN_DONE = 1 ∧ d.hif.op = none

/-- No commit waits for the end of a SAVE or RESTORE (R422), and no slot retires. -/
def Dev.NoSwapDue (d : Dev) : Prop := d.cfg.retiringVersion = none ∧ ∀ c, d.loom.commit = some c → c.waiting = false

/-- A function whose only outstanding host accesses are mover reads: it has no frame, no waiting access and no STOR context. -/
def Dev.FnStill (d : Dev) (inst : Nat) : Prop :=
  d.hostBound inst = [] ∧ d.txWork inst = [] ∧ (∀ o ∈ d.hif.waiting, o.inst ≠ inst) ∧ (∀ p ∈ d.stor.ctxs, recGet p.2.record QC.INSTANCE ≠ inst) ∧
  ∀ r ∈ d.hif.reads, r.inst = inst → ∃ c id off, r.use = .mover c id off

/-- BOOT_CTRL takes a GO: BOOT responds and no operation is under way (R414). -/
def Dev.BootReady (d : Dev) : Prop := d.responds 0x1200008 = true ∧ d.get F.BOOT_CTRL_BUSY = 0

/-- A BOOT_CTRL operation is under way: OP and BUSY show it, and BOOT_OP_COMPLETE will show this RESULT (R414). -/
def Dev.BootBusy (d : Dev) (op code arg : Nat) : Prop :=
  d.get F.BOOT_CTRL_OP = op ∧ d.get F.BOOT_CTRL_BUSY = 1 ∧ ∃ r, d.boot.op = some r ∧ r.op = op ∧ r.result = code ∧ r.arg = arg

/-- The responder answered on a transport (R409, R410): the answer left, this transport's context reached a stage and took the request and the
answer, and every other context and everything else is as before. -/
def Dev.Answered (d : Dev) (transport stage : Nat) (transcript answer : List Byte) (e : Dev) : Prop :=
  e.out = d.out ++ [.bytes (2 + transport) answer] ∧ (e.spdmAt transport).stage = stage ∧ (e.spdmAt transport).transcript = transcript ++ answer ∧
  (∀ u, u ≠ transport → e.spdmAt u = d.spdmAt u) ∧ { e with boot := { e.boot with spdm := d.boot.spdm }, out := d.out } = d

end Sys2Proof.Machine
end

