-- ==== Sys2Proof/Certificates/Slice0/Obligations.lean ====
section
/-! DEFINITION. The statements for the provers: the numbered rules of the spec, one definition for each statement, family by family. -/
open Sys2Proof Sys2Proof.Machine

/-- A step takes the command at the front of the queue and runs it over the rest of the queue; on an empty queue the block idles (assumption log 2). -/
def Obligations.StepRunsFrontCommand : Prop :=
  (∀ (c : Instr) (s : State), step (s.push c) = exec c s) ∧
  (∀ (c : Instr) (s : State) (rest : List Instr), s.pending = c :: rest → step s = exec c { s with pending := rest }) ∧
  (∀ s : State, s.pending = [] → step s = .next (idle s))

/-- The invariant holds at reset; an unlisted byte of DDR5 reads 0 (R371 clears it; assumption log 6). -/
def Obligations.ResetHasCanonicalMemory : Prop :=
  Inv State.reset ∧ State.reset.pending = [] ∧ ∀ a, State.reset.byte a = 0

/-- The invariant that every step keeps: DDR5 stays in canonical form, so that equal contents are equal data, also as a read sees it through the write queue (R366). -/
def Obligations.EveryStepKeepsCanonicalMemory : Prop :=
  ∀ s t : State, Inv s → step s = .next t → Inv t ∧ memWf (ddrView t.ddr t.dev.dram.wq) = true

/-- No command stops the block: each answers a next state, leaves the queue, and leaves the DDR5 bytes or clears them all. -/
def Obligations.EveryCommandAnswersAndKeepsQueue : Prop :=
  ∀ (c : Instr) (s : State), ∃ d, exec c s = .next { s with dev := d } ∨ exec c s = .next (s.cleared d)

/-- One weave-clock cycle without a command (the choice of assumption log 2): Quartz counts (R84), the oldest DDR5 write drains, and reads see no difference (R366). -/
def Obligations.IdleCycleAddsIncrementAndDrains : Prop :=
  (∀ s : State, s.dev.sys.powerGood = true → s.dev.sys.inReset = false → s.dev.sys.resetDue = false →
    (idle s).dev.time = quartzNext s.dev.time ∧ (idle s).dev.time.cycles = s.dev.time.cycles + 1 ∧
    (idle s).dev.dram.wq = s.dev.dram.wq.tail ∧ (idle s).pending = s.pending ∧ ∀ a, (idle s).byte a = s.byte a) ∧
  (∀ s : State, s.dev.sys.powerGood = false ∨ s.dev.sys.inReset = true → idle s = s)

/-- R11: a write of an SH field is staged in the shadow set and does not touch the active set. -/
def Obligations.ConfigurationWriteIsStaged : Prop :=
  ∀ (s : State) (a : Nat) (v : Word), s.dev.responds a = true → s.dev.flt.gap = 0 → (regOf a).isSome = true → s.dev.plainWrite a v.toNat = true →
    Yields (.registerWrite a v 15) s (fun d =>
      d.cfg.active = s.dev.cfg.active ∧ d.cfg.shadow.recs = s.dev.cfg.shadow.recs ∧ d.shuts = s.dev.shuts ∧
      (∀ i < 32, (accessMask (fun x => x == .sh) a &&& appliesMask a).testBit i = true →
        (wordAt shReset d.cfg.shadow.words a).getLsbD i = v.getLsbD i) ∧
      (∀ i < 32, (accessMask (fun x => x == .sh) a &&& appliesMask a).testBit i = false →
        (wordAt shReset d.cfg.shadow.words a).getLsbD i = (wordAt shReset s.dev.cfg.shadow.words a).getLsbD i) ∧
      (∀ b, b ≠ a → wordAt shReset d.cfg.shadow.words b = wordAt shReset s.dev.cfg.shadow.words b) ∧
      (accessMask (fun x => x == .sh) a &&& appliesMask a ≠ 0 → a ≠ 0x500004 → d.get F.HED_SHADOW_STATUS_CHANGED = 1))

/-- R11 for a live register: RW stores, W1C clears, RO and reserved bits ignore the write; R453 for partial byte enables. The recovered clock registers, whose LOW bit the module itself moves (R81), are left to a statement of their own kind. -/
def Obligations.LiveWriteStoresRwAndClearsW1c : Prop :=
  (∀ (s : State) (a : Nat) (v : Word), s.dev.responds a = true → s.dev.addrOff a = false → (regOf a).isSome = true →
    s.dev.plainWrite a v.toNat = true → accessMask (fun x => x == .sh) a = 0 → a ≠ 0x2F0000 → a ≠ 0x2F0004 → s.dev.flt.gap = 0 →
    (∀ k u, autoDomain a = some (k, u) → s.dev.asleep k u = false) →
    Yields (.registerWrite a v 15) s (fun d =>
      (∀ i < 32, (storeMask a).testBit i = true → (accessMask (fun x => x == .w1c) a).testBit i = false →
        (d.word a).getLsbD i = v.getLsbD i) ∧
      (∀ i < 32, (accessMask (fun x => x == .w1c) a).testBit i = true → v.getLsbD i = true → (d.word a).getLsbD i = false) ∧
      (∀ i < 32, (storeMask a).testBit i = false → (accessMask (fun x => x == .w1c) a).testBit i = true → v.getLsbD i = false →
        (d.word a).getLsbD i = (s.dev.word a).getLsbD i) ∧
      (∀ i < 32, (storeMask a).testBit i = false → (accessMask (fun x => x == .w1c) a).testBit i = false →
        (d.word a).getLsbD i = (s.dev.word a).getLsbD i) ∧
      SameWordsBut [a] d s.dev ∧ d.cfg = s.dev.cfg)) ∧
  (∀ (s : State) (a be : Nat) (v : Word), be % 16 ≠ 15 ∨ a % 4 ≠ 0 → Yields (.registerWrite a v be) s (fun d => d = s.dev)) ∧
  (∀ (s : State) (a : Nat) (v : Word), s.dev.Live → s.dev.flt.gap = 0 → s.dev.get ⟨a, 16, 1⟩ = 0 → v.toNat % 2 = 1 →
    badIndirect a (bitsOf v.toNat 1 3) (bitsOf v.toNat 4 3) = true → Yields (.registerWrite a v 15) s (fun d => d.IndBusy a 3 ∧ d.cfg = s.dev.cfg))

/-- R10 and R455: snapshots, log indices, and the one operation that writes an entry of every log. -/
def Obligations.SnapshotsAndLogReadsMoveOnlyTheirOwn : Prop :=
  (∀ (s : State) (a lo hi : Nat), (a, lo, hi) ∈ snapshotRegs → s.dev.Live → s.dev.addrOff a = false →
    Yields (.snapshotTake a) s (fun d => (∀ k, lo ≤ k → k < hi → k ≠ 0x1100100 → mapGet d.bus.snap k = mapGet s.dev.bus.ctr k) ∧
      (∀ k, k < lo ∨ hi ≤ k → mapGet d.bus.snap k = mapGet s.dev.bus.snap k) ∧ { d with bus := s.dev.bus } = s.dev ∧
      (∀ k, k ≠ 0x1100100 → d.ctr k = s.dev.ctr k) ∧ d.bus.words = s.dev.bus.words ∧
      (a = 0x1100008 → mapGet d.bus.snap 0x1100100 = some (BitVec.ofNat 64 (Config.sensor 5 s.dev.time.cycles))))) ∧
  (∀ (s : State) (ix tail : Nat), ix ∈ logIndexes → s.dev.Live → tail < 256 →
    Yields (.logTailWrite ix tail) s (fun d =>
      d.get ⟨ix, 8, 8⟩ = (if (tail + 256 - s.dev.get ⟨ix, 8, 8⟩) % 256 ≤ (s.dev.get ⟨ix, 0, 8⟩ + 256 - s.dev.get ⟨ix, 8, 8⟩) % 256
        then tail else s.dev.get ⟨ix, 8, 8⟩) ∧
      d.get ⟨ix, 0, 8⟩ = s.dev.get ⟨ix, 0, 8⟩ ∧ d.get ⟨ix, 16, 16⟩ = s.dev.get ⟨ix, 16, 16⟩ ∧ SameWordsBut [ix] d s.dev)) ∧
  (∀ (s : State) (ix : Nat), ix ∈ logIndexes → s.dev.Live →
    Yields (.lostRead ix) s (fun d => d.out = s.dev.out ++ [.readData (s.dev.word ix).toNat] ∧ d.get ⟨ix, 16, 16⟩ = 0 ∧
      d.get ⟨ix, 0, 8⟩ = s.dev.get ⟨ix, 0, 8⟩ ∧ d.get ⟨ix, 8, 8⟩ = s.dev.get ⟨ix, 8, 8⟩ ∧ SameWordsBut [ix] d s.dev)) ∧
  (∀ (d : Dev) (ix win words entry : Nat), (win + 4 * words * 256 ≤ ix ∨ ix + 4 ≤ win) → (d.get ⟨ix, 0, 8⟩ + 256 - d.get ⟨ix, 8, 8⟩) % 256 = 255 →
    let e := d.logPut ix win words entry
    e.get ⟨ix, 0, 8⟩ = (d.get ⟨ix, 0, 8⟩ + 1) % 256 ∧ e.get ⟨ix, 8, 8⟩ = (d.get ⟨ix, 8, 8⟩ + 1) % 256 ∧
      e.get ⟨ix, 16, 16⟩ = min 65535 (d.get ⟨ix, 16, 16⟩ + 1)) ∧
  (∀ (d : Dev) (ix win words entry : Nat), (win + 4 * words * 256 ≤ ix ∨ ix + 4 ≤ win) → (d.get ⟨ix, 0, 8⟩ + 256 - d.get ⟨ix, 8, 8⟩) % 256 < 255 →
    let e := d.logPut ix win words entry
    e.get ⟨ix, 0, 8⟩ = (d.get ⟨ix, 0, 8⟩ + 1) % 256 ∧ e.get ⟨ix, 8, 8⟩ = d.get ⟨ix, 8, 8⟩ ∧ e.get ⟨ix, 16, 16⟩ = d.get ⟨ix, 16, 16⟩ ∧
      ∀ w < words, (e.word (win + 4 * words * d.get ⟨ix, 0, 8⟩ + 4 * w)).toNat = entry / 2 ^ (32 * w) % 2 ^ 32)

/-- R31 to R35: the triggers of a module reset, what it resets and keeps, and the lines that hold it. -/
def Obligations.ModuleResetKeepsColdState : Prop :=
  (∀ s : State, s.dev.responds 8 = true → Clears (.genReset 0x7E55 true) s (fun d => AfterModuleReset s.dev d ∧
    d.get F.GEN_RESET_CAUSE_MANAGER = 1 ∧ d.get F.GEN_RESET_CAUSE_PERST = s.dev.get F.GEN_RESET_CAUSE_PERST ∧ d.sys.inReset = !(d.sys.perstN && d.sys.rstN))) ∧
  (∀ (s : State) (key : Nat) (m : Bool), key ≠ 0x7E55 → Yields (.genReset key m) s (fun d => d = s.dev)) ∧
  (∀ s : State, Clears .perstAssert s (fun d => AfterModuleReset s.dev d ∧ d.get F.GEN_RESET_CAUSE_PERST = 1 ∧
    d.get F.GEN_RESET_CAUSE_RST_N = s.dev.get F.GEN_RESET_CAUSE_RST_N ∧ d.sys.inReset = true ∧ d.sys.perstN = false)) ∧
  (∀ s : State, Clears .rstNAssert s (fun d => AfterModuleReset s.dev d ∧ d.get F.GEN_RESET_CAUSE_RST_N = 1 ∧
    d.get F.GEN_RESET_CAUSE_PERST = s.dev.get F.GEN_RESET_CAUSE_PERST ∧ d.sys.inReset = true ∧ d.sys.rstN = false)) ∧
  (∀ s : State, Yields .perstDeassert s (fun d => d.sys.perstN = true ∧ d.sys.inReset = !s.dev.sys.rstN ∧
    { d with sys := s.dev.sys } = s.dev)) ∧
  (∀ s : State, Yields .rstNDeassert s (fun d => d.sys.rstN = true ∧ d.sys.inReset = !s.dev.sys.perstN ∧
    { d with sys := s.dev.sys } = s.dev))

/-- R31 cold row, R433, R434 and R438. -/
def Obligations.PowerGoodAndColdReset : Prop :=
  (∀ s : State, s.dev.sys.powerGood = false → s.dev.pwr.shutdown = false →
    (s.dev.flag F.PWR_STATUS_VIN_A_OK = true ∨ s.dev.flag F.PWR_STATUS_VIN_B_OK = true) → Clears .powerGoodRise s (fun d => d.sys.powerGood = true ∧
    d.sys.inReset = !(s.dev.sys.perstN && s.dev.sys.rstN) ∧ (∀ a, a < 0x1100000 → a ≠ F.GEN_RESET_CAUSE_COLD.addr → d.word a = liveReset a) ∧
    d.get F.GEN_RESET_CAUSE_COLD = 1 ∧ d.get F.GEN_RESET_CAUSE_PERST = (if s.dev.sys.perstN then 0 else 1) ∧
    d.get F.GEN_RESET_CAUSE_RST_N = (if s.dev.sys.rstN then 0 else 1) ∧ d.cfg = {} ∧ d.shuts = [] ∧
    d.rings = [] ∧ d.sys.ready = false ∧ d.sys.configReady = false ∧ d.boot.store = s.dev.boot.store ∧ d.boot.flash = s.dev.boot.flash ∧
    d.boot.fuses = s.dev.boot.fuses ∧ (s.dev.boot.store.lastOff < 16 → d.get F.PWR_LAST_OFF_CAUSE = s.dev.boot.store.lastOff))) ∧
  (∀ s : State, s.dev.pwr.shutdown = true ∨ s.dev.sys.powerGood = true ∨
    (s.dev.flag F.PWR_STATUS_VIN_A_OK = false ∧ s.dev.flag F.PWR_STATUS_VIN_B_OK = false) → Yields .powerGoodRise s (fun d => d = s.dev)) ∧
  (∀ (s : State) (cause : Nat), s.dev.sys.powerGood = true → cause < 16 → Clears (.powerGoodFall cause) s (fun d => d.sys.powerGood = false ∧
    d.sys.inReset = true ∧ d.shuts = [] ∧ d.cfg = {} ∧ d.boot.store = { s.dev.boot.store with lastOff := cause } ∧ d.faultN = .highZ)) ∧
  (∀ (s : State) (cause : Nat), s.dev.sys.powerGood = false → Yields (.powerGoodFall cause) s (fun d => d = s.dev))

/-- R25 for the items of this model (swap notices, R159, and shuttles on their way to a program, R264), R26; R28 and R29: gating after the hold-off, its cancelling, and waking. -/
def Obligations.CrossingsAndIdleDomains : Prop :=
  (∀ (s : State) (link v : Nat) (t : List CrossItem), link < 2 → s.dev.cfg.hostVersion.length = 2 → s.dev.hif.faulted = [] →
    mapGet s.dev.xing (20 + link) = some (.swapNotice v :: t) →
    Yields (.crossingArrive (20 + link)) s (fun d => mapGetD d.xing (20 + link) [] = t ∧ d.cfg.hostVersion[link]? = some v ∧
      d.cfg.hostVersion[1 - link]? = s.dev.cfg.hostVersion[1 - link]? ∧ (∀ j, j ≠ 20 + link → mapGet d.xing j = mapGet s.dev.xing j) ∧
      { d with cfg := s.dev.cfg, xing := s.dev.xing, net := s.dev.net, out := s.dev.out } = s.dev ∧
      { d.cfg with hostVersion := s.dev.cfg.hostVersion } = s.dev.cfg)) ∧
  (∀ (s : State) (island i q : Nat) (t : List CrossItem) (x : Shut), s.dev.hif.faulted = [] → mapGet s.dev.xing island = some (.shuttle i q :: t) →
    s.dev.shut i = some x → x.stage = .cross → x.seq = q → x.dropReason = none →
    x.guaranteed = true ∨ s.dev.coreQueued (s.dev.programCore x) < 64 →
    Yields (.crossingArrive island) s (fun d => (∃ r, mapGetD d.xing island [] = t ++ r ∧ r.length ≤ 1) ∧ (∃ y, d.shut i = some y ∧ y.stage = .dispatch ∧ y.frame = x.frame ∧
      y.get S.PROGRAM = x.get S.PROGRAM) ∧ (∀ j, j ≠ i → d.shut j = s.dev.shut j) ∧ ∀ j, j ≠ island → mapGet d.xing j = mapGet s.dev.xing j)) ∧
  (∀ (s : State) (island : Nat), mapGetD s.dev.xing island [] = [] → island = 0 ∨ 17 < island ∨ s.dev.crossWaiting island = [] →
    Yields (.crossingArrive island) s (fun d => d = s.dev)) ∧
  (∀ (d : Dev) (island : Nat), (mapGetD (d.crossPump island).xing island []).length ≤ max 4 (mapGetD d.xing island []).length ∧
    ((mapGetD d.xing island []).length = 4 → d.crossPump island = d)) ∧
  (∀ (s : State) (k u : Nat), s.dev.sys.ready = true → autoUnit k u = true → s.dev.isGated k u = false → s.dev.dom.waking.contains (k, u) = false →
    s.dev.domHeld k u = false → s.dev.domIdle k u = true → Yields (.autoGateOff k u false) s (fun d => d.isGated k u = true ∧
      (∀ k' u', (k', u') ≠ (k, u) → d.isGated k' u' = s.dev.isGated k' u') ∧ d.dom.waking = s.dev.dom.waking ∧ { d with dom := s.dev.dom } = s.dev)) ∧
  (∀ (s : State) (k u : Nat), Yields (.autoGateOff k u true) s (fun d => d = s.dev)) ∧
  (∀ (s : State) (k u : Nat) (w : Bool), s.dev.domHeld k u = true → Yields (.autoGateOff k u w) s (fun d => d = s.dev)) ∧
  (∀ (s : State) (k u : Nat), s.dev.dom.waking.contains (k, u) = true → (∀ h ∈ s.dev.dom.held, h.1 ≠ (k, u)) → (k = 4 → s.dev.dom.records = []) →
    Yields (.domainWakeDone k u) s (fun d => d.isGated k u = false ∧
      d.dom.waking.contains (k, u) = false ∧ (∀ k' u', (k', u') ≠ (k, u) → d.isGated k' u' = s.dev.isGated k' u') ∧
      { d with dom := s.dev.dom } = s.dev))

/-- R51, Table 7, rows GO written. -/
def Obligations.CommitStartsPendingOrIsIgnored : Prop :=
  (∀ (s : State) (dry : Bool), s.dev.responds 0xA00000 = true → s.dev.get F.LOOM_COMMIT_STATUS_STATE ≠ 1 →
    Yields (if dry then .commitDryRun else .commitGo) s (fun d => d.get F.LOOM_COMMIT_STATUS_STATE = 1 ∧ d.get F.LOOM_COMMIT_STATUS_REASON = 0 ∧
      d.get F.LOOM_COMMIT_STATUS_BOOK = 127 ∧ d.get F.LOOM_COMMIT_DETAIL_EXCESS = 0 ∧ d.get F.LOOM_COMMIT_DETAIL_NO_ENVELOPE = 0 ∧
      d.get F.LOOM_COMMIT_DETAIL_ENVELOPE = 0 ∧ d.get F.LOOM_COMMIT_STATUS_RECHECKED = 0 ∧
      d.get F.LOOM_COMMIT_STATUS_DRY = (if dry then 1 else 0) ∧ d.loom.commit = some { dry := dry, waiting := false, capChanged := false } ∧
      { d with bus := s.dev.bus, loom := s.dev.loom } = s.dev ∧ SameWordsBut [0xA00004, 0xA00008] d s.dev)) ∧
  (∀ (s : State) (dry : Bool), s.dev.responds 0xA00000 = true → s.dev.get F.LOOM_COMMIT_STATUS_STATE = 1 →
    Yields (if dry then .commitDryRun else .commitGo) s (fun d => d.get F.LOOM_COMMIT_STATUS_GO_IGNORED = 1 ∧
      d.get F.LOOM_COMMIT_STATUS_STATE = 1 ∧ { d with bus := s.dev.bus } = s.dev ∧ SameWordsBut [0xA00004] d s.dev))

/-- R51, Table 7, rows of PENDING that the checks end. -/
def Obligations.CommitChecksDecide : Prop :=
  (∀ (s : State) (c : CommitReq) (reason book : Nat) (env : Option Nat) (excess : Nat) (delay : Bool), s.dev.deciding = true → s.dev.loom.commit = some c → c.waiting = false →
    s.dev.hif.releaseDue = [] → s.dev.check s.dev.cfg.shadow false = .reject reason book env excess delay → reason < 16 → book < 128 →
    Yields .commitChecksDone s (fun d => d.get F.LOOM_COMMIT_STATUS_STATE = 3 ∧ d.get F.LOOM_COMMIT_STATUS_REASON = reason ∧
      d.get F.LOOM_COMMIT_STATUS_BOOK = book ∧ d.cfg = s.dev.cfg ∧ d.loom.commit = none ∧ d.shuts = s.dev.shuts)) ∧
  (∀ (s : State) (c : CommitReq) (l : List (Nat × Nat × Nat)), s.dev.deciding = true → s.dev.loom.commit = some c → c.waiting = false → c.dry = true →
    s.dev.hif.releaseDue = [] → s.dev.check s.dev.cfg.shadow false = .pass l →
    Yields .commitChecksDone s (fun d => d.get F.LOOM_COMMIT_STATUS_STATE = 2 ∧ d.cfg = s.dev.cfg ∧ d.loom.commit = none ∧ d.shuts = s.dev.shuts)) ∧
  (∀ (s : State) (c : CommitReq) (l : List (Nat × Nat × Nat)), s.dev.deciding = true → s.dev.loom.commit = some c → c.waiting = false → c.dry = false →
    s.dev.hif.releaseDue = [] → s.dev.swapHeld = false → s.dev.cfg.retiringVersion = none → s.dev.check s.dev.cfg.shadow false = .pass l →
    Yields .commitChecksDone s (fun d => d.get F.LOOM_COMMIT_STATUS_STATE = 2 ∧ d.cfg.version = (s.dev.cfg.version + 1) % 16 ∧
      d.cfg.active = s.dev.cfg.shadow.admitted l ∧ d.cfg.retiring = s.dev.cfg.active ∧ d.cfg.retiringVersion = some s.dev.cfg.version ∧
      d.loom.commit = none)) ∧
  (∀ (s : State) (c : CommitReq) (l : List (Nat × Nat × Nat)), s.dev.deciding = true → s.dev.loom.commit = some c → c.waiting = false → c.dry = false →
    s.dev.cfg.retiringVersion.isSome = true → s.dev.drained = false → s.dev.check s.dev.cfg.shadow false = .pass l →
    Yields .commitChecksDone s (fun d => d.loom.commit = some { c with waiting := true, capChanged := false, passed := l } ∧
      { d with loom := s.dev.loom } = s.dev))

/-- R52 and the rows of R51 that end a wait; R157 and R159 for the slot itself. -/
def Obligations.WaitingCommitsEndAtDrainOrLimit : Prop :=
  (∀ (s : State) (c : CommitReq) (i : Instr), s.dev.deciding = true → i = .retiringSlotDrain ∨ i = .commitLimitExpire → s.dev.loom.commit = some c → c.waiting = true →
    c.capChanged = false → s.dev.hif.releaseDue = [] → s.dev.swapHeld = false → s.dev.cfg.retiringVersion.isSome = true → s.dev.drained = true →
    Yields i s (fun d => d.get F.LOOM_COMMIT_STATUS_STATE = 2 ∧ d.cfg.version = (s.dev.cfg.version + 1) % 16 ∧
      d.cfg.active = s.dev.cfg.shadow.admitted c.passed ∧ d.cfg.retiringVersion = some s.dev.cfg.version ∧ d.loom.commit = none)) ∧
  (∀ (s : State) (c : CommitReq), s.dev.deciding = true → s.dev.loom.commit = some c → c.waiting = true → s.dev.hif.releaseDue = [] →
    s.dev.cfg.retiringVersion.isSome = true → s.dev.drained = false →
    Yields .commitLimitExpire s (fun d => d.get F.LOOM_COMMIT_STATUS_STATE = 3 ∧ d.get F.LOOM_COMMIT_STATUS_REASON = 8 ∧
      d.get F.LOOM_COMMIT_STATUS_BOOK = 127 ∧ d.cfg = s.dev.cfg ∧ d.loom.commit = none)) ∧
  (∀ s : State, s.dev.hif.faulted = [] → s.dev.cfg.retiringVersion.isSome = true → s.dev.drained = false →
    Yields .retiringSlotDrain s (fun d => d.cfg = s.dev.cfg ∧ d.loom = s.dev.loom)) ∧
  (∀ s : State, s.dev.hif.faulted = [] → s.dev.loom.commit = none → s.dev.cfg.retiringVersion.isSome = true → s.dev.drained = true →
    Yields .retiringSlotDrain s (fun d => d.cfg = { s.dev.cfg with retiringVersion := none } ∧
      (s.dev.cfg.dead ≠ [] ∨ s.dev.cfg.gone ≠ [] → d.get F.HED_SHADOW_STATUS_RECLAIMING = 1)))

/-- R59 and R60: the loop and what one demotion does. -/
def Obligations.SheddingDemotesUntilTheSetPasses : Prop :=
  (∀ s : State, s.dev.loom.readmit ≠ [] → Yields .sheddingReadmit s (fun d => d.loom.readmit = [] ∧
      (∀ e < 16384, s.dev.cfg.active.get (EV.STATE e) ≠ 1 → d.cfg.active.get (EV.STATE e) ≠ 1) ∧
      (∀ l, s.dev.admitSet s.dev.cfg.active s.dev.cfg.active.admittedEnvs = .pass l → d.cfg = s.dev.cfg ∧ d.ctr K.LOOM_SHED = s.dev.ctr K.LOOM_SHED) ∧
      d.cfg = (s.dev.shedLoop (s.dev.cfg.active.admittedEnvs.length + 1)).cfg)) ∧
  (∀ (d : Dev) (n : Nat), d.cfg.active.admittedEnvs.length < n →
    let e := d.shedLoop n
    let c := e.cfg.active
    (∃ l, e.admitSet c c.admittedEnvs = .pass l) ∨ ∃ reason book env excess delay, e.admitSet c c.admittedEnvs = .reject reason book env excess delay ∧
      e.shedCandidates (c.admittedEnvs.map c.envInfo) book env delay = []) ∧
  (∀ s : State, s.dev.loom.readmit = [] → Yields .sheddingReadmit s (fun d => d = s.dev)) ∧
  (∀ (d : Dev) (e book : Nat), e < 16384 → book < 128 → d.ctr K.LOOM_SHED < 2 ^ 64 - 1 → (d.demote e book).cfg.active.get (EV.STATE e) = 2 ∧
      (d.demote e book).get F.LOOM_SHED_LAST_ENVELOPE = e ∧ (d.demote e book).get F.LOOM_SHED_LAST_BOOK = book ∧
      (d.demote e book).ctr K.LOOM_SHED = d.ctr K.LOOM_SHED + 1 ∧
      ∀ f < 16384, f ≠ e → (d.demote e book).cfg.active.get (EV.STATE f) = d.cfg.active.get (EV.STATE f))

/-- R56, R34 and R160: declared by time, and stale. -/
def Obligations.DeadlinesPassAndStaleFramesEnd : Prop :=
  (∀ (s : State) (i : Nat) (x : Shut), s.dev.shut i = some x → x.guaranteed = true → x.inFinal = false → x.dropReason = none →
    x.flag Fl.DEADLINE_MISS = false → s.dev.deciding = true →
    0 < (s.dev.onScale s.dev.now s.dev.epoch - s.dev.onScale x.deadline x.dlEpoch) * 100 + (s.dev.tailCent x * 65536 : Nat) →
    Yields (.deadlineTailExpire i) s (fun d => (∃ y, d.shut i = some y ∧ y.flag Fl.DEADLINE_MISS = true ∧ y.deadline = x.deadline ∧
      y.get S.CLASS = x.get S.CLASS ∧ y.stage = x.stage) ∧ ∀ j, j ≠ i → d.shut j = s.dev.shut j)) ∧
  (∀ (s : State) (i : Nat) (x : Shut), s.dev.shut i = some x →
    (s.dev.onScale s.dev.now s.dev.epoch - s.dev.onScale x.deadline x.dlEpoch) * 100 + (s.dev.tailCent x * 65536 : Nat) ≤ 0 →
    Yields (.deadlineTailExpire i) s (fun d => d = s.dev)) ∧
  (∀ (s : State) (i : Nat) (x : Shut), s.dev.shut i = some x → x.inFinal = true ∨
      s.dev.onScale s.dev.now s.dev.epoch - s.dev.onScale (fieldStamp (x.get S.INGRESS_STAMP)) x.epoch ≤ 2000000 * 65536 →
    Yields (.staleVersionExpire i) s (fun d => d = s.dev)) ∧
  (∀ (s : State) (i : Nat) (x : Shut), s.dev.deciding = true → s.dev.shut i = some x → x.guaranteed = false → x.inFinal = false → x.dropReason = none →
    s.dev.cfg.retiringVersion = some (x.get S.VERSION) → s.dev.ctr K.HED_STALE_VERSION < 2 ^ 64 - 1 →
    2000000 * 65536 < s.dev.onScale s.dev.now s.dev.epoch - s.dev.onScale (fieldStamp (x.get S.INGRESS_STAMP)) x.epoch →
    Yields (.staleVersionExpire i) s (fun d => d.ctr K.HED_STALE_VERSION = s.dev.ctr K.HED_STALE_VERSION + 1 ∧
      (s.dev.hif.faulted = [] → s.dev.threadOf i = none → x.ended = false → d.get F.HED_EVENT_STALE = 1 ∧
        ∃ y, d.shut i = some y ∧ y.stage = .ended ∧ y.dropReason = some 6 ∧ y.frame = x.frame)))

/-- R66, Table 2 and R67. -/
def Obligations.LinkStatesFollowTheirTable : Prop :=
  (∀ (s : State) (n : Nat), n ≤ 8 → s.dev.linkState n = LS.negotiate →
    Yields (.anComplete n true) s (fun d => d.linkState n = LS.train ∧ SameWordsBut [0x200004 + 0x10000 * n] d s.dev ∧ { d with bus := s.dev.bus } = s.dev) ∧
    Yields (.anComplete n false) s (fun d => d.linkState n = LS.negotiate ∧ d.ctr (K.PORT_AN_FAIL n) = (s.dev.ctr (K.PORT_AN_FAIL n) + 1) % 2 ^ 64 ∧
      SameWordsBut [] d s.dev ∧ { d with bus := s.dev.bus } = s.dev)) ∧
  (∀ (s : State) (n : Nat), n ≤ 8 → s.dev.linkState n = LS.train →
    Yields (.trainingComplete n) s (fun d => d.linkState n = LS.align ∧ SameWordsBut [0x200004 + 0x10000 * n] d s.dev ∧ { d with bus := s.dev.bus } = s.dev) ∧
    Yields (.trainingTimeout n) s (fun d => d.linkState n = (if s.dev.sh (F.PORT_CFG_AN n) = 1 then LS.negotiate else LS.train) ∧
      SameWordsBut [0x200004 + 0x10000 * n] d s.dev ∧ { d with bus := s.dev.bus } = s.dev)) ∧
  (∀ (s : State) (n : Nat), n ≤ 8 → s.dev.linkState n = LS.align →
    Yields (.linkUp n) s (fun d => d.linkState n = LS.up ∧ d.get (F.PORT_STATUS_LINK n) = 1 ∧ d.get (F.PORT_EVENT_LINK_CHANGE n) = 1 ∧
      (n < 8 → d.get (F.LOOM_BOOK_CAP_CAP n) = s.dev.cfg.active.portRate n ∧ n ∈ d.loom.readmit) ∧ d.shuts = s.dev.shuts ∧ d.cfg = s.dev.cfg)) ∧
  (∀ (s : State) (n : Nat), n ≤ 8 → s.dev.linkState n = LS.up →
    Yields (.linkLoss n) s (fun d => d.linkState n = (if s.dev.sh (F.PORT_CFG_AN n) = 1 then LS.negotiate else LS.train) ∧
      d.get (F.PORT_STATUS_LINK n) = 0 ∧ d.get (F.PORT_EVENT_LINK_CHANGE n) = 1 ∧
      (n < 8 → d.get (F.LOOM_BOOK_CAP_CAP n) = 0 ∧ n ∈ d.loom.readmit))) ∧
  (∀ (s : State) (n : Nat), (s.dev.linkState n ≠ LS.negotiate → Yields (.anComplete n true) s (fun d => d = s.dev)) ∧
    (s.dev.linkState n ≠ LS.train → Yields (.trainingComplete n) s (fun d => d = s.dev) ∧ Yields (.trainingTimeout n) s (fun d => d = s.dev)) ∧
    (s.dev.linkState n ≠ LS.align → Yields (.linkUp n) s (fun d => d = s.dev)) ∧
    (s.dev.linkState n ≠ LS.up → Yields (.linkLoss n) s (fun d => d = s.dev)))

/-- R68 to R70 and the PCS row of R34, Table 10. -/
def Obligations.PauseAndItsWatchdog : Prop :=
  (∀ (s : State) (n q : Nat) (also : Bool), s.dev.receives n = true → s.dev.sh (F.PORT_PAUSE_RX_MODE n) = 1 → q ≠ 0 → 8 ∉ (s.dev.port n).holdoff → 8 ∉ (s.dev.port n).paused →
    Yields (.pauseFrameRx n ⟨q, also⟩) s (fun d => (d.port n).paused = (s.dev.port n).paused ++ [8] ∧ d.get (F.PORT_STATUS_PAUSE_STATE n) = 1 ∧
      (∀ m, m ≠ n → d.port m = s.dev.port m) ∧ SameWordsBut [0x200004 + 0x10000 * n] d s.dev)) ∧
  (∀ (s : State) (n : Nat) (also : Bool), s.dev.receives n = true → s.dev.sh (F.PORT_PAUSE_RX_MODE n) = 1 → (s.dev.port n).paused = [8] →
    Yields (.pauseFrameRx n ⟨0, also⟩) s (fun d => (d.port n).paused = [] ∧ d.get (F.PORT_STATUS_PAUSE_STATE n) = 2 ∧
      (also = true → d.get (F.PORT_STATUS_WATCHDOG_ALSO n) = 1))) ∧
  (∀ (s : State) (n q : Nat) (also : Bool), s.dev.receives n = true → s.dev.sh (F.PORT_PAUSE_RX_MODE n) = 1 → 8 ∈ (s.dev.port n).holdoff → q ≠ 0 →
    Yields (.pauseFrameRx n ⟨q, also⟩) s (fun d => d = s.dev)) ∧
  (∀ (s : State) (n k also : Nat) (q : List Nat), s.dev.receives n = true → n < 8 → k < 8 → s.dev.sh (F.PORT_PAUSE_RX_MODE n) = 2 →
    (s.dev.sh (F.PORT_PAUSE_PFC_EN n)).testBit k = true → q.getD k 0 ≠ 0 → k ∉ (s.dev.port n).holdoff → k ∉ (s.dev.port n).paused →
    Yields (.pfcFrameRx n (2 ^ k) ⟨q, also⟩) s (fun d => (d.port n).paused = (s.dev.port n).paused ++ [k] ∧ d.get (F.PORT_STATUS_PAUSE_STATE n) = 1)) ∧
  (∀ (s : State) (n k : Nat) (also : Bool), n ≤ 8 → (s.dev.port n).paused = [k] →
    Yields (.pauseQuantaExpire n k also) s (fun d => (d.port n).paused = [] ∧ d.get (F.PORT_STATUS_PAUSE_STATE n) = 2 ∧
      (d.port n).holdoff = (s.dev.port n).holdoff ∧ (also = true → d.get (F.PORT_STATUS_WATCHDOG_ALSO n) = 1) ∧
      d.ctr (K.PORT_PAUSE_WDOG n) = s.dev.ctr (K.PORT_PAUSE_WDOG n))) ∧
  (∀ (s : State) (n k : Nat), n ≤ 8 → k ∈ (s.dev.port n).paused →
    Yields (.pauseWatchdogExpire n k) s (fun d => k ∉ (d.port n).paused ∧ k ∈ (d.port n).holdoff ∧ d.get (F.PORT_STATUS_PAUSE_STATE n) = 3 ∧
      d.get (F.PORT_EVENT_PAUSE_WDOG n) = 1 ∧ d.ctr (K.PORT_PAUSE_WDOG n) = (s.dev.ctr (K.PORT_PAUSE_WDOG n) + 1) % 2 ^ 64)) ∧
  (∀ (s : State) (n k : Nat), n ≤ 8 → k ∈ (s.dev.port n).holdoff →
    Yields (.pauseHoldoffExpire n k) s (fun d => k ∉ (d.port n).holdoff ∧ (d.port n).paused = (s.dev.port n).paused)) ∧
  (∀ (s : State) (n k : Nat), n ≤ 8 → k ∈ (s.dev.port n).xoff → s.dev.xoffFits n k = true →
    Yields (.xoffRefresh n k) s (fun d => d.out = s.dev.out ++ [.pause n (s.dev.sh (F.PORT_PAUSE_QUANTA n)) (2 ^ k)] ∧ { d with out := s.dev.out } = s.dev)) ∧
  (∀ (s : State) (n k : Nat), k ∉ (s.dev.port n).xoff ∨ s.dev.xoffFits n k = false → Yields (.xoffRefresh n k) s (fun d => d = s.dev))

/-- R16, R20, R87, R136, R64 and R81. -/
def Obligations.ReceptionCreatesShuttles : Prop :=
  (∀ (s : State) (n off : Nat) (m : Int), s.dev.receives n = true →
    Yields (.sfdRx n off m) s (fun d => (d.port n).stamps = (s.dev.port n).stamps ++ [⟨s.dev.rxStamp n off m, s.dev.epoch, s.dev.traceable⟩] ∧
      { d with net := s.dev.net } = s.dev ∧ ∀ k, k ≠ n → d.port k = s.dev.port k)) ∧
  (∀ (s : State) (n : Nat) (st : StampAt) (t : List StampAt) (b : List Byte), s.dev.receives n = true → (s.dev.port n).stamps = st :: t →
    (s.dev.port n).cur = none → s.dev.cellFree = true → s.dev.hif.faulted = [] → st.time < quartzMod / unit16 → s.dev.cfg.version < 16 →
    Yields (.firstWindowReady n b) s (fun d => (d.port n).stamps = t ∧ (d.port n).cur = some s.dev.nextShut ∧ d.nextShut = s.dev.nextShut + 1 ∧
      (∀ j, j ≠ s.dev.nextShut → d.shut j = s.dev.shut j) ∧
      ∃ y, d.shut s.dev.nextShut = some y ∧ y.frame = b ∧ y.rx = b ∧ y.stage = .entry ∧ y.pipe = (if 4 ≤ n ∧ n ≤ 7 then 1 else 0) ∧
        fieldStamp (y.get S.INGRESS_STAMP) = st.time ∧ y.epoch = st.epoch ∧ y.trace = st.trace ∧ y.get S.PORT = n ∧ y.get S.DIR = 0 ∧ y.get S.VERSION = s.dev.cfg.version)) ∧
  (∀ (s : State) (n : Nat) (p : StampAt) (t : List StampAt) (b : List Byte), s.dev.receives n = true → (s.dev.port n).stamps = p :: t →
    (s.dev.port n).cur = none → s.dev.cellFree = false →
    Yields (.firstWindowReady n b) s (fun d => d.shuts = s.dev.shuts ∧ d.ctr K.DRAM_CELL_DROP = (s.dev.ctr K.DRAM_CELL_DROP + 1) % 2 ^ 64)) ∧
  (∀ (s : State) (n i : Nat) (x : Shut) (b : List Byte), (s.dev.port n).cur = some i → s.dev.shut i = some x → s.dev.hif.faulted = [] → x.prpCopyOf = none → mapSorted s.dev.shuts = true →
    Yields (.secondWindowReady n b) s (fun d => ∃ y, d.shut i = some y ∧ y.frame = x.frame ++ b ∧ y.rx = x.rx ++ b ∧ y.stage = x.stage)) ∧
  (∀ (s : State) (n i off c u sy : Nat) (m : Int) (x : Shut) (b : List Byte), s.dev.receives n = true → (s.dev.port n).cur = some i → s.dev.shut i = some x →
    Yields (.frameEndRx n b off m c u sy) s (fun d => (d.port n).cur = none ∧ d.ctr (K.PORT_RX_FRAMES n) = (s.dev.ctr (K.PORT_RX_FRAMES n) + 1) % 2 ^ 64 ∧
      d.ctr (K.PORT_RX_FCS_BAD n) = (if (crc32 ((x.rx ++ b).take ((x.rx ++ b).length - 4)) ≠ fcsOf (x.rx ++ b)) ∨ u > 0 ∨
          (s.dev.sh (F.PORT_CFG_FEC n) = 0 ∧ sy > 0) then (s.dev.ctr (K.PORT_RX_FCS_BAD n) + 1) % 2 ^ 64 else s.dev.ctr (K.PORT_RX_FCS_BAD n)))) ∧
  (∀ (s : State) (n : Nat), n ≤ 8 → Yields (.cdrLockLoss n) s (fun d => d.get (F.PORT_STATUS_CDR_LOCK n) = 0 ∧
      ∀ k < 2, s.dev.get (F.PORT_RCLK_PORT k) = n → d.get (F.PORT_RCLK_SQUELCHED k) = 1) ∧
    Yields (.cdrLockGain n) s (fun d => d.get (F.PORT_STATUS_CDR_LOCK n) = 1 ∧ SameWordsBut [0x200004 + 0x10000 * n] d s.dev)) ∧
  (∀ (s : State) (k : Nat), k < 2 → s.dev.get (F.PORT_RCLK_PORT k) < 8 → s.dev.get (F.PORT_STATUS_CDR_LOCK (s.dev.get (F.PORT_RCLK_PORT k))) = 1 →
    Yields (.rclkRestore k) s (fun d => d.get (F.PORT_RCLK_SQUELCHED k) = 0 ∧ SameWordsBut [0x2F0000 + 4 * k] d s.dev))

/-- R42, R72 and R87. -/
def Obligations.FramesLeaveStampedAndUnderrunsCount : Prop :=
  (∀ (s : State) (n off i : Nat) (m : Int) (x : Shut), n ≤ 8 → s.dev.get (F.PORT_STATUS_LINK n) ≠ 0 → (s.dev.port n).sending = none →
    s.dev.nextSent n = some (i, x) → s.dev.shut i = some x → x.ended = true → x.lane = none → x.twin = none → x.prpCopyOf = none →
    x.flag Fl.PTP_CORRECT = false → x.txFlags % 2 = 0 →
    x.stomp = false → x.badAt = [] → x.flag Fl.FCS_BAD = false → x.flag Fl.HOST_POISON = false → s.dev.hif.faulted = [] →
    Yields (.frameTransmit n off ⟨m, .none⟩) s (fun d => d.ctr (K.PORT_TX_FRAMES n) = (s.dev.ctr (K.PORT_TX_FRAMES n) + 1) % 2 ^ 64 ∧
      Out.frame n (x.frame ++ leBytes 4 (crc32 x.frame)) (netStamp (((s.dev.now + off * 1024 : Nat) : Int) + s.dev.comp n true + m * 1024).toNat) ∈ d.out)) ∧
  (∀ (s : State) (n off i : Nat) (m : Int) (x : Shut), n ≤ 8 → s.dev.get (F.PORT_STATUS_LINK n) ≠ 0 → (s.dev.port n).sending = none →
    s.dev.nextSent n = some (i, x) → s.dev.shut i = some x → s.dev.hif.faulted = [] →
    Yields (.frameTransmit n off ⟨m, .shuttle⟩) s (fun d => d.ctr K.DRAM_SHUTTLE_LOST = (s.dev.ctr K.DRAM_SHUTTLE_LOST + 1) % 2 ^ 64 ∧
      d.ctr (K.PORT_TX_FRAMES n) = s.dev.ctr (K.PORT_TX_FRAMES n) ∧ (d.port n).sending = none)) ∧
  (∀ (s : State) (n off : Nat) (m : Int) (e : PbufError), s.dev.get (F.PORT_STATUS_LINK n) = 0 ∨ (s.dev.port n).sending.isSome = true ∨ s.dev.nextSent n = none →
    Yields (.frameTransmit n off ⟨m, e⟩) s (fun d => d = s.dev)) ∧
  (∀ (s : State) (n i r : Nat) (x : Shut), (s.dev.port n).sending = some i → s.dev.shut i = some x → x.ended = false → x.get S.DIR = 1 →
    x.ring = some r → x.get S.STATUS = 0 → x.prpCopyOf = none → s.dev.hif.faulted = [] → mapSorted s.dev.shuts = true →
    Yields (.txUnderrun n) s (fun d => d.ctr (K.PORT_TX_UNDERRUN n) = (s.dev.ctr (K.PORT_TX_UNDERRUN n) + 1) % 2 ^ 64 ∧
      d.get (F.PORT_EVENT_UNDERRUN n) = 1 ∧ (d.ring r).thresh = s.dev.startAt r n + 64))

/-- R78 and R80. -/
def Obligations.RedundantFeedsAreJudged : Prop :=
  (∀ (d : Dev) (g m h : Nat), 4 ≤ m → m % 2 = 0 → h < m → (d.abGroup g).high = some h → (d.abGroup g).rewind = false → inGap m ((h + 1) % m) (d.abGroup g).gaps = false →
    (d.abGroup g).gaps.length ≤ 16 →
    (d.abDecide g m ((h + 1) % m)).2 = true ∧ ((d.abDecide g m ((h + 1) % m)).1.abGroup g).high = some ((h + 1) % m) ∧
      ((d.abDecide g m ((h + 1) % m)).1.abGroup g).gaps = (d.abGroup g).gaps) ∧
  (∀ (d : Dev) (g m h k : Nat), 4 ≤ m → m % 2 = 0 → h < m → (d.abGroup g).high = some h → (d.abGroup g).rewind = false → 1 < k → k < m / 2 →
    inGap m ((h + k) % m) (d.abGroup g).gaps = false → (d.abGroup g).gaps.length < 16 →
    (d.abDecide g m ((h + k) % m)).2 = true ∧ ((d.abDecide g m ((h + k) % m)).1.abGroup g).high = some ((h + k) % m) ∧
      ((d.abDecide g m ((h + k) % m)).1.abGroup g).gaps = (d.abGroup g).gaps ++ [((h + 1) % m, k - 1)]) ∧
  (∀ (d : Dev) (g m h n : Nat), (d.abGroup g).high = some h → (d.abGroup g).rewind = false → inGap m n (d.abGroup g).gaps = true →
    (d.abDecide g m n).2 = true) ∧
  (∀ (d : Dev) (g m h n : Nat), (d.abGroup g).high = some h → (d.abGroup g).rewind = false → inGap m n (d.abGroup g).gaps = false →
    ((n + m - h) % m = 0 ∨ m / 2 ≤ (n + m - h) % m) → n ∈ (d.abGroup g).marked →
    (d.abDecide g m n).2 = false ∧ (d.abDecide g m n).1.ctr K.AB_SECOND_DROP = (d.ctr K.AB_SECOND_DROP + 1) % 2 ^ 64) ∧
  (∀ (s : State) (g first n : Nat), (s.dev.abGroup g).gaps.find? (fun p => p.1 == first) = some (first, n) →
    Yields (.abGapTimeout g first) s (fun d => d.ctr K.AB_GAPS = (s.dev.ctr K.AB_GAPS + 1) % 2 ^ 64 ∧
      d.ctr K.AB_GAP_SEQS = (s.dev.ctr K.AB_GAP_SEQS + n) % 2 ^ 64 ∧ (d.abGroup g).gaps.all (fun p => p.1 != first) = true ∧
      (d.abGroup g).high = (s.dev.abGroup g).high ∧ ∀ k, k ≠ g → d.abGroup k = s.dev.abGroup k)) ∧
  (∀ (s : State) (g first : Nat), (s.dev.abGroup g).gaps.find? (fun p => p.1 == first) = none → Yields (.abGapTimeout g first) s (fun d => d = s.dev)) ∧
  (∀ (s : State) (pair mac : Nat), Yields (.prpEntryForget pair mac) s (fun d =>
      (∀ e, e ∈ mapGetD d.net.prpSources pair [] ↔ e ∈ mapGetD s.dev.net.prpSources pair [] ∧ e.mac ≠ mac) ∧
      (∀ p, p ≠ pair → mapGet d.net.prpSources p = mapGet s.dev.net.prpSources p) ∧ { d with net := s.dev.net } = s.dev))

/-- R82, R84 and R86. -/
def Obligations.QuartzIsSteeredLatchedAndCountsExactly : Prop :=
  (∀ t : Time, -freqLimit ≤ t.f → t.q < quartzMod → (quartzNext t).q = (t.q + (5 * (2 ^ 48 + t.f)).toNat) % quartzMod ∧
    (quartzNext t).cycles = t.cycles + 1 ∧ (quartzNext t).f = t.f) ∧
  (∀ (s : State) (hi : Word) (v : Int), s.dev.responds 0x300018 = true → v = signedOf 39 ((s.dev.word 0x300018).toNat + 2 ^ 32 * hi.toNat) →
    Yields (.freqWrite hi) s (fun d => -freqLimit ≤ d.time.f ∧ d.time.f ≤ freqLimit ∧
      (-freqLimit ≤ v ∧ v ≤ freqLimit → d.time.f = v ∧ d.get F.TIME_EVENT_FREQ_CLAMP = s.dev.get F.TIME_EVENT_FREQ_CLAMP) ∧
      (v > freqLimit → d.time.f = freqLimit ∧ d.get F.TIME_EVENT_FREQ_CLAMP = 1) ∧
      (v < -freqLimit → d.time.f = -freqLimit ∧ d.get F.TIME_EVENT_FREQ_CLAMP = 1) ∧
      { d with bus := s.dev.bus, time := s.dev.time } = s.dev ∧ { d.time with f := s.dev.time.f, fLog := s.dev.time.fLog } = s.dev.time ∧
      SameWordsBut [0x300018, 0x30001C, 0x300004] d s.dev)) ∧
  (∀ s : State, s.dev.responds 0x300008 = true → Yields .timeLatch s (fun d => d.get F.TIME_NOW_NS_NS = s.dev.nowNs % 2 ^ 64 ∧
      d.get F.TIME_NOW_FRAC_FRAC = s.dev.now % 65536 ∧ { d with bus := s.dev.bus } = s.dev ∧ SameWordsBut [0x30000C, 0x300010, 0x300014] d s.dev))

/-- R83, R101, R102, R104 and R105. -/
def Obligations.ClockStepsApplyOnceTheirEpochIsFree : Prop :=
  (∀ (s : State) (fr : Nat), s.dev.responds 0x300030 = true → fr < 65536 → s.dev.time.step = none →
    Yields (.stepGo fr) s (fun d => d.get F.TIME_STATUS_STEP_PENDING = 1 ∧ d.time.step = some ⟨signedOf 64 (s.dev.get F.TIME_STEP_NS_DELTA) * 65536 + fr,
      (if s.dev.get F.TIME_STEP_AT_AT ≤ s.dev.nowNs then 0 else s.dev.get F.TIME_STEP_AT_AT), false, s.dev.time.cycles⟩ ∧ d.time.q = s.dev.time.q)) ∧
  (∀ (s : State) (fr : Nat) (r : StepReq), s.dev.responds 0x300030 = true → s.dev.time.step = some r →
    Yields (.stepGo fr) s (fun d => d.get F.TIME_EVENT_STEP_GO_IGNORED = 1 ∧ d.time = s.dev.time)) ∧
  (∀ (s : State) (r : StepReq), s.dev.time.step = some r →
    (r.at_ = 0 ∧ r.go + 64 ≤ s.dev.time.cycles) ∨ (r.at_ ≠ 0 ∧ r.at_ ≤ s.dev.nowNs) → s.dev.time.epochSum.length = 4 →
    s.dev.epochHeld ((s.dev.epoch + 1) % 4) = false →
    Yields .stepApply s (fun d => (d.time.q : Int) = ((s.dev.time.q : Int) + r.delta * (unit16 : Int)) % (quartzMod : Int) ∧
      d.epoch = (s.dev.epoch + 1) % 4 ∧ d.epochSum d.epoch = 0 ∧ (∀ e < 4, e ≠ d.epoch → d.epochSum e = s.dev.epochSum e + r.delta) ∧
      d.get F.TIME_STATUS_VALID = 1 ∧ d.get F.TIME_EVENT_STEP_DONE = 1 ∧ d.ctr K.TIME_STEPS = (s.dev.ctr K.TIME_STEPS + 1) % 2 ^ 64 ∧
      d.time.step = none ∧ d.get F.TIME_STATUS_STEP_PENDING = 0 ∧ d.time.cycles = s.dev.time.cycles ∧ d.shuts = s.dev.shuts)) ∧
  (∀ (s : State) (r : StepReq), s.dev.time.step = some r →
    (r.at_ = 0 ∧ r.go + 64 ≤ s.dev.time.cycles) ∨ (r.at_ ≠ 0 ∧ r.at_ ≤ s.dev.nowNs) → s.dev.epochHeld ((s.dev.epoch + 1) % 4) = true →
    Yields .stepApply s (fun d => d.get F.TIME_EVENT_STEP_HELD = 1 ∧ d.time = { s.dev.time with step := some { r with held := true } } ∧
      { d with bus := s.dev.bus, time := s.dev.time } = s.dev)) ∧
  (∀ (s : State) (r : StepReq), s.dev.time.step = some r →
    (r.at_ = 0 ∧ s.dev.time.cycles < r.go + 64) ∨ (r.at_ ≠ 0 ∧ s.dev.nowNs < r.at_) → Yields .stepApply s (fun d => d = s.dev)) ∧
  (∀ (s : State) (r : StepReq), s.dev.time.step = some r → r.held = true → r.go + 12000000 ≤ s.dev.time.cycles → s.dev.ctr K.TIME_EPOCH_FOLD + s.dev.shuts.length < 2 ^ 64 →
    Yields .stepFold s (fun d => (d.time.q : Int) = ((s.dev.time.q : Int) + r.delta * (unit16 : Int)) % (quartzMod : Int) ∧ d.time.step = none ∧
      d.shuts = s.dev.shuts.map (fun p => (p.1, foldShut s.dev.now s.dev.epoch ((s.dev.epoch + 1) % 4) p.2)) ∧
      d.ctr K.TIME_EPOCH_FOLD = s.dev.ctr K.TIME_EPOCH_FOLD +
        (s.dev.shuts.filter (fun p => p.2.epoch == (s.dev.epoch + 1) % 4 || (p.2.guaranteed && p.2.dlEpoch == (s.dev.epoch + 1) % 4))).length)) ∧
  (∀ (s : State) (r : StepReq), s.dev.time.step = some r → r.held = false ∨ s.dev.time.cycles < r.go + 12000000 → Yields .stepFold s (fun d => d = s.dev))

/-- R103: the comparisons of R102, which adds the sum of steps since an epoch, do not move with a step. -/
def Obligations.AStepKeepsEveryComparison : Prop :=
  ∀ (d : Dev) (delta : Int), d.time.epochSum.length = 4 → d.epochSum d.epoch = 0 →
    0 ≤ (d.time.q : Int) + delta * (unit16 : Int) → (d.time.q : Int) + delta * (unit16 : Int) < (quartzMod : Int) →
    (∀ t1 t2 e1 e2 : Nat, e1 < 4 → e2 < 4 → e1 ≠ (d.applyStep delta).epoch → e2 ≠ (d.applyStep delta).epoch →
      (d.applyStep delta).onScale t1 e1 - (d.applyStep delta).onScale t2 e2 = d.onScale t1 e1 - d.onScale t2 e2) ∧
    (∀ t e : Nat, e < 4 → e ≠ (d.applyStep delta).epoch →
      (d.applyStep delta).onScale (d.applyStep delta).now (d.applyStep delta).epoch - (d.applyStep delta).onScale t e =
        d.onScale d.now d.epoch - d.onScale t e)

/-- R92 to R95. -/
def Obligations.TimingInputsAreStamped : Prop :=
  (∀ (s : State) (rise : Bool) (off : Nat), s.dev.time.decl.ppsIn = (if rise then 1 else 2) → s.dev.sys.inReset = false →
    Yields (.ppsInEdge rise off) s (fun d =>
      d.get F.TIME_PPS_IN_NS_NS = netStamp (s.dev.now + off * 1024) / 65536 % 2 ^ 64 ∧
      d.get F.TIME_PPS_IN_FRAC_FRAC = netStamp (s.dev.now + off * 1024) % 65536 ∧ d.get F.TIME_EVENT_PPS_IN = 1 ∧ d.get F.TIME_STATUS_PPS_IN_OK = 1 ∧
      d.ctr K.TIME_PPS_IN_EDGES = (s.dev.ctr K.TIME_PPS_IN_EDGES + 1) % 2 ^ 64 ∧ d.time.ppsUnread = true ∧
      d.ctr K.TIME_PPS_IN_OVERRUN = (if s.dev.time.ppsUnread then (s.dev.ctr K.TIME_PPS_IN_OVERRUN + 1) % 2 ^ 64 else s.dev.ctr K.TIME_PPS_IN_OVERRUN))) ∧
  (∀ (s : State) (rise : Bool) (off : Nat), s.dev.time.decl.ppsIn ≠ (if rise then 1 else 2) → Yields (.ppsInEdge rise off) s (fun d => d = s.dev)) ∧
  (∀ s : State, s.dev.time.decl.ppsIn ≠ 0 → Yields (.ppsInLoss false) s (fun d => d.get F.TIME_EVENT_PPS_IN_LOSS = 1 ∧ d.get F.TIME_STATUS_PPS_IN_OK = 0 ∧
      d.time = s.dev.time)) ∧
  (∀ s : State, Yields (.ppsInLoss true) s (fun d => d = s.dev)) ∧
  (∀ s : State, s.dev.responds 0x300040 = true → Yields .ppsInRead s (fun d => d.out = s.dev.out ++ [.readData (s.dev.get F.TIME_PPS_IN_NS_NS)] ∧
      d.get F.TIME_PPS_IN_NS_NS = 0 ∧ d.time.ppsUnread = false)) ∧
  (∀ (s : State) (off : Nat) (steer : Int), s.dev.time.decl.clk10In ≠ 0 → Yields (.clk10Measure ⟨off, steer⟩) s (fun d => d.get F.TIME_STATUS_CLK10_OK = 1 ∧
      signedOf 32 (d.get F.TIME_CLK10_PHASE_PHASE) = clk10Phase (s.dev.now + off * 1024) ∧
      (clk10Phase (s.dev.now + off * 1024)).natAbs ≤ 50 * 65536 ∧
      (s.dev.clkHolds = true → s.dev.sys.firmwareLoaded = true → d.time.f = clampFreq steer))) ∧
  (∀ s : State, s.dev.time.decl.clk10In ≠ 0 → Yields .clk10Loss s (fun d => d.get F.TIME_STATUS_CLK10_OK = 0 ∧ d.get F.TIME_EVENT_CLK10_LOSS = 1)) ∧
  (∀ (s : State) (c : Byte) (idle fe : Bool), s.dev.time.decl.todRx = true → Yields (.todRxChar c idle fe) s (fun d =>
      d.get F.TIME_TOD_RX_INDEX_HEAD = (s.dev.get F.TIME_TOD_RX_INDEX_HEAD + 1) % 256 ∧
      d.get ⟨0x302000 + s.dev.get F.TIME_TOD_RX_INDEX_HEAD / 4 * 4, 8 * (s.dev.get F.TIME_TOD_RX_INDEX_HEAD % 4), 8⟩ = c.toNat ∧
      (idle = true → d.get F.TIME_EVENT_TOD_RX = 1) ∧
      d.ctr K.TIME_TOD_RX_ERRORS = (if fe then (s.dev.ctr K.TIME_TOD_RX_ERRORS + 1) % 2 ^ 64 else s.dev.ctr K.TIME_TOD_RX_ERRORS)))

/-- R96, R98, R99 (Table 5) and R110. -/
def Obligations.TimingOutputsAndServoStates : Prop :=
  (∀ s : State, s.dev.time.decl.ppsOut = true → s.dev.get F.TIME_PPS_OUT_CFG_ENABLE = 1 → (s.dev.get F.TIME_STATUS_VALID = 1 ∨ s.dev.get F.TIME_PPS_OUT_CFG_FORCE = 1) →
    s.dev.ppsEdge = true → s.dev.time.ppsOutHigh = false →
    Yields .ppsOutPulse s (fun d => d.time.ppsOutHigh = true ∧ d.time.ppsEnd = s.dev.time.cycles + 1200 * s.dev.get F.TIME_PPS_OUT_CFG_WIDTH_US ∧ d.out = s.dev.out ++ [.pinEdge 0 1] ∧ d.bus = s.dev.bus)) ∧
  (∀ s : State, (s.dev.get F.TIME_STATUS_VALID = 0 ∧ s.dev.get F.TIME_PPS_OUT_CFG_FORCE = 0) ∨ s.dev.ppsEdge = false → Yields .ppsOutPulse s (fun d => d = s.dev)) ∧
  (∀ s : State, s.dev.time.ppsOutHigh = true → s.dev.time.ppsEnd ≤ s.dev.time.cycles → Yields .ppsOutEnd s (fun d => d.time.ppsOutHigh = false ∧ d.out = s.dev.out ++ [.pinEdge 0 0] ∧ d.bus = s.dev.bus)) ∧
  (∀ s : State, s.dev.time.cycles < s.dev.time.ppsEnd → Yields .ppsOutEnd s (fun d => d = s.dev)) ∧
  (∀ (s : State) (sec : Nat), s.dev.time.todTxDue = some sec → s.dev.get F.TIME_TOD_CFG_TX_FORMAT = 1 ∨ s.dev.get F.TIME_TOD_CFG_TX_FORMAT = 2 →
    Yields .todTxSend s (fun d => d.time.todTxDue = none ∧ ∃ b, d.out = s.dev.out ++ [.bytes 1 b])) ∧
  (∀ (s : State) (src : Nat) (o st : Int), s.dev.sys.firmwareLoaded = true → s.dev.mayFollow src = true → (s.dev.get F.TIME_STATUS_SERVO = 0 ∨ s.dev.get F.TIME_STATUS_SERVO = 3) →
    Yields (.servoSourceUsable src o st) s (fun d => d.get F.TIME_STATUS_SERVO = 1 ∧ d.get F.TIME_STATUS_SOURCE = src ∧ d.get F.TIME_EVENT_SERVO_CHANGE = 1 ∧
      (o.natAbs ≤ s.dev.time.decl.stepThreshNs → d.time.f = clampFreq st ∧ d.time.step = s.dev.time.step) ∧
      (o.natAbs > s.dev.time.decl.stepThreshNs → s.dev.time.step = none → d.time.step.isSome = true ∧ d.time.f = s.dev.time.f))) ∧
  (∀ s : State, s.dev.sys.firmwareLoaded = true → s.dev.get F.TIME_STATUS_SERVO = 1 →
    Yields .servoLocked s (fun d => d.get F.TIME_STATUS_SERVO = 2 ∧ d.get F.TIME_STATUS_TRACEABLE = 1 ∧ d.get F.TIME_EVENT_SERVO_CHANGE = 1) ∧
    Yields (.servoSourceLost none) s (fun d => d.get F.TIME_STATUS_SERVO = 0 ∧ d.time.f = s.dev.time.f)) ∧
  (∀ (s : State) (o : Int) (k : Nat), s.dev.sys.firmwareLoaded = true → s.dev.get F.TIME_STATUS_SERVO = 2 →
    (o.natAbs > s.dev.time.decl.stepThreshNs → Yields (.servoOffsetExceed o) s (fun d => d.get F.TIME_STATUS_SERVO = 1 ∧
      d.get F.TIME_EVENT_SERVO_CHANGE = 1 ∧ (s.dev.time.step = none → d.time.step.isSome = true))) ∧
    Yields (.servoSourceLost none) s (fun d => d.get F.TIME_STATUS_SERVO = 3 ∧ d.get F.TIME_HOLD_ELAPSED_S = 0 ∧ d.time.holdStart = s.dev.time.cycles ∧
      d.time.f = (if s.dev.time.decl.clk10In = 2 ∧ s.dev.get F.TIME_STATUS_CLK10_OK = 1 then s.dev.time.f else clampFreq s.dev.time.fAverage)) ∧
    (s.dev.declaredBehind (s.dev.get F.TIME_STATUS_SOURCE) k = true → s.dev.sourceOk k = true → Yields (.servoSourceLost (some k)) s (fun d => d.get F.TIME_STATUS_SERVO = 1 ∧ d.get F.TIME_STATUS_SOURCE = k))) ∧
  (∀ (s : State) (err : Nat), s.dev.sys.firmwareLoaded = true → s.dev.get F.TIME_STATUS_SERVO = 3 →
    Yields (.servoTraceLimit err) s (fun d => d.get F.TIME_STATUS_TRACEABLE = (if err > s.dev.time.decl.traceLimitNs then 0 else s.dev.get F.TIME_STATUS_TRACEABLE)) ∧
    (s.dev.time.holdStart + 86400 * 1200000000 ≤ s.dev.time.cycles → Yields .servoHoldoverExpire s (fun d => d.get F.TIME_STATUS_SERVO = 0 ∧ d.get F.TIME_STATUS_TRACEABLE = 0 ∧ d.get F.TIME_EVENT_SERVO_CHANGE = 1))) ∧
  (∀ (s : State) (n : Nat), s.dev.Live → n ≤ 8 → (mapGetD s.dev.time.txStamps n []).length ≤ 64 → Yields (.txstampPop n) s (fun d =>
      mapGetD d.time.txStamps n [] = (mapGetD s.dev.time.txStamps n []).drop 1 ∧
      d.get (F.TIME_PORT_TXSTAMP_CTRL_COUNT n) = (mapGetD s.dev.time.txStamps n []).length - 1 ∧
      ∀ m, m ≠ n → mapGet d.time.txStamps m = mapGet s.dev.time.txStamps m))

/-- R122 to R125. -/
def Obligations.SealsCloseBatchesAndChain : Prop :=
  (∀ (s : State) (k : Nat) (i : Instr), k < 8 → i = .sealIntervalExpire k ∨ (i = .sealNow (2 ^ k) ∧ s.dev.responds 0x400014 = true) →
    s.dev.flt.gap = 0 → s.dev.openCut k = none →
    (s.dev.stream k).running = true → (s.dev.stream k).stalledAt = none → (s.dev.stream k).gaps = [] → 6 ≤ s.dev.freeSlots k → (s.dev.stream k).batch ≠ [] →
    Yields i s (fun d => (d.stream k).digest = sha512 ((s.dev.stream k).digest ++ (s.dev.stream k).batch) ∧ (d.stream k).batch = [] ∧
      (d.stream k).total = (s.dev.stream k).total + (s.dev.stream k).batch.length / 32 ∧ (d.stream k).sealNumber = (s.dev.stream k).sealNumber + 1 ∧
      (d.stream k).alive = ((s.dev.stream k).alive + 1) % 256 ∧ d.ctr (kHead k) = (s.dev.ctr (kHead k) + 6) % 2 ^ 64 ∧
      (∃ j, d.ledg.signer = s.dev.ledg.signer.filter (fun x => decide (x.cycle < s.dev.time.cycles) || decide (x.stream < k)) ++ [j] ++
          s.dev.ledg.signer.filter (fun x => !(decide (x.cycle < s.dev.time.cycles) || decide (x.stream < k))) ∧
        j.prev = (s.dev.stream k).digest ∧ j.batch = (s.dev.stream k).batch ∧ j.cycle = s.dev.time.cycles ∧ j.stream = k ∧ j.slot = s.dev.ctr (kHead k) ∧ j.number = (s.dev.stream k).sealNumber + 1) ∧
      (∀ m, m ≠ k → d.stream m = s.dev.stream m) ∧ { d with bus := s.dev.bus, ledg := s.dev.ledg, dram := s.dev.dram } = s.dev)) ∧
  (∀ (s : State) (j : SealJob) (t : List SealJob) (f : Nat), s.dev.ledg.signer = j :: t → j.stream < 8 → j.cycle < s.dev.time.cycles →
    Yields (.sealWrite f) s (fun d => d.ledg.signer = t ∧ d.ctr (kLastSeal j.stream) = j.number % 2 ^ 64 ∧
      d.ctr (K.LEDG_SEALS j.stream) = (s.dev.ctr (K.LEDG_SEALS j.stream) + 1) % 2 ^ 64 ∧ j.slot ∉ (d.stream j.stream).reserved ∧
      (f < 2 → d.get F.LEDG_STATUS_SIGNER_FAULT = 0 ∧ ∃ e : Dev, d.dram.wq = (e.writeSlots j.ring j.slot (j.body ++ edSign s.dev.ledg.privateKey j.body) 6).dram.wq ∧
        e.dram = s.dev.dram) ∧
      (2 ≤ f → d.get F.LEDG_STATUS_SIGNER_FAULT = 1 ∧ d.get F.LEDG_EVENT_SEAL_FAULT = 1 ∧ d.get ⟨0x1000020, Code.ledgerSeal, 1⟩ = 1 ∧
        ∃ e : Dev, d.dram.wq = (e.writeSlots j.ring j.slot (j.body ++ List.replicate 64 0) 6).dram.wq ∧ e.dram = s.dev.dram))) ∧
  (∀ (s : State) (j : SealJob) (t : List SealJob) (f : Nat), s.dev.ledg.signer = j :: t → s.dev.time.cycles ≤ j.cycle → Yields (.sealWrite f) s (fun d => d = s.dev))

/-- R132 to R134. -/
def Obligations.ExportKeepsItsCountsAndStops : Prop :=
  (∀ (s : State) (k p q : Nat), s.dev.exporting k = true → s.dev.exportSlots k ≠ 0 → s.dev.hif.faulted = [] →
    (∀ w ∈ s.dev.hif.waiting, w.inst = s.dev.sh (F.LEDG_STREAM_CFG_INSTANCE k) → w.len ≠ 0) →
    s.dev.exportXlate k (s.dev.exportData k) = .hit p → s.dev.exportXlate k (s.dev.sh (F.LEDG_STREAM_MIRROR_ADDR k)) = .hit q →
    Yields (.ledgerExportBurst k) s (fun d => d.ctr (kExported k) = (s.dev.ctr (kExported k) + s.dev.exportSlots k) % 2 ^ 64)) ∧
  (∀ (s : State) (k r : Nat), s.dev.exporting k = true → s.dev.exportSlots k ≠ 0 → s.dev.hif.faulted = [] →
    (∀ w ∈ s.dev.hif.waiting, w.inst = s.dev.sh (F.LEDG_STREAM_CFG_INSTANCE k) → w.len ≠ 0) → s.dev.exportXlate k (s.dev.exportData k) = .fault r →
    Yields (.ledgerExportBurst k) s (fun d => d.ctr (kExported k) = s.dev.ctr (kExported k) ∧ d.get (F.LEDG_STREAM_CFG_EXPORT k) = 0 ∧
      d.get F.LEDG_EVENT_EXPORT_STOP = 1)) ∧
  (∀ (s : State) (k : Nat), s.dev.exporting k = false ∨ s.dev.exportSlots k = 0 → Yields (.ledgerExportBurst k) s (fun d => d = s.dev)) ∧
  (∀ (s : State) (inst k n : Nat), s.dev.sys.ready = true → k < 8 → n < 2 ^ 64 →
    (s.dev.sh (F.LEDG_STREAM_CFG_INSTANCE k) = inst → Yields (.ledgerTailDoorbell inst k n true false) s (fun d => d.ctr (kHostTail k) = n ∧
      d.bus.words = s.dev.bus.words ∧ { d with bus := s.dev.bus } = s.dev)) ∧
    (s.dev.sh (F.LEDG_STREAM_CFG_INSTANCE k) ≠ inst → Yields (.ledgerTailDoorbell inst k n true false) s (fun d =>
      d.ctr K.RING_LEDGER_TAIL_IGNORED = (s.dev.ctr K.RING_LEDGER_TAIL_IGNORED + 1) % 2 ^ 64 ∧ d.ctr (kHostTail k) = s.dev.ctr (kHostTail k))) ∧
    Yields (.ledgerTailDoorbell inst k n true true) s (fun d => d.ctr K.HIF_POISON_RX = (s.dev.ctr K.HIF_POISON_RX + 1) % 2 ^ 64 ∧
      d.ctr (kHostTail k) = s.dev.ctr (kHostTail k)) ∧
    Yields (.ledgerTailDoorbell inst k n false false) s (fun d => d.ctr K.RING_BAD_DOORBELL = (s.dev.ctr K.RING_BAD_DOORBELL + 1) % 2 ^ 64 ∧
      d.get F.RING_EVENT_BAD_DOORBELL = 1)) ∧
  (∀ (s : State) (k n : Nat), s.dev.Live → k < 8 → n < 2 ^ 64 → Yields (.ledgerHostTailWrite k n) s (fun d => d.ctr (kHostTail k) = n ∧
      { d with bus := s.dev.bus } = s.dev)) ∧
  (∀ (s : State) (k : Nat), s.dev.Live → k < 8 → s.dev.get (F.LEDG_STREAM_CFG_EXPORT k) = 1 →
    Yields (.exportStop k) s (fun d => d.get (F.LEDG_STREAM_CFG_EXPORT k) = 0 ∧ d.get F.LEDG_EVENT_EXPORT_STOP = 1) ∧
    Yields (.exportResume k) s (fun d => d = s.dev)) ∧
  (∀ (s : State) (k : Nat), s.dev.Live → k < 8 → s.dev.get (F.LEDG_STREAM_CFG_EXPORT k) = 0 →
    Yields (.exportResume k) s (fun d => d.get (F.LEDG_STREAM_CFG_EXPORT k) = 1)) ∧
  (∀ s : State, s.dev.get F.LEDG_CTRL_HEALTH_S ≠ 0 → Yields .healthSelfTestRecord s (fun d => ∀ k < 8, (s.dev.stream k).running = true →
      (s.dev.stream k).stalledAt = none → (s.dev.stream k).gaps = [] → 1 ≤ s.dev.freeSlots k →
      (s.dev.stream k).batch.length / 32 + 1 < s.dev.sh F.LEDG_SEAL_LIMIT_LIMIT →
      d.ctr (kHead k) = (s.dev.ctr (kHead k) + 1) % 2 ^ 64 ∧ (d.stream k).alive = ((s.dev.stream k).alive + 1) % 256)) ∧
  (∀ s : State, s.dev.get F.LEDG_CTRL_HEALTH_S = 0 → Yields .healthSelfTestRecord s (fun d => d = s.dev))

/-- R157, R158, R161 and R162. -/
def Obligations.TableOperationsActOnTheSetTheyName : Prop :=
  (∀ (s : State) (ctrl r : Nat), ctrl ≠ 0x100200 ∨ s.dev.hif.walks.any (fun w => w.pin) = false → mapGet s.dev.ind ctrl = some r → r < 16 →
    Yields (.indirectOpComplete ctrl) s (fun d => d.get ⟨ctrl, 16, 1⟩ = 0 ∧ d.get ⟨ctrl, 12, 4⟩ = r ∧ mapGet d.ind ctrl = none ∧
      SameWordsBut [ctrl] d s.dev ∧ { d with bus := s.dev.bus, ind := s.dev.ind } = s.dev)) ∧
  (∀ (s : State) (t x n : Nat) (i : Instr), s.dev.get F.HED_IND_CTRL_BUSY = 1 →
    i ∈ ([.hedRead t x n, .hedWrite t x n, .hedDelete t x n, .insertKey t x n, .hedFindKey t x] : List Instr) → Yields i s (fun d => d = s.dev)) ∧
  (∀ (s : State) (t x n tab lo hi b : Nat), s.dev.IndReady 0x500100 → x < 2 → hedTable t = some (tab, lo, hi, b) → lo ≤ n → n < hi →
    Yields (.hedRead t x n) s (fun d => d.cfg = s.dev.cfg ∧
      (recPresent tab ((s.dev.setBy x).record tab n) = true → d.IndBusy 0x500100 0 ∧
        d.words hedWin (ceilDiv b 4) = ((s.dev.setBy x).record tab n).toNat % 2 ^ (8 * b)) ∧
      (recPresent tab ((s.dev.setBy x).record tab n) = false → d.IndBusy 0x500100 1 ∧ d.words hedWin (ceilDiv b 4) = 0))) ∧
  (∀ (s : State) (t x n : Nat), s.dev.IndReady 0x500100 → (∀ tab lo hi b, hedTable t = some (tab, lo, hi, b) → n < lo ∨ hi ≤ n) →
    ((∀ tab lo hi b, hedTable t = some (tab, lo, hi, b) → hi ≤ n) → Yields (.hedRead t x n) s (fun d => d.IndBusy 0x500100 3 ∧ d.cfg = s.dev.cfg)) ∧
    (t = 0 → n = 0 → Yields (.hedRead t x n) s (fun d => d.IndBusy 0x500100 1 ∧ d.cfg = s.dev.cfg ∧ d.words hedWin 16 = 0)) ∧ Yields (.hedWrite t x n) s (fun d => d.IndBusy 0x500100 3 ∧ d.cfg = s.dev.cfg) ∧
    Yields (.hedDelete t x n) s (fun d => d.IndBusy 0x500100 3 ∧ d.cfg = s.dev.cfg)) ∧
  (∀ (s : State) (t n tab lo hi b places bit : Nat), s.dev.IndReady 0x500100 → hedTable t = some (tab, lo, hi, b) → lo ≤ n → n < hi →
    reserveOf tab n = some (places, bit) →
    (tab = Tab.flow → recGet (s.dev.winRec hedWin b) FR.VALID = 1 → s.dev.cfg.shadow.flowOfKey (recGet (s.dev.winRec hedWin b) FR.KEY) n = none ∧
      s.dev.cfg.shadow.indexRoom n (recGet (s.dev.winRec hedWin b) FR.KEY) = true) →
    (visibleActive s.dev.cfg tab n = false ∨ s.dev.cfg.copies.contains (recKey tab n) = true ∨ s.dev.cfg.reserveUsed (recKey tab n) < places →
      Yields (.hedWrite t 0 n) s (fun d => d.IndBusy 0x500100 0 ∧ d.cfg.shadow.record tab n = keepRec tab (s.dev.winRec hedWin b) ∧
        (∀ k, k ≠ recKey tab n → mapGetD d.cfg.shadow.recs k 0 = mapGetD s.dev.cfg.shadow.recs k 0) ∧ d.get F.HED_SHADOW_STATUS_CHANGED = 1 ∧
        d.cfg.active = s.dev.cfg.active ∧ d.cfg.retiring = s.dev.cfg.retiring)) ∧
    (visibleActive s.dev.cfg tab n = true → s.dev.cfg.copies.contains (recKey tab n) = false → places ≤ s.dev.cfg.reserveUsed (recKey tab n) →
      (keepRec tab (s.dev.winRec hedWin b) ≠ s.dev.cfg.active.record tab n →
      Yields (.hedWrite t 0 n) s (fun d => d.IndBusy 0x500100 2 ∧ d.get ⟨0x500004, bit, 1⟩ = 1 ∧ d.cfg = s.dev.cfg)) ∧
      (keepRec tab (s.dev.winRec hedWin b) = s.dev.cfg.active.record tab n → s.dev.cfg.deletes.contains (recKey tab n) = false →
        Yields (.hedWrite t 0 n) s (fun d => d.IndBusy 0x500100 0 ∧ d.cfg.shadow.record tab n = s.dev.cfg.active.record tab n ∧ d.cfg.copies = s.dev.cfg.copies)))) ∧
  (∀ (s : State) (t n tab lo hi b : Nat), s.dev.IndReady 0x500100 → hedTable t = some (tab, lo, hi, b) → lo ≤ n → n < hi →
    Yields (.hedWrite t 1 n) s (fun d => d.IndBusy 0x500100 5 ∧ d.cfg = s.dev.cfg) ∧
    (recPresent tab (s.dev.cfg.shadow.record tab n) = true → Yields (.hedDelete t 0 n) s (fun d => d.IndBusy 0x500100 0 ∧
      d.cfg.shadow.record tab n = 0 ∧ d.cfg.active = s.dev.cfg.active ∧ d.cfg.retiring = s.dev.cfg.retiring)) ∧
    (recPresent tab (s.dev.cfg.shadow.record tab n) = false → Yields (.hedDelete t 0 n) s (fun d => d.IndBusy 0x500100 1 ∧ d.cfg = s.dev.cfg))) ∧
  (∀ (s : State) (n j : Nat), s.dev.IndReady 0x500100 → 1 ≤ n → n < 4194304 → recGet (s.dev.winRec hedWin 64) FR.VALID = 1 →
    s.dev.cfg.shadow.flowOfKey (recGet (s.dev.winRec hedWin 64) FR.KEY) n = some j → Yields (.hedWrite 0 0 n) s (fun d => d.IndBusy 0x500100 4 ∧ d.cfg = s.dev.cfg)) ∧
  (∀ (s : State) (k first : Nat), s.dev.IndReady 0x500100 → (k = 0 ∧ first = 1) ∨ (k = 131072 ∧ first = 131072) →
    recPresent Tab.flow (s.dev.cfg.shadow.record Tab.flow first) = false → recPresent Tab.flow (s.dev.cfg.active.record Tab.flow first) = false →
    s.dev.cfg.shadow.flowOfKey (recGet (recSet (s.dev.winRec hedWin 64) FR.VALID 1) FR.KEY) 0 = none →
    s.dev.cfg.gone.contains (recKey Tab.flow first) = false →
    s.dev.cfg.shadow.indexRoom first (recGet (recSet (s.dev.winRec hedWin 64) FR.VALID 1) FR.KEY) = true →
    Yields (.insertKey 0 0 k) s (fun d => d.IndBusy 0x500100 0 ∧ d.get F.HED_IND_INDEX_INDEX = first ∧
      d.cfg.shadow.record Tab.flow first = keepRec Tab.flow (recSet (s.dev.winRec hedWin 64) FR.VALID 1) ∧ d.cfg.active = s.dev.cfg.active)) ∧
  (∀ (s : State) (x : Nat), s.dev.IndReady 0x500100 → x < 2 →
    (∀ j < 4194304, (s.dev.setBy x).flowOfKey (recGet (s.dev.winRec hedWin 64) FR.KEY) 0 = some j →
      Yields (.hedFindKey 0 x) s (fun d => d.IndBusy 0x500100 0 ∧ d.get F.HED_IND_INDEX_INDEX = j ∧ d.cfg = s.dev.cfg)) ∧
    ((s.dev.setBy x).flowOfKey (recGet (s.dev.winRec hedWin 64) FR.KEY) 0 = none →
      Yields (.hedFindKey 0 x) s (fun d => d.IndBusy 0x500100 1 ∧ d.cfg = s.dev.cfg))) ∧
  (∀ s : State, s.dev.Live → s.dev.get F.LOOM_COMMIT_STATUS_STATE ≠ 1 → Yields .shadowDiscard s (fun d => d.cfg.shadow = s.dev.cfg.active ∧ d.cfg.copies = [] ∧ d.cfg.deletes = [] ∧
      d.get F.HED_SHADOW_STATUS_CHANGED = 0 ∧ d.cfg.active = s.dev.cfg.active ∧ d.cfg.retiring = s.dev.cfg.retiring ∧ d.shuts = s.dev.shuts)) ∧
  (∀ s : State, s.dev.get F.LOOM_COMMIT_STATUS_STATE = 1 → Yields .shadowDiscard s (fun d => d = s.dev)) ∧
  (∀ (s : State) (k : Nat) (t : List Nat), s.dev.cfg.retiringVersion = none → s.dev.cfg.dead = k :: t →
    Yields .recordReclaim s (fun d => d.cfg = { s.dev.cfg with dead := t } ∧ d.get F.HED_SHADOW_STATUS_RECLAIMING = (if t = [] ∧ s.dev.cfg.gone = [] then 0 else 1))) ∧
  (∀ (s : State) (k : Nat) (t : List Nat), s.dev.cfg.retiringVersion = none → s.dev.cfg.dead = [] → s.dev.cfg.gone = k :: t →
    Yields .recordReclaim s (fun d => d.cfg = { s.dev.cfg with gone := t } ∧ d.get F.HED_SHADOW_STATUS_RECLAIMING = (if t = [] then 0 else 1))) ∧
  (∀ (s : State) (v : Nat), s.dev.cfg.retiringVersion = some v → Yields .recordReclaim s (fun d => d = s.dev))

/-- R17, R140, R145, R146 (Table 7), R148 (Table 9) and R149; the bits of an action word are those of Table 9. -/
def Obligations.PassesMatchAndApplyActionLists : Prop :=
  (∀ (s : State) (pipe i : Nat) (x : Shut), s.dev.flt.gap = 0 → mapSorted s.dev.shuts = true → s.dev.shut i = some x → x.stage = .entry → x.pipe = pipe → x.dropReason = none →
    (∀ p ∈ s.dev.shuts, p.1 ≠ i → p.2.stage = .entry → p.2.pipe = pipe → p.2.dropReason = none → s.dev.arbBefore true x p.2 = true) →
    Yields (.pipelineEntry pipe) s (fun d => d.shut i = some { (if x.get S.PASS = 0 then x.set S.PASS 1 else x) with stage := .pass } ∧
      (∀ j, j ≠ i → d.shut j = s.dev.shut j) ∧ { d with shuts := s.dev.shuts } = s.dev)) ∧
  (∀ (d : Dev) (a b : Shut), a.guaranteed = true → b.guaranteed = false → d.arbBefore false a b = true) ∧
  (∀ (d : Dev) (a b : Shut), a.guaranteed = true → b.guaranteed = true → d.onScale a.deadline a.dlEpoch < d.onScale b.deadline b.dlEpoch → d.arbBefore false a b = true) ∧
  (∀ (d : Dev) (a b : Shut), a.get S.CLASS = 2 → b.get S.CLASS = 3 → d.arbBefore false a b = true) ∧
  (∀ (d : Dev) (a b : Shut), a.guaranteed = false → b.guaranteed = false → a.get S.CLASS = b.get S.CLASS → d.arbBefore false a b = decide (a.seq < b.seq)) ∧
  (∀ (c : CfgSet) (port f k : Nat) (r w : Rec),
    (recGet w WR.FINAL ≠ 1 → ((c.resolve port (some (f, r)) (some (k, w))).flow, (c.resolve port (some (f, r)) (some (k, w))).rule,
      (c.resolve port (some (f, r)) (some (k, w))).store, (c.resolve port (some (f, r)) (some (k, w))).action) = (f, f, 0, recGet r FR.ACTION)) ∧
    (recGet w WR.FINAL = 1 → ((c.resolve port (some (f, r)) (some (k, w))).flow, (c.resolve port (some (f, r)) (some (k, w))).rule,
      (c.resolve port (some (f, r)) (some (k, w))).store, (c.resolve port (some (f, r)) (some (k, w))).action) = (f, k, 1, recGet w WR.ACTION)) ∧
    ((c.resolve port none (some (k, w))).flow, (c.resolve port none (some (k, w))).store, (c.resolve port none (some (k, w))).action) =
      (recGet w WR.FLOW, 1, recGet w WR.ACTION) ∧
    ((c.resolve port none none).flow, (c.resolve port none none).rule, (c.resolve port none none).action) = (0, 2 ^ 22 - 1, c.get (F.HED_PORT_DEFAULT_LIST port))) ∧
  (∀ (first : Bool) (s : Shut) (l m : List Nat) (w : Nat), awOp w = 0x0D → (runList first s l).drop = false →
    runList first s (l ++ w :: m) = { runList first s l with s := (runList first s l).s.mark Fl.DROP, drop := true }) ∧
  (∀ (first : Bool) (s : Shut) (w : Nat),
    (awOp w = 0x03 → (runList first s [w]).s.get S.DEST_PORT = bitsOf w 0 4 ∧ (runList first s [w]).s.get S.DEST_QUEUE = bitsOf w 4 14 ∧ (runList first s [w]).s.get S.DEST_VALID = 1) ∧
    (awOp w = 0x07 → (runList first s [w]).s.get S.SA = bitsOf w 0 20 ∧ (runList first s [w]).s.get S.CIPHER_OP = bitsOf w 20 3) ∧
    (awOp w = 0x08 → (runList first s [w]).s.get S.PROGRAM = bitsOf w 0 16) ∧ (awOp w = 0x0C → (runList first s [w]).s.flag Fl.RECIRCULATE = true) ∧
    (awOp w = 0x00 → (runList first s [w]).s = s)) ∧
  (∀ (s : State) (i : Nat) (x : Shut) (fp : Option Nat), s.dev.shut i = some x → x.stage = .pass → x.dropReason = none → x.resume ≠ 3 → s.dev.passWaits (s.dev.view { x with parityBad := false }) = true →
    Yields (.heddlePass i fp none) s (fun d => d = s.dev)) ∧
  (∀ (s : State) (i : Nat) (x : Shut) (fp kp : Option Nat), s.dev.shut i = some x → s.dev.passBehind i x = true → Yields (.heddlePass i fp kp) s (fun d => d = s.dev)) ∧
  (∀ (s : State) (i : Nat) (x : Shut), s.dev.deciding = true → s.dev.shut i = some x → s.dev.passBehind i x = false → x.stage = .pass → x.dropReason = none → x.ended = false → x.lane = none → x.holdsSa = none → x.resume = 0 →
    x.get S.DIR = 0 → x.get S.PASS = 1 → x.envelope = none → x.polGeneral = none → (s.dev.view { x with parityBad := false }).s.flag Fl.FRAGMENT = false →
    s.dev.hif.faulted = [] → s.dev.passWaits (s.dev.view { x with parityBad := false }) = false →
    ((s.dev.view { x with parityBad := false }).p.mal = none → s.dev.exactOf (s.dev.view { x with parityBad := false }) true = none → (s.dev.view { x with parityBad := false }).key = none → (s.dev.view { x with parityBad := false }).wc = none →
      (∃ w, (s.dev.view { x with parityBad := false }).c.list ((s.dev.view { x with parityBad := false }).c.get (F.HED_PORT_DEFAULT_LIST ((s.dev.view { x with parityBad := false }).s.get S.PORT))) = [w] ∧ awOp w = 0x0D) →
      Yields (.heddlePass i none none) s (fun d => d.ctr K.HED_DEFAULT = (s.dev.ctr K.HED_DEFAULT + 1) % 2 ^ 64 ∧
        d.ctr K.HED_EXACT_MISS = (s.dev.ctr K.HED_EXACT_MISS + 1) % 2 ^ 64 ∧
        ∃ y, d.shut i = some y ∧ y.stage = .ended ∧ y.dropReason = some 2 ∧ y.get S.FLOW_ID = 0 ∧ y.get S.RULE = 2 ^ 22 - 1 ∧ y.flag Fl.DROP = true)) ∧
    ((s.dev.view { x with parityBad := false }).p.mal = none → s.dev.exactOf (s.dev.view { x with parityBad := false }) true = none → (s.dev.view { x with parityBad := false }).key.isSome = true →
      (s.dev.shuts.filter (fun p => p.2.stage == .ddr5)).length < 3072 → mapSorted s.dev.shuts = true →
      Yields (.heddlePass i none none) s (fun d => d.shut i = some { (s.dev.view { x with parityBad := false }).s with stage := .ddr5, wait := 1, poolReserved := false } ∧ d.bus = s.dev.bus)) ∧
    (∀ c, (s.dev.view { x with parityBad := false }).p.mal = some c → (s.dev.view { x with parityBad := false }).c.get (F.HED_PORT_CFG_MAL_ACTION ((s.dev.view { x with parityBad := false }).s.get S.PORT)) = 0 → x.get S.STATUS = 0 →
      Yields (.heddlePass i none none) s (fun d => d.ctr (K.HED_MALFORMED c) = (s.dev.ctr (K.HED_MALFORMED c) + 1) % 2 ^ 64 ∧
        ∃ y, d.shut i = some y ∧ y.dropReason = some 6 ∧ y.get S.STATUS = 0x0D ∧ y.get S.CLASS = 3 ∧ y.get S.DEADLINE = noDeadline))) ∧
  (∀ (s : State) (i addr row : Nat) (x : Shut), s.dev.deciding = true → s.dev.shut i = some x → s.dev.arbFirst false s.dev.ddr5Ready = some i → x.stage = .ddr5 → x.wait = 1 → x.dropReason = none → x.ended = false → x.lane = none → x.holdsSa = none →
    x.resume = 0 → x.get S.DIR = 0 → x.get S.PASS = 1 → x.envelope = none → x.polGeneral = none → s.dev.hif.faulted = [] →
    s.dev.exactOf (s.dev.view { x with stage := .pass, wait := 0, poolReserved := false }) false = none → (s.dev.view { x with stage := .pass, wait := 0, poolReserved := false }).wc = none →
    (∃ w, (s.dev.view { x with stage := .pass, wait := 0, poolReserved := false }).c.list ((s.dev.view { x with stage := .pass, wait := 0, poolReserved := false }).c.get (F.HED_PORT_DEFAULT_LIST (x.get S.PORT))) = [w] ∧ awOp w = 0x0D) →
    Yields (.ddr5LookupResult i 0 addr row ⟨none, none⟩) s (fun d => d.ctr K.HED_EXACT_MISS = (s.dev.ctr K.HED_EXACT_MISS + 1) % 2 ^ 64 ∧
      ∃ y, d.shut i = some y ∧ y.stage = .ended ∧ y.dropReason = some 2 ∧ y.get S.RULE = 2 ^ 22 - 1)) ∧
  (∀ (s : State) (i err addr row : Nat) (parity : LookupParity), s.dev.arbFirst false s.dev.ddr5Ready ≠ some i → Yields (.ddr5LookupResult i err addr row parity) s (fun d => d = s.dev))

/-- R167, R169 and R186 to R188. -/
def Obligations.ForwardingEntriesAreManaged : Prop :=
  (∀ (s : State) (x n : Nat), s.dev.IndReady 0x600100 → n < fwdEnd →
    (∀ e, s.dev.fwdAt n = some e → Yields (.fwdRead 0 x n) s (fun d => d.IndBusy 0x600100 0 ∧ d.words fwdWin 4 = fwdRec e % 2 ^ 128 ∧ d.fwd = s.dev.fwd ∧ d.cfg = s.dev.cfg)) ∧
    (s.dev.fwdAt n = none → Yields (.fwdRead 0 x n) s (fun d => d.IndBusy 0x600100 1 ∧ d.words fwdWin 4 = 0 ∧ d.fwd = s.dev.fwd ∧ d.cfg = s.dev.cfg))) ∧
  (∀ (s : State) (t x n tab k b : Nat), s.dev.IndReady 0x600100 → fwdTable t = some (tab, k, b) → n < k →
    Yields (.fwdRead t x n) s (fun d => d.IndBusy 0x600100 0 ∧ d.words fwdWin (ceilDiv b 4) = ((s.dev.setBy x).record tab n).toNat % 2 ^ (8 * b) ∧ d.cfg = s.dev.cfg) ∧
    Yields (.fwdWrite t 0 n) s (fun d => d.IndBusy 0x600100 0 ∧ d.cfg.shadow.record tab n = keepRec tab (s.dev.winRec fwdWin b) ∧ d.cfg.active = s.dev.cfg.active ∧ d.fwd = s.dev.fwd) ∧
    Yields (.fwdWrite t 1 n) s (fun d => d.IndBusy 0x600100 5 ∧ d.cfg = s.dev.cfg)) ∧
  (∀ (s : State) (x n : Nat) (e : FwdEntry), s.dev.IndReady 0x600100 → s.dev.fwd.refreshes = [] → e = recFwd (s.dev.words fwdWin 4) →
    (fwdEnd ≤ n → Yields (.fwdWrite 0 x n) s (fun d => d.IndBusy 0x600100 3 ∧ d.fwd = s.dev.fwd)) ∧
    (n < fwdEnd → (s.dev.words fwdWin 4).testBit 62 = true → e.isStatic = true → e.fd ≠ 0 → (e.pin = true → n < fwdDdrWays) →
      s.dev.mayStand n e.mac e.fd = true →
      (s.dev.fwdFind e.mac e.fd = none ∨ s.dev.fwdFind e.mac e.fd = some n →
        Yields (.fwdWrite 0 x n) s (fun d => d.IndBusy 0x600100 0 ∧ d.fwdAt n = some e ∧ (∀ m, m ≠ n → d.fwdAt m = s.dev.fwdAt m) ∧ d.cfg = s.dev.cfg)) ∧
      (∀ m, m ≠ n → s.dev.fwdFind e.mac e.fd = some m → Yields (.fwdWrite 0 x n) s (fun d => d.IndBusy 0x600100 4 ∧ d.fwd = s.dev.fwd)))) ∧
  (∀ (s : State) (x : Nat) (e : FwdEntry), s.dev.IndReady 0x600100 → s.dev.fwd.refreshes = [] → e = recFwd (s.dev.words fwdWin 4) →
    (s.dev.fwdFind e.mac e.fd = none → Yields (.deleteKey 0 x) s (fun d => d.IndBusy 0x600100 1 ∧ d.fwd = s.dev.fwd) ∧
      Yields (.fwdFindKey 0 x) s (fun d => d.IndBusy 0x600100 1 ∧ d.fwd = s.dev.fwd)) ∧
    (∀ i < fwdEnd, s.dev.fwdFind e.mac e.fd = some i → Yields (.fwdFindKey 0 x) s (fun d => d.IndBusy 0x600100 0 ∧ d.get F.FWD_IND_INDEX_INDEX = i ∧ d.fwd = s.dev.fwd)) ∧
    (∀ (i : Nat) (o : FwdEntry), s.dev.fwdFind e.mac e.fd = some i → s.dev.fwdAt i = some o → o.isStatic = true → Yields (.deleteKey 0 x) s (fun d => d.IndBusy 0x600100 0 ∧
      d.fwdAt i = none ∧ (∀ m, m ≠ i → d.fwdAt m = s.dev.fwdAt m) ∧ d.get F.FWD_STATUS_LEARNED = s.dev.get F.FWD_STATUS_LEARNED)) ∧
    (e.fd ≠ 0 → e.pin = false →
      (∀ i < fwdEnd, s.dev.fwdFind e.mac e.fd = some i → Yields (.writeKey 0 x) s (fun d => d.IndBusy 0x600100 0 ∧ d.get F.FWD_IND_INDEX_INDEX = i ∧
        d.fwdAt i = some { e with isStatic := true, frozen := false, age := s.dev.fwd.tick } ∧ ∀ m, m ≠ i → d.fwdAt m = s.dev.fwdAt m)) ∧
      (∀ i < fwdEnd, s.dev.fwdFind e.mac e.fd = none → s.dev.freePlace ((s.dev.word (fwdWin + 16)).toNat % 2 == 1) e.mac e.fd = some i →
        Yields (.writeKey 0 x) s (fun d => d.IndBusy 0x600100 0 ∧ d.get F.FWD_IND_INDEX_INDEX = i ∧
          d.fwdAt i = some { e with isStatic := true, frozen := false, age := s.dev.fwd.tick } ∧ ∀ m, m ≠ i → d.fwdAt m = s.dev.fwdAt m)) ∧
      (s.dev.fwdFind e.mac e.fd = none → s.dev.freePlace ((s.dev.word (fwdWin + 16)).toNat % 2 == 1) e.mac e.fd = none →
        Yields (.writeKey 0 x) s (fun d => d.IndBusy 0x600100 2 ∧ d.get F.FWD_EVENT_TABLE_FULL = 1 ∧ d.fwd = s.dev.fwd)))) ∧
  (∀ (s : State) (t x n : Nat) (i : Instr), s.dev.get F.FWD_IND_CTRL_BUSY = 1 →
    i ∈ ([.fwdRead t x n, .fwdWrite t x n, .deleteKey t x, .writeKey t x, .fwdFindKey t x] : List Instr) → Yields i s (fun d => d = s.dev)) ∧
  (∀ (s : State) (by_ target : Nat), s.dev.Live →
    (s.dev.fwd.flush = none → Yields (.fwdFlush by_ target) s (fun d => d.fwd = { s.dev.fwd with flush := some (by_, target, 0) } ∧ d.get F.FWD_LEARN_STATUS_FLUSH_BUSY = 1)) ∧
    (s.dev.fwd.flush.isSome = true → Yields (.fwdFlush by_ target) s (fun d => d = s.dev))) ∧
  (∀ (s : State) (ddr5 : Bool) (bucket place by_ target : Nat), flushPlace ddr5 bucket = some place → s.dev.fwd.flush = some (by_, target, place) → s.dev.fwd.refreshes = [] →
    Yields (.flushBucket ddr5 bucket) s (fun d =>
      (∀ m, m / 4 = place → ∀ e, s.dev.fwdAt m = some e → d.fwdAt m = (if flushes by_ target e then none else some e)) ∧
      (∀ m, m / 4 ≠ place → d.fwdAt m = s.dev.fwdAt m) ∧
      (fwdEnd ≤ 4 * (place + 1) → d.fwd.flush = none ∧ d.get F.FWD_LEARN_STATUS_FLUSH_BUSY = 0) ∧
      (4 * (place + 1) < fwdEnd → d.fwd.flush = some (by_, target, place + 1)))) ∧
  (∀ (s : State) (ddr5 : Bool) (bucket by_ target next : Nat), s.dev.fwd.flush = some (by_, target, next) → flushPlace ddr5 bucket ≠ some next → Yields (.flushBucket ddr5 bucket) s (fun d => d = s.dev)) ∧
  (∀ (s : Nat) (e : FwdEntry), flushes 0 s e = (!e.isStatic && !e.frozen && e.fd == s) ∧ flushes 1 s e = (!e.isStatic && !e.frozen && e.port == s % 16))

/-- R170 and R178 to R184. -/
def Obligations.LearningMovesAndAgeing : Prop :=
  (∀ (s : State) (q : LearnReq) (t : List LearnReq), s.dev.fwd.queue = q :: t → s.dev.fwd.refreshes = [] → s.dev.fwdFind q.mac q.fd = none → s.dev.get F.FWD_STATUS_LEARNED < 1048576 → q.port ≤ 10 →
    (s.dev.get (F.FWD_PORT_COUNT_COUNT q.port) < s.dev.sh (F.FWD_PORT_LEARN_LIMIT q.port) → s.dev.domainCount q.fd < recGet (s.dev.cfg.active.record Tab.domain q.fd) ⟨0, 21⟩ →
      s.dev.ondieLearned < s.dev.get F.FWD_ONDIE_LEARN_ONDIE_MAX → ∀ i, s.dev.freePlace false q.mac q.fd = some i →
      Yields (.learnDecide none) s (fun d => d.fwd.queue = t ∧ d.fwdAt i = some ⟨q.mac, q.fd, false, false, false, q.port, q.queue, s.dev.fwd.tick⟩ ∧
        (∀ m, m ≠ i → d.fwdAt m = s.dev.fwdAt m) ∧ d.get F.FWD_STATUS_LEARNED = s.dev.get F.FWD_STATUS_LEARNED + 1 ∧
        d.ctr K.FWD_LEARNED = (s.dev.ctr K.FWD_LEARNED + 1) % 2 ^ 64)) ∧
    (s.dev.sh (F.FWD_PORT_LEARN_LIMIT q.port) ≤ s.dev.get (F.FWD_PORT_COUNT_COUNT q.port) → Yields (.learnDecide none) s (fun d =>
      d.fwd.queue = t ∧ d.fwd.entries = s.dev.fwd.entries ∧ d.ctr K.FWD_LIMIT_PORT = (s.dev.ctr K.FWD_LIMIT_PORT + 1) % 2 ^ 64 ∧ d.get F.FWD_EVENT_LIMIT = 1)) ∧
    (s.dev.get (F.FWD_PORT_COUNT_COUNT q.port) < s.dev.sh (F.FWD_PORT_LEARN_LIMIT q.port) → recGet (s.dev.cfg.active.record Tab.domain q.fd) ⟨0, 21⟩ ≤ s.dev.domainCount q.fd →
      Yields (.learnDecide none) s (fun d => d.fwd.queue = t ∧ d.fwd.entries = s.dev.fwd.entries ∧
        d.ctr K.FWD_LIMIT_DOMAIN = (s.dev.ctr K.FWD_LIMIT_DOMAIN + 1) % 2 ^ 64 ∧ d.get F.FWD_EVENT_LIMIT = 1))) ∧
  (∀ (s : State) (q : LearnReq) (t : List LearnReq) (i : Nat) (e : FwdEntry), s.dev.fwd.queue = q :: t → s.dev.fwd.refreshes = [] → s.dev.fwdFind q.mac q.fd = some i → s.dev.fwdAt i = some e →
    (e.port = q.port → inDdr i = false → Yields (.learnDecide none) s (fun d => d.fwdAt i = some (if e.frozen then e else { e with age := s.dev.fwd.tick }) ∧
      (∀ m, m ≠ i → d.fwdAt m = s.dev.fwdAt m) ∧ d.bus = s.dev.bus ∧ d.fwd.queue = t)) ∧
    (e.port = q.port → inDdr i = true → e.frozen = false → e.age ≠ s.dev.fwd.tick → Yields (.learnDecide none) s (fun d =>
      d.fwd.refreshes = [(i, e.mac, e.fd, s.dev.fwd.tick)] ∧ d.fwd.entries = s.dev.fwd.entries ∧ d.bus = s.dev.bus ∧ d.fwd.queue = t)) ∧
    (e.port ≠ q.port → e.isStatic = true → Yields (.learnDecide none) s (fun d => d.fwd.entries = s.dev.fwd.entries ∧ d.fwd.queue = t ∧
      d.ctr K.FWD_STATIC_CONFLICT = (s.dev.ctr K.FWD_STATIC_CONFLICT + 1) % 2 ^ 64)) ∧
    (e.port ≠ q.port → e.isStatic = false → e.frozen = true → Yields (.learnDecide none) s (fun d => d.fwd.entries = s.dev.fwd.entries ∧ d.fwd.queue = t ∧
      d.ctr K.FWD_MOVE_FROZEN = (s.dev.ctr K.FWD_MOVE_FROZEN + 1) % 2 ^ 64)) ∧
    (e.port ≠ q.port → e.isStatic = false → e.frozen = false → q.port > 10 ∨ s.dev.get (F.FWD_PORT_COUNT_COUNT q.port) < s.dev.sh (F.FWD_PORT_LEARN_LIMIT q.port) →
      ∀ n l, trackMove s.dev.fwd.moves (q.mac * 16384 + q.fd) s.dev.time.cycles (s.dev.get F.FWD_LEARN_CFG_MOVE_WINDOW_MS * 1200000) = (n, l) →
      (n ≤ s.dev.get F.FWD_LEARN_CFG_MOVE_LIMIT → Yields (.learnDecide none) s (fun d => d.fwdAt i = some { e with port := q.port, queue := q.queue, age := s.dev.fwd.tick } ∧
        d.fwd.moves = l ∧ d.fwd.queue = t ∧ d.ctr K.FWD_MOVES = (s.dev.ctr K.FWD_MOVES + 1) % 2 ^ 64)) ∧
      (s.dev.get F.FWD_LEARN_CFG_MOVE_LIMIT < n → Yields (.learnDecide none) s (fun d => d.fwdAt i = some { e with frozen := true, age := s.dev.fwd.tick } ∧
        d.fwd.queue = t ∧ d.get F.FWD_EVENT_FLAP = 1 ∧ d.ctr K.FWD_FLAPS = (s.dev.ctr K.FWD_FLAPS + 1) % 2 ^ 64)))) ∧
  (∀ s : State, s.dev.fwd.queue = [] → Yields (.learnDecide none) s (fun d => d = s.dev)) ∧
  (∀ s : State, Yields .ageTick s (fun d => d = { s.dev with fwd := { s.dev.fwd with tick := (s.dev.fwd.tick + 1) % 65536 } })) ∧
  (∀ (s : State) (bucket i : Nat) (e : FwdEntry) (a : Nat) (late : Bool), s.dev.fwd.removes = [(i, a)] → s.dev.fwdAt i = some e → e.isStatic = false → e.frozen = false →
    (∀ tk, e.age = a → s.dev.fwd.refreshes = [(i, e.mac, e.fd, tk)] → Yields (.agerBucketRead bucket late none) s (fun d =>
      d.fwdAt i = some { e with age := tk } ∧ d.ctr K.FWD_AGE_SAVED = (s.dev.ctr K.FWD_AGE_SAVED + 1) % 2 ^ 64)) ∧
    (e.age = a → s.dev.fwd.refreshes = [] → Yields (.agerBucketRead bucket late none) s (fun d => d.fwdAt i = none ∧ d.ctr K.FWD_AGED = (s.dev.ctr K.FWD_AGED + 1) % 2 ^ 64 ∧
      (late = true → d.get F.FWD_EVENT_SWEEP_LATE = 1))) ∧
    (e.age ≠ a → s.dev.fwd.refreshes = [] → Yields (.agerBucketRead bucket late none) s (fun d => d.fwdAt i = some e ∧ d.ctr K.FWD_AGE_SAVED = (s.dev.ctr K.FWD_AGE_SAVED + 1) % 2 ^ 64))) ∧
  (∀ (s : State) (bucket i : Nat) (e : FwdEntry), s.dev.fwd.removes = [] → s.dev.fwd.refreshes = [] → i / 4 = bucket → s.dev.fwdAt i = some e →
    (e.frozen = false → e.isStatic = false → s.dev.get F.FWD_CFG_AGE_LIMIT ≤ s.dev.ageOf e.age →
      Yields (.agerBucketRead bucket false none) s (fun d => d.fwdAt i = some e ∧ (i, e.age) ∈ d.fwd.removes ∧ d.bus = s.dev.bus)) ∧
    (e.frozen = true → s.dev.get F.FWD_FREEZE_FREEZE_TICKS ≤ s.dev.ageOf e.age →
      Yields (.agerBucketRead bucket false none) s (fun d => d.fwdAt i = some { e with frozen := false, age := s.dev.fwd.tick })))

/-- R198, R200 to R202, R212 and R217 to R221. That a WRITE or REKEY with another result clears the window too is assumption log 68. That an SA with a bad word stays out of the cache is the choice of assumption log 37; the value of RNG_READ is free (assumption log 4). -/
def Obligations.SecurityAssociationsLiveTheirStates : Prop :=
  (∀ (s : State) (k : Nat), s.dev.IndReady 0x700200 → k < 1048576 →
    (mapGet s.dev.ciph.sas k = none → Yields (.saRead k) s (fun d => d.IndBusy 0x700200 1 ∧ d.words ciphWin 64 = 0 ∧ d.ciph = s.dev.ciph) ∧
      Yields (.saRetire k) s (fun d => d.IndBusy 0x700200 1 ∧ d.ciph = s.dev.ciph) ∧ Yields (.saRekey k) s (fun d => d.IndBusy 0x700200 1 ∧ d.ciph = { s.dev.ciph with keyWin := List.replicate 64 0, keyLoaded := false }) ∧
      Yields (.saResync k) s (fun d => d.IndBusy 0x700200 1 ∧ d.ciph = s.dev.ciph)) ∧
    (∀ a, mapGet s.dev.ciph.sas k = some a →
      Yields (.saRead k) s (fun d => d.IndBusy 0x700200 0 ∧ d.words ciphWin 64 = a.show.toNat ∧ d.ciph = s.dev.ciph) ∧
      Yields (.saWrite k) s (fun d => d.IndBusy 0x700200 6 ∧ d.ciph = { s.dev.ciph with keyWin := List.replicate 64 0, keyLoaded := false }) ∧
      (a.state = 1 → a.refs = 0 → Yields (.saRetire k) s (fun d => d.IndBusy 0x700200 0 ∧ mapGet d.ciph.sas k = none)) ∧
      (a.state = 1 → a.refs ≠ 0 → Yields (.saRetire k) s (fun d => d.IndBusy 0x700200 0 ∧ mapGet d.ciph.sas k = some { a with state := 2 })) ∧
      (a.f SAR.TYPE = 3 → s.dev.ciph.keyLoaded = true → Yields (.saRekey k) s (fun d => d.IndBusy 0x700200 0 ∧
        mapGet d.ciph.sas k = some { a with rekey := some (recGet (s.dev.winRec ciphWin 256) SAR.TCP_SEQ, leBytes 12 (recGet (s.dev.winRec ciphWin 256) SAR.SALT), s.dev.ciph.keyWin) } ∧
        d.ciph.keyLoaded = false ∧ d.ciph.keyWin = List.replicate 64 0)) ∧
      (a.f SAR.TYPE = 3 → Yields (.saResync k) s (fun d => d.IndBusy 0x700200 0 ∧ mapGet d.ciph.sas k = some { a with sync := true, tls := [], tcpSeq := recGet (s.dev.winRec ciphWin 256) SAR.TCP_SEQ, counter := recGet (s.dev.winRec ciphWin 256) SAR.COUNTER })) ∧
      (a.f SAR.TYPE ≠ 3 → Yields (.saRekey k) s (fun d => d.IndBusy 0x700200 3 ∧ d.ciph = { s.dev.ciph with keyWin := List.replicate 64 0, keyLoaded := false }) ∧ Yields (.saResync k) s (fun d => d.IndBusy 0x700200 3 ∧ d.ciph = s.dev.ciph)))) ∧
  (∀ (s : State) (k : Nat), s.dev.IndReady 0x700200 → k < 1048576 → mapGet s.dev.ciph.sas k = none →
    (saOutOfRange (s.dev.winRec ciphWin 256) = true → Yields (.saWrite k) s (fun d => d.IndBusy 0x700200 3 ∧ d.ciph = { s.dev.ciph with keyWin := List.replicate 64 0, keyLoaded := false })) ∧
    (saOutOfRange (s.dev.winRec ciphWin 256) = false → s.dev.ciph.keyLoaded = false → Yields (.saWrite k) s (fun d => d.IndBusy 0x700200 7 ∧ d.ciph = { s.dev.ciph with keyWin := List.replicate 64 0, keyLoaded := false })) ∧
    (saOutOfRange (s.dev.winRec ciphWin 256) = false → s.dev.ciph.keyLoaded = true → s.dev.get F.CIPH_CACHE_STATUS_PINNED < 16384 →
      (s.dev.ciph.sas.filter (fun p => p.2.cached)).length < 65536 →
      Yields (.saWrite k) s (fun d => d.IndBusy 0x700200 0 ∧ d.ciph.keyLoaded = false ∧ d.ciph.keyWin = List.replicate 64 0 ∧ (∀ j, j ≠ k → mapGet d.ciph.sas j = mapGet s.dev.ciph.sas j) ∧
        d.get F.CIPH_CACHE_STATUS_PINNED = s.dev.get F.CIPH_CACHE_STATUS_PINNED + recGet (s.dev.winRec ciphWin 256) SAR.PIN ∧
        ∃ a, mapGet d.ciph.sas k = some a ∧ a.state = 1 ∧ a.exhausted = false ∧ a.refs = 0 ∧ a.key = s.dev.ciph.keyWin ∧
          a.record = saWritable (s.dev.winRec ciphWin 256) ∧ a.counter = recGet (s.dev.winRec ciphWin 256) SAR.COUNTER ∧
          a.sync = (recGet (s.dev.winRec ciphWin 256) SAR.TYPE == 3)))) ∧
  (∀ (s : State) (x k : Nat), s.dev.IndReady 0x700200 → x < 2 → k < 16384 →
    Yields (.templateRead x k) s (fun d => d.IndBusy 0x700200 0 ∧ d.words ciphWin 64 = ((s.dev.setBy x).record Tab.template k).toNat ∧ d.cfg = s.dev.cfg) ∧
    Yields (.templateWrite 0 k) s (fun d => d.IndBusy 0x700200 0 ∧ d.cfg.active = s.dev.cfg.active ∧
      d.cfg.shadow.record Tab.template k = keepRec Tab.template (BitVec.ofNat 2048 ((s.dev.winRec ciphWin 256).toNat % 2 ^ 1088))) ∧
    Yields (.templateWrite 1 k) s (fun d => d.IndBusy 0x700200 5 ∧ d.cfg = s.dev.cfg)) ∧
  (∀ (s : State) (o : Nat) (v : Word), s.dev.Live → o < 64 → Yields (.keyWrite o v) s (fun d =>
      d = { s.dev with ciph := { s.dev.ciph with keyWin := patchBytes s.dev.ciph.keyWin (o / 4 * 4) (leBytes 4 v.toNat), keyLoaded := true } })) ∧
  (∀ (s : State) (k addr row : Nat) (a : Sa), s.dev.ciph.fetching.contains k = true → mapGet s.dev.ciph.sas k = some a →
    ((s.dev.ciph.sas.filter (fun p => p.2.cached)).length < 65536 → Yields (.saFetchDone k 0 addr row) s (fun d => k ∉ d.ciph.fetching ∧
      mapGet d.ciph.sas k = some { a with cached := true, used := s.dev.ciph.useCount + 1 } ∧ SameWordsBut [] d s.dev)) ∧
    Yields (.saFetchDone k 2 addr row) s (fun d => k ∉ d.ciph.fetching ∧ mapGet d.ciph.sas k = some a)) ∧
  (∀ s : State, s.dev.Live →
    (s.dev.get F.CIPH_STATUS_DRBG_READY = 1 → Yields .rngRead s (fun d => d.out = s.dev.out ++ [.readData ((Config.freeValue s.dev.free).toNat % 2 ^ 32)] ∧
      d.free = s.dev.free + 1 ∧ d.ciph.requests = (if s.dev.ciph.requests + 1 < 2 ^ 20 then s.dev.ciph.requests + 1 else 0) ∧ d.bus = s.dev.bus)) ∧
    (s.dev.get F.CIPH_STATUS_DRBG_READY = 0 → Yields .rngRead s (fun d => d.out = s.dev.out ++ [.readData 0] ∧ d.get F.CIPH_EVENT_RNG_EMPTY = 1 ∧ d.ciph = s.dev.ciph) ∧
      (s.dev.hif.nonceDue = false → s.dev.hif.faulted = [] → Yields (.entropyRetest true) s (fun d => d.get F.CIPH_STATUS_DRBG_READY = 1 ∧ d.get F.CIPH_STATUS_ENTROPY_OK = 1 ∧ d.ciph.requests = 0 ∧ d.ciph.unseeded = [])) ∧
      Yields (.entropyRetest false) s (fun d => d = s.dev))) ∧
  (∀ s : State, s.dev.get F.CIPH_STATUS_ENTROPY_OK = 1 → Yields .entropyHealthFail s (fun d => d.get F.CIPH_STATUS_ENTROPY_OK = 0 ∧ d.get F.CIPH_STATUS_DRBG_READY = 0 ∧
      d.get F.CIPH_EVENT_ENTROPY_FAIL = 1 ∧ d.get ⟨0x1000020, Code.entropy, 1⟩ = 1 ∧ d.ctr K.CIPH_ENTROPY_FAIL = (s.dev.ctr K.CIPH_ENTROPY_FAIL + 1) % 2 ^ 64 ∧ d.ciph = s.dev.ciph)) ∧
  (∀ (s : State) (lane : Nat), (s.dev.get F.CIPH_STATUS_DRBG_READY = 1 → Yields .drbgReseed s (fun d => d = { s.dev with ciph := { s.dev.ciph with requests := 0 } }) ∧
      Yields (.maskReseed lane) s (fun d => lane ∉ d.ciph.unseeded ∧ d.bus = s.dev.bus)) ∧
    (s.dev.get F.CIPH_STATUS_DRBG_READY = 0 → Yields .drbgReseed s (fun d => d = s.dev) ∧ Yields (.maskReseed lane) s (fun d => lane ∈ d.ciph.unseeded ∧ d.bus = s.dev.bus)))

/-- R28, R191, R192, R200, R202 to R204, R213 and R214. -/
def Obligations.LanesTakeFramesAndJudgeTags : Prop :=
  (∀ (s : State) (lane i : Nat) (x : Shut) (a : Sa), s.dev.deciding = true → lane < 16 → s.dev.get (F.CIPH_LANE_CFG_OUT lane) = 0 → s.dev.isGated 1 lane = false → s.dev.hif.faulted = [] →
    s.dev.shuts.any (fun p => p.2.lane == some lane && !p.2.transformed) = false → s.dev.laneHeads lane = [(i, x)] → s.dev.shut i = some x → s.dev.saOf x = some a →
    x.ended = false → x.lane = none → x.resume = 0 → x.dropReason = none →
    (a.state = 2 → x.get S.DIR = 0 → Yields (.cipherLaneEnter lane) s (fun d => d.ctr K.CIPH_SA_RETIRED_DROP = (s.dev.ctr K.CIPH_SA_RETIRED_DROP + 1) % 2 ^ 64 ∧
      ∃ y, d.shut i = some y ∧ y.stage = .ended ∧ y.dropReason = some 6)) ∧
    (a.state = 1 → a.serves 2 = true → x.get S.CIPHER_OP = 2 → a.macsecMgmt x = false → a.f SAR.TYPE = 0 → a.counter ≠ a.f SAR.SOFT → a.counter ≠ a.f SAR.LIMIT → x.flag Fl.ENCAP_PENDING = true →
      Yields (.cipherLaneEnter lane) s (fun d => (mapGet d.ciph.sas (x.get S.SA)).map (·.counter) = some ((a.counter + 1) % 2 ^ 64) ∧ d.bus = s.dev.bus ∧
        ∃ y, d.shut i = some y ∧ y.stage = .inLane ∧ y.lane = some lane ∧ y.cipherSeq = a.counter ∧ y.visits = x.visits + 1 ∧ (x.valued = false → y.counter = a.counter))) ∧
    (∀ o v, a.state = 1 → a.serves 1 = true → x.get S.CIPHER_OP = 1 → a.macsecMgmt x = false → a.inbound x.frame (parseFrame ⟨x.frame, false, (s.dev.cfgOf x).get F.HED_PARSE_CFG_NVME_PORT⟩) = .header o v →
      (a.fresh v = true → x.get S.PROGRAM ≠ 0 → Yields (.cipherLaneEnter lane) s (fun d => (mapGet d.ciph.sas (x.get S.SA)).map (·.counter) = some a.counter ∧
        ∃ y, d.shut i = some y ∧ y.stage = .inLane ∧ y.lane = some lane ∧ y.cipherSeq = v ∧ y.flag Fl.TAG_PENDING = true)) ∧
      (a.fresh v = false → Yields (.cipherLaneEnter lane) s (fun d => d.ctr K.CIPH_REPLAY_DROP = (s.dev.ctr K.CIPH_REPLAY_DROP + 1) % 2 ^ 64 ∧
        ∃ y, d.shut i = some y ∧ y.stage = .ended ∧ y.dropReason = some 6)))) ∧
  (∀ (s : State) (lane i : Nat), s.dev.deciding = true → lane < 16 → s.dev.get (F.CIPH_LANE_CFG_OUT lane) = 0 →
    s.dev.shuts.any (fun p => p.2.lane == some lane && !p.2.transformed) = false → s.dev.arbFirst false (s.dev.laneHeads lane) = some i → s.dev.isGated 1 lane = true →
    Yields (.cipherLaneEnter lane) s (fun d => d = s.dev.wake 1 lane)) ∧
  (∀ (s : State) (lane : Nat), s.dev.get (F.CIPH_LANE_CFG_OUT lane) = 1 → Yields (.cipherLaneEnter lane) s (fun d => d = s.dev)) ∧
  (∀ (s : State) (i lane k : Nat) (x : Shut) (a : Sa), s.dev.shut i = some x → x.lane = some lane → x.transformed = true → x.ended = true → x.stage = .inLane → x.get S.CIPHER_OP = 1 →
    x.dropReason = none → x.resume = 0 → x.witness = 0 → x.ring = none → x.get S.SA = k → x.holdsSa = some k → mapGet s.dev.ciph.sas k = some a → a.state = 1 → a.f SAR.TYPE ≠ 3 →
    s.dev.tagCopies i = [i] → s.dev.hif.faulted = [] →
    (x.tagOk = true → a.fresh x.cipherSeq = true → x.get S.PROGRAM ≠ 0 →
      Yields (.cipherTagResult i) s (fun d => mapGet d.ciph.sas k = some { (a.verified x).1 with refs := a.refs - 1 } ∧
        d.ctr K.CIPH_DECRYPTED = (s.dev.ctr K.CIPH_DECRYPTED + 1) % 2 ^ 64 ∧
        ∃ y, d.shut i = some y ∧ y.stage = .cross ∧ y.cipherRes = 1 ∧ y.lane = none ∧ y.get S.CIPHER_OP = 0 ∧ y.flag Fl.TAG_PENDING = false ∧ y.frame = x.frame)) ∧
    (x.tagOk = false → mapSorted s.dev.shuts = true → Yields (.cipherTagResult i) s (fun d => mapGet d.ciph.sas k = some { a with refs := a.refs - 1 } ∧ d.shut i = none ∧
        d.ctr K.CIPH_AUTH_FAIL = (s.dev.ctr K.CIPH_AUTH_FAIL + 1) % 2 ^ 64 ∧ d.ctr K.CIPH_AUTH_FAIL_DROPPED = (s.dev.ctr K.CIPH_AUTH_FAIL_DROPPED + 1) % 2 ^ 64 ∧
        d.get F.CIPH_EVENT_AUTH_FAIL = 1))) ∧
  (∀ (a : Sa) (x : Shut), x.tagOk = true → a.f SAR.TYPE ≠ 3 → a.f SAR.REPLAY_EN = 1 → a.counter < x.cipherSeq → (a.verified x).1.counter = x.cipherSeq ∧
    ((a.verified x).1.fresh x.cipherSeq = false)) ∧
  (∀ (s : State) (i : Nat) (x : Shut), s.dev.shut i = some x → x.lane = none → Yields (.cipherTagResult i) s (fun d => d = s.dev))

/-- R223, R224, R227, R229, R231 and R236. -/
def Obligations.StorageContextsAreManaged : Prop :=
  (∀ (s : State) (k : Nat), s.dev.IndReady 0x800100 → k < 16384 →
    (∀ c, s.dev.validCtx k = some c →
      Yields (.storRead k) s (fun d => d.IndBusy 0x800100 0 ∧ d.words storWin 8 = c.show.toNat % 2 ^ 256 ∧ d.stor = s.dev.stor) ∧
      Yields (.storWrite k) s (fun d => d.IndBusy 0x800100 4 ∧ d.stor = s.dev.stor) ∧
      (s.dev.hif.faulted = [] → (∀ p ∈ s.dev.shuts, p.2.stage ≠ .stor) → Yields (.storDelete k) s (fun d => d.IndBusy 0x800100 0 ∧ mapGet d.stor.ctxs k = none ∧ (∀ j, j ≠ k → mapGet d.stor.ctxs j = mapGet s.dev.stor.ctxs j) ∧
        ∀ j, j / 65536 = k → mapGet d.stor.cids j = none ∧ mapGet d.stor.data j = none ∧ j ∉ d.stor.fetching)) ∧
      Yields (.resyncRx k) s (fun d => d.IndBusy 0x800100 0 ∧ mapGet d.stor.ctxs k =
        some { c with sync := true, rxSeq := recGet (s.dev.winRec storWin 32) QC.RX_SEQ, pdu := [], pduAt := 0, data := [] }) ∧
      Yields (.resyncTx k) s (fun d => d.IndBusy 0x800100 0 ∧ mapGet d.stor.ctxs k =
        some { c with txSeq := recGet (s.dev.winRec storWin 32) QC.TX_SEQ, txPdu := [], txAt := 0, txData := [] })) ∧
    (s.dev.validCtx k = none → s.dev.hif.faulted = [] →
      Yields (.storRead k) s (fun d => d.IndBusy 0x800100 1 ∧ d.words storWin 8 = 0 ∧ d.stor = s.dev.stor) ∧
      Yields (.storDelete k) s (fun d => d.IndBusy 0x800100 1 ∧ d.stor = s.dev.stor) ∧ Yields (.resyncRx k) s (fun d => d.IndBusy 0x800100 1 ∧ d.stor = s.dev.stor) ∧
      Yields (.resyncTx k) s (fun d => d.IndBusy 0x800100 1 ∧ d.stor = s.dev.stor)) ∧
    (∀ r, s.dev.validCtx k = none → r = ctxWritable (s.dev.winRec storWin 32) → recGet r QC.VALID = 1 →
      (recGet r QC.FLOW_ID ≠ 0 → 4 ≤ recGet r QC.CID_LOG2 → recGet r QC.CID_LOG2 ≤ 12 →
        (s.dev.ctxOf (recGet r QC.FLOW_ID) = none → Yields (.storWrite k) s (fun d => d.IndBusy 0x800100 0 ∧ (∀ j, j ≠ k → mapGet d.stor.ctxs j = mapGet s.dev.stor.ctxs j) ∧
          ∃ c, mapGet d.stor.ctxs k = some c ∧ c.record = r ∧ c.sync = true ∧ c.rxSeq = recGet r QC.RX_SEQ ∧ c.txSeq = recGet r QC.TX_SEQ ∧ c.pdu = [] ∧ c.txPdu = [])) ∧
        ((s.dev.ctxOf (recGet r QC.FLOW_ID)).isSome = true → Yields (.storWrite k) s (fun d => d.IndBusy 0x800100 4 ∧ d.stor = s.dev.stor))) ∧
      (recGet r QC.FLOW_ID = 0 ∨ recGet r QC.CID_LOG2 < 4 ∨ 12 < recGet r QC.CID_LOG2 → Yields (.storWrite k) s (fun d => d.IndBusy 0x800100 3 ∧ d.stor = s.dev.stor)))) ∧
  (∀ (s : State) (k : Nat) (i : Instr), s.dev.IndReady 0x800100 → s.dev.hif.faulted = [] → 16384 ≤ k → i ∈ ([.storRead k, .storWrite k, .storDelete k, .resyncRx k, .resyncTx k] : List Instr) →
    Yields i s (fun d => d.IndBusy 0x800100 3 ∧ d.stor = s.dev.stor)) ∧
  (∀ (s : State) (c cid : Nat) (b : List Byte), s.dev.stor.fetching.contains (cidKey c cid) = true → b = mapGetD s.dev.stor.data (cidKey c cid) [] → 32 ≤ b.length →
    s.dev.hif.reads = [] → s.dev.hif.waiting = [] → s.dev.hif.faulted = [] → (∀ p ∈ s.dev.shuts, p.2.stage ≠ .stor) →
    (ceValid b = true → ceN b 14 2 = cid % 65536 → ceList b = false → Yields (.cidEntryFetch c cid) s (fun d =>
      mapGet d.stor.cids (cidKey c cid) = some { bytes := b.take 32 } ∧ cidKey c cid ∉ d.stor.fetching ∧ mapGet d.stor.data (cidKey c cid) = none ∧ d.bus = s.dev.bus)) ∧
    (ceValid b = false → Yields (.cidEntryFetch c cid) s (fun d => d.stor.cids = s.dev.stor.cids ∧ cidKey c cid ∉ d.stor.fetching ∧
      d.ctr K.STOR_NO_ENTRY = (s.dev.ctr K.STOR_NO_ENTRY + 1) % 2 ^ 64))) ∧
  (∀ (s : State) (c cid : Nat), s.dev.stor.fetching.contains (cidKey c cid) = false → s.dev.hif.faulted = [] → (∀ p ∈ s.dev.shuts, p.2.stage ≠ .stor) →
    Yields (.cidEntryFetch c cid) s (fun d => d.stor = s.dev.stor ∧ d.bus = s.dev.bus))

/-- R29, R30, R232 to R235 and Table 6. That a START keeps RESULT and clears ERROR and NO_FIELD is the choice of assumption log 93. -/
def Obligations.CheckUnitsServeTheirOwner : Prop :=
  (∀ (s : State) (u k o p : Nat) (al : Option Nat), u < 32 → k < 2 → s.dev.asleep 2 u = false →
    (s.dev.flt.outUnits.contains (4, u) = false → (s.dev.get (F.STOR_CRC_STATUS_STATE u) ≠ 1 ∨ (s.dev.crcUnit u).owner = some (k, o)) → Yields (.crcStart u k o p al) s (fun d =>
      d.get (F.STOR_CRC_STATUS_STATE u) = 1 ∧ d.get (F.STOR_CRC_STATUS_POLY u) = p % 4 ∧ d.get (F.STOR_CRC_STATUS_MSG_COUNT u) = 0 ∧ d.get (F.STOR_CRC_STATUS_OWNER_KIND u) = k ∧
      d.get (F.STOR_CRC_STATUS_ERROR u) = 0 ∧ d.word (0x801008 + 0x20 * u) = 0 ∧ d.get (F.STOR_CRC_STATUS_NO_FIELD u) = 0 ∧
      d.crcUnit u = { owner := some (k, o), poly := p % 4, alive := al, result := (s.dev.crcUnit u).result } ∧
      (∀ v, v ≠ u → d.crcUnit v = s.dev.crcUnit v))) ∧
    (s.dev.flt.outUnits.contains (4, u) = true ∨ (s.dev.get (F.STOR_CRC_STATUS_STATE u) = 1 ∧ (s.dev.crcUnit u).owner ≠ some (k, o)) → Yields (.crcStart u k o p al) s (fun d =>
      d.stor = s.dev.stor ∧ d.ctr K.STOR_REFUSED = (s.dev.ctr K.STOR_REFUSED + 1) % 2 ^ 64 ∧ d.bus.words = s.dev.bus.words))) ∧
  (∀ (s : State) (u k o p : Nat) (al : Option Nat), u < 32 → s.dev.asleep 2 u = true → Yields (.crcStart u k o p al) s (fun d => d = s.dev.holdFor 2 u (.crcStart u k o p al)) ∧
    (s.dev.Live → Yields (.crcRelease u) s (fun d => d = s.dev.holdFor 2 u (.crcRelease u)) ∧ Yields (.crcStatusRead u) s (fun d => d = s.dev.holdFor 2 u (.crcStatus u)))) ∧
  (∀ (s : State) (u k o : Nat) (b : List Byte), s.dev.crcOwns u k o = false → Yields (.crcFeed u k o b) s (fun d => d = s.dev) ∧ Yields (.crcEnd u k o) s (fun d => d = s.dev) ∧
    Yields (.crcStop u k o) s (fun d => d = s.dev)) ∧
  (∀ (s : State) (u k o : Nat) (b : List Byte) (c : CrcUnit), s.dev.crcOwns u k o = true → s.dev.crcUnit u = c →
    Yields (.crcFeed u k o b) s (fun d => d.crcUnit u = { c with message := c.message ++ b } ∧ (∀ v, v ≠ u → d.crcUnit v = s.dev.crcUnit v) ∧ d.bus = s.dev.bus) ∧
    Yields (.crcStop u k o) s (fun d => d.get (F.STOR_CRC_STATUS_STATE u) = 0 ∧ d.crcUnit u = { c with owner := none, message := [] }) ∧
    Yields (.crcEnd u k o) s (fun d => (d.crcUnit u).result = crcOf c.poly c.message ∧ (d.crcUnit u).message = [] ∧ (d.crcUnit u).owner = c.owner ∧
      d.get (F.STOR_CRC_STATUS_MSG_COUNT u) = min 65535 (s.dev.get (F.STOR_CRC_STATUS_MSG_COUNT u) + 1) ∧
      (c.alive = none → d.word (0x801008 + 0x20 * u) = s.dev.word (0x801008 + 0x20 * u) ∧ d.bus.ctr = s.dev.bus.ctr) ∧
      (∀ off, c.alive = some off → c.message.length ≤ off → d.get (F.STOR_CRC_STATUS_NO_FIELD u) = 1 ∧ d.word (0x801008 + 0x20 * u) = s.dev.word (0x801008 + 0x20 * u)) ∧
      (∀ off v, c.alive = some off → off < c.message.length → v = byteN c.message off → d.get (F.STOR_CRC_ALIVE_LAST u) = v ∧ (d.crcUnit u).recorded = true ∧
        (c.recorded = true → v = s.dev.get (F.STOR_CRC_ALIVE_LAST u) → d.get (F.STOR_CRC_ALIVE_REPEAT u) = 1 ∧ d.get F.STOR_EVENT_CRC_REPEAT = 1 ∧
          d.ctr K.STOR_CRC_REPEAT = (s.dev.ctr K.STOR_CRC_REPEAT + 1) % 2 ^ 64) ∧
        (c.recorded = true → v ≠ s.dev.get (F.STOR_CRC_ALIVE_LAST u) → v ≠ (s.dev.get (F.STOR_CRC_ALIVE_LAST u) + 1) % 256 → d.get (F.STOR_CRC_ALIVE_SKIP u) = 1 ∧
          d.get F.STOR_EVENT_CRC_SKIP = 1 ∧ d.get (F.STOR_CRC_ALIVE_LAST_STEP u) = (v + 256 - s.dev.get (F.STOR_CRC_ALIVE_LAST u)) % 256 ∧
          d.ctr K.STOR_CRC_SKIP = (s.dev.ctr K.STOR_CRC_SKIP + 1) % 2 ^ 64)))) ∧
  (∀ (s : State) (u : Nat), u < 32 → s.dev.Live → s.dev.asleep 2 u = false →
    (s.dev.get (F.STOR_CRC_STATUS_STATE u) = 1 → Yields (.crcRelease u) s (fun d => d.get (F.STOR_CRC_STATUS_STATE u) = 0 ∧ d.get (F.STOR_CRC_STATUS_ABANDONED u) = 1 ∧
      (d.crcUnit u).owner = none ∧ (d.crcUnit u).message = [])) ∧
    (s.dev.get (F.STOR_CRC_STATUS_STATE u) ≠ 1 → Yields (.crcRelease u) s (fun d => d.stor = s.dev.stor ∧ d.bus = s.dev.bus)) ∧
    Yields (.crcStatusRead u) s (fun d => d.out = s.dev.out ++ [.readData (s.dev.word (0x801004 + 0x20 * u)).toNat] ∧
      d.get (F.STOR_CRC_RESULT_RESULT u) = (s.dev.crcUnit u).result % 2 ^ 64 ∧ d.stor = s.dev.stor)) ∧
  (∀ (s : State) (u : Nat), u < 32 → s.dev.get (F.STOR_CRC_STATUS_STATE u) = 1 → (s.dev.countTransient 4 u 0).2.2 = false →
    Yields (.crcParityFault u) s (fun d => d.get (F.STOR_CRC_STATUS_STATE u) = 2 ∧ d.get (F.STOR_CRC_STATUS_ERROR u) = 1 ∧ d.stor = s.dev.stor ∧
      s.dev.time.cycles ∈ mapGetD d.flt.unitTimes (unitKey 4 u 0) [])) ∧
  (∀ (s : State) (u : Nat), s.dev.get (F.STOR_CRC_STATUS_STATE u) ≠ 1 → Yields (.crcParityFault u) s (fun d => d = s.dev))

/-- R18, R238 to R243, R310 and R363. Which frames count as the same flow is assumption log 85. -/
def Obligations.ReedPlacesAndChoosesFrames : Prop :=
  (∀ (s : State) (i : Nat) (x : Shut), s.dev.shut i = some x → x.stage = .reed → x.dropReason = none → s.dev.inReed i = false → s.dev.flowBehind i x = false → s.dev.hif.faulted = [] →
    (9 ≤ x.get S.DEST_PORT → s.dev.mayReceive (s.dev.rcf (s.dev.ringFor x (x.get S.DEST_PORT)) RC.INSTANCE) = false → x.ended = false → Yields (.reedEnqueue i) s (fun d =>
      d.ctr K.HIF_FN_DROP = (s.dev.ctr K.HIF_FN_DROP + 1) % 2 ^ 64 ∧ ∃ y, d.shut i = some y ∧ y.stage = .ended ∧ y.dropReason = some 5)) ∧
    (x.guaranteed = true → (x.get S.DEST_PORT ≤ 8 ∨ s.dev.mayReceive (s.dev.rcf (s.dev.ringFor x (x.get S.DEST_PORT)) RC.INSTANCE) = true) → Yields (.reedEnqueue i) s (fun d =>
      ((∀ j ∈ mapGetD s.dev.reed.deadlineSet (x.get S.DEST_PORT) [], ∀ y, s.dev.shut j = some y → y.reedAt ≠ s.dev.time.cycles ∨ pipeOrder y ≤ pipeOrder x) →
        mapGetD d.reed.deadlineSet (x.get S.DEST_PORT) [] = mapGetD s.dev.reed.deadlineSet (x.get S.DEST_PORT) [] ++ [i]) ∧
      ((∀ j ∈ mapGetD s.dev.reed.deadlineSet (x.get S.DEST_PORT) [], ∃ y, s.dev.shut j = some y ∧ y.reedAt = s.dev.time.cycles ∧ pipeOrder x < pipeOrder y) →
        mapGetD d.reed.deadlineSet (x.get S.DEST_PORT) [] = i :: mapGetD s.dev.reed.deadlineSet (x.get S.DEST_PORT) []) ∧
      (∀ p, p ≠ x.get S.DEST_PORT → mapGet d.reed.deadlineSet p = mapGet s.dev.reed.deadlineSet p) ∧ d.reed.queues = s.dev.reed.queues ∧ d.shut i = some { x with reedAt := s.dev.time.cycles } ∧ (∀ j, j ≠ i → d.shut j = s.dev.shut j) ∧ d.bus = s.dev.bus)) ∧
    (∀ k dflt q, x.guaranteed = false → (x.get S.DEST_PORT ≤ 8 ∨ s.dev.mayReceive (s.dev.rcf (s.dev.ringFor x (x.get S.DEST_PORT)) RC.INSTANCE) = true) → (s.dev.cfgOf x).queueFor (x.get S.DEST_PORT) (x.get S.DEST_QUEUE) = (k, dflt) → mapGet s.dev.reed.queues k = some q →
      (x.get S.DIR = 1 ∨ s.dev.queueDepth q + x.queueSize ≤ recGet q.record QR.LIMIT → Yields (.reedEnqueue i) s (fun d =>
        mapGet d.reed.queues k = some { q with frames := q.frames ++ [i] } ∧ d.shuts = s.dev.shuts ∧ d.reed.deadlineSet = s.dev.reed.deadlineSet ∧
        (dflt = true → d.ctr (K.REED_NO_QUEUE (x.get S.DEST_PORT)) = (s.dev.ctr (K.REED_NO_QUEUE (x.get S.DEST_PORT)) + 1) % 2 ^ 64 ∧ d.get F.REED_EVENT_NO_QUEUE = 1) ∧
        (dflt = false → d.bus = s.dev.bus))) ∧
      (x.get S.DIR = 0 → recGet q.record QR.LIMIT < s.dev.queueDepth q + x.queueSize → x.ended = false → i ∉ q.frames → Yields (.reedEnqueue i) s (fun d =>
        (d.rq k).frames = q.frames ∧ (d.rq k).drops = min (2 ^ 32 - 1) (q.drops + 1) ∧ d.get F.REED_EVENT_QUEUE_DROP = 1 ∧
        d.ctr (K.REED_QUEUE_DROP (x.get S.DEST_PORT)) = (s.dev.ctr (K.REED_QUEUE_DROP (x.get S.DEST_PORT)) + 1) % 2 ^ 64 ∧
        ∃ y, d.shut i = some y ∧ y.stage = .ended ∧ y.dropReason = some 6)))) ∧
  (∀ (s : State) (i : Nat) (x : Shut), s.dev.inReed i = true ∨ (s.dev.shut i = some x ∧ s.dev.flowBehind i x = true) → Yields (.reedEnqueue i) s (fun d => d = s.dev)) ∧
  (∀ (c : CfgSet) (p q : Nat), p ≤ 8 →
    (recGet (c.record Tab.queue q) QR.VALID = 1 → recGet (c.record Tab.group (recGet (c.record Tab.queue q) QR.GROUP)) GR.PORT = p → c.queueFor p q = (q, false)) ∧
    (recGet (c.record Tab.queue q) QR.VALID = 0 → c.queueFor p q = (c.get (F.REED_PORT_CFG_DEFAULT_QUEUE p), true))) ∧
  (∀ (s : State) (p i : Nat) (x : Shut), s.dev.deciding = true → p ≤ 8 → s.dev.choiceHeld p = false → s.dev.choiceTime p = true → s.dev.get (F.PORT_STATUS_LINK p) = 1 → s.dev.hif.faulted = [] →
    s.dev.shut i = some x → mapGetD s.dev.reed.deadlineSet p [] = [i] → s.dev.releasable p x = true →
    (∀ a, a < x.frame.length → Yields (.reedChoose ⟨p, .cell a⟩) s (fun d => mapGetD d.reed.deadlineSet p [] = [] ∧ ∃ y, d.shut i = some y ∧ y.stage = .toLands ∧
      y.frame.length = x.frame.length ∧ (∀ k, k / 8 ≠ a / 8 → y.frame[k]? = x.frame[k]?) ∧ y.badAt = x.badAt ++ [(a / 8 * 8, min 8 (x.frame.length - a / 8 * 8))])) ∧
    (x.ended = false → Yields (.reedChoose ⟨p, .shuttle⟩) s (fun d => d.ctr K.DRAM_SHUTTLE_LOST = (s.dev.ctr K.DRAM_SHUTTLE_LOST + 1) % 2 ^ 64 ∧
      ∃ y, d.shut i = some y ∧ y.stage = .ended ∧ y.dropReason = some 6)) ∧
    Yields (.reedChoose ⟨p, .none⟩) s (fun d => mapGetD d.reed.deadlineSet p [] = [] ∧ d.ctr (K.REED_GUAR_FRAMES p) = (s.dev.ctr (K.REED_GUAR_FRAMES p) + 1) % 2 ^ 64 ∧
      ∃ y, d.shut i = some y ∧ y.stage = .toLands ∧ y.frame = x.frame ∧ (x.ended = false → x.get S.DIR = 0 → y.flag Fl.CUT_THROUGH = true))) ∧
  (∀ (s : State) (p : Nat) (h : Head) (sh : Shaper), s.dev.deciding = true → p ≤ 8 → s.dev.choiceHeld p = false → s.dev.choiceTime p = true → s.dev.get (F.PORT_STATUS_LINK p) = 1 → s.dev.hif.faulted = [] →
    mapGetD s.dev.reed.deadlineSet p [] = [] →
    s.dev.headsOf p ((s.dev.reed.queues.filter (fun (q : Nat × RQueue) => !q.2.frames.isEmpty)).map (·.1)) = (s.dev, [h]) →
    s.dev.shut h.i = some h.s → h.tc < 8 → h.s.get S.CLASS = 2 → h.s.get S.LENGTH ≠ 0 → mapGet s.dev.reed.shMin h.q = some sh → 0 ≤ sh.count →
    Yields (.reedChoose ⟨p, .none⟩) s (fun d => mapGet d.reed.shMin h.q = some { sh with count := sh.count - 8 * ((h.s.get S.LENGTH : Int) + 20) } ∧ h.i ∉ (d.rq h.q).frames ∧
      d.ctr (K.REED_AS_COMMITTED_BYTES p) = (s.dev.ctr (K.REED_AS_COMMITTED_BYTES p) + h.s.get S.LENGTH) % 2 ^ 64 ∧
      ∃ y, d.shut h.i = some y ∧ y.stage = .toLands ∧ y.frame = h.s.frame)) ∧
  (∀ (s : State) (p : Nat) (e : PbufError), s.dev.deciding = false ∨ (p ≤ 8 ∧ (s.dev.get (F.PORT_STATUS_LINK p) = 0 ∨ s.dev.choiceTime p = false)) ∨ s.dev.choiceHeld p = true → Yields (.reedChoose ⟨p, e⟩) s (fun d => d = s.dev))

/-- R247, R250, R252 and R257. The order of a list starting is the start time of R252; the scale is 256 but for MIN shapers under R256. -/
def Obligations.ShapersGatesAndReedTables : Prop :=
  (∀ (o : Shaper) (rate burst k : Nat), rate ≠ 0 → refillOne (some o) rate burst k = some ⟨min ((burst * 2048 : Nat) : Int) (o.count + ((rate * k / 256 : Nat) : Int))⟩ ∧
    refillOne none rate burst k = some ⟨((burst * 2048 : Nat) : Int)⟩) ∧
  (∀ (o : Option Shaper) (burst k : Nat), refillOne o 0 burst k = none) ∧
  (∀ s : State, Yields .shaperRefill s (fun d => d.shuts = s.dev.shuts ∧ ∀ p < 11, ∀ t < 8,
      mapGet d.reed.shTc (tcKey p t) = refillOne (mapGet s.dev.reed.shTc (tcKey p t)) (s.dev.sh (F.REED_TC_RATE p t)) (s.dev.sh (F.REED_TC_BURST p t)) 256)) ∧
  (∀ (s : State) (n : Nat), n < 8 →
    (∀ l, s.dev.gatesOf n = some l → Yields (.gateEntryChange n) s (fun d => d.get (F.REED_GATE_STATUS_GATES n) = (l.at_ s.dev.now).2.1 % 256 ∧
      d.get (F.REED_GATE_STATUS_CURRENT n) = (l.at_ s.dev.now).1 % 1024 ∧ d.reed = s.dev.reed ∧ SameWordsBut [0x902010 + 0x40 * n] d s.dev)) ∧
    (s.dev.gatesOf n = none → Yields (.gateEntryChange n) s (fun d => d.get (F.REED_GATE_STATUS_GATES n) = 255 ∧ d.get (F.REED_GATE_STATUS_CURRENT n) = 0 ∧ d.reed = s.dev.reed)) ∧
    (∀ g, s.dev.nextGatesOf n = some g →
      (s.dev.now < g.start * 65536 → Yields (.gateListStart n) s (fun d => d = s.dev)) ∧
      (g.start * 65536 ≤ s.dev.now → Yields (.gateListStart n) s (fun d => d.gatesOf n = some g ∧ d.nextGatesOf n = none ∧ d.get (F.REED_GATE_START_S n) = g.start % 2 ^ 64 ∧
        d.get (F.REED_GATE_STATUS_PENDING n) = 0 ∧ d.get F.REED_EVENT_GATE_CHANGE = 1 ∧ d.get (F.REED_GATE_STATUS_GATES n) = (g.at_ s.dev.now).2.1 % 256 ∧
        ∀ m, m ≠ n → d.gatesOf m = s.dev.gatesOf m ∧ d.nextGatesOf m = s.dev.nextGatesOf m))) ∧
    (s.dev.nextGatesOf n = none → Yields (.gateListStart n) s (fun d => d = s.dev))) ∧
  (∀ (s : State) (x k : Nat), s.dev.IndReady 0x900100 → x < 2 →
    (k < 32768 → Yields (.reedRead 0 x k) s (fun d => d.IndBusy 0x900100 0 ∧ d.words 0x900200 8 = (s.dev.queueShow k ((s.dev.setBy x).record Tab.queue k)).toNat % 2 ^ 256 ∧ d.cfg = s.dev.cfg) ∧
      Yields (.reedWrite 0 0 k) s (fun d => d.IndBusy 0x900100 0 ∧ d.cfg.shadow.record Tab.queue k = keepRec Tab.queue (BitVec.ofNat 2048 ((s.dev.winRec 0x900200 32).toNat % 2 ^ 128)) ∧
        d.cfg.active = s.dev.cfg.active ∧ d.reed = s.dev.reed) ∧
      Yields (.reedWrite 0 1 k) s (fun d => d.IndBusy 0x900100 5 ∧ d.cfg = s.dev.cfg)) ∧
    (k < 8192 → Yields (.reedRead 1 x k) s (fun d => d.IndBusy 0x900100 0 ∧ d.words 0x900200 8 = ((s.dev.setBy x).record Tab.group k).toNat % 2 ^ 256 ∧ d.cfg = s.dev.cfg) ∧
      Yields (.reedWrite 1 0 k) s (fun d => d.IndBusy 0x900100 0 ∧ d.cfg.shadow.record Tab.group k = keepRec Tab.group (BitVec.ofNat 2048 ((s.dev.winRec 0x900200 32).toNat % 2 ^ 64)) ∧
        d.cfg.active = s.dev.cfg.active ∧ d.reed = s.dev.reed)) ∧
    (32768 ≤ k → Yields (.reedRead 0 x k) s (fun d => d.IndBusy 0x900100 3 ∧ d.cfg = s.dev.cfg) ∧ Yields (.reedWrite 0 x k) s (fun d => d.IndBusy 0x900100 3 ∧ d.cfg = s.dev.cfg))) ∧
  (∀ (s : State) (t x k : Nat), s.dev.get F.REED_IND_CTRL_BUSY = 1 → Yields (.reedRead t x k) s (fun d => d = s.dev) ∧ Yields (.reedWrite t x k) s (fun d => d = s.dev))

/-- R260, R267, R268 and Table 2; that an instruction command names the instruction which a thread issues is the choice of assumption log 31, and the value of HASH that of assumption log 33. -/
def Obligations.ArithmeticWritesOneRegister : Prop :=
  (∀ (s : State) (c th wd wa wb : Nat) (imm : BitVec 16) (sel : BitVec 8) (t : Thread), s.dev.CanIssue c th 1 → t = s.dev.thread (8 * c + th) →
    Yields (.add c th wd wa wb) s (s.dev.RegDone (8 * c + th) 1 wd (t.reg wa + t.reg wb)) ∧
    Yields (.sub c th wd wa wb) s (s.dev.RegDone (8 * c + th) 1 wd (t.reg wa - t.reg wb)) ∧
    Yields (.and_ c th wd wa wb) s (s.dev.RegDone (8 * c + th) 1 wd (t.reg wa &&& t.reg wb)) ∧
    Yields (.or_ c th wd wa wb) s (s.dev.RegDone (8 * c + th) 1 wd (t.reg wa ||| t.reg wb)) ∧
    Yields (.xor c th wd wa wb) s (s.dev.RegDone (8 * c + th) 1 wd (t.reg wa ^^^ t.reg wb)) ∧
    Yields (.shl c th wd wa wb) s (s.dev.RegDone (8 * c + th) 1 wd (BitVec.ofNat 64 ((t.reg wa).toNat * 2 ^ ((t.reg wb).toNat % 64)))) ∧
    Yields (.shr c th wd wa wb) s (s.dev.RegDone (8 * c + th) 1 wd (BitVec.ofNat 64 ((t.reg wa).toNat / 2 ^ ((t.reg wb).toNat % 64)))) ∧
    Yields (.sar c th wd wa wb) s (s.dev.RegDone (8 * c + th) 1 wd (BitVec.ofInt 64 ((t.reg wa).toInt / 2 ^ ((t.reg wb).toNat % 64)))) ∧
    Yields (.slt c th wd wa wb) s (s.dev.RegDone (8 * c + th) 1 wd (if (t.reg wa).toInt < (t.reg wb).toInt then 1 else 0)) ∧
    Yields (.sltu c th wd wa wb) s (s.dev.RegDone (8 * c + th) 1 wd (if (t.reg wa).toNat < (t.reg wb).toNat then 1 else 0)) ∧
    (∃ v : Dword, Yields (.bswap c th wd wa) s (s.dev.RegDone (8 * c + th) 1 wd v) ∧ ∀ k < 8, v.toNat / 2 ^ (8 * k) % 256 = (t.reg wa).toNat / 2 ^ (8 * (7 - k)) % 256) ∧
    Yields (.addi c th wd wa imm) s (s.dev.RegDone (8 * c + th) 1 wd (t.reg wa + imm.signExtend 64)) ∧
    Yields (.andi c th wd wa imm) s (s.dev.RegDone (8 * c + th) 1 wd (t.reg wa &&& imm.zeroExtend 64)) ∧
    Yields (.ori c th wd wa imm) s (s.dev.RegDone (8 * c + th) 1 wd (t.reg wa ||| imm.zeroExtend 64)) ∧
    (imm.toNat / 64 % 4 = 0 → Yields (.shi c th wd wa imm) s (s.dev.RegDone (8 * c + th) 1 wd (BitVec.ofNat 64 ((t.reg wa).toNat * 2 ^ (imm.toNat % 64))))) ∧
    (imm.toNat / 64 % 4 = 1 → Yields (.shi c th wd wa imm) s (s.dev.RegDone (8 * c + th) 1 wd (BitVec.ofNat 64 ((t.reg wa).toNat / 2 ^ (imm.toNat % 64))))) ∧
    (imm.toNat / 64 % 4 = 2 → Yields (.shi c th wd wa imm) s (s.dev.RegDone (8 * c + th) 1 wd (BitVec.ofInt 64 ((t.reg wa).toInt / 2 ^ (imm.toNat % 64))))) ∧
    Yields (.shin c th wd wa imm) s (s.dev.RegDone (8 * c + th) 1 wd (BitVec.ofNat 64 ((t.reg wa).toNat * 65536 + imm.toNat))) ∧
    Yields (.chl c th wd sel) s (s.dev.RegDone (8 * c + th) 1 wd (mapGetD t.recv (sel.toNat % 8) 0)) ∧
    (s.dev.CanIssue c th 2 → Yields (.hash c th wd wa wb) s (s.dev.RegDone (8 * c + th) 2 wd
      (BitVec.ofNat 64 (crcRun 0x82F63B78 ((t.reg wb).toNat % 2 ^ 32 ^^^ (2 ^ 32 - 1)) (leBytes 8 (t.reg wa).toNat) ^^^ (2 ^ 32 - 1))))) ∧
    (s.dev.CanIssue c th 3 → Yields (.mul c th wd wa wb) s (s.dev.RegDone (8 * c + th) 3 wd (BitVec.ofNat 64 ((t.reg wa).toNat * (t.reg wb).toNat))))) ∧
  (∀ (t : Thread) (r : Nat) (v : Dword), t.reg 0 = 0 ∧ t.setReg 0 v = t ∧ (r ≠ 0 → (t.setReg r v).reg r = v) ∧ ∀ q, q ≠ r → (t.setReg r v).reg q = t.reg q)

/-- R262, R267 to R269, R280, R282 and Table 10. -/
def Obligations.BranchesJumpAndFaultsEndThreads : Prop :=
  (∀ (s : State) (c th wd wa : Nat) (imm : BitVec 16) (t : Thread) (go : Int), s.dev.CanIssue c th 2 → t = s.dev.thread (8 * c + th) → go = (t.pc : Int) + 1 + imm.toInt →
    (0 ≤ go → go < (s.dev.codeWords c : Int) →
      (t.reg wd = t.reg wa → Yields (.beq c th wd wa imm) s (s.dev.JumpDone (8 * c + th) 2 go.toNat)) ∧
      (t.reg wd ≠ t.reg wa → Yields (.bne c th wd wa imm) s (s.dev.JumpDone (8 * c + th) 2 go.toNat)) ∧
      ((t.reg wd).toNat < (t.reg wa).toNat → Yields (.bltu c th wd wa imm) s (s.dev.JumpDone (8 * c + th) 2 go.toNat)) ∧
      ((t.reg wa).toNat ≤ (t.reg wd).toNat → Yields (.bgeu c th wd wa imm) s (s.dev.JumpDone (8 * c + th) 2 go.toNat)) ∧
      Yields (.jal c th wd imm) s (s.dev.OnlyThread (8 * c + th) { (t.charged 2).setReg wd (BitVec.ofNat 64 (t.pc + 1)) with pc := go.toNat })) ∧
    (go < 0 ∨ (s.dev.codeWords c : Int) ≤ go → th ≠ 0 → t.shuttle = none →
      (t.reg wd = t.reg wa → Yields (.beq c th wd wa imm) s (s.dev.FaultDone c th 2)) ∧ (t.reg wd ≠ t.reg wa → Yields (.bne c th wd wa imm) s (s.dev.FaultDone c th 2)) ∧
      ((t.reg wd).toNat < (t.reg wa).toNat → Yields (.bltu c th wd wa imm) s (s.dev.FaultDone c th 2)) ∧
      ((t.reg wa).toNat ≤ (t.reg wd).toNat → Yields (.bgeu c th wd wa imm) s (s.dev.FaultDone c th 2)) ∧ Yields (.jal c th wd imm) s (s.dev.FaultDone c th 2)) ∧
    ((t.reg wa).toNat < s.dev.codeWords c → Yields (.jr c th wa) s (s.dev.JumpDone (8 * c + th) 2 (t.reg wa).toNat)) ∧
    (s.dev.codeWords c ≤ (t.reg wa).toNat → th ≠ 0 → t.shuttle = none → Yields (.jr c th wa) s (s.dev.FaultDone c th 2))) ∧
  (∀ (s : State) (c th wd wa : Nat) (imm : BitVec 16) (t : Thread), s.dev.CanIssue c th 1 → t = s.dev.thread (8 * c + th) →
    (t.reg wd ≠ t.reg wa → Yields (.beq c th wd wa imm) s (s.dev.JumpDone (8 * c + th) 1 (t.pc + 1))) ∧
    (t.reg wd = t.reg wa → Yields (.bne c th wd wa imm) s (s.dev.JumpDone (8 * c + th) 1 (t.pc + 1))) ∧
    ((t.reg wa).toNat ≤ (t.reg wd).toNat → Yields (.bltu c th wd wa imm) s (s.dev.JumpDone (8 * c + th) 1 (t.pc + 1))) ∧
    ((t.reg wd).toNat < (t.reg wa).toNat → Yields (.bgeu c th wd wa imm) s (s.dev.JumpDone (8 * c + th) 1 (t.pc + 1)))) ∧
  (∀ (s : State) (c th wd wa sz : Nat) (imm : BitVec 16) (disp : BitVec 13) (i : Instr), s.dev.CanIssue c th 0 → th ≠ 0 → (s.dev.thread (8 * c + th)).shuttle = none →
    (i = .illegalInstruction c th ∨ (i = .shi c th wd wa imm ∧ imm.toNat / 64 % 4 = 3) ∨
      (4 ≤ sz ∧ i ∈ ([.ld c th wd wa sz disp, .st c th wd wa sz disp, .sld c th wd wa sz disp, .sst c th wd wa sz disp, .fld c th wd wa sz disp, .fst c th wd wa sz disp] : List Instr))) →
    Yields i s (s.dev.FaultDone c th 1)) ∧
  (∀ (s : State) (c th wd wa wb : Nat) (imm : BitVec 16) (i : Instr), s.dev.CanIssue c th 0 → th ≠ 0 → (s.dev.thread (8 * c + th)).shuttle = none → (s.dev.thread (8 * c + th)).budget = some 0 →
    i ∈ ([.add c th wd wa wb, .mul c th wd wa wb, .addi c th wd wa imm, .jr c th wa, .beq c th wd wa imm, .hash c th wd wa wb, .brd c th wd] : List Instr) →
    Yields i s (fun e => s.dev.FaultDone c th 5 e ∧ e.ctr K.BARB_BUDGET_OVERRUN = (s.dev.ctr K.BARB_BUDGET_OVERRUN + 1) % 2 ^ 64 ∧ e.get F.BARB_EVENT_BUDGET = 1)) ∧
  (∀ (s : State) (c th wd wa wb : Nat) (imm : BitVec 16) (i : Instr), s.dev.hif.faulted = [] → (s.dev.thread (8 * c + th)).issues = false →
    i ∈ ([.add c th wd wa wb, .mul c th wd wa wb, .addi c th wd wa imm, .jr c th wa, .jal c th wd imm, .beq c th wd wa imm, .illegalInstruction c th] : List Instr) →
    Yields i s (fun e => { e with net := s.dev.net, out := s.dev.out } = s.dev)) ∧
  (∀ t : Thread, t.issues = (t.run == 1 && (!t.halted || t.stepDue)))

/-- R260, R265, R267, R269 and Table 3. Where the data region begins is the reading of assumption log 32. -/
def Obligations.LoadsAndStoresReachTheirSpaces : Prop :=
  (∀ (s : State) (c th wd wa sz a : Nat) (disp : BitVec 13) (t : Thread), s.dev.CanIssue c th 1 → sz < 4 → t = s.dev.thread (8 * c + th) →
    a = (t.reg wa + disp.zeroExtend 64).toNat → a % 2 ^ sz = 0 →
    (s.dev.localOk c a (2 ^ sz) = true →
      Yields (.ld c th wd wa sz disp) s (s.dev.RegDone (8 * c + th) 1 wd (BitVec.ofNat 64 (leNat (s.dev.localBytes c a (2 ^ sz))))) ∧
      Yields (.st c th wd wa sz disp) s (fun e => e.thread (8 * c + th) = { t.charged 1 with pc := t.pc + 1 } ∧
        (∀ k < 2 ^ sz, (e.localByte c (a + k)).toNat = (t.reg wd).toNat / 2 ^ (8 * k) % 256) ∧
        (∀ b, b < a ∨ a + 2 ^ sz ≤ b → e.localByte c b = s.dev.localByte c b) ∧ (∀ k b, k ≠ c → e.localByte k b = s.dev.localByte k b) ∧
        e.shuts = s.dev.shuts ∧ e.bus = s.dev.bus)) ∧
    (s.dev.localOk c a (2 ^ sz) = false → th ≠ 0 → t.shuttle = none → Yields (.ld c th wd wa sz disp) s (s.dev.FaultDone c th 2) ∧ Yields (.st c th wd wa sz disp) s (s.dev.FaultDone c th 2)) ∧
    (t.shuttle = none → th ≠ 0 → Yields (.sld c th wd wa sz disp) s (s.dev.FaultDone c th 2) ∧ Yields (.sst c th wd wa sz disp) s (s.dev.FaultDone c th 2) ∧
      Yields (.fld c th wd wa sz disp) s (s.dev.FaultDone c th 2) ∧ Yields (.fst c th wd wa sz disp) s (s.dev.FaultDone c th 2)) ∧
    (∀ i, t.shuttle = some i → a + 2 ^ sz ≤ 128 →
      Yields (.sld c th wd wa sz disp) s (s.dev.RegDone (8 * c + th) 1 wd (BitVec.ofNat 64 (bitsOf t.copy.toNat (8 * a) (8 * 2 ^ sz)))) ∧
      (∀ w : ShuttleWord, w = BitVec.ofNat 1024 (bitsSet t.copy.toNat (8 * a) (8 * 2 ^ sz) (t.reg wd).toNat) → (w ^^^ t.copy) &&& ~~~ programMask = 0 →
        Yields (.sst c th wd wa sz disp) s (s.dev.OnlyThread (8 * c + th) { t.charged 1 with copy := w, pc := t.pc + 1 }))) ∧
    (∀ i x, t.shuttle = some i → s.dev.shut i = some x → a + 2 ^ sz ≤ 256 → (t.guar = true → a + 2 ^ sz ≤ 128) →
      (x.ended = true ∨ a + 2 ^ sz ≤ x.frame.length →
        Yields (.fld c th wd wa sz disp) s (s.dev.RegDone (8 * c + th) 1 wd (BitVec.ofNat 64 (leNat (t.frameBytes x a (2 ^ sz))))) ∧
        (a + 2 ^ sz ≤ x.window.length → Yields (.fst c th wd wa sz disp) s (s.dev.OnlyThread (8 * c + th)
          { t.charged 1 with win := mapBytes t.win a (leBytes (2 ^ sz) (t.reg wd).toNat), pc := t.pc + 1 }))) ∧
      (x.ended = false → x.frame.length < a + 2 ^ sz →
        Yields (.fld c th wd wa sz disp) s (s.dev.WaitDone (8 * c + th) 1 wd (.load a (2 ^ sz))) ∧
        Yields (.fst c th wd wa sz disp) s (s.dev.WaitDone (8 * c + th) 1 wd (.store a (2 ^ sz) (t.reg wd)))))) ∧
  (∀ (s : State) (c th wd wa sz : Nat) (disp : BitVec 13) (t : Thread) (i : Instr), s.dev.CanIssue c th 1 → sz < 4 → th ≠ 0 → t = s.dev.thread (8 * c + th) → t.shuttle = none →
    (t.reg wa + disp.zeroExtend 64).toNat % 2 ^ sz ≠ 0 →
    i ∈ ([.ld c th wd wa sz disp, .st c th wd wa sz disp, .sld c th wd wa sz disp, .sst c th wd wa sz disp, .fld c th wd wa sz disp, .fst c th wd wa sz disp] : List Instr) →
    Yields i s (s.dev.FaultDone c th 3)) ∧
  (∀ (d : Dev) (c a n : Nat), d.localOk c a n = true ↔ 4 * d.codeWords c ≤ a ∧ a + n ≤ 262144)

/-- R270, R271, R273, R275 and Tables 4 to 6. -/
def Obligations.LookupsCheckValuesLocksAndChannels : Prop :=
  (∀ (s : State) (c th wd wa sel : Nat) (t : Thread), s.dev.CanIssue c th 28 → t = s.dev.thread (8 * c + th) → t.guar = false →
    (∀ i, s.dev.lookupOndie (sel % 4) (keyMac (t.reg wa)) (keyFd (t.reg wa)) = .hit i → Yields (.lkf c th wd wa ⟨sel, none⟩) s (fun e =>
      e.thread (8 * c + th) = { (t.charged 24).setReg wd (s.dev.lkfResult i) with pc := t.pc + 1 })) ∧
    (s.dev.lookupOndie (sel % 4) (keyMac (t.reg wa)) (keyFd (t.reg wa)) = .miss → Yields (.lkf c th wd wa ⟨sel, none⟩) s (s.dev.RegDone (8 * c + th) 24 wd 0)) ∧
    (s.dev.lookupOndie (sel % 4) (keyMac (t.reg wa)) (keyFd (t.reg wa)) = .ddr5 → Yields (.lkf c th wd wa ⟨sel, none⟩) s (s.dev.WaitDone (8 * c + th) 24 wd (.lkf (t.reg wa)))) ∧
    (∀ a key, a = (t.reg wa).toNat → s.dev.localOk c a 40 = true → key = s.dev.localBytes c a 40 →
      (∀ f, s.dev.lkkFind (s.dev.threadSet t) key false = some f → Yields (.lkk c th wd wa sel) s (s.dev.RegDone (8 * c + th) 28 wd (BitVec.ofNat 64 f))) ∧
      (s.dev.lkkFind (s.dev.threadSet t) key false = none → sel % 2 = 0 → Yields (.lkk c th wd wa sel) s (s.dev.RegDone (8 * c + th) 28 wd 0)) ∧
      (s.dev.lkkFind (s.dev.threadSet t) key false = none → sel % 2 = 1 → Yields (.lkk c th wd wa sel) s (s.dev.WaitDone (8 * c + th) 28 wd (.lkk key))))) ∧
  (∀ (s : State) (c th wd wa sel u : Nat) (imm : BitVec 8) (t : Thread) (x : CrcUnit), s.dev.CanIssue c th 16 → t = s.dev.thread (8 * c + th) → u = sel % 32 → x = s.dev.crcUnit u →
    (s.dev.isGated 2 u = true → Yields (.crcs c th wd wa sel imm) s (fun e => e = s.dev.wake 2 u)) ∧
    (s.dev.isGated 2 u = false → s.dev.flt.outUnits.contains (4, u) = false → s.dev.get (F.STOR_CRC_STATUS_STATE u) ≠ 1 → Yields (.crcs c th wd wa sel imm) s (fun e => e.thread (8 * c + th) = { (t.charged 16).setReg wd 0 with pc := t.pc + 1 } ∧
      e.get (F.STOR_CRC_STATUS_STATE u) = 1 ∧ (e.crcUnit u).owner = some (0, 8 * c + th) ∧ (e.crcUnit u).poly = imm.toNat % 4 ∧ (e.crcUnit u).message = [] ∧ (e.crcUnit u).result = x.result)) ∧
    (s.dev.isGated 2 u = false → s.dev.flt.outUnits.contains (4, u) = true ∨ (s.dev.get (F.STOR_CRC_STATUS_STATE u) = 1 ∧ x.owner ≠ some (0, 8 * c + th)) → Yields (.crcs c th wd wa sel imm) s (fun e =>
      e.thread (8 * c + th) = { (t.charged 16).setReg wd 1 with pc := t.pc + 1 } ∧ e.stor = s.dev.stor)) ∧
    (s.dev.crcOwns u 0 (8 * c + th) = true →
      (imm.toNat.testBit 3 = false → Yields (.crcf c th wa sel imm) s (fun e => e.thread (8 * c + th) = { t.charged 1 with pc := t.pc + 1 } ∧
        e.crcUnit u = { x with message := x.message ++ (leBytes 8 (t.reg wa).toNat).take (imm.toNat % 8 + 1) })) ∧
      (imm.toNat.testBit 3 = true → Yields (.crcf c th wa sel imm) s (fun e => (e.crcUnit u).message = [] ∧
        (e.crcUnit u).result = crcOf x.poly (x.message ++ (leBytes 8 (t.reg wa).toNat).take (imm.toNat % 8 + 1)))) ∧
      Yields (.crcxRead c th wd sel) s (s.dev.RegDone (8 * c + th) 16 wd (BitVec.ofNat 64 x.result)) ∧
      Yields (.crcxStop c th sel) s (fun e => e.get (F.STOR_CRC_STATUS_STATE u) = 0 ∧ (e.crcUnit u).owner = none ∧ e.thread (8 * c + th) = { t.charged 1 with pc := t.pc + 1 })) ∧
    (x.owner ≠ some (0, 8 * c + th) → th ≠ 0 → t.shuttle = none → Yields (.crcf c th wa sel imm) s (s.dev.FaultDone c th 9) ∧ Yields (.crcxRead c th wd sel) s (s.dev.FaultDone c th 9) ∧
      Yields (.crcxStop c th sel) s (s.dev.FaultDone c th 9))) ∧
  (∀ (s : State) (c th wd wa k n : Nat) (t : Thread), s.dev.CanIssue c th 16 → n = 8 * c + th → t = s.dev.thread n → t.guar = false → k = (t.reg wa).toNat % 4096 →
    (s.dev.lockBad n k = false → (s.dev.locksOf n).length < 16 → mapGet s.dev.barb.locks k = none →
      Yields (.lock c th wa) s (fun e => e.thread n = { t.charged 16 with pc := t.pc + 1 } ∧ mapGet e.barb.locks k = some ⟨n, []⟩ ∧ ∀ j, j ≠ k → mapGet e.barb.locks j = mapGet s.dev.barb.locks j) ∧
      Yields (.tryl c th wd wa) s (fun e => e.thread n = { (t.charged 16).setReg wd 0 with pc := t.pc + 1 } ∧ mapGet e.barb.locks k = some ⟨n, []⟩)) ∧
    (∀ l, s.dev.lockBad n k = false → (s.dev.locksOf n).length < 16 → mapGet s.dev.barb.locks k = some l → mapSorted s.dev.barb.locks = true →
      Yields (.lock c th wa) s (fun e => e.thread n = { t.charged 16 with run := 2, wait := .lock k, wd := 0, pc := t.pc + 1, askedAt := s.dev.time.cycles } ∧
        ((∀ w ∈ l.waiters, (s.dev.thread w).askedAt ≠ s.dev.time.cycles ∨ w ≤ n) → mapGet e.barb.locks k = some { l with waiters := l.waiters ++ [n] }) ∧
        ((∀ w ∈ l.waiters, (s.dev.thread w).askedAt = s.dev.time.cycles ∧ n < w) → mapGet e.barb.locks k = some { l with waiters := n :: l.waiters })) ∧
      Yields (.tryl c th wd wa) s (s.dev.RegDone n 16 wd 1)) ∧
    (∀ l, mapGet s.dev.barb.locks k = some l → l.owner = n → Yields (.ulk c th wa) s (fun e => e.thread n = { t.charged 2 with pc := t.pc + 1 } ∧
      (l.waiters = [] → mapGet e.barb.locks k = none) ∧ ∀ w r, l.waiters = w :: r → mapGet e.barb.locks k = some ⟨w, r⟩)) ∧
    (64 ≤ n → k < 1024 → th ≠ 0 → t.shuttle = none → Yields (.lock c th wa) s (s.dev.FaultDone c th 7) ∧ Yields (.tryl c th wd wa) s (s.dev.FaultDone c th 7)) ∧
    ((∀ l, mapGet s.dev.barb.locks k = some l → l.owner ≠ n) → th ≠ 0 → t.shuttle = none → Yields (.ulk c th wa) s (s.dev.FaultDone c th 7))) ∧
  (∀ (s : State) (c th wd wa q n w : Nat) (imm : BitVec 8) (t : Thread), s.dev.CanIssue c th 4 → n = 8 * c + th → t = s.dev.thread n → t.guar = false → q = (t.reg wa).toNat % 1024 →
    w = imm.toNat % 16 → 1 ≤ w → w ≤ 8 →
    Yields (.chw c th wa imm) s (s.dev.OnlyThread n { t.charged 1 with staging := mapPut t.staging (imm.toNat % 8) (t.reg wa), pc := t.pc + 1 }) ∧
    (s.dev.chanThread q = none → Yields (.chs c th wd wa imm) s (s.dev.RegDone n 4 wd 2)) ∧
    ((s.dev.chanThread q).isSome = true → s.dev.chanRoom q = true → Yields (.chs c th wd wa imm) s (fun e => e.thread n = { (t.charged 4).setReg wd 0 with pc := t.pc + 1 } ∧
      e.barb.flight = sendBehind s.dev.barb.flight ⟨q, t.staged w, n, s.dev.time.cycles⟩ ∧ e.barb.chans = s.dev.barb.chans)) ∧
    ((s.dev.chanThread q).isSome = true → s.dev.chanRoom q = false → imm.toNat.testBit 7 = false → Yields (.chs c th wd wa imm) s (fun e =>
      e.thread n = { (t.charged 4).setReg wd 1 with pc := t.pc + 1 } ∧ e.barb.flight = s.dev.barb.flight ∧ e.ctr K.BARB_CHAN_FULL = (s.dev.ctr K.BARB_CHAN_FULL + 1) % 2 ^ 64)) ∧
    ((s.dev.chanThread q).isSome = true → s.dev.chanRoom q = false → imm.toNat.testBit 7 = true → Yields (.chs c th wd wa imm) s (s.dev.WaitDone n 4 wd (.send q (t.staged w))))) ∧
  (∀ (s : State) (q : Nat) (a f : List ChanMsg) (m : ChanMsg), s.dev.barb.flight = a ++ m :: f → (∀ x ∈ a, x.chan ≠ q) → m.chan = q → Yields (.channelMessageArrive q) s (fun e =>
      e.chan q = s.dev.chan q ++ [m.words] ∧ e.barb.flight = a ++ f ∧ (∀ p, p ≠ q → e.chan p = s.dev.chan p) ∧ e.barb.threads = s.dev.barb.threads ∧ e.bus = s.dev.bus)) ∧
  (∀ (l : List ChanMsg) (m : ChanMsg), ((∀ x ∈ l, x.cycle ≠ m.cycle ∨ x.sender ≤ m.sender) → sendBehind l m = l ++ [m]) ∧
    ((∀ x ∈ l, x.cycle = m.cycle ∧ m.sender < x.sender) → sendBehind l m = m :: l)) ∧
  (∀ (s : State) (c th wd sel q n : Nat) (imm : BitVec 8) (t : Thread), s.dev.CanIssue c th 2 → n = 8 * c + th → t = s.dev.thread n → t.guar = false → q = 16 * c + sel % 16 →
    (∀ m r, s.dev.chanThread q = some n → s.dev.chan q = m :: r → Yields (.chr c th wd sel imm) s (fun e => e.chan q = r ∧ (e.thread n).pc = t.pc + 1 ∧
      (wd ≠ 0 → (e.thread n).reg wd = BitVec.ofNat 64 m.length) ∧ ∀ k < m.length, mapGetD (e.thread n).recv k 0 = m.getD k 0)) ∧
    (s.dev.chanThread q ≠ some n ∨ s.dev.chan q = [] →
      (imm.toNat.testBit 7 = false → Yields (.chr c th wd sel imm) s (s.dev.RegDone n 2 wd 0)) ∧
      (imm.toNat.testBit 7 = true → Yields (.chr c th wd sel imm) s (s.dev.WaitDone n 2 wd (.recv q)))))

/-- R276 to R278, R280 and Table 7. The value of BRD in an unbudgeted thread is free (assumption log 4). -/
def Obligations.WaitsWakesAndThreadControl : Prop :=
  (∀ (s : State) (c th wd wa n : Nat) (imm : BitVec 8) (t : Thread) (T : Nat), s.dev.CanIssue c th 2 → n = 8 * c + th → t = s.dev.thread n → t.guar = false → T = (t.reg wa).toNat →
    (T ≤ s.dev.nowNs → Yields (.waitt c th wd wa) s (fun e => (wd ≠ 0 → (e.thread n).reg wd = 0) ∧ (e.thread n).run = t.run ∧ (e.thread n).pc = t.pc + 1 ∧ (e.thread n).wake = 0)) ∧
    (s.dev.nowNs < T → Yields (.waitt c th wd wa) s (s.dev.WaitDone n 2 wd (.time T))) ∧
    (s.dev.threadEvents n &&& imm.toNat ≠ 0 → T = 0 → Yields (.waite c th wd wa imm) s (fun e => (e.thread n).run = t.run ∧ (e.thread n).pc = t.pc + 1 ∧
      (e.thread n).wake = 1 + 256 * (s.dev.threadEvents n &&& imm.toNat) ∧ (wd ≠ 0 → (e.thread n).reg wd = BitVec.ofNat 64 (1 + 256 * (s.dev.threadEvents n &&& imm.toNat))) ∧
      (e.thread n).events = t.events &&& (255 - (s.dev.threadEvents n &&& imm.toNat)))) ∧
    (s.dev.threadEvents n &&& imm.toNat = 0 → T = 0 → Yields (.waite c th wd wa imm) s (s.dev.WaitDone n 2 wd (.event imm.toNat none))) ∧
    (s.dev.threadEvents n &&& imm.toNat = 0 → s.dev.nowNs < T → Yields (.waite c th wd wa imm) s (s.dev.WaitDone n 2 wd (.event imm.toNat (some T))))) ∧
  (∀ (s : State) (c th n : Nat) (t : Thread), c < 64 → th < 8 → n = 8 * c + th → s.dev.isGated 0 c = false → s.dev.hif.faulted = [] → t = s.dev.thread n → t.run = 2 →
    (∀ T, t.wait = .time T → T ≤ s.dev.nowNs → Yields (.threadWake c th) s (fun e => (e.thread n).run = 1 ∧ (e.thread n).wait = .none ∧ (t.wd ≠ 0 → (e.thread n).reg t.wd = 0))) ∧
    (∀ T, t.wait = .time T → s.dev.nowNs < T → Yields (.threadWake c th) s (fun e => e.barb = s.dev.barb)) ∧
    (∀ m, t.wait = .event m none → s.dev.threadEvents n &&& m ≠ 0 → Yields (.threadWake c th) s (fun e => (e.thread n).run = 1 ∧ (e.thread n).wait = .none ∧
      (t.wd ≠ 0 → (e.thread n).reg t.wd = BitVec.ofNat 64 (1 + 256 * (s.dev.threadEvents n &&& m))))) ∧
    (∀ k l, t.wait = .lock k → mapGet s.dev.barb.locks k = some l → (l.owner = n → Yields (.threadWake c th) s (s.dev.OnlyThread n { t with run := 1, wait := .none })) ∧
      (l.owner ≠ n → Yields (.threadWake c th) s (fun e => e.barb = s.dev.barb)))) ∧
  (∀ (s : State) (c th sel : Nat), s.dev.CanIssue c th 1 → Yields (.sig c th sel) s (fun e => (e.thread (8 * c + sel % 8)).events.testBit 3 = true ∧
      (e.thread (8 * c + th)).pc = (s.dev.thread (8 * c + th)).pc + 1)) ∧
  (∀ (s : State) (c wd wa sel m : Nat) (imm : BitVec 8) (t x : Thread), s.dev.CanIssue c 0 2 → t = s.dev.thread (8 * c) → m = 8 * c + sel % 8 → sel % 8 ≠ 0 → s.dev.isDispatch m = false → x = s.dev.thread m →
    (x.run = 0 →
      Yields (.tset c 0 wa sel imm) s (fun e => e.thread m = x.setReg (imm.toNat % 32) (t.reg wa) ∧ e.thread (8 * c) = { t.charged 1 with pc := t.pc + 1 }) ∧
      Yields (.tstop c 0 wd sel) s (s.dev.RegDone (8 * c) 2 wd 1) ∧
      ((t.reg wa).toNat < s.dev.codeWords c → Yields (.tgo c 0 wd wa sel) s (fun e => e.thread (8 * c) = { (t.charged 2).setReg wd 0 with pc := t.pc + 1 } ∧ (e.thread m).run = 1 ∧
        (e.thread m).pc = (t.reg wa).toNat ∧ (e.thread m).budget = (if x.armed = 0 then none else some x.armed) ∧ (e.thread m).regs = x.regs))) ∧
    (x.run ≠ 0 →
      Yields (.tset c 0 wa sel imm) s (s.dev.OnlyThread (8 * c) { t.charged 1 with pc := t.pc + 1 }) ∧
      Yields (.tgo c 0 wd wa sel) s (s.dev.RegDone (8 * c) 2 wd 1) ∧
      Yields (.tstop c 0 wd sel) s (fun e => e.thread (8 * c) = { (t.charged 2).setReg wd 0 with pc := t.pc + 1 } ∧ (e.thread m).run = 0 ∧ (e.thread m).wait = .none)) ∧
    Yields (.barm c 0 wa sel) s (fun e => e.thread m = { x with armed := (t.reg wa).toNat % 65536 } ∧ e.thread (8 * c) = { t.charged 1 with pc := t.pc + 1 })) ∧
  (∀ (s : State) (c th wd wa sel : Nat) (imm : BitVec 8) (i : Instr), s.dev.CanIssue c th 2 → th ≠ 0 → (s.dev.thread (8 * c + th)).shuttle = none →
    i ∈ ([.tset c th wa sel imm, .tgo c th wd wa sel, .tstop c th wd sel, .barm c th wa sel] : List Instr) → Yields i s (s.dev.FaultDone c th 8)) ∧
  (∀ (s : State) (c th wd n : Nat) (t : Thread), s.dev.CanIssue c th 1 → n = 8 * c + th → t = s.dev.thread n →
    (∀ b, t.budget = some b → Yields (.brd c th wd) s (s.dev.RegDone n 1 wd (BitVec.ofNat 64 (b - 1)))) ∧
    (t.budget = none → Yields (.brd c th wd) s (fun e => e.thread n = { (t.charged 1).setReg wd (Config.freeValue s.dev.free) with pc := t.pc + 1 } ∧ e.free = s.dev.free + 1 ∧ e.bus = s.dev.bus)) ∧
    (t.shuttle = none → s.dev.locksOf n = [] → Yields (.tend c th) s (fun e => (e.thread n).run = 0 ∧ (e.thread n).regs = t.regs ∧ e.bus = s.dev.bus)) ∧
    (t.shuttle = none → s.dev.locksOf n ≠ [] → th ≠ 0 → Yields (.tend c th) s (s.dev.FaultDone c th 0xA)))

/-- R31, R264 to R266 and R283 to R287. -/
def Obligations.DispatchResetAndDebug : Prop :=
  (∀ (s : State) (c th n i : Nat) (x : Shut), c < 64 → th < 8 → n = 8 * c + th → s.dev.deciding = true → s.dev.isGated 0 c = false → s.dev.flt.outUnits.contains (2, c) = false →
    s.dev.flt.wearMoves.contains (2, c) = false → s.dev.isDispatch n = true → (s.dev.thread n).run = 0 → s.dev.waitingFor c (s.dev.isGuar n) = [(i, x)] → s.dev.shut i = some x →
    Yields (.programDispatch c th) s (fun e => (e.thread n).run = 1 ∧ (e.thread n).pc = recGet ((s.dev.cfgOf x).record Tab.program (x.get S.PROGRAM)) ⟨0, 16⟩ ∧
      (e.thread n).reg 1 = BitVec.ofNat 64 (x.get S.PROGRAM) ∧ (e.thread n).reg 2 = BitVec.ofNat 64 (x.get S.LENGTH) ∧ (e.thread n).reg 3 = BitVec.ofNat 64 (x.get S.CLASS) ∧
      (e.thread n).shuttle = some i ∧ (e.thread n).copy = (x.set S.CELL (Config.freeValue s.dev.free).toNat).w ∧ (e.thread n).guar = s.dev.isGuar n ∧ (e.thread n).budget = some (s.dev.dispatchBudget x) ∧ e.shut i = some { x with stage := .thread } ∧
      e.ctr K.BARB_DISPATCHED = (s.dev.ctr K.BARB_DISPATCHED + 1) % 2 ^ 64 ∧ ∀ m, m ≠ n → e.thread m = s.dev.thread m)) ∧
  (∀ (s : State) (c th : Nat), s.dev.deciding = false ∨ s.dev.isGated 0 c = true → Yields (.programDispatch c th) s (fun e => e = s.dev)) ∧
  (∀ (s : State) (c th n i : Nat) (t : Thread) (x : Shut), c < 64 → th < 8 → n = 8 * c + th → t = s.dev.thread n → t.issues = true → t.shuttle = some i → s.dev.shut i = some x →
    s.dev.locksOf n = [] → s.dev.hif.faulted = [] → t.copy.toNat.testBit 647 = true → x.ended = false → x.lane = none → x.holdsSa = none → x.resume = 0 →
    Yields (.tend c th) s (fun e => (e.thread n).run = 0 ∧ (e.thread n).shuttle = none ∧ ∃ y, e.shut i = some y ∧ y.stage = .ended ∧ y.dropReason = some 2 ∧
      y.w = (x.w &&& ~~~ programMask) ||| (t.copy &&& programMask) ∧ y.frame = t.win.foldl (fun f p => if p.1 < f.length then f.set p.1 p.2 else f) x.frame)) ∧
  (∀ (s : State) (c m : Nat) (t : Thread), c < 64 → s.dev.hif.faulted = [] → t = s.dev.thread (8 * c) → t.run = 2 → t.wait = .event m none → m.testBit 4 = true → s.dev.stalled c = true →
    Yields (.stallDetect c) s (fun e => (e.thread (8 * c)).run = 1 ∧ (e.thread (8 * c)).wait = .none ∧ e.get F.BARB_EVENT_STALL = 1 ∧
      e.ctr K.BARB_STALL_EVENTS = (s.dev.ctr K.BARB_STALL_EVENTS + 1) % 2 ^ 64 ∧ (e.thread (8 * c)).wake / 256 % 32 / 16 = 1)) ∧
  (∀ (s : State) (c : Nat), s.dev.stalled c = false → Yields (.stallDetect c) s (fun e => e = s.dev)) ∧
  (∀ (s : State) (c : Nat), 8 ≤ c → c < 64 → s.dev.Live → s.dev.asleep 0 c = false → s.dev.hif.faulted = [] → (∀ th < 8, (s.dev.thread (8 * c + th)).shuttle = none) →
    Yields (.coreResetWrite c 0xC0E5) s (fun e => (e.thread (8 * c)).run = 1 ∧ (e.thread (8 * c)).pc = mapGetD s.dev.barb.master c 0 ∧ (∀ th, 1 ≤ th → th < 8 → e.thread (8 * c + th) = {}) ∧
      (∀ k < 16, e.chan (16 * c + k) = []) ∧ e.ctr K.BARB_CORE_RESETS = (s.dev.ctr K.BARB_CORE_RESETS + 1) % 2 ^ 64 ∧ e.get F.BARB_EVENT_CORE_RESET = 1 ∧
      e.get ⟨0x1000020, Code.coreReset, 1⟩ = 1 ∧ e.shuts = s.dev.shuts)) ∧
  (∀ (s : State) (c k : Nat), c < 8 ∨ k ≠ 0xC0E5 → Yields (.coreResetWrite c k) s (fun e => e = s.dev)) ∧
  (∀ (s : State) (c th n : Nat) (t : Thread), c < 64 → th < 8 → n = 8 * c + th → t = s.dev.thread n → s.dev.Live → s.dev.asleep 0 c = false → s.dev.hif.faulted = [] →
    (s.dev.debugOpen c = true → s.dev.coreAdmitted c = false → t.run ≠ 0 → t.halted = false → Yields (.debugHalt c th) s (fun e => (e.thread n).halted = true ∧
      ((∀ q w, t.wait ≠ .send q w) → e.thread n = { t with halted := true }) ∧ e.ctr K.BARB_DBG_HALTS = (s.dev.ctr K.BARB_DBG_HALTS + 1) % 2 ^ 64 ∧ ∀ m, m ≠ n → e.thread m = s.dev.thread m)) ∧
    (s.dev.debugOpen c = false ∨ s.dev.coreAdmitted c = true → Yields (.debugHalt c th) s (fun e => e.get F.BARB_EVENT_DBG_REFUSED = 1 ∧ e.barb = s.dev.barb)) ∧
    (s.dev.debugOpen c = true → t.halted = true →
      Yields (.debugResume c th) s (fun e => e.thread n = { t with halted := false, stepDue := false } ∧ e.bus = s.dev.bus) ∧
      (t.run = 1 → Yields (.debugStep c th) s (fun e => e.thread n = { t with stepDue := true } ∧ (e.thread n).issues = true ∧ e.bus = s.dev.bus)) ∧
      (t.run = 2 → Yields (.debugStep c th) s (fun e => { e with net := s.dev.net, out := s.dev.out } = s.dev)) ∧
      (∀ v, s.dev.get (F.BARB_CORE_DBG_SEL_THREAD c) = th →
        (∀ k, s.dev.get (F.BARB_CORE_DBG_SEL_ITEM c) = k → 1 ≤ k → k ≤ 31 → Yields (.debugDataWrite c v) s (fun e => e.thread n = t.setReg k v)) ∧
        (s.dev.get (F.BARB_CORE_DBG_SEL_ITEM c) = 32 → Yields (.debugDataWrite c v) s (fun e => e.thread n = { t with pc := v.toNat % 2 ^ 32 })))) ∧
    (t.halted = false → s.dev.get (F.BARB_CORE_DBG_SEL_THREAD c) = th → ∀ v, Yields (.debugDataWrite c v) s (fun e => { e with net := s.dev.net, out := s.dev.out } = s.dev))) ∧
  (∀ (s : State) (c th : Nat) (v : Dword), c < 64 → s.dev.Live → s.dev.asleep 0 c = true → Yields (.debugHalt c th) s (fun e => e = s.dev.holdFor 0 c (.debugHalt c th)) ∧
    Yields (.debugResume c th) s (fun e => e = s.dev.holdFor 0 c (.debugResume c th)) ∧ Yields (.debugStep c th) s (fun e => e = s.dev.holdFor 0 c (.debugStep c th)) ∧
    Yields (.debugDataWrite c v) s (fun e => e = s.dev.holdFor 0 c (.debugData c v))) ∧
  (∀ (s : State) (table x k tab : Nat), s.dev.IndReady 0xB00200 → x < 2 → barbTable table k = some tab →
    Yields (.barbRead table x k) s (fun e => e.IndBusy 0xB00200 0 ∧ e.words barbWin 4 = ((s.dev.setBy x).record tab k).toNat % 2 ^ 128 ∧ e.cfg = s.dev.cfg) ∧
    Yields (.barbWrite table 1 k) s (fun e => e.IndBusy 0xB00200 5 ∧ e.cfg = s.dev.cfg) ∧
    Yields (.barbWrite table 0 k) s (fun e => e.IndBusy 0xB00200 0 ∧ e.cfg.active = s.dev.cfg.active ∧ e.cfg.shadow.record tab k = s.dev.barbMerge tab k)) ∧
  (∀ (s : State) (x k : Nat), s.dev.IndReady 0xB00200 → 65536 ≤ k ∨ k = 0 → Yields (.barbRead 0 x k) s (fun e => e.IndBusy 0xB00200 3 ∧ e.cfg = s.dev.cfg)) ∧
  (∀ (d : Dev) (k : Nat), recGet (d.cfg.shadow.record Tab.program k) ⟨16, 6⟩ < 8 → d.barbMerge Tab.program k = d.cfg.shadow.record Tab.program k)

/-- R295 to R298 and R307. -/
def Obligations.HostReadsAreTracked : Prop :=
  (∀ (s : State) (tag st : Nat) (b : List Byte) (last p : Bool), s.dev.readOf tag = none →
    Yields (.hostReadCompletion tag b last st p) s (fun e => e = s.dev) ∧ Yields (.completionTimeout tag) s (fun e => e = s.dev) ∧ Yields (.tagQuarantineEnd tag) s (fun e => e = s.dev)) ∧
  (∀ (s : State) (tag st : Nat) (b : List Byte) (last p : Bool) (r : HRead), s.dev.readOf tag = some r → r.quarantined = true →
    Yields (.hostReadCompletion tag b last st p) s (fun e => e.hif = s.dev.hif ∧ e.shuts = s.dev.shuts ∧ e.movers = s.dev.movers ∧
      e.ctr K.HIF_LATE_CPL = (s.dev.ctr K.HIF_LATE_CPL + 1) % 2 ^ 64 ∧ SameCountsBut [K.HIF_LATE_CPL] s.dev e) ∧
    Yields (.completionTimeout tag) s (fun e => e = s.dev) ∧
    (s.dev.hif.waiting = [] → s.dev.hif.faulted = [] → Yields (.tagQuarantineEnd tag) s (fun e => e.readOf tag = none ∧ (∀ t, t ≠ tag → e.readOf t = s.dev.readOf t) ∧ e.bus = s.dev.bus))) ∧
  (∀ (s : State) (tag : Nat) (r : HRead), s.dev.readOf tag = some r → r.quarantined = false → Yields (.tagQuarantineEnd tag) s (fun e => e = s.dev)) ∧
  (∀ (s : State) (tag st : Nat) (b : List Byte) (last p : Bool) (r : HRead), s.dev.hif.waiting = [] → s.dev.hif.faulted = [] → s.dev.readOf tag = some r → r.quarantined = false →
    (r.dead = true → Yields (.hostReadCompletion tag b last st p) s (fun e => (last = true ∨ st ≠ 0 → e.readOf tag = none) ∧ (last = false → st = 0 → e.readOf tag = some r) ∧
      (r.killed = true → e.ctr K.HIF_DISCARD_CPL = (s.dev.ctr K.HIF_DISCARD_CPL + 1) % 2 ^ 64) ∧ (r.killed = false → e.bus = s.dev.bus) ∧ e.movers = s.dev.movers ∧ e.shuts = s.dev.shuts)) ∧
    (∀ c id off, r.dead = false → r.use = .mover c id off →
      (last = false → st = 0 → Yields (.hostReadCompletion tag b last st p) s (fun e =>
        e.readOf tag = some { r with got := r.got ++ b.take (r.len - r.got.length), bad := p || r.bad } ∧
        (p = true → e.ctr K.HIF_POISON_RX = (s.dev.ctr K.HIF_POISON_RX + 1) % 2 ^ 64 ∧ ∀ q ∈ (mapGetD e.movers c {}).reqs, q.id = id → q.err ≠ 0) ∧ (p = false → e.bus = s.dev.bus))) ∧
      (∀ t, t = s.dev.elapsed r.sent r.epoch → (last = true ∨ st ≠ 0) → Yields (.hostReadCompletion tag b last st p) s (fun e => e.readOf tag = none ∧
        e.get (F.HIF_LINK_STATUS_MAX_READ_NS r.link) = max (s.dev.get (F.HIF_LINK_STATUS_MAX_READ_NS r.link)) (min 65535 (ceilDiv t 65536)) ∧
        (s.dev.sh (F.LOOM_HOST_CEIL_CEIL_NS r.link) * 65536 < t → e.ctr K.HIF_READ_LATE = (s.dev.ctr K.HIF_READ_LATE + 1) % 2 ^ 64) ∧
        (t ≤ s.dev.sh (F.LOOM_HOST_CEIL_CEIL_NS r.link) * 65536 → e.ctr K.HIF_READ_LATE = s.dev.ctr K.HIF_READ_LATE) ∧
        (st ≠ 0 → ∀ q ∈ (mapGetD e.movers c {}).reqs, q.id = id → q.err ≠ 0))) ∧
      Yields (.completionTimeout tag) s (fun e => e.readOf tag = some { r with quarantined := true, dead := true } ∧ e.get F.HIF_EVENT_CPL_TIMEOUT = 1 ∧
        e.ctr K.HIF_CPL_TIMEOUTS = (s.dev.ctr K.HIF_CPL_TIMEOUTS + 1) % 2 ^ 64 ∧ ∀ q ∈ (mapGetD e.movers c {}).reqs, q.id = id → q.err ≠ 0))) ∧
  (∀ (s : State) (link : Nat), s.dev.Live →
    (link < 2 → Yields (.maxReadRead link) s (fun e => e.out = s.dev.out ++ [.readData (s.dev.word (0x100000 + 4 * link)).toNat] ∧
      e.get (F.HIF_LINK_STATUS_MAX_READ_NS link) = 0 ∧ SameWordsBut [0x100000 + 4 * link] s.dev e)) ∧
    (2 ≤ link → Yields (.maxReadRead link) s (fun e => e = s.dev)))

/-- R300 to R304, R316, and Tables 5, 6 and 11. -/
def Obligations.SelvedgeTranslatesAndForgets : Prop :=
  (∀ (k : Nat) (e : Dword) (t : List Dword),
    (e.getLsbD 0 = false → walkTable k (e :: t) = .fault 1) ∧
    (e.getLsbD 0 = true → bitsOf e.toNat 4 8 ≠ 0 ∨ bitsOf e.toNat 52 12 ≠ 0 ∨ (e.getLsbD 3 = true ∧ (k = 27 ∨ bitsOf e.toNat 12 40 % 2 ^ k ≠ 0)) ∨ (e.getLsbD 3 = false ∧ k = 0) →
      walkTable k (e :: t) = .fault 4) ∧
    (e.getLsbD 0 = true → bitsOf e.toNat 4 8 = 0 → bitsOf e.toNat 52 12 = 0 →
      (e.getLsbD 3 = true → k ≠ 27 → bitsOf e.toNat 12 40 % 2 ^ k = 0 → walkTable k (e :: t) = .page k (bitsOf e.toNat 12 40 * 4096) (e.getLsbD 1) (e.getLsbD 2)) ∧
      (e.getLsbD 3 = false → k ≠ 0 → walkTable k (e :: t) = walkTable (k - 9) t))) ∧
  (∀ (s : State) (inst page st : Nat) (l : List Dword) (w : Walk) (res : WalkRes), s.dev.hif.waiting = [] → s.dev.hif.faulted = [] → (∀ p ∈ s.dev.shuts, p.2.stage ≠ .stor) →
    s.dev.hif.walks.find? (fun w => w.inst == inst && w.page == page) = some w →
    res = (if w.ats = false then (if w.failed ≠ 0 then .fault w.failed else walkTable 27 w.got) else if st = 6 then .fault 6 else atsAnswer l) →
    (res = .more → Yields (.xlateWalkDone inst page l st) s (fun e => e = s.dev)) ∧
    (res ≠ .more → s.dev.hif.rewalk.contains (inst, page) = true → Yields (.xlateWalkDone inst page l st) s (fun e => e.hif.xl = s.dev.hif.xl ∧ (inst, page) ∉ e.hif.rewalk ∧
      ∃ v ∈ e.hif.walks, v.inst = inst ∧ v.page = page ∧ v.got = [] ∧ v.failed = 0)) ∧
    (s.dev.hif.rewalk.contains (inst, page) = false →
      (∀ k host rd wr, res = .page k host rd wr → s.dev.hif.xl.length < 32768 → (∀ y ∈ s.dev.hif.xl, y.covers inst page = false) →
        (s.dev.xlMode inst = 1 ∧ s.dev.xlRoot inst ≠ 0 ∧ 4096 * page + 4095 < 2 ^ 48) ∨ (s.dev.xlMode inst = 2 ∧ (s.dev.fn inst).atsEnable = true) →
        Yields (.xlateWalkDone inst page l st) s (fun e => w ∉ e.hif.walks ∧ ∀ (o : Nat) (wrt : Bool), o < 4096 → e.xlate inst (4096 * page + o) wrt =
          (if wrt && !wr then .fault 3 else if !wrt && !rd then .fault 2 else .hit (host + (4096 * page + o) % (4096 * 2 ^ k))))) ∧
      (∀ reason, res = .fault reason → w.asked = true → Yields (.xlateWalkDone inst page l st) s (fun e => w ∉ e.hif.walks ∧ e.hif.xl = s.dev.hif.xl ∧ (inst, page, reason) ∈ e.hif.xlFault)))) ∧
  (∀ (s : State) (inst page st : Nat) (l : List Dword), s.dev.hif.walks.find? (fun w => w.inst == inst && w.page == page) = none → Yields (.xlateWalkDone inst page l st) s (fun e => e = s.dev)) ∧
  (∀ (s : State) (inst n page : Nat), s.dev.Live → s.dev.hif.faulted = [] → inst < 4096 → n < 2 ^ 17 → page = s.dev.get F.HIF_XLATE_INV_ADDR_IOVA / 4096 →
    (s.dev.get F.HIF_XLATE_INV_BUSY = 0 → Yields (.xlateInvalidate inst n) s (fun e => e.get F.HIF_XLATE_INV_BUSY = 1 ∧ e.get F.HIF_XLATE_INV_DONE = 0 ∧
      ∀ x, x ∈ e.hif.xl ↔ x ∈ s.dev.hif.xl ∧ ¬(x.inst = inst ∧ (n = 0 ∨ (x.page < page + n ∧ page < x.page + 2 ^ x.log2))))) ∧
    (s.dev.get F.HIF_XLATE_INV_BUSY = 1 → Yields (.xlateInvalidate inst n) s (fun e => e = s.dev))) ∧
  (∀ (s : State), s.dev.get F.HIF_XLATE_INV_BUSY = 1 →
    ((∀ t ∈ s.dev.hif.invTags, ∀ r ∈ s.dev.hif.reads, r.tag = t → r.quarantined = true) → Yields .xlateInvDone s (fun e => e.get F.HIF_XLATE_INV_BUSY = 0 ∧ e.get F.HIF_XLATE_INV_DONE = 1)) ∧
    ((∃ t ∈ s.dev.hif.invTags, ∃ r ∈ s.dev.hif.reads, r.tag = t ∧ r.quarantined = false) → Yields .xlateInvDone s (fun e => e.bus = s.dev.bus))) ∧
  (∀ (s : State) (inst page n : Nat), s.dev.hif.faulted = [] →
    (s.dev.xlMode inst = 2 → (s.dev.fn inst).atsEnable = true → Yields (.atsInvalidateRequest inst page n) s (fun e => (∃ l, (inst, l) ∈ e.hif.atsInv) ∧
      ∀ x, x ∈ e.hif.xl ↔ x ∈ s.dev.hif.xl ∧ ¬(x.inst = inst ∧ (n = 0 ∨ (x.page < page + n ∧ page < x.page + 2 ^ x.log2))))) ∧
    (s.dev.xlMode inst ≠ 2 ∨ (s.dev.fn inst).atsEnable = false → Yields (.atsInvalidateRequest inst page n) s (fun e => e = s.dev))) ∧
  (∀ (s : State) (p : Nat × List Nat), p ∈ s.dev.hif.atsInv → s.dev.tagsEnded p.2 = true → Yields .xlateInvDone s (fun e => .ats 1 p.1 0 ∈ e.out ∧ p ∉ e.hif.atsInv)) ∧
  (∀ (s : State) (i : Nat) (r : Rec), s.dev.IndReady 0x100200 → s.dev.hif.faulted = [] → i < 4096 → r = selvedgeRec (s.dev.winRec 0x100240 64) →
    Yields (.selvedgeRead 0 i) s (fun e => e.IndBusy 0x100200 0 ∧ e.words 0x100240 16 = (s.dev.selvedge i).toNat % 2 ^ 512 ∧ e.hif = s.dev.hif) ∧
    (recGet r ⟨0, 2⟩ = 3 ∨ (recGet r ⟨0, 2⟩ = 0 ∧ i ≠ 0) → Yields (.selvedgeWrite 0 i) s (fun e => e.IndBusy 0x100200 3 ∧ e.hif = s.dev.hif)) ∧
    (recGet r ⟨0, 2⟩ = 1 ∨ recGet r ⟨0, 2⟩ = 2 ∨ (recGet r ⟨0, 2⟩ = 0 ∧ i = 0) →
      (4096 < (s.dev.hif.selvedge.filter (fun p => p.1 != i)).foldl (fun n p => n + pinCount p.2) 0 + pinCount r → Yields (.selvedgeWrite 0 i) s (fun e => e.IndBusy 0x100200 2 ∧ e.hif = s.dev.hif)) ∧
      ((s.dev.hif.selvedge.filter (fun p => p.1 != i)).foldl (fun n p => n + pinCount p.2) 0 + pinCount r ≤ 4096 → Yields (.selvedgeWrite 0 i) s (fun e => e.IndBusy 0x100200 0 ∧
        e.selvedge i = r ∧ ∀ j, j ≠ i → e.selvedge j = s.dev.selvedge j)))) ∧
  (∀ (s : State) (t i : Nat), s.dev.IndReady 0x100200 → s.dev.hif.faulted = [] → t ≠ 0 ∨ 4096 ≤ i → Yields (.selvedgeRead t i) s (fun e => e.IndBusy 0x100200 3 ∧ e.hif = s.dev.hif) ∧
    Yields (.selvedgeWrite t i) s (fun e => e.IndBusy 0x100200 3 ∧ e.hif = s.dev.hif))

/-- R46, R288 to R291 and R305 to R309. -/
def Obligations.HostLinksAndTheHostsConfiguration : Prop :=
  (∀ (s : State) (link sp w : Nat), s.dev.sys.configReady = true → s.dev.hif.faulted = [] → s.dev.hif.waiting = [] → s.dev.hasLink link = true → 1 ≤ sp → sp ≤ 6 → w ∈ ([1, 2, 4, 8] : List Nat) ∨ (w = 16 ∧ s.dev.hif.split = false) →
    Yields (.pcieLinkUp link sp w) s (fun e => e.get (F.HIF_LINK_STATUS_UP link) = 1 ∧ e.get (F.HIF_LINK_STATUS_SPEED link) = sp ∧ e.get (F.HIF_LINK_STATUS_WIDTH link) = w ∧
      e.get (F.LOOM_BOOK_CAP_CAP (12 + 2 * link)) = hostCapacity sp w ∧ e.get (F.LOOM_BOOK_CAP_CAP (13 + 2 * link)) = hostCapacity sp w ∧
      (∀ k < 4, s.dev.linkOf k = link → (s.dev.fn k).state = 0 → (k = 0 ∨ s.dev.boot.running ≠ 2) → (e.fn k).state = 1) ∧ ∀ k, (s.dev.fn k).state ≠ 0 → e.fn k = s.dev.fn k)) ∧
  (∀ (s : State) (link : Nat), s.dev.hif.faulted = [] → s.dev.hasLink link = true → (∀ p ∈ s.dev.shuts, p.2.get S.DEST_PORT ≠ 9 + link) →
    (s.dev.get (F.HIF_LINK_STATUS_UP link) = 1 → Yields (.pcieLinkDown link) s (fun e => e.get (F.HIF_LINK_STATUS_UP link) = 0 ∧ e.get F.HIF_EVENT_LINK_CHANGE = 1 ∧
      e.get (F.LOOM_BOOK_CAP_CAP (12 + 2 * link)) = 0 ∧ e.get (F.LOOM_BOOK_CAP_CAP (13 + 2 * link)) = 0 ∧ e.hif = s.dev.hif)) ∧
    (s.dev.get (F.HIF_LINK_STATUS_UP link) = 0 → Yields (.pcieLinkDown link) s (fun e => e = s.dev))) ∧
  (∀ (s : State) (inst f v : Nat) (i : Instr), i ∈ ([.configRequest inst f v, .busMasterClear inst, .busMasterSet inst, .initiateFlr inst] : List Instr) →
    (s.dev.configRetry inst = true → Yields i s (fun e => e = s.dev.emit .retryStatus)) ∧
    (s.dev.configRetry inst = false → (s.dev.fn inst).state = 0 → Yields i s (fun e => e = s.dev.emit (.unsupported inst)))) ∧
  (∀ (s : State) (inst v : Nat), s.dev.configRetry inst = false → (s.dev.fn inst).state ≠ 0 → s.dev.hif.faulted = [] → s.dev.hif.waiting = [] →
    Yields (.configRequest inst 0 v) s (fun e => ∃ x, e.out = s.dev.out ++ [.readData x] ∧ e.hif = s.dev.hif) ∧
    (v ∈ ([128, 256, 512, 1024, 2048, 4096] : List Nat) → Yields (.configRequest inst 1 v) s (fun e => e.fn inst = { s.dev.fn inst with maxRead := v } ∧ ∀ j, j ≠ inst → e.fn j = s.dev.fn j)) ∧
    Yields (.configRequest inst 6 v) s (fun e => e.fn inst = { s.dev.fn inst with relaxed := v % 2 == 1 } ∧ ∀ j, j ≠ inst → e.fn j = s.dev.fn j) ∧
    (v ∈ ([128, 256, 512] : List Nat) → Yields (.configRequest inst 7 v) s (fun e => e.fn inst = { s.dev.fn inst with maxPayload := v } ∧ ∀ j, j ≠ inst → e.fn j = s.dev.fn j)) ∧
    Yields (.configRequest inst 2 v) s (fun e => e.fn inst = { s.dev.fn inst with atsEnable := v % 2 == 1 } ∧ ∀ j, j ≠ inst → e.fn j = s.dev.fn j) ∧
    (s.dev.linkOf inst < s.dev.hif.links.length →
      Yields (.configRequest inst 3 v) s (fun e => (e.hif.links.getD (s.dev.linkOf inst) {}).tagExt14 = (v % 2 == 1) ∧ e.hif.fns = s.dev.hif.fns) ∧
      Yields (.configRequest inst 4 v) s (fun e => (e.hif.links.getD (s.dev.linkOf inst) {}).tagExt10 = (v % 2 == 1) ∧ e.hif.fns = s.dev.hif.fns)) ∧
    (1 ≤ inst → inst ≤ 3 → s.dev.hif.vfEnable.getD (inst - 1) false = false → v ≤ s.dev.hif.totalVfs.getD (inst - 1) 0 →
      Yields (.configRequest inst 5 v) s (fun e => e.hif.numVfs = s.dev.hif.numVfs.set (inst - 1) v ∧ e.hif.fns = s.dev.hif.fns)) ∧
    ((s.dev.fn inst).bme = true → s.dev.FnStill inst → Yields (.busMasterClear inst) s (fun e => e.fn inst = { s.dev.fn inst with bme := false } ∧
      (∀ r ∈ s.dev.ringsOf inst, (s.dev.ring r).state = 1 → (e.ring r).state = 2 ∧ (e.ring r).cause = 3) ∧ ∀ r ∈ e.hif.reads, r.inst = inst → r.killed = true)) ∧
    ((s.dev.fn inst).bme = false → Yields (.busMasterSet inst) s (fun e => e.fn inst = { s.dev.fn inst with bme := true } ∧ e.rings = s.dev.rings ∧
      (e.mayRequest inst = true → mapGet e.hif.pending inst = none ∧ ∀ v ∈ mapGetD s.dev.hif.pending inst [], .msix inst v ∈ e.out))) ∧
    (s.dev.hif.op = none → (∀ j ∈ inst :: (if inst < 4 then s.dev.vfsOf inst else []), s.dev.FnStill j) → Yields (.initiateFlr inst) s (fun e =>
      (e.fn inst).state = 9 ∧ (e.fn inst).flr = true ∧ (e.fn inst).teardown = false ∧ (∀ r ∈ e.hif.reads, r.inst = inst → r.killed = true) ∧
      (inst < 4 → ∀ j ∈ s.dev.vfsOf inst, (s.dev.fn j).state ≠ 0 → (e.fn j).state = 9 ∧ (e.fn j).teardown = true)))) ∧
  (∀ (s : State) (inst : Nat), s.dev.hif.faulted = [] → (s.dev.fn inst).state = 9 →
    Yields (.flrQuarantine inst) s (fun e => (∀ r ∈ e.hif.reads, r.inst = inst → r.quarantined = true) ∧ e.hif.reads.length = s.dev.hif.reads.length ∧ e.hif.fns = s.dev.hif.fns) ∧
    ((s.dev.fn inst).flr = true → (s.dev.fn inst).teardown = false →
      ((∀ j ∈ s.dev.flrSet inst, s.dev.readsEnded j = true) → Yields (.flrComplete inst) s (fun e => e.fn inst = { state := 1 } ∧ ∀ x ∈ e.hif.xl, x.inst ≠ inst)) ∧
      (s.dev.readsEnded inst = false → Yields (.flrComplete inst) s (fun e => e = s.dev)))) ∧
  (∀ (s : State) (inst : Nat), (s.dev.fn inst).state ≠ 9 → Yields (.flrQuarantine inst) s (fun e => e = s.dev) ∧ Yields (.flrComplete inst) s (fun e => e = s.dev)) ∧
  (∀ (s : State) (pf n : Nat), 1 ≤ pf → pf ≤ 3 → s.dev.configRetry pf = false → (∀ v ∈ s.dev.vfsOf pf, (s.dev.fn v).state ≠ 9) → pf ≤ s.dev.hif.numVfs.length →
    (n ≤ s.dev.hif.totalVfs.getD (pf - 1) 0 → (s.dev.fn pf).state ≠ 0 → (s.dev.hif.vfEnable.getD (pf - 1) false = true → (s.dev.vfsOf pf).length ≤ n) →
      Yields (.vfEnableSet pf n) s (fun e => e.hif.numVfs = s.dev.hif.numVfs.set (pf - 1) n ∧ e.hif.vfEnable = s.dev.hif.vfEnable.set (pf - 1) true ∧
        ∀ j < n, (s.dev.fn (s.dev.vfTag pf (j + 1))).state = 0 → e.fn (s.dev.vfTag pf (j + 1)) = { state := 1 })) ∧
    (s.dev.hif.faulted = [] → ∀ l, l = (s.dev.vfsOf pf).drop n →
      ((∃ v ∈ l, (s.dev.fn v).state ≠ 3 ∧ (s.dev.fn v).state ≠ 0) → Yields (.vfEnableClear pf n) s (fun e => e.get F.HIF_EVENT_REMOVE_REFUSED = 1 ∧ e.hif.fns = s.dev.hif.fns ∧ e.hif.numVfs = s.dev.hif.numVfs)) ∧
      ((∀ v ∈ l, (s.dev.fn v).state = 3 ∧ s.dev.FnStill v) → s.dev.hif.op = none → Yields (.vfEnableClear pf n) s (fun e => ∀ v ∈ l, (e.fn v).state = 9 ∧ (e.fn v).teardown = true)) ∧
      (l ≠ [] → (∀ v ∈ l, (s.dev.fn v).state = 0) → Yields (.vfEnableClear pf n) s (fun e => e.hif.numVfs = s.dev.hif.numVfs.set (pf - 1) n ∧ e.hif.fns = s.dev.hif.fns))))

/-- R305, R310, R312, and Tables 7 and 10. -/
def Obligations.ManagersStopAndStartFunctions : Prop :=
  (∀ (s : State) (inst : Nat), s.dev.FnReady → inst < 4096 →
    ((s.dev.fn inst).state ≠ 1 → Yields (.quiesce inst) s (fun e => e.FnEnded 1 ∧ e.hif.fns = s.dev.hif.fns) ∧ Yields (.freeze inst) s (fun e => e.FnEnded 1 ∧ e.hif.fns = s.dev.hif.fns)) ∧
    ((s.dev.fn inst).state ≠ 3 → Yields (.fnReset inst) s (fun e => e.FnEnded 1 ∧ e.hif.fns = s.dev.hif.fns)) ∧
    ((s.dev.fn inst).state ∉ ([3, 5, 7] : List Nat) → Yields (.fnResume inst) s (fun e => e.FnEnded 1 ∧ e.hif.fns = s.dev.hif.fns)) ∧
    ((s.dev.fn inst).state = 1 →
      Yields (.quiesce inst) s (fun e => e.fn inst = { s.dev.fn inst with state := 2, drained := false } ∧ (∀ j, j ≠ inst → e.fn j = s.dev.fn j) ∧ e.get F.HIF_FN_STATUS_BUSY = 1 ∧ e.hif.op = some (1, inst) ∧
        ∀ k < 8, s.dev.sh (F.LEDG_STREAM_CFG_INSTANCE k) = inst → e.get (F.LEDG_STREAM_CFG_EXPORT k) = 0) ∧
      Yields (.freeze inst) s (fun e => e.fn inst = { s.dev.fn inst with state := 4, drained := false } ∧ (∀ j, j ≠ inst → e.fn j = s.dev.fn j) ∧ e.get F.HIF_FN_STATUS_BUSY = 1 ∧ e.hif.op = some (4, inst) ∧
        ∀ k < 8, s.dev.sh (F.LEDG_STREAM_CFG_INSTANCE k) = inst → e.get (F.LEDG_STREAM_CFG_EXPORT k) = 0)) ∧
    ((s.dev.fn inst).state ∈ ([3, 5, 7] : List Nat) → Yields (.fnResume inst) s (fun e => e.FnEnded 0 ∧ e.fn inst = { s.dev.fn inst with state := 1 } ∧ ∀ j, j ≠ inst → e.fn j = s.dev.fn j)) ∧
    ((s.dev.fn inst).state = 3 → s.dev.FnStill inst → Yields (.fnReset inst) s (fun e => (e.fn inst).state = 9 ∧ (e.fn inst).flr = false ∧ (e.fn inst).teardown = false ∧
      e.get F.HIF_FN_STATUS_BUSY = 1 ∧ ∀ r ∈ e.hif.reads, r.inst = inst → r.killed = true))) ∧
  (∀ (s : State) (inst : Nat), s.dev.get F.HIF_FN_STATUS_BUSY = 1 → s.dev.hif.faulted = [] → Yields (.quiesce inst) s (fun e => e.hif = s.dev.hif ∧ e.bus = s.dev.bus) ∧ Yields (.fnResume inst) s (fun e => e.hif = s.dev.hif ∧ e.bus = s.dev.bus)) ∧
  (∀ (s : State) (inst op : Nat), s.dev.hif.faulted = [] → s.dev.hif.op = some (op, inst) → op ≠ 5 → op ≠ 6 →
    ((s.dev.fn inst).state = 2 ∨ (s.dev.fn inst).state = 4 → s.dev.busyFn inst = false → ∀ i, i = .fnDrained inst ∨ (i = .quiesceLimitExpire inst ∧ (s.dev.fn inst).state = 2) ∨
      (i = .freezeLimitExpire inst ∧ (s.dev.fn inst).state = 4) → Yields i s (fun e => e.FnEnded 0 ∧ (e.fn inst).drained = true ∧
        (e.fn inst).state = (if (s.dev.fn inst).state = 2 then 3 else 5) ∧ ∀ j, j ≠ inst → e.fn j = s.dev.fn j)) ∧
    (s.dev.busyFn inst = true → s.dev.txWork inst = [] → s.dev.hostBound inst = [] →
      ((s.dev.fn inst).state = 2 → Yields (.quiesceLimitExpire inst) s (fun e => e.FnEnded 0 ∧ (e.fn inst).drained = false ∧ (e.fn inst).state = 3)) ∧
      ((s.dev.fn inst).state = 4 → Yields (.freezeLimitExpire inst) s (fun e => e.FnEnded 0 ∧ (e.fn inst).drained = false ∧ (e.fn inst).state = 5))) ∧
    ((s.dev.fn inst).state = 9 → (s.dev.fn inst).flr = false → s.dev.readsEnded inst = true →
      ((s.dev.fn inst).teardown = false → Yields (.fnResetDone inst) s (fun e => e.fn inst = { s.dev.fn inst with state := 1 } ∧ e.FnEnded 0 ∧ ∀ x ∈ e.hif.xl, x.inst ≠ inst)) ∧
      ((s.dev.fn inst).teardown = true → Yields (.fnResetDone inst) s (fun e => e.fn inst = {} ∧ ∀ x ∈ e.hif.xl, x.inst ≠ inst)))) ∧
  (∀ (s : State) (inst : Nat),
    (s.dev.busyFn inst = true ∨ s.dev.draining inst = false → Yields (.fnDrained inst) s (fun e => e = s.dev)) ∧
    ((s.dev.fn inst).state ≠ 2 → Yields (.quiesceLimitExpire inst) s (fun e => e = s.dev)) ∧ ((s.dev.fn inst).state ≠ 4 → Yields (.freezeLimitExpire inst) s (fun e => e = s.dev)) ∧
    ((s.dev.fn inst).state ≠ 9 ∨ s.dev.readsEnded inst = false → Yields (.fnResetDone inst) s (fun e => e = s.dev)))

/-- R293, R294, R298, R299, R311, R315 and R366. -/
def Obligations.PeerWindowAndDirtyLogging : Prop :=
  (∀ (s : State) (off len a row : Nat), s.dev.peerOn = true →
    (off + len ≤ s.dev.hif.peerSize → s.dev.hif.peerRd = true → Yields (.peerWindowRead off len 0 a row) s (fun e => e.dram.wq = s.dev.dram.wq ∧ e.hif = s.dev.hif ∧
      ∃ bad, e.out = s.dev.out ++ [.peerData ((List.range len).map (fun k => s.byte (s.dev.hif.peerBase + off + k))) bad])) ∧
    (s.dev.hif.peerSize < off + len ∨ s.dev.hif.peerRd = false → ∀ err, Yields (.peerWindowRead off len err a row) s (fun e => e.out = s.dev.out ++ [.unsupported off] ∧ e.dram = s.dev.dram ∧
      e.ctr K.HIF_PEER_UR = (s.dev.ctr K.HIF_PEER_UR + 1) % 2 ^ 64))) ∧
  (∀ (s : State) (off : Nat) (b : List Byte) (p : Bool),
    (s.dev.peerOn = true → off + b.length ≤ s.dev.hif.peerSize → s.dev.hif.peerWr = true → Yields (.peerWindowWrite off b p) s (fun e =>
      (∀ k < b.length, ({ s with dev := e } : State).byte (s.dev.hif.peerBase + off + k) = b.getD k 0) ∧
      (∀ x, x < s.dev.hif.peerBase + off ∨ s.dev.hif.peerBase + off + b.length ≤ x → ({ s with dev := e } : State).byte x = s.byte x) ∧ e.out = s.dev.out ∧
      (p = true → ∀ k < b.length, (s.dev.hif.peerBase + off + k) / 8 ∈ e.dram.poison))) ∧
    (s.dev.peerOn = false ∨ s.dev.hif.peerSize < off + b.length ∨ s.dev.hif.peerWr = false → Yields (.peerWindowWrite off b p) s (fun e => e.dram = s.dev.dram ∧
      e.out = s.dev.out ++ [.unsupported off] ∧ e.ctr K.HIF_PEER_UR = (s.dev.ctr K.HIF_PEER_UR + 1) % 2 ^ 64))) ∧
  (∀ (s : State) (k b : Nat), s.dev.Live → k = s.dev.get F.HIF_PEER_CFG_SIZE_LOG2 → b = s.dev.get F.HIF_PEER_BASE_BASE →
    (s.dev.get F.HIF_PEER_CTRL_DRAINED = 0 → Yields .peerCommit s (fun e => e.get F.HIF_PEER_CTRL_COMMIT_IGNORED = 1 ∧ e.hif = s.dev.hif)) ∧
    (s.dev.get F.HIF_PEER_CTRL_DRAINED = 1 →
      (20 ≤ k → k ≤ 34 → b % 2 ^ k = 0 → s.dev.hif.peerAreaBase ≤ b → b + 2 ^ k ≤ s.dev.hif.peerAreaBase + s.dev.hif.peerAreaSize → Yields .peerCommit s (fun e =>
        e.hif.peerBase = b ∧ e.hif.peerSize = 2 ^ k ∧ e.hif.peerRd = (s.dev.get F.HIF_PEER_CFG_RD_EN == 1) ∧ e.hif.peerWr = (s.dev.get F.HIF_PEER_CFG_WR_EN == 1) ∧
        e.get F.HIF_PEER_CTRL_RANGE = 0 ∧ e.get F.HIF_PEER_CTRL_DRAINED = 0 ∧ e.get F.HIF_PEER_CTRL_GEN = (s.dev.get F.HIF_PEER_CTRL_GEN + 1) % 256)) ∧
      (k < 20 ∨ 34 < k ∨ b % 2 ^ k ≠ 0 ∨ b < s.dev.hif.peerAreaBase ∨ s.dev.hif.peerAreaBase + s.dev.hif.peerAreaSize < b + 2 ^ k → Yields .peerCommit s (fun e =>
        e.get F.HIF_PEER_CTRL_RANGE = 1 ∧ e.hif = s.dev.hif ∧ e.get F.HIF_PEER_CTRL_GEN = s.dev.get F.HIF_PEER_CTRL_GEN)))) ∧
  (∀ s : State, Yields .peerDrained s (fun e => e.get F.HIF_PEER_CTRL_DRAINED = 1 ∧ e.hif = s.dev.hif)) ∧
  (∀ (s : State) (k base : Nat) (x : Dirty), k < 4 → s.dev.Live → s.dev.hif.faulted = [] → x = mapGetD s.dev.hif.dirty k {} →
    base = (if s.dev.get (F.HIF_DIRTY_CFG_ACTIVE_BMP k) = 0 then s.dev.get (F.HIF_DIRTY_BMP0_ADDR k) else s.dev.get (F.HIF_DIRTY_BMP1_ADDR k)) →
    Yields (.dirtySwap k) s (fun e => e.get (F.HIF_DIRTY_CFG_ACTIVE_BMP k) = 1 - s.dev.get (F.HIF_DIRTY_CFG_ACTIVE_BMP k) ∧ e.get (F.HIF_DIRTY_CFG_SWAP_DONE k) = 0 ∧
      (mapGetD e.hif.dirty k {}).old = x.words ∧ (mapGetD e.hif.dirty k {}).swapping = true ∧
      (base % 8 = 0 → s.dev.hif.waiting = [] → s.dev.mayRequest 0 = true → s.dev.xlMode 0 = 0 → ∀ p ∈ x.words, .hostWrite (s.dev.linkOf 0) 0 (base + 8 * p.1) (leBytes 8 p.2) false false ∈ e.out))) ∧
  (∀ (s : State) (k : Nat) (x : Dirty), x = mapGetD s.dev.hif.dirty k {} →
    (k < 4 → x.swapping = true → (∀ o ∈ s.dev.hif.waiting, o.use ≠ .dirty k) → Yields (.swapDone k) s (fun e => e.get (F.HIF_DIRTY_CFG_SWAP_DONE k) = 1 ∧
      (mapGetD e.hif.dirty k {}) = { x with old := [], swapping := false })) ∧
    (x.swapping = false ∨ (∃ o ∈ s.dev.hif.waiting, o.use = .dirty k) → Yields (.swapDone k) s (fun e => e = s.dev))) ∧
  (∀ (s : State) (off : Nat) (v : Word), s.dev.Live → off < 32 → off % 4 = 0 → s.dev.hif.migKey.length = 32 →
    Yields (.migKeyWrite off v) s (fun e => sliceBytes e.hif.migKey off 4 = leBytes 4 v.toNat ∧ (∀ k, k < off ∨ off + 4 ≤ k → byteN e.hif.migKey k = byteN s.dev.hif.migKey k) ∧
      e.hif.migLoaded = true ∧ e.bus = s.dev.bus ∧ e.out = s.dev.out))

/-- R311 to R314, R421, R422, and Tables 9 and 10. The layout inside the blob is the choice of assumption log 36. -/
def Obligations.FunctionsMigrate : Prop :=
  (∀ (s : State) (inst : Nat), s.dev.FnReady → s.dev.NoSwapDue → inst < 4096 →
    ((s.dev.fn inst).state ≠ 5 → Yields (.save inst) s (fun e => e.FnEnded 1 ∧ e.hif.fns = s.dev.hif.fns)) ∧
    ((s.dev.fn inst).state ≠ 3 → Yields (.restore inst) s (fun e => e.FnEnded 1 ∧ e.hif.fns = s.dev.hif.fns)) ∧
    ((s.dev.fn inst).state ≠ 7 → Yields (.fnRelease inst) s (fun e => e.FnEnded 1 ∧ e.hif.fns = s.dev.hif.fns)) ∧
    ((s.dev.fn inst).state = 5 →
      (s.dev.get F.LOOM_COMMIT_STATUS_STATE = 1 → Yields (.save inst) s (fun e => e.FnEnded 2 ∧ e.hif.fns = s.dev.hif.fns)) ∧
      (s.dev.get F.LOOM_COMMIT_STATUS_STATE ≠ 1 →
        (s.dev.hif.migLoaded = false → Yields (.save inst) s (fun e => e.FnEnded 8 ∧ e.hif.fns = s.dev.hif.fns)) ∧
        (∀ b, s.dev.hif.migLoaded = true → b = s.dev.blobOf inst (leBytes 8 (Config.freeValue s.dev.free).toNat ++ leBytes 4 (Config.freeValue (s.dev.free + 1)).toNat) →
          (s.dev.get F.HIF_FN_LEN_LEN < b.length → Yields (.save inst) s (fun e => e.FnEnded 6 ∧ e.hif.fns = s.dev.hif.fns)) ∧
          (b.length ≤ s.dev.get F.HIF_FN_LEN_LEN → s.dev.mayRequest 0 = false → Yields (.save inst) s (fun e => e.FnEnded 7 ∧ e.hif.fns = s.dev.hif.fns)) ∧
          (b.length ≤ s.dev.get F.HIF_FN_LEN_LEN → s.dev.mayRequest 0 = true → s.dev.get F.CIPH_STATUS_DRBG_READY = 1 → Yields (.save inst) s (fun e =>
            e.get F.HIF_FN_STATUS_BUSY = 1 ∧ e.hif.op = some (5, inst) ∧ e.hif.nonceDue = false ∧
            e.hif.blob = b ∧ e.fn inst = { s.dev.fn inst with state := 6 } ∧ ∀ j, j ≠ inst → e.fn j = s.dev.fn j)) ∧
          (b.length ≤ s.dev.get F.HIF_FN_LEN_LEN → s.dev.mayRequest 0 = true → s.dev.get F.CIPH_STATUS_DRBG_READY = 0 → Yields (.save inst) s (fun e =>
            e.get F.HIF_FN_STATUS_BUSY = 1 ∧ e.hif.op = some (5, inst) ∧ e.hif.nonceDue = true ∧ e.fn inst = { s.dev.fn inst with state := 6 } ∧ e.out = s.dev.out))))) ∧
    ((s.dev.fn inst).state = 3 →
      (s.dev.get F.HED_SHADOW_STATUS_CHANGED = 1 ∨ s.dev.get F.LOOM_COMMIT_STATUS_STATE = 1 → Yields (.restore inst) s (fun e => e.FnEnded 2 ∧ e.hif.fns = s.dev.hif.fns)) ∧
      (s.dev.get F.HED_SHADOW_STATUS_CHANGED = 0 → s.dev.get F.LOOM_COMMIT_STATUS_STATE ≠ 1 →
        (s.dev.hif.migLoaded = false → Yields (.restore inst) s (fun e => e.FnEnded 8 ∧ e.hif.fns = s.dev.hif.fns)) ∧
        (s.dev.hif.migLoaded = true → s.dev.mayRequest 0 = true → Yields (.restore inst) s (fun e => e.get F.HIF_FN_STATUS_BUSY = 1 ∧ e.hif.op = some (6, inst) ∧
          e.fn inst = { s.dev.fn inst with state := 8 } ∧ ∀ j, j ≠ inst → e.fn j = s.dev.fn j)))) ∧
    ((s.dev.fn inst).state = 7 → Yields (.fnRelease inst) s (fun e => e.FnEnded 0 ∧ e.fn inst = { s.dev.fn inst with state := 3 } ∧ e.selvedge inst = 1 ∧
      (∀ x ∈ e.hif.xl, x.inst ≠ inst) ∧ (∀ r ∈ s.dev.cfg.active.fnRings inst, e.ring r = {}) ∧
      (s.dev.get F.LOOM_COMMIT_STATUS_STATE = 1 → inst ∈ e.hif.releaseDue ∧ e.cfg = s.dev.cfg)))) ∧
  (∀ (s : State) (inst : Nat), s.dev.Live → s.dev.get F.CIPH_STATUS_DRBG_READY = 0 → s.dev.hif.op = some (5, inst) → (s.dev.fn inst).state = 6 → s.dev.hif.nonceDue = true →
    Yields (.saveDone inst) s (fun e => e = s.dev) ∧ Yields (.entropyRetest true) s (fun e => e.hif.nonceDue = false ∧
      e.hif.blob = s.dev.blobOf inst (leBytes 8 (Config.freeValue s.dev.free).toNat ++ leBytes 4 (Config.freeValue (s.dev.free + 1)).toNat))) ∧
  (∀ (s : State) (inst : Nat), s.dev.hif.op = some (5, inst) → (s.dev.fn inst).state = 6 → s.dev.hif.nonceDue = false → s.dev.blobBusy = false → s.dev.NoSwapDue →
    (s.dev.hif.faulted = [] → Yields (.saveDone inst) s (fun e => e.FnEnded 0 ∧ e.fn inst = { s.dev.fn inst with state := 7 } ∧ e.get F.HIF_FN_LEN_LEN = s.dev.hif.blob.length % 2 ^ 32 ∧
      ∀ k a, k ∈ s.dev.cfg.active.fnSas inst → mapGet s.dev.ciph.sas k = some a → a.state = SaS.active → recGet a.record SAR.DIR = 1 → ∀ b, mapGet e.ciph.sas k = some b → b.state = SaS.retired)) ∧
    (∀ o, s.dev.hif.faulted = [.blob o] → Yields (.saveDone inst) s (fun e => e.FnEnded 7 ∧ e.fn inst = { s.dev.fn inst with state := 5 }))) ∧
  (∀ (s : State) (inst : Nat), s.dev.hif.op ≠ some (5, inst) ∨ s.dev.blobBusy = true → Yields (.saveDone inst) s (fun e => e = s.dev)) ∧
  (∀ (s : State) (inst : Nat), s.dev.hif.op ≠ some (6, inst) ∨ s.dev.blobBusy = true → Yields (.restoreDone inst) s (fun e => e = s.dev)) ∧
  (∀ (s : State) (inst : Nat), s.dev.hif.op = some (6, inst) → (s.dev.fn inst).state = 8 → s.dev.blobBusy = false → s.dev.hif.faulted = [] →
    (∀ code, s.dev.hif.restore = none → s.dev.NoSwapDue → openBlob s.dev.hif.migKey inst s.dev.hif.blob = .error code → code < 16 →
      Yields (.restoreDone inst) s (fun e => e.FnEnded code ∧ e.fn inst = { s.dev.fn inst with state := 3 } ∧ e.cfg = s.dev.cfg)) ∧
    (∀ x, s.dev.hif.restore = some x →
      (s.dev.get F.LOOM_COMMIT_STATUS_STATE = 1 → Yields (.restoreDone inst) s (fun e => e = s.dev)) ∧
      (s.dev.get F.LOOM_COMMIT_STATUS_STATE = 2 → Yields (.restoreDone inst) s (fun e => e.FnEnded 0 ∧ e.fn inst = { s.dev.fn inst with state := 5 } ∧ e.selvedge inst = x.selvedge)) ∧
      (s.dev.get F.LOOM_COMMIT_STATUS_STATE = 3 → Yields (.restoreDone inst) s (fun e => e.FnEnded 3 ∧ e.fn inst = { s.dev.fn inst with state := 3 } ∧ ∀ k ∈ x.sas, mapGet e.ciph.sas k = none))))

/-- R325, R326, R329 to R332, R335, R338 to R340, Table 8, and R298. -/
def Obligations.RingsTakeDoorbellsAndPushes : Prop :=
  (∀ (s : State) (inst page k l t fine : Nat) (a sg : Bool) (i : Instr), s.dev.sys.ready = true →
    i ∈ ([.doorbellProducer inst page k l ⟨sg, fine⟩ false, .ringInvalidate inst page t sg false, .ringResetDoorbell inst page t sg false, .doorbellConsumer inst page k l a sg false] : List Instr) →
    s.dev.ringAt inst page = none → Yields i s (fun e => e.ctr K.RING_BAD_DOORBELL = (s.dev.ctr K.RING_BAD_DOORBELL + 1) % 2 ^ 64 ∧ e.get F.RING_EVENT_BAD_DOORBELL = 1 ∧ e.rings = s.dev.rings)) ∧
  (∀ (s : State) (inst page k l t fine : Nat) (a sg : Bool) (i : Instr), s.dev.sys.ready = true →
    i ∈ ([.doorbellProducer inst page k l ⟨sg, fine⟩ true, .ringInvalidate inst page t sg true, .ringResetDoorbell inst page t sg true, .doorbellConsumer inst page k l a sg true] : List Instr) →
    Yields i s (fun e => e.ctr K.HIF_POISON_RX = (s.dev.ctr K.HIF_POISON_RX + 1) % 2 ^ 64 ∧ e.rings = s.dev.rings ∧ e.out = s.dev.out)) ∧
  (∀ (s : State) (inst page k l t r fine : Nat) (sg : Bool) (x : RingSt), s.dev.sys.ready = true → s.dev.hif.faulted = [] → s.dev.ringAt inst page = some r → x = s.dev.ring r →
    (∀ pos, k < 65536 → l < 2 → pos = s.dev.posOf r k l →
      (sg = true → (s.dev.rcf r RC.KIND = 1 ∨ (s.dev.rcf r RC.KIND = 0 ∧ s.dev.rcf r RC.FEED = 0)) → k < s.dev.ringSize r → s.dev.ahead r x.take pos ≤ s.dev.ringSize r →
        (pos ≠ x.producer → Yields (.doorbellProducer inst page k l ⟨sg, fine⟩ false) s (fun e =>
          e.ring r = { x with producer := pos, stopped := false, doorbells := x.doorbells ++ [(pos, s.dev.hostStampAt fine)] } ∧ (∀ q, q ≠ r → e.ring q = s.dev.ring q) ∧ e.bus = s.dev.bus)) ∧
        (pos = x.producer → Yields (.doorbellProducer inst page k l ⟨sg, fine⟩ false) s (fun e => e = s.dev))) ∧
      (sg = false ∨ s.dev.rcf r RC.KIND = 2 ∨ s.dev.rcf r RC.FEED = 1 ∧ s.dev.rcf r RC.KIND = 0 ∨ s.dev.ringSize r ≤ k ∨ s.dev.ringSize r < s.dev.ahead r x.take pos →
        Yields (.doorbellProducer inst page k l ⟨sg, fine⟩ false) s (fun e => e.rings = s.dev.rings ∧ e.get F.RING_EVENT_BAD_DOORBELL = 1)) ∧
      (∀ arm step, s.dev.rcf r RC.KIND = 2 → step = s.dev.ahead r x.consumer pos →
        (sg = true → k < s.dev.ringSize r → step ≤ s.dev.ahead r x.consumer x.reserved → Yields (.doorbellConsumer inst page k l arm sg false) s (fun e =>
          (e.ring r).consumer = pos ∧ (∀ q, q ≠ r → e.ring q = s.dev.ring q) ∧ (e.ring r).unread = x.unread.filter (fun p => decide (step ≤ s.dev.ahead r x.consumer p.1)) ∧
          (arm = false → (e.ring r).armed = x.armed) ∧
          (arm = true → (∀ p q, (e.ring r).unread = p :: q → s.dev.rcf r RC.MOD_CNT ≤ q.length + 1 ∨ (0 < s.dev.rcf r RC.MOD_US ∧ p.2 + 1200 * s.dev.rcf r RC.MOD_US ≤ s.dev.time.cycles) → (e.ring r).armed = false ∧
              (s.dev.mayRequest (s.dev.rcf r RC.INSTANCE) = true → .msix (s.dev.rcf r RC.INSTANCE) (s.dev.rcf r RC.VECTOR) ∈ e.out)) ∧
            ((∀ p q, (e.ring r).unread = p :: q → q.length + 1 < s.dev.rcf r RC.MOD_CNT ∧ (s.dev.rcf r RC.MOD_US = 0 ∨ s.dev.time.cycles < p.2 + 1200 * s.dev.rcf r RC.MOD_US)) → (e.ring r).armed = true)))) ∧
        (sg = false ∨ s.dev.ringSize r ≤ k ∨ s.dev.ahead r x.consumer x.reserved < step → Yields (.doorbellConsumer inst page k l arm sg false) s (fun e =>
          e.rings = s.dev.rings ∧ e.get F.RING_EVENT_BAD_DOORBELL = 1)))) ∧
    (sg = true → s.dev.rcf r RC.KIND ≠ 2 → t < 65536 →
      (s.dev.rcf r RC.MIRROR = 0 →
        Yields (.ringInvalidate inst page t sg false) s (fun e => e.ctr K.RING_INVALIDATES = (s.dev.ctr K.RING_INVALIDATES + 1) % 2 ^ 64 ∧ (∀ q, q ≠ r → e.ring q = s.dev.ring q) ∧
          e.ring r = (if s.dev.rcf r RC.MODE = 1 ∧ s.dev.rcf r RC.FEED = 0 then { x with token := t, cached := [], fetch := x.take, stopped := false } else { x with token := t })) ∧
        (x.state = 1 ∨ x.state = 2 → Yields (.ringResetDoorbell inst page t sg false) s (fun e => e.ring r = { x with token := t, cached := [], pushes := [], state := 3, cause := 0 } ∧
          ∀ q, q ≠ r → e.ring q = s.dev.ring q)) ∧
        (x.state = 0 ∨ x.state = 3 → Yields (.ringResetDoorbell inst page t sg false) s (fun e => e.ring r = { x with token := t } ∧ ∀ q, q ≠ r → e.ring q = s.dev.ring q))) ∧
      (∀ m, m = s.dev.rcf r RC.MIRROR → m ≠ 0 → m % 4096 ≤ 4088 → s.dev.hif.waiting = [] → s.dev.mayRequest (s.dev.rcf r RC.INSTANCE) = true → ∀ host, s.dev.xlate (s.dev.rcf r RC.INSTANCE) m true = .hit host →
        Yields (.ringInvalidate inst page t sg false) s (fun e => ∃ b, .hostWrite (s.dev.linkOf (s.dev.rcf r RC.INSTANCE)) (s.dev.rcf r RC.INSTANCE) host b false false ∈ e.out ∧ b.length = 8 ∧
          leNat (sliceBytes b 4 2) = t ∧ leNat (b.take 4) = s.dev.posField r (if s.dev.rcf r RC.KIND = 0 ∧ s.dev.rcf r RC.FEED = 1 then x.producer else if s.dev.rcf r RC.MODE = 1 ∧ s.dev.rcf r RC.FEED = 0 then x.take else x.fetch) % 2 ^ 32))) ∧
    (sg = false ∨ s.dev.rcf r RC.KIND = 2 → Yields (.ringInvalidate inst page t sg false) s (fun e => e.rings = s.dev.rings ∧ e.get F.RING_EVENT_BAD_DOORBELL = 1) ∧
      Yields (.ringResetDoorbell inst page t sg false) s (fun e => e.rings = s.dev.rings ∧ e.get F.RING_EVENT_BAD_DOORBELL = 1))) ∧
  (∀ (s : State) (r : Nat),
    ((s.dev.ring r).armed = true → (s.dev.ring r).unread ≠ [] → 0 < s.dev.rcf r RC.MOD_US → Yields (.interruptModTimer r) s (fun e => e.ring r = { s.dev.ring r with armed := false } ∧
      (s.dev.mayRequest (s.dev.rcf r RC.INSTANCE) = true → e.out = s.dev.out ++ [.msix (s.dev.rcf r RC.INSTANCE) (s.dev.rcf r RC.VECTOR)] ∧
        e.ctr K.RING_MSIX_SENT = (s.dev.ctr K.RING_MSIX_SENT + 1) % 2 ^ 64) ∧
      (s.dev.mayRequest (s.dev.rcf r RC.INSTANCE) = false → e.out = s.dev.out ∧ s.dev.rcf r RC.VECTOR ∈ mapGetD e.hif.pending (s.dev.rcf r RC.INSTANCE) []))) ∧
    ((s.dev.ring r).armed = false ∨ (s.dev.ring r).unread = [] ∨ s.dev.rcf r RC.MOD_US = 0 → Yields (.interruptModTimer r) s (fun e => e = s.dev))) ∧
  (∀ (s : State) (inst page off r fine : Nat) (b : List Byte) (x : RingSt), s.dev.sys.ready = true → s.dev.hif.faulted = [] → s.dev.ringAt inst page = some r → x = s.dev.ring r →
    (s.dev.rcf r RC.KIND ≠ 0 ∨ s.dev.rcf r RC.FEED ≠ 1 → Yields (.inlinePush inst page off b ⟨true, fine⟩ false) s (fun e => e.rings = s.dev.rings ∧ e.get F.RING_EVENT_BAD_DOORBELL = 1)) ∧
    (s.dev.rcf r RC.KIND = 0 → s.dev.rcf r RC.FEED = 1 → x.state = 1 → off % 512 = 0 → 0x800 ≤ off → off ≤ 0xE00 → 64 ≤ b.length → b.length ≤ 512 → s.dev.rcf r RC.MIRROR = 0 →
      (descN b 32 2 ≠ s.dev.indexOf r x.producer → Yields (.inlinePush inst page off b ⟨true, fine⟩ false) s (fun e => (e.ring r).state = 2 ∧ (e.ring r).cause = 4 ∧ (e.ring r).pushes = x.pushes)) ∧
      (descN b 32 2 = s.dev.indexOf r x.producer →
        (pushOk b = true → x.pushes.length < s.dev.rcf r RC.PUSH_DEPTH → s.dev.mayReceive inst = true → Yields (.inlinePush inst page off b ⟨true, fine⟩ false) s (fun e =>
          e.ring r = { x with producer := s.dev.advance r x.producer 1, pushes := x.pushes ++ [⟨x.producer, b.take 32, b.drop 64, s.dev.hostStampAt fine⟩] } ∧ e.bus = s.dev.bus)) ∧
        (pushOk b = false → s.dev.rcf r RC.CPL_RING ≠ r → s.dev.cplFree (s.dev.rcf r RC.CPL_RING) < s.dev.cplEntries r → Yields (.inlinePush inst page off b ⟨true, fine⟩ false) s (fun e =>
          (e.ring r).state = 2 ∧ (e.ring r).cause = 5 ∧ (e.ring r).pushes = x.pushes ∧ e.get F.RING_EVENT_PUSH_LOST = 1 ∧
          e.ctr K.RING_PUSH_DISCARD = (s.dev.ctr K.RING_PUSH_DISCARD + 1) % 2 ^ 64 ∧ e.ctr K.RING_PUSH_LOST = (s.dev.ctr K.RING_PUSH_LOST + 1) % 2 ^ 64)))) ∧
    (∀ sg p, s.dev.rcf r RC.KIND = 0 → s.dev.rcf r RC.FEED = 1 →
      (off < 0x800 ∨ 0x1000 ≤ off ∨ (off % 512 ≠ 0 ∧ off % 512 + b.length ≤ 512) → Yields (.inlinePush inst page off b ⟨sg, fine⟩ p) s (fun e => e.rings = s.dev.rings ∧ e.get F.RING_EVENT_BAD_DOORBELL = 1)) ∧
      (off % 512 = 0 → 0x800 ≤ off → off ≤ 0xE00 → b.length ≤ 512 →
        (x.state = 2 → Yields (.inlinePush inst page off b ⟨sg, fine⟩ p) s (fun e => e = s.dev.modRing r (fun _ => { x with producer := s.dev.advance r x.producer 1 }))) ∧
        (x.state ≠ 1 → x.state ≠ 2 → Yields (.inlinePush inst page off b ⟨sg, fine⟩ p) s (fun e => e = s.dev)) ∧
        (x.state = 1 → sg = true → p = true → s.dev.rcf r RC.CPL_RING ≠ r → s.dev.cplFree (s.dev.rcf r RC.CPL_RING) < s.dev.cplEntries r → Yields (.inlinePush inst page off b ⟨sg, fine⟩ p) s (fun e =>
          (e.ring r).pushes = x.pushes ∧ e.get F.RING_EVENT_PUSH_LOST = 1 ∧ e.ctr K.HIF_POISON_RX = (s.dev.ctr K.HIF_POISON_RX + 1) % 2 ^ 64 ∧
          e.ctr K.RING_PUSH_DISCARD = (s.dev.ctr K.RING_PUSH_DISCARD + 1) % 2 ^ 64))) ∧
      (x.state = 1 → 0x800 ≤ off → off < 0x1000 → (sg = false ∧ off % 512 = 0 ∧ off ≤ 0xE00) ∨ 512 < off % 512 + b.length → s.dev.rcf r RC.MIRROR = 0 → Yields (.inlinePush inst page off b ⟨sg, fine⟩ p) s (fun e =>
        (e.ring r).state = 2 ∧ (e.ring r).cause = 4 ∧ (e.ring r).pushes = x.pushes ∧ e.get F.RING_EVENT_BAD_DOORBELL = 1)))) ∧
  (∀ (s : State) (inst page off fine : Nat) (b : List Byte) (sg p : Bool), s.dev.sys.ready = true → s.dev.ringAt inst page = none → Yields (.inlinePush inst page off b ⟨sg, fine⟩ p) s (fun e =>
    e.rings = s.dev.rings ∧ e.get F.RING_EVENT_BAD_DOORBELL = 1)) ∧
  (∀ (s : State) (k : Nat) (w : Rec), s.dev.IndReady 0xC00100 → k < 16384 → s.dev.hif.faulted = [] → w = BitVec.ofNat 2048 ((s.dev.winRec 0xC00200 64).toNat % 2 ^ 320) →
    (∀ st, st < 2 → Yields (.ringRead 0 st k) s (fun e => e.IndBusy 0xC00100 0 ∧ e.words 0xC00200 16 = (s.dev.ringShow k ((s.dev.setBy st).record Tab.ring k)).toNat % 2 ^ 512 ∧ e.rings = s.dev.rings)) ∧
    Yields (.ringWrite 0 1 k) s (fun e => e.IndBusy 0xC00100 5 ∧ e.cfg = s.dev.cfg) ∧
    (recGet w RC.KIND = 3 → Yields (.ringWrite 0 0 k) s (fun e => e.IndBusy 0xC00100 3 ∧ e.cfg = s.dev.cfg)) ∧
    (recGet w RC.KIND ≠ 3 → Yields (.ringWrite 0 0 k) s (fun e => e.IndBusy 0xC00100 0 ∧ e.cfg.shadow.record Tab.ring k = keepRec Tab.ring w ∧ e.cfg.active = s.dev.cfg.active ∧ e.rings = s.dev.rings)) ∧
    (s.dev.rcf k RC.VALID = 0 → Yields (.ringReset 0 k) s (fun e => e.IndBusy 0xC00100 1 ∧ e.rings = s.dev.rings)) ∧
    (s.dev.rcf k RC.VALID = 1 → s.dev.rcf k RC.KIND ≠ 2 → s.dev.rcf k RC.MIRROR = 0 → (s.dev.ring k).state = 1 ∨ (s.dev.ring k).state = 2 → Yields (.ringReset 0 k) s (fun e => e.IndBusy 0xC00100 0 ∧
      e.ring k = { s.dev.ring k with cached := [], pushes := [], state := 3, cause := 0 } ∧ ∀ q, q ≠ k → e.ring q = s.dev.ring q))) ∧
  (∀ (s : State) (t st k : Nat), s.dev.IndReady 0xC00100 → s.dev.hif.faulted = [] → t ≠ 0 ∨ 16384 ≤ k → Yields (.ringRead t st k) s (fun e => e.IndBusy 0xC00100 3 ∧ e.rings = s.dev.rings) ∧
    Yields (.ringWrite t st k) s (fun e => e.IndBusy 0xC00100 3 ∧ e.cfg = s.dev.cfg) ∧ Yields (.ringReset t k) s (fun e => e.IndBusy 0xC00100 3 ∧ e.rings = s.dev.rings)) ∧
  (∀ (s : State) (r : Nat) (x : RingSt), s.dev.hif.faulted = [] → x = s.dev.ring r →
    (x.state = 3 → x.inWork = 0 → s.dev.hif.reads = [] → s.dev.rcf r RC.MIRROR = 0 → Yields (.ringResetDone r) s (fun e =>
      e.ring r = { state := (if s.dev.rcf r RC.VALID = 1 then 1 else 0), token := x.token } ∧ ∀ q, q ≠ r → e.ring q = s.dev.ring q)) ∧
    (x.state ≠ 3 ∨ x.inWork ≠ 0 → Yields (.ringResetDone r) s (fun e => e = s.dev)))

/-- R41, R55, R310, R320 to R323, R327, R328, R335 and R336. -/
def Obligations.FramesPassBetweenRingsAndHost : Prop :=
  (∀ (s : State) (r : Nat), s.dev.nextFetch r = none → Yields (.descriptorFetch r) s (fun e => e = s.dev)) ∧
  (∀ (d : Dev) (r : Nat), (d.ring r).state ≠ 1 ∨ d.rcf r RC.KIND = 2 ∨ d.mayWork (d.rcf r RC.INSTANCE) = false → d.nextFetch r = none) ∧
  (∀ (s : State) (r pos inst a host : Nat), s.dev.nextFetch r = some pos → inst = s.dev.rcf r RC.INSTANCE → a = s.dev.rcf r RC.BASE + 32 * s.dev.indexOf r pos → a % 4096 ≤ 4064 →
    s.dev.hif.faulted = [] → s.dev.hif.waiting = [] → s.dev.xlate inst a false = .hit host → s.dev.tagFree (s.dev.linkOf inst) (s.dev.rcf r RC.ENV_VALID == 1) = true →
    Yields (.descriptorFetch r) s (fun e => .hostRead (s.dev.linkOf inst) inst host 32 s.dev.hif.nextTag ∈ e.out ∧ e.rings = s.dev.rings ∧
      ∃ h ∈ e.hif.reads, h.tag = s.dev.hif.nextTag ∧ h.use = .desc r pos 1 ∧ h.len = 32 ∧ h.inst = inst)) ∧
  (∀ (s : State) (tag r n : Nat) (h : HRead) (b : List Byte) (x : RingSt), s.dev.readOf tag = some h → h.quarantined = false → h.dead = false → h.use = .desc r n 1 → h.len = 32 → h.got = [] → h.bad = false →
    b.length = 32 → s.dev.hif.faulted = [] → s.dev.hif.waiting = [] → x = s.dev.ring r → x.state = 1 → n = x.fetch → s.dev.rcf r RC.MIRROR = 0 → s.dev.rcf r RC.KIND = 0 →
    (descOwn b = true → Yields (.hostReadCompletion tag b true 0 false) s (fun e => e.readOf tag = none ∧ (e.ring r).fetch = s.dev.advance r n 1 ∧
      ((e.ring r).cached.map (fun c => c.bytes)) = (x.cached.map (fun c => c.bytes)) ++ [b] ∧ (e.ring r).state = 1)) ∧
    (descOwn b = false → s.dev.rcf r RC.MODE = 1 → Yields (.hostReadCompletion tag b true 0 false) s (fun e => (e.ring r).stopped = true ∧ (e.ring r).cached = x.cached ∧ (e.ring r).state = 1)) ∧
    (descOwn b = false → s.dev.rcf r RC.MODE = 0 → Yields (.hostReadCompletion tag b true 0 false) s (fun e => (e.ring r).state = 2 ∧ (e.ring r).cause = 1 ∧ (e.ring r).cached = x.cached ∧
      e.ctr K.RING_RING_ERRORS = (s.dev.ctr K.RING_RING_ERRORS + 1) % 2 ^ 64 ∧ e.get F.RING_EVENT_ERROR = 1))) ∧
  (∀ (s : State) (r : Nat), s.dev.deciding = false ∨ (s.dev.ring r).state ≠ 1 ∨ s.dev.rcf r RC.KIND ≠ 0 ∨ s.dev.mayTake (s.dev.rcf r RC.INSTANCE) = false ∨ s.dev.txHead r = none →
    Yields (.txFrameTake r) s (fun e => e = s.dev)) ∧
  (∀ (s : State) (r inst : Nat) (h : TxHead), s.dev.hif.faulted = [] → s.dev.deciding = true → (s.dev.ring r).state = 1 → (s.dev.ring r).disabling = false → s.dev.rcf r RC.KIND = 0 →
    inst = s.dev.rcf r RC.INSTANCE → s.dev.mayTake inst = true → s.dev.atLimit r = false → s.dev.txHead r = some h →
    (s.dev.cplFree (s.dev.rcf r RC.CPL_RING) < s.dev.cplEntries r → Yields (.txFrameTake r) s (fun e => (e.ring r).stalled = true ∧ e.shuts = s.dev.shuts ∧ (e.ring r).take = (s.dev.ring r).take ∧
      ((s.dev.ring r).stalled = false → e.ctr K.RING_CPL_STALL = (s.dev.ctr K.RING_CPL_STALL + 1) % 2 ^ 64 ∧ e.get F.RING_EVENT_CPL_STALL = 1) ∧ ((s.dev.ring r).stalled = true → e = s.dev))) ∧
    (s.dev.cplEntries r ≤ s.dev.cplFree (s.dev.rcf r RC.CPL_RING) → s.dev.rcf r RC.CPL_RING ≠ r →
      (h.bad = St.malformedDesc → Yields (.txFrameTake r) s (fun e => (e.ring r).take = s.dev.advance r h.pos h.count ∧ e.shuts = s.dev.shuts ∧
        e.ctr K.RING_MALFORMED_DESC = (s.dev.ctr K.RING_MALFORMED_DESC + 1) % 2 ^ 64)) ∧
      (h.bad = 0 →
        (s.dev.sh (F.LOOM_HOST_CEIL_HOST_MTU (s.dev.linkOf inst)) < max 60 h.len + 4 → Yields (.txFrameTake r) s (fun e => e.shuts = s.dev.shuts ∧
          e.ctr K.RING_TX_OVER_MTU = (s.dev.ctr K.RING_TX_OVER_MTU + 1) % 2 ^ 64 ∧ (e.ring r).take = s.dev.advance r h.pos h.count)) ∧
        (∀ v, max 60 h.len + 4 ≤ s.dev.sh (F.LOOM_HOST_CEIL_HOST_MTU (s.dev.linkOf inst)) → s.dev.ringEnvelope r = some v → s.dev.conforms v (max 60 h.len + 4) = none → Yields (.txFrameTake r) s (fun e => e = s.dev)) ∧
        (∀ (env : Option Nat) (ref : StampAt), (s.dev.ringEnvelope r = none ∧ env = none ∧ ref = h.stamp) ∨
            (∃ v b t, s.dev.ringEnvelope r = some v ∧ env = some v ∧ s.dev.conforms v (max 60 h.len + 4) = some (b, t) ∧ ref = s.dev.later h.stamp t) →
          (max 60 h.len + 4 ≤ s.dev.sh (F.LOOM_HOST_CEIL_HOST_MTU (s.dev.linkOf inst)) → h.bufs ≠ [] → (∀ p ∈ h.bufs, 0 < p.2 ∧ ∀ k < p.2, ∀ c, s.dev.xlate inst (p.1 + k) false ≠ .fault c) →
            h.len = h.bufs.foldl (fun n p => n + p.2) 0 → s.dev.mayRequest inst = true → h.stamp.time < 2 ^ 80 →
            Yields (.txFrameTake r) s (fun e => e.ctr K.RING_TX_TAKEN = (s.dev.ctr K.RING_TX_TAKEN + 1) % 2 ^ 64 ∧ (e.ring r).inWork = (s.dev.ring r).inWork + 1 ∧ e.nextShut = s.dev.nextShut + 1 ∧
              ∃ x, e.shut s.dev.nextShut = some x ∧ x.ring = some r ∧ x.stage = .fetch ∧ x.total = h.len ∧ x.envelope = (env <|> s.dev.ringDemoted r) ∧ x.get S.PORT = 9 + s.dev.linkOf inst ∧ x.get S.DIR = 1 ∧
                x.get S.INSTANCE = inst ∧ x.get S.INGRESS_STAMP = stampField h.stamp.time ∧ (env = none → x.get S.CLASS = 3 ∧ x.get S.DEADLINE = noDeadline) ∧
                (∀ v, env = some v → x.get S.DEADLINE = stampField (ref.time + s.dev.sh (EV.BOUND v) * 65536)))))))) ∧
  (∀ (s : State) (link : Nat) (cr : Bool) (pb : PbufError), (∀ p ∈ s.dev.shuts, p.2.stage ≠ .toHost ∨ p.2.get S.DEST_PORT ≠ 9 + link ∨ (p.2.ended = false ∧ s.dev.earlyHost p.2 = false) ∨ p.2.writtenHost = true ∨ p.2.dropReason ≠ none) →
    Yields (.hostTlpRelease ⟨link, cr, pb⟩) s (fun e => e = s.dev)) ∧
  (∀ (s : State) (link i inst n : Nat) (x : Shut) (cr : Bool) (pb : PbufError), s.dev.hif.faulted = [] → s.dev.shut i = some x → inst = x.get S.INSTANCE →
    n = (if x.ended then min x.frame.length x.rxLen else min (x.frame.length - 64) (min x.rxLen (s.dev.sh (F.LOOM_HOST_CEIL_HOST_MTU (x.get S.HOST_LINK)) - 4))) →
    s.dev.shuts.filter (fun (p : Nat × Shut) => p.2.stage == .toHost && p.2.get S.DEST_PORT == 9 + link && (p.2.ended || s.dev.earlyHost p.2) && !p.2.writtenHost && p.2.dropReason.isNone) = [(i, x)] →
    (s.dev.mayReceive inst = false → Yields (.hostTlpRelease ⟨link, cr, pb⟩) s (fun e => e.ctr K.HIF_FN_DROP = (s.dev.ctr K.HIF_FN_DROP + 1) % 2 ^ 64)) ∧
    (s.dev.mayReceive inst = true →
      (pb = .shuttle → Yields (.hostTlpRelease ⟨link, cr, pb⟩) s (fun e => e.ctr K.DRAM_SHUTTLE_LOST = (s.dev.ctr K.DRAM_SHUTTLE_LOST + 1) % 2 ^ 64)) ∧
      (pb ≠ .shuttle → s.dev.xlateRun inst true (n + 1) x.rxAddr n = .miss → Yields (.hostTlpRelease ⟨link, cr, pb⟩) s (fun e => e.shuts = s.dev.shuts ∧
        ∀ k, k * 4096 < x.rxAddr % 4096 + n → e.xlate inst (x.rxAddr / 4096 * 4096 + 4096 * k) true = .miss → ∃ w ∈ e.hif.walks, w.inst = inst ∧ w.page = x.rxAddr / 4096 + k)) ∧
      (∀ a, pb ≠ .shuttle → s.dev.xlateRun inst true (n + 1) x.rxAddr n = .hit a → cr = false → Yields (.hostTlpRelease ⟨link, cr, pb⟩) s (fun e =>
        e.shut i = some (if x.creditAt.isSome then x else { x with creditAt := some (s.dev.now, s.dev.epoch) }) ∧ e.bus = s.dev.bus ∧ e.rings = s.dev.rings)) ∧
      (∀ a r pos, pb = .none → cr = true → x.ended = true → s.dev.xlateRun inst true (n + 1) x.rxAddr n = .hit a → x.rxRing = some r → x.rxCplPos = some pos → x.lane = none → x.guaranteed = false →
        Yields (.hostTlpRelease ⟨link, cr, pb⟩) s (fun e => e.ctr K.RING_RX_WRITTEN = (s.dev.ctr K.RING_RX_WRITTEN + 1) % 2 ^ 64 ∧ e.shut i = none ∧
          (x.hostSent = 0 → x.frame.length ≤ max 128 (min 512 (s.dev.fn inst).maxPayload) → x.frame.length ≤ min x.rxLen (s.dev.sh (F.LOOM_HOST_CEIL_HOST_MTU (x.get S.HOST_LINK)) - 4) → 0 < x.frame.length → x.trim = [] →
            x.rxAddr % 4096 + x.frame.length ≤ 4096 → s.dev.hif.waiting = [] → ∀ host, s.dev.xlate inst x.rxAddr true = .hit host →
            ∃ ep, .hostWrite (s.dev.linkOf inst) inst host x.frame ep (s.dev.fn inst).relaxed ∈ e.out))) ∧
      (∀ a, pb = .none → cr = true → x.ended = false → s.dev.xlateRun inst true (n + 1) x.rxAddr n = .hit a →
        Yields (.hostTlpRelease ⟨link, cr, pb⟩) s (fun e => ∃ y, e.shut i = some y ∧ y.writtenHost = true ∧ y.hostSent = n ∧ y.frame = x.frame))))

/-- R341, R342 and R345 to R350. -/
def Obligations.MailboxesCarryMessages : Prop :=
  (∀ (s : State) (i w : Nat) (v : Word) (p : MboxPair), s.dev.Live → i < 4096 → w < 16 → p = s.dev.pair i → (s.dev.fn i).state ≠ 0 → (s.dev.fn i).state ≠ 9 →
    Yields (.mailboxWrite 0 i w v) s (fun e => mapGet (e.pair i).up.words w = some v ∧ (∀ k, k ≠ w → mapGet (e.pair i).up.words k = mapGet p.up.words k) ∧
      (e.pair i).up.full = (p.up.full || w == 15) ∧ (e.pair i).down = p.down ∧ (∀ j, j ≠ i → e.pair j = s.dev.pair j) ∧
      (p.up.full = true → (e.pair i).up.colS = true ∧ (e.pair i).up.colR = true ∧ e.ctr K.MBOX_COLLISIONS = (s.dev.ctr K.MBOX_COLLISIONS + 1) % 2 ^ 64 ∧ e.get F.MBOX_EVENT_COLLISION = 1) ∧
      (p.up.full = false → (e.pair i).up.colS = p.up.colS ∧ (e.pair i).up.colR = p.up.colR ∧ e.ctr K.MBOX_COLLISIONS = s.dev.ctr K.MBOX_COLLISIONS) ∧
      (w = 15 → e.ctr K.MBOX_USER_SENT = (s.dev.ctr K.MBOX_USER_SENT + 1) % 2 ^ 64 ∧ e.get F.MBOX_EVENT_UP_FULL = 1) ∧ (w ≠ 15 → e.ctr K.MBOX_USER_SENT = s.dev.ctr K.MBOX_USER_SENT)) ∧
    Yields (.mailboxWrite 0 i 33 v) s (fun e => e.pair i = { p with ctrl := v &&& 0x307FF } ∧ ∀ j, j ≠ i → e.pair j = s.dev.pair j)) ∧
  (∀ (s : State) (i u w : Nat) (v : Word) (p : MboxPair), s.dev.Live → i = s.dev.get F.MBOX_USER_SEL_INSTANCE → w < 16 → p = s.dev.pair i →
    ((s.dev.fn i).state ≠ 0 → (s.dev.fn i).state ≠ 9 → Yields (.mailboxWrite 1 u w v) s (fun e => mapGet (e.pair i).down.words w = some v ∧
      (∀ k, k ≠ w → mapGet (e.pair i).down.words k = mapGet p.down.words k) ∧ (e.pair i).down.full = (p.down.full || w == 15) ∧ (e.pair i).up = p.up ∧ (∀ j, j ≠ i → e.pair j = s.dev.pair j) ∧
      (p.down.full = true → (e.pair i).down.colS = true ∧ (e.pair i).down.colR = true ∧ e.ctr K.MBOX_COLLISIONS = (s.dev.ctr K.MBOX_COLLISIONS + 1) % 2 ^ 64) ∧
      (w = 15 → e.ctr K.MBOX_USER_SENT = (s.dev.ctr K.MBOX_USER_SENT + 1) % 2 ^ 64 ∧ (p.downIrq = true → s.dev.mayRequest i = true → .msix i p.vector ∈ e.out)))) ∧
    ((s.dev.fn i).state = 0 ∨ (s.dev.fn i).state = 9 → Yields (.mailboxWrite 1 u w v) s (fun e => e.pair i = { p with down := { p.down with aborted := true } } ∧
      e.ctr K.MBOX_ABORTS = (s.dev.ctr K.MBOX_ABORTS + 1) % 2 ^ 64 ∧ ∀ j, j ≠ i → e.pair j = s.dev.pair j))) ∧
  (∀ (s : State) (m w : Nat) (v : Word), s.dev.Live → w < 16 →
    (s.dev.dataBound m = true → s.dev.endpointAsleep (s.dev.get (F.MBOX_DATA_BIND_RECEIVER m)) = false → s.dev.endpointOff (s.dev.get (F.MBOX_DATA_BIND_RECEIVER m)) = false → Yields (.mailboxWrite 2 m w v) s (fun e => mapGet (e.dataDir m).words w = some v ∧
      (∀ k, k ≠ w → mapGet (e.dataDir m).words k = mapGet (s.dev.dataDir m).words k) ∧ (e.dataDir m).full = ((s.dev.dataDir m).full || w == 15) ∧ (∀ j, j ≠ m → e.dataDir j = s.dev.dataDir j) ∧
      e.get (F.MBOX_DATA_BIND_NO_PEER m) = 0 ∧ (w = 15 → e.ctr K.MBOX_DATA_SENT = (s.dev.ctr K.MBOX_DATA_SENT + 1) % 2 ^ 64))) ∧
    (s.dev.dataBound m = true → s.dev.endpointAsleep (s.dev.get (F.MBOX_DATA_BIND_RECEIVER m)) = false → s.dev.endpointOff (s.dev.get (F.MBOX_DATA_BIND_RECEIVER m)) = true → Yields (.mailboxWrite 2 m w v) s (fun e => e.get (F.MBOX_DATA_BIND_NO_PEER m) = 1 ∧ e.mbox = s.dev.mbox ∧
      e.ctr K.MBOX_POWER_ERRORS = (s.dev.ctr K.MBOX_POWER_ERRORS + 1) % 2 ^ 64 ∧ e.get F.MBOX_EVENT_POWER_ERROR = 1)) ∧
    (s.dev.dataBound m = true → s.dev.endpointAsleep (s.dev.get (F.MBOX_DATA_BIND_RECEIVER m)) = true → Yields (.mailboxWrite 2 m w v) s (fun e => e.mbox = s.dev.mbox ∧ e.bus = s.dev.bus ∧ e.out = s.dev.out)) ∧
    (s.dev.dataBound m = false → Yields (.mailboxWrite 2 m w v) s (fun e => e = s.dev))) ∧
  (∀ (s : State) (m : Nat) (v : Word) (x : MboxDir), s.dev.Live → s.dev.dataBound m = true → x = s.dev.dataDir m →
    Yields (.mailboxWrite 2 m 16 v) s (fun e => e.dataDir m = { x with colS := x.colS && !v.toNat.testBit 0, aborted := x.aborted && !v.toNat.testBit 1 } ∧ ∀ j, j ≠ m → e.dataDir j = s.dev.dataDir j) ∧
    Yields (.mailboxWrite 2 m 17 v) s (fun e => e.dataDir m = { x with colR := x.colR && !v.toNat.testBit 0 } ∧ ∀ j, j ≠ m → e.dataDir j = s.dev.dataDir j)) ∧
  (∀ (s : State) (i u : Nat) (p : MboxPair), s.dev.Live →
    (i < 4096 → p = s.dev.pair i → (s.dev.fn i).state ≠ 0 → (s.dev.fn i).state ≠ 9 → Yields (.mailboxReadLast 0 i) s (fun e =>
      (∃ l, e.out = s.dev.out ++ .readData (mapGetD p.down.words 15 0).toNat :: l) ∧ e.pair i = { p with down := { p.down with full := false } } ∧ (∀ j, j ≠ i → e.pair j = s.dev.pair j) ∧
      (p.down.full = true → e.get F.MBOX_EVENT_DOWN_EMPTY = 1) ∧ (p.down.full = false → e.bus = s.dev.bus))) ∧
    (i = s.dev.get F.MBOX_USER_SEL_INSTANCE → p = s.dev.pair i → Yields (.mailboxReadLast 1 u) s (fun e =>
      (∃ l, e.out = s.dev.out ++ .readData (mapGetD p.up.words 15 0).toNat :: l) ∧ e.pair i = { p with up := { p.up with full := false } } ∧ (∀ j, j ≠ i → e.pair j = s.dev.pair j) ∧
      (p.up.full = true → p.emptyIrq = true → s.dev.mayRequest i = true → .msix i p.vector ∈ e.out))) ∧
    (s.dev.dataBound u = true → s.dev.endpointAsleep (s.dev.get (F.MBOX_DATA_BIND_SENDER u)) = false → s.dev.endpointOff (s.dev.get (F.MBOX_DATA_BIND_SENDER u)) = false → Yields (.mailboxReadLast 2 u) s (fun e =>
      e.out = s.dev.out ++ [.readData (mapGetD (s.dev.dataDir u).words 15 0).toNat] ∧ e.dataDir u = { s.dev.dataDir u with full := false } ∧ ∀ j, j ≠ u → e.dataDir j = s.dev.dataDir j))) ∧
  (∀ (s : State) (sd u w : Nat) (v : Word), s.dev.responds 0xD00000 = false → Yields (.mailboxWrite sd u w v) s (fun e => e = s.dev))

/-- R351 to R358 and Tables 4 to 7; that a command names the channel and the party is the choice of the table of commands. -/
def Obligations.MoverChannelsRun : Prop :=
  (∀ (s : State) (c p : Nat) (i : Instr), s.dev.movOwned c p = false → i ∈ ([.moverStart c p, .moverAbort c p, .chainKick c p] : List Instr) → Yields i s (fun e => e = s.dev)) ∧
  (∀ (s : State) (c p : Nat) (i : Instr), s.dev.Live → s.dev.movOwned c p = true → s.dev.asleep 3 (c / 4) = true → i ∈ ([.moverStart c p, .moverAbort c p, .chainKick c p] : List Instr) →
    Yields i s (fun e => e.movers = s.dev.movers ∧ e.bus = s.dev.bus)) ∧
  (∀ (s : State) (c p : Nat) (b : List Byte), s.dev.Live → s.dev.hif.faulted = [] → s.dev.movOwned c p = true → s.dev.asleep 3 (c / 4) = false → b = s.dev.winBytes (0xE01040 + 0x80 * c) 32 →
    (s.dev.movState c = 1 ∨ s.dev.movState c = 2 ∨ s.dev.movState c = 4 → Yields (.moverStart c p) s (fun e => e.get F.MOVE_EVENT_WRITE_IGNORED = 1 ∧ e.movers = s.dev.movers ∧ e.movState c = s.dev.movState c)) ∧
    (s.dev.movState c = 0 ∨ s.dev.movState c = 3 ∨ s.dev.movState c = 5 → s.dev.get (F.MOVE_CH_MIRROR_ADDR c) = 0 →
      (s.dev.movChain c = false → s.dev.descBad c { id := 0, bytes := b } = false → Yields (.moverStart c p) s (fun e => e.movState c = 1 ∧ e.get (F.MOVE_CH_DONE_DONE_BYTES c) = 0 ∧
        e.get (F.MOVE_CH_STATUS_CAUSE c) = 0 ∧ (e.mov c).descs.map (fun x => x.bytes) = [b] ∧ (e.mov c).reqs = [] ∧ ∀ k, k ≠ c → e.mov k = s.dev.mov k)) ∧
      (s.dev.movChain c = false → s.dev.descBad c { id := 0, bytes := b } = true → Yields (.moverStart c p) s (fun e => e.movState c = 5 ∧ e.get (F.MOVE_CH_STATUS_CAUSE c) = 5 ∧
        e.ctr K.MOVE_ERRORS = (s.dev.ctr K.MOVE_ERRORS + 1) % 2 ^ 64 ∧ e.get F.MOVE_EVENT_ERROR = 1 ∧ (e.mov c).descs = [])) ∧
      (s.dev.movChain c = true → Yields (.moverStart c p) s (fun e => e.movState c = 1 ∧ ∃ q ∈ (e.mov c).reqs, q.kind = 2 ∧ q.desc = s.dev.get (F.MOVE_CH_CHAIN_HEAD c) / 32 * 32))) ∧
    (s.dev.movState c = 1 → (s.dev.mov c).cause = 0 → s.dev.get (F.MOVE_CH_MIRROR_ADDR c) = 0 →
      ((s.dev.mov c).reqs = [] → Yields (.moverAbort c p) s (fun e => e.movState c = 0 ∧ (e.mov c).descs = [] ∧ (e.mov c).reqs = [])) ∧
      ((s.dev.mov c).reqs ≠ [] → Yields (.moverAbort c p) s (fun e => e.movState c = 2 ∧ (e.mov c).aborting = true ∧ (e.mov c).reqs = (s.dev.mov c).reqs))) ∧
    (s.dev.movState c ≠ 1 → Yields (.moverAbort c p) s (fun e => e.movers = s.dev.movers ∧ e.bus = s.dev.bus)) ∧
    (s.dev.movState c = 4 → (s.dev.mov c).reqs = [] → Yields (.chainKick c p) s (fun e => e.ctr K.MOVE_KICKS = (s.dev.ctr K.MOVE_KICKS + 1) % 2 ^ 64 ∧
      ∃ q ∈ (e.mov c).reqs, q.kind = 3 ∧ q.desc = (s.dev.mov c).tail)) ∧
    (s.dev.movChain c = true → s.dev.movState c = 1 ∨ s.dev.movState c = 2 → Yields (.chainKick c p) s (fun e => e.get (F.MOVE_CH_STATUS_KICK_PENDING c) = 1 ∧
      e.ctr K.MOVE_KICKS = (s.dev.ctr K.MOVE_KICKS + 1) % 2 ^ 64 ∧ e.movers = s.dev.movers)) ∧
    (s.dev.movState c = 0 ∨ s.dev.movState c = 3 ∨ s.dev.movState c = 5 → Yields (.chainKick c p) s (fun e => e.ctr K.MOVE_KICK_IDLE = (s.dev.ctr K.MOVE_KICK_IDLE + 1) % 2 ^ 64 ∧
      e.ctr K.MOVE_KICKS = (s.dev.ctr K.MOVE_KICKS + 1) % 2 ^ 64 ∧ e.movers = s.dev.movers))) ∧
  (∀ (s : State) (c : Nat), 32 ≤ c ∨ s.dev.movState c ≠ 1 ∨ (s.dev.mov c).cause ≠ 0 ∨ (s.dev.mov c).aborting = true ∨ s.dev.isGated 3 (c / 4) = true ∨ (s.dev.mov c).descs = [] → Yields (.moverBurst c) s (fun e => e = s.dev)) ∧
  (∀ (s : State) (c n a b : Nat) (x : MovDesc), c < 32 → s.dev.hif.faulted = [] → s.dev.movState c = 1 → (s.dev.mov c).cause = 0 → (s.dev.mov c).aborting = false → s.dev.isGated 3 (c / 4) = false →
    s.dev.movChain c = false → s.dev.get (F.MOVE_CH_MIRROR_ADDR c) = 0 → (s.dev.mov c).descs = [x] → x.issued < x.len → n = s.dev.burstLen c x → a = s.dev.srcAddr c x x.issued → b = s.dev.dstAddr c x x.issued →
    x.srcSpace = 0 → x.dstSpace = 0 ∨ x.dstSpace = 1 →
    (a + n ≤ s.dev.ddrSize → s.dev.spaceFault c x.dstSpace b n = 0 → (∀ q ∈ (s.dev.mov c).reqs, q.kind ≠ 2) → Yields (.moverBurst c) s (fun e =>
      e.movState c = (if x.len ≤ x.issued + n then 2 else 1) ∧ (e.mov c).descs = [{ x with issued := x.issued + n }] ∧
      ∃ q ∈ (e.mov c).reqs, q.kind = 0 ∧ q.desc = x.id ∧ q.off = x.issued ∧ q.len = n ∧ q.data = (List.range n).map (fun k => s.byte (a + k)))) ∧
    (s.dev.ddrSize < a + n → (s.dev.mov c).reqs = [] → Yields (.moverBurst c) s (fun e => e.movState c = 5 ∧ e.get (F.MOVE_CH_STATUS_CAUSE c) = 8 ∧
      e.ctr K.MOVE_ERRORS = (s.dev.ctr K.MOVE_ERRORS + 1) % 2 ^ 64))) ∧
  (∀ (s : State) (c err addr row : Nat), (s.dev.mov c).reqs = [] → Yields (.moverResponse c err addr row) s (fun e => e = s.dev)) ∧
  (∀ (s : State) (c addr row b : Nat) (x : MovDesc) (q : MovReq), s.dev.hif.faulted = [] → (s.dev.mov c).descs = [x] → (s.dev.mov c).reqs = [q] → s.dev.movReady c q = true → q.err = 0 → q.desc = x.id →
    (s.dev.mov c).cause = 0 → (s.dev.mov c).aborting = false →
    (q.kind = 0 → q.host = false → q.core = none → x.srcSpace = 0 → x.dstSpace = 0 → b = s.dev.dstAddr c x q.off → b + q.data.length ≤ s.dev.ddrSize → Yields (.moverResponse c 0 addr row) s (fun e =>
      (∀ k < q.data.length, ({ s with dev := e } : State).byte (b + k) = q.data.getD k 0) ∧ (∀ k, k < b ∨ b + q.data.length ≤ k → ({ s with dev := e } : State).byte k = s.byte k) ∧
      ∃ r, (e.mov c).reqs = [r] ∧ r.kind = 1 ∧ r.desc = x.id ∧ r.len = q.data.length)) ∧
    (q.kind = 1 → x.failed = false → x.moved + q.len = x.len → s.dev.movState c = 2 → s.dev.movChain c = false → s.dev.get (F.MOVE_CH_MIRROR_ADDR c) = 0 → Yields (.moverResponse c 0 addr row) s (fun e =>
      e.movState c = 3 ∧ (e.mov c).descs = [] ∧ (e.mov c).reqs = [] ∧ e.get (F.MOVE_CH_DONE_DONE_BYTES c) = (s.dev.get (F.MOVE_CH_DONE_DONE_BYTES c) + x.len) % 2 ^ 64 ∧
      e.get (F.MOVE_CH_STATUS_DESC_SEQ c) = (s.dev.get (F.MOVE_CH_STATUS_DESC_SEQ c) + 1) % 256 ∧ e.ctr K.MOVE_BYTES = (s.dev.ctr K.MOVE_BYTES + x.len) % 2 ^ 64 ∧
      e.ctr K.MOVE_DESCRIPTORS = (s.dev.ctr K.MOVE_DESCRIPTORS + 1) % 2 ^ 64)))

/-- R372 to R379, R381 to R384, R390, R391, R454, and Tables 1 and 2. -/
def Obligations.DecisionSidesAndTheGate : Prop :=
  (∀ (s : State) (x y : Bool), s.dev.sys.resetDue = false → s.dev.single = true → Yields (.lockstepMismatch x y) s (fun e => e = s.dev)) ∧
  (∀ (s : State) (a b : Nat), s.dev.sys.resetDue = false → s.dev.single = false → a = s.dev.activeSide → b = s.dev.standbySide → a < 3 → a ≠ b →
    Yields (.lockstepMismatch true false) s (fun e => e.activeSide = b ∧ e.standbySide = 3 ∧ e.single = true ∧ e.side b = 1 ∧ e.flt.gap = 1 ∧ e.get (F.FLT_CLAIM_CLAIM a) = 0 ∧
      e.get (F.FLT_CLAIM_CLAIM b) = (s.dev.maxClaim + 1) % 2 ^ 32 ∧ e.ctr K.FLT_MISMATCHES = (s.dev.ctr K.FLT_MISMATCHES + 1) % 2 ^ 64 ∧ e.ctr K.FLT_TAKEOVERS = (s.dev.ctr K.FLT_TAKEOVERS + 1) % 2 ^ 64 ∧
      e.get ⟨0x1000020, Code.switchover, 1⟩ = 1 ∧ (mapGet s.dev.flt.lastNamed a = none → e.side a = 3) ∧
      (∀ c, mapGet s.dev.flt.lastNamed a = some c → s.dev.time.cycles - c ≤ secondCycles → e.side a = 4 ∧ a ∈ e.boot.store.retiredSides)) ∧
    Yields (.lockstepMismatch false true) s (fun e => e.activeSide = a ∧ e.standbySide = 3 ∧ e.flt.gap = 2 ∧ e.get ⟨0x1000020, Code.standbyLost, 1⟩ = 1 ∧
      e.ctr K.FLT_STANDBY_LOSSES = (s.dev.ctr K.FLT_STANDBY_LOSSES + 1) % 2 ^ 64 ∧ (mapGet s.dev.flt.lastNamed b = none → e.side b = 3) ∧
      (∀ c, mapGet s.dev.flt.lastNamed b = some c → s.dev.time.cycles - c ≤ secondCycles → e.side b = 4 ∧ b ∈ e.boot.store.retiredSides)) ∧
    (∀ x, (s.dev.flt.gap ≠ 3 → Yields (.lockstepMismatch x x) s (fun e => e.flt.gap = 3 ∧ e.flt.retries = 1 ∧ e.activeSide = a ∧ e.standbySide = b ∧
        e.ctr K.FLT_TRANSIENT_RETRIES = (s.dev.ctr K.FLT_TRANSIENT_RETRIES + 1) % 2 ^ 64)) ∧
      (s.dev.flt.gap = 3 → s.dev.flt.retries < 3 → Yields (.lockstepMismatch x x) s (fun e => e.flt.gap = 3 ∧ e.flt.retries = s.dev.flt.retries + 1 ∧ e.activeSide = a ∧ e.standbySide = b)) ∧
      (s.dev.flt.gap = 3 → 3 ≤ s.dev.flt.retries → Clears (.lockstepMismatch x x) s (fun e => AfterModuleReset s.dev e ∧ e.get F.GEN_RESET_CAUSE_FAULT = 1))) ∧
    (s.dev.Live → s.dev.get F.BARB_DBG_STATUS_DEBUG_EN = 1 → s.dev.side a = 1 → Yields (.inject 0xFA17 a) s (fun e => e.activeSide = b ∧ e.standbySide = 3 ∧ e.flt.gap = 1)) ∧
    (s.dev.Live → s.dev.get F.BARB_DBG_STATUS_DEBUG_EN = 1 → s.dev.side b = 2 → Yields (.inject 0xFA17 b) s (fun e => e.activeSide = a ∧ e.standbySide = 3 ∧ e.flt.gap = 2)) ∧
    (s.dev.Live →
      (s.dev.flt.gap = 0 → Yields (.switch 0xFA17) s (fun e => e.activeSide = b ∧ e.standbySide = a ∧ e.side b = 1 ∧ e.side a = 2 ∧
        e.ctr K.FLT_PLANNED_SWITCHES = (s.dev.ctr K.FLT_PLANNED_SWITCHES + 1) % 2 ^ 64 ∧ e.get (F.FLT_CLAIM_CLAIM b) = (s.dev.maxClaim + 1) % 2 ^ 32 ∧ e.get (F.FLT_CLAIM_CLAIM a) = 0)) ∧
      (s.dev.flt.gap ≠ 0 → Yields (.switch 0xFA17) s (fun e => e.flt = s.dev.flt ∧ e.bus.words = s.dev.bus.words ∧ e.ctr K.FLT_SWITCH_REFUSED = (s.dev.ctr K.FLT_SWITCH_REFUSED + 1) % 2 ^ 64)))) ∧
  (∀ (s : State), s.dev.sys.resetDue = false →
    (s.dev.single = false → Yields .singleCheckFlag s (fun e => e = s.dev)) ∧
    (s.dev.single = true → s.dev.flt.gap ≠ 3 → Yields .singleCheckFlag s (fun e => e.flt.gap = 3 ∧ e.ctr K.FLT_SINGLE_RETRIES = (s.dev.ctr K.FLT_SINGLE_RETRIES + 1) % 2 ^ 64 ∧ e.single = true)) ∧
    (s.dev.single = true → s.dev.flt.gap = 3 → Clears .singleCheckFlag s (fun e => AfterModuleReset s.dev e ∧ e.get F.GEN_RESET_CAUSE_FAULT = 1)) ∧
    Clears .gateClaimConflict s (fun e => AfterModuleReset s.dev e ∧ e.get F.GEN_RESET_CAUSE_FAULT = 1) ∧
    (s.dev.single = true → s.dev.Live → Yields (.switch 0xFA17) s (fun e => e.flt = s.dev.flt ∧ e.bus.words = s.dev.bus.words ∧ e.ctr K.FLT_SWITCH_REFUSED = (s.dev.ctr K.FLT_SWITCH_REFUSED + 1) % 2 ^ 64))) ∧
  (∀ (s : State) (k side : Nat), k ≠ 0xFA17 → Yields (.switch k) s (fun e => e = s.dev) ∧ Yields (.inject k side) s (fun e => e = s.dev)) ∧
  (∀ (s : State) (k side : Nat), s.dev.get F.BARB_DBG_STATUS_DEBUG_EN = 0 → Yields (.inject k side) s (fun e => e = s.dev)) ∧
  (∀ s : State, (∀ h ∈ s.dev.dom.held, h.1 ≠ (5, 0)) → Yields .gapEnd s (fun e => e.flt.gap = 0 ∧ e.flt.retries = 0 ∧ { e with flt := s.dev.flt } = s.dev)) ∧
  (∀ (s : State) (k : Nat), k < 3 →
    (s.dev.side k = 3 → s.dev.single = true → Yields (.resyncDone k) s (fun e => e.side k = 2 ∧ e.standbySide = k ∧ e.activeSide = s.dev.activeSide ∧ e.get F.FLT_HEALTH_SINGLE = 0)) ∧
    (s.dev.side k ≠ 3 ∨ s.dev.single = false → Yields (.resyncDone k) s (fun e => e = s.dev)) ∧
    (s.dev.side k = 0 → s.dev.flt.bringIn = some k ∨ s.dev.sys.ready = false → Yields (.sidePowerOn k) s (fun e => e.side k = 5 ∧ e.flt.bringIn = none)) ∧
    (s.dev.side k ≠ 0 ∨ (s.dev.flt.bringIn ≠ some k ∧ s.dev.sys.ready = true) → Yields (.sidePowerOn k) s (fun e => e = s.dev)) ∧
    (s.dev.side k = 5 → Yields (.sideSelfTestDone k true) s (fun e => e.side k = (if s.dev.sys.ready then 3 else 0) ∧ e.boot = s.dev.boot) ∧
      Yields (.sideSelfTestDone k false) s (fun e => e.side k = 4 ∧ k ∈ e.boot.store.retiredSides ∧ (e.get F.FLT_HEALTH_ST_FAIL).testBit k = true ∧ (e.get F.FLT_HEALTH_RETIRED).testBit k = true ∧
        e.ctr K.FLT_SELF_TEST_FAILS = (s.dev.ctr K.FLT_SELF_TEST_FAILS + 1) % 2 ^ 64)) ∧
    (∀ p, s.dev.side k ≠ 5 → Yields (.sideSelfTestDone k p) s (fun e => e = s.dev))) ∧
  (∀ s : State, Yields (.selfTestPeriod true) s (fun e => e.ctr K.FLT_SELFTEST_LATE = (s.dev.ctr K.FLT_SELFTEST_LATE + 1) % 2 ^ 64 ∧ SameCountsBut [K.FLT_SELFTEST_LATE] s.dev e) ∧
    Yields (.selfTestPeriod false) s (fun e => e = s.dev)) ∧
  (∀ (s : State) (v : Word), s.dev.Live → Yields (.fltPendClear v) s (fun e => e.word 0x1000020 = s.dev.word 0x1000020 &&& ~~~ v ∧ SameWordsBut [0x1000020] s.dev e ∧ e.bus.ctr = s.dev.bus.ctr))

/-- R368 to R371, R384 to R388 and Table 4. Which addresses are mirrored rests on assumption log 12. -/
def Obligations.UnitsSparesWearAndDdr5 : Prop :=
  (∀ (s : State) (u row n : Nat) (x sp : Bool) (p : Bool), s.dev.Live → s.dev.hif.faulted = [] → p = (s.dev.countTransient 3 u 0).2.2 → n = s.dev.get F.FLT_HEALTH_CIPHER_SPARES → u < 16 →
    s.dev.get (F.CIPH_LANE_CFG_OUT u) = 0 → (∀ q ∈ s.dev.shuts, q.2.lane ≠ some u) →
    (p = false → Yields (.unitTransient 3 u row x sp) s (fun e => mapGet e.flt.unitTimes (unitKey 3 u 0) ≠ none ∧ e.bus = s.dev.bus ∧ e.boot = s.dev.boot)) ∧
    (p = true → n ≠ 0 → Yields (.unitTransient 3 u row x sp) s (fun e => e.get (F.CIPH_LANE_CFG_PHYS u) = 18 - n ∧ e.get F.FLT_HEALTH_CIPHER_SPARES = n - 1 ∧
      (3, s.dev.get (F.CIPH_LANE_CFG_PHYS u)) ∈ e.boot.store.retiredUnits ∧ e.ctr K.FLT_SPARES_USED = (s.dev.ctr K.FLT_SPARES_USED + 1) % 2 ^ 64 ∧ e.get ⟨0x1000020, Code.unitSpared, 1⟩ = 1)) ∧
    (p = true → n = 0 → Yields (.unitTransient 3 u row x sp) s (fun e => (3, u) ∈ e.flt.outUnits ∧ e.get (F.CIPH_LANE_CFG_OUT u) = 1 ∧ e.get F.FLT_HEALTH_UNITS_OUT = 1 ∧ e.get ⟨0x1000020, Code.unitOut, 1⟩ = 1))) ∧
  (∀ (s : State) (u row n : Nat) (x sp : Bool) (p : Bool), s.dev.Live → p = (s.dev.countTransient 4 u 0).2.2 → n = s.dev.get F.FLT_HEALTH_CRC_SPARES → u < 32 → (4, u) ∉ s.dev.flt.outUnits →
    (s.dev.get (F.STOR_CRC_STATUS_STATE u) = 1 → p = false → Yields (.unitTransient 4 u row x sp) s (fun e => e.get (F.STOR_CRC_STATUS_STATE u) = 2 ∧ e.get (F.STOR_CRC_STATUS_ERROR u) = 1 ∧ e.boot = s.dev.boot)) ∧
    (p = true → n ≠ 0 →
      (s.dev.get (F.STOR_CRC_STATUS_STATE u) = 0 → Yields (.unitTransient 4 u row x sp) s (fun e => mapGet e.flt.crcPhys u = some (34 - n) ∧ e.get F.FLT_HEALTH_CRC_SPARES = n - 1)) ∧
      (s.dev.get (F.STOR_CRC_STATUS_STATE u) ≠ 0 → Yields (.unitTransient 4 u row x sp) s (fun e => (∃ m, mapGet e.flt.crcMoves u = some (34 - n, m)) ∧ e.flt.crcPhys = s.dev.flt.crcPhys ∧
        e.get F.FLT_HEALTH_CRC_SPARES = n - 1)))) ∧
  (∀ (s : State) (k u row n : Nat) (p : Bool), s.dev.Live → k = 5 ∨ k = 6 → p = (s.dev.countTransient k u row).2.2 → n = s.dev.get F.FLT_HEALTH_BANK_SPARES → u < 65536 →
    (∀ sp, p = false → Yields (.unitTransient k u row false sp) s (fun e => { e with flt := s.dev.flt } = s.dev ∧ mapGet e.flt.unitTimes (unitKey k u row) ≠ none)) ∧
    (∀ x, p = true ∨ x = true →
      Yields (.unitTransient k u row x true) s (fun e => (rowKind k, u) ∈ e.boot.store.retiredUnits ∧ e.ctr K.FLT_SPARES_USED = (s.dev.ctr K.FLT_SPARES_USED + 1) % 2 ^ 64 ∧ e.get F.FLT_HEALTH_BANK_SPARES = n) ∧
      (k = 5 → n ≠ 0 → Yields (.unitTransient k u row x false) s (fun e => (u, 2 - n) ∈ e.flt.bankCopy ∧ e.get F.FLT_HEALTH_BANK_SPARES = n - 1)) ∧
      (k = 5 → n = 0 → Yields (.unitTransient k u row x false) s (fun e => (5, u) ∈ e.flt.outUnits)) ∧
      (k = 6 → Yields (.unitTransient k u row x false) s (fun e => e.get ⟨0x1000020, Code.sramRepair, 1⟩ = 1 ∧ e.boot = s.dev.boot)))) ∧
  (∀ (s : State) (c row n : Nat) (sp : Bool), s.dev.Live → s.dev.hif.faulted = [] → c < 64 → (2, c) ∉ s.dev.flt.outUnits → (∀ th < 8, (s.dev.thread (8 * c + th)).shuttle = none) → n = s.dev.get F.FLT_HEALTH_CORE_SPARES →
    ((s.dev.countTransient 2 c 0).2.2 = false → Yields (.unitTransient 2 c row false sp) s (fun e => e.ctr K.BARB_CORE_RESETS = (s.dev.ctr K.BARB_CORE_RESETS + 1) % 2 ^ 64 ∧ (e.thread (8 * c)).run = 1 ∧
      e.get (F.BARB_CORE_CFG_PHYS c) = s.dev.get (F.BARB_CORE_CFG_PHYS c))) ∧
    (mapGet s.dev.flt.unitTimes (unitKey 15 c row) = none → Yields (.unitTransient 2 c row true sp) s (fun e => e.ctr K.BARB_PROGRAM_FAULT = (s.dev.ctr K.BARB_PROGRAM_FAULT + 1) % 2 ^ 64 ∧
      mapGet e.flt.unitTimes (unitKey 15 c row) ≠ none)) ∧
    ((s.dev.countTransient 2 c 0).2.2 = true → n ≠ 0 → Yields (.unitTransient 2 c row false sp) s (fun e => e.get (F.BARB_CORE_CFG_PHYS c) = 68 - n ∧ e.get F.FLT_HEALTH_CORE_SPARES = n - 1 ∧
      e.ctr K.BARB_CORE_RESETS = (s.dev.ctr K.BARB_CORE_RESETS + 1) % 2 ^ 64)) ∧
    ((2, c) ∈ s.dev.flt.wearMoves → n ≠ 0 → Yields (.wearCoreMove c) s (fun e => e.get (F.BARB_CORE_CFG_PHYS c) = 68 - n ∧ e.get F.FLT_HEALTH_CORE_SPARES = n - 1 ∧ (2, c) ∉ e.flt.wearMoves))) ∧
  (∀ (s : State) (c : Nat), (2, c) ∉ s.dev.flt.wearMoves → Yields (.wearCoreMove c) s (fun e => e = s.dev)) ∧
  (∀ (s : State) (k u row : Nat) (x sp : Bool), k < 2 ∨ 6 < k ∨ (k = 2 ∧ 64 ≤ u) ∨ (k = 3 ∧ 16 ≤ u) ∨ (k = 4 ∧ 32 ≤ u) ∨ 65536 ≤ u ∨ (k = 2 ∧ (2, u) ∈ s.dev.flt.outUnits) ∨ (k = 3 ∧ s.dev.get (F.CIPH_LANE_CFG_OUT u) = 1) ∨ (k = 4 ∧ (4, u) ∈ s.dev.flt.outUnits) →
    Yields (.unitTransient k u row x sp) s (fun e => e = s.dev)) ∧
  (∀ (s : State) (b : Nat), Yields (.spareBankCopyDone b) s (fun e => (∀ p, p ∈ e.flt.bankCopy ↔ p ∈ s.dev.flt.bankCopy ∧ p.1 ≠ b) ∧ e.bus = s.dev.bus)) ∧
  (∀ (s : State) (k u v : Nat), k < 3 → s.dev.side k ≠ 0 → s.dev.side k ≠ 4 →
    Yields (.selfTestVector k u v true) s (fun e => (k, u, v) ∉ e.flt.suspect ∧ e.bus = s.dev.bus) ∧
    ((k, u, v) ∉ s.dev.flt.suspect → Yields (.selfTestVector k u v false) s (fun e => (k, u, v) ∈ e.flt.suspect ∧ e.bus = s.dev.bus)) ∧
    ((k, u, v) ∈ s.dev.flt.suspect → s.dev.side k ≠ 1 → Yields (.selfTestVector k u v false) s (fun e => e.side k = 4 ∧ k ∈ e.boot.store.retiredSides ∧ (e.get F.FLT_HEALTH_ST_FAIL).testBit k = true ∧
      (s.dev.side k = 2 → e.standbySide = 3))) ∧
    ((k, u, v) ∈ s.dev.flt.suspect → s.dev.side k = 1 → k ≠ s.dev.standbySide →
      (s.dev.single = false → Yields (.selfTestVector k u v false) s (fun e => e.side k = 4 ∧ e.activeSide = s.dev.standbySide ∧ e.standbySide = 3 ∧
        e.ctr K.FLT_PLANNED_SWITCHES = (s.dev.ctr K.FLT_PLANNED_SWITCHES + 1) % 2 ^ 64)) ∧
      (s.dev.single = true → Yields (.selfTestVector k u v false) s (fun e => e.side k = 1 ∧ (e.get F.FLT_HEALTH_ST_FAIL).testBit k = true)))) ∧
  (∀ (s : State) (k u v : Nat) (p : Bool), s.dev.side k = 0 ∨ s.dev.side k = 4 → Yields (.selfTestVector k u v p) s (fun e => e = s.dev)) ∧
  (∀ (s : State) (k u slow : Nat), s.dev.hif.faulted = [] → s.dev.sys.ready = true → 1 ≤ k → k ≤ 5 → (k, u) ∉ s.dev.flt.outUnits →
    (slow < s.dev.get F.FLT_WEAR_LIMIT → Yields (.wearRead k u slow) s (fun e => e = s.dev)) ∧
    (s.dev.get F.FLT_WEAR_LIMIT ≤ slow →
      (s.dev.spareLeft k = false → Yields (.wearRead k u slow) s (fun e => e.get F.FLT_HEALTH_WEAR = 1 ∧ e.get ⟨0x1000020, Code.wear, 1⟩ = 1 ∧ e.flt = s.dev.flt)) ∧
      (s.dev.spareLeft k = true → s.dev.flt.wearMoves ≠ [] → Yields (.wearRead k u slow) s (fun e => e = s.dev)) ∧
      (s.dev.flt.wearMoves = [] → k = 2 → s.dev.spareLeft 2 = true → Yields (.wearRead 2 u slow) s (fun e => e.flt.wearMoves = [(2, u)] ∧ e.ctr K.FLT_WEAR_MOVES = (s.dev.ctr K.FLT_WEAR_MOVES + 1) % 2 ^ 64)) ∧
      (s.dev.flt.wearMoves = [] → k = 3 → u < 16 → s.dev.spareLeft 3 = true → Yields (.wearRead 3 u slow) s (fun e => e.get (F.CIPH_LANE_CFG_PHYS u) = 18 - s.dev.get F.FLT_HEALTH_CIPHER_SPARES)))) ∧
  (∀ (s : State) (a row : Nat) (pe late : Bool), s.dev.get F.DRAM_STATUS_READY ≠ 0 →
    Yields (.scrubRead a row 0 pe late) s (fun e => { e.dram with sweeps := s.dev.dram.sweeps } = s.dev.dram ∧
      (pe = true → e.ctr K.DRAM_SCRUB_PASSES = (s.dev.ctr K.DRAM_SCRUB_PASSES + 1) % 2 ^ 64 ∧ mapGet e.dram.sweeps (channelOf a) = some s.dev.time.cycles) ∧
      (pe = false → e.ctr K.DRAM_SCRUB_PASSES = s.dev.ctr K.DRAM_SCRUB_PASSES ∧ e.dram.sweeps = s.dev.dram.sweeps) ∧
      e.get F.DRAM_EVENT_SCRUB_LATE = (if late = true ∧ s.dev.get F.DRAM_SCRUB_SCRUB_H * 3600 * secondCycles < s.dev.time.cycles - mapGetD s.dev.dram.sweeps (channelOf a) 0 then 1
        else s.dev.get F.DRAM_EVENT_SCRUB_LATE)) ∧
    Yields (.scrubRead a row 1 pe late) s (fun e => e.ctr K.DRAM_CORRECTED = (s.dev.ctr K.DRAM_CORRECTED + 1) % 2 ^ 64 ∧ e.get F.DRAM_EVENT_CORRECTED = 1 ∧ e.dram.poison = s.dev.dram.poison ∧ e.dram.wq = s.dev.dram.wq ∧
      (s.dev.get F.DRAM_SCRUB_PPR_THRESH ≤ 1 → row ∈ e.dram.repairs)) ∧
    (∀ k, k = 2 ∨ k = 3 → Yields (.scrubRead a row k pe late) s (fun e => e.ctr K.DRAM_UNCORRECTED = (s.dev.ctr K.DRAM_UNCORRECTED + 1) % 2 ^ 64 ∧ e.get F.DRAM_EVENT_UNCORRECTED = 1 ∧ row ∈ e.dram.repairs ∧
      e.get ⟨0x1000020, Code.dramUncorr, 1⟩ = 1 ∧ (mirrored a = true → e.dram.poison = s.dev.dram.poison ∧ e.ctr K.DRAM_MIRROR_SAVED = (s.dev.ctr K.DRAM_MIRROR_SAVED + 1) % 2 ^ 64) ∧
      (mirrored a = false → a / 8 ∈ e.dram.poison)))) ∧
  (∀ (s : State) (a row k : Nat) (pe late : Bool), s.dev.get F.DRAM_STATUS_READY = 0 → Yields (.scrubRead a row k pe late) s (fun e => e = s.dev)) ∧
  (∀ (s : State) (row a : Nat),
    (row ∈ s.dev.dram.repairs → Yields (.pprRepair row a true) s (fun e => row ∉ e.dram.repairs ∧ row ∈ e.dram.repairsDone ∧ e.ctr K.DRAM_REPAIRS = (s.dev.ctr K.DRAM_REPAIRS + 1) % 2 ^ 64 ∧ e.get F.DRAM_EVENT_REPAIRED = 1) ∧
      Yields (.pprRepair row a false) s (fun e => row ∉ e.dram.repairs ∧ e.dram.repairsDone = s.dev.dram.repairsDone ∧ e.get F.DRAM_EVENT_REPAIR_EXHAUSTED = 1 ∧ e.get ⟨0x1000020, Code.dramRepair, 1⟩ = 1)) ∧
    (∀ b, row ∉ s.dev.dram.repairs → Yields (.pprRepair row a b) s (fun e => e = s.dev)))

/-- R399 to R405 and R408: the rows of Table 3 as commands; an image is read from flash through the opaque contents of assumption log 35. -/
def Obligations.StartUpStepsTakeTheirPlace : Prop :=
  (∀ s : State, s.dev.sys.powerGood = true → s.dev.sys.inReset = false → s.dev.boot.started = false →
    Yields .bootStart s (fun d => d.boot.started = true ∧ d.boot.store.bootNumber = s.dev.boot.store.bootNumber + 1 ∧
      d.get F.BOOT_COUNT_BOOT_NUMBER = (s.dev.boot.store.bootNumber + 1) % 2 ^ 64 ∧ d.boot.fuses = s.dev.boot.fuses ∧ d.boot.flash = s.dev.boot.flash ∧
      d.boot.store.trial = (if s.dev.sys.recoverN then none else s.dev.boot.store.trial) ∧
      ((∀ k < 3, k ∈ s.dev.boot.store.retiredSides) → d.boot.failed = true) ∧
      ((∃ k < 3, k ∉ s.dev.boot.store.retiredSides) → d.boot.running = (if s.dev.sys.recoverN then
        s.dev.boot.store.trial.getD (s.dev.boot.store.preferred % 2) else 2)))) ∧
  (∀ s : State, s.dev.boot.started = true → Yields .bootStart s (fun d => d = s.dev)) ∧
  (∀ (s : State) (c : Nat) (rest : List Nat), s.dev.boot.started = true → s.dev.boot.failed = false → s.dev.sys.ready = false → s.dev.candidateBad = true →
    s.dev.boot.candidates = c :: rest → Yields .candidateFail s (fun d => d.boot.running = c ∧ d.boot.candidates = rest ∧ d.boot.failed = false ∧
      d.sys.configReady = false ∧ d.boot.store = s.dev.boot.store ∧ d.boot.flash = s.dev.boot.flash)) ∧
  (∀ s : State, s.dev.boot.started = true → s.dev.boot.failed = false → s.dev.sys.ready = false → s.dev.candidateBad = true →
    s.dev.boot.candidates = [] → Yields .candidateFail s (fun d => d.boot.failed = true)) ∧
  (∀ s : State, s.dev.candidateBad = false → Yields .candidateFail s (fun d => d = s.dev)) ∧
  (∀ s : State, s.dev.boot.started = true → s.dev.boot.failed = false → s.dev.sys.configReady = false → s.dev.boot.meas.length = 8 →
    Yields .configSpaceReady s (fun d => if s.dev.candidateBad = true ∨ Config.hostSection (s.dev.sectFor s.dev.boot.running 6 s.dev.boot.sections) = none
      then d = s.dev else d.sys.configReady = true ∧ d.measured 4 = sha512 (s.dev.measured 4 ++ s.dev.digestOf 4) ∧
      d.measured 5 = sha512 (s.dev.measured 5 ++ s.dev.digestOf 6) ∧ (∀ i, i ≠ 4 → i ≠ 5 → d.measured i = s.dev.measured i))) ∧
  (∀ s : State, s.dev.sys.configReady = true → s.dev.sys.ddr5Trained = false → s.dev.boot.failed = false →
    Clears .ddr5Trained s (fun d => d.sys.ddr5Trained = true ∧ d.get F.DRAM_STATUS_READY = 15 ∧ d.dram.wq = [] ∧ d.dram.poison = [] ∧
      SameWordsBut [0xF00000] d s.dev)) ∧
  (∀ s : State, s.dev.sys.configReady = true → s.dev.sys.firmwareLoaded = false → s.dev.boot.failed = false →
    s.dev.boot.meas.length = 8 → Yields .firmwareLoaded s (fun d => if s.dev.candidateBad = true then d = s.dev else d.sys.firmwareLoaded = true ∧
      d.measured 1 = sha512 (s.dev.measured 1 ++ s.dev.digestOf 1) ∧ d.measured 3 = sha512 (s.dev.measured 3 ++ s.dev.digestOf 3) ∧
      (∀ c < 8, s.dev.flt.outUnits.contains (2, c) = false → (d.thread (8 * c)).run = 1))) ∧
  (∀ s : State, s.dev.boot.started = true → s.dev.boot.failed = false → s.dev.sys.ready = false → s.dev.drbgReady = false →
    Yields (.entropyStartupTest true) s (fun d => d.drbgReady = true ∧ d.ledg.publicKey = edPublic d.ledg.privateKey ∧
        d.get F.LEDG_KEY_ID_KEY_ID = leNat (keyId d.ledg.publicKey) ∧ d.get F.LEDG_STATUS_KEY_READY = 1 ∧ d.ciph.unseeded = []) ∧
    Yields (.entropyStartupTest false) s (fun d => d.drbgReady = false ∧ d.get F.CIPH_EVENT_ENTROPY_FAIL = 1 ∧ d.ledg = s.dev.ledg ∧
        d.ctr K.CIPH_ENTROPY_FAIL = (s.dev.ctr K.CIPH_ENTROPY_FAIL + 1) % 2 ^ 64)) ∧
  (∀ s : State, s.dev.sys.ready = false → s.dev.boot.failed = false →
    s.dev.boot.running ≠ 2 → s.dev.sys.firmwareLoaded = true → s.dev.sys.ddr5Trained = true → s.dev.drbgReady = true → s.dev.sys.ethRefclk = true →
    (∀ k < 3, s.dev.side k ≠ 5) → s.dev.hif.faulted = [] →
    Yields .dataplaneReady s (fun d => match s.dev.installCheck, Config.hostSection (s.dev.sectFor s.dev.boot.running 6 s.dev.boot.sections) with
      | some (x, _), some _ => d.sys.ready = true ∧ d.cfg.version = x.version ∧ d.get F.BOOT_STATUS_DATAPLANE_READY = 1
      | _, _ => d = s.dev)) ∧
  (∀ s : State, s.dev.boot.running = 2 ∨ s.dev.sys.firmwareLoaded = false ∨ s.dev.sys.ddr5Trained = false ∨ s.dev.drbgReady = false ∨
    s.dev.sys.ethRefclk = false → Yields .dataplaneReady s (fun d => d = s.dev)) ∧
  (∀ (s : State) (inst off n : Nat) (x : Sect) (t : List Sect), ofKind s.dev.boot.sections 5 = x :: t → s.dev.sys.configReady = true →
    inst = 0 ∨ (inst = 2 ∧ s.dev.hif.split = true) → off + n ≤ 2 ^ 20 → Yields (.romRead inst off n) s (fun d =>
      d.out = s.dev.out ++ [.bytes 6 ((List.range n).map (fun i =>
        if off + i < x.length then mapGetD s.dev.boot.flash (regionBase s.dev.boot.running + x.offset + off + i) 0xFF else 0xFF))] ∧
      { d with out := s.dev.out } = s.dev)) ∧
  (∀ (s : State) (inst off n : Nat), inst ≠ 0 → inst ≠ 2 → Yields (.romRead inst off n) s (fun d => d.out = s.dev.out ++ [.unsupported off] ∧
      { d with out := s.dev.out } = s.dev))

/-- R396, R398, R406, R413 and R414. Bytes of flash, fuses and the store after each operation, and each refusal. The idle slot under the golden image, and that an effect comes at the end of its operation, are assumption log 39; an aligned place is required by the model where Table 6 says aligned. -/
def Obligations.BootOperationsActAndAreRefused : Prop :=
  (∀ s : State, s.dev.BootReady → s.dev.get F.BOOT_ADDR_OFFSET + 256 ≤ 112 * 2 ^ 20 → Yields .bootRead s (fun d =>
    d.BootBusy 0 0 (s.dev.get F.BOOT_ARG_ARG) ∧ d.boot.flash = s.dev.boot.flash ∧
    d.winBytes 0x1200100 256 = s.dev.flashBytes (regionBase s.dev.idleSlot + s.dev.get F.BOOT_ADDR_OFFSET) 256)) ∧
  (∀ s : State, s.dev.BootReady → s.dev.get F.BOOT_ADDR_OFFSET + 256 > 112 * 2 ^ 20 → Yields .bootRead s (fun d =>
    d.BootBusy 0 1 (s.dev.get F.BOOT_ARG_ARG) ∧ d.boot.flash = s.dev.boot.flash)) ∧
  (∀ (s : State) (f : Nat), s.dev.BootReady → Yields (.erase f) s (fun d =>
    let a := s.dev.get F.BOOT_ADDR_OFFSET
    d.boot.flash = s.dev.boot.flash ∧ if a % 65536 ≠ 0 ∨ a + 65536 > 112 * 2 ^ 20 then d.BootBusy 1 1 (s.dev.get F.BOOT_ARG_ARG) else
    d.get (F.BOOT_SLOT_VERIFIED s.dev.idleSlot) = 0 ∧
    if f < 2 then d.BootBusy 1 0 (s.dev.get F.BOOT_ARG_ARG) ∧ (f = 1 → d.get F.BOOT_EVENT_FLASH_ERROR = 1) ∧ d.boot.op.map (fun r => r.addr) = some (regionBase s.dev.idleSlot + a)
    else d.BootBusy 1 7 (s.dev.get F.BOOT_ARG_ARG) ∧ d.get F.BOOT_EVENT_FLASH_ERROR = 1)) ∧
  (∀ (s : State) (f : Nat), s.dev.BootReady → Yields (.program f) s (fun d =>
    let a := s.dev.get F.BOOT_ADDR_OFFSET
    d.boot.flash = s.dev.boot.flash ∧ if a % 256 ≠ 0 ∨ a + 256 > 112 * 2 ^ 20 then d.BootBusy 2 1 (s.dev.get F.BOOT_ARG_ARG) else
    d.get (F.BOOT_SLOT_VERIFIED s.dev.idleSlot) = 0 ∧
    if f < 2 then d.BootBusy 2 0 (s.dev.get F.BOOT_ARG_ARG) ∧ (f = 1 → d.get F.BOOT_EVENT_FLASH_ERROR = 1) ∧
      d.boot.op.map (fun r => (r.addr, r.data)) = some (regionBase s.dev.idleSlot + a, s.dev.winBytes 0x1200100 256)
    else d.BootBusy 2 7 (s.dev.get F.BOOT_ARG_ARG) ∧ d.get F.BOOT_EVENT_FLASH_ERROR = 1)) ∧
  (∀ s : State, s.dev.BootReady → Yields .verify s (fun d => ∃ r, d.BootBusy 3 r (s.dev.get F.BOOT_ARG_ARG) ∧
    d.get (F.BOOT_SLOT_VERIFIED s.dev.idleSlot) = (if r = 0 then 1 else 0) ∧ d.boot.flash = s.dev.boot.flash ∧
    (s.dev.manifestResult s.dev.idleSlot ≠ 0 → r = s.dev.manifestResult s.dev.idleSlot) ∧
    (s.dev.manifestResult s.dev.idleSlot = 0 →
      (∃ x ∈ sectsOf (s.dev.manifest s.dev.idleSlot), s.dev.sectOk s.dev.idleSlot x = false) → r = 4))) ∧
  (∀ s : State, s.dev.BootReady → Yields .next s (fun d => d.boot.store = s.dev.boot.store ∧ d.BootBusy 4
    (if s.dev.get (F.BOOT_SLOT_VERIFIED (s.dev.get F.BOOT_ARG_ARG % 2)) = 1 then 0 else 2) (s.dev.get F.BOOT_ARG_ARG))) ∧
  (∀ s : State, s.dev.BootReady → Yields .confirm s (fun d => d.boot.store = s.dev.boot.store ∧
    d.BootBusy 5 (if s.dev.sys.ready then 0 else 2) (s.dev.get F.BOOT_ARG_ARG))) ∧
  (∀ s : State, s.dev.BootReady → Yields (.rollback 0xB007) s (fun d =>
    let t := s.dev.get F.BOOT_ARG_ARG
    d.boot.fuses = s.dev.boot.fuses ∧ d.BootBusy 6 (if s.dev.boot.running = 2 ∨ t ≤ s.dev.boot.fuses.rollback ∨ t > 64 ∨ t > s.dev.get F.BOOT_STATUS_SVN then 2
      else if s.dev.goldenSvn < t then 6 else 0) t)) ∧
  (∀ s : State, s.dev.BootReady → Yields (.enroll 0xB007) s (fun d => d.boot.fuses = s.dev.boot.fuses ∧ d.BootBusy 7
    (if s.dev.boot.running = 2 ∨ s.dev.keyInForce = some (ownerHash s.dev.boot.ownerKey) ∨ s.dev.boot.fuses.places.all (fun p => p.isSome) = true then 2 else 0) (s.dev.get F.BOOT_ARG_ARG))) ∧
  (∀ s : State, s.dev.BootReady → Yields (.revoke 0xB007) s (fun d =>
    let k := s.dev.get F.BOOT_ARG_ARG
    let ps := s.dev.boot.fuses.places
    d.boot.fuses = s.dev.boot.fuses ∧ match ps.getD k none with
    | none => d.BootBusy 8 (if k > 3 then 1 else 2) k
    | some x => d.BootBusy 8 (if (s.dev.boot.running ≠ 2 ∧ x.hash = ownerHash s.dev.boot.ownerKey) ∨ (x.revoked = false ∧ (ps.filter (fun p => match p with
          | some y => !y.revoked
          | none => false)).length ≤ 1) then 2 else 0) k)) ∧
  (∀ (s : State) (key : Nat), key ≠ 0xB007 →
    (s.dev.BootReady → (∀ p ∈ ([(.rollback key, 6), (.enroll key, 7), (.revoke key, 8)] : List (Instr × Nat)), Yields p.1 s (fun d => d.get F.BOOT_CTRL_OP = p.2 ∧ d.get F.BOOT_CTRL_BUSY = 0 ∧
      d.boot = s.dev.boot ∧ SameWordsBut [0x1200008] d s.dev))) ∧
    (s.dev.get F.BOOT_CTRL_BUSY = 1 → Yields (.rollback key) s (fun d => d = s.dev) ∧ Yields (.enroll key) s (fun d => d = s.dev) ∧ Yields (.revoke key) s (fun d => d = s.dev))) ∧
  (∀ s : State, s.dev.get F.BOOT_CTRL_BUSY = 1 → Yields .bootRead s (fun d => d = s.dev) ∧ Yields .verify s (fun d => d = s.dev) ∧
    Yields .next s (fun d => d = s.dev) ∧ Yields .confirm s (fun d => d = s.dev) ∧ Yields (.enroll 0xB007) s (fun d => d = s.dev)) ∧
  (∀ (s : State) (r : BootRun), s.dev.boot.op = some r → r.result < 16 → Yields .bootOpComplete s (fun d => d.boot.op = none ∧
    d.get F.BOOT_CTRL_BUSY = 0 ∧ d.get F.BOOT_CTRL_RESULT = r.result ∧ d.get F.BOOT_EVENT_OP_DONE = 1 ∧
    (r.result ≠ 0 → { d.boot with op := s.dev.boot.op } = s.dev.boot) ∧
    (r.op ≠ 1 → r.op ≠ 2 → d.boot.flash = s.dev.boot.flash) ∧ (r.op ≠ 4 → r.op ≠ 5 → d.boot.store = s.dev.boot.store) ∧ (r.op < 6 ∨ 8 < r.op → d.boot.fuses = s.dev.boot.fuses ∧ d.boot.meas = s.dev.boot.meas) ∧
    (r.result = 0 →
      (r.op = 1 → ∀ x, mapGetD d.boot.flash x 0xFF = if r.addr ≤ x ∧ x < r.addr + 65536 then 0xFF else mapGetD s.dev.boot.flash x 0xFF) ∧
      (r.op = 2 → ∀ x, mapGetD d.boot.flash x 0xFF = if r.addr ≤ x ∧ x < r.addr + r.data.length then r.data.getD (x - r.addr) 0 else mapGetD s.dev.boot.flash x 0xFF) ∧
      (r.op = 4 → d.boot.store = if r.arg.testBit 1 = true then { s.dev.boot.store with trial := some (r.arg % 2) } else { s.dev.boot.store with preferred := r.arg % 2 }) ∧
      (r.op = 5 → d.boot.store = { s.dev.boot.store with preferred := s.dev.boot.running, trial := none }) ∧
      (r.op = 6 → d.boot.fuses = { s.dev.boot.fuses with rollback := max s.dev.boot.fuses.rollback r.arg } ∧ (s.dev.boot.fuses.rollback < r.arg → r.arg ≤ 64 → d.get F.BOOT_STATUS_ROLLBACK = r.arg)) ∧
      (r.op = 7 → d.boot.fuses = match s.dev.boot.fuses.places.findIdx? (fun p => p.isNone) with
        | none => s.dev.boot.fuses
        | some k => { s.dev.boot.fuses with places := s.dev.boot.fuses.places.set k (some { hash := ownerHash s.dev.boot.ownerKey, revoked := false }) }) ∧
      (r.op = 8 → ∀ x, s.dev.boot.fuses.places.getD r.arg none = some x →
        d.boot.fuses = { s.dev.boot.fuses with places := s.dev.boot.fuses.places.set r.arg (some { x with revoked := true }) })))) ∧
  (∀ s : State, s.dev.boot.op = none → Yields .bootOpComplete s (fun d => d = s.dev)) ∧
  (∀ s : State, s.dev.responds 0x1200030 = true → Yields .debugNonceRead s (fun d =>
    let v := if s.dev.drbgReady then (Config.freeValue s.dev.free).toNat else 0
    d.out = s.dev.out ++ [.readData (v % 2 ^ 32)] ∧ d.get F.BOOT_DEBUG_NONCE_NONCE = v ∧ d.boot.nonce = v ∧ d.boot.nonceTime = s.dev.time.cycles ∧ d.boot.nonceOk = s.dev.drbgReady)) ∧
  (∀ (d : Dev) (c : List Byte), d.boot.nonceOk = false → d.certOk c = false) ∧
  (∀ s : State, s.dev.responds 0x1200038 = true → Yields .debugCertSubmit s (fun d =>
    let c := s.dev.winBytes 0x1200400 128
    if s.dev.certOk c = true then d.get F.BOOT_CTRL_RESULT = 0 ∧ d.get F.BOOT_EVENT_DEBUG_UNLOCK = 1 ∧ d.boot.nonceOk = false ∧
      d.get F.BOOT_STATUS_DEBUG = (s.dev.get F.BOOT_STATUS_DEBUG ||| field c 1 1) ∧
      (d.get F.BARB_DBG_STATUS_VENDOR_EN = if (field c 1 1).testBit 1 then 1 else s.dev.get F.BARB_DBG_STATUS_VENDOR_EN)
    else d.get F.BOOT_CTRL_RESULT = 3 ∧ d.boot = s.dev.boot ∧ SameWordsBut [0x1200008] d s.dev)) ∧
  (∀ (s : State) (core th item : Nat) (b : List Byte), s.dev.sys.powerGood = true → s.dev.sys.inReset = false → s.dev.boot.started = true →
    Yields (.dbgIoCommand 0 core th item b) s (fun d => d.out = s.dev.out ++ [.bytes 5 (leBytes 4 (s.dev.word 0).toNat)] ∧
      { d with out := s.dev.out } = s.dev) ∧
    Yields (.dbgIoCommand 1 core th item b) s (fun d => if s.dev.certOk b = true
      then d.get F.BOOT_STATUS_DEBUG = (s.dev.get F.BOOT_STATUS_DEBUG ||| field b 1 1) ∧ d.boot.nonceOk = false
      else d.get F.BOOT_CTRL_RESULT = 3 ∧ d.boot = s.dev.boot) ∧
    (∀ n ≥ 2, (s.dev.get F.BOOT_STATUS_DEBUG).testBit 2 = false → Yields (.dbgIoCommand n core th item b) s (fun d => d = s.dev)) ∧
    ((s.dev.get F.BOOT_STATUS_DEBUG).testBit 2 = true → s.dev.debugAt core th = true → Yields (.dbgIoCommand 6 core th item b) s (fun d =>
      d.out = s.dev.out ++ [.bytes 5 (leBytes 8 ((s.dev.thread (8 * core + th)).item item).toNat)] ∧ { d with out := s.dev.out } = s.dev)))

/-- R409 to R411; the byte layout of the messages is the model choice of assumption log 38. -/
def Obligations.ResponderAnswersEachRequest : Prop :=
  (∀ (s : State) (t : Nat) (e : Bool), s.dev.spdmOn t = true → (e && t == 1) = false →
    Yields (.getVersion t e) s (fun d => s.dev.Answered t 1 [0x84] [0x04, 0x00, 0x12] d) ∧
    Yields (.spdmUnsupported t e) s (fun d => d.out = s.dev.out ++ [.bytes (2 + t) [0x7F, 7]] ∧ { d with out := s.dev.out } = s.dev) ∧
    (1 ≤ (s.dev.spdmAt t).stage → Yields (.getCapabilities t e) s (fun d =>
      s.dev.Answered t (max 2 (s.dev.spdmAt t).stage) ((s.dev.spdmAt t).transcript ++ [0xE1]) [0x61, 0x16, 0, 0, 0] d)) ∧
    (2 ≤ (s.dev.spdmAt t).stage → Yields (.negotiateAlgorithms t true true true e) s (fun d =>
      s.dev.Answered t (max 3 (s.dev.spdmAt t).stage) ((s.dev.spdmAt t).transcript ++ [0xE3, 7]) [0x63, 7] d)) ∧
    (2 ≤ (s.dev.spdmAt t).stage → ∀ a b c : Bool, (a && b && c) = false → Yields (.negotiateAlgorithms t a b c e) s (fun d =>
      d.out = s.dev.out ++ [.bytes (2 + t) [0x7F, 1]] ∧ { d with out := s.dev.out } = s.dev)) ∧
    ((s.dev.spdmAt t).stage = 0 → Yields (.getCapabilities t e) s (fun d => d.out = s.dev.out ++ [.bytes (2 + t) [0x7F, 4]] ∧
      { d with out := s.dev.out } = s.dev)) ∧
    ((s.dev.spdmAt t).stage < 3 → Yields (.getDigests t e) s (fun d => d.out = s.dev.out ++ [.bytes (2 + t) [0x7F, 4]] ∧
      { d with out := s.dev.out } = s.dev))) ∧
  (∀ (s : State) (t : Nat) (e : Bool), s.dev.spdmOn t = true → (e && t == 1) = false → 3 ≤ (s.dev.spdmAt t).stage →
    let x := s.dev.spdmAt t
    Yields (.getDigests t e) s (fun d => s.dev.Answered t x.stage (x.transcript ++ [0x81])
      ([0x01, 3] ++ sha512 (s.dev.chain 0) ++ sha512 (s.dev.chain 1)) d) ∧
    (∀ slot off n : Nat, slot < 2 → Yields (.getCertificate t slot off n e) s (fun d =>
      let c := s.dev.chain slot
      let part := (c.drop off).take n
      if off < c.length then s.dev.Answered t x.stage (x.transcript ++ [0x82] ++ (leBytes 1 slot ++ leBytes 2 off ++ leBytes 2 n))
        ([0x02] ++ leBytes 1 slot ++ leBytes 2 part.length ++ leBytes 2 (c.length - off - part.length) ++ part) d
      else d.out = s.dev.out ++ [.bytes (2 + t) [0x7F, 1]] ∧ { d with out := s.dev.out } = s.dev)) ∧
    (∀ (slot : Nat) (nonce : List Byte), slot < 2 → nonce.length = 32 → Yields (.challenge t slot nonce e) s (fun d =>
      let asked := x.transcript ++ [0x83] ++ (leBytes 1 slot ++ nonce)
      let body := leBytes 1 slot ++ sha512 (s.dev.chain slot) ++ nonce
      s.dev.Answered t x.stage asked ([0x03] ++ body ++ edSign s.dev.attestKey (asked ++ body)) d)) ∧
    (∀ (i : Nat) (nonce : List Byte), 1 ≤ i → i ≤ 9 → Yields (.getMeasurements t i false nonce e) s (fun d =>
      s.dev.Answered t x.stage (x.transcript ++ [0xE0] ++ (leBytes 1 i ++ [0] ++ nonce)) ([0x60, 1] ++ leBytes 1 i ++ s.dev.measurement i) d)) ∧
    (∀ nonce : List Byte, Yields (.getMeasurements t 255 true nonce e) s (fun d =>
      let asked := x.transcript ++ [0xE0] ++ ([255, 1] ++ nonce)
      let body := [9] ++ (([1, 2, 3, 4, 5, 6, 7, 8, 9] : List Nat).flatMap (fun i => leBytes 1 i ++ s.dev.measurement i))
      s.dev.Answered t x.stage asked ([0x60] ++ body ++ edSign s.dev.attestKey (asked ++ body)) d))) ∧
  (∀ (s : State) (i slot off n : Nat) (nonce : List Byte) (a b c g : Bool), s.dev.spdmOn 1 = true →
    ∀ r ∈ [Instr.getVersion 1 true, .getCapabilities 1 true, .negotiateAlgorithms 1 a b c true, .getDigests 1 true, .getCertificate 1 slot off n true,
      .challenge 1 slot nonce true, .getMeasurements 1 i g nonce true, .spdmUnsupported 1 true],
      Yields r s (fun d => d.out = s.dev.out ++ [.bytes 3 [0x7F, 3]] ∧ { d with out := s.dev.out } = s.dev)) ∧
  (∀ (s : State) (t : Nat) (e : Bool), s.dev.spdmOn t = false → Yields (.getVersion t e) s (fun d => d = s.dev) ∧
    Yields (.getDigests t e) s (fun d => d = s.dev) ∧ Yields (.spdmUnsupported t e) s (fun d => d = s.dev)) ∧
  (∀ s : State, s.dev.sys.powerGood = true → s.dev.boot.started = true →
    Yields .readHealth s (fun d => { d with out := s.dev.out } = s.dev ∧
      d.out = s.dev.out ++ [.bytes 3 (leBytes 4 (s.dev.word 0x1000000).toNat ++ leBytes 4 (s.dev.word 0x1200000).toNat)]) ∧
    Yields .readId s (fun d => { d with out := s.dev.out } = s.dev ∧
      d.out = s.dev.out ++ [.bytes 3 (leBytes 4 (s.dev.word 0).toNat ++ sliceBytes Config.serial 0 16)]))

/-- R424 to R426, R433 to R438, and the phases of R387. -/
def Obligations.PowerInputsPhasesAndThermalStages : Prop :=
  (∀ (s : State) (i v w : Nat), i < 2 → Yields (.vinAccept i v w) s (fun d =>
    let o := s.dev.flag (vinOk (1 - i))
    d.get (vinOk i) = 1 ∧ d.get (vinOk (1 - i)) = s.dev.get (vinOk (1 - i)) ∧
    d.get F.PWR_STATUS_SOURCE = (if o = false then i + 1 else if v ≤ w + 200 ∧ w ≤ v + 200 then 3 else if v > w then i + 1 else 2 - i) ∧
    d.pwr.holdUp = false ∧ (s.dev.pwr.holdUp = true → d.get F.PWR_EVENT_RIDE_THROUGH = 1 ∧
      d.ctr K.PWR_RIDE_THROUGHS = (s.dev.ctr K.PWR_RIDE_THROUGHS + 1) % 2 ^ 64) ∧
    { d with bus := s.dev.bus, pwr := s.dev.pwr } = s.dev)) ∧
  (∀ (s : State) (i : Nat) (high : Bool), i < 2 → s.dev.get (vinOk i) = 1 → Yields (.vinDrop i high) s (fun d =>
    d.get (vinOk i) = 0 ∧ d.get (if i = 0 then F.PWR_EVENT_VIN_A_FAULT else F.PWR_EVENT_VIN_B_FAULT) = 1 ∧
    (s.dev.flag (vinOk (1 - i)) = true → d.get F.PWR_STATUS_SOURCE = 2 - i ∧ d.pwr = s.dev.pwr) ∧
    (s.dev.flag (vinOk (1 - i)) = false → d.get F.PWR_STATUS_SOURCE = 0 ∧ d.pwr.holdUp = s.dev.sys.powerGood ∧ d.pwr.overCause = high))) ∧
  (∀ (s : State) (i : Nat) (high : Bool), i < 2 → s.dev.get (vinOk i) = 0 → Yields (.vinDrop i high) s (fun d => d = s.dev)) ∧
  (∀ s : State, s.dev.pwr.holdUp = true → Clears .holdupExpire s (fun d => d.sys.powerGood = false ∧ d.sys.inReset = true ∧ d.pwr.holdUp = false ∧
    d.boot.store = { s.dev.boot.store with lastOff := if s.dev.pwr.overCause then 2 else 1 } ∧ d.shuts = [])) ∧
  (∀ s : State, s.dev.pwr.holdUp = false → Yields .holdupExpire s (fun d => d = s.dev)) ∧
  (∀ (s : State) (r p : Nat), r < 12 → s.dev.sys.powerGood = true → 0 < s.dev.get (F.PWR_RAIL_SPARES r) → Yields (.phaseFail r p) s (fun d =>
    d.get (F.PWR_RAIL_SPARES r) = s.dev.get (F.PWR_RAIL_SPARES r) - 1 ∧ d.get (F.PWR_RAIL_RETIRED r) = (s.dev.get (F.PWR_RAIL_RETIRED r) + 1) % 16 ∧
    d.get F.PWR_EVENT_PHASE_RETIRED = 1 ∧ d.ctr K.PWR_PHASES_RETIRED = (s.dev.ctr K.PWR_PHASES_RETIRED + 1) % 2 ^ 64 ∧
    d.pwr = s.dev.pwr ∧ d.get F.PWR_STATUS_STAGE = s.dev.get F.PWR_STATUS_STAGE)) ∧
  (∀ (s : State) (r p : Nat), r < 12 → s.dev.sys.powerGood = true → s.dev.get (F.PWR_RAIL_SPARES r) = 0 → s.dev.pwr.shortRails.contains r = false →
    Yields (.phaseFail r p) s (fun d => d.get F.PWR_STATUS_RAIL_SHORT = 1 ∧ d.get F.PWR_EVENT_RAIL_SHORT = 1 ∧
      d.get F.PWR_STATUS_STAGE = max 2 (s.dev.get F.PWR_STATUS_STAGE) ∧ d.pwr.shortRails = s.dev.pwr.shortRails ++ [r] ∧ d.pwr.stageHeld = true)) ∧
  (∀ (s : State) (r p : Nat), r < 12 → s.dev.sys.powerGood = true → s.dev.get (F.PWR_RAIL_SPARES r) = 0 → s.dev.pwr.shortRails.contains r = true →
    Clears (.phaseFail r p) s (fun d => d.sys.powerGood = false ∧ d.boot.store.lastOff = 4 ∧ d.shuts = [])) ∧
  (∀ (s : State) (l j : Int), s.dev.sys.powerGood = true → -2 ^ 15 ≤ l → l < 2 ^ 15 → -2 ^ 15 ≤ j → j < 2 ^ 15 → Yields (.thermalSample l j) s (fun d =>
    d.lid = l ∧ signedOf 16 (d.get F.PWR_TEMP_JUNCTION_MAX) = j ∧ SameWordsBut [0x1100018] d s.dev ∧ { d with bus := s.dev.bus } = s.dev)) ∧
  (∀ (s : State) (k : Nat), k = 1 ∨ k = 2 → s.dev.get F.PWR_STATUS_STAGE < k → s.dev.stageThreshold k ≤ s.dev.lid →
    Yields (.thermalStageEnter k) s (fun d => d.get F.PWR_STATUS_STAGE = k ∧ d.get F.PWR_EVENT_STAGE_CHANGE = 1 ∧
      d.ctr (if k = 1 then K.PWR_SHED_BE_ENTRIES else K.PWR_SHED_AS_ENTRIES) =
        (s.dev.ctr (if k = 1 then K.PWR_SHED_BE_ENTRIES else K.PWR_SHED_AS_ENTRIES) + 1) % 2 ^ 64 ∧ { d with bus := s.dev.bus } = s.dev)) ∧
  (∀ (s : State) (k : Nat), s.dev.lid < s.dev.stageThreshold k → Yields (.thermalStageEnter k) s (fun d => d = s.dev)) ∧
  (∀ (s : State) (k : Nat), k < s.dev.get F.PWR_STATUS_STAGE → s.dev.lid ≤ s.dev.stageThreshold (k + 1) - 30 → s.dev.pwr.stageHeld = false →
    Yields (.thermalStageExit k) s (fun d => d.get F.PWR_STATUS_STAGE = k ∧ { d with bus := s.dev.bus } = s.dev)) ∧
  (∀ (s : State) (k : Nat), s.dev.pwr.stageHeld = true → Yields (.thermalStageExit k) s (fun d => d = s.dev)) ∧
  (∀ s : State, 10 * (s.dev.lidMax + 10) ≤ s.dev.lid ∨ 1150 ≤ signedOf 16 (s.dev.get F.PWR_TEMP_JUNCTION_MAX) →
    Clears .thermalShutdown s (fun d => d.sys.powerGood = false ∧ d.sys.inReset = true ∧ d.boot.store.lastOff = 3 ∧ d.pwr.shutdown = true ∧ d.shuts = [])) ∧
  (∀ s : State, s.dev.lid < 10 * (s.dev.lidMax + 10) → signedOf 16 (s.dev.get F.PWR_TEMP_JUNCTION_MAX) < 1150 →
    Yields .thermalShutdown s (fun d => d = s.dev)) ∧
  (∀ s : State, Yields .ethRefclkStable s (fun d => d.sys.ethRefclk = true ∧ { d with sys := s.dev.sys } = s.dev))
end

