-- ==== Sys2Proof/Laws/Maps.lean ====
section
/-! SUPPORT. Laws of sparse tables, of bit fields and of DDR5's canonical form. -/
namespace Sys2Proof.Machine
open Sys2Proof

/-! ## Sparse tables -/

@[simp] theorem mapGet_nil {α : Type} (a : Nat) : mapGet ([] : SMap α) a = none := rfl

/-- A written key reads what was written. -/
@[simp] theorem mapGet_mapPut_self {α : Type} (m : SMap α) (a : Nat) (x : α) : mapGet (mapPut m a x) a = some x := by
  induction m with
  | nil => simp [mapPut, mapGet]
  | cons p t ih =>
    obtain ⟨k, v⟩ := p
    simp only [mapPut]
    split
    · simp [mapGet]
    · split
      · simp [mapGet]
      · simp [mapGet, *]

/-- A write leaves every other key. -/
theorem mapGet_mapPut_ne {α : Type} (m : SMap α) {a b : Nat} (x : α) (h : b ≠ a) : mapGet (mapPut m a x) b = mapGet m b := by
  induction m with
  | nil => simp [mapPut, mapGet, h]
  | cons p t ih =>
    obtain ⟨k, v⟩ := p
    simp only [mapPut]
    split
    · simp [mapGet, h]
    · split
      · subst_vars
        simp [mapGet, h]
      · simp [mapGet, ih]

/-- An erased key reads nothing. -/
@[simp] theorem mapGet_mapErase_self {α : Type} (m : SMap α) (a : Nat) : mapGet (mapErase m a) a = none := by
  induction m with
  | nil => rfl
  | cons p t ih =>
    obtain ⟨k, v⟩ := p
    by_cases h : k = a
    · simpa [mapErase, h] using ih
    · have : ¬ a = k := fun e => h e.symm
      simpa [mapErase, h, mapGet, this] using ih

/-- Erasing leaves every other key. -/
theorem mapGet_mapErase_ne {α : Type} (m : SMap α) {a b : Nat} (h : b ≠ a) : mapGet (mapErase m a) b = mapGet m b := by
  induction m with
  | nil => rfl
  | cons p t ih =>
    obtain ⟨k, v⟩ := p
    by_cases hk : k = a
    · subst hk
      simpa [mapErase, mapGet, h] using ih
    · by_cases hb : b = k
      · subst hb
        simp [mapErase, hk, mapGet]
      · simpa [mapErase, hk, mapGet, hb] using ih

/-- A table filtered by key. -/
theorem mapGet_filter_key {α : Type} (p : Nat → Bool) (m : SMap α) (a : Nat) :
    mapGet (m.filter (fun q => p q.1)) a = if p a then mapGet m a else none := by
  induction m with
  | nil => simp [mapGet]
  | cons q t ih =>
    obtain ⟨k, v⟩ := q
    by_cases hk : p k = true
    · simp only [List.filter_cons, hk, if_true, mapGet, ih]
      by_cases e : a = k
      · subst e; simp [hk]
      · simp [e]
    · have e : List.filter (fun q => p q.1) ((k, v) :: t) = List.filter (fun q => p q.1) t := by simp [hk]
      rw [e, ih]
      by_cases e : a = k
      · subst e; simp [hk]
      · simp [e, mapGet]

/-- The first part of two joined tables is searched first. -/
theorem mapGet_append {α : Type} (m n : SMap α) (a : Nat) : mapGet (m ++ n) a = (mapGet m a).or (mapGet n a) := by
  induction m with
  | nil => simp [mapGet]
  | cons q t ih =>
    obtain ⟨k, v⟩ := q
    by_cases e : a = k
    · simp [mapGet, e]
    · simp [mapGet, e, ih]

/-- The keys of a tail are larger. -/
theorem mapSorted_tail {α : Type} {p : Nat × α} {t : SMap α} (h : mapSorted (p :: t) = true) : mapSorted t = true := by
  match t with
  | [] => rfl
  | (b, y) :: u => obtain ⟨a, x⟩ := p; simp [mapSorted] at h; exact h.2

/-- Every key after the first is larger. -/
theorem mapSorted_head {α : Type} {k : Nat} {v : α} {t : SMap α} (h : mapSorted ((k, v) :: t) = true) : ∀ q ∈ t, k < q.1 := by
  induction t generalizing k v with
  | nil => simp
  | cons p u ih =>
    obtain ⟨b, y⟩ := p
    simp [mapSorted] at h
    intro q hq
    rcases List.mem_cons.mp hq with rfl | hq
    · exact h.1
    · exact Nat.lt_trans h.1 (ih h.2 q hq)

/-- A list whose keys rise, put together. -/
theorem mapSorted_cons {α : Type} {k : Nat} {v : α} {t : SMap α} (h : mapSorted t = true) (hk : ∀ q ∈ t, k < q.1) :
    mapSorted ((k, v) :: t) = true := by
  match t with
  | [] => rfl
  | (b, y) :: u => simp [mapSorted, h]; exact hk (b, y) (by simp)

/-- The keys of a table after a write. -/
theorem mem_mapPut {α : Type} {m : SMap α} {a : Nat} {x : α} {q : Nat × α} (h : q ∈ mapPut m a x) : q = (a, x) ∨ q ∈ m := by
  induction m with
  | nil => simpa [mapPut] using h
  | cons p t ih =>
    obtain ⟨k, v⟩ := p
    simp only [mapPut] at h
    split at h
    · simpa using h
    · split at h
      · rcases List.mem_cons.mp h with h | h
        · exact .inl h
        · exact .inr (List.mem_cons_of_mem _ h)
      · rcases List.mem_cons.mp h with h | h
        · exact .inr (by simp [h])
        · rcases ih h with h | h
          · exact .inl h
          · exact .inr (List.mem_cons_of_mem _ h)

/-- A write keeps keys rising. -/
theorem mapSorted_mapPut {α : Type} {m : SMap α} (a : Nat) (x : α) (h : mapSorted m = true) : mapSorted (mapPut m a x) = true := by
  induction m with
  | nil => rfl
  | cons p t ih =>
    obtain ⟨k, v⟩ := p
    have ht := mapSorted_tail h
    have hk := mapSorted_head h
    simp only [mapPut]
    split
    · refine mapSorted_cons h (fun q hq => ?_)
      rcases List.mem_cons.mp hq with rfl | hq
      · assumption
      · exact Nat.lt_trans ‹_› (hk q hq)
    · split
      · subst_vars
        exact mapSorted_cons ht hk
      · refine mapSorted_cons (ih ht) (fun q hq => ?_)
        rcases mem_mapPut hq with rfl | hq
        · simp only; omega
        · exact hk q hq

/-- Erasing keeps keys rising. -/
theorem mapSorted_mapErase {α : Type} {m : SMap α} (a : Nat) (h : mapSorted m = true) : mapSorted (mapErase m a) = true := by
  induction m with
  | nil => rfl
  | cons p t ih =>
    obtain ⟨k, v⟩ := p
    have ht := mapSorted_tail h
    have hk := mapSorted_head h
    by_cases e : k = a
    · simpa [mapErase, e] using ih ht
    · have : mapErase ((k, v) :: t) a = (k, v) :: mapErase t a := by simp [mapErase, e]
      rw [this]
      exact mapSorted_cons (ih ht) (fun q hq => hk q (List.mem_of_mem_filter hq))

/-! ## DDR5 -/

/-- The empty DDR5 is canonical. -/
@[simp] theorem memWf_nil : memWf [] = true := rfl

/-- A byte written keeps the canonical form. -/
theorem memWf_memPut {m : List Host.Cell} (a : Nat) (b : Byte) (h : memWf m = true) : memWf (memPut m a b) = true := by
  simp only [memWf, Bool.and_eq_true, List.all_eq_true] at h ⊢
  unfold memPut
  split
  · exact ⟨mapSorted_mapErase a h.1, fun q hq => h.2 q (List.mem_of_mem_filter hq)⟩
  · refine ⟨mapSorted_mapPut a b h.1, fun q hq => ?_⟩
    rcases mem_mapPut hq with rfl | hq
    · simpa using ‹¬ b = 0›
    · exact h.2 q hq

/-- Bytes written keep the canonical form. -/
theorem memWf_memWrite {m : List Host.Cell} (a : Nat) (l : List Byte) (h : memWf m = true) : memWf (memWrite m a l) = true := by
  induction l generalizing m a with
  | nil => exact h
  | cons b t ih => exact ih (a + 1) (memWf_memPut a b h)

/-- The cells of one queued write keep the canonical form. -/
theorem memWf_memCells {m : List Host.Cell} (l : List Host.Cell) (h : memWf m = true) : memWf (memCells m l) = true := by
  unfold memCells
  induction l generalizing m with
  | nil => exact h
  | cons c t ih => exact ih (memWf_memPut c.1 c.2 h)

/-- DDR5 as a read sees it is canonical. -/
theorem memWf_ddrView {m : List Host.Cell} (wq : List (Nat × List Host.Cell)) (h : memWf m = true) : memWf (ddrView m wq) = true := by
  unfold ddrView
  induction wq generalizing m with
  | nil => exact h
  | cons w t ih => exact ih (memWf_memCells w.2 h)

/-- A written byte reads back. -/
@[simp] theorem memGet_memPut_self (m : List Host.Cell) (a : Nat) (b : Byte) : memGet (memPut m a b) a = b := by
  unfold memPut memGet
  split
  · simp [*]
  · simp

/-- A written byte leaves every other byte. -/
theorem memGet_memPut_ne (m : List Host.Cell) {a c : Nat} (b : Byte) (h : c ≠ a) : memGet (memPut m a b) c = memGet m c := by
  unfold memPut memGet
  split
  · rw [mapGet_mapErase_ne _ h]
  · rw [mapGet_mapPut_ne _ _ h]

/-- Written bytes leave every byte outside them. -/
theorem memGet_memWrite_outside (m : List Host.Cell) (a : Nat) (l : List Byte) {c : Nat} (h : c < a ∨ a + l.length ≤ c) :
    memGet (memWrite m a l) c = memGet m c := by
  induction l generalizing m a with
  | nil => rfl
  | cons b t ih =>
    simp only [List.length_cons] at h
    rw [memWrite, ih (memPut m a b) (a + 1) (by omega), memGet_memPut_ne _ _ (by omega)]

/-- Written bytes read back. -/
theorem memGet_memWrite_inside (m : List Host.Cell) (a : Nat) (l : List Byte) {i : Nat} (h : i < l.length) :
    memGet (memWrite m a l) (a + i) = l.getD i 0 := by
  induction l generalizing m a i with
  | nil => simp at h
  | cons b t ih =>
    rw [memWrite]
    cases i with
    | zero => rw [memGet_memWrite_outside _ _ _ (by omega)]; simp
    | succ j =>
      have := ih (memPut m a b) (a + 1) (i := j) (by simpa using h)
      rw [show a + (j + 1) = a + 1 + j by omega, this]
      simp

/-- What a byte reads after one is written. -/
theorem memGet_memPut (m : List Host.Cell) (a : Nat) (b : Byte) (c : Nat) : memGet (memPut m a b) c = if c = a then b else memGet m c := by
  split
  · subst c; exact memGet_memPut_self m a b
  · exact memGet_memPut_ne m b ‹_›

/-- What a byte reads after some cells depends on the memory below only through that byte. -/
theorem memGet_memCells_congr {m n : List Host.Cell} (l : List Host.Cell) {c : Nat} (h : memGet m c = memGet n c) :
    memGet (memCells m l) c = memGet (memCells n l) c := by
  unfold memCells
  induction l generalizing m n with
  | nil => exact h
  | cons p t ih => exact ih (by simp only [memGet_memPut, h])

/-- Cells of other addresses leave a byte. -/
theorem memGet_memCells_absent (m : List Host.Cell) {l : List Host.Cell} {c : Nat} (h : ∀ p ∈ l, p.1 ≠ c) : memGet (memCells m l) c = memGet m c := by
  unfold memCells
  induction l generalizing m with
  | nil => rfl
  | cons p t ih =>
    rw [List.foldl_cons, ih _ (fun q hq => h q (by simp [hq])), memGet_memPut_ne _ _ (Ne.symm (h p (by simp)))]

/-- Cells erased at another address leave a byte. -/
theorem memGet_memCells_erase (m l : List Host.Cell) {a c : Nat} (h : c ≠ a) : memGet (memCells m (mapErase l a)) c = memGet (memCells m l) c := by
  induction l generalizing m with
  | nil => rfl
  | cons p t ih =>
    by_cases e : p.1 = a
    · have : mapErase (p :: t) a = mapErase t a := by simp [mapErase, e]
      rw [this, ih]
      exact memGet_memCells_congr t (by rw [memGet_memPut_ne _ _ (by rw [e]; exact h)])
    · have : mapErase (p :: t) a = p :: mapErase t a := by simp [mapErase, e]
      rw [this]
      exact ih (memPut m p.1 p.2)

/-- A cell written among others at another address leaves a byte. -/
theorem memGet_memCells_put (m l : List Host.Cell) {a c : Nat} (b : Byte) (h : c ≠ a) : memGet (memCells m (mapPut l a b)) c = memGet (memCells m l) c := by
  induction l generalizing m with
  | nil => exact memGet_memPut_ne _ _ h
  | cons p t ih =>
    obtain ⟨k, v⟩ := p
    simp only [mapPut]
    split
    · exact memGet_memCells_congr ((k, v) :: t) (memGet_memPut_ne _ _ h)
    · split
      · rename_i e
        subst e
        exact memGet_memCells_congr t (by rw [memGet_memPut_ne _ _ h, memGet_memPut_ne _ _ h])
      · exact ih (memPut m k v)

/-- A cell written where its address stood nowhere else reads back. -/
theorem memGet_memCells_put_self (m l : List Host.Cell) (a : Nat) (b : Byte) : memGet (memCells m (mapPut (mapErase l a) a b)) a = b := by
  have h : ∀ p ∈ mapErase l a, p.1 ≠ a := fun p hp => by simpa [mapErase] using (List.mem_filter.mp hp).2
  generalize mapErase l a = t at h
  induction t generalizing m with
  | nil => exact memGet_memPut_self m a b
  | cons p t ih =>
    obtain ⟨k, v⟩ := p
    have hk : k ≠ a := h (k, v) (by simp)
    have ht : ∀ p ∈ t, p.1 ≠ a := fun p hp => h p (by simp [hp])
    simp only [mapPut]
    split
    · exact (memGet_memCells_absent (memPut m a b) h).trans (memGet_memPut_self m a b)
    · split
      · omega
      · exact ih (memPut m k v) ht

/-- What a byte reads through the write queue depends on the memory below only through that byte. -/
theorem memGet_ddrView_congr {m n : List Host.Cell} (q : List (Nat × List Host.Cell)) {c : Nat} (h : memGet m c = memGet n c) :
    memGet (ddrView m q) c = memGet (ddrView n q) c := by
  unfold ddrView
  induction q generalizing m n with
  | nil => exact h
  | cons w t ih => exact ih (memGet_memCells_congr w.2 h)

/-- Queued writes changed one by one, each to the same effect on a byte, leave it. -/
theorem memGet_ddrView_map (m : List Host.Cell) (q : List (Nat × List Host.Cell)) {c : Nat} (f : Nat × List Host.Cell → Nat × List Host.Cell)
    (h : ∀ n w, w ∈ q → memGet (memCells n (f w).2) c = memGet (memCells n w.2) c) : memGet (ddrView m (q.map f)) c = memGet (ddrView m q) c := by
  induction q generalizing m with
  | nil => rfl
  | cons w t ih =>
    exact (ih (memCells m (f w).2) (fun n x hx => h n x (by simp [hx]))).trans (memGet_ddrView_congr t (h m w (by simp)))

/-- A queued byte reads back, and every other byte reads as before (R366). -/
theorem memGet_queueByte (m : List Host.Cell) (q : List (Nat × List Host.Cell)) (a : Nat) (b : Byte) (c : Nat) :
    memGet (ddrView m (queueByte q a b)) c = if c = a then b else memGet (ddrView m q) c := by
  unfold queueByte
  split
  · subst c
    simp only
    split
    · rename_i h
      simp only [List.any_map, List.any_eq_true, Function.comp, beq_iff_eq] at h
      have key : ∀ (q : List (Nat × List Host.Cell)) (n : List Host.Cell), (∃ x ∈ q, x.1 = a / 64) ∨ memGet n a = b →
          memGet (ddrView n ((q.map (fun e => (e.1, mapErase e.2 a))).map (fun e => if e.1 = a / 64 then (e.1, mapPut e.2 a b) else e))) a = b := by
        intro q
        induction q with
        | nil => intro n h; simpa [ddrView] using h
        | cons w t ih =>
          intro n h
          refine ih _ ?_
          by_cases e : w.1 = a / 64
          · exact .inr (by simpa [e] using memGet_memCells_put_self n w.2 a b)
          · refine h.imp (fun hx => by simpa [e] using hx) (fun hn => ?_)
            have hp : ∀ p ∈ mapErase w.2 a, p.1 ≠ a := fun p hp => by simpa [mapErase] using (List.mem_filter.mp hp).2
            simpa [e] using (memGet_memCells_absent n hp).trans hn
      exact key q m (.inl h)
    · rw [ddrView, List.foldl_append]
      exact memGet_memPut_self _ a b
  · rename_i hc
    have e1 : ∀ n, memGet (ddrView n (q.map (fun e => (e.1, mapErase e.2 a)))) c = memGet (ddrView n q) c :=
      fun n => memGet_ddrView_map n q _ (fun n w _ => memGet_memCells_erase n w.2 hc)
    simp only
    split
    · rw [memGet_ddrView_map m _ _ (fun n w _ => ?_), e1]
      split
      · exact memGet_memCells_put n w.2 b hc
      · rfl
    · rw [ddrView, List.foldl_append]
      exact (memGet_memPut_ne _ _ hc).trans (e1 m)

/-- Queued bytes read back, and every other byte reads as before (R366). -/
theorem memGet_queueBytes (m : List Host.Cell) (q : List (Nat × List Host.Cell)) (a : Nat) (l : List Byte) (c : Nat) :
    memGet (ddrView m (queueBytes q a l)) c = if a ≤ c ∧ c < a + l.length then l.getD (c - a) 0 else memGet (ddrView m q) c := by
  induction l generalizing q a with
  | nil => rw [if_neg (by simp only [List.length_nil]; omega)]; rfl
  | cons b t ih =>
    rw [queueBytes, ih, memGet_queueByte]
    by_cases h1 : a + 1 ≤ c ∧ c < a + 1 + t.length
    · rw [if_pos h1, if_pos (by simp; omega), show c - a = (c - (a + 1)) + 1 by omega]; rfl
    · rw [if_neg h1]
      by_cases h2 : c = a
      · subst h2; simp
      · rw [if_neg h2, if_neg (by simp; omega)]

/-! ## Bit fields -/

/-- A written field reads back. -/
theorem bitsOf_bitsSet_self (x lo w v : Nat) : bitsOf (bitsSet x lo w v) lo w = v % 2 ^ w := by
  unfold bitsOf bitsSet
  rw [Nat.shiftRight_eq_div_pow, Nat.shiftRight_eq_div_pow]
  have h1 : x % 2 ^ lo < 2 ^ lo := Nat.mod_lt _ (by positivity)
  have e : x % 2 ^ lo + 2 ^ lo * (v % 2 ^ w) + 2 ^ (lo + w) * (x / 2 ^ (lo + w)) =
      x % 2 ^ lo + 2 ^ lo * (v % 2 ^ w + 2 ^ w * (x / 2 ^ (lo + w))) := by
    rw [Nat.pow_add]; ring
  rw [e, Nat.add_mul_div_left _ _ (by positivity), Nat.div_eq_of_lt h1]
  simp

/-- Bit `i` of a number with a field written. -/
theorem testBit_bitsSet (x lo w v i : Nat) :
    (bitsSet x lo w v).testBit i = if lo ≤ i ∧ i < lo + w then v.testBit (i - lo) else x.testBit i := by
  have h1 : x % 2 ^ lo < 2 ^ lo := Nat.mod_lt _ (by positivity)
  have h2 : v % 2 ^ w < 2 ^ w := Nat.mod_lt _ (by positivity)
  have h3 : x % 2 ^ lo + 2 ^ lo * (v % 2 ^ w) < 2 ^ (lo + w) := by
    rw [Nat.pow_add]
    calc _ < 2 ^ lo + 2 ^ lo * (v % 2 ^ w) := by omega
      _ = 2 ^ lo * (v % 2 ^ w + 1) := by ring
      _ ≤ _ := Nat.mul_le_mul_left _ h2
  unfold bitsSet
  rw [Nat.add_comm (x % 2 ^ lo + 2 ^ lo * (v % 2 ^ w)), Nat.testBit_two_pow_mul_add _ h3]
  split
  · rw [Nat.add_comm, Nat.testBit_two_pow_mul_add _ h1]
    split
    · rw [if_neg (by omega), Nat.testBit_mod_two_pow]; simp [*]
    · rw [if_pos (by omega), Nat.testBit_mod_two_pow, decide_eq_true (by omega), Bool.true_and]
  · rw [if_neg (by omega), Nat.testBit_shiftRight]
    congr 1; omega

/-- A field apart from the written one is as before. -/
theorem bitsOf_bitsSet_apart (x lo w v lo' w' : Nat) (h : lo' + w' ≤ lo ∨ lo + w ≤ lo') :
    bitsOf (bitsSet x lo w v) lo' w' = bitsOf x lo' w' := by
  unfold bitsOf
  apply Nat.eq_of_testBit_eq
  intro i
  rw [Nat.testBit_mod_two_pow, Nat.testBit_mod_two_pow, Nat.testBit_shiftRight, Nat.testBit_shiftRight, testBit_bitsSet]
  by_cases hi : i < w'
  · rw [if_neg (by omega)]
  · simp [hi]

/-- A field written into a number of `n` bits leaves a number of `n` bits. -/
theorem bitsSet_lt (x lo w v n : Nat) (hx : x < 2 ^ n) (h : lo + w ≤ n) : bitsSet x lo w v < 2 ^ n := by
  apply Nat.lt_pow_two_of_testBit
  intro i hi
  rw [testBit_bitsSet, if_neg (by omega)]
  exact Nat.testBit_lt_two_pow (Nat.lt_of_lt_of_le hx (Nat.pow_le_pow_right (by omega) hi))

end Sys2Proof.Machine
end

