-- ==== Sys2Proof/Laws/State.lean ====
section
/-! SUPPORT. One law for each field of the device and each named update: which field an update changes, and that it leaves the others. -/
namespace Sys2Proof

/-- Two fields that share no bit, each within one 64-bit register at its address. -/
def Fld.apart (f g : Fld) : Bool :=
  (f.addr + 4 < g.addr || g.addr + 4 < f.addr)
    || (f.lo + f.width ≤ 32 && g.lo + g.width ≤ 32 && (f.addr != g.addr || g.lo + g.width ≤ f.lo || f.lo + f.width ≤ g.lo))
    || (f.addr == g.addr && 32 < f.lo + f.width && f.lo + f.width ≤ 64 && 32 < g.lo + g.width && g.lo + g.width ≤ 64
      && (g.lo + g.width ≤ f.lo || f.lo + f.width ≤ g.lo))

end Sys2Proof

namespace Sys2Proof.Machine
open Sys2Proof

variable (d : Dev)

@[simp] theorem Dev.modBus_bus (f : Bus → Bus) : (d.modBus f).bus = f d.bus := rfl
@[simp] theorem Dev.modBus_cfg (f : Bus → Bus) : (d.modBus f).cfg = d.cfg := rfl
@[simp] theorem Dev.modBus_sys (f : Bus → Bus) : (d.modBus f).sys = d.sys := rfl
@[simp] theorem Dev.modBus_time (f : Bus → Bus) : (d.modBus f).time = d.time := rfl
@[simp] theorem Dev.modBus_loom (f : Bus → Bus) : (d.modBus f).loom = d.loom := rfl
@[simp] theorem Dev.modBus_ledg (f : Bus → Bus) : (d.modBus f).ledg = d.ledg := rfl
@[simp] theorem Dev.modBus_flt (f : Bus → Bus) : (d.modBus f).flt = d.flt := rfl
@[simp] theorem Dev.modBus_pwr (f : Bus → Bus) : (d.modBus f).pwr = d.pwr := rfl
@[simp] theorem Dev.modBus_dom (f : Bus → Bus) : (d.modBus f).dom = d.dom := rfl
@[simp] theorem Dev.modBus_xing (f : Bus → Bus) : (d.modBus f).xing = d.xing := rfl
@[simp] theorem Dev.modBus_boot (f : Bus → Bus) : (d.modBus f).boot = d.boot := rfl
@[simp] theorem Dev.modBus_dram (f : Bus → Bus) : (d.modBus f).dram = d.dram := rfl
@[simp] theorem Dev.modBus_hed (f : Bus → Bus) : (d.modBus f).hed = d.hed := rfl
@[simp] theorem Dev.modBus_fwd (f : Bus → Bus) : (d.modBus f).fwd = d.fwd := rfl
@[simp] theorem Dev.modBus_net (f : Bus → Bus) : (d.modBus f).net = d.net := rfl
@[simp] theorem Dev.modBus_ciph (f : Bus → Bus) : (d.modBus f).ciph = d.ciph := rfl
@[simp] theorem Dev.modBus_stor (f : Bus → Bus) : (d.modBus f).stor = d.stor := rfl
@[simp] theorem Dev.modBus_reed (f : Bus → Bus) : (d.modBus f).reed = d.reed := rfl
@[simp] theorem Dev.modBus_barb (f : Bus → Bus) : (d.modBus f).barb = d.barb := rfl
@[simp] theorem Dev.modBus_mbox (f : Bus → Bus) : (d.modBus f).mbox = d.mbox := rfl
@[simp] theorem Dev.modBus_movers (f : Bus → Bus) : (d.modBus f).movers = d.movers := rfl
@[simp] theorem Dev.modBus_hif (f : Bus → Bus) : (d.modBus f).hif = d.hif := rfl
@[simp] theorem Dev.modBus_rings (f : Bus → Bus) : (d.modBus f).rings = d.rings := rfl
@[simp] theorem Dev.modBus_ind (f : Bus → Bus) : (d.modBus f).ind = d.ind := rfl
@[simp] theorem Dev.modBus_shuts (f : Bus → Bus) : (d.modBus f).shuts = d.shuts := rfl
@[simp] theorem Dev.modBus_nextShut (f : Bus → Bus) : (d.modBus f).nextShut = d.nextShut := rfl
@[simp] theorem Dev.modBus_seq (f : Bus → Bus) : (d.modBus f).seq = d.seq := rfl
@[simp] theorem Dev.modBus_out (f : Bus → Bus) : (d.modBus f).out = d.out := rfl
@[simp] theorem Dev.modBus_free (f : Bus → Bus) : (d.modBus f).free = d.free := rfl
@[simp] theorem Dev.modBus_sh (f : Bus → Bus) (g : Fld) : (d.modBus f).sh g = d.sh g := rfl

@[simp] theorem Dev.modCfg_bus (f : Cfg → Cfg) : (d.modCfg f).bus = d.bus := rfl
@[simp] theorem Dev.modCfg_cfg (f : Cfg → Cfg) : (d.modCfg f).cfg = f d.cfg := rfl
@[simp] theorem Dev.modCfg_sys (f : Cfg → Cfg) : (d.modCfg f).sys = d.sys := rfl
@[simp] theorem Dev.modCfg_time (f : Cfg → Cfg) : (d.modCfg f).time = d.time := rfl
@[simp] theorem Dev.modCfg_loom (f : Cfg → Cfg) : (d.modCfg f).loom = d.loom := rfl
@[simp] theorem Dev.modCfg_ledg (f : Cfg → Cfg) : (d.modCfg f).ledg = d.ledg := rfl
@[simp] theorem Dev.modCfg_flt (f : Cfg → Cfg) : (d.modCfg f).flt = d.flt := rfl
@[simp] theorem Dev.modCfg_pwr (f : Cfg → Cfg) : (d.modCfg f).pwr = d.pwr := rfl
@[simp] theorem Dev.modCfg_dom (f : Cfg → Cfg) : (d.modCfg f).dom = d.dom := rfl
@[simp] theorem Dev.modCfg_xing (f : Cfg → Cfg) : (d.modCfg f).xing = d.xing := rfl
@[simp] theorem Dev.modCfg_boot (f : Cfg → Cfg) : (d.modCfg f).boot = d.boot := rfl
@[simp] theorem Dev.modCfg_dram (f : Cfg → Cfg) : (d.modCfg f).dram = d.dram := rfl
@[simp] theorem Dev.modCfg_hed (f : Cfg → Cfg) : (d.modCfg f).hed = d.hed := rfl
@[simp] theorem Dev.modCfg_fwd (f : Cfg → Cfg) : (d.modCfg f).fwd = d.fwd := rfl
@[simp] theorem Dev.modCfg_net (f : Cfg → Cfg) : (d.modCfg f).net = d.net := rfl
@[simp] theorem Dev.modCfg_ciph (f : Cfg → Cfg) : (d.modCfg f).ciph = d.ciph := rfl
@[simp] theorem Dev.modCfg_stor (f : Cfg → Cfg) : (d.modCfg f).stor = d.stor := rfl
@[simp] theorem Dev.modCfg_reed (f : Cfg → Cfg) : (d.modCfg f).reed = d.reed := rfl
@[simp] theorem Dev.modCfg_barb (f : Cfg → Cfg) : (d.modCfg f).barb = d.barb := rfl
@[simp] theorem Dev.modCfg_mbox (f : Cfg → Cfg) : (d.modCfg f).mbox = d.mbox := rfl
@[simp] theorem Dev.modCfg_movers (f : Cfg → Cfg) : (d.modCfg f).movers = d.movers := rfl
@[simp] theorem Dev.modCfg_hif (f : Cfg → Cfg) : (d.modCfg f).hif = d.hif := rfl
@[simp] theorem Dev.modCfg_rings (f : Cfg → Cfg) : (d.modCfg f).rings = d.rings := rfl
@[simp] theorem Dev.modCfg_ind (f : Cfg → Cfg) : (d.modCfg f).ind = d.ind := rfl
@[simp] theorem Dev.modCfg_shuts (f : Cfg → Cfg) : (d.modCfg f).shuts = d.shuts := rfl
@[simp] theorem Dev.modCfg_nextShut (f : Cfg → Cfg) : (d.modCfg f).nextShut = d.nextShut := rfl
@[simp] theorem Dev.modCfg_seq (f : Cfg → Cfg) : (d.modCfg f).seq = d.seq := rfl
@[simp] theorem Dev.modCfg_out (f : Cfg → Cfg) : (d.modCfg f).out = d.out := rfl
@[simp] theorem Dev.modCfg_free (f : Cfg → Cfg) : (d.modCfg f).free = d.free := rfl
@[simp] theorem Dev.modCfg_get (f : Cfg → Cfg) (g : Fld) : (d.modCfg f).get g = d.get g := rfl
@[simp] theorem Dev.modCfg_ctr (f : Cfg → Cfg) (k : Nat) : (d.modCfg f).ctr k = d.ctr k := rfl
@[simp] theorem Dev.modCfg_flag (f : Cfg → Cfg) (g : Fld) : (d.modCfg f).flag g = d.flag g := rfl

@[simp] theorem Dev.modSys_bus (f : Sys → Sys) : (d.modSys f).bus = d.bus := rfl
@[simp] theorem Dev.modSys_cfg (f : Sys → Sys) : (d.modSys f).cfg = d.cfg := rfl
@[simp] theorem Dev.modSys_sys (f : Sys → Sys) : (d.modSys f).sys = f d.sys := rfl
@[simp] theorem Dev.modSys_time (f : Sys → Sys) : (d.modSys f).time = d.time := rfl
@[simp] theorem Dev.modSys_loom (f : Sys → Sys) : (d.modSys f).loom = d.loom := rfl
@[simp] theorem Dev.modSys_ledg (f : Sys → Sys) : (d.modSys f).ledg = d.ledg := rfl
@[simp] theorem Dev.modSys_flt (f : Sys → Sys) : (d.modSys f).flt = d.flt := rfl
@[simp] theorem Dev.modSys_pwr (f : Sys → Sys) : (d.modSys f).pwr = d.pwr := rfl
@[simp] theorem Dev.modSys_dom (f : Sys → Sys) : (d.modSys f).dom = d.dom := rfl
@[simp] theorem Dev.modSys_xing (f : Sys → Sys) : (d.modSys f).xing = d.xing := rfl
@[simp] theorem Dev.modSys_boot (f : Sys → Sys) : (d.modSys f).boot = d.boot := rfl
@[simp] theorem Dev.modSys_dram (f : Sys → Sys) : (d.modSys f).dram = d.dram := rfl
@[simp] theorem Dev.modSys_hed (f : Sys → Sys) : (d.modSys f).hed = d.hed := rfl
@[simp] theorem Dev.modSys_fwd (f : Sys → Sys) : (d.modSys f).fwd = d.fwd := rfl
@[simp] theorem Dev.modSys_net (f : Sys → Sys) : (d.modSys f).net = d.net := rfl
@[simp] theorem Dev.modSys_ciph (f : Sys → Sys) : (d.modSys f).ciph = d.ciph := rfl
@[simp] theorem Dev.modSys_stor (f : Sys → Sys) : (d.modSys f).stor = d.stor := rfl
@[simp] theorem Dev.modSys_reed (f : Sys → Sys) : (d.modSys f).reed = d.reed := rfl
@[simp] theorem Dev.modSys_barb (f : Sys → Sys) : (d.modSys f).barb = d.barb := rfl
@[simp] theorem Dev.modSys_mbox (f : Sys → Sys) : (d.modSys f).mbox = d.mbox := rfl
@[simp] theorem Dev.modSys_movers (f : Sys → Sys) : (d.modSys f).movers = d.movers := rfl
@[simp] theorem Dev.modSys_hif (f : Sys → Sys) : (d.modSys f).hif = d.hif := rfl
@[simp] theorem Dev.modSys_rings (f : Sys → Sys) : (d.modSys f).rings = d.rings := rfl
@[simp] theorem Dev.modSys_ind (f : Sys → Sys) : (d.modSys f).ind = d.ind := rfl
@[simp] theorem Dev.modSys_shuts (f : Sys → Sys) : (d.modSys f).shuts = d.shuts := rfl
@[simp] theorem Dev.modSys_nextShut (f : Sys → Sys) : (d.modSys f).nextShut = d.nextShut := rfl
@[simp] theorem Dev.modSys_seq (f : Sys → Sys) : (d.modSys f).seq = d.seq := rfl
@[simp] theorem Dev.modSys_out (f : Sys → Sys) : (d.modSys f).out = d.out := rfl
@[simp] theorem Dev.modSys_free (f : Sys → Sys) : (d.modSys f).free = d.free := rfl
@[simp] theorem Dev.modSys_get (f : Sys → Sys) (g : Fld) : (d.modSys f).get g = d.get g := rfl
@[simp] theorem Dev.modSys_ctr (f : Sys → Sys) (k : Nat) : (d.modSys f).ctr k = d.ctr k := rfl
@[simp] theorem Dev.modSys_flag (f : Sys → Sys) (g : Fld) : (d.modSys f).flag g = d.flag g := rfl
@[simp] theorem Dev.modSys_sh (f : Sys → Sys) (g : Fld) : (d.modSys f).sh g = d.sh g := rfl

@[simp] theorem Dev.modTime_bus (f : Time → Time) : (d.modTime f).bus = d.bus := rfl
@[simp] theorem Dev.modTime_cfg (f : Time → Time) : (d.modTime f).cfg = d.cfg := rfl
@[simp] theorem Dev.modTime_sys (f : Time → Time) : (d.modTime f).sys = d.sys := rfl
@[simp] theorem Dev.modTime_time (f : Time → Time) : (d.modTime f).time = f d.time := rfl
@[simp] theorem Dev.modTime_loom (f : Time → Time) : (d.modTime f).loom = d.loom := rfl
@[simp] theorem Dev.modTime_ledg (f : Time → Time) : (d.modTime f).ledg = d.ledg := rfl
@[simp] theorem Dev.modTime_flt (f : Time → Time) : (d.modTime f).flt = d.flt := rfl
@[simp] theorem Dev.modTime_pwr (f : Time → Time) : (d.modTime f).pwr = d.pwr := rfl
@[simp] theorem Dev.modTime_dom (f : Time → Time) : (d.modTime f).dom = d.dom := rfl
@[simp] theorem Dev.modTime_xing (f : Time → Time) : (d.modTime f).xing = d.xing := rfl
@[simp] theorem Dev.modTime_boot (f : Time → Time) : (d.modTime f).boot = d.boot := rfl
@[simp] theorem Dev.modTime_dram (f : Time → Time) : (d.modTime f).dram = d.dram := rfl
@[simp] theorem Dev.modTime_hed (f : Time → Time) : (d.modTime f).hed = d.hed := rfl
@[simp] theorem Dev.modTime_fwd (f : Time → Time) : (d.modTime f).fwd = d.fwd := rfl
@[simp] theorem Dev.modTime_net (f : Time → Time) : (d.modTime f).net = d.net := rfl
@[simp] theorem Dev.modTime_ciph (f : Time → Time) : (d.modTime f).ciph = d.ciph := rfl
@[simp] theorem Dev.modTime_stor (f : Time → Time) : (d.modTime f).stor = d.stor := rfl
@[simp] theorem Dev.modTime_reed (f : Time → Time) : (d.modTime f).reed = d.reed := rfl
@[simp] theorem Dev.modTime_barb (f : Time → Time) : (d.modTime f).barb = d.barb := rfl
@[simp] theorem Dev.modTime_mbox (f : Time → Time) : (d.modTime f).mbox = d.mbox := rfl
@[simp] theorem Dev.modTime_movers (f : Time → Time) : (d.modTime f).movers = d.movers := rfl
@[simp] theorem Dev.modTime_hif (f : Time → Time) : (d.modTime f).hif = d.hif := rfl
@[simp] theorem Dev.modTime_rings (f : Time → Time) : (d.modTime f).rings = d.rings := rfl
@[simp] theorem Dev.modTime_ind (f : Time → Time) : (d.modTime f).ind = d.ind := rfl
@[simp] theorem Dev.modTime_shuts (f : Time → Time) : (d.modTime f).shuts = d.shuts := rfl
@[simp] theorem Dev.modTime_nextShut (f : Time → Time) : (d.modTime f).nextShut = d.nextShut := rfl
@[simp] theorem Dev.modTime_seq (f : Time → Time) : (d.modTime f).seq = d.seq := rfl
@[simp] theorem Dev.modTime_out (f : Time → Time) : (d.modTime f).out = d.out := rfl
@[simp] theorem Dev.modTime_free (f : Time → Time) : (d.modTime f).free = d.free := rfl
@[simp] theorem Dev.modTime_get (f : Time → Time) (g : Fld) : (d.modTime f).get g = d.get g := rfl
@[simp] theorem Dev.modTime_ctr (f : Time → Time) (k : Nat) : (d.modTime f).ctr k = d.ctr k := rfl
@[simp] theorem Dev.modTime_flag (f : Time → Time) (g : Fld) : (d.modTime f).flag g = d.flag g := rfl
@[simp] theorem Dev.modTime_sh (f : Time → Time) (g : Fld) : (d.modTime f).sh g = d.sh g := rfl

@[simp] theorem Dev.modLoom_bus (f : Loom → Loom) : (d.modLoom f).bus = d.bus := rfl
@[simp] theorem Dev.modLoom_cfg (f : Loom → Loom) : (d.modLoom f).cfg = d.cfg := rfl
@[simp] theorem Dev.modLoom_sys (f : Loom → Loom) : (d.modLoom f).sys = d.sys := rfl
@[simp] theorem Dev.modLoom_time (f : Loom → Loom) : (d.modLoom f).time = d.time := rfl
@[simp] theorem Dev.modLoom_loom (f : Loom → Loom) : (d.modLoom f).loom = f d.loom := rfl
@[simp] theorem Dev.modLoom_ledg (f : Loom → Loom) : (d.modLoom f).ledg = d.ledg := rfl
@[simp] theorem Dev.modLoom_flt (f : Loom → Loom) : (d.modLoom f).flt = d.flt := rfl
@[simp] theorem Dev.modLoom_pwr (f : Loom → Loom) : (d.modLoom f).pwr = d.pwr := rfl
@[simp] theorem Dev.modLoom_dom (f : Loom → Loom) : (d.modLoom f).dom = d.dom := rfl
@[simp] theorem Dev.modLoom_xing (f : Loom → Loom) : (d.modLoom f).xing = d.xing := rfl
@[simp] theorem Dev.modLoom_boot (f : Loom → Loom) : (d.modLoom f).boot = d.boot := rfl
@[simp] theorem Dev.modLoom_dram (f : Loom → Loom) : (d.modLoom f).dram = d.dram := rfl
@[simp] theorem Dev.modLoom_hed (f : Loom → Loom) : (d.modLoom f).hed = d.hed := rfl
@[simp] theorem Dev.modLoom_fwd (f : Loom → Loom) : (d.modLoom f).fwd = d.fwd := rfl
@[simp] theorem Dev.modLoom_net (f : Loom → Loom) : (d.modLoom f).net = d.net := rfl
@[simp] theorem Dev.modLoom_ciph (f : Loom → Loom) : (d.modLoom f).ciph = d.ciph := rfl
@[simp] theorem Dev.modLoom_stor (f : Loom → Loom) : (d.modLoom f).stor = d.stor := rfl
@[simp] theorem Dev.modLoom_reed (f : Loom → Loom) : (d.modLoom f).reed = d.reed := rfl
@[simp] theorem Dev.modLoom_barb (f : Loom → Loom) : (d.modLoom f).barb = d.barb := rfl
@[simp] theorem Dev.modLoom_mbox (f : Loom → Loom) : (d.modLoom f).mbox = d.mbox := rfl
@[simp] theorem Dev.modLoom_movers (f : Loom → Loom) : (d.modLoom f).movers = d.movers := rfl
@[simp] theorem Dev.modLoom_hif (f : Loom → Loom) : (d.modLoom f).hif = d.hif := rfl
@[simp] theorem Dev.modLoom_rings (f : Loom → Loom) : (d.modLoom f).rings = d.rings := rfl
@[simp] theorem Dev.modLoom_ind (f : Loom → Loom) : (d.modLoom f).ind = d.ind := rfl
@[simp] theorem Dev.modLoom_shuts (f : Loom → Loom) : (d.modLoom f).shuts = d.shuts := rfl
@[simp] theorem Dev.modLoom_nextShut (f : Loom → Loom) : (d.modLoom f).nextShut = d.nextShut := rfl
@[simp] theorem Dev.modLoom_seq (f : Loom → Loom) : (d.modLoom f).seq = d.seq := rfl
@[simp] theorem Dev.modLoom_out (f : Loom → Loom) : (d.modLoom f).out = d.out := rfl
@[simp] theorem Dev.modLoom_free (f : Loom → Loom) : (d.modLoom f).free = d.free := rfl
@[simp] theorem Dev.modLoom_get (f : Loom → Loom) (g : Fld) : (d.modLoom f).get g = d.get g := rfl
@[simp] theorem Dev.modLoom_ctr (f : Loom → Loom) (k : Nat) : (d.modLoom f).ctr k = d.ctr k := rfl
@[simp] theorem Dev.modLoom_flag (f : Loom → Loom) (g : Fld) : (d.modLoom f).flag g = d.flag g := rfl
@[simp] theorem Dev.modLoom_sh (f : Loom → Loom) (g : Fld) : (d.modLoom f).sh g = d.sh g := rfl

@[simp] theorem Dev.modLedg_bus (f : Ledg → Ledg) : (d.modLedg f).bus = d.bus := rfl
@[simp] theorem Dev.modLedg_cfg (f : Ledg → Ledg) : (d.modLedg f).cfg = d.cfg := rfl
@[simp] theorem Dev.modLedg_sys (f : Ledg → Ledg) : (d.modLedg f).sys = d.sys := rfl
@[simp] theorem Dev.modLedg_time (f : Ledg → Ledg) : (d.modLedg f).time = d.time := rfl
@[simp] theorem Dev.modLedg_loom (f : Ledg → Ledg) : (d.modLedg f).loom = d.loom := rfl
@[simp] theorem Dev.modLedg_ledg (f : Ledg → Ledg) : (d.modLedg f).ledg = f d.ledg := rfl
@[simp] theorem Dev.modLedg_flt (f : Ledg → Ledg) : (d.modLedg f).flt = d.flt := rfl
@[simp] theorem Dev.modLedg_pwr (f : Ledg → Ledg) : (d.modLedg f).pwr = d.pwr := rfl
@[simp] theorem Dev.modLedg_dom (f : Ledg → Ledg) : (d.modLedg f).dom = d.dom := rfl
@[simp] theorem Dev.modLedg_xing (f : Ledg → Ledg) : (d.modLedg f).xing = d.xing := rfl
@[simp] theorem Dev.modLedg_boot (f : Ledg → Ledg) : (d.modLedg f).boot = d.boot := rfl
@[simp] theorem Dev.modLedg_dram (f : Ledg → Ledg) : (d.modLedg f).dram = d.dram := rfl
@[simp] theorem Dev.modLedg_hed (f : Ledg → Ledg) : (d.modLedg f).hed = d.hed := rfl
@[simp] theorem Dev.modLedg_fwd (f : Ledg → Ledg) : (d.modLedg f).fwd = d.fwd := rfl
@[simp] theorem Dev.modLedg_net (f : Ledg → Ledg) : (d.modLedg f).net = d.net := rfl
@[simp] theorem Dev.modLedg_ciph (f : Ledg → Ledg) : (d.modLedg f).ciph = d.ciph := rfl
@[simp] theorem Dev.modLedg_stor (f : Ledg → Ledg) : (d.modLedg f).stor = d.stor := rfl
@[simp] theorem Dev.modLedg_reed (f : Ledg → Ledg) : (d.modLedg f).reed = d.reed := rfl
@[simp] theorem Dev.modLedg_barb (f : Ledg → Ledg) : (d.modLedg f).barb = d.barb := rfl
@[simp] theorem Dev.modLedg_mbox (f : Ledg → Ledg) : (d.modLedg f).mbox = d.mbox := rfl
@[simp] theorem Dev.modLedg_movers (f : Ledg → Ledg) : (d.modLedg f).movers = d.movers := rfl
@[simp] theorem Dev.modLedg_hif (f : Ledg → Ledg) : (d.modLedg f).hif = d.hif := rfl
@[simp] theorem Dev.modLedg_rings (f : Ledg → Ledg) : (d.modLedg f).rings = d.rings := rfl
@[simp] theorem Dev.modLedg_ind (f : Ledg → Ledg) : (d.modLedg f).ind = d.ind := rfl
@[simp] theorem Dev.modLedg_shuts (f : Ledg → Ledg) : (d.modLedg f).shuts = d.shuts := rfl
@[simp] theorem Dev.modLedg_nextShut (f : Ledg → Ledg) : (d.modLedg f).nextShut = d.nextShut := rfl
@[simp] theorem Dev.modLedg_seq (f : Ledg → Ledg) : (d.modLedg f).seq = d.seq := rfl
@[simp] theorem Dev.modLedg_out (f : Ledg → Ledg) : (d.modLedg f).out = d.out := rfl
@[simp] theorem Dev.modLedg_free (f : Ledg → Ledg) : (d.modLedg f).free = d.free := rfl
@[simp] theorem Dev.modLedg_get (f : Ledg → Ledg) (g : Fld) : (d.modLedg f).get g = d.get g := rfl
@[simp] theorem Dev.modLedg_ctr (f : Ledg → Ledg) (k : Nat) : (d.modLedg f).ctr k = d.ctr k := rfl
@[simp] theorem Dev.modLedg_flag (f : Ledg → Ledg) (g : Fld) : (d.modLedg f).flag g = d.flag g := rfl
@[simp] theorem Dev.modLedg_sh (f : Ledg → Ledg) (g : Fld) : (d.modLedg f).sh g = d.sh g := rfl

@[simp] theorem Dev.modFlt_bus (f : Flt → Flt) : (d.modFlt f).bus = d.bus := rfl
@[simp] theorem Dev.modFlt_cfg (f : Flt → Flt) : (d.modFlt f).cfg = d.cfg := rfl
@[simp] theorem Dev.modFlt_sys (f : Flt → Flt) : (d.modFlt f).sys = d.sys := rfl
@[simp] theorem Dev.modFlt_time (f : Flt → Flt) : (d.modFlt f).time = d.time := rfl
@[simp] theorem Dev.modFlt_loom (f : Flt → Flt) : (d.modFlt f).loom = d.loom := rfl
@[simp] theorem Dev.modFlt_ledg (f : Flt → Flt) : (d.modFlt f).ledg = d.ledg := rfl
@[simp] theorem Dev.modFlt_flt (f : Flt → Flt) : (d.modFlt f).flt = f d.flt := rfl
@[simp] theorem Dev.modFlt_pwr (f : Flt → Flt) : (d.modFlt f).pwr = d.pwr := rfl
@[simp] theorem Dev.modFlt_dom (f : Flt → Flt) : (d.modFlt f).dom = d.dom := rfl
@[simp] theorem Dev.modFlt_xing (f : Flt → Flt) : (d.modFlt f).xing = d.xing := rfl
@[simp] theorem Dev.modFlt_boot (f : Flt → Flt) : (d.modFlt f).boot = d.boot := rfl
@[simp] theorem Dev.modFlt_dram (f : Flt → Flt) : (d.modFlt f).dram = d.dram := rfl
@[simp] theorem Dev.modFlt_hed (f : Flt → Flt) : (d.modFlt f).hed = d.hed := rfl
@[simp] theorem Dev.modFlt_fwd (f : Flt → Flt) : (d.modFlt f).fwd = d.fwd := rfl
@[simp] theorem Dev.modFlt_net (f : Flt → Flt) : (d.modFlt f).net = d.net := rfl
@[simp] theorem Dev.modFlt_ciph (f : Flt → Flt) : (d.modFlt f).ciph = d.ciph := rfl
@[simp] theorem Dev.modFlt_stor (f : Flt → Flt) : (d.modFlt f).stor = d.stor := rfl
@[simp] theorem Dev.modFlt_reed (f : Flt → Flt) : (d.modFlt f).reed = d.reed := rfl
@[simp] theorem Dev.modFlt_barb (f : Flt → Flt) : (d.modFlt f).barb = d.barb := rfl
@[simp] theorem Dev.modFlt_mbox (f : Flt → Flt) : (d.modFlt f).mbox = d.mbox := rfl
@[simp] theorem Dev.modFlt_movers (f : Flt → Flt) : (d.modFlt f).movers = d.movers := rfl
@[simp] theorem Dev.modFlt_hif (f : Flt → Flt) : (d.modFlt f).hif = d.hif := rfl
@[simp] theorem Dev.modFlt_rings (f : Flt → Flt) : (d.modFlt f).rings = d.rings := rfl
@[simp] theorem Dev.modFlt_ind (f : Flt → Flt) : (d.modFlt f).ind = d.ind := rfl
@[simp] theorem Dev.modFlt_shuts (f : Flt → Flt) : (d.modFlt f).shuts = d.shuts := rfl
@[simp] theorem Dev.modFlt_nextShut (f : Flt → Flt) : (d.modFlt f).nextShut = d.nextShut := rfl
@[simp] theorem Dev.modFlt_seq (f : Flt → Flt) : (d.modFlt f).seq = d.seq := rfl
@[simp] theorem Dev.modFlt_out (f : Flt → Flt) : (d.modFlt f).out = d.out := rfl
@[simp] theorem Dev.modFlt_free (f : Flt → Flt) : (d.modFlt f).free = d.free := rfl
@[simp] theorem Dev.modFlt_get (f : Flt → Flt) (g : Fld) : (d.modFlt f).get g = d.get g := rfl
@[simp] theorem Dev.modFlt_ctr (f : Flt → Flt) (k : Nat) : (d.modFlt f).ctr k = d.ctr k := rfl
@[simp] theorem Dev.modFlt_flag (f : Flt → Flt) (g : Fld) : (d.modFlt f).flag g = d.flag g := rfl
@[simp] theorem Dev.modFlt_sh (f : Flt → Flt) (g : Fld) : (d.modFlt f).sh g = d.sh g := rfl

@[simp] theorem Dev.modPwr_bus (f : Pwr → Pwr) : (d.modPwr f).bus = d.bus := rfl
@[simp] theorem Dev.modPwr_cfg (f : Pwr → Pwr) : (d.modPwr f).cfg = d.cfg := rfl
@[simp] theorem Dev.modPwr_sys (f : Pwr → Pwr) : (d.modPwr f).sys = d.sys := rfl
@[simp] theorem Dev.modPwr_time (f : Pwr → Pwr) : (d.modPwr f).time = d.time := rfl
@[simp] theorem Dev.modPwr_loom (f : Pwr → Pwr) : (d.modPwr f).loom = d.loom := rfl
@[simp] theorem Dev.modPwr_ledg (f : Pwr → Pwr) : (d.modPwr f).ledg = d.ledg := rfl
@[simp] theorem Dev.modPwr_flt (f : Pwr → Pwr) : (d.modPwr f).flt = d.flt := rfl
@[simp] theorem Dev.modPwr_pwr (f : Pwr → Pwr) : (d.modPwr f).pwr = f d.pwr := rfl
@[simp] theorem Dev.modPwr_dom (f : Pwr → Pwr) : (d.modPwr f).dom = d.dom := rfl
@[simp] theorem Dev.modPwr_xing (f : Pwr → Pwr) : (d.modPwr f).xing = d.xing := rfl
@[simp] theorem Dev.modPwr_boot (f : Pwr → Pwr) : (d.modPwr f).boot = d.boot := rfl
@[simp] theorem Dev.modPwr_dram (f : Pwr → Pwr) : (d.modPwr f).dram = d.dram := rfl
@[simp] theorem Dev.modPwr_hed (f : Pwr → Pwr) : (d.modPwr f).hed = d.hed := rfl
@[simp] theorem Dev.modPwr_fwd (f : Pwr → Pwr) : (d.modPwr f).fwd = d.fwd := rfl
@[simp] theorem Dev.modPwr_net (f : Pwr → Pwr) : (d.modPwr f).net = d.net := rfl
@[simp] theorem Dev.modPwr_ciph (f : Pwr → Pwr) : (d.modPwr f).ciph = d.ciph := rfl
@[simp] theorem Dev.modPwr_stor (f : Pwr → Pwr) : (d.modPwr f).stor = d.stor := rfl
@[simp] theorem Dev.modPwr_reed (f : Pwr → Pwr) : (d.modPwr f).reed = d.reed := rfl
@[simp] theorem Dev.modPwr_barb (f : Pwr → Pwr) : (d.modPwr f).barb = d.barb := rfl
@[simp] theorem Dev.modPwr_mbox (f : Pwr → Pwr) : (d.modPwr f).mbox = d.mbox := rfl
@[simp] theorem Dev.modPwr_movers (f : Pwr → Pwr) : (d.modPwr f).movers = d.movers := rfl
@[simp] theorem Dev.modPwr_hif (f : Pwr → Pwr) : (d.modPwr f).hif = d.hif := rfl
@[simp] theorem Dev.modPwr_rings (f : Pwr → Pwr) : (d.modPwr f).rings = d.rings := rfl
@[simp] theorem Dev.modPwr_ind (f : Pwr → Pwr) : (d.modPwr f).ind = d.ind := rfl
@[simp] theorem Dev.modPwr_shuts (f : Pwr → Pwr) : (d.modPwr f).shuts = d.shuts := rfl
@[simp] theorem Dev.modPwr_nextShut (f : Pwr → Pwr) : (d.modPwr f).nextShut = d.nextShut := rfl
@[simp] theorem Dev.modPwr_seq (f : Pwr → Pwr) : (d.modPwr f).seq = d.seq := rfl
@[simp] theorem Dev.modPwr_out (f : Pwr → Pwr) : (d.modPwr f).out = d.out := rfl
@[simp] theorem Dev.modPwr_free (f : Pwr → Pwr) : (d.modPwr f).free = d.free := rfl
@[simp] theorem Dev.modPwr_get (f : Pwr → Pwr) (g : Fld) : (d.modPwr f).get g = d.get g := rfl
@[simp] theorem Dev.modPwr_ctr (f : Pwr → Pwr) (k : Nat) : (d.modPwr f).ctr k = d.ctr k := rfl
@[simp] theorem Dev.modPwr_flag (f : Pwr → Pwr) (g : Fld) : (d.modPwr f).flag g = d.flag g := rfl
@[simp] theorem Dev.modPwr_sh (f : Pwr → Pwr) (g : Fld) : (d.modPwr f).sh g = d.sh g := rfl

@[simp] theorem Dev.modDom_bus (f : Domains → Domains) : (d.modDom f).bus = d.bus := rfl
@[simp] theorem Dev.modDom_cfg (f : Domains → Domains) : (d.modDom f).cfg = d.cfg := rfl
@[simp] theorem Dev.modDom_sys (f : Domains → Domains) : (d.modDom f).sys = d.sys := rfl
@[simp] theorem Dev.modDom_time (f : Domains → Domains) : (d.modDom f).time = d.time := rfl
@[simp] theorem Dev.modDom_loom (f : Domains → Domains) : (d.modDom f).loom = d.loom := rfl
@[simp] theorem Dev.modDom_ledg (f : Domains → Domains) : (d.modDom f).ledg = d.ledg := rfl
@[simp] theorem Dev.modDom_flt (f : Domains → Domains) : (d.modDom f).flt = d.flt := rfl
@[simp] theorem Dev.modDom_pwr (f : Domains → Domains) : (d.modDom f).pwr = d.pwr := rfl
@[simp] theorem Dev.modDom_dom (f : Domains → Domains) : (d.modDom f).dom = f d.dom := rfl
@[simp] theorem Dev.modDom_xing (f : Domains → Domains) : (d.modDom f).xing = d.xing := rfl
@[simp] theorem Dev.modDom_boot (f : Domains → Domains) : (d.modDom f).boot = d.boot := rfl
@[simp] theorem Dev.modDom_dram (f : Domains → Domains) : (d.modDom f).dram = d.dram := rfl
@[simp] theorem Dev.modDom_hed (f : Domains → Domains) : (d.modDom f).hed = d.hed := rfl
@[simp] theorem Dev.modDom_fwd (f : Domains → Domains) : (d.modDom f).fwd = d.fwd := rfl
@[simp] theorem Dev.modDom_net (f : Domains → Domains) : (d.modDom f).net = d.net := rfl
@[simp] theorem Dev.modDom_ciph (f : Domains → Domains) : (d.modDom f).ciph = d.ciph := rfl
@[simp] theorem Dev.modDom_stor (f : Domains → Domains) : (d.modDom f).stor = d.stor := rfl
@[simp] theorem Dev.modDom_reed (f : Domains → Domains) : (d.modDom f).reed = d.reed := rfl
@[simp] theorem Dev.modDom_barb (f : Domains → Domains) : (d.modDom f).barb = d.barb := rfl
@[simp] theorem Dev.modDom_mbox (f : Domains → Domains) : (d.modDom f).mbox = d.mbox := rfl
@[simp] theorem Dev.modDom_movers (f : Domains → Domains) : (d.modDom f).movers = d.movers := rfl
@[simp] theorem Dev.modDom_hif (f : Domains → Domains) : (d.modDom f).hif = d.hif := rfl
@[simp] theorem Dev.modDom_rings (f : Domains → Domains) : (d.modDom f).rings = d.rings := rfl
@[simp] theorem Dev.modDom_ind (f : Domains → Domains) : (d.modDom f).ind = d.ind := rfl
@[simp] theorem Dev.modDom_shuts (f : Domains → Domains) : (d.modDom f).shuts = d.shuts := rfl
@[simp] theorem Dev.modDom_nextShut (f : Domains → Domains) : (d.modDom f).nextShut = d.nextShut := rfl
@[simp] theorem Dev.modDom_seq (f : Domains → Domains) : (d.modDom f).seq = d.seq := rfl
@[simp] theorem Dev.modDom_out (f : Domains → Domains) : (d.modDom f).out = d.out := rfl
@[simp] theorem Dev.modDom_free (f : Domains → Domains) : (d.modDom f).free = d.free := rfl
@[simp] theorem Dev.modDom_get (f : Domains → Domains) (g : Fld) : (d.modDom f).get g = d.get g := rfl
@[simp] theorem Dev.modDom_ctr (f : Domains → Domains) (k : Nat) : (d.modDom f).ctr k = d.ctr k := rfl
@[simp] theorem Dev.modDom_flag (f : Domains → Domains) (g : Fld) : (d.modDom f).flag g = d.flag g := rfl
@[simp] theorem Dev.modDom_sh (f : Domains → Domains) (g : Fld) : (d.modDom f).sh g = d.sh g := rfl

@[simp] theorem Dev.modBoot_bus (f : Boot → Boot) : (d.modBoot f).bus = d.bus := rfl
@[simp] theorem Dev.modBoot_cfg (f : Boot → Boot) : (d.modBoot f).cfg = d.cfg := rfl
@[simp] theorem Dev.modBoot_sys (f : Boot → Boot) : (d.modBoot f).sys = d.sys := rfl
@[simp] theorem Dev.modBoot_time (f : Boot → Boot) : (d.modBoot f).time = d.time := rfl
@[simp] theorem Dev.modBoot_loom (f : Boot → Boot) : (d.modBoot f).loom = d.loom := rfl
@[simp] theorem Dev.modBoot_ledg (f : Boot → Boot) : (d.modBoot f).ledg = d.ledg := rfl
@[simp] theorem Dev.modBoot_flt (f : Boot → Boot) : (d.modBoot f).flt = d.flt := rfl
@[simp] theorem Dev.modBoot_pwr (f : Boot → Boot) : (d.modBoot f).pwr = d.pwr := rfl
@[simp] theorem Dev.modBoot_dom (f : Boot → Boot) : (d.modBoot f).dom = d.dom := rfl
@[simp] theorem Dev.modBoot_xing (f : Boot → Boot) : (d.modBoot f).xing = d.xing := rfl
@[simp] theorem Dev.modBoot_boot (f : Boot → Boot) : (d.modBoot f).boot = f d.boot := rfl
@[simp] theorem Dev.modBoot_dram (f : Boot → Boot) : (d.modBoot f).dram = d.dram := rfl
@[simp] theorem Dev.modBoot_hed (f : Boot → Boot) : (d.modBoot f).hed = d.hed := rfl
@[simp] theorem Dev.modBoot_fwd (f : Boot → Boot) : (d.modBoot f).fwd = d.fwd := rfl
@[simp] theorem Dev.modBoot_net (f : Boot → Boot) : (d.modBoot f).net = d.net := rfl
@[simp] theorem Dev.modBoot_ciph (f : Boot → Boot) : (d.modBoot f).ciph = d.ciph := rfl
@[simp] theorem Dev.modBoot_stor (f : Boot → Boot) : (d.modBoot f).stor = d.stor := rfl
@[simp] theorem Dev.modBoot_reed (f : Boot → Boot) : (d.modBoot f).reed = d.reed := rfl
@[simp] theorem Dev.modBoot_barb (f : Boot → Boot) : (d.modBoot f).barb = d.barb := rfl
@[simp] theorem Dev.modBoot_mbox (f : Boot → Boot) : (d.modBoot f).mbox = d.mbox := rfl
@[simp] theorem Dev.modBoot_movers (f : Boot → Boot) : (d.modBoot f).movers = d.movers := rfl
@[simp] theorem Dev.modBoot_hif (f : Boot → Boot) : (d.modBoot f).hif = d.hif := rfl
@[simp] theorem Dev.modBoot_rings (f : Boot → Boot) : (d.modBoot f).rings = d.rings := rfl
@[simp] theorem Dev.modBoot_ind (f : Boot → Boot) : (d.modBoot f).ind = d.ind := rfl
@[simp] theorem Dev.modBoot_shuts (f : Boot → Boot) : (d.modBoot f).shuts = d.shuts := rfl
@[simp] theorem Dev.modBoot_nextShut (f : Boot → Boot) : (d.modBoot f).nextShut = d.nextShut := rfl
@[simp] theorem Dev.modBoot_seq (f : Boot → Boot) : (d.modBoot f).seq = d.seq := rfl
@[simp] theorem Dev.modBoot_out (f : Boot → Boot) : (d.modBoot f).out = d.out := rfl
@[simp] theorem Dev.modBoot_free (f : Boot → Boot) : (d.modBoot f).free = d.free := rfl
@[simp] theorem Dev.modBoot_get (f : Boot → Boot) (g : Fld) : (d.modBoot f).get g = d.get g := rfl
@[simp] theorem Dev.modBoot_ctr (f : Boot → Boot) (k : Nat) : (d.modBoot f).ctr k = d.ctr k := rfl
@[simp] theorem Dev.modBoot_flag (f : Boot → Boot) (g : Fld) : (d.modBoot f).flag g = d.flag g := rfl
@[simp] theorem Dev.modBoot_sh (f : Boot → Boot) (g : Fld) : (d.modBoot f).sh g = d.sh g := rfl

@[simp] theorem Dev.modDram_bus (f : Dram → Dram) : (d.modDram f).bus = d.bus := rfl
@[simp] theorem Dev.modDram_cfg (f : Dram → Dram) : (d.modDram f).cfg = d.cfg := rfl
@[simp] theorem Dev.modDram_sys (f : Dram → Dram) : (d.modDram f).sys = d.sys := rfl
@[simp] theorem Dev.modDram_time (f : Dram → Dram) : (d.modDram f).time = d.time := rfl
@[simp] theorem Dev.modDram_loom (f : Dram → Dram) : (d.modDram f).loom = d.loom := rfl
@[simp] theorem Dev.modDram_ledg (f : Dram → Dram) : (d.modDram f).ledg = d.ledg := rfl
@[simp] theorem Dev.modDram_flt (f : Dram → Dram) : (d.modDram f).flt = d.flt := rfl
@[simp] theorem Dev.modDram_pwr (f : Dram → Dram) : (d.modDram f).pwr = d.pwr := rfl
@[simp] theorem Dev.modDram_dom (f : Dram → Dram) : (d.modDram f).dom = d.dom := rfl
@[simp] theorem Dev.modDram_xing (f : Dram → Dram) : (d.modDram f).xing = d.xing := rfl
@[simp] theorem Dev.modDram_boot (f : Dram → Dram) : (d.modDram f).boot = d.boot := rfl
@[simp] theorem Dev.modDram_dram (f : Dram → Dram) : (d.modDram f).dram = f d.dram := rfl
@[simp] theorem Dev.modDram_hed (f : Dram → Dram) : (d.modDram f).hed = d.hed := rfl
@[simp] theorem Dev.modDram_fwd (f : Dram → Dram) : (d.modDram f).fwd = d.fwd := rfl
@[simp] theorem Dev.modDram_net (f : Dram → Dram) : (d.modDram f).net = d.net := rfl
@[simp] theorem Dev.modDram_ciph (f : Dram → Dram) : (d.modDram f).ciph = d.ciph := rfl
@[simp] theorem Dev.modDram_stor (f : Dram → Dram) : (d.modDram f).stor = d.stor := rfl
@[simp] theorem Dev.modDram_reed (f : Dram → Dram) : (d.modDram f).reed = d.reed := rfl
@[simp] theorem Dev.modDram_barb (f : Dram → Dram) : (d.modDram f).barb = d.barb := rfl
@[simp] theorem Dev.modDram_mbox (f : Dram → Dram) : (d.modDram f).mbox = d.mbox := rfl
@[simp] theorem Dev.modDram_movers (f : Dram → Dram) : (d.modDram f).movers = d.movers := rfl
@[simp] theorem Dev.modDram_hif (f : Dram → Dram) : (d.modDram f).hif = d.hif := rfl
@[simp] theorem Dev.modDram_rings (f : Dram → Dram) : (d.modDram f).rings = d.rings := rfl
@[simp] theorem Dev.modDram_ind (f : Dram → Dram) : (d.modDram f).ind = d.ind := rfl
@[simp] theorem Dev.modDram_shuts (f : Dram → Dram) : (d.modDram f).shuts = d.shuts := rfl
@[simp] theorem Dev.modDram_nextShut (f : Dram → Dram) : (d.modDram f).nextShut = d.nextShut := rfl
@[simp] theorem Dev.modDram_seq (f : Dram → Dram) : (d.modDram f).seq = d.seq := rfl
@[simp] theorem Dev.modDram_out (f : Dram → Dram) : (d.modDram f).out = d.out := rfl
@[simp] theorem Dev.modDram_free (f : Dram → Dram) : (d.modDram f).free = d.free := rfl
@[simp] theorem Dev.modDram_get (f : Dram → Dram) (g : Fld) : (d.modDram f).get g = d.get g := rfl
@[simp] theorem Dev.modDram_ctr (f : Dram → Dram) (k : Nat) : (d.modDram f).ctr k = d.ctr k := rfl
@[simp] theorem Dev.modDram_flag (f : Dram → Dram) (g : Fld) : (d.modDram f).flag g = d.flag g := rfl
@[simp] theorem Dev.modDram_sh (f : Dram → Dram) (g : Fld) : (d.modDram f).sh g = d.sh g := rfl

@[simp] theorem Dev.modHed_bus (f : Hed → Hed) : (d.modHed f).bus = d.bus := rfl
@[simp] theorem Dev.modHed_cfg (f : Hed → Hed) : (d.modHed f).cfg = d.cfg := rfl
@[simp] theorem Dev.modHed_sys (f : Hed → Hed) : (d.modHed f).sys = d.sys := rfl
@[simp] theorem Dev.modHed_time (f : Hed → Hed) : (d.modHed f).time = d.time := rfl
@[simp] theorem Dev.modHed_loom (f : Hed → Hed) : (d.modHed f).loom = d.loom := rfl
@[simp] theorem Dev.modHed_ledg (f : Hed → Hed) : (d.modHed f).ledg = d.ledg := rfl
@[simp] theorem Dev.modHed_flt (f : Hed → Hed) : (d.modHed f).flt = d.flt := rfl
@[simp] theorem Dev.modHed_pwr (f : Hed → Hed) : (d.modHed f).pwr = d.pwr := rfl
@[simp] theorem Dev.modHed_dom (f : Hed → Hed) : (d.modHed f).dom = d.dom := rfl
@[simp] theorem Dev.modHed_xing (f : Hed → Hed) : (d.modHed f).xing = d.xing := rfl
@[simp] theorem Dev.modHed_boot (f : Hed → Hed) : (d.modHed f).boot = d.boot := rfl
@[simp] theorem Dev.modHed_dram (f : Hed → Hed) : (d.modHed f).dram = d.dram := rfl
@[simp] theorem Dev.modHed_hed (f : Hed → Hed) : (d.modHed f).hed = f d.hed := rfl
@[simp] theorem Dev.modHed_fwd (f : Hed → Hed) : (d.modHed f).fwd = d.fwd := rfl
@[simp] theorem Dev.modHed_net (f : Hed → Hed) : (d.modHed f).net = d.net := rfl
@[simp] theorem Dev.modHed_ciph (f : Hed → Hed) : (d.modHed f).ciph = d.ciph := rfl
@[simp] theorem Dev.modHed_stor (f : Hed → Hed) : (d.modHed f).stor = d.stor := rfl
@[simp] theorem Dev.modHed_reed (f : Hed → Hed) : (d.modHed f).reed = d.reed := rfl
@[simp] theorem Dev.modHed_barb (f : Hed → Hed) : (d.modHed f).barb = d.barb := rfl
@[simp] theorem Dev.modHed_mbox (f : Hed → Hed) : (d.modHed f).mbox = d.mbox := rfl
@[simp] theorem Dev.modHed_movers (f : Hed → Hed) : (d.modHed f).movers = d.movers := rfl
@[simp] theorem Dev.modHed_hif (f : Hed → Hed) : (d.modHed f).hif = d.hif := rfl
@[simp] theorem Dev.modHed_rings (f : Hed → Hed) : (d.modHed f).rings = d.rings := rfl
@[simp] theorem Dev.modHed_ind (f : Hed → Hed) : (d.modHed f).ind = d.ind := rfl
@[simp] theorem Dev.modHed_shuts (f : Hed → Hed) : (d.modHed f).shuts = d.shuts := rfl
@[simp] theorem Dev.modHed_nextShut (f : Hed → Hed) : (d.modHed f).nextShut = d.nextShut := rfl
@[simp] theorem Dev.modHed_seq (f : Hed → Hed) : (d.modHed f).seq = d.seq := rfl
@[simp] theorem Dev.modHed_out (f : Hed → Hed) : (d.modHed f).out = d.out := rfl
@[simp] theorem Dev.modHed_free (f : Hed → Hed) : (d.modHed f).free = d.free := rfl
@[simp] theorem Dev.modHed_get (f : Hed → Hed) (g : Fld) : (d.modHed f).get g = d.get g := rfl
@[simp] theorem Dev.modHed_ctr (f : Hed → Hed) (k : Nat) : (d.modHed f).ctr k = d.ctr k := rfl
@[simp] theorem Dev.modHed_flag (f : Hed → Hed) (g : Fld) : (d.modHed f).flag g = d.flag g := rfl
@[simp] theorem Dev.modHed_sh (f : Hed → Hed) (g : Fld) : (d.modHed f).sh g = d.sh g := rfl

@[simp] theorem Dev.modFwd_bus (f : Fwd → Fwd) : (d.modFwd f).bus = d.bus := rfl
@[simp] theorem Dev.modFwd_cfg (f : Fwd → Fwd) : (d.modFwd f).cfg = d.cfg := rfl
@[simp] theorem Dev.modFwd_sys (f : Fwd → Fwd) : (d.modFwd f).sys = d.sys := rfl
@[simp] theorem Dev.modFwd_time (f : Fwd → Fwd) : (d.modFwd f).time = d.time := rfl
@[simp] theorem Dev.modFwd_loom (f : Fwd → Fwd) : (d.modFwd f).loom = d.loom := rfl
@[simp] theorem Dev.modFwd_ledg (f : Fwd → Fwd) : (d.modFwd f).ledg = d.ledg := rfl
@[simp] theorem Dev.modFwd_flt (f : Fwd → Fwd) : (d.modFwd f).flt = d.flt := rfl
@[simp] theorem Dev.modFwd_pwr (f : Fwd → Fwd) : (d.modFwd f).pwr = d.pwr := rfl
@[simp] theorem Dev.modFwd_dom (f : Fwd → Fwd) : (d.modFwd f).dom = d.dom := rfl
@[simp] theorem Dev.modFwd_xing (f : Fwd → Fwd) : (d.modFwd f).xing = d.xing := rfl
@[simp] theorem Dev.modFwd_boot (f : Fwd → Fwd) : (d.modFwd f).boot = d.boot := rfl
@[simp] theorem Dev.modFwd_dram (f : Fwd → Fwd) : (d.modFwd f).dram = d.dram := rfl
@[simp] theorem Dev.modFwd_hed (f : Fwd → Fwd) : (d.modFwd f).hed = d.hed := rfl
@[simp] theorem Dev.modFwd_fwd (f : Fwd → Fwd) : (d.modFwd f).fwd = f d.fwd := rfl
@[simp] theorem Dev.modFwd_net (f : Fwd → Fwd) : (d.modFwd f).net = d.net := rfl
@[simp] theorem Dev.modFwd_ciph (f : Fwd → Fwd) : (d.modFwd f).ciph = d.ciph := rfl
@[simp] theorem Dev.modFwd_stor (f : Fwd → Fwd) : (d.modFwd f).stor = d.stor := rfl
@[simp] theorem Dev.modFwd_reed (f : Fwd → Fwd) : (d.modFwd f).reed = d.reed := rfl
@[simp] theorem Dev.modFwd_barb (f : Fwd → Fwd) : (d.modFwd f).barb = d.barb := rfl
@[simp] theorem Dev.modFwd_mbox (f : Fwd → Fwd) : (d.modFwd f).mbox = d.mbox := rfl
@[simp] theorem Dev.modFwd_movers (f : Fwd → Fwd) : (d.modFwd f).movers = d.movers := rfl
@[simp] theorem Dev.modFwd_hif (f : Fwd → Fwd) : (d.modFwd f).hif = d.hif := rfl
@[simp] theorem Dev.modFwd_rings (f : Fwd → Fwd) : (d.modFwd f).rings = d.rings := rfl
@[simp] theorem Dev.modFwd_ind (f : Fwd → Fwd) : (d.modFwd f).ind = d.ind := rfl
@[simp] theorem Dev.modFwd_shuts (f : Fwd → Fwd) : (d.modFwd f).shuts = d.shuts := rfl
@[simp] theorem Dev.modFwd_nextShut (f : Fwd → Fwd) : (d.modFwd f).nextShut = d.nextShut := rfl
@[simp] theorem Dev.modFwd_seq (f : Fwd → Fwd) : (d.modFwd f).seq = d.seq := rfl
@[simp] theorem Dev.modFwd_out (f : Fwd → Fwd) : (d.modFwd f).out = d.out := rfl
@[simp] theorem Dev.modFwd_free (f : Fwd → Fwd) : (d.modFwd f).free = d.free := rfl
@[simp] theorem Dev.modFwd_get (f : Fwd → Fwd) (g : Fld) : (d.modFwd f).get g = d.get g := rfl
@[simp] theorem Dev.modFwd_ctr (f : Fwd → Fwd) (k : Nat) : (d.modFwd f).ctr k = d.ctr k := rfl
@[simp] theorem Dev.modFwd_flag (f : Fwd → Fwd) (g : Fld) : (d.modFwd f).flag g = d.flag g := rfl
@[simp] theorem Dev.modFwd_sh (f : Fwd → Fwd) (g : Fld) : (d.modFwd f).sh g = d.sh g := rfl

@[simp] theorem Dev.modNet_bus (f : Net → Net) : (d.modNet f).bus = d.bus := rfl
@[simp] theorem Dev.modNet_cfg (f : Net → Net) : (d.modNet f).cfg = d.cfg := rfl
@[simp] theorem Dev.modNet_sys (f : Net → Net) : (d.modNet f).sys = d.sys := rfl
@[simp] theorem Dev.modNet_time (f : Net → Net) : (d.modNet f).time = d.time := rfl
@[simp] theorem Dev.modNet_loom (f : Net → Net) : (d.modNet f).loom = d.loom := rfl
@[simp] theorem Dev.modNet_ledg (f : Net → Net) : (d.modNet f).ledg = d.ledg := rfl
@[simp] theorem Dev.modNet_flt (f : Net → Net) : (d.modNet f).flt = d.flt := rfl
@[simp] theorem Dev.modNet_pwr (f : Net → Net) : (d.modNet f).pwr = d.pwr := rfl
@[simp] theorem Dev.modNet_dom (f : Net → Net) : (d.modNet f).dom = d.dom := rfl
@[simp] theorem Dev.modNet_xing (f : Net → Net) : (d.modNet f).xing = d.xing := rfl
@[simp] theorem Dev.modNet_boot (f : Net → Net) : (d.modNet f).boot = d.boot := rfl
@[simp] theorem Dev.modNet_dram (f : Net → Net) : (d.modNet f).dram = d.dram := rfl
@[simp] theorem Dev.modNet_hed (f : Net → Net) : (d.modNet f).hed = d.hed := rfl
@[simp] theorem Dev.modNet_fwd (f : Net → Net) : (d.modNet f).fwd = d.fwd := rfl
@[simp] theorem Dev.modNet_net (f : Net → Net) : (d.modNet f).net = f d.net := rfl
@[simp] theorem Dev.modNet_ciph (f : Net → Net) : (d.modNet f).ciph = d.ciph := rfl
@[simp] theorem Dev.modNet_stor (f : Net → Net) : (d.modNet f).stor = d.stor := rfl
@[simp] theorem Dev.modNet_reed (f : Net → Net) : (d.modNet f).reed = d.reed := rfl
@[simp] theorem Dev.modNet_barb (f : Net → Net) : (d.modNet f).barb = d.barb := rfl
@[simp] theorem Dev.modNet_mbox (f : Net → Net) : (d.modNet f).mbox = d.mbox := rfl
@[simp] theorem Dev.modNet_movers (f : Net → Net) : (d.modNet f).movers = d.movers := rfl
@[simp] theorem Dev.modNet_hif (f : Net → Net) : (d.modNet f).hif = d.hif := rfl
@[simp] theorem Dev.modNet_rings (f : Net → Net) : (d.modNet f).rings = d.rings := rfl
@[simp] theorem Dev.modNet_ind (f : Net → Net) : (d.modNet f).ind = d.ind := rfl
@[simp] theorem Dev.modNet_shuts (f : Net → Net) : (d.modNet f).shuts = d.shuts := rfl
@[simp] theorem Dev.modNet_nextShut (f : Net → Net) : (d.modNet f).nextShut = d.nextShut := rfl
@[simp] theorem Dev.modNet_seq (f : Net → Net) : (d.modNet f).seq = d.seq := rfl
@[simp] theorem Dev.modNet_out (f : Net → Net) : (d.modNet f).out = d.out := rfl
@[simp] theorem Dev.modNet_free (f : Net → Net) : (d.modNet f).free = d.free := rfl
@[simp] theorem Dev.modNet_get (f : Net → Net) (g : Fld) : (d.modNet f).get g = d.get g := rfl
@[simp] theorem Dev.modNet_ctr (f : Net → Net) (k : Nat) : (d.modNet f).ctr k = d.ctr k := rfl
@[simp] theorem Dev.modNet_flag (f : Net → Net) (g : Fld) : (d.modNet f).flag g = d.flag g := rfl
@[simp] theorem Dev.modNet_sh (f : Net → Net) (g : Fld) : (d.modNet f).sh g = d.sh g := rfl

@[simp] theorem Dev.modCiph_bus (f : Ciph → Ciph) : (d.modCiph f).bus = d.bus := rfl
@[simp] theorem Dev.modCiph_cfg (f : Ciph → Ciph) : (d.modCiph f).cfg = d.cfg := rfl
@[simp] theorem Dev.modCiph_sys (f : Ciph → Ciph) : (d.modCiph f).sys = d.sys := rfl
@[simp] theorem Dev.modCiph_time (f : Ciph → Ciph) : (d.modCiph f).time = d.time := rfl
@[simp] theorem Dev.modCiph_loom (f : Ciph → Ciph) : (d.modCiph f).loom = d.loom := rfl
@[simp] theorem Dev.modCiph_ledg (f : Ciph → Ciph) : (d.modCiph f).ledg = d.ledg := rfl
@[simp] theorem Dev.modCiph_flt (f : Ciph → Ciph) : (d.modCiph f).flt = d.flt := rfl
@[simp] theorem Dev.modCiph_pwr (f : Ciph → Ciph) : (d.modCiph f).pwr = d.pwr := rfl
@[simp] theorem Dev.modCiph_dom (f : Ciph → Ciph) : (d.modCiph f).dom = d.dom := rfl
@[simp] theorem Dev.modCiph_xing (f : Ciph → Ciph) : (d.modCiph f).xing = d.xing := rfl
@[simp] theorem Dev.modCiph_boot (f : Ciph → Ciph) : (d.modCiph f).boot = d.boot := rfl
@[simp] theorem Dev.modCiph_dram (f : Ciph → Ciph) : (d.modCiph f).dram = d.dram := rfl
@[simp] theorem Dev.modCiph_hed (f : Ciph → Ciph) : (d.modCiph f).hed = d.hed := rfl
@[simp] theorem Dev.modCiph_fwd (f : Ciph → Ciph) : (d.modCiph f).fwd = d.fwd := rfl
@[simp] theorem Dev.modCiph_net (f : Ciph → Ciph) : (d.modCiph f).net = d.net := rfl
@[simp] theorem Dev.modCiph_ciph (f : Ciph → Ciph) : (d.modCiph f).ciph = f d.ciph := rfl
@[simp] theorem Dev.modCiph_stor (f : Ciph → Ciph) : (d.modCiph f).stor = d.stor := rfl
@[simp] theorem Dev.modCiph_reed (f : Ciph → Ciph) : (d.modCiph f).reed = d.reed := rfl
@[simp] theorem Dev.modCiph_barb (f : Ciph → Ciph) : (d.modCiph f).barb = d.barb := rfl
@[simp] theorem Dev.modCiph_mbox (f : Ciph → Ciph) : (d.modCiph f).mbox = d.mbox := rfl
@[simp] theorem Dev.modCiph_movers (f : Ciph → Ciph) : (d.modCiph f).movers = d.movers := rfl
@[simp] theorem Dev.modCiph_hif (f : Ciph → Ciph) : (d.modCiph f).hif = d.hif := rfl
@[simp] theorem Dev.modCiph_rings (f : Ciph → Ciph) : (d.modCiph f).rings = d.rings := rfl
@[simp] theorem Dev.modCiph_ind (f : Ciph → Ciph) : (d.modCiph f).ind = d.ind := rfl
@[simp] theorem Dev.modCiph_shuts (f : Ciph → Ciph) : (d.modCiph f).shuts = d.shuts := rfl
@[simp] theorem Dev.modCiph_nextShut (f : Ciph → Ciph) : (d.modCiph f).nextShut = d.nextShut := rfl
@[simp] theorem Dev.modCiph_seq (f : Ciph → Ciph) : (d.modCiph f).seq = d.seq := rfl
@[simp] theorem Dev.modCiph_out (f : Ciph → Ciph) : (d.modCiph f).out = d.out := rfl
@[simp] theorem Dev.modCiph_free (f : Ciph → Ciph) : (d.modCiph f).free = d.free := rfl
@[simp] theorem Dev.modCiph_get (f : Ciph → Ciph) (g : Fld) : (d.modCiph f).get g = d.get g := rfl
@[simp] theorem Dev.modCiph_ctr (f : Ciph → Ciph) (k : Nat) : (d.modCiph f).ctr k = d.ctr k := rfl
@[simp] theorem Dev.modCiph_flag (f : Ciph → Ciph) (g : Fld) : (d.modCiph f).flag g = d.flag g := rfl
@[simp] theorem Dev.modCiph_sh (f : Ciph → Ciph) (g : Fld) : (d.modCiph f).sh g = d.sh g := rfl

@[simp] theorem Dev.modStor_bus (f : Stor → Stor) : (d.modStor f).bus = d.bus := rfl
@[simp] theorem Dev.modStor_cfg (f : Stor → Stor) : (d.modStor f).cfg = d.cfg := rfl
@[simp] theorem Dev.modStor_sys (f : Stor → Stor) : (d.modStor f).sys = d.sys := rfl
@[simp] theorem Dev.modStor_time (f : Stor → Stor) : (d.modStor f).time = d.time := rfl
@[simp] theorem Dev.modStor_loom (f : Stor → Stor) : (d.modStor f).loom = d.loom := rfl
@[simp] theorem Dev.modStor_ledg (f : Stor → Stor) : (d.modStor f).ledg = d.ledg := rfl
@[simp] theorem Dev.modStor_flt (f : Stor → Stor) : (d.modStor f).flt = d.flt := rfl
@[simp] theorem Dev.modStor_pwr (f : Stor → Stor) : (d.modStor f).pwr = d.pwr := rfl
@[simp] theorem Dev.modStor_dom (f : Stor → Stor) : (d.modStor f).dom = d.dom := rfl
@[simp] theorem Dev.modStor_xing (f : Stor → Stor) : (d.modStor f).xing = d.xing := rfl
@[simp] theorem Dev.modStor_boot (f : Stor → Stor) : (d.modStor f).boot = d.boot := rfl
@[simp] theorem Dev.modStor_dram (f : Stor → Stor) : (d.modStor f).dram = d.dram := rfl
@[simp] theorem Dev.modStor_hed (f : Stor → Stor) : (d.modStor f).hed = d.hed := rfl
@[simp] theorem Dev.modStor_fwd (f : Stor → Stor) : (d.modStor f).fwd = d.fwd := rfl
@[simp] theorem Dev.modStor_net (f : Stor → Stor) : (d.modStor f).net = d.net := rfl
@[simp] theorem Dev.modStor_ciph (f : Stor → Stor) : (d.modStor f).ciph = d.ciph := rfl
@[simp] theorem Dev.modStor_stor (f : Stor → Stor) : (d.modStor f).stor = f d.stor := rfl
@[simp] theorem Dev.modStor_reed (f : Stor → Stor) : (d.modStor f).reed = d.reed := rfl
@[simp] theorem Dev.modStor_barb (f : Stor → Stor) : (d.modStor f).barb = d.barb := rfl
@[simp] theorem Dev.modStor_mbox (f : Stor → Stor) : (d.modStor f).mbox = d.mbox := rfl
@[simp] theorem Dev.modStor_movers (f : Stor → Stor) : (d.modStor f).movers = d.movers := rfl
@[simp] theorem Dev.modStor_hif (f : Stor → Stor) : (d.modStor f).hif = d.hif := rfl
@[simp] theorem Dev.modStor_rings (f : Stor → Stor) : (d.modStor f).rings = d.rings := rfl
@[simp] theorem Dev.modStor_ind (f : Stor → Stor) : (d.modStor f).ind = d.ind := rfl
@[simp] theorem Dev.modStor_shuts (f : Stor → Stor) : (d.modStor f).shuts = d.shuts := rfl
@[simp] theorem Dev.modStor_nextShut (f : Stor → Stor) : (d.modStor f).nextShut = d.nextShut := rfl
@[simp] theorem Dev.modStor_seq (f : Stor → Stor) : (d.modStor f).seq = d.seq := rfl
@[simp] theorem Dev.modStor_out (f : Stor → Stor) : (d.modStor f).out = d.out := rfl
@[simp] theorem Dev.modStor_free (f : Stor → Stor) : (d.modStor f).free = d.free := rfl
@[simp] theorem Dev.modStor_get (f : Stor → Stor) (g : Fld) : (d.modStor f).get g = d.get g := rfl
@[simp] theorem Dev.modStor_ctr (f : Stor → Stor) (k : Nat) : (d.modStor f).ctr k = d.ctr k := rfl
@[simp] theorem Dev.modStor_flag (f : Stor → Stor) (g : Fld) : (d.modStor f).flag g = d.flag g := rfl
@[simp] theorem Dev.modStor_sh (f : Stor → Stor) (g : Fld) : (d.modStor f).sh g = d.sh g := rfl

@[simp] theorem Dev.modReed_bus (f : Reed → Reed) : (d.modReed f).bus = d.bus := rfl
@[simp] theorem Dev.modReed_cfg (f : Reed → Reed) : (d.modReed f).cfg = d.cfg := rfl
@[simp] theorem Dev.modReed_sys (f : Reed → Reed) : (d.modReed f).sys = d.sys := rfl
@[simp] theorem Dev.modReed_time (f : Reed → Reed) : (d.modReed f).time = d.time := rfl
@[simp] theorem Dev.modReed_loom (f : Reed → Reed) : (d.modReed f).loom = d.loom := rfl
@[simp] theorem Dev.modReed_ledg (f : Reed → Reed) : (d.modReed f).ledg = d.ledg := rfl
@[simp] theorem Dev.modReed_flt (f : Reed → Reed) : (d.modReed f).flt = d.flt := rfl
@[simp] theorem Dev.modReed_pwr (f : Reed → Reed) : (d.modReed f).pwr = d.pwr := rfl
@[simp] theorem Dev.modReed_dom (f : Reed → Reed) : (d.modReed f).dom = d.dom := rfl
@[simp] theorem Dev.modReed_xing (f : Reed → Reed) : (d.modReed f).xing = d.xing := rfl
@[simp] theorem Dev.modReed_boot (f : Reed → Reed) : (d.modReed f).boot = d.boot := rfl
@[simp] theorem Dev.modReed_dram (f : Reed → Reed) : (d.modReed f).dram = d.dram := rfl
@[simp] theorem Dev.modReed_hed (f : Reed → Reed) : (d.modReed f).hed = d.hed := rfl
@[simp] theorem Dev.modReed_fwd (f : Reed → Reed) : (d.modReed f).fwd = d.fwd := rfl
@[simp] theorem Dev.modReed_net (f : Reed → Reed) : (d.modReed f).net = d.net := rfl
@[simp] theorem Dev.modReed_ciph (f : Reed → Reed) : (d.modReed f).ciph = d.ciph := rfl
@[simp] theorem Dev.modReed_stor (f : Reed → Reed) : (d.modReed f).stor = d.stor := rfl
@[simp] theorem Dev.modReed_reed (f : Reed → Reed) : (d.modReed f).reed = f d.reed := rfl
@[simp] theorem Dev.modReed_barb (f : Reed → Reed) : (d.modReed f).barb = d.barb := rfl
@[simp] theorem Dev.modReed_mbox (f : Reed → Reed) : (d.modReed f).mbox = d.mbox := rfl
@[simp] theorem Dev.modReed_movers (f : Reed → Reed) : (d.modReed f).movers = d.movers := rfl
@[simp] theorem Dev.modReed_hif (f : Reed → Reed) : (d.modReed f).hif = d.hif := rfl
@[simp] theorem Dev.modReed_rings (f : Reed → Reed) : (d.modReed f).rings = d.rings := rfl
@[simp] theorem Dev.modReed_ind (f : Reed → Reed) : (d.modReed f).ind = d.ind := rfl
@[simp] theorem Dev.modReed_shuts (f : Reed → Reed) : (d.modReed f).shuts = d.shuts := rfl
@[simp] theorem Dev.modReed_nextShut (f : Reed → Reed) : (d.modReed f).nextShut = d.nextShut := rfl
@[simp] theorem Dev.modReed_seq (f : Reed → Reed) : (d.modReed f).seq = d.seq := rfl
@[simp] theorem Dev.modReed_out (f : Reed → Reed) : (d.modReed f).out = d.out := rfl
@[simp] theorem Dev.modReed_free (f : Reed → Reed) : (d.modReed f).free = d.free := rfl
@[simp] theorem Dev.modReed_get (f : Reed → Reed) (g : Fld) : (d.modReed f).get g = d.get g := rfl
@[simp] theorem Dev.modReed_ctr (f : Reed → Reed) (k : Nat) : (d.modReed f).ctr k = d.ctr k := rfl
@[simp] theorem Dev.modReed_flag (f : Reed → Reed) (g : Fld) : (d.modReed f).flag g = d.flag g := rfl
@[simp] theorem Dev.modReed_sh (f : Reed → Reed) (g : Fld) : (d.modReed f).sh g = d.sh g := rfl

@[simp] theorem Dev.modBarb_bus (f : Barb → Barb) : (d.modBarb f).bus = d.bus := rfl
@[simp] theorem Dev.modBarb_cfg (f : Barb → Barb) : (d.modBarb f).cfg = d.cfg := rfl
@[simp] theorem Dev.modBarb_sys (f : Barb → Barb) : (d.modBarb f).sys = d.sys := rfl
@[simp] theorem Dev.modBarb_time (f : Barb → Barb) : (d.modBarb f).time = d.time := rfl
@[simp] theorem Dev.modBarb_loom (f : Barb → Barb) : (d.modBarb f).loom = d.loom := rfl
@[simp] theorem Dev.modBarb_ledg (f : Barb → Barb) : (d.modBarb f).ledg = d.ledg := rfl
@[simp] theorem Dev.modBarb_flt (f : Barb → Barb) : (d.modBarb f).flt = d.flt := rfl
@[simp] theorem Dev.modBarb_pwr (f : Barb → Barb) : (d.modBarb f).pwr = d.pwr := rfl
@[simp] theorem Dev.modBarb_dom (f : Barb → Barb) : (d.modBarb f).dom = d.dom := rfl
@[simp] theorem Dev.modBarb_xing (f : Barb → Barb) : (d.modBarb f).xing = d.xing := rfl
@[simp] theorem Dev.modBarb_boot (f : Barb → Barb) : (d.modBarb f).boot = d.boot := rfl
@[simp] theorem Dev.modBarb_dram (f : Barb → Barb) : (d.modBarb f).dram = d.dram := rfl
@[simp] theorem Dev.modBarb_hed (f : Barb → Barb) : (d.modBarb f).hed = d.hed := rfl
@[simp] theorem Dev.modBarb_fwd (f : Barb → Barb) : (d.modBarb f).fwd = d.fwd := rfl
@[simp] theorem Dev.modBarb_net (f : Barb → Barb) : (d.modBarb f).net = d.net := rfl
@[simp] theorem Dev.modBarb_ciph (f : Barb → Barb) : (d.modBarb f).ciph = d.ciph := rfl
@[simp] theorem Dev.modBarb_stor (f : Barb → Barb) : (d.modBarb f).stor = d.stor := rfl
@[simp] theorem Dev.modBarb_reed (f : Barb → Barb) : (d.modBarb f).reed = d.reed := rfl
@[simp] theorem Dev.modBarb_barb (f : Barb → Barb) : (d.modBarb f).barb = f d.barb := rfl
@[simp] theorem Dev.modBarb_mbox (f : Barb → Barb) : (d.modBarb f).mbox = d.mbox := rfl
@[simp] theorem Dev.modBarb_movers (f : Barb → Barb) : (d.modBarb f).movers = d.movers := rfl
@[simp] theorem Dev.modBarb_hif (f : Barb → Barb) : (d.modBarb f).hif = d.hif := rfl
@[simp] theorem Dev.modBarb_rings (f : Barb → Barb) : (d.modBarb f).rings = d.rings := rfl
@[simp] theorem Dev.modBarb_ind (f : Barb → Barb) : (d.modBarb f).ind = d.ind := rfl
@[simp] theorem Dev.modBarb_shuts (f : Barb → Barb) : (d.modBarb f).shuts = d.shuts := rfl
@[simp] theorem Dev.modBarb_nextShut (f : Barb → Barb) : (d.modBarb f).nextShut = d.nextShut := rfl
@[simp] theorem Dev.modBarb_seq (f : Barb → Barb) : (d.modBarb f).seq = d.seq := rfl
@[simp] theorem Dev.modBarb_out (f : Barb → Barb) : (d.modBarb f).out = d.out := rfl
@[simp] theorem Dev.modBarb_free (f : Barb → Barb) : (d.modBarb f).free = d.free := rfl
@[simp] theorem Dev.modBarb_get (f : Barb → Barb) (g : Fld) : (d.modBarb f).get g = d.get g := rfl
@[simp] theorem Dev.modBarb_ctr (f : Barb → Barb) (k : Nat) : (d.modBarb f).ctr k = d.ctr k := rfl
@[simp] theorem Dev.modBarb_flag (f : Barb → Barb) (g : Fld) : (d.modBarb f).flag g = d.flag g := rfl
@[simp] theorem Dev.modBarb_sh (f : Barb → Barb) (g : Fld) : (d.modBarb f).sh g = d.sh g := rfl

@[simp] theorem Dev.modMbox_bus (f : Mbox → Mbox) : (d.modMbox f).bus = d.bus := rfl
@[simp] theorem Dev.modMbox_cfg (f : Mbox → Mbox) : (d.modMbox f).cfg = d.cfg := rfl
@[simp] theorem Dev.modMbox_sys (f : Mbox → Mbox) : (d.modMbox f).sys = d.sys := rfl
@[simp] theorem Dev.modMbox_time (f : Mbox → Mbox) : (d.modMbox f).time = d.time := rfl
@[simp] theorem Dev.modMbox_loom (f : Mbox → Mbox) : (d.modMbox f).loom = d.loom := rfl
@[simp] theorem Dev.modMbox_ledg (f : Mbox → Mbox) : (d.modMbox f).ledg = d.ledg := rfl
@[simp] theorem Dev.modMbox_flt (f : Mbox → Mbox) : (d.modMbox f).flt = d.flt := rfl
@[simp] theorem Dev.modMbox_pwr (f : Mbox → Mbox) : (d.modMbox f).pwr = d.pwr := rfl
@[simp] theorem Dev.modMbox_dom (f : Mbox → Mbox) : (d.modMbox f).dom = d.dom := rfl
@[simp] theorem Dev.modMbox_xing (f : Mbox → Mbox) : (d.modMbox f).xing = d.xing := rfl
@[simp] theorem Dev.modMbox_boot (f : Mbox → Mbox) : (d.modMbox f).boot = d.boot := rfl
@[simp] theorem Dev.modMbox_dram (f : Mbox → Mbox) : (d.modMbox f).dram = d.dram := rfl
@[simp] theorem Dev.modMbox_hed (f : Mbox → Mbox) : (d.modMbox f).hed = d.hed := rfl
@[simp] theorem Dev.modMbox_fwd (f : Mbox → Mbox) : (d.modMbox f).fwd = d.fwd := rfl
@[simp] theorem Dev.modMbox_net (f : Mbox → Mbox) : (d.modMbox f).net = d.net := rfl
@[simp] theorem Dev.modMbox_ciph (f : Mbox → Mbox) : (d.modMbox f).ciph = d.ciph := rfl
@[simp] theorem Dev.modMbox_stor (f : Mbox → Mbox) : (d.modMbox f).stor = d.stor := rfl
@[simp] theorem Dev.modMbox_reed (f : Mbox → Mbox) : (d.modMbox f).reed = d.reed := rfl
@[simp] theorem Dev.modMbox_barb (f : Mbox → Mbox) : (d.modMbox f).barb = d.barb := rfl
@[simp] theorem Dev.modMbox_mbox (f : Mbox → Mbox) : (d.modMbox f).mbox = f d.mbox := rfl
@[simp] theorem Dev.modMbox_movers (f : Mbox → Mbox) : (d.modMbox f).movers = d.movers := rfl
@[simp] theorem Dev.modMbox_hif (f : Mbox → Mbox) : (d.modMbox f).hif = d.hif := rfl
@[simp] theorem Dev.modMbox_rings (f : Mbox → Mbox) : (d.modMbox f).rings = d.rings := rfl
@[simp] theorem Dev.modMbox_ind (f : Mbox → Mbox) : (d.modMbox f).ind = d.ind := rfl
@[simp] theorem Dev.modMbox_shuts (f : Mbox → Mbox) : (d.modMbox f).shuts = d.shuts := rfl
@[simp] theorem Dev.modMbox_nextShut (f : Mbox → Mbox) : (d.modMbox f).nextShut = d.nextShut := rfl
@[simp] theorem Dev.modMbox_seq (f : Mbox → Mbox) : (d.modMbox f).seq = d.seq := rfl
@[simp] theorem Dev.modMbox_out (f : Mbox → Mbox) : (d.modMbox f).out = d.out := rfl
@[simp] theorem Dev.modMbox_free (f : Mbox → Mbox) : (d.modMbox f).free = d.free := rfl
@[simp] theorem Dev.modMbox_get (f : Mbox → Mbox) (g : Fld) : (d.modMbox f).get g = d.get g := rfl
@[simp] theorem Dev.modMbox_ctr (f : Mbox → Mbox) (k : Nat) : (d.modMbox f).ctr k = d.ctr k := rfl
@[simp] theorem Dev.modMbox_flag (f : Mbox → Mbox) (g : Fld) : (d.modMbox f).flag g = d.flag g := rfl
@[simp] theorem Dev.modMbox_sh (f : Mbox → Mbox) (g : Fld) : (d.modMbox f).sh g = d.sh g := rfl

@[simp] theorem Dev.modHif_bus (f : Hif → Hif) : (d.modHif f).bus = d.bus := rfl
@[simp] theorem Dev.modHif_cfg (f : Hif → Hif) : (d.modHif f).cfg = d.cfg := rfl
@[simp] theorem Dev.modHif_sys (f : Hif → Hif) : (d.modHif f).sys = d.sys := rfl
@[simp] theorem Dev.modHif_time (f : Hif → Hif) : (d.modHif f).time = d.time := rfl
@[simp] theorem Dev.modHif_loom (f : Hif → Hif) : (d.modHif f).loom = d.loom := rfl
@[simp] theorem Dev.modHif_ledg (f : Hif → Hif) : (d.modHif f).ledg = d.ledg := rfl
@[simp] theorem Dev.modHif_flt (f : Hif → Hif) : (d.modHif f).flt = d.flt := rfl
@[simp] theorem Dev.modHif_pwr (f : Hif → Hif) : (d.modHif f).pwr = d.pwr := rfl
@[simp] theorem Dev.modHif_dom (f : Hif → Hif) : (d.modHif f).dom = d.dom := rfl
@[simp] theorem Dev.modHif_xing (f : Hif → Hif) : (d.modHif f).xing = d.xing := rfl
@[simp] theorem Dev.modHif_boot (f : Hif → Hif) : (d.modHif f).boot = d.boot := rfl
@[simp] theorem Dev.modHif_dram (f : Hif → Hif) : (d.modHif f).dram = d.dram := rfl
@[simp] theorem Dev.modHif_hed (f : Hif → Hif) : (d.modHif f).hed = d.hed := rfl
@[simp] theorem Dev.modHif_fwd (f : Hif → Hif) : (d.modHif f).fwd = d.fwd := rfl
@[simp] theorem Dev.modHif_net (f : Hif → Hif) : (d.modHif f).net = d.net := rfl
@[simp] theorem Dev.modHif_ciph (f : Hif → Hif) : (d.modHif f).ciph = d.ciph := rfl
@[simp] theorem Dev.modHif_stor (f : Hif → Hif) : (d.modHif f).stor = d.stor := rfl
@[simp] theorem Dev.modHif_reed (f : Hif → Hif) : (d.modHif f).reed = d.reed := rfl
@[simp] theorem Dev.modHif_barb (f : Hif → Hif) : (d.modHif f).barb = d.barb := rfl
@[simp] theorem Dev.modHif_mbox (f : Hif → Hif) : (d.modHif f).mbox = d.mbox := rfl
@[simp] theorem Dev.modHif_movers (f : Hif → Hif) : (d.modHif f).movers = d.movers := rfl
@[simp] theorem Dev.modHif_hif (f : Hif → Hif) : (d.modHif f).hif = f d.hif := rfl
@[simp] theorem Dev.modHif_rings (f : Hif → Hif) : (d.modHif f).rings = d.rings := rfl
@[simp] theorem Dev.modHif_ind (f : Hif → Hif) : (d.modHif f).ind = d.ind := rfl
@[simp] theorem Dev.modHif_shuts (f : Hif → Hif) : (d.modHif f).shuts = d.shuts := rfl
@[simp] theorem Dev.modHif_nextShut (f : Hif → Hif) : (d.modHif f).nextShut = d.nextShut := rfl
@[simp] theorem Dev.modHif_seq (f : Hif → Hif) : (d.modHif f).seq = d.seq := rfl
@[simp] theorem Dev.modHif_out (f : Hif → Hif) : (d.modHif f).out = d.out := rfl
@[simp] theorem Dev.modHif_free (f : Hif → Hif) : (d.modHif f).free = d.free := rfl
@[simp] theorem Dev.modHif_get (f : Hif → Hif) (g : Fld) : (d.modHif f).get g = d.get g := rfl
@[simp] theorem Dev.modHif_ctr (f : Hif → Hif) (k : Nat) : (d.modHif f).ctr k = d.ctr k := rfl
@[simp] theorem Dev.modHif_flag (f : Hif → Hif) (g : Fld) : (d.modHif f).flag g = d.flag g := rfl
@[simp] theorem Dev.modHif_sh (f : Hif → Hif) (g : Fld) : (d.modHif f).sh g = d.sh g := rfl

@[simp] theorem Dev.modStore_bus (f : Store → Store) : (d.modStore f).bus = d.bus := rfl
@[simp] theorem Dev.modStore_cfg (f : Store → Store) : (d.modStore f).cfg = d.cfg := rfl
@[simp] theorem Dev.modStore_sys (f : Store → Store) : (d.modStore f).sys = d.sys := rfl
@[simp] theorem Dev.modStore_time (f : Store → Store) : (d.modStore f).time = d.time := rfl
@[simp] theorem Dev.modStore_loom (f : Store → Store) : (d.modStore f).loom = d.loom := rfl
@[simp] theorem Dev.modStore_ledg (f : Store → Store) : (d.modStore f).ledg = d.ledg := rfl
@[simp] theorem Dev.modStore_flt (f : Store → Store) : (d.modStore f).flt = d.flt := rfl
@[simp] theorem Dev.modStore_pwr (f : Store → Store) : (d.modStore f).pwr = d.pwr := rfl
@[simp] theorem Dev.modStore_dom (f : Store → Store) : (d.modStore f).dom = d.dom := rfl
@[simp] theorem Dev.modStore_xing (f : Store → Store) : (d.modStore f).xing = d.xing := rfl
@[simp] theorem Dev.modStore_dram (f : Store → Store) : (d.modStore f).dram = d.dram := rfl
@[simp] theorem Dev.modStore_hed (f : Store → Store) : (d.modStore f).hed = d.hed := rfl
@[simp] theorem Dev.modStore_fwd (f : Store → Store) : (d.modStore f).fwd = d.fwd := rfl
@[simp] theorem Dev.modStore_net (f : Store → Store) : (d.modStore f).net = d.net := rfl
@[simp] theorem Dev.modStore_ciph (f : Store → Store) : (d.modStore f).ciph = d.ciph := rfl
@[simp] theorem Dev.modStore_stor (f : Store → Store) : (d.modStore f).stor = d.stor := rfl
@[simp] theorem Dev.modStore_reed (f : Store → Store) : (d.modStore f).reed = d.reed := rfl
@[simp] theorem Dev.modStore_barb (f : Store → Store) : (d.modStore f).barb = d.barb := rfl
@[simp] theorem Dev.modStore_mbox (f : Store → Store) : (d.modStore f).mbox = d.mbox := rfl
@[simp] theorem Dev.modStore_movers (f : Store → Store) : (d.modStore f).movers = d.movers := rfl
@[simp] theorem Dev.modStore_hif (f : Store → Store) : (d.modStore f).hif = d.hif := rfl
@[simp] theorem Dev.modStore_rings (f : Store → Store) : (d.modStore f).rings = d.rings := rfl
@[simp] theorem Dev.modStore_ind (f : Store → Store) : (d.modStore f).ind = d.ind := rfl
@[simp] theorem Dev.modStore_shuts (f : Store → Store) : (d.modStore f).shuts = d.shuts := rfl
@[simp] theorem Dev.modStore_nextShut (f : Store → Store) : (d.modStore f).nextShut = d.nextShut := rfl
@[simp] theorem Dev.modStore_seq (f : Store → Store) : (d.modStore f).seq = d.seq := rfl
@[simp] theorem Dev.modStore_out (f : Store → Store) : (d.modStore f).out = d.out := rfl
@[simp] theorem Dev.modStore_free (f : Store → Store) : (d.modStore f).free = d.free := rfl
@[simp] theorem Dev.modStore_sh (f : Store → Store) (g : Fld) : (d.modStore f).sh g = d.sh g := rfl
@[simp] theorem Dev.modStore_get (f : Store → Store) (g : Fld) : (d.modStore f).get g = d.get g := rfl
@[simp] theorem Dev.modStore_ctr (f : Store → Store) (k : Nat) : (d.modStore f).ctr k = d.ctr k := rfl

@[simp] theorem Dev.modStore_boot (f : Store → Store) : (d.modStore f).boot = { d.boot with store := f d.boot.store } := rfl

@[simp] theorem Dev.set_cfg (f : Fld) (v : Nat) : (d.set f v).cfg = d.cfg := rfl
@[simp] theorem Dev.set_sys (f : Fld) (v : Nat) : (d.set f v).sys = d.sys := rfl
@[simp] theorem Dev.set_time (f : Fld) (v : Nat) : (d.set f v).time = d.time := rfl
@[simp] theorem Dev.set_loom (f : Fld) (v : Nat) : (d.set f v).loom = d.loom := rfl
@[simp] theorem Dev.set_ledg (f : Fld) (v : Nat) : (d.set f v).ledg = d.ledg := rfl
@[simp] theorem Dev.set_flt (f : Fld) (v : Nat) : (d.set f v).flt = d.flt := rfl
@[simp] theorem Dev.set_pwr (f : Fld) (v : Nat) : (d.set f v).pwr = d.pwr := rfl
@[simp] theorem Dev.set_dom (f : Fld) (v : Nat) : (d.set f v).dom = d.dom := rfl
@[simp] theorem Dev.set_xing (f : Fld) (v : Nat) : (d.set f v).xing = d.xing := rfl
@[simp] theorem Dev.set_boot (f : Fld) (v : Nat) : (d.set f v).boot = d.boot := rfl
@[simp] theorem Dev.set_dram (f : Fld) (v : Nat) : (d.set f v).dram = d.dram := rfl
@[simp] theorem Dev.set_hed (f : Fld) (v : Nat) : (d.set f v).hed = d.hed := rfl
@[simp] theorem Dev.set_fwd (f : Fld) (v : Nat) : (d.set f v).fwd = d.fwd := rfl
@[simp] theorem Dev.set_net (f : Fld) (v : Nat) : (d.set f v).net = d.net := rfl
@[simp] theorem Dev.set_ciph (f : Fld) (v : Nat) : (d.set f v).ciph = d.ciph := rfl
@[simp] theorem Dev.set_stor (f : Fld) (v : Nat) : (d.set f v).stor = d.stor := rfl
@[simp] theorem Dev.set_reed (f : Fld) (v : Nat) : (d.set f v).reed = d.reed := rfl
@[simp] theorem Dev.set_barb (f : Fld) (v : Nat) : (d.set f v).barb = d.barb := rfl
@[simp] theorem Dev.set_mbox (f : Fld) (v : Nat) : (d.set f v).mbox = d.mbox := rfl
@[simp] theorem Dev.set_movers (f : Fld) (v : Nat) : (d.set f v).movers = d.movers := rfl
@[simp] theorem Dev.set_hif (f : Fld) (v : Nat) : (d.set f v).hif = d.hif := rfl
@[simp] theorem Dev.set_rings (f : Fld) (v : Nat) : (d.set f v).rings = d.rings := rfl
@[simp] theorem Dev.set_ind (f : Fld) (v : Nat) : (d.set f v).ind = d.ind := rfl
@[simp] theorem Dev.set_shuts (f : Fld) (v : Nat) : (d.set f v).shuts = d.shuts := rfl
@[simp] theorem Dev.set_nextShut (f : Fld) (v : Nat) : (d.set f v).nextShut = d.nextShut := rfl
@[simp] theorem Dev.set_seq (f : Fld) (v : Nat) : (d.set f v).seq = d.seq := rfl
@[simp] theorem Dev.set_out (f : Fld) (v : Nat) : (d.set f v).out = d.out := rfl
@[simp] theorem Dev.set_free (f : Fld) (v : Nat) : (d.set f v).free = d.free := rfl
@[simp] theorem Dev.set_sh (f : Fld) (v : Nat) (g : Fld) : (d.set f v).sh g = d.sh g := rfl

@[simp] theorem Dev.raise_cfg (f : Fld) : (d.raise f).cfg = d.cfg := rfl
@[simp] theorem Dev.raise_sys (f : Fld) : (d.raise f).sys = d.sys := rfl
@[simp] theorem Dev.raise_time (f : Fld) : (d.raise f).time = d.time := rfl
@[simp] theorem Dev.raise_loom (f : Fld) : (d.raise f).loom = d.loom := rfl
@[simp] theorem Dev.raise_ledg (f : Fld) : (d.raise f).ledg = d.ledg := rfl
@[simp] theorem Dev.raise_flt (f : Fld) : (d.raise f).flt = d.flt := rfl
@[simp] theorem Dev.raise_pwr (f : Fld) : (d.raise f).pwr = d.pwr := rfl
@[simp] theorem Dev.raise_dom (f : Fld) : (d.raise f).dom = d.dom := rfl
@[simp] theorem Dev.raise_xing (f : Fld) : (d.raise f).xing = d.xing := rfl
@[simp] theorem Dev.raise_boot (f : Fld) : (d.raise f).boot = d.boot := rfl
@[simp] theorem Dev.raise_dram (f : Fld) : (d.raise f).dram = d.dram := rfl
@[simp] theorem Dev.raise_hed (f : Fld) : (d.raise f).hed = d.hed := rfl
@[simp] theorem Dev.raise_fwd (f : Fld) : (d.raise f).fwd = d.fwd := rfl
@[simp] theorem Dev.raise_net (f : Fld) : (d.raise f).net = d.net := rfl
@[simp] theorem Dev.raise_ciph (f : Fld) : (d.raise f).ciph = d.ciph := rfl
@[simp] theorem Dev.raise_stor (f : Fld) : (d.raise f).stor = d.stor := rfl
@[simp] theorem Dev.raise_reed (f : Fld) : (d.raise f).reed = d.reed := rfl
@[simp] theorem Dev.raise_barb (f : Fld) : (d.raise f).barb = d.barb := rfl
@[simp] theorem Dev.raise_mbox (f : Fld) : (d.raise f).mbox = d.mbox := rfl
@[simp] theorem Dev.raise_movers (f : Fld) : (d.raise f).movers = d.movers := rfl
@[simp] theorem Dev.raise_hif (f : Fld) : (d.raise f).hif = d.hif := rfl
@[simp] theorem Dev.raise_rings (f : Fld) : (d.raise f).rings = d.rings := rfl
@[simp] theorem Dev.raise_ind (f : Fld) : (d.raise f).ind = d.ind := rfl
@[simp] theorem Dev.raise_shuts (f : Fld) : (d.raise f).shuts = d.shuts := rfl
@[simp] theorem Dev.raise_nextShut (f : Fld) : (d.raise f).nextShut = d.nextShut := rfl
@[simp] theorem Dev.raise_seq (f : Fld) : (d.raise f).seq = d.seq := rfl
@[simp] theorem Dev.raise_out (f : Fld) : (d.raise f).out = d.out := rfl
@[simp] theorem Dev.raise_free (f : Fld) : (d.raise f).free = d.free := rfl
@[simp] theorem Dev.raise_sh (f : Fld) (g : Fld) : (d.raise f).sh g = d.sh g := rfl

@[simp] theorem Dev.putWord_cfg (a : Nat) (w : Word) : (d.putWord a w).cfg = d.cfg := rfl
@[simp] theorem Dev.putWord_sys (a : Nat) (w : Word) : (d.putWord a w).sys = d.sys := rfl
@[simp] theorem Dev.putWord_time (a : Nat) (w : Word) : (d.putWord a w).time = d.time := rfl
@[simp] theorem Dev.putWord_loom (a : Nat) (w : Word) : (d.putWord a w).loom = d.loom := rfl
@[simp] theorem Dev.putWord_ledg (a : Nat) (w : Word) : (d.putWord a w).ledg = d.ledg := rfl
@[simp] theorem Dev.putWord_flt (a : Nat) (w : Word) : (d.putWord a w).flt = d.flt := rfl
@[simp] theorem Dev.putWord_pwr (a : Nat) (w : Word) : (d.putWord a w).pwr = d.pwr := rfl
@[simp] theorem Dev.putWord_dom (a : Nat) (w : Word) : (d.putWord a w).dom = d.dom := rfl
@[simp] theorem Dev.putWord_xing (a : Nat) (w : Word) : (d.putWord a w).xing = d.xing := rfl
@[simp] theorem Dev.putWord_boot (a : Nat) (w : Word) : (d.putWord a w).boot = d.boot := rfl
@[simp] theorem Dev.putWord_dram (a : Nat) (w : Word) : (d.putWord a w).dram = d.dram := rfl
@[simp] theorem Dev.putWord_hed (a : Nat) (w : Word) : (d.putWord a w).hed = d.hed := rfl
@[simp] theorem Dev.putWord_fwd (a : Nat) (w : Word) : (d.putWord a w).fwd = d.fwd := rfl
@[simp] theorem Dev.putWord_net (a : Nat) (w : Word) : (d.putWord a w).net = d.net := rfl
@[simp] theorem Dev.putWord_ciph (a : Nat) (w : Word) : (d.putWord a w).ciph = d.ciph := rfl
@[simp] theorem Dev.putWord_stor (a : Nat) (w : Word) : (d.putWord a w).stor = d.stor := rfl
@[simp] theorem Dev.putWord_reed (a : Nat) (w : Word) : (d.putWord a w).reed = d.reed := rfl
@[simp] theorem Dev.putWord_barb (a : Nat) (w : Word) : (d.putWord a w).barb = d.barb := rfl
@[simp] theorem Dev.putWord_mbox (a : Nat) (w : Word) : (d.putWord a w).mbox = d.mbox := rfl
@[simp] theorem Dev.putWord_movers (a : Nat) (w : Word) : (d.putWord a w).movers = d.movers := rfl
@[simp] theorem Dev.putWord_hif (a : Nat) (w : Word) : (d.putWord a w).hif = d.hif := rfl
@[simp] theorem Dev.putWord_rings (a : Nat) (w : Word) : (d.putWord a w).rings = d.rings := rfl
@[simp] theorem Dev.putWord_ind (a : Nat) (w : Word) : (d.putWord a w).ind = d.ind := rfl
@[simp] theorem Dev.putWord_shuts (a : Nat) (w : Word) : (d.putWord a w).shuts = d.shuts := rfl
@[simp] theorem Dev.putWord_nextShut (a : Nat) (w : Word) : (d.putWord a w).nextShut = d.nextShut := rfl
@[simp] theorem Dev.putWord_seq (a : Nat) (w : Word) : (d.putWord a w).seq = d.seq := rfl
@[simp] theorem Dev.putWord_out (a : Nat) (w : Word) : (d.putWord a w).out = d.out := rfl
@[simp] theorem Dev.putWord_free (a : Nat) (w : Word) : (d.putWord a w).free = d.free := rfl
@[simp] theorem Dev.putWord_sh (a : Nat) (w : Word) (g : Fld) : (d.putWord a w).sh g = d.sh g := rfl

@[simp] theorem Dev.setCtr_cfg (k v : Nat) : (d.setCtr k v).cfg = d.cfg := rfl
@[simp] theorem Dev.setCtr_sys (k v : Nat) : (d.setCtr k v).sys = d.sys := rfl
@[simp] theorem Dev.setCtr_time (k v : Nat) : (d.setCtr k v).time = d.time := rfl
@[simp] theorem Dev.setCtr_loom (k v : Nat) : (d.setCtr k v).loom = d.loom := rfl
@[simp] theorem Dev.setCtr_ledg (k v : Nat) : (d.setCtr k v).ledg = d.ledg := rfl
@[simp] theorem Dev.setCtr_flt (k v : Nat) : (d.setCtr k v).flt = d.flt := rfl
@[simp] theorem Dev.setCtr_pwr (k v : Nat) : (d.setCtr k v).pwr = d.pwr := rfl
@[simp] theorem Dev.setCtr_dom (k v : Nat) : (d.setCtr k v).dom = d.dom := rfl
@[simp] theorem Dev.setCtr_xing (k v : Nat) : (d.setCtr k v).xing = d.xing := rfl
@[simp] theorem Dev.setCtr_boot (k v : Nat) : (d.setCtr k v).boot = d.boot := rfl
@[simp] theorem Dev.setCtr_dram (k v : Nat) : (d.setCtr k v).dram = d.dram := rfl
@[simp] theorem Dev.setCtr_hed (k v : Nat) : (d.setCtr k v).hed = d.hed := rfl
@[simp] theorem Dev.setCtr_fwd (k v : Nat) : (d.setCtr k v).fwd = d.fwd := rfl
@[simp] theorem Dev.setCtr_net (k v : Nat) : (d.setCtr k v).net = d.net := rfl
@[simp] theorem Dev.setCtr_ciph (k v : Nat) : (d.setCtr k v).ciph = d.ciph := rfl
@[simp] theorem Dev.setCtr_stor (k v : Nat) : (d.setCtr k v).stor = d.stor := rfl
@[simp] theorem Dev.setCtr_reed (k v : Nat) : (d.setCtr k v).reed = d.reed := rfl
@[simp] theorem Dev.setCtr_barb (k v : Nat) : (d.setCtr k v).barb = d.barb := rfl
@[simp] theorem Dev.setCtr_mbox (k v : Nat) : (d.setCtr k v).mbox = d.mbox := rfl
@[simp] theorem Dev.setCtr_movers (k v : Nat) : (d.setCtr k v).movers = d.movers := rfl
@[simp] theorem Dev.setCtr_hif (k v : Nat) : (d.setCtr k v).hif = d.hif := rfl
@[simp] theorem Dev.setCtr_rings (k v : Nat) : (d.setCtr k v).rings = d.rings := rfl
@[simp] theorem Dev.setCtr_ind (k v : Nat) : (d.setCtr k v).ind = d.ind := rfl
@[simp] theorem Dev.setCtr_shuts (k v : Nat) : (d.setCtr k v).shuts = d.shuts := rfl
@[simp] theorem Dev.setCtr_nextShut (k v : Nat) : (d.setCtr k v).nextShut = d.nextShut := rfl
@[simp] theorem Dev.setCtr_seq (k v : Nat) : (d.setCtr k v).seq = d.seq := rfl
@[simp] theorem Dev.setCtr_out (k v : Nat) : (d.setCtr k v).out = d.out := rfl
@[simp] theorem Dev.setCtr_free (k v : Nat) : (d.setCtr k v).free = d.free := rfl
@[simp] theorem Dev.setCtr_sh (k v : Nat) (g : Fld) : (d.setCtr k v).sh g = d.sh g := rfl

@[simp] theorem Dev.count_cfg (k n : Nat) : (d.count k n).cfg = d.cfg := rfl
@[simp] theorem Dev.count_sys (k n : Nat) : (d.count k n).sys = d.sys := rfl
@[simp] theorem Dev.count_time (k n : Nat) : (d.count k n).time = d.time := rfl
@[simp] theorem Dev.count_loom (k n : Nat) : (d.count k n).loom = d.loom := rfl
@[simp] theorem Dev.count_ledg (k n : Nat) : (d.count k n).ledg = d.ledg := rfl
@[simp] theorem Dev.count_flt (k n : Nat) : (d.count k n).flt = d.flt := rfl
@[simp] theorem Dev.count_pwr (k n : Nat) : (d.count k n).pwr = d.pwr := rfl
@[simp] theorem Dev.count_dom (k n : Nat) : (d.count k n).dom = d.dom := rfl
@[simp] theorem Dev.count_xing (k n : Nat) : (d.count k n).xing = d.xing := rfl
@[simp] theorem Dev.count_boot (k n : Nat) : (d.count k n).boot = d.boot := rfl
@[simp] theorem Dev.count_dram (k n : Nat) : (d.count k n).dram = d.dram := rfl
@[simp] theorem Dev.count_hed (k n : Nat) : (d.count k n).hed = d.hed := rfl
@[simp] theorem Dev.count_fwd (k n : Nat) : (d.count k n).fwd = d.fwd := rfl
@[simp] theorem Dev.count_net (k n : Nat) : (d.count k n).net = d.net := rfl
@[simp] theorem Dev.count_ciph (k n : Nat) : (d.count k n).ciph = d.ciph := rfl
@[simp] theorem Dev.count_stor (k n : Nat) : (d.count k n).stor = d.stor := rfl
@[simp] theorem Dev.count_reed (k n : Nat) : (d.count k n).reed = d.reed := rfl
@[simp] theorem Dev.count_barb (k n : Nat) : (d.count k n).barb = d.barb := rfl
@[simp] theorem Dev.count_mbox (k n : Nat) : (d.count k n).mbox = d.mbox := rfl
@[simp] theorem Dev.count_movers (k n : Nat) : (d.count k n).movers = d.movers := rfl
@[simp] theorem Dev.count_hif (k n : Nat) : (d.count k n).hif = d.hif := rfl
@[simp] theorem Dev.count_rings (k n : Nat) : (d.count k n).rings = d.rings := rfl
@[simp] theorem Dev.count_ind (k n : Nat) : (d.count k n).ind = d.ind := rfl
@[simp] theorem Dev.count_shuts (k n : Nat) : (d.count k n).shuts = d.shuts := rfl
@[simp] theorem Dev.count_nextShut (k n : Nat) : (d.count k n).nextShut = d.nextShut := rfl
@[simp] theorem Dev.count_seq (k n : Nat) : (d.count k n).seq = d.seq := rfl
@[simp] theorem Dev.count_out (k n : Nat) : (d.count k n).out = d.out := rfl
@[simp] theorem Dev.count_free (k n : Nat) : (d.count k n).free = d.free := rfl
@[simp] theorem Dev.count_sh (k n : Nat) (g : Fld) : (d.count k n).sh g = d.sh g := rfl

@[simp] theorem Dev.emit_bus (o : Out) : (d.emit o).bus = d.bus := rfl
@[simp] theorem Dev.emit_cfg (o : Out) : (d.emit o).cfg = d.cfg := rfl
@[simp] theorem Dev.emit_sys (o : Out) : (d.emit o).sys = d.sys := rfl
@[simp] theorem Dev.emit_time (o : Out) : (d.emit o).time = d.time := rfl
@[simp] theorem Dev.emit_loom (o : Out) : (d.emit o).loom = d.loom := rfl
@[simp] theorem Dev.emit_ledg (o : Out) : (d.emit o).ledg = d.ledg := rfl
@[simp] theorem Dev.emit_flt (o : Out) : (d.emit o).flt = d.flt := rfl
@[simp] theorem Dev.emit_pwr (o : Out) : (d.emit o).pwr = d.pwr := rfl
@[simp] theorem Dev.emit_dom (o : Out) : (d.emit o).dom = d.dom := rfl
@[simp] theorem Dev.emit_xing (o : Out) : (d.emit o).xing = d.xing := rfl
@[simp] theorem Dev.emit_boot (o : Out) : (d.emit o).boot = d.boot := rfl
@[simp] theorem Dev.emit_dram (o : Out) : (d.emit o).dram = d.dram := rfl
@[simp] theorem Dev.emit_hed (o : Out) : (d.emit o).hed = d.hed := rfl
@[simp] theorem Dev.emit_fwd (o : Out) : (d.emit o).fwd = d.fwd := rfl
@[simp] theorem Dev.emit_net (o : Out) : (d.emit o).net = d.net := rfl
@[simp] theorem Dev.emit_ciph (o : Out) : (d.emit o).ciph = d.ciph := rfl
@[simp] theorem Dev.emit_stor (o : Out) : (d.emit o).stor = d.stor := rfl
@[simp] theorem Dev.emit_reed (o : Out) : (d.emit o).reed = d.reed := rfl
@[simp] theorem Dev.emit_barb (o : Out) : (d.emit o).barb = d.barb := rfl
@[simp] theorem Dev.emit_mbox (o : Out) : (d.emit o).mbox = d.mbox := rfl
@[simp] theorem Dev.emit_movers (o : Out) : (d.emit o).movers = d.movers := rfl
@[simp] theorem Dev.emit_hif (o : Out) : (d.emit o).hif = d.hif := rfl
@[simp] theorem Dev.emit_rings (o : Out) : (d.emit o).rings = d.rings := rfl
@[simp] theorem Dev.emit_ind (o : Out) : (d.emit o).ind = d.ind := rfl
@[simp] theorem Dev.emit_shuts (o : Out) : (d.emit o).shuts = d.shuts := rfl
@[simp] theorem Dev.emit_nextShut (o : Out) : (d.emit o).nextShut = d.nextShut := rfl
@[simp] theorem Dev.emit_seq (o : Out) : (d.emit o).seq = d.seq := rfl
@[simp] theorem Dev.emit_free (o : Out) : (d.emit o).free = d.free := rfl
@[simp] theorem Dev.emit_sh (o : Out) (g : Fld) : (d.emit o).sh g = d.sh g := rfl
@[simp] theorem Dev.emit_get (o : Out) (g : Fld) : (d.emit o).get g = d.get g := rfl
@[simp] theorem Dev.emit_ctr (o : Out) (k : Nat) : (d.emit o).ctr k = d.ctr k := rfl

@[simp] theorem Dev.emit_out (o : Out) : (d.emit o).out = d.out ++ [o] := rfl
@[simp] theorem Dev.ddrWrite_bus (a : Nat) (b : List Byte) : (d.ddrWrite a b).bus = d.bus := rfl
@[simp] theorem Dev.ddrWrite_cfg (a : Nat) (b : List Byte) : (d.ddrWrite a b).cfg = d.cfg := rfl
@[simp] theorem Dev.ddrWrite_sys (a : Nat) (b : List Byte) : (d.ddrWrite a b).sys = d.sys := rfl
@[simp] theorem Dev.ddrWrite_time (a : Nat) (b : List Byte) : (d.ddrWrite a b).time = d.time := rfl
@[simp] theorem Dev.ddrWrite_loom (a : Nat) (b : List Byte) : (d.ddrWrite a b).loom = d.loom := rfl
@[simp] theorem Dev.ddrWrite_ledg (a : Nat) (b : List Byte) : (d.ddrWrite a b).ledg = d.ledg := rfl
@[simp] theorem Dev.ddrWrite_flt (a : Nat) (b : List Byte) : (d.ddrWrite a b).flt = d.flt := rfl
@[simp] theorem Dev.ddrWrite_pwr (a : Nat) (b : List Byte) : (d.ddrWrite a b).pwr = d.pwr := rfl
@[simp] theorem Dev.ddrWrite_dom (a : Nat) (b : List Byte) : (d.ddrWrite a b).dom = d.dom := rfl
@[simp] theorem Dev.ddrWrite_xing (a : Nat) (b : List Byte) : (d.ddrWrite a b).xing = d.xing := rfl
@[simp] theorem Dev.ddrWrite_boot (a : Nat) (b : List Byte) : (d.ddrWrite a b).boot = d.boot := rfl
@[simp] theorem Dev.ddrWrite_hed (a : Nat) (b : List Byte) : (d.ddrWrite a b).hed = d.hed := rfl
@[simp] theorem Dev.ddrWrite_fwd (a : Nat) (b : List Byte) : (d.ddrWrite a b).fwd = d.fwd := rfl
@[simp] theorem Dev.ddrWrite_net (a : Nat) (b : List Byte) : (d.ddrWrite a b).net = d.net := rfl
@[simp] theorem Dev.ddrWrite_ciph (a : Nat) (b : List Byte) : (d.ddrWrite a b).ciph = d.ciph := rfl
@[simp] theorem Dev.ddrWrite_stor (a : Nat) (b : List Byte) : (d.ddrWrite a b).stor = d.stor := rfl
@[simp] theorem Dev.ddrWrite_reed (a : Nat) (b : List Byte) : (d.ddrWrite a b).reed = d.reed := rfl
@[simp] theorem Dev.ddrWrite_barb (a : Nat) (b : List Byte) : (d.ddrWrite a b).barb = d.barb := rfl
@[simp] theorem Dev.ddrWrite_mbox (a : Nat) (b : List Byte) : (d.ddrWrite a b).mbox = d.mbox := rfl
@[simp] theorem Dev.ddrWrite_movers (a : Nat) (b : List Byte) : (d.ddrWrite a b).movers = d.movers := rfl
@[simp] theorem Dev.ddrWrite_hif (a : Nat) (b : List Byte) : (d.ddrWrite a b).hif = d.hif := rfl
@[simp] theorem Dev.ddrWrite_rings (a : Nat) (b : List Byte) : (d.ddrWrite a b).rings = d.rings := rfl
@[simp] theorem Dev.ddrWrite_ind (a : Nat) (b : List Byte) : (d.ddrWrite a b).ind = d.ind := rfl
@[simp] theorem Dev.ddrWrite_shuts (a : Nat) (b : List Byte) : (d.ddrWrite a b).shuts = d.shuts := rfl
@[simp] theorem Dev.ddrWrite_nextShut (a : Nat) (b : List Byte) : (d.ddrWrite a b).nextShut = d.nextShut := rfl
@[simp] theorem Dev.ddrWrite_seq (a : Nat) (b : List Byte) : (d.ddrWrite a b).seq = d.seq := rfl
@[simp] theorem Dev.ddrWrite_out (a : Nat) (b : List Byte) : (d.ddrWrite a b).out = d.out := rfl
@[simp] theorem Dev.ddrWrite_free (a : Nat) (b : List Byte) : (d.ddrWrite a b).free = d.free := rfl
@[simp] theorem Dev.ddrWrite_sh (a : Nat) (b : List Byte) (g : Fld) : (d.ddrWrite a b).sh g = d.sh g := rfl
@[simp] theorem Dev.ddrWrite_get (a : Nat) (b : List Byte) (g : Fld) : (d.ddrWrite a b).get g = d.get g := rfl
@[simp] theorem Dev.ddrWrite_ctr (a : Nat) (b : List Byte) (k : Nat) : (d.ddrWrite a b).ctr k = d.ctr k := rfl

@[simp] theorem Dev.ddrWrite_wq (a : Nat) (b : List Byte) : (d.ddrWrite a b).dram.wq = queueBytes d.dram.wq a b := rfl
@[simp] theorem Dev.set_ctr (f : Fld) (v : Nat) (k : Nat) : (d.set f v).ctr k = d.ctr k := rfl
@[simp] theorem Dev.raise_ctr (f : Fld) (k : Nat) : (d.raise f).ctr k = d.ctr k := rfl
@[simp] theorem Dev.putWord_ctr (a : Nat) (w : Word) (k : Nat) : (d.putWord a w).ctr k = d.ctr k := rfl
@[simp] theorem Dev.setCtr_get (k v : Nat) (g : Fld) : (d.setCtr k v).get g = d.get g := rfl
@[simp] theorem Dev.count_get (k n : Nat) (g : Fld) : (d.count k n).get g = d.get g := rfl

/-! ## Fields of registers -/

/-- A field of one word that was written reads what was written. -/
theorem fieldGet_fieldSet_self (z : Nat → Word) (m : SMap Word) (f : Fld) (v : Nat) (h : f.lo + f.width ≤ 32) :
    fieldGet z (fieldSet z m f v) f = v % 2 ^ f.width := by
  unfold fieldGet fieldSet
  rw [if_pos h, if_pos h]
  simp only [wordAt, mapGet_mapPut_self, Option.getD_some, BitVec.toNat_ofNat]
  rw [Nat.mod_eq_of_lt (bitsSet_lt _ _ _ _ 32 (BitVec.isLt _) h), bitsOf_bitsSet_self]

/-- A field of two words that was written reads what was written. -/
theorem fieldGet_fieldSet_wide (z : Nat → Word) (m : SMap Word) (f : Fld) (v : Nat) (h : 32 < f.lo + f.width) (h2 : f.lo + f.width ≤ 64) :
    fieldGet z (fieldSet z m f v) f = v % 2 ^ f.width := by
  unfold fieldGet fieldSet
  rw [if_neg (by omega), if_neg (by omega)]
  have hb : bitsSet ((wordAt z m f.addr).toNat + 2 ^ 32 * (wordAt z m (f.addr + 4)).toNat) f.lo f.width v < 2 ^ 64 :=
    bitsSet_lt _ _ _ _ 64 (by have := (wordAt z m f.addr).isLt; have := (wordAt z m (f.addr + 4)).isLt; omega) h2
  simp only [wordAt, mapGet_mapPut_self]
  rw [mapGet_mapPut_ne _ _ (by omega), mapGet_mapPut_self]
  simp only [Option.getD_some, BitVec.toNat_ofNat]
  generalize hx : bitsSet _ f.lo f.width v = x
  simp only [wordAt] at hb
  rw [hx] at hb
  rw [show x % 2 ^ 32 + 2 ^ 32 * (x / 2 ^ 32 % 2 ^ 32) = x by omega, ← hx, bitsOf_bitsSet_self]

/-- A word apart from those of a written field is as before. -/
theorem wordAt_fieldSet_ne (z : Nat → Word) (m : SMap Word) (f : Fld) (v a : Nat) (h : a ≠ f.addr)
    (h2 : f.lo + f.width ≤ 32 ∨ a ≠ f.addr + 4) : wordAt z (fieldSet z m f v) a = wordAt z m a := by
  unfold fieldSet
  split
  · simp only [wordAt, mapGet_mapPut_ne _ _ h]
  · have h3 : a ≠ f.addr + 4 := by omega
    simp only [wordAt, mapGet_mapPut_ne _ _ h, mapGet_mapPut_ne _ _ h3]

/-- A field apart from the written one is as before. -/
theorem fieldGet_fieldSet_apart (z : Nat → Word) (m : SMap Word) (f g : Fld) (v : Nat) (h : f.apart g = true) :
    fieldGet z (fieldSet z m f v) g = fieldGet z m g := by
  simp only [Fld.apart, Bool.or_eq_true, Bool.and_eq_true, decide_eq_true_eq, bne_iff_ne, beq_iff_eq] at h
  rcases h with (h | h) | h
  · unfold fieldGet
    rw [wordAt_fieldSet_ne _ _ _ _ _ (by omega) (by omega), wordAt_fieldSet_ne _ _ _ _ _ (by omega) (by omega)]
  · obtain ⟨⟨hf, hg⟩, h⟩ := h
    by_cases e : f.addr = g.addr
    · unfold fieldGet
      rw [if_pos hg, if_pos hg]
      unfold fieldSet
      rw [if_pos hf]
      simp only [wordAt, e, mapGet_mapPut_self, Option.getD_some, BitVec.toNat_ofNat]
      rw [Nat.mod_eq_of_lt (bitsSet_lt _ _ _ _ 32 (BitVec.isLt _) hf), bitsOf_bitsSet_apart _ _ _ _ _ _ (by simp [e] at h; omega)]
    · unfold fieldGet
      rw [if_pos hg, if_pos hg, wordAt_fieldSet_ne _ _ _ _ _ (fun x => e x.symm) (.inl hf)]
  · obtain ⟨⟨⟨⟨⟨e, h1⟩, h2⟩, h3⟩, h4⟩, h5⟩ := h
    unfold fieldGet
    rw [if_neg (by omega), if_neg (by omega)]
    unfold fieldSet
    rw [if_neg (by omega)]
    have hb : bitsSet ((wordAt z m f.addr).toNat + 2 ^ 32 * (wordAt z m (f.addr + 4)).toNat) f.lo f.width v < 2 ^ 64 :=
      bitsSet_lt _ _ _ _ 64 (by have := (wordAt z m f.addr).isLt; have := (wordAt z m (f.addr + 4)).isLt; omega) h2
    simp only [wordAt, ← e, mapGet_mapPut_self]
    rw [mapGet_mapPut_ne _ _ (by omega), mapGet_mapPut_self]
    simp only [Option.getD_some, BitVec.toNat_ofNat]
    generalize hx : bitsSet _ f.lo f.width v = x
    simp only [wordAt] at hb
    rw [hx] at hb
    rw [show x % 2 ^ 32 + 2 ^ 32 * (x / 2 ^ 32 % 2 ^ 32) = x by omega, ← hx, bitsOf_bitsSet_apart _ _ _ _ _ _ (by omega)]

/-- A live field that the module wrote reads what it wrote. -/
theorem Dev.get_set_self (f : Fld) (v : Nat) (h : f.lo + f.width ≤ 64) : (d.set f v).get f = v % 2 ^ f.width := by
  by_cases h1 : f.lo + f.width ≤ 32
  · exact fieldGet_fieldSet_self liveReset _ f v h1
  · exact fieldGet_fieldSet_wide liveReset _ f v (by omega) h

/-- Another live field is as before. -/
theorem Dev.get_set_apart (f g : Fld) (v : Nat) (h : f.apart g = true) : (d.set f v).get g = d.get g :=
  fieldGet_fieldSet_apart liveReset _ f g v h

theorem Dev.get_raise_self (f : Fld) (h : f.lo + f.width ≤ 64) (hw : 0 < f.width) : (d.raise f).get f = 1 := by
  rw [Dev.raise, Dev.get_set_self _ _ _ h, Nat.mod_eq_of_lt (Nat.one_lt_two_pow (by omega))]

theorem Dev.get_raise_apart (f g : Fld) (h : f.apart g = true) : (d.raise f).get g = d.get g := Dev.get_set_apart d f g 1 h

/-! ## Counts -/

/-- A written count reads what was written, within 64 bits. -/
theorem Dev.ctr_setCtr_self (k v : Nat) : (d.setCtr k v).ctr k = v % 2 ^ 64 := by
  simp [Dev.ctr, Dev.setCtr, mapGetD]

/-- Another count is as before. -/
theorem Dev.ctr_setCtr_ne (k v : Nat) {j : Nat} (h : j ≠ k) : (d.setCtr k v).ctr j = d.ctr j := by
  simp [Dev.ctr, Dev.setCtr, mapGetD, mapGet_mapPut_ne _ _ h]

theorem Dev.ctr_count_self (k n : Nat) : (d.count k n).ctr k = (d.ctr k + n) % 2 ^ 64 := Dev.ctr_setCtr_self d k _

theorem Dev.ctr_count_ne (k n : Nat) {j : Nat} (h : j ≠ k) : (d.count k n).ctr j = d.ctr j := Dev.ctr_setCtr_ne d k _ h

end Sys2Proof.Machine
end

