-- ==== Sys2Proof/Laws/Commands.lean ====
section
/-! SUPPORT. What the shared endings of meanings can do, and how a statement about a command's next state is met. -/
namespace Sys2Proof.Machine
open Sys2Proof

/-- A meaning that ends in a new device yields what holds of that device. -/
theorem Yields.of {c : Instr} {s : State} {P : Dev → Prop} (d : Dev) (h : exec c s = done s d) (p : P d) : Yields c s P := ⟨d, h, p⟩

/-- A meaning that ends in a cleared state yields what holds of its device. -/
theorem Clears.of {c : Instr} {s : State} {P : Dev → Prop} (d : Dev) (h : exec c s = .next (s.cleared d)) (p : P d) : Clears c s P := ⟨d, h, p⟩

/-- `settle` ends in the device when no module reset is due. -/
theorem settle_quiet {s : State} {d : Dev} (h : d.sys.resetDue = false) : settle s d = done s d := by simp [settle, h]

/-- `settle` takes the module reset that is due. -/
theorem settle_due {s : State} {d : Dev} (h : d.sys.resetDue = true) : settle s d = .next (s.cleared d.moduleReset) := by
  simp [settle, h, State.moduleReset]

/-- Everything that an ending can do to the state: a new device over the same DDR5 bytes, or over cleared ones. -/
def Ends (s : State) (o : Host.Outcome State Fault Refusal) : Prop := ∃ d, o = .next { s with dev := d } ∨ o = .next (s.cleared d)

theorem done_ends (s : State) (d : Dev) : Ends s (done s d) := ⟨d, .inl rfl⟩
theorem cleared_ends (s : State) (d : Dev) : Ends s (.next (s.cleared d)) := ⟨d, .inr rfl⟩
theorem moduleReset_ends (s : State) (d : Dev) : Ends s (.next (s.moduleReset d)) := ⟨_, .inr rfl⟩
theorem settle_ends (s : State) (d : Dev) : Ends s (settle s d) := by
  unfold settle; split
  · exact moduleReset_ends s d
  · exact done_ends s d

/-- An ending keeps DDR5 canonical. -/
theorem Ends.inv {s t : State} {o : Host.Outcome State Fault Refusal} (h : Ends s o) (hs : Inv s) (e : o = .next t) : Inv t := by
  obtain ⟨d, h | h⟩ := h
  · rw [h] at e; cases e; exact hs
  · rw [h] at e; cases e; exact memWf_nil

/-- An ending leaves the queue. -/
theorem Ends.pending {s t : State} {o : Host.Outcome State Fault Refusal} (h : Ends s o) (e : o = .next t) : t.pending = s.pending := by
  obtain ⟨d, h | h⟩ := h <;> · rw [h] at e; cases e; rfl

/-- A live module answers at every address. -/
theorem Dev.Live.responds {d : Dev} (h : d.Live) (a : Nat) : d.responds a = true := by
  obtain ⟨h1, h2, h3⟩ := h
  simp [Dev.responds, h1, h2, h3]

@[simp] theorem Dev.word_putWord_self (d : Dev) (a : Nat) (w : Word) : (d.putWord a w).word a = w := by simp [Dev.word, Dev.putWord, wordAt]

theorem Dev.word_putWord_ne (d : Dev) (a : Nat) (w : Word) {b : Nat} (h : b ≠ a) : (d.putWord a w).word b = d.word b := by
  simp only [Dev.word, Dev.putWord, wordAt, mapGet_mapPut_ne _ _ h]

/-- A field written leaves the words that it does not lie in. -/
theorem Dev.word_set (d : Dev) (f : Fld) (v a : Nat) (h : a ≠ f.addr) (h2 : f.lo + f.width ≤ 32 ∨ a ≠ f.addr + 4) :
    (d.set f v).word a = d.word a := wordAt_fieldSet_ne liveReset _ f v a h h2

@[simp] theorem Dev.word_count (d : Dev) (k n a : Nat) : (d.count k n).word a = d.word a := rfl
@[simp] theorem Dev.word_setCtr (d : Dev) (k n a : Nat) : (d.setCtr k n).word a = d.word a := rfl

/-- A module reset keeps the words of the cold domain and resets the others (R31). -/
theorem Dev.moduleReset_word (d : Dev) (a : Nat) : d.moduleReset.word a = if isCold a then d.word a else liveReset a := by
  simp only [Dev.moduleReset, Dev.word, wordAt, mapGet_filter_key isCold]
  split <;> rfl

/-- The same for counts. -/
theorem Dev.moduleReset_ctr (d : Dev) (a : Nat) : d.moduleReset.ctr a = if isCold a then d.ctr a else 0 := by
  simp only [Dev.moduleReset, Dev.ctr, mapGetD, mapGet_filter_key isCold]
  split <;> rfl

/-- The same for a field of the cold domain. -/
theorem Dev.moduleReset_get (d : Dev) (f : Fld) (h : isCold f.addr = true) (h2 : f.lo + f.width ≤ 32) : d.moduleReset.get f = d.get f := by
  have := Dev.moduleReset_word d f.addr
  rw [h] at this
  simp only [Dev.get, fieldGet, h2, if_true]
  exact congrArg (fun w : Word => bitsOf w.toNat f.lo f.width) this

end Sys2Proof.Machine
end

