-- ==== Sys2Proof/WellFormed.lean ====
section
/-! DEFINITION. Well-formed commands: each operand within the range that its register field, its instruction field or the number of the units it
names gives it. A command that is not well-formed names something that the block does not have. -/
namespace Sys2Proof

/-- A BAR0 byte address (R10): BAR0 has 64 MiB. -/
def okBar (x : Nat) : Bool := x < 2 ^ 26
/-- The byte enables of one word (R453). -/
def okEnables (x : Nat) : Bool := x < 16
/-- An island of Table 6 of ch. 1. -/
def okIsland (x : Nat) : Bool := x < 38
/-- A network port: 0 to 7, or the management port 8. -/
def okPort (x : Nat) : Bool := x < 9
/-- A port with a transmit gate list or stamp FIFO of its own: 0 to 7. -/
def okLane8 (x : Nat) : Bool := x < 8
/-- A priority of PFC, or 8 for a whole port (R68). -/
def okPriority (x : Nat) : Bool := x < 9
/-- A pause time in quanta. -/
def okQuanta (x : Nat) : Bool := x < 2 ^ 16
/-- A number of eight bits. -/
def okOctet (x : Nat) : Bool := x < 2 ^ 8
/-- A number of sixteen bits: a key, an index within a ring. -/
def okHalf (x : Nat) : Bool := x < 2 ^ 16
/-- A program core (R260). -/
def okCore (x : Nat) : Bool := x < 64
/-- A thread of a core (R260). -/
def okThread (x : Nat) : Bool := x < 8
/-- A register number of an instruction (R267). -/
def okReg (x : Nat) : Bool := x < 32
/-- SZ: 1, 2, 4 or 8 bytes (R269). -/
def okSize (x : Nat) : Bool := x < 4
/-- A function: 4,096 at most (R290, R291). -/
def okInst (x : Nat) : Bool := x < 4096
/-- A physical function with VFs: PF_1 to PF_3 (R290). -/
def okPf (x : Nat) : Bool := 1 ≤ x && x < 4
/-- A host link (R288). -/
def okLink (x : Nat) : Bool := x < 2
/-- A ring (R317). -/
def okRing (x : Nat) : Bool := x < 16384
/-- A cipher lane (R189). -/
def okLane (x : Nat) : Bool := x < 16
/-- A CRC unit (R233). -/
def okUnit (x : Nat) : Bool := x < 32
/-- A ledger stream (R121). -/
def okStream (x : Nat) : Bool := x < 8
/-- A decision side: A, B or C (R372). -/
def okSide (x : Nat) : Bool := x < 3
/-- A bulk mover channel (R351). -/
def okChannel (x : Nat) : Bool := x < 32
/-- A channel: 16 of each of 64 cores (R273). -/
def okQueue (x : Nat) : Bool := x < 1024
/-- A DDR5 byte address: 64 GiB at most (R359). -/
def okDdr (x : Nat) : Bool := x < 2 ^ 36
/-- SET of an indirect operation: shadow or active (R161). -/
def okSet (x : Nat) : Bool := x < 2
/-- TABLE of an indirect operation (R161). -/
def okTable (x : Nat) : Bool := x < 8
/-- INDEX of an indirect operation: at most 23 bits (R161). -/
def okIndex (x : Nat) : Bool := x < 2 ^ 23
/-- A transport of the SPDM responder: DOE of PF_0, MCTP, DOE of PF_2 (R409). -/
def okTransport (x : Nat) : Bool := x < 3
/-- A power input (R424). -/
def okInput (x : Nat) : Bool := x < 2
/-- A regulated rail (R435). -/
def okRail (x : Nat) : Bool := x < 12
/-- A thermal stage (R437). -/
def okStage (x : Nat) : Bool := x < 3
/-- A cause of PWR_LAST_OFF (R434). -/
def okCause (x : Nat) : Bool := x < 16
/-- An egress point: nine ports and two host links (R237). -/
def okPoint (x : Nat) : Bool := x < 11
/-- A pipeline: two ingress, two egress (R17). -/
def okPipe (x : Nat) : Bool := x < 4
/-- A command of the debug port (R412). -/
def okDebug (x : Nat) : Bool := x < 7
/-- How a flash operation fails: not, to a spare, with none left (R392). -/
def okFailure (x : Nat) : Bool := x < 3
/-- A dirty-logging slot (R315). -/
def okSlot (x : Nat) : Bool := x < 4
/-- The status of a host completion: SC, UR or CA. -/
def okCompletion (x : Nat) : Bool := x < 3
/-- The byte offset of a word in a key window of 64 bytes (R201). -/
def okKeyWord (x : Nat) : Bool := x < 64

/-- Whether every operand of a command is within its range. -/
def Instr.wellFormed : Instr → Bool
  | .registerWrite addr _ byteEnables => okBar addr && okEnables byteEnables
  | .snapshotTake addr => okBar addr
  | .logTailWrite index tail => okBar index && okOctet tail
  | .lostRead index => okBar index
  | .genReset key _ => okHalf key
  | .powerGoodRise => true
  | .powerGoodFall cause => okCause cause
  | .perstAssert => true
  | .perstDeassert => true
  | .rstNAssert => true
  | .rstNDeassert => true
  | .crossingArrive island => okIsland island
  | .autoGateOff _ _ _ => true
  | .domainWakeDone _ _ => true
  | .freqWrite _ => true
  | .timeLatch => true
  | .stepGo _ => true
  | .stepApply => true
  | .stepFold => true
  | .ppsInEdge _ _ => true
  | .ppsInLoss _ => true
  | .ppsInRead => true
  | .clk10Measure _ => true
  | .clk10Loss => true
  | .todRxChar _ _ _ => true
  | .ppsOutPulse => true
  | .ppsOutEnd => true
  | .todTxSend => true
  | .servoSourceUsable _ _ _ => true
  | .servoSourceLost _ => true
  | .servoLocked => true
  | .servoOffsetExceed _ => true
  | .servoTraceLimit _ => true
  | .servoHoldoverExpire => true
  | .txstampPop port => okPort port
  | .vinAccept input _ _ => okInput input
  | .vinDrop input _ => okInput input
  | .holdupExpire => true
  | .phaseFail rail _ => okRail rail
  | .thermalSample _ _ => true
  | .thermalStageEnter stage => okStage stage
  | .thermalStageExit stage => okStage stage
  | .thermalShutdown => true
  | .ethRefclkStable => true
  | .lockstepMismatch _ _ => true
  | .gapEnd => true
  | .singleCheckFlag => true
  | .gateClaimConflict => true
  | .resyncDone side => okSide side
  | .sidePowerOn side => okSide side
  | .sideSelfTestDone side _ => okSide side
  | .switch key => okHalf key
  | .inject key side => okHalf key && okSide side
  | .selfTestPeriod _ => true
  | .fltPendClear _ => true
  | .scrubRead addr _ _ _ _ => okDdr addr
  | .pprRepair _ addr _ => okDdr addr
  | .indirectOpComplete ctrl => okBar ctrl
  | .hedRead table set index => okTable table && okSet set && okIndex index
  | .hedWrite table set index => okTable table && okSet set && okIndex index
  | .hedDelete table set index => okTable table && okSet set && okIndex index
  | .insertKey table set index => okTable table && okSet set && okIndex index
  | .hedFindKey table set => okTable table && okSet set
  | .shadowDiscard => true
  | .recordReclaim => true
  | .fwdRead table set index => okTable table && okSet set && okIndex index
  | .fwdWrite table set index => okTable table && okSet set && okIndex index
  | .deleteKey table set => okTable table && okSet set
  | .writeKey table set => okTable table && okSet set
  | .fwdFindKey table set => okTable table && okSet set
  | .fwdFlush _ _ => true
  | .flushBucket _ _ => true
  | .learnDecide _ => true
  | .ageTick => true
  | .agerBucketRead _ _ _ => true
  | .storRead index => okIndex index
  | .storWrite index => okIndex index
  | .storDelete index => okIndex index
  | .resyncRx index => okIndex index
  | .resyncTx index => okIndex index
  | .crcStart unit _ _ _ _ => okUnit unit
  | .crcFeed unit _ _ _ => okUnit unit
  | .crcEnd unit _ _ => okUnit unit
  | .crcStop unit _ _ => okUnit unit
  | .crcRelease unit => okUnit unit
  | .crcParityFault unit => okUnit unit
  | .crcStatusRead unit => okUnit unit
  | .prpEntryForget _ _ => true
  | .abGapTimeout _ _ => true
  | .pipelineEntry pipe => okPipe pipe
  | .heddlePass _ _ _ => true
  | .ddr5LookupResult _ _ addr _ _ => okDdr addr
  | .doorbellProducer inst _ index _ _ _ => okInst inst && okHalf index
  | .ringInvalidate inst _ _ _ _ => okInst inst
  | .ringResetDoorbell inst _ _ _ _ => okInst inst
  | .doorbellConsumer inst _ index _ _ _ _ => okInst inst && okHalf index
  | .interruptModTimer ring => okRing ring
  | .descriptorFetch ring => okRing ring
  | .inlinePush inst _ _ _ _ _ => okInst inst
  | .txFrameTake ring => okRing ring
  | .hostTlpRelease release => okLink release.link
  | .ringRead table set index => okTable table && okSet set && okIndex index
  | .ringWrite table set index => okTable table && okSet set && okIndex index
  | .ringReset table index => okTable table && okIndex index
  | .ringResetDone ring => okRing ring
  | .cipherLaneEnter lane => okLane lane
  | .cipherTagResult _ => true
  | .saFetchDone _ _ addr _ => okDdr addr
  | .saRead index => okIndex index
  | .saWrite index => okIndex index
  | .saRetire index => okIndex index
  | .saRekey index => okIndex index
  | .saResync index => okIndex index
  | .templateRead set index => okSet set && okIndex index
  | .templateWrite set index => okSet set && okIndex index
  | .keyWrite offset _ => okKeyWord offset
  | .rngRead => true
  | .entropyHealthFail => true
  | .entropyRetest _ => true
  | .drbgReseed => true
  | .maskReseed lane => okLane lane
  | .reedEnqueue _ => true
  | .reedChoose choice => okPoint choice.point
  | .shaperRefill => true
  | .gateEntryChange port => okLane8 port
  | .gateListStart port => okLane8 port
  | .reedRead table set index => okTable table && okSet set && okIndex index
  | .reedWrite table set index => okTable table && okSet set && okIndex index
  | .sfdRx port _ _ => okPort port
  | .firstWindowReady port _ => okPort port
  | .secondWindowReady port _ => okPort port
  | .frameEndRx port _ _ _ _ _ _ => okPort port
  | .cidEntryFetch _ _ => true
  | .mailboxWrite side _ _ _ => okSide side
  | .mailboxReadLast side _ => okSide side
  | .unitTransient _ _ _ _ _ => true
  | .spareBankCopyDone _ => true
  | .selfTestVector side _ _ _ => okSide side
  | .wearRead _ _ _ => true
  | .wearCoreMove core => okCore core
  | .programDispatch core thread => okCore core && okThread thread
  | .add core thread wd wa wb => okCore core && okThread thread && okReg wd && okReg wa && okReg wb
  | .sub core thread wd wa wb => okCore core && okThread thread && okReg wd && okReg wa && okReg wb
  | .and_ core thread wd wa wb => okCore core && okThread thread && okReg wd && okReg wa && okReg wb
  | .or_ core thread wd wa wb => okCore core && okThread thread && okReg wd && okReg wa && okReg wb
  | .xor core thread wd wa wb => okCore core && okThread thread && okReg wd && okReg wa && okReg wb
  | .shl core thread wd wa wb => okCore core && okThread thread && okReg wd && okReg wa && okReg wb
  | .shr core thread wd wa wb => okCore core && okThread thread && okReg wd && okReg wa && okReg wb
  | .sar core thread wd wa wb => okCore core && okThread thread && okReg wd && okReg wa && okReg wb
  | .slt core thread wd wa wb => okCore core && okThread thread && okReg wd && okReg wa && okReg wb
  | .sltu core thread wd wa wb => okCore core && okThread thread && okReg wd && okReg wa && okReg wb
  | .bswap core thread wd wa => okCore core && okThread thread && okReg wd && okReg wa
  | .addi core thread wd wa _ => okCore core && okThread thread && okReg wd && okReg wa
  | .andi core thread wd wa _ => okCore core && okThread thread && okReg wd && okReg wa
  | .ori core thread wd wa _ => okCore core && okThread thread && okReg wd && okReg wa
  | .shi core thread wd wa _ => okCore core && okThread thread && okReg wd && okReg wa
  | .shin core thread wd wa _ => okCore core && okThread thread && okReg wd && okReg wa
  | .mul core thread wd wa wb => okCore core && okThread thread && okReg wd && okReg wa && okReg wb
  | .beq core thread wd wa _ => okCore core && okThread thread && okReg wd && okReg wa
  | .bne core thread wd wa _ => okCore core && okThread thread && okReg wd && okReg wa
  | .bltu core thread wd wa _ => okCore core && okThread thread && okReg wd && okReg wa
  | .bgeu core thread wd wa _ => okCore core && okThread thread && okReg wd && okReg wa
  | .jal core thread wd _ => okCore core && okThread thread && okReg wd
  | .jr core thread wa => okCore core && okThread thread && okReg wa
  | .illegalInstruction core thread => okCore core && okThread thread
  | .ld core thread wd wa sz _ => okCore core && okThread thread && okReg wd && okReg wa && okSize sz
  | .st core thread ws wa sz _ => okCore core && okThread thread && okReg ws && okReg wa && okSize sz
  | .sld core thread wd wa sz _ => okCore core && okThread thread && okReg wd && okReg wa && okSize sz
  | .sst core thread ws wa sz _ => okCore core && okThread thread && okReg ws && okReg wa && okSize sz
  | .fld core thread wd wa sz _ => okCore core && okThread thread && okReg wd && okReg wa && okSize sz
  | .fst core thread ws wa sz _ => okCore core && okThread thread && okReg ws && okReg wa && okSize sz
  | .lkf core thread wd wa sel => okCore core && okThread thread && okReg wd && okReg wa && okOctet sel.sel
  | .lkk core thread wd wa sel => okCore core && okThread thread && okReg wd && okReg wa && okOctet sel
  | .hash core thread wd wa wb => okCore core && okThread thread && okReg wd && okReg wa && okReg wb
  | .crcs core thread wd wa sel _ => okCore core && okThread thread && okReg wd && okReg wa && okOctet sel
  | .crcf core thread wa sel _ => okCore core && okThread thread && okReg wa && okOctet sel
  | .crcxStop core thread sel => okCore core && okThread thread && okOctet sel
  | .crcxRead core thread wd sel => okCore core && okThread thread && okReg wd && okOctet sel
  | .lock core thread wa => okCore core && okThread thread && okReg wa
  | .tryl core thread wd wa => okCore core && okThread thread && okReg wd && okReg wa
  | .ulk core thread wa => okCore core && okThread thread && okReg wa
  | .chw core thread wa _ => okCore core && okThread thread && okReg wa
  | .chs core thread wd wa _ => okCore core && okThread thread && okReg wd && okReg wa
  | .channelMessageArrive channel => okQueue channel
  | .chr core thread wd sel _ => okCore core && okThread thread && okReg wd && okOctet sel
  | .chl core thread wd _ => okCore core && okThread thread && okReg wd
  | .waitt core thread wd wa => okCore core && okThread thread && okReg wd && okReg wa
  | .waite core thread wd wa _ => okCore core && okThread thread && okReg wd && okReg wa
  | .threadWake core thread => okCore core && okThread thread
  | .sig core thread sel => okCore core && okThread thread && okOctet sel
  | .tset core thread wa sel _ => okCore core && okThread thread && okReg wa && okOctet sel
  | .tgo core thread wd wa sel => okCore core && okThread thread && okReg wd && okReg wa && okOctet sel
  | .tend core thread => okCore core && okThread thread
  | .tstop core thread wd sel => okCore core && okThread thread && okReg wd && okOctet sel
  | .brd core thread wd => okCore core && okThread thread && okReg wd
  | .barm core thread wa sel => okCore core && okThread thread && okReg wa && okOctet sel
  | .stallDetect core => okCore core
  | .coreResetWrite core key => okCore core && okHalf key
  | .debugHalt core thread => okCore core && okThread thread
  | .debugResume core thread => okCore core && okThread thread
  | .debugStep core thread => okCore core && okThread thread
  | .debugDataWrite core _ => okCore core
  | .barbRead table set index => okTable table && okSet set && okIndex index
  | .barbWrite table set index => okTable table && okSet set && okIndex index
  | .sealIntervalExpire stream => okStream stream
  | .sealNow streams => okOctet streams
  | .sealWrite _ => true
  | .ledgerExportBurst stream => okStream stream
  | .ledgerTailDoorbell inst stream _ _ _ => okInst inst && okStream stream
  | .ledgerHostTailWrite stream _ => okStream stream
  | .exportStop stream => okStream stream
  | .exportResume stream => okStream stream
  | .healthSelfTestRecord => true
  | .anComplete port _ => okPort port
  | .trainingComplete port => okPort port
  | .trainingTimeout port => okPort port
  | .linkUp port => okPort port
  | .linkLoss port => okPort port
  | .rclkRestore _ => true
  | .cdrLockLoss port => okPort port
  | .cdrLockGain port => okPort port
  | .pauseFrameRx port pause => okPort port && okQuanta pause.quanta
  | .pfcFrameRx port enables pauses => okPort port && okOctet enables && pauses.quanta.length == 8 && pauses.quanta.all okQuanta && okOctet pauses.also
  | .pauseQuantaExpire port priority _ => okPort port && okPriority priority
  | .pauseWatchdogExpire port priority => okPort port && okPriority priority
  | .pauseHoldoffExpire port priority => okPort port && okPriority priority
  | .xoffRefresh port priority => okPort port && okPriority priority
  | .txUnderrun port => okPort port
  | .frameTransmit port _ _ => okPort port
  | .commitGo => true
  | .commitDryRun => true
  | .commitChecksDone => true
  | .retiringSlotDrain => true
  | .commitLimitExpire => true
  | .sheddingReadmit => true
  | .deadlineTailExpire _ => true
  | .staleVersionExpire _ => true
  | .hostReadCompletion _ _ _ status _ => okCompletion status
  | .completionTimeout _ => true
  | .tagQuarantineEnd _ => true
  | .maxReadRead link => okLink link
  | .xlateWalkDone inst _ _ _ => okInst inst
  | .xlateInvalidate instance_ _ => okInst instance_
  | .xlateInvDone => true
  | .atsInvalidateRequest inst _ _ => okInst inst
  | .selvedgeRead table index => okTable table && okIndex index
  | .selvedgeWrite table index => okTable table && okIndex index
  | .pcieLinkUp link _ _ => okLink link
  | .pcieLinkDown link => okLink link
  | .configRequest inst _ _ => okInst inst
  | .initiateFlr inst => okInst inst
  | .flrQuarantine inst => okInst inst
  | .flrComplete inst => okInst inst
  | .busMasterClear inst => okInst inst
  | .busMasterSet inst => okInst inst
  | .vfEnableSet pf _ => okPf pf
  | .vfEnableClear pf _ => okPf pf
  | .quiesce inst => okInst inst
  | .freeze inst => okInst inst
  | .fnResume inst => okInst inst
  | .fnReset inst => okInst inst
  | .fnDrained inst => okInst inst
  | .quiesceLimitExpire inst => okInst inst
  | .freezeLimitExpire inst => okInst inst
  | .fnResetDone inst => okInst inst
  | .peerWindowRead _ _ _ addr _ => okDdr addr
  | .peerWindowWrite _ _ _ => true
  | .peerCommit => true
  | .peerDrained => true
  | .dirtySwap slot => okSlot slot
  | .swapDone slot => okSlot slot
  | .migKeyWrite offset _ => okKeyWord offset
  | .save inst => okInst inst
  | .saveDone inst => okInst inst
  | .restore inst => okInst inst
  | .restoreDone inst => okInst inst
  | .fnRelease inst => okInst inst
  | .moverStart channel _ => okChannel channel
  | .moverAbort channel _ => okChannel channel
  | .chainKick channel _ => okChannel channel
  | .moverBurst channel => okChannel channel
  | .moverResponse channel _ addr _ => okChannel channel && okDdr addr
  | .bootStart => true
  | .candidateFail => true
  | .configSpaceReady => true
  | .ddr5Trained => true
  | .firmwareLoaded => true
  | .dataplaneReady => true
  | .entropyStartupTest _ => true
  | .romRead inst _ _ => okInst inst
  | .bootRead => true
  | .erase failure => okFailure failure
  | .program failure => okFailure failure
  | .verify => true
  | .next => true
  | .confirm => true
  | .rollback key => okHalf key
  | .enroll key => okHalf key
  | .revoke key => okHalf key
  | .bootOpComplete => true
  | .debugNonceRead => true
  | .debugCertSubmit => true
  | .dbgIoCommand command core thread _ _ => okDebug command && okCore core && okThread thread
  | .getVersion transport _ => okTransport transport
  | .getCapabilities transport _ => okTransport transport
  | .negotiateAlgorithms transport _ _ _ _ => okTransport transport
  | .getDigests transport _ => okTransport transport
  | .getCertificate transport _ _ _ _ => okTransport transport
  | .challenge transport _ _ _ => okTransport transport
  | .getMeasurements transport index _ _ _ => okTransport transport && okOctet index
  | .spdmUnsupported transport _ => okTransport transport
  | .readHealth => true
  | .readId => true

end Sys2Proof
end

