-- ==== Sys2Proof/Tests/Slice0.lean ====
section
/-! SUPPORT. The model's own tests: for each statement with hypotheses a concrete state and operands that meet them, with what the command
leaves there; words of the spec's own examples and of the published algorithms; and the check of well-formedness on an ill-formed term of each
kind. Every theorem is about one step on a small state. -/
namespace Sys2Proof.Machine
open Sys2Proof

/-- An active configuration with fields set. -/
def Dev.withSh (d : Dev) (l : List (Fld × Nat)) : Dev := d.modCfg (fun c => { c with active := l.foldl (fun s p => s.set p.1 p.2) c.active })
/-- Live fields set. -/
def Dev.withF (d : Dev) (l : List (Fld × Nat)) : Dev := l.foldl (fun d p => d.set p.1 p.2) d

/-- One record of a table in the active or in the shadow set. -/
def Dev.tabled (d : Dev) (active : Bool) (tab i x : Nat) : Dev := d.modCfg (fun c => if active then
    { c with active := { c.active with recs := mapPut c.active.recs (recKey tab i) (BitVec.ofNat 2048 x) } }
  else { c with shadow := { c.shadow with recs := mapPut c.shadow.recs (recKey tab i) (BitVec.ofNat 2048 x) } })

end Sys2Proof.Machine

namespace Sys2Proof.Tests
set_option Elab.async false
open Sys2Proof Sys2Proof.Machine

/-! ## Small states -/

/-- The device of a running module. -/
def live : Dev := { sys := { configReady := true, ddr5Trained := true, firmwareLoaded := true, ready := true } }
/-- A state with a device and one waiting command. -/
def st (d : Dev) : State := { dev := d, ddr := [], pending := [.timeLatch] }
/-- The command answers a next state that keeps the queue and DDR5, and the device has the property. -/
def chk (c : Instr) (d : Dev) (p : Dev → Bool) : Bool := match exec c (st d) with
  | .next t => t.pending == [.timeLatch] && t.ddr == [] && p t.dev
  | _ => false
/-- The command changes nothing. -/
def still (c : Instr) (d : Dev) : Bool := chk c d (fun e => e == d)
/-- A shuttle with fields set. -/
def shutWith (l : List (Bits × Nat)) (s : Shut) : Shut := l.foldl (fun s p => s.set p.1 p.2) s

/-! ## The bus, reset and domains -/

theorem witness_ConfigurationWriteIsStaged :
    chk (.registerWrite 0x200000 0x10 15) live (fun d => wordAt shReset d.cfg.shadow.words 0x200000 == 0x10 && d.cfg.active == live.cfg.active) = true := by
  decide +kernel
theorem witness_LiveWriteStoresRwAndClearsW1c :
    chk (.registerWrite 0xA0000C 0xFFFFFFFF 15) live (fun d => d.word 0xA0000C == 0xFFFFF) = true ∧
    chk (.registerWrite 0x300004 1 15) (live.withF [(⟨0x300004, 0, 2⟩, 3)]) (fun d => d.word 0x300004 == 2) = true ∧
    still (.registerWrite 0xA0000C 1 3) live = true := by decide +kernel
theorem witness_SnapshotsAndLogReadsMoveOnlyTheirOwn :
    chk (.snapshotTake 0xA00020) (live.setCtr 0xA00100 5) (fun d => mapGet d.bus.snap 0xA00100 == some 5) = true ∧
    chk (.logTailWrite 0xA00024 3) (live.withF [(⟨0xA00024, 0, 8⟩, 5)]) (fun d => d.get ⟨0xA00024, 8, 8⟩ == 3) = true ∧
    chk (.logTailWrite 0xA00024 6) (live.withF [(⟨0xA00024, 0, 8⟩, 5)]) (fun d => d.get ⟨0xA00024, 8, 8⟩ == 0) = true ∧
    chk (.lostRead 0xA00024) (live.withF [(⟨0xA00024, 16, 16⟩, 7)]) (fun d => d.out == [.readData 0x70000] && d.word 0xA00024 == 0) = true ∧
    (let e := (live.withF [(⟨0xA00024, 0, 8⟩, 255)]).logPut 0xA00024 0xA04000 4 9
     e.word 0xA00024 == 0x10100) = true := by decide +kernel
/-- `witness` for a reset that clears DDR5. -/
def chkC (c : Instr) (d : Dev) (p : Dev → Bool) : Bool := match exec c { st d with ddr := [(5, 1)] } with
  | .next t => t.pending == [.timeLatch] && t.ddr == [] && p t.dev
  | _ => false
theorem witness_ModuleResetKeepsColdState :
    chkC (.genReset 0x7E55 true) (live.modBoot (fun b => { b with flash := [(1, 2)] })) (fun d => d.get F.GEN_RESET_CAUSE_MANAGER == 1 && !d.sys.ready
      && d.boot.flash == [(1, 2)]) = true ∧
    still (.genReset 0x7E54 true) live = true ∧
    chkC .perstAssert live (fun d => d.sys.inReset && d.get F.GEN_RESET_CAUSE_PERST == 1) = true ∧
    chkC .rstNAssert live (fun d => d.sys.inReset && d.get F.GEN_RESET_CAUSE_RST_N == 1) = true ∧
    chk .perstDeassert (live.modSys (fun s => { s with perstN := false, inReset := true })) (fun d => !d.sys.inReset) = true ∧
    chk .rstNDeassert (live.modSys (fun s => { s with perstN := false, rstN := false, inReset := true })) (fun d => d.sys.inReset) = true := by decide +kernel
theorem witness_PowerGoodAndColdReset :
    chkC .powerGoodRise ((live.modSys (fun s => { s with powerGood := false })).withF [(F.PWR_STATUS_VIN_A_OK, 1)]) (fun d => d.sys.powerGood && !d.sys.ready) = true ∧
    still .powerGoodRise (live.modPwr (fun p => { p with shutdown := true })) = true ∧
    chkC (.powerGoodFall 15) live (fun d => !d.sys.powerGood && d.boot.store.lastOff == 15 && d.faultN == .highZ) = true ∧
    still (.powerGoodFall 1) (live.modSys (fun s => { s with powerGood := false })) = true := by decide +kernel
theorem witness_CrossingsAndIdleDomains :
    chk (.crossingArrive 21) { live with xing := [(21, [.swapNotice 3, .swapNotice 4])] } (fun d => d.cfg.hostVersion == [0, 3] && d.xing == [(21, [.swapNotice 4])]) = true ∧
    still (.crossingArrive 20) live = true ∧
    chk (.autoGateOff 0 1 false) live (fun d => d.isGated 0 1 && !d.isGated 0 2) = true ∧ still (.autoGateOff 0 1 true) live = true ∧
    chk (.domainWakeDone 0 1) (live.modDom (fun x => { x with gated := [(0, 1)], waking := [(0, 1)] })) (fun d => !d.isGated 0 1) = true := by decide +kernel
theorem witness_IdleCycleAddsIncrementAndDrains :
    (idle (st live)).dev.time.q = 5 * 2 ^ 48 ∧ (idle (st (live.modSys (fun s => { s with powerGood := false })))).dev.time.q = 0 ∧
    (idle (st (live.ddrWrite 9 [1, 0, 2]))).ddr = [(9, 1), (11, 2)] := by decide +kernel

/-! ## The Loom -/

/-- A set that every FORMAT rule passes and that holds no envelope: default lists drop, and the host link's default queue is valid. -/
def goodSet : CfgSet :=
  let c : CfgSet := ((({} : CfgSet).set F.DRAM_PBUF_CFG_BANKS 8).set (F.LOOM_HOST_CEIL_CEIL_NS 0) 500).set (F.LOOM_HOST_CEIL_HOST_MTU 0) 1518
  { c with recs := [(recKey Tab.action 0, BitVec.ofNat 2048 (2 ^ 58 + 0xD * 2 ^ 59)),
      (recKey Tab.queue 16384, BitVec.ofNat 2048 (2 ^ 14 + 2 ^ 16 + 2 ^ 96 * 4096)), (recKey Tab.group 0, BitVec.ofNat 2048 (9 + 2 ^ 7 + 2 ^ 8))] }
/-- A module with a commit in hand over the good set; a shuttle of version 3 is in the module. -/
def committing (c : CommitReq) (retiring : Option Nat) : Dev :=
  { (live.modLoom (fun l => { l with commit := some c })).modCfg (fun x => { x with shadow := goodSet, retiringVersion := retiring }) with
    shuts := [(0, shutWith [(S.VERSION, 3), (S.CLASS, 3)] {})] }
theorem witness_CommitStartsPendingOrIsIgnored :
    chk .commitGo live (fun d => d.get F.LOOM_COMMIT_STATUS_STATE == 1 && d.loom.commit == some { dry := false, waiting := false, capChanged := false }) = true ∧
    chk .commitDryRun (live.withF [(F.LOOM_COMMIT_STATUS_STATE, 1)]) (fun d => d.get F.LOOM_COMMIT_STATUS_GO_IGNORED == 1 && d.loom.commit.isNone) = true := by
  decide +kernel
theorem witness_CommitChecksDecide_reject :
    chk .commitChecksDone ((committing { dry := false, waiting := false, capChanged := false } none).modCfg (fun x => { x with shadow := {} }))
      (fun d => d.get F.LOOM_COMMIT_STATUS_STATE == 3 && d.get F.LOOM_COMMIT_STATUS_REASON == 9 && d.get F.LOOM_COMMIT_STATUS_BOOK == 127) = true := by
  decide +kernel
theorem witness_CommitChecksDecide_pass : (committing { dry := true, waiting := false, capChanged := false } (some 3)).drained = false ∧
    (match (committing { dry := false, waiting := false, capChanged := false } (some 3)).check goodSet false with
      | .pass l => l.isEmpty
      | .reject _ _ _ _ _ => false) = true := by decide +kernel
theorem witness_WaitingCommitsEndAtDrainOrLimit :
    chk .commitLimitExpire (committing { dry := false, waiting := true, capChanged := false } (some 3)) (fun d =>
      d.get F.LOOM_COMMIT_STATUS_STATE == 3 && d.get F.LOOM_COMMIT_STATUS_REASON == 8 && d.loom.commit.isNone) = true ∧
    chk .retiringSlotDrain (committing { dry := false, waiting := true, capChanged := false } (some 3)) (fun d => d.cfg.retiringVersion == some 3) = true ∧
    chk .retiringSlotDrain (live.modCfg (fun x => { x with retiringVersion := some 3, dead := [5] })) (fun d => d.cfg.retiringVersion.isNone
      && d.get F.HED_SHADOW_STATUS_RECLAIMING == 1) = true ∧
    (committing { dry := false, waiting := true, capChanged := false } (some 2)).drained = true := by decide +kernel
theorem witness_SheddingDemotesUntilTheSetPasses :
    chk .sheddingReadmit (live.modLoom (fun l => { l with readmit := [81] })) (fun d => d.loom.readmit == [] && d.cfg == live.cfg) = true ∧
    still .sheddingReadmit live = true ∧
    (let d := (live.withSh [(EV.STATE 16383, 1)]).demote 16383 24
     d.cfg.active.get (EV.STATE 16383) == 2 && d.get F.LOOM_SHED_LAST_ENVELOPE == 16383) = true := by decide +kernel
/-- A shuttle for host link 0 of a class, at Quartz time 0 with DEADLINE 0. -/
def toHost (cls : Nat) : Shut := shutWith [(S.CLASS, cls), (S.DEST_VALID, 1), (S.DEST_PORT, 9)] {}
theorem witness_DeadlinesPassAndStaleFramesEnd :
    chk (.deadlineTailExpire 4) { live with shuts := [(4, toHost 1)] } (fun d => ((d.shut 4).map (fun x => x.flag Fl.DEADLINE_MISS)) == some true) = true ∧
    still (.deadlineTailExpire 4) { live with shuts := [(4, (toHost 1).set S.DEADLINE 65)] } = true ∧
    still (.staleVersionExpire 4) { live with shuts := [(4, toHost 2)] } = true ∧
    chk (.staleVersionExpire 4) ({ live with shuts := [(4, toHost 2)] }.modCfg (fun c => { c with retiringVersion := some 0 }) |>.modTime
      (fun t => { t with q := 2000001 * 65536 * unit16 })) (fun d => d.ctr K.HED_STALE_VERSION == 1) = true := by decide +kernel

/-! ## Ports, feeds, Quartz -/

/-- A running module with a port in a link state. -/
def linkAt (n k : Nat) : Dev := live.withF [(F.PORT_STATUS_LINK_STATE n, k), (F.PORT_STATUS_LINK n, if k = 4 then 1 else 0)]
theorem witness_LinkStatesFollowTheirTable :
    chk (.anComplete 8 true) (linkAt 8 1) (fun d => d.linkState 8 == LS.train) = true ∧
    chk (.anComplete 0 false) (linkAt 0 1) (fun d => d.linkState 0 == LS.negotiate && d.ctr (K.PORT_AN_FAIL 0) == 1) = true ∧
    chk (.trainingComplete 7) (linkAt 7 2) (fun d => d.linkState 7 == LS.align) = true ∧
    chk (.trainingTimeout 7) (linkAt 7 2) (fun d => d.linkState 7 == LS.train) = true ∧
    chk (.trainingTimeout 7) ((linkAt 7 2).withSh [(F.PORT_CFG_AN 7, 1)]) (fun d => d.linkState 7 == LS.negotiate) = true ∧
    chk (.linkUp 7) (linkAt 7 3) (fun d => d.linkState 7 == LS.up && d.loom.readmit.contains 7) = true ∧
    chk (.linkLoss 7) (linkAt 7 4) (fun d => d.linkState 7 == LS.train && d.get (F.PORT_STATUS_LINK 7) == 0 && d.loom.readmit.contains 7) = true ∧
    still (.anComplete 9 true) live = true ∧ still (.linkLoss 3) (linkAt 3 3) = true := by decide +kernel
/-- A port that is up, with pauses in force and in hold-off. -/
def pausing (n mode : Nat) (p h : List Nat) : Dev :=
  ((linkAt n 4).withSh [(F.PORT_PAUSE_RX_MODE n, mode), (F.PORT_PAUSE_PFC_EN n, 255)]).modPort n (fun x => { x with paused := p, holdoff := h, xoff := [7] })
theorem witness_PauseAndItsWatchdog :
    chk (.pauseFrameRx 8 ⟨65535, true⟩) (pausing 8 1 [] []) (fun d => (d.port 8).paused == [8] && d.get (F.PORT_STATUS_PAUSE_STATE 8) == 1) = true ∧
    chk (.pauseFrameRx 8 ⟨0, false⟩) (pausing 8 1 [8] []) (fun d => (d.port 8).paused == [] && d.get (F.PORT_STATUS_PAUSE_STATE 8) == 2) = true ∧
    still (.pauseFrameRx 8 ⟨1, false⟩) (pausing 8 1 [] [8]) = true ∧
    chk (.pfcFrameRx 7 128 ⟨[0, 0, 0, 0, 0, 0, 0, 1], 0⟩) (pausing 7 2 [] []) (fun d => (d.port 7).paused == [7] && d.get (F.PORT_STATUS_PFC_PAUSED 7) == 128) = true ∧
    chk (.pauseQuantaExpire 7 7 true) (pausing 7 2 [7] []) (fun d => d.get (F.PORT_STATUS_PAUSE_STATE 7) == 2 && d.get (F.PORT_STATUS_WATCHDOG_ALSO 7) == 1) = true ∧
    chk (.pauseWatchdogExpire 7 7) (pausing 7 2 [7] []) (fun d => (d.port 7).holdoff == [7] && d.get (F.PORT_STATUS_PAUSE_STATE 7) == 3) = true ∧
    chk (.pauseHoldoffExpire 7 7) (pausing 7 2 [] [7]) (fun d => (d.port 7).holdoff == []) = true ∧
    chk (.xoffRefresh 7 7) ((pausing 7 2 [] []).withSh [(F.PORT_PAUSE_TX_MODE 7, 2)]) (fun d => d.out == [.pause 7 (d.sh (F.PORT_PAUSE_QUANTA 7)) 128]) = true := by decide +kernel
/-- A port in whose reception an SFD has come. -/
def sfd (n banks : Nat) : Dev := ((linkAt n 4).withSh [(F.DRAM_PBUF_CFG_BANKS, banks)]).modPort n (fun x => { x with stamps := [{ time := 64 }] })
/-- A port that receives shuttle 0, whose bytes so far are those of a list. -/
def receiving (n : Nat) (b : List Byte) : Dev :=
  { (sfd n 8).modPort n (fun x => { x with cur := some 0 }) with shuts := [(0, { frame := b, rx := b, stage := .pass })] }
theorem witness_ReceptionCreatesShuttles :
    chk (.sfdRx 8 3 (-2)) (linkAt 8 4) (fun d => (d.port 8).stamps.length == 1) = true ∧
    chk (.firstWindowReady 4 [1, 2]) (sfd 4 8) (fun d => (d.port 4).cur == some 0 &&
      (d.shut 0).elim false (fun (y : Shut) => y.frame == [1, 2] && y.stage == .entry && y.pipe == 1)) = true ∧
    chk (.firstWindowReady 8 [1]) (sfd 8 0) (fun d => d.shuts == [] && d.ctr K.DRAM_CELL_DROP == 1) = true ∧
    chk (.secondWindowReady 3 [9]) (receiving 3 [1]) (fun d => (d.shut 0).map (fun y => y.frame) == some [1, 9]) = true ∧
    chk (.frameEndRx 3 [9] 0 0 0 0 0) (receiving 3 [1]) (fun d => (d.port 3).cur.isNone && d.ctr (K.PORT_RX_FRAMES 3) == 1 && d.ctr (K.PORT_RX_FCS_BAD 3) == 1) = true ∧
    chk (.cdrLockLoss 7) (live.withF [(F.PORT_STATUS_CDR_LOCK 7, 1), (F.PORT_RCLK_PORT 1, 7)]) (fun d => d.get (F.PORT_RCLK_SQUELCHED 1) == 1) = true ∧
    chk (.cdrLockGain 8) live (fun d => d.get (F.PORT_STATUS_CDR_LOCK 8) == 1) = true ∧
    chk (.rclkRestore 1) (live.withF [(F.PORT_STATUS_CDR_LOCK 7, 1), (F.PORT_RCLK_PORT 1, 7), (F.PORT_RCLK_SQUELCHED 1, 1)])
      (fun d => d.get (F.PORT_RCLK_SQUELCHED 1) == 0) = true := by decide +kernel
/-- Shuttle 0, whole, chosen for a port's lands. -/
def leaving (n : Nat) : Dev := { linkAt n 4 with shuts := [(0, { (({} : Shut).set S.DEST_PORT n) with
  frame := List.replicate 60 7
  stage := .toLands
  ended := true })] }
theorem witness_FramesLeaveStampedAndUnderrunsCount :
    chk (.frameTransmit 8 0 ⟨0, .none⟩) (leaving 8) (fun d => d.ctr (K.PORT_TX_FRAMES 8) == 1 && d.out.any (fun o => match o with
      | .frame n b _ => n == 8 && b == List.replicate 60 7 ++ leBytes 4 (crc32 (List.replicate 60 7))
      | _ => false)) = true ∧
    still (.frameTransmit 8 0 ⟨0, .none⟩) live = true ∧ still (.frameTransmit 8 0 ⟨0, .none⟩) (linkAt 8 4) = true ∧
    chk (.txUnderrun 2) { (linkAt 2 4).modPort 2 (fun x => { x with sending := some 0 }) with
      shuts := [(0, { (({} : Shut).set S.DIR 1) with ring := some 5, stage := .toLands })] }
      (fun d => d.ctr (K.PORT_TX_UNDERRUN 2) == 1 && (d.ring 5).thresh == live.startAt 5 2 + 64) = true := by decide +kernel
/-- Group 1,023 with a highest number, open gaps and a mark. -/
def fed (h : Nat) (gaps : List (Nat × Nat)) : Dev := live.putAb 1023 { high := some h, marked := [h], gaps := gaps }
theorem witness_RedundantFeedsAreJudged :
    ((fed (2 ^ 32 - 1) []).abDecide 1023 (2 ^ 32) 0).2 = true ∧ (((fed (2 ^ 32 - 1) []).abDecide 1023 (2 ^ 32) 0).1.abGroup 1023).gaps = [] ∧
    (((fed 5 []).abDecide 1023 (2 ^ 64) 8).1.abGroup 1023).gaps = [(6, 2)] ∧ ((fed 9 [(6, 2)]).abDecide 1023 (2 ^ 64) 7).2 = true ∧
    ((fed 9 [(6, 2)]).abDecide 1023 (2 ^ 64) 9).2 = false ∧
    chk (.abGapTimeout 1023 6) (fed 9 [(6, 2)]) (fun d => d.ctr K.AB_GAPS == 1 && d.ctr K.AB_GAP_SEQS == 2 && (d.abGroup 1023).gaps == []) = true ∧
    still (.abGapTimeout 1023 7) (fed 9 [(6, 2)]) = true ∧
    chk (.prpEntryForget 0 7) (live.modNet (fun n => { n with prpSources := [(0, [⟨7, 1, [1], 0⟩, ⟨8, 1, [1], 0⟩])] }))
      (fun d => (mapGetD d.net.prpSources 0 []).map (fun e => e.mac) == [8]) = true := by decide +kernel
theorem witness_QuartzIsSteeredLatchedAndCountsExactly :
    (quartzNext { q := quartzMod - 1, f := freqLimit }).cycles = 1 ∧ (quartzNext { f := -freqLimit }).q = 1406671196111505 ∧
    chk (.freqWrite 0x3F) (live.withF [(F.TIME_FREQ_F, 0xFFFFFFFE)]) (fun d => d.time.f == freqLimit && d.get F.TIME_EVENT_FREQ_CLAMP == 1) = true ∧
    chk (.freqWrite 0x7F) (live.withF [(F.TIME_FREQ_F, 0xFFFFFFFE)]) (fun d => d.time.f == -2 && d.get F.TIME_EVENT_FREQ_CLAMP == 0) = true ∧
    chk (.freqWrite 0x20) live (fun d => d.time.f == 137438953472 && d.get F.TIME_EVENT_FREQ_CLAMP == 0) = true ∧
    chk .timeLatch (live.modTime (fun t => { t with q := 70000 * unit16 })) (fun d => d.get F.TIME_NOW_NS_NS == 1 && d.get F.TIME_NOW_FRAC_FRAC == 4464) = true := by
  decide +kernel
/-- A module with a step request and a shuttle of a step epoch. -/
def stepping (r : Option StepReq) (e : Nat) : Dev := { live.modTime (fun t => { t with step := r, q := 9 * 65536 * unit16 }) with shuts := [(0, { epoch := e })] }
theorem witness_ClockStepsApplyOnceTheirEpochIsFree :
    chk (.stepGo 65535) (live.withF [(F.TIME_STEP_NS_DELTA, 2 ^ 64 - 1)]) (fun d => d.time.step == some ⟨-1, 0, false, 0⟩ && d.get F.TIME_STATUS_STEP_PENDING == 1) = true ∧
    chk (.stepGo 0) (stepping (some ⟨5, 0, false, 0⟩) 0) (fun d => d.get F.TIME_EVENT_STEP_GO_IGNORED == 1) = true ∧
    chk .stepApply (stepping (some ⟨65536, 9, false, 0⟩) 0) (fun d => d.nowNs == 10 && d.epoch == 1 && d.epochSum 0 == 65536 && d.epochSum 1 == 0
      && d.get F.TIME_STATUS_VALID == 1 && d.ctr K.TIME_STEPS == 1) = true ∧
    chk .stepApply ((stepping (some ⟨65536, 0, false, 0⟩) 1).modTime (fun t => { t with cycles := 64 })) (fun d => d.get F.TIME_EVENT_STEP_HELD == 1 && d.nowNs == 9) = true ∧
    still .stepApply (stepping (some ⟨65536, 10, false, 0⟩) 0) = true ∧
    chk .stepFold ((stepping (some ⟨-65536, 0, true, 0⟩) 1).modTime (fun t => { t with cycles := 12000000 })) (fun d => d.nowNs == 8 && d.ctr K.TIME_EPOCH_FOLD == 1 && (d.shut 0).map (fun x => x.epoch) == some 2) = true := by
  decide +kernel
theorem witness_AStepKeepsEveryComparison :
    (stepping none 0).time.epochSum.length = 4 ∧ (stepping none 0).epochSum (stepping none 0).epoch = 0 ∧ ((stepping none 0).applyStep 65536).epoch = 1 ∧
    ((stepping none 0).applyStep 65536).onScale 7 0 - ((stepping none 0).applyStep 65536).onScale 3 2 = 4 := by decide +kernel
/-- A module with its timing lands declared. -/
def timed : Dev := live.modTime (fun t => { t with q := 130 * 65536 * unit16, decl := { t.decl with ppsIn := 1, clk10In := 1, todRx := true, ppsOut := true, priority := [3, 10] } })
theorem witness_TimingInputsAreStamped :
    chk (.ppsInEdge true 0) timed (fun d => d.get F.TIME_PPS_IN_NS_NS == 130 && d.time.ppsUnread && d.ctr K.TIME_PPS_IN_EDGES == 1) = true ∧
    chk (.ppsInEdge true 0) (timed.modTime (fun t => { t with ppsUnread := true })) (fun d => d.ctr K.TIME_PPS_IN_OVERRUN == 1) = true ∧
    still (.ppsInEdge false 0) timed = true ∧ still (.ppsInLoss true) timed = true ∧
    chk (.ppsInLoss false) timed (fun d => d.get F.TIME_EVENT_PPS_IN_LOSS == 1) = true ∧
    chk .ppsInRead (timed.withF [(F.TIME_PPS_IN_NS_NS, 7)]) (fun d => d.out == [.readData 7] && d.get F.TIME_PPS_IN_NS_NS == 0) = true ∧
    chk (.clk10Measure ⟨0, 0⟩) timed (fun d => d.get F.TIME_STATUS_CLK10_OK == 1 && d.get F.TIME_CLK10_PHASE_PHASE == 30 * 65536) = true ∧
    clk10Phase (50 * 65536) = 50 * 65536 ∧ clk10Phase (50 * 65536 + 1) = 1 - 50 * 65536 ∧
    chk .clk10Loss timed (fun d => d.get F.TIME_EVENT_CLK10_LOSS == 1) = true ∧
    chk (.todRxChar 0x41 true true) (timed.withF [(F.TIME_TOD_RX_INDEX_HEAD, 255)]) (fun d => d.get F.TIME_TOD_RX_INDEX_HEAD == 0
      && d.get ⟨0x3020FC, 24, 8⟩ == 0x41 && d.get F.TIME_EVENT_TOD_RX == 1 && d.ctr K.TIME_TOD_RX_ERRORS == 1) = true := by decide +kernel
/-- A module whose servo is in a state, with source 1. -/
def servo (k : Nat) : Dev := timed.withF [(F.TIME_STATUS_SERVO, k), (F.TIME_STATUS_SOURCE, 1), (F.TIME_STATUS_TRACEABLE, 1)]
theorem witness_TimingOutputsAndServoStates :
    chk .ppsOutPulse ((timed.modTime (fun t => { t with q := 0 })).withF [(F.TIME_PPS_OUT_CFG_ENABLE, 1), (F.TIME_PPS_OUT_CFG_FORCE, 1), (F.TIME_PPS_OUT_CFG_PERIOD_MS, 1)])
      (fun d => d.time.ppsOutHigh && d.out == [.pinEdge 0 1]) = true ∧
    still .ppsOutPulse timed = true ∧
    chk .ppsOutEnd (timed.modTime (fun t => { t with ppsOutHigh := true })) (fun d => d.out == [.pinEdge 0 0]) = true ∧
    chk .todTxSend ((timed.modTime (fun t => { t with todTxDue := some 86400 })).withF [(F.TIME_TOD_CFG_TX_FORMAT, 1)])
      (fun d => d.time.todTxDue.isNone && d.out.length == 1) = true ∧
    chk .todTxSend ((timed.modTime (fun t => { t with todTxDue := some 86400 })).withF [(F.TIME_TOD_CFG_TX_FORMAT, 2)]) (fun d => d.out.length == 1) = true ∧
    chk (.servoSourceUsable 2 1000 9) (timed.withF [(F.TIME_STATUS_PPS_IN_OK, 1), (F.TIME_STATUS_TOD_OK, 1)]) (fun d => d.get F.TIME_STATUS_SERVO == 1 && d.get F.TIME_STATUS_SOURCE == 2 && d.time.f == 9) = true ∧
    chk (.servoSourceUsable 2 (-1001) 9) (timed.withF [(F.TIME_STATUS_PPS_IN_OK, 1), (F.TIME_STATUS_TOD_OK, 1)]) (fun d => d.time.step.isSome && d.time.f == 0) = true ∧
    chk .servoLocked (servo 1) (fun d => d.get F.TIME_STATUS_SERVO == 2 && d.get F.TIME_STATUS_TRACEABLE == 1) = true ∧
    chk (.servoSourceLost none) (servo 1) (fun d => d.get F.TIME_STATUS_SERVO == 0) = true ∧
    chk (.servoOffsetExceed 1001) (servo 2) (fun d => d.get F.TIME_STATUS_SERVO == 1 && d.time.step.isSome) = true ∧
    chk (.servoSourceLost none) (servo 2) (fun d => d.get F.TIME_STATUS_SERVO == 3) = true ∧
    chk (.servoSourceLost (some 2)) ((servo 2).withF [(F.TIME_STATUS_PPS_IN_OK, 1), (F.TIME_STATUS_TOD_OK, 1)]) (fun d => d.get F.TIME_STATUS_SERVO == 1 && d.get F.TIME_STATUS_SOURCE == 2) = true ∧
    chk (.servoTraceLimit 1001) (servo 3) (fun d => d.get F.TIME_STATUS_TRACEABLE == 0) = true ∧
    chk .servoHoldoverExpire ((servo 3).modTime (fun t => { t with cycles := 86400 * 1200000000 })) (fun d => d.get F.TIME_STATUS_SERVO == 0) = true ∧
    chk (.txstampPop 8) (live.modTime (fun t => { t with txStamps := [(8, [⟨1, 2⟩, ⟨3, 4⟩])] }))
      (fun d => mapGetD d.time.txStamps 8 [] == [⟨3, 4⟩] && d.get (F.TIME_PORT_TXSTAMP_CTRL_COUNT 8) == 1) = true := by decide +kernel

/-! ## The ledger -/

/-- A running module with a running stream that holds one record since its last cut. -/
def recording (k : Nat) : Dev := (live.withSh [(F.LEDG_STREAM_CFG_RING_LOG2 k, 16)]).putStream k { running := true, batch := List.replicate 32 5, digest := List.replicate 64 0 }
theorem witness_SealsCloseBatchesAndChain :
    chk (.sealIntervalExpire 7) (recording 7) (fun d => (d.stream 7).batch == [] && (d.stream 7).total == 1 && (d.stream 7).sealNumber == 1 && d.ctr (kHead 7) == 6
      && d.ledg.signer.map (fun j => (j.stream, j.slot, j.number)) == [(7, 0, 1)]) = true ∧
    chk (.sealNow 1) (recording 0) (fun d => (d.stream 0).alive == 1 && d.ctr (kHead 0) == 6) = true ∧
    chk (.sealWrite 1) ((live.modTime (fun t => { t with cycles := 1 })).modLedg (fun l => { l with signer := [{ stream := 7, slot := 6, number := 3, cycle := 0 }] })) (fun d => d.ledg.signer == [] && d.ctr (kLastSeal 7) == 3
      && d.get F.LEDG_STATUS_SIGNER_FAULT == 0) = true ∧
    chk (.sealWrite 2) ((live.modTime (fun t => { t with cycles := 1 })).modLedg (fun l => { l with signer := [{ stream := 0, slot := 6, number := 3, cycle := 0 }] })) (fun d => d.ctr (K.LEDG_SEALS 0) == 1
      && d.get F.LEDG_STATUS_SIGNER_FAULT == 1 && d.get F.LEDG_EVENT_SEAL_FAULT == 1) = true := by decide +kernel
/-- A function of host link 0 that may issue requests. -/
def hosted (n : Nat) : Dev := ((linkAt 3 4).withF [(F.HIF_LINK_STATUS_UP 0, 1)]).modHif (fun h => { h with fns := [(n, { state := FnSt.active, bme := true })] })
/-- A stream that exports to physical function 0, with slots to send. -/
def exporter : Dev := ((((hosted 0).withSh [(F.LEDG_STREAM_CFG_INSTANCE 7, 0), (F.LEDG_STREAM_CFG_HOST_LOG2 7, 16), (F.LEDG_STREAM_CFG_RING_LOG2 7, 16),
  (F.LEDG_STREAM_CFG_ENABLE 7, 1)]).withF [(F.LEDG_STREAM_CFG_EXPORT 7, 1)]).setCtr (kHead 7) 1).modHif (fun h => { h with selvedge := [(0, 0)] })
theorem witness_ExportKeepsItsCountsAndStops :
    exporter.exporting 7 = true ∧ exporter.exportSlots 7 = 1 ∧ chk (.ledgerExportBurst 7) exporter (fun d => d.ctr (kExported 7) == 1) = true ∧ still (.ledgerExportBurst 0) live = true ∧
    chk (.ledgerTailDoorbell 4 7 9 true false) (live.withSh [(F.LEDG_STREAM_CFG_INSTANCE 7, 4)]) (fun d => d.ctr (kHostTail 7) == 9) = true ∧
    chk (.ledgerTailDoorbell 5 7 9 true false) (live.withSh [(F.LEDG_STREAM_CFG_INSTANCE 7, 4)]) (fun d => d.ctr (kHostTail 7) == 0 && d.ctr K.RING_LEDGER_TAIL_IGNORED == 1) = true ∧
    chk (.ledgerTailDoorbell 4 7 9 true true) live (fun d => d.ctr K.HIF_POISON_RX == 1) = true ∧
    chk (.ledgerTailDoorbell 4 7 9 false false) live (fun d => d.ctr K.RING_BAD_DOORBELL == 1 && d.get F.RING_EVENT_BAD_DOORBELL == 1) = true ∧
    chk (.ledgerHostTailWrite 7 (2 ^ 64 - 1)) live (fun d => d.ctr (kHostTail 7) == 2 ^ 64 - 1) = true ∧
    chk (.exportStop 7) (live.withF [(F.LEDG_STREAM_CFG_EXPORT 7, 1)]) (fun d => d.get (F.LEDG_STREAM_CFG_EXPORT 7) == 0 && d.get F.LEDG_EVENT_EXPORT_STOP == 1) = true ∧
    still (.exportResume 7) (live.withF [(F.LEDG_STREAM_CFG_EXPORT 7, 1)]) = true ∧
    chk (.exportResume 7) live (fun d => d.get (F.LEDG_STREAM_CFG_EXPORT 7) == 1) = true ∧
    chk .healthSelfTestRecord ((recording 7).withF [(F.LEDG_CTRL_HEALTH_S, 1)]) (fun d => d.ctr (kHead 7) == 1) = true ∧
    still .healthSelfTestRecord ((recording 7).withF [(F.LEDG_CTRL_HEALTH_S, 0)]) = true := by decide +kernel

/-! ## Tables, classification and forwarding -/

/-- A running module with a record in a window, little-endian words from its first address. -/
def window (a n x : Nat) : Dev := live.putWords a n x
theorem witness_TableOperationsActOnTheSetTheyName :
    chk (.indirectOpComplete 0x500100) { live.withF [(⟨0x500100, 16, 1⟩, 1)] with ind := [(0x500100, 5)] } (fun d => d.word 0x500100 == 0x5000 && d.ind == []) = true ∧
    still (.hedRead 0 0 1) (live.withF [(F.HED_IND_CTRL_BUSY, 1)]) = true ∧
    chk (.hedRead 0 1 4194303) (live.tabled true Tab.flow 4194303 (2 ^ 323 + 7)) (fun d => d.words hedWin 16 == 2 ^ 323 + 7 && d.ind == [(0x500100, 0)]) = true ∧
    chk (.hedRead 0 0 4194303) (live.tabled true Tab.flow 4194303 (2 ^ 323 + 7)) (fun d => d.words hedWin 16 == 0 && d.ind == [(0x500100, 1)]) = true ∧
    chk (.hedRead 0 0 0) live (fun d => d.ind == [(0x500100, 1)]) = true ∧ chk (.hedDelete 5 0 0) live (fun d => d.ind == [(0x500100, 3)]) = true ∧
    chk (.hedWrite 0 0 1) (window hedWin 16 (2 ^ 323 + 7)) (fun d => d.ind == [(0x500100, 0)] && d.cfg.shadow.record Tab.flow 1 == 2 ^ 323 + 7 && d.cfg.active == {}) = true ∧
    chk (.hedWrite 3 1 65535) live (fun d => d.ind == [(0x500100, 5)]) = true ∧
    chk (.hedDelete 0 0 1) (live.tabled false Tab.flow 1 (2 ^ 323)) (fun d => d.ind == [(0x500100, 0)] && d.cfg.shadow.record Tab.flow 1 == 0) = true ∧
    chk (.hedDelete 0 0 1) live (fun d => d.ind == [(0x500100, 1)]) = true ∧
    chk (.hedWrite 0 0 2) ((window hedWin 16 (2 ^ 323 + 7)).tabled false Tab.flow 1 (2 ^ 323 + 7)) (fun d => d.ind == [(0x500100, 4)]) = true ∧
    chk (.insertKey 0 0 131072) (window hedWin 16 7) (fun d => d.get F.HED_IND_INDEX_INDEX == 131072 && d.cfg.shadow.record Tab.flow 131072 == 2 ^ 323 + 7) = true ∧
    chk (.hedFindKey 0 1) ((window hedWin 16 7).tabled true Tab.flow 9 (2 ^ 323 + 7)) (fun d => d.get F.HED_IND_INDEX_INDEX == 9 && d.ind == [(0x500100, 0)]) = true ∧
    chk (.hedFindKey 0 0) (window hedWin 16 7) (fun d => d.ind == [(0x500100, 1)]) = true ∧
    chk .shadowDiscard (live.tabled false Tab.flow 1 7) (fun d => d.cfg.shadow == d.cfg.active) = true ∧
    still .shadowDiscard (live.withF [(F.LOOM_COMMIT_STATUS_STATE, 1)]) = true ∧
    chk .recordReclaim (live.modCfg (fun c => { c with dead := [4] })) (fun d => d.cfg.dead == [] && d.get F.HED_SHADOW_STATUS_RECLAIMING == 0) = true ∧
    still .recordReclaim (live.modCfg (fun c => { c with dead := [4], retiringVersion := some 3 })) = true := by decide +kernel
/-- 64 bytes of a frame: IPv4 and UDP ports, from 0x020000000001 to 0x020000000002. -/
def plainFrame : List Byte := beBytes 6 0x020000000002 ++ beBytes 6 0x020000000001 ++ [0x88, 0xB5] ++ List.replicate 50 0
/-- Shuttle 0 of the network at a stage, with its frame. -/
def inPass (st : Stage) (wait : Nat) (f : List Byte) : Shut := { ((({} : Shut).set S.PORT 3).set S.CLASS 3).set S.PASS 1 with
  frame := f
  rx := f
  stage := st
  wait := wait }
/-- A module whose default list drops, with that shuttle. -/
def classifying (st : Stage) (wait : Nat) (f : List Byte) : Dev :=
  { live.tabled true Tab.action 0 (2 ^ 58 + 0xD * 2 ^ 59) with shuts := [(0, inPass st wait f)] }
theorem witness_PassesMatchAndApplyActionLists_entry :
    chk (.pipelineEntry 0) { live with shuts := [(0, { ((({} : Shut).set S.CLASS 3).set S.PASS 2) with seq := 4 }), (1, { ((({} : Shut).set S.CLASS 1).set S.PASS 1) with seq := 5 })] }
      (fun d => (d.shut 1).map (fun (y : Shut) => (y.stage, y.get S.PASS)) == some (.pass, 1) && (d.shut 0).map (fun (y : Shut) => y.stage) == some .entry) = true ∧
    (let c : CfgSet := {}
     let m := c.resolve 3 (some (5, 2 ^ 352 * 9)) (some (6, 2 ^ 1297 + 2 ^ 1312 * 8))
     (m.flow, m.rule, m.store, m.action) = (5, 6, 1, 8)) ∧
    (let r := runList true {} [3 * 2 ^ 59 + 9 + 16 * 77, 0xC * 2 ^ 59, 0xD * 2 ^ 59, 8 * 2 ^ 59 + 5]
     r.drop = true ∧ r.s.get S.DEST_QUEUE = 77 ∧ r.s.flag Fl.RECIRCULATE = true ∧ r.s.get S.PROGRAM = 0) := by decide +kernel
theorem witness_PassesMatchAndApplyActionLists_pass :
    (let d := classifying .pass 0 plainFrame
     let v := d.view (inPass .pass 0 plainFrame)
     v.p.mal = none ∧ v.wc.isNone ∧ v.s.flag Fl.FRAGMENT = false ∧ d.passWaits v = false ∧ (d.exactOf v true).isNone ∧ v.key.isNone ∧ v.c.list 0 = [2 ^ 58 + 0xD * 2 ^ 59]) ∧
    chk (.heddlePass 0 none none) (classifying .pass 0 plainFrame) (fun d => d.ctr K.HED_DEFAULT == 1 && d.ctr K.HED_EXACT_MISS == 1
      && (d.shut 0).map (fun (y : Shut) => (y.stage, y.dropReason)) == some (.ended, some 2)) = true ∧
    chk (.ddr5LookupResult 0 0 0 0 ⟨none, none⟩) (classifying .ddr5 1 plainFrame) (fun d => (d.shut 0).map (fun (y : Shut) => (y.stage, y.dropReason)) == some (.ended, some 2)) = true ∧
    still (.ddr5LookupResult 0 0 0 0 ⟨none, none⟩) (classifying .pass 0 plainFrame) = true := by decide +kernel
/-- A module with one forwarding entry. -/
def forwarding (i : Nat) (e : FwdEntry) (q : List LearnReq) : Dev := live.modFwd (fun f => { f with entries := [(i, e)], queue := q })
theorem witness_ForwardingEntriesAreManaged :
    chk (.fwdRead 0 0 4210687) (forwarding 4210687 ⟨5, 6, true, false, false, 7, 8, 9⟩ []) (fun d => recFwd (d.words fwdWin 4) == ⟨5, 6, true, false, false, 7, 8, 9⟩
      && d.ind == [(0x600100, 0)]) = true ∧
    chk (.fwdRead 0 0 0) live (fun d => d.ind == [(0x600100, 1)]) = true ∧
    chk (.fwdWrite 1 0 16383) (window fwdWin 2 77) (fun d => d.cfg.shadow.record Tab.domain 16383 == 77) = true ∧
    chk (.fwdRead 1 1 16383) (live.tabled true Tab.domain 16383 77) (fun d => d.words fwdWin 2 == 77) = true ∧
    chk (.fwdWrite 1 1 0) live (fun d => d.ind == [(0x600100, 5)]) = true ∧ chk (.fwdWrite 0 0 4210688) live (fun d => d.ind == [(0x600100, 3)]) = true ∧
    chk (.fwdWrite 0 0 4210687) (window fwdWin 4 (fwdRec ⟨5, 6, true, false, false, 7, 8, 9⟩)) (fun d => d.fwdAt 4210687 == some ⟨5, 6, true, false, false, 7, 8, 9⟩) = true ∧
    still (.deleteKey 0 0) (live.withF [(F.FWD_IND_CTRL_BUSY, 1)]) = true ∧
    chk (.deleteKey 0 0) (window fwdWin 4 (fwdRec ⟨5, 6, true, false, false, 7, 8, 9⟩)) (fun d => d.ind == [(0x600100, 1)]) = true ∧
    chk (.fwdFindKey 0 0) (window fwdWin 4 (fwdRec ⟨5, 6, true, false, false, 7, 8, 9⟩)) (fun d => d.ind == [(0x600100, 1)]) = true ∧
    chk (.writeKey 0 0) (window fwdWin 4 (fwdRec ⟨5, 6, false, false, false, 7, 8, 9⟩)) (fun d => d.ind == [(0x600100, 0)]
      && d.fwdAt (d.get F.FWD_IND_INDEX_INDEX) == some ⟨5, 6, true, false, false, 7, 8, 0⟩) = true ∧
    chk (.fwdFlush 0 6) live (fun d => d.fwd.flush == some (0, 6, 0) && d.get F.FWD_LEARN_STATUS_FLUSH_BUSY == 1) = true ∧
    still (.fwdFlush 0 6) (live.modFwd (fun f => { f with flush := some (1, 2, 0) })) = true ∧
    chk (.flushBucket false 0) ((forwarding 3 ⟨5, 6, false, false, false, 7, 8, 9⟩ []).modFwd (fun f => { f with flush := some (0, 6, 0) }))
      (fun d => d.fwd.entries == [] && d.fwd.flush == some (0, 6, 1)) = true := by decide +kernel
/-- The bucket of key 5 in domain 6. -/
def bucket56 : Nat := live.bucketOf false 5 6
theorem witness_LearningMovesAndAgeing :
    chk (.learnDecide none) (((live.modFwd (fun f => { f with queue := [⟨5, 6, 7, 8⟩] })).withSh [(F.FWD_PORT_LEARN_LIMIT 7, 1)]).withF [(F.FWD_ONDIE_LEARN_ONDIE_MAX, 1)]
      |>.tabled true Tab.domain 6 1) (fun d => d.fwd.queue == [] && d.ctr K.FWD_LEARNED == 1 && d.fwdAt bucket56 == some ⟨5, 6, false, false, false, 7, 8, 0⟩) = true ∧
    chk (.learnDecide none) ((live.modFwd (fun f => { f with queue := [⟨5, 6, 7, 8⟩] })).withSh [(F.FWD_PORT_LEARN_LIMIT 7, 0)])
      (fun d => d.fwd.entries == [] && d.ctr K.FWD_LIMIT_PORT == 1) = true ∧
    chk (.learnDecide none) ((live.modFwd (fun f => { f with queue := [⟨5, 6, 7, 8⟩] })).withSh [(F.FWD_PORT_LEARN_LIMIT 7, 1)])
      (fun d => d.fwd.entries == [] && d.ctr K.FWD_LIMIT_DOMAIN == 1) = true ∧
    chk (.learnDecide none) (forwarding bucket56 ⟨5, 6, true, false, false, 7, 8, 9⟩ [⟨5, 6, 7, 8⟩]) (fun d => (d.fwdAt bucket56).map (fun e => e.age) == some 0) = true ∧
    chk (.learnDecide none) (forwarding bucket56 ⟨5, 6, true, false, false, 3, 8, 9⟩ [⟨5, 6, 7, 8⟩]) (fun d => d.ctr K.FWD_STATIC_CONFLICT == 1) = true ∧
    chk (.learnDecide none) (forwarding bucket56 ⟨5, 6, false, false, true, 3, 8, 9⟩ [⟨5, 6, 7, 8⟩]) (fun d => d.ctr K.FWD_MOVE_FROZEN == 1) = true ∧
    chk (.learnDecide none) ((forwarding bucket56 ⟨5, 6, false, false, false, 3, 8, 9⟩ [⟨5, 6, 7, 9⟩]).withSh [(F.FWD_PORT_LEARN_LIMIT 7, 1)] |>.withF [(F.FWD_LEARN_CFG_MOVE_LIMIT, 1)])
      (fun d => d.ctr K.FWD_MOVES == 1 && d.fwdAt bucket56 == some ⟨5, 6, false, false, false, 7, 9, 0⟩) = true ∧
    chk (.learnDecide none) ((forwarding bucket56 ⟨5, 6, false, false, false, 3, 8, 9⟩ [⟨5, 6, 7, 9⟩]).withSh [(F.FWD_PORT_LEARN_LIMIT 7, 1)] |>.withF [(F.FWD_LEARN_CFG_MOVE_LIMIT, 0)])
      (fun d => d.ctr K.FWD_FLAPS == 1 && d.fwdAt bucket56 == some ⟨5, 6, false, false, true, 3, 8, 0⟩) = true ∧
    still (.learnDecide none) live = true ∧ chk .ageTick (live.modFwd (fun f => { f with tick := 65535 })) (fun d => d.fwd.tick == 0) = true ∧
    chk (.agerBucketRead 0 true none) ((forwarding 3 ⟨5, 6, false, false, false, 7, 8, 9⟩ []).modFwd (fun f => { f with removes := [(3, 9)] }))
      (fun d => d.fwd.entries == [] && d.ctr K.FWD_AGED == 1 && d.get F.FWD_EVENT_SWEEP_LATE == 1) = true ∧
    chk (.agerBucketRead 0 false none) ((forwarding 3 ⟨5, 6, false, false, false, 7, 8, 9⟩ []).modFwd (fun f => { f with removes := [(3, 8)] }))
      (fun d => d.ctr K.FWD_AGE_SAVED == 1) = true ∧
    chk (.agerBucketRead 0 false none) ((forwarding 3 ⟨5, 6, false, false, false, 7, 8, 9⟩ []).modFwd (fun f => { f with tick := 8 })) (fun d => d.fwd.removes == [(3, 9)]) = true ∧
    chk (.agerBucketRead 0 false none) ((forwarding 3 ⟨5, 6, false, false, true, 7, 8, 9⟩ []).modFwd (fun f => { f with tick := 8 }))
      (fun d => d.fwdAt 3 == some ⟨5, 6, false, false, false, 7, 8, 8⟩) = true := by decide +kernel

/-! ## Ciphers, storage, check values and Reed -/

/-- A record with fields set. -/
def recWith (l : List (Bits × Nat)) : Rec := l.foldl (fun r p => recSet r p.1 p.2) 0
/-- A module with one SA and no SA else. -/
def secured (k : Nat) (a : Sa) : Dev := live.modCiph (fun c => { c with sas := [(k, a)] })
/-- An allocated SA with a record, at a counter. -/
def saWith (l : List (Bits × Nat)) (n : Nat) : Sa := { record := recWith l, key := List.replicate 64 1, state := 1, counter := n, cached := true }
theorem witness_SecurityAssociationsLiveTheirStates_allocated :
    chk (.saRead 1048575) live (fun d => d.ind == [(0x700200, 1)] && d.words ciphWin 64 == 0) = true ∧ chk (.saRetire 0) live (fun d => d.ind == [(0x700200, 1)]) = true ∧
    chk (.saRead 0) (secured 0 (saWith [(SAR.TYPE, 1)] 5)) (fun d => d.ind == [(0x700200, 0)] && recGet (d.winRec ciphWin 256) SAR.COUNTER == 5) = true ∧
    chk (.saWrite 0) (secured 0 (saWith [] 5)) (fun d => d.ind == [(0x700200, 6)]) = true ∧
    chk (.saRetire 0) (secured 0 (saWith [] 5)) (fun d => d.ciph.sas == []) = true ∧
    chk (.saRetire 0) (secured 0 { saWith [] 5 with refs := 1 }) (fun d => (mapGet d.ciph.sas 0).map (fun a => a.state) == some 2) = true ∧
    chk (.saRekey 0) ((secured 0 (saWith [(SAR.TYPE, 3)] 5)).modCiph (fun c => { c with keyLoaded := true })) (fun d => ((mapGet d.ciph.sas 0).bind (fun a => a.rekey)).isSome
      && !d.ciph.keyLoaded) = true ∧
    chk (.saResync 0) (secured 0 (saWith [(SAR.TYPE, 3)] 5)) (fun d => (mapGet d.ciph.sas 0).map (fun a => (a.sync, a.counter)) == some (true, 0)) = true ∧
    chk (.saRekey 0) (secured 0 (saWith [(SAR.TYPE, 2)] 5)) (fun d => d.ind == [(0x700200, 3)]) = true ∧
    chk (.saWrite 7) live (fun d => d.ind == [(0x700200, 7)] && d.ciph.sas == []) = true ∧
    chk (.saWrite 7) (live.putWord ciphWin 7) (fun d => d.ind == [(0x700200, 3)]) = true ∧
    chk (.saWrite 1048575) (live.modCiph (fun c => { c with keyLoaded := true, keyWin := List.replicate 64 9 })) (fun d => d.ind == [(0x700200, 0)] && !d.ciph.keyLoaded
      && (mapGet d.ciph.sas 1048575).map (fun a => (a.state, a.key)) == some (1, List.replicate 64 9)) = true := by decide +kernel
theorem witness_SecurityAssociationsLiveTheirStates_rest :
    chk (.templateRead 1 16383) (live.tabled true Tab.template 16383 77) (fun d => d.words ciphWin 64 == 77) = true ∧
    chk (.templateWrite 0 16383) (live.putWord ciphWin 77) (fun d => d.cfg.shadow.record Tab.template 16383 == 77) = true ∧
    chk (.templateWrite 1 0) live (fun d => d.ind == [(0x700200, 5)]) = true ∧
    chk (.keyWrite 60 0x04030201) live (fun d => d.ciph.keyLoaded && d.ciph.keyWin.drop 60 == [1, 2, 3, 4]) = true ∧
    chk (.saFetchDone 3 0 0 0) ((secured 3 { saWith [] 5 with cached := false }).modCiph (fun c => { c with fetching := [3] })) (fun d => d.ciph.fetching == []
      && (mapGet d.ciph.sas 3).map (fun a => a.cached) == some true) = true ∧
    chk (.saFetchDone 3 2 0 0) ((secured 3 { saWith [] 5 with cached := false }).modCiph (fun c => { c with fetching := [3] })) (fun d => (mapGet d.ciph.sas 3).map (fun a => a.cached) == some false) = true ∧
    chk .rngRead (live.withF [(F.CIPH_STATUS_DRBG_READY, 1)]) (fun d => d.free == 1 && d.ciph.requests == 1 && d.out.length == 1) = true ∧
    chk .rngRead live (fun d => d.out == [.readData 0] && d.get F.CIPH_EVENT_RNG_EMPTY == 1) = true ∧
    chk (.entropyRetest true) live (fun d => d.get F.CIPH_STATUS_DRBG_READY == 1) = true ∧ still (.entropyRetest false) live = true ∧
    chk .entropyHealthFail (live.withF [(F.CIPH_STATUS_ENTROPY_OK, 1), (F.CIPH_STATUS_DRBG_READY, 1)]) (fun d => d.get F.CIPH_STATUS_ENTROPY_OK == 0 && d.ctr K.CIPH_ENTROPY_FAIL == 1) = true ∧
    chk .drbgReseed ((live.withF [(F.CIPH_STATUS_DRBG_READY, 1)]).modCiph (fun c => { c with requests := 3 })) (fun d => d.ciph.requests == 0) = true ∧ still .drbgReseed live = true ∧
    chk (.maskReseed 15) ((live.withF [(F.CIPH_STATUS_DRBG_READY, 1)]).modCiph (fun c => { c with unseeded := [15] })) (fun d => d.ciph.unseeded == []) = true ∧
    chk (.maskReseed 15) live (fun d => d.ciph.unseeded == [15]) = true := by decide +kernel
/-- Shuttle 0 of SA 4, waiting for a lane or in lane 15. -/
def laneShut (op : Nat) (st : Stage) (f : List Byte) : Shut := { (((({} : Shut).set S.SA 4).set S.CIPHER_OP op).set S.CLASS 3).set S.PROGRAM 1 with
  frame := f
  rx := f
  stage := st }
/-- A MACsec frame with packet number 9. -/
def secFrame : List Byte := plainFrame.take 12 ++ [0x88, 0xE5, 0x4C, 0, 0, 0, 0, 9] ++ List.replicate 48 7
theorem witness_LanesTakeFramesAndJudgeTags_enter :
    chk (.cipherLaneEnter 15) { secured 4 { saWith [] 5 with state := 2 } with shuts := [(0, laneShut 2 .lane plainFrame)] }
      (fun d => d.ctr K.CIPH_SA_RETIRED_DROP == 1 && (d.shut 0).map (fun y => (y.stage, y.dropReason)) == some (.ended, some 6)) = true ∧
    chk (.cipherLaneEnter 15) { secured 4 (saWith [(SAR.DIR, 1), (SAR.LIMIT, 100)] 5) with shuts := [(0, (laneShut 2 .lane plainFrame).mark Fl.ENCAP_PENDING)] }
      (fun d => (mapGet d.ciph.sas 4).map (fun a => a.counter) == some 6 && (d.shut 0).map (fun y => (y.lane, y.cipherSeq, y.counter)) == some (some 15, 5, 5)) = true ∧
    chk (.cipherLaneEnter 15) { secured 4 (saWith [(SAR.REPLAY_EN, 1), (SAR.SCI_TMPL, 0x0200000000010001)] 5) with shuts := [(0, laneShut 1 .lane secFrame)] }
      (fun d => (d.shut 0).map (fun y => (y.lane, y.cipherSeq)) == some (some 15, 9)) = true ∧
    chk (.cipherLaneEnter 15) { secured 4 (saWith [(SAR.REPLAY_EN, 1), (SAR.SCI_TMPL, 0x0200000000010001)] 9) with shuts := [(0, laneShut 1 .lane secFrame)] }
      (fun d => d.ctr K.CIPH_REPLAY_DROP == 1) = true ∧
    still (.cipherLaneEnter 15) (live.withF [(F.CIPH_LANE_CFG_OUT 15, 1)]) = true := by decide +kernel
/-- Shuttle 0 whose bytes lane 15 has transformed, its tag good or bad. -/
def tagged (good : Bool) (n : Nat) : Dev := { secured 4 { saWith [(SAR.REPLAY_EN, 1)] 5 with refs := 1 } with shuts := [(0, { laneShut 1 .inLane plainFrame with
  lane := some 15
  transformed := true
  ended := true
  tagOk := good
  holdsSa := some 4
  cipherSeq := n })] }
theorem witness_LanesTakeFramesAndJudgeTags_result :
    chk (.cipherTagResult 0) (tagged true 6) (fun d => (mapGet d.ciph.sas 4).map (fun a => (a.counter, a.refs)) == some (6, 0) && d.ctr K.CIPH_DECRYPTED == 1
      && (d.shut 0).map (fun y => (y.stage, y.cipherRes)) == some (.cross, 1)) = true ∧
    chk (.cipherTagResult 0) (tagged false 6) (fun d => (mapGet d.ciph.sas 4).map (fun a => (a.counter, a.refs)) == some (5, 0) && d.ctr K.CIPH_AUTH_FAIL == 1 && d.shuts == []) = true ∧
    ((saWith [(SAR.REPLAY_EN, 1)] 5).verified { laneShut 1 .inLane [] with cipherSeq := 6 }).1.counter = 6 ∧ still (.cipherTagResult 0) { live with shuts := [(0, {})] } = true := by decide +kernel
/-- A module with one STOR context of flow 9. -/
def stored (k : Nat) : Dev := live.modStor (fun x => { x with ctxs := [(k, { record := recWith [(QC.VALID, 1), (QC.FLOW_ID, 9), (QC.CID_LOG2, 4)], sync := false, rxSeq := 3, txSeq := 4, pdu := [1] })] })
/-- A window that holds a context of a flow. -/
def ctxWindow (d : Dev) (flow log2 : Nat) : Dev := d.putWords storWin 8 (recWith [(QC.VALID, 1), (QC.FLOW_ID, flow), (QC.CID_LOG2, log2), (QC.RX_SEQ, 77), (QC.TX_SEQ, 78)]).toNat
/-- A command table entry of command 6, valid or not, whose bytes the host has given. -/
def fetched (valid : Byte) : Dev := live.modStor (fun x =>
  { x with fetching := [cidKey 2 6], data := [(cidKey 2 6, List.replicate 12 0 ++ [valid, 0, 6, 0] ++ List.replicate 16 0)] })
theorem witness_StorageContextsAreManaged :
    chk (.storRead 16383) (stored 16383) (fun d => d.ind == [(0x800100, 0)] && recGet (d.winRec storWin 32) QC.FLOW_ID == 9) = true ∧
    chk (.storWrite 16383) (stored 16383) (fun d => d.ind == [(0x800100, 4)]) = true ∧ chk (.storDelete 16383) (stored 16383) (fun d => d.stor.ctxs == []) = true ∧
    chk (.resyncRx 0) (ctxWindow (stored 0) 9 4) (fun d => (d.validCtx 0).map (fun c => (c.sync, c.rxSeq, c.pdu)) == some (true, 77, [])) = true ∧
    chk (.resyncTx 0) (ctxWindow (stored 0) 9 4) (fun d => (d.validCtx 0).map (fun c => c.txSeq) == some 78) = true ∧
    chk (.storRead 0) live (fun d => d.ind == [(0x800100, 1)]) = true ∧ chk (.storDelete 0) live (fun d => d.ind == [(0x800100, 1)]) = true ∧
    chk (.storWrite 1) (ctxWindow live 9 4) (fun d => d.ind == [(0x800100, 0)] && (d.validCtx 1).map (fun c => (c.sync, c.rxSeq, c.txSeq)) == some (true, 77, 78)) = true ∧
    chk (.storWrite 1) (ctxWindow (stored 0) 9 12) (fun d => d.ind == [(0x800100, 4)]) = true ∧ chk (.storWrite 1) (ctxWindow live 9 13) (fun d => d.ind == [(0x800100, 3)]) = true ∧
    chk (.storWrite 1) (ctxWindow live 0 4) (fun d => d.ind == [(0x800100, 3)]) = true ∧ chk (.resyncTx 16384) live (fun d => d.ind == [(0x800100, 3)]) = true ∧
    chk (.cidEntryFetch 2 6) (fetched 1) (fun d => d.stor.fetching == [] && d.stor.data == [] && (mapGet d.stor.cids (cidKey 2 6)).isSome) = true ∧
    chk (.cidEntryFetch 2 6) (fetched 0) (fun d => d.stor.cids == [] && d.ctr K.STOR_NO_ENTRY == 1) = true ∧
    chk (.cidEntryFetch 2 7) (fetched 1) (fun d => d.stor.fetching == [cidKey 2 6]) = true := by decide +kernel
/-- A module whose check unit 31 is owned by mover channel 5. -/
def owning (c : CrcUnit) : Dev := (live.withF [(F.STOR_CRC_STATUS_STATE 31, 1)]).modStor (fun x => { x with units := [(31, { c with owner := some (1, 5) })] })
theorem witness_CheckUnitsServeTheirOwner :
    chk (.crcStart 31 1 5 3 (some 2)) live (fun d => d.get (F.STOR_CRC_STATUS_STATE 31) == 1 && d.crcUnit 31 == { owner := some (1, 5), poly := 3, alive := some 2 }) = true ∧
    chk (.crcStart 31 0 5 0 none) (owning {}) (fun d => d.ctr K.STOR_REFUSED == 1) = true ∧ still (.crcFeed 31 0 5 [1]) (owning {}) = true ∧
    chk (.crcFeed 31 1 5 [1]) (owning {}) (fun d => (d.crcUnit 31).message == [1]) = true ∧
    chk (.crcStop 31 1 5) (owning { message := [1] }) (fun d => (d.crcUnit 31).owner.isNone && d.get (F.STOR_CRC_STATUS_STATE 31) == 0) = true ∧
    chk (.crcEnd 31 1 5) (owning { message := [1], alive := some 0, recorded := true }) (fun d => (d.crcUnit 31).message == [] && d.get (F.STOR_CRC_ALIVE_LAST 31) == 1
      && d.get (F.STOR_CRC_ALIVE_REPEAT 31) == 0 && d.get (F.STOR_CRC_ALIVE_SKIP 31) == 0) = true ∧
    chk (.crcEnd 31 1 5) (owning { message := [0], alive := some 0, recorded := true }) (fun d => d.get (F.STOR_CRC_ALIVE_REPEAT 31) == 1 && d.ctr K.STOR_CRC_REPEAT == 1) = true ∧
    chk (.crcEnd 31 1 5) (owning { message := [2], alive := some 0, recorded := true }) (fun d => d.get (F.STOR_CRC_ALIVE_SKIP 31) == 1 && d.get (F.STOR_CRC_ALIVE_LAST_STEP 31) == 2) = true ∧
    chk (.crcEnd 31 1 5) (owning { message := [2], alive := some 1 }) (fun d => d.get (F.STOR_CRC_STATUS_NO_FIELD 31) == 1) = true ∧
    chk (.crcRelease 31) (owning {}) (fun d => d.get (F.STOR_CRC_STATUS_ABANDONED 31) == 1 && (d.crcUnit 31).owner.isNone) = true ∧
    chk (.crcStatusRead 31) (owning { result := 99 }) (fun d => d.get (F.STOR_CRC_RESULT_RESULT 31) == 99 && d.out.length == 1) = true ∧
    ((owning {}).countTransient 4 31 0).2.2 = false ∧ chk (.crcParityFault 31) (owning {}) (fun d => d.get (F.STOR_CRC_STATUS_STATE 31) == 2) = true ∧ still (.crcParityFault 31) live = true := by
  decide +kernel
/-- Shuttle 0 for port 8, of a class and a length. -/
def forPort (cls : Nat) (st : Stage) : Shut := { (((({} : Shut).set S.DEST_PORT 8).set S.CLASS cls).set S.LENGTH 64).set S.DEST_QUEUE 5 with
  frame := List.replicate 60 1
  stage := st }
/-- The table entries of queue 5 in group 2 of port 8. -/
def queueRec (limit : Nat) : Rec := recWith [(QR.GROUP, 2), (QR.VALID, 1), (QR.LIMIT, limit), (QR.WEIGHT, 1)]
def groupRec : Rec := recWith [(GR.PORT, 8), (GR.TC, 7), (GR.VALID, 1), (GR.WEIGHT, 1)]
/-- A port 8 that is up with that queue, whose frames are those of a list. -/
def queued (limit : Nat) (fr : List Nat) (x : Shut) : Dev :=
  { (((linkAt 8 4).tabled true Tab.queue 5 (queueRec limit).toNat).tabled true Tab.group 2 groupRec.toNat).modReed (fun r =>
      { r with queues := [(5, { record := queueRec limit, frames := fr })], groups := [(2, { record := groupRec })], shMin := [(5, ⟨0⟩)] }) with shuts := [(0, x)] }
theorem witness_ReedPlacesAndChoosesFrames :
    chk (.reedEnqueue 0) (queued 0 [] (forPort 1 .reed)) (fun d => mapGetD d.reed.deadlineSet 8 [] == [0]) = true ∧
    chk (.reedEnqueue 0) (queued 9999 [] (forPort 2 .reed)) (fun d => (d.rq 5).frames == [0]) = true ∧
    chk (.reedEnqueue 0) (queued 0 [] (forPort 3 .reed)) (fun d => (d.rq 5).drops == 1 && d.ctr (K.REED_QUEUE_DROP 8) == 1) = true ∧
    still (.reedEnqueue 0) (queued 9999 [0] (forPort 2 .reed)) = true ∧
    (queued 0 [] {}).cfg.active.queueFor 8 5 = (5, false) ∧ (queued 0 [] {}).cfg.active.queueFor 8 6 = (live.sh (F.REED_PORT_CFG_DEFAULT_QUEUE 8), true) ∧
    chk (.reedChoose ⟨8, .none⟩) ((queued 0 [] { forPort 1 .reed with ended := true }).modReed (fun r => { r with deadlineSet := [(8, [0])] }))
      (fun d => d.ctr (K.REED_GUAR_FRAMES 8) == 1 && (d.shut 0).map (fun y => y.stage) == some .toLands) = true ∧
    chk (.reedChoose ⟨8, .none⟩) (queued 9999 [0] { forPort 2 .reed with ended := true }) (fun d => (d.rq 5).frames == [] && d.ctr (K.REED_AS_COMMITTED_BYTES 8) == 64
      && mapGet d.reed.shMin 5 == some ⟨-672⟩ && (d.shut 0).map (fun y => y.stage) == some .toLands) = true ∧
    still (.reedChoose ⟨8, .none⟩) live = true ∧ still (.reedChoose ⟨8, .none⟩) ((queued 0 [0] { forPort 2 .reed with ended := true }).modFlt (fun f => { f with gap := 1 })) = true := by decide +kernel
/-- A gate list of two entries at port 7. -/
def gated (start : Nat) : Dev := live.modReed (fun r => { r with gates := [(7, ⟨[(3, 100), (5, 100)], 200, 0⟩)], nextGates := [(7, ⟨[(9, 50)], 50, start⟩)] })
theorem witness_ShapersGatesAndReedTables :
    refillOne (some ⟨-8⟩) 256 1 256 = some ⟨248⟩ ∧ refillOne none 1 2 256 = some ⟨4096⟩ ∧ (refillOne (some ⟨1⟩) 0 1 256).isNone ∧
    chk .shaperRefill (live.withSh [(F.REED_TC_RATE 10 7, 9), (F.REED_TC_BURST 10 7, 1)]) (fun d => mapGet d.reed.shTc (tcKey 10 7) == some ⟨2048⟩) = true ∧
    chk (.gateEntryChange 7) ((gated 0).modTime (fun t => { t with q := 100 * 65536 * unit16 })) (fun d => d.get (F.REED_GATE_STATUS_GATES 7) == 5 && d.get (F.REED_GATE_STATUS_CURRENT 7) == 1) = true ∧
    chk (.gateEntryChange 0) (gated 0) (fun d => d.get (F.REED_GATE_STATUS_GATES 0) == 255) = true ∧
    still (.gateListStart 7) (gated 1) = true ∧ chk (.gateListStart 7) (gated 0) (fun d => d.get (F.REED_GATE_STATUS_GATES 7) == 9 && (d.nextGatesOf 7).isNone) = true ∧
    still (.gateListStart 0) (gated 0) = true ∧
    chk (.reedRead 0 1 32767) (live.tabled true Tab.queue 32767 (queueRec 9).toNat) (fun d => recGet (d.winRec 0x900200 32) QR.GROUP == 2) = true ∧
    chk (.reedWrite 0 0 32767) (window 0x900200 8 (queueRec 9).toNat) (fun d => d.cfg.shadow.record Tab.queue 32767 == queueRec 9) = true ∧
    chk (.reedWrite 0 1 0) live (fun d => d.ind == [(0x900100, 5)]) = true ∧ chk (.reedWrite 1 0 8191) (window 0x900200 8 groupRec.toNat) (fun d => d.cfg.shadow.record Tab.group 8191 == groupRec) = true ∧
    chk (.reedRead 0 0 32768) live (fun d => d.ind == [(0x900100, 3)]) = true ∧ still (.reedRead 0 0 0) (live.withF [(F.REED_IND_CTRL_BUSY, 1)]) = true := by decide +kernel

/-! ## Barbor cores -/

/-- Core 63 with one thread's state, 100 code words, and 8 known bytes at the start of its data. -/
def coreWith (th : Nat) (t : Thread) : Dev := live.modBarb (fun b => { b with
  threads := [(504 + th, t)]
  code := [(63, 100)]
  local_ := [(63, (List.range 48).map (fun k => (400 + k, BitVec.ofNat 8 (k + 1))))] })
/-- A running thread at word 10 with registers. -/
def runs (l : List (Nat × Dword)) : Thread := { run := 1, pc := 10, regs := l }
/-- A running thread with a budget. -/
def budgeted (b : Nat) : Thread := { run := 1, pc := 10, budget := some b }
/-- One instruction of thread 7 of core 63: register 3 after it, and the word of the next instruction. -/
def gives (i : Instr) (t : Thread) (v : Dword) (pc : Nat) : Bool := chk i (coreWith 7 t) (fun d => (d.thread 511).reg 3 == v && (d.thread 511).pc == pc)
/-- One instruction of thread 7 of core 63 faults with a cause. -/
def faults (i : Instr) (t : Thread) (cause : Nat) : Bool := chk i (coreWith 7 t) (fun d => (d.thread 511).run == 0 && (d.thread 504).events.testBit 5
  && d.ctr K.BARB_PROGRAM_FAULT == 1 && (d.word 0xB00808).toNat == 63 + 256 * 7 + 65536 * cause)
theorem witness_ArithmeticWritesOneRegister :
    ((coreWith 7 (budgeted 3)).thread 511).issues = true ∧
    gives (.add 63 7 3 1 2) (runs [(1, 2 ^ 64 - 1), (2, 3)]) 2 11 = true ∧ gives (.sub 63 7 3 1 2) (runs [(1, 2), (2, 3)]) (2 ^ 64 - 1) 11 = true ∧
    gives (.and_ 63 7 3 1 2) (runs [(1, 12), (2, 10)]) 8 11 = true ∧ gives (.or_ 63 7 3 1 2) (runs [(1, 12), (2, 10)]) 14 11 = true ∧ gives (.xor 63 7 3 1 2) (runs [(1, 12), (2, 10)]) 6 11 = true ∧
    gives (.shl 63 7 3 1 2) (runs [(1, 3), (2, 127)]) (2 ^ 63) 11 = true ∧ gives (.shr 63 7 3 1 2) (runs [(1, 2 ^ 63), (2, 63)]) 1 11 = true ∧
    gives (.sar 63 7 3 1 2) (runs [(1, 2 ^ 63), (2, 62)]) (2 ^ 64 - 2) 11 = true ∧ gives (.slt 63 7 3 1 2) (runs [(1, 2 ^ 63), (2, 0)]) 1 11 = true ∧
    gives (.sltu 63 7 3 1 2) (runs [(1, 2 ^ 63), (2, 0)]) 0 11 = true ∧ gives (.bswap 63 7 3 1) (runs [(1, 0x0102030405060708)]) 0x0807060504030201 11 = true ∧
    gives (.addi 63 7 3 1 0xFFFF) (runs [(1, 5)]) 4 11 = true ∧ gives (.andi 63 7 3 1 0xFFFF) (runs [(1, 2 ^ 64 - 1)]) 65535 11 = true ∧ gives (.ori 63 7 3 1 0x8000) (runs []) 32768 11 = true := by
  decide +kernel
theorem witness_ArithmeticWritesOneRegister_shifts :
    gives (.shi 63 7 3 1 63) (runs [(1, 3)]) (2 ^ 63) 11 = true ∧ gives (.shi 63 7 3 1 127) (runs [(1, 2 ^ 63)]) 1 11 = true ∧
    gives (.shi 63 7 3 1 191) (runs [(1, 2 ^ 63)]) (2 ^ 64 - 1) 11 = true ∧ gives (.shin 63 7 3 1 7) (runs [(1, 5)]) 327687 11 = true ∧
    gives (.chl 63 7 3 15) { runs [] with recv := [(7, 99)] } 99 11 = true ∧ gives (.mul 63 7 3 1 2) (runs [(1, 2 ^ 63), (2, 3)]) (2 ^ 63) 11 = true ∧
    gives (.hash 63 7 3 1 2) (runs [(1, 0x3837363534333231)]) 0x6087809A 11 = true ∧ gives (.add 63 7 0 1 2) (runs [(1, 2), (2, 3)]) 0 11 = true := by decide +kernel
theorem witness_BranchesJumpAndFaultsEndThreads :
    gives (.beq 63 7 3 1 0xFFF5) (runs []) 0 0 = true ∧ faults (.beq 63 7 3 1 0xFFF4) (runs []) 2 = true ∧ gives (.beq 63 7 3 1 5) (runs [(1, 1)]) 0 11 = true ∧
    gives (.bne 63 7 3 1 88) (runs [(1, 1)]) 0 99 = true ∧ faults (.bne 63 7 3 1 89) (runs [(1, 1)]) 2 = true ∧ gives (.bne 63 7 3 1 5) (runs []) 0 11 = true ∧
    gives (.bltu 63 7 3 1 5) (runs [(1, 1)]) 0 16 = true ∧ faults (.bltu 63 7 3 1 99) (runs [(1, 1)]) 2 = true ∧ gives (.bltu 63 7 3 1 5) (runs []) 0 11 = true ∧
    gives (.bgeu 63 7 3 1 5) (runs []) 0 16 = true ∧ faults (.bgeu 63 7 3 1 99) (runs []) 2 = true ∧ gives (.bgeu 63 7 3 1 5) (runs [(1, 1)]) 0 11 = true ∧
    gives (.jal 63 7 3 5) (runs []) 11 16 = true ∧ faults (.jal 63 7 3 99) (runs []) 2 = true ∧ gives (.jr 63 7 1) (runs [(1, 99)]) 0 99 = true ∧ faults (.jr 63 7 1) (runs [(1, 100)]) 2 = true ∧
    faults (.illegalInstruction 63 7) (runs []) 1 = true ∧ faults (.shi 63 7 3 1 192) (runs []) 1 = true ∧ faults (.ld 63 7 3 1 4 0) (runs []) 1 = true ∧
    faults (.add 63 7 3 1 2) (budgeted 0) 5 = true ∧ faults (.mul 63 7 3 1 2) (budgeted 0) 5 = true ∧ still (.add 63 7 3 1 2) live = true ∧
    still (.add 63 7 3 1 2) (coreWith 7 { runs [] with halted := true }) = true := by decide +kernel
/-- Thread 7 of core 63 with shuttle 0 of 6 bytes so far. -/
def holding (ended : Bool) (t : Thread) : Dev := { coreWith 7 { t with shuttle := some 0 } with shuts := [(0, { (({} : Shut).set S.CLASS 3) with frame := [1, 2, 3, 4, 5, 6], stage := .thread, ended := ended })] }
theorem witness_LoadsAndStoresReachTheirSpaces :
    gives (.ld 63 7 3 1 3 400) (runs []) 0x0807060504030201 11 = true ∧ gives (.ld 63 7 3 1 1 2) (runs [(1, 400)]) 0x0403 11 = true ∧
    chk (.st 63 7 3 1 0 447) (coreWith 7 (runs [(3, 0x1FF)])) (fun d => d.localByte 63 447 == 0xFF && d.localByte 63 446 == 47) = true ∧
    faults (.ld 63 7 3 1 0 399) (runs []) 2 = true ∧ faults (.st 63 7 3 1 0 0) (runs [(1, 262144)]) 2 = true ∧ faults (.ld 63 7 3 1 3 404) (runs []) 3 = true ∧
    faults (.fst 63 7 3 1 1 1) (runs []) 3 = true ∧ faults (.sld 63 7 3 1 0 0) (runs []) 2 = true ∧ faults (.fld 63 7 3 1 0 0) (runs []) 2 = true ∧
    chk (.sld 63 7 3 1 3 120) (holding true { runs [] with copy := BitVec.ofNat 1024 (2 ^ 960 * 77) }) (fun d => (d.thread 511).reg 3 == 77) = true ∧
    chk (.sst 63 7 3 1 0 124) (holding true (runs [])) (fun d => (d.thread 511).pc == 11) = true ∧
    chk (.fld 63 7 3 1 1 4) (holding false (runs [])) (fun d => (d.thread 511).reg 3 == 0x0605) = true ∧
    chk (.fst 63 7 3 1 1 4) (holding false (runs [(3, 0x0807)])) (fun d => (d.thread 511).win == [(4, 7), (5, 8)]) = true ∧
    chk (.fld 63 7 3 1 1 6) (holding false (runs [])) (fun d => (d.thread 511).wait == .load 6 2 && (d.thread 511).run == 2) = true ∧
    chk (.fst 63 7 3 1 1 6) (holding false (runs [])) (fun d => (d.thread 511).wait == .store 6 2 0) = true ∧
    (coreWith 7 {}).localOk 63 400 262144 = false ∧ (coreWith 7 {}).localOk 63 400 261744 = true := by decide +kernel
/-- The same core with channel 1,008 bound to thread 7 and messages in it and on their way. -/
def channelled (ms fl : Nat) (t : Thread) : Dev := ((coreWith 7 t).tabled true Tab.binding 1008 15).modBarb (fun b => { b with
  chans := [(1008, List.replicate ms [5, 6])]
  flight := List.replicate fl ⟨1008, [9], 0, 0⟩ })
/-- The same core with lock 4,095 held. -/
def locked (owner : Nat) (w : List Nat) (t : Thread) : Dev := (coreWith 7 t).modBarb (fun b => { b with locks := [(4095, ⟨owner, w⟩)] })
theorem witness_LookupsCheckValuesLocksAndChannels_lookups :
    chk (.lkf 63 7 3 1 ⟨0, none⟩) ((coreWith 7 (runs [(1, 5 + 2 ^ 48 * 6)])).modFwd (fun f => { f with entries := [(live.bucketOf false (keyMac (5 + 2 ^ 48 * 6)) (keyFd (5 + 2 ^ 48 * 6)), ⟨keyMac (5 + 2 ^ 48 * 6), keyFd (5 + 2 ^ 48 * 6), true, false, false, 7, 8, 9⟩)] }))
      (fun d => (d.thread 511).pc == 11 && (d.thread 511).reg 3 != 0) = true ∧
    chk (.lkf 63 7 3 1 ⟨0, none⟩) (coreWith 7 (runs [(1, 5 + 2 ^ 48 * 6)])) (fun d => (d.thread 511).pc == 11) = true ∧
    chk (.lkk 63 7 3 1 0) (coreWith 7 (runs [(1, 400)])) (fun d => (d.thread 511).reg 3 == 0 && (d.thread 511).run == 1) = true ∧
    chk (.lkk 63 7 3 1 1) (coreWith 7 (runs [(1, 400)])) (fun d => (d.thread 511).run == 2) = true ∧
    chk (.crcs 63 7 3 1 31 2) (coreWith 7 (runs [])) (fun d => (d.crcUnit 31).owner == some (0, 511) && (d.crcUnit 31).poly == 2) = true ∧
    chk (.crcs 63 7 3 1 31 2) ((coreWith 7 (runs [])).withF [(F.STOR_CRC_STATUS_STATE 31, 1)]) (fun d => (d.thread 511).reg 3 == 1) = true ∧
    (let u := ((coreWith 7 (runs [(1, 0x0807060504030201)])).withF [(F.STOR_CRC_STATUS_STATE 31, 1)]).modStor (fun x => { x with units := [(31, { owner := some (0, 511), result := 7 })] })
     chk (.crcf 63 7 1 31 7) u (fun d => (d.crcUnit 31).message == [1, 2, 3, 4, 5, 6, 7, 8]) = true ∧ chk (.crcf 63 7 1 31 8) u (fun d => (d.crcUnit 31).message == [] && (d.crcUnit 31).result == crcOf 0 [1]) = true ∧
     chk (.crcxRead 63 7 3 31) u (fun d => (d.thread 511).reg 3 == 7) = true ∧ chk (.crcxStop 63 7 31) u (fun d => (d.crcUnit 31).owner.isNone) = true) ∧
    faults (.crcf 63 7 1 31 8) (runs []) 9 = true ∧ faults (.crcxRead 63 7 3 31) (runs []) 9 = true ∧ faults (.crcxStop 63 7 31) (runs []) 9 = true := by decide +kernel
theorem witness_LookupsCheckValuesLocksAndChannels_locks :
    chk (.lock 63 7 1) (coreWith 7 (runs [(1, 4095)])) (fun d => d.barb.locks == [(4095, ⟨511, []⟩)]) = true ∧
    chk (.tryl 63 7 3 1) (coreWith 7 (runs [(1, 4095)])) (fun d => d.barb.locks == [(4095, ⟨511, []⟩)] && (d.thread 511).reg 3 == 0) = true ∧
    chk (.lock 63 7 1) (locked 9 [8] (runs [(1, 4095)])) (fun d => d.barb.locks == [(4095, ⟨9, [8, 511]⟩)] && (d.thread 511).wait == .lock 4095) = true ∧
    chk (.tryl 63 7 3 1) (locked 9 [] (runs [(1, 4095)])) (fun d => (d.thread 511).reg 3 == 1) = true ∧
    chk (.ulk 63 7 1) (locked 511 [8, 9] (runs [(1, 4095)])) (fun d => d.barb.locks == [(4095, ⟨8, [9]⟩)]) = true ∧
    chk (.ulk 63 7 1) (locked 511 [] (runs [(1, 4095)])) (fun d => d.barb.locks == []) = true ∧
    faults (.lock 63 7 1) (runs [(1, 1023)]) 7 = true ∧ faults (.tryl 63 7 3 1) (runs [(1, 1023)]) 7 = true ∧ faults (.ulk 63 7 1) (runs [(1, 4095)]) 7 = true ∧
    chk (.chw 63 7 1 7) (coreWith 7 (runs [(1, 5)])) (fun d => (d.thread 511).staging == [(7, 5)]) = true ∧
    chk (.chs 63 7 3 1 8) (coreWith 7 (runs [(1, 1008)])) (fun d => (d.thread 511).reg 3 == 2) = true ∧
    chk (.chs 63 7 3 1 1) (channelled 7 0 { runs [(1, 1008)] with staging := [(0, 5)] }) (fun d => (d.thread 511).reg 3 == 0 && d.barb.flight == [⟨1008, [5], 511, 0⟩]) = true ∧
    chk (.chs 63 7 3 1 8) (channelled 7 1 (runs [(1, 1008)])) (fun d => (d.thread 511).reg 3 == 1 && d.ctr K.BARB_CHAN_FULL == 1) = true ∧
    chk (.chs 63 7 3 1 129) (channelled 8 0 (runs [(1, 1008)])) (fun d => (d.thread 511).run == 2) = true ∧
    chk (.channelMessageArrive 1008) (channelled 1 1 {}) (fun d => d.chan 1008 == [[5, 6], [9]] && d.barb.flight == []) = true ∧
    chk (.chr 63 7 3 0 0) (channelled 2 0 (runs [])) (fun d => d.chan 1008 == [[5, 6]] && (d.thread 511).reg 3 == 2 && (d.thread 511).recv == [(0, 5), (1, 6)]) = true ∧
    chk (.chr 63 7 3 0 0) (channelled 0 0 (runs [])) (fun d => (d.thread 511).reg 3 == 0 && (d.thread 511).pc == 11) = true ∧
    chk (.chr 63 7 3 0 128) (channelled 0 0 (runs [])) (fun d => (d.thread 511).wait == .recv 1008) = true := by decide +kernel
/-- Quartz at 9 ns. -/
def at9 (d : Dev) : Dev := d.modTime (fun t => { t with q := 9 * 65536 * unit16 })
/-- Thread 0 of core 63, which runs, beside thread 7 in a state. -/
def masters (l : List (Nat × Dword)) (x : Thread) : Dev := (coreWith 7 x).modBarb (fun b => { b with threads := [(504, runs l), (511, x)] })
theorem witness_WaitsWakesAndThreadControl :
    chk (.waitt 63 7 3 1) (at9 (coreWith 7 (runs [(1, 9)]))) (fun d => (d.thread 511).run == 1 && (d.thread 511).reg 3 == 0) = true ∧
    chk (.waitt 63 7 3 1) (at9 (coreWith 7 (runs [(1, 10)]))) (fun d => (d.thread 511).wait == .time 10) = true ∧
    chk (.waite 63 7 3 1 0x88) (coreWith 7 { runs [] with events := 0x18 }) (fun d => (d.thread 511).reg 3 == 0x801 && (d.thread 511).events == 0x10) = true ∧
    chk (.waite 63 7 3 1 0x88) (coreWith 7 (runs [])) (fun d => (d.thread 511).wait == .event 0x88 none) = true ∧
    chk (.waite 63 7 3 1 0x88) (at9 (coreWith 7 (runs [(1, 10)]))) (fun d => (d.thread 511).wait == .event 0x88 (some 10)) = true ∧
    chk (.threadWake 63 7) (at9 (coreWith 7 { run := 2, wait := .time 9, wd := 3 })) (fun d => (d.thread 511).run == 1) = true ∧
    chk (.threadWake 63 7) (at9 (coreWith 7 { run := 2, wait := .time 10, wd := 3 })) (fun d => (d.thread 511).run == 2) = true ∧
    chk (.threadWake 63 7) (coreWith 7 { run := 2, wait := .event 8 none, wd := 3, events := 8 }) (fun d => (d.thread 511).reg 3 == 0x801 && (d.thread 511).run == 1) = true ∧
    chk (.threadWake 63 7) (locked 511 [] { run := 2, wait := .lock 4095 }) (fun d => (d.thread 511).run == 1) = true ∧
    chk (.threadWake 63 7) (locked 510 [511] { run := 2, wait := .lock 4095 }) (fun d => (d.thread 511).run == 2) = true ∧
    chk (.sig 63 7 0) (coreWith 7 (runs [])) (fun d => (d.thread 504).events.testBit 3) = true ∧
    chk (.tset 63 0 1 7 3) (masters [(1, 5)] {}) (fun d => (d.thread 511).reg 3 == 5) = true ∧ chk (.tset 63 0 1 7 3) (masters [(1, 5)] (runs [])) (fun d => (d.thread 511).reg 3 == 0) = true ∧
    chk (.tgo 63 0 3 1 7) (masters [(1, 99)] { armed := 4 }) (fun d => (d.thread 511).run == 1 && (d.thread 511).pc == 99 && (d.thread 511).budget == some 4) = true ∧
    chk (.tgo 63 0 3 1 7) (masters [(1, 99)] (runs [])) (fun d => (d.thread 504).reg 3 == 1) = true ∧
    chk (.tstop 63 0 3 7) (masters [] (runs [])) (fun d => (d.thread 511).run == 0 && (d.thread 504).reg 3 == 0) = true ∧ chk (.tstop 63 0 3 7) (masters [] {}) (fun d => (d.thread 504).reg 3 == 1) = true ∧
    chk (.barm 63 0 1 7) (masters [(1, 65537)] {}) (fun d => (d.thread 511).armed == 1) = true ∧ faults (.barm 63 7 1 7) (runs []) 8 = true ∧ faults (.tgo 63 7 3 1 6) (runs []) 8 = true ∧
    gives (.brd 63 7 3) (budgeted 5) 4 11 = true ∧ chk (.brd 63 7 3) (coreWith 7 (runs [])) (fun d => d.free == 1 && (d.thread 511).pc == 11) = true ∧
    chk (.tend 63 7) (coreWith 7 (runs [(1, 5)])) (fun d => (d.thread 511).run == 0 && (d.thread 511).reg 1 == 5) = true ∧
    chk (.tend 63 7) (locked 511 [] (runs [])) (fun d => (d.thread 511).run == 0 && (d.word 0xB00808).toNat == 63 + 256 * 7 + 65536 * 0xA) = true := by decide +kernel
/-- A frame that waits for program 1, entered at word 20, whose DISPATCH thread is 511. -/
def waitingProgram : Dev := { (((coreWith 7 {}).withSh [(F.BARB_CORE_POOL_DISPATCH 63, 128)]).tabled true Tab.program 1 (20 + 63 * 65536)) with
  shuts := [(0, { ((((({} : Shut).set S.CLASS 3).set S.PROGRAM 1).set S.LENGTH 64)) with stage := .dispatch })] }
/-- A module whose cores may be debugged, thread 7 of core 63 in a state. -/
def debugged (t : Thread) : Dev := (coreWith 7 t).withF [(F.BARB_DBG_STATUS_DEBUG_EN, 1), (F.BARB_CORE_DBG_SEL_THREAD 63, 7), (F.BARB_CORE_DBG_SEL_ITEM 63, 31)]
theorem witness_DispatchResetAndDebug :
    (waitingProgram.waitingFor 63 (waitingProgram.isGuar 511)).map (fun p => p.1) = [0] ∧
    chk (.programDispatch 63 7) waitingProgram (fun d => (d.thread 511).run == 1 && (d.thread 511).pc == 20 && (d.thread 511).reg 1 == 1 && (d.thread 511).reg 2 == 64 && (d.thread 511).reg 3 == 3
      && d.ctr K.BARB_DISPATCHED == 1) = true ∧
    still (.programDispatch 63 7) (waitingProgram.modFlt (fun f => { f with gap := 2 })) = true ∧
    chk (.tend 63 7) (holding false { runs [] with copy := BitVec.ofNat 1024 (2 ^ 647), win := [(5, 9)] }) (fun d => (d.shut 0).map (fun y => (y.stage, y.dropReason, y.frame)) == some (.ended, some 2, [1, 2, 3, 4, 5, 9])) = true ∧
    still (.stallDetect 63) live = true ∧
    chk (.coreResetWrite 63 0xC0E5) ((coreWith 7 (runs [])).modBarb (fun b => { b with master := [(63, 30)] })) (fun d => (d.thread 504).pc == 30 && d.thread 511 == {} && d.ctr K.BARB_CORE_RESETS == 1) = true ∧
    still (.coreResetWrite 7 0xC0E5) live = true ∧ still (.coreResetWrite 63 0xC0E4) live = true ∧
    chk (.barbRead 0 1 65535) (live.tabled true Tab.program 65535 77) (fun d => d.words barbWin 4 == 77 && d.ind == [(0xB00200, 0)]) = true ∧
    chk (.barbWrite 0 1 1) live (fun d => d.ind == [(0xB00200, 5)]) = true ∧ chk (.barbWrite 1 0 1023) (live.putWord barbWin 9) (fun d => d.ind == [(0xB00200, 0)] && d.cfg.shadow.record Tab.binding 1023 == 9) = true ∧
    chk (.barbRead 0 0 65536) live (fun d => d.ind == [(0xB00200, 3)]) = true ∧ chk (.barbRead 0 0 0) live (fun d => d.ind == [(0xB00200, 3)]) = true := by decide +kernel
theorem witness_DispatchResetAndDebug_debug :
    (debugged {}).coreAdmitted 63 = false ∧ chk (.debugHalt 63 7) (debugged (runs [])) (fun d => (d.thread 511).halted && d.ctr K.BARB_DBG_HALTS == 1) = true ∧
    chk (.debugHalt 63 7) (coreWith 7 (runs [])) (fun d => !(d.thread 511).halted && d.get F.BARB_EVENT_DBG_REFUSED == 1) = true ∧
    chk (.debugResume 63 7) (debugged { runs [] with halted := true }) (fun d => !(d.thread 511).halted) = true ∧
    chk (.debugStep 63 7) (debugged { runs [] with halted := true }) (fun d => (d.thread 511).issues) = true ∧
    still (.debugStep 63 7) (debugged { run := 2, halted := true }) = true ∧
    chk (.debugDataWrite 63 5) (debugged { runs [] with halted := true }) (fun d => (d.thread 511).reg 31 == 5) = true ∧
    chk (.debugDataWrite 63 5) ((debugged { runs [] with halted := true }).withF [(F.BARB_CORE_DBG_SEL_ITEM 63, 32)]) (fun d => (d.thread 511).pc == 5) = true ∧
    still (.debugDataWrite 63 5) (debugged (runs [])) = true ∧
    chk (.stallDetect 63) ((coreWith 0 { run := 2, wait := .event 16 none }).modBarb (fun b => { b with threads := [(504, { run := 2, wait := .event 16 none }), (505, { run := 2, wait := .event 8 none })] }))
      (fun d => (d.thread 504).run == 1 && d.ctr K.BARB_STALL_EVENTS == 1) = true := by decide +kernel

/-! ## The PCI Express side -/

/-- A module with one outstanding read of mover channel 5's request 3. -/
def reading (inst : Nat) (r : HRead) : Dev := (hosted inst).modHif (fun h => { h with reads := [r] }) |> fun d =>
  { d with movers := [(5, { reqs := [{ id := 3, kind := 0, desc := 0, off := 0, len := 4, host := true }] })] }
/-- That read. -/
def read9 : HRead := { tag := 9, link := 0, inst := 0, len := 4, use := .mover 5 3 0, sent := 0, guar := false }
/-- The error of that request. -/
def errOf (d : Dev) : List Nat := (mapGetD d.movers 5 {}).reqs.map (fun q => q.err)
theorem witness_HostReadsAreTracked :
    still (.hostReadCompletion 8 [1] true 0 false) (reading 0 read9) = true ∧ still (.completionTimeout 8) live = true ∧ still (.tagQuarantineEnd 9) (reading 0 read9) = true ∧
    chk (.hostReadCompletion 9 [1] true 0 false) (reading 0 { read9 with quarantined := true }) (fun d => d.ctr K.HIF_LATE_CPL == 1 && d.hif.reads.length == 1) = true ∧
    still (.completionTimeout 9) (reading 0 { read9 with quarantined := true }) = true ∧ chk (.tagQuarantineEnd 9) (reading 0 { read9 with quarantined := true }) (fun d => d.hif.reads == []) = true ∧
    chk (.hostReadCompletion 9 [1] true 0 false) (reading 0 { read9 with dead := true, killed := true }) (fun d => d.hif.reads == [] && d.ctr K.HIF_DISCARD_CPL == 1) = true ∧
    chk (.hostReadCompletion 9 [1, 2] false 0 true) (reading 0 read9) (fun d => (d.readOf 9).map (fun r => (r.got, r.bad)) == some ([1, 2], true) && d.ctr K.HIF_POISON_RX == 1 && !(errOf d).contains 0) = true ∧
    chk (.hostReadCompletion 9 [1, 2, 3, 4] true 0 false) ((reading 0 read9).modTime (fun t => { t with q := 2 * 65536 * unit16 }))
      (fun d => d.hif.reads == [] && d.get (F.HIF_LINK_STATUS_MAX_READ_NS 0) == 2 && errOf d == [0]) = true ∧
    chk (.hostReadCompletion 9 [] false 1 false) (reading 0 read9) (fun d => d.hif.reads == [] && !(errOf d).contains 0) = true ∧
    chk (.completionTimeout 9) (reading 0 read9) (fun d => d.ctr K.HIF_CPL_TIMEOUTS == 1 && (d.readOf 9).map (fun r => r.quarantined) == some true) = true ∧
    chk (.maxReadRead 1) (live.withF [(F.HIF_LINK_STATUS_MAX_READ_NS 1, 7)]) (fun d => d.get (F.HIF_LINK_STATUS_MAX_READ_NS 1) == 0) = true ∧ still (.maxReadRead 2) live = true := by decide +kernel
/-- A function in TABLE mode with a walk under way for page 7 and a cached translation of page 3. -/
def walking (re : List (Nat × Nat)) (got : List Dword := []) (failed : Nat := 0) : Dev := (hosted 4095).modHif (fun h => { h with
  selvedge := [(4095, 1 + 2 ^ 64 * 0x1000)]
  walks := [{ inst := 4095, page := 7, guar := false, start := 0, got := got, failed := failed }]
  rewalk := re
  xl := [⟨4095, 3, 0, 0x9000, true, false, false, 0⟩] })
theorem witness_SelvedgeTranslatesAndForgets_walks :
    walkTable 27 [0] = .fault 1 ∧ walkTable 0 [1] = .fault 4 ∧ walkTable 18 [0x4000000F] = .page 18 0x40000000 true true ∧ walkTable 27 [0x1001, 0, 7] = .fault 1 ∧
    chk (.xlateWalkDone 4095 7 [] 0) (walking [] [0x1001, 0x2001, 0x3001, 0x500B]) (fun d => d.hif.walks == [] && d.xlate 4095 (4096 * 7 + 5) false == .hit 0x5005 && d.xlate 4095 (4096 * 7) true == .fault 3) = true ∧
    still (.xlateWalkDone 4095 7 [] 0) (walking [] [0x1001]) = true ∧ chk (.xlateWalkDone 4095 7 [] 0) (walking [] [] 9) (fun d => d.hif.walks == [] && d.hif.xlFault == [(4095, 7, 9)]) = true ∧
    chk (.xlateWalkDone 4095 7 [] 0) (walking [(4095, 7)] [0]) (fun d => d.hif.rewalk == [] && d.hif.walks.length == 1) = true ∧ still (.xlateWalkDone 4095 8 [] 0) (walking []) = true ∧
    chk (.xlateInvalidate 4095 131071) ((walking []).withF [(F.HIF_XLATE_INV_ADDR_IOVA, 4096)]) (fun d => d.hif.xl == [] && d.get F.HIF_XLATE_INV_BUSY == 1) = true ∧
    chk (.xlateInvalidate 4095 2) ((walking []).withF [(F.HIF_XLATE_INV_ADDR_IOVA, 4096)]) (fun d => d.hif.xl.length == 1) = true ∧
    still (.xlateInvalidate 0 0) ((walking []).withF [(F.HIF_XLATE_INV_BUSY, 1)]) = true ∧
    chk .xlateInvDone (live.withF [(F.HIF_XLATE_INV_BUSY, 1)]) (fun d => d.get F.HIF_XLATE_INV_DONE == 1 && d.get F.HIF_XLATE_INV_BUSY == 0) = true ∧
    chk .xlateInvDone (((reading 0 read9).withF [(F.HIF_XLATE_INV_BUSY, 1)]).modHif (fun h => { h with invTags := [9] })) (fun d => d.get F.HIF_XLATE_INV_DONE == 0) = true := by decide +kernel
theorem witness_SelvedgeTranslatesAndForgets_contexts :
    (let d := (walking []).modHif (fun h => { h with selvedge := [(4095, 2)], fns := [(4095, { state := 1, atsEnable := true })] })
     chk (.atsInvalidateRequest 4095 3 1) d (fun e => e.hif.xl == [] && e.hif.atsInv == [(4095, [])]) = true ∧
     chk .xlateInvDone (d.modHif (fun h => { h with atsInv := [(4095, [])] })) (fun e => e.out == [.ats 1 4095 0] && e.hif.atsInv == []) = true) ∧
    still (.atsInvalidateRequest 4095 3 1) (walking []) = true ∧ chk (.selvedgeRead 0 4095) live (fun d => d.words 0x100240 16 == 1 && d.ind == [(0x100200, 0)]) = true ∧
    chk (.selvedgeWrite 0 4095) live (fun d => d.ind == [(0x100200, 3)]) = true ∧ chk (.selvedgeWrite 0 0) live (fun d => d.ind == [(0x100200, 0)] && d.selvedge 0 == 0) = true ∧
    chk (.selvedgeWrite 0 4095) (live.putWord 0x100240 2) (fun d => d.ind == [(0x100200, 0)] && d.selvedge 4095 == 2) = true ∧
    chk (.selvedgeRead 1 0) live (fun d => d.ind == [(0x100200, 3)]) = true ∧ chk (.selvedgeWrite 0 4096) live (fun d => d.ind == [(0x100200, 3)]) = true := by decide +kernel
/-- A module whose PF_1 and its VFs are there: `n` VFs, enabled or not, in a state. -/
def virtual (n st : Nat) (en : Bool) : Dev := live.modHif (fun h => { h with
  totalVfs := [4, 0, 0]
  numVfs := [n, 0, 0]
  vfEnable := [en, false, false]
  fns := (1, { state := 1 }) :: (List.range n).map (fun j => (live.vfTag 1 (j + 1), { state := st })) })
/-- PF_0 with Bus Master Enable, in a state, with one outstanding read. -/
def fn0 (f : Fn) (l : List HRead) : Dev := (hosted 0).modHif (fun h => { h with fns := [(0, f)], reads := l })
theorem witness_HostLinksAndTheHostsConfiguration_links :
    chk (.pcieLinkUp 0 6 16) live (fun d => d.get (F.HIF_LINK_STATUS_UP 0) == 1 && d.get (F.LOOM_BOOK_CAP_CAP 13) == 968000 && (d.fn 0).state == 1) = true ∧
    chk (.pcieLinkUp 1 1 8) (live.modHif (fun h => { h with split := true })) (fun d => d.get (F.HIF_LINK_STATUS_WIDTH 1) == 8 && d.get (F.LOOM_BOOK_CAP_CAP 14) == 14000) = true ∧
    chk (.pcieLinkDown 0) (hosted 0) (fun d => d.get (F.HIF_LINK_STATUS_UP 0) == 0 && d.get F.HIF_EVENT_LINK_CHANGE == 1) = true ∧ still (.pcieLinkDown 0) live = true ∧
    chk (.configRequest 0 0 0) (live.modSys (fun s => { s with configReady := false })) (fun d => d.out == [.retryStatus]) = true ∧ chk (.busMasterSet 5) live (fun d => d.out == [.unsupported 5]) = true ∧
    chk (.configRequest 0 0 0) (hosted 0) (fun d => d.out.length == 1) = true ∧ chk (.configRequest 0 1 4096) (hosted 0) (fun d => (d.fn 0).maxRead == 4096) = true ∧
    chk (.configRequest 0 2 1) (hosted 0) (fun d => (d.fn 0).atsEnable) = true ∧ chk (.configRequest 0 3 1) (hosted 0) (fun d => (d.hif.links.getD 0 {}).tagExt14) = true ∧
    chk (.configRequest 0 4 1) (hosted 0) (fun d => (d.hif.links.getD 0 {}).tagExt10) = true ∧ chk (.configRequest 1 5 4) (virtual 0 0 false) (fun d => d.hif.numVfs == [4, 0, 0]) = true := by decide +kernel
theorem witness_HostLinksAndTheHostsConfiguration_functions :
    chk (.busMasterClear 0) (fn0 { state := 1, bme := true } [read9]) (fun d => !(d.fn 0).bme && d.hif.reads.map (fun r => r.killed) == [true]) = true ∧
    chk (.busMasterSet 0) ((fn0 { state := 1 } []).modHif (fun h => { h with pending := [(0, [7])] })) (fun d => (d.fn 0).bme && d.out == [.msix 0 7]) = true ∧
    chk (.initiateFlr 0) (fn0 { state := 1 } [read9]) (fun d => (d.fn 0).state == 9 && (d.fn 0).flr && d.hif.reads.map (fun r => r.killed) == [true]) = true ∧
    chk (.flrQuarantine 0) (fn0 { state := 9, flr := true } [read9]) (fun d => d.hif.reads.map (fun r => r.quarantined) == [true]) = true ∧
    chk (.flrComplete 0) (fn0 { state := 9, flr := true } []) (fun d => d.fn 0 == { state := 1 }) = true ∧ still (.flrComplete 0) (fn0 { state := 9, flr := true } [read9]) = true ∧
    still (.flrQuarantine 0) (fn0 { state := 1 } [read9]) = true ∧
    chk (.vfEnableSet 1 4) (virtual 0 0 false) (fun d => d.hif.numVfs == [4, 0, 0] && d.hif.vfEnable == [true, false, false] && (d.fn (d.vfTag 1 4)).state == 1) = true ∧
    chk (.vfEnableClear 1 0) (virtual 1 1 true) (fun d => d.get F.HIF_EVENT_REMOVE_REFUSED == 1 && d.hif.numVfs == [1, 0, 0]) = true ∧
    chk (.vfEnableClear 1 0) (virtual 1 3 true) (fun d => (d.fn (d.vfTag 1 1)).state == 9 && (d.fn (d.vfTag 1 1)).teardown) = true ∧
    chk (.vfEnableClear 1 0) (virtual 1 0 true) (fun d => d.hif.numVfs == [0, 0, 0]) = true := by decide +kernel
theorem witness_ManagersStopAndStartFunctions :
    chk (.quiesce 0) (fn0 { state := 3 } []) (fun d => d.get F.HIF_FN_STATUS_RESULT == 1 && d.get F.HIF_EVENT_FN_DONE == 1) = true ∧
    chk (.freeze 0) (fn0 { state := 2 } []) (fun d => d.get F.HIF_FN_STATUS_RESULT == 1) = true ∧ chk (.fnReset 0) (fn0 { state := 1 } []) (fun d => d.get F.HIF_FN_STATUS_RESULT == 1) = true ∧
    chk (.fnResume 0) (fn0 { state := 1 } []) (fun d => d.get F.HIF_FN_STATUS_RESULT == 1) = true ∧
    chk (.quiesce 0) (fn0 { state := 1 } []) (fun d => (d.fn 0).state == 2 && d.hif.op == some (1, 0)) = true ∧ chk (.freeze 0) (fn0 { state := 1 } []) (fun d => (d.fn 0).state == 4 && d.hif.op == some (4, 0)) = true ∧
    chk (.fnResume 0) (fn0 { state := 7 } []) (fun d => (d.fn 0).state == 1) = true ∧ chk (.fnReset 0) (fn0 { state := 3 } [read9]) (fun d => (d.fn 0).state == 9 && !(d.fn 0).flr) = true ∧
    still (.quiesce 0) (live.withF [(F.HIF_FN_STATUS_BUSY, 1)]) = true ∧
    chk (.fnDrained 0) ((fn0 { state := 2 } []).modHif (fun h => { h with op := some (1, 0) })) (fun d => (d.fn 0).state == 3 && (d.fn 0).drained) = true ∧
    chk (.quiesceLimitExpire 0) ((fn0 { state := 2 } [read9]).modHif (fun h => { h with op := some (1, 0) })) (fun d => (d.fn 0).state == 3 && !(d.fn 0).drained) = true ∧
    chk (.freezeLimitExpire 0) ((fn0 { state := 4 } [read9]).modHif (fun h => { h with op := some (4, 0) })) (fun d => (d.fn 0).state == 5 && !(d.fn 0).drained) = true ∧
    chk (.fnResetDone 0) ((fn0 { state := 9 } []).modHif (fun h => { h with op := some (3, 0) })) (fun d => (d.fn 0).state == 1 && d.get F.HIF_FN_STATUS_RESULT == 0) = true ∧
    chk (.fnResetDone 0) ((fn0 { state := 9, teardown := true } []).modHif (fun h => { h with op := some (3, 0) })) (fun d => d.fn 0 == {}) = true ∧
    still (.fnDrained 0) (fn0 { state := 2 } [read9]) = true ∧ still (.quiesceLimitExpire 0) (fn0 { state := 4 } []) = true ∧ still (.freezeLimitExpire 0) (fn0 { state := 2 } []) = true ∧ still (.fnResetDone 0) (fn0 { state := 9 } [read9]) = true := by decide +kernel
/-- A module with a peer window of 1 MiB at address 1 MiB. -/
def peered : Dev := ((hosted 0).modHif (fun h => { h with peerBase := 2 ^ 20, peerSize := 2 ^ 20, peerRd := true, peerWr := true, peerAreaBase := 2 ^ 20, peerAreaSize := 2 ^ 22 })).ddrWrite (2 ^ 21 - 1) [9]
theorem witness_PeerWindowAndDirtyLogging :
    peered.peerOn = true ∧ chk (.peerWindowRead (2 ^ 20 - 2) 2 0 0 0) peered (fun d => d.out == [.peerData [0, 9] false]) = true ∧
    chk (.peerWindowRead (2 ^ 20 - 1) 2 0 0 0) peered (fun d => d.out == [.unsupported (2 ^ 20 - 1)] && d.ctr K.HIF_PEER_UR == 1) = true ∧
    chk (.peerWindowWrite (2 ^ 20 - 2) [7, 8] true) peered (fun d => memRead (ddrView [] d.dram.wq) (2 ^ 21 - 3) 3 == [0, 7, 8] && d.dram.poison == [(2 ^ 21 - 2) / 8]) = true ∧
    chk (.peerWindowWrite (2 ^ 20 - 1) [7, 8] false) peered (fun d => d.ctr K.HIF_PEER_UR == 1 && d.dram == peered.dram) = true ∧ chk (.peerWindowWrite 0 [7] false) live (fun d => d.ctr K.HIF_PEER_UR == 1) = true ∧
    chk .peerCommit (peered.withF [(F.HIF_PEER_CTRL_DRAINED, 0)]) (fun d => d.get F.HIF_PEER_CTRL_COMMIT_IGNORED == 1) = true ∧
    chk .peerCommit (peered.withF [(F.HIF_PEER_CTRL_DRAINED, 1), (F.HIF_PEER_CFG_SIZE_LOG2, 21), (F.HIF_PEER_BASE_BASE, 2 ^ 21)]) (fun d => d.hif.peerBase == 2 ^ 21 && d.hif.peerSize == 2 ^ 21 && d.get F.HIF_PEER_CTRL_GEN == 1) = true ∧
    chk .peerCommit (peered.withF [(F.HIF_PEER_CTRL_DRAINED, 1), (F.HIF_PEER_CFG_SIZE_LOG2, 19), (F.HIF_PEER_BASE_BASE, 2 ^ 21)]) (fun d => d.get F.HIF_PEER_CTRL_RANGE == 1 && d.hif.peerSize == 2 ^ 20) = true ∧
    chk .peerDrained live (fun d => d.get F.HIF_PEER_CTRL_DRAINED == 1) = true ∧
    chk (.dirtySwap 3) (((hosted 0).modHif (fun h => { h with dirty := [(3, { words := [(1, 6)] })], selvedge := [(0, 0)] })).withF [(F.HIF_DIRTY_BMP0_ADDR 3, 4096)])
      (fun d => d.get (F.HIF_DIRTY_CFG_ACTIVE_BMP 3) == 1 && d.out == [.hostWrite 0 0 4104 [6, 0, 0, 0, 0, 0, 0, 0] false false] && (mapGetD d.hif.dirty 3 {}).old == [(1, 6)]) = true ∧
    chk (.swapDone 3) (live.modHif (fun h => { h with dirty := [(3, { old := [(1, 6)], swapping := true })] })) (fun d => d.get (F.HIF_DIRTY_CFG_SWAP_DONE 3) == 1 && (mapGetD d.hif.dirty 3 {}).old == []) = true ∧
    still (.swapDone 3) live = true ∧ chk (.migKeyWrite 28 0x04030201) live (fun d => d.hif.migLoaded && d.hif.migKey.drop 28 == [1, 2, 3, 4]) = true := by decide +kernel
theorem witness_FunctionsMigrate :
    chk (.save 0) (fn0 { state := 4 } []) (fun d => d.get F.HIF_FN_STATUS_RESULT == 1) = true ∧ chk (.restore 0) (fn0 { state := 5 } []) (fun d => d.get F.HIF_FN_STATUS_RESULT == 1) = true ∧
    chk (.fnRelease 0) (fn0 { state := 5 } []) (fun d => d.get F.HIF_FN_STATUS_RESULT == 1) = true ∧ chk (.save 0) (fn0 { state := 5 } []) (fun d => d.get F.HIF_FN_STATUS_RESULT == 8) = true ∧
    chk (.save 0) ((fn0 { state := 5 } []).withF [(F.LOOM_COMMIT_STATUS_STATE, 1)]) (fun d => d.get F.HIF_FN_STATUS_RESULT == 2) = true ∧
    chk (.restore 0) (fn0 { state := 3 } []) (fun d => d.get F.HIF_FN_STATUS_RESULT == 8) = true ∧ chk (.restore 0) ((fn0 { state := 3 } []).withF [(F.HED_SHADOW_STATUS_CHANGED, 1)]) (fun d => d.get F.HIF_FN_STATUS_RESULT == 2) = true ∧
    chk (.restore 0) ((fn0 { state := 3, bme := true } []).modHif (fun h => { h with migLoaded := true })) (fun d => (d.fn 0).state == 8 && d.hif.op == some (6, 0)) = true ∧
    chk (.fnRelease 0) (fn0 { state := 7 } []) (fun d => (d.fn 0).state == 3 && d.get F.HIF_FN_STATUS_RESULT == 0) = true ∧
    chk (.saveDone 0) ((fn0 { state := 6 } []).modHif (fun h => { h with op := some (5, 0), blob := [1, 2] })) (fun d => (d.fn 0).state == 7 && d.get F.HIF_FN_LEN_LEN == 2) = true ∧
    chk (.saveDone 0) ((fn0 { state := 6 } []).modHif (fun h => { h with op := some (5, 0), faulted := [.blob 0] })) (fun d => (d.fn 0).state == 5 && d.get F.HIF_FN_STATUS_RESULT == 7) = true ∧
    still (.saveDone 0) live = true ∧ still (.restoreDone 0) live = true ∧
    chk (.restoreDone 0) ((fn0 { state := 8 } []).modHif (fun h => { h with op := some (6, 0), blob := [] })) (fun d => (d.fn 0).state == 3 && d.get F.HIF_FN_STATUS_RESULT != 0) = true ∧
    still (.restoreDone 0) (((fn0 { state := 8 } []).modHif (fun h => { h with op := some (6, 0), restore := some {} })).withF [(F.LOOM_COMMIT_STATUS_STATE, 1)]) = true ∧
    chk (.restoreDone 0) (((fn0 { state := 8 } []).modHif (fun h => { h with op := some (6, 0), restore := some { selvedge := 2 } })).withF [(F.LOOM_COMMIT_STATUS_STATE, 2)])
      (fun d => (d.fn 0).state == 5 && d.selvedge 0 == 2) = true ∧
    chk (.restoreDone 0) (((fn0 { state := 8 } []).modHif (fun h => { h with op := some (6, 0), restore := some {} })).withF [(F.LOOM_COMMIT_STATUS_STATE, 3)])
      (fun d => (d.fn 0).state == 3 && d.get F.HIF_FN_STATUS_RESULT == 3) = true := by decide +kernel

/-! ## Rings, mailboxes and the bulk mover -/

/-- The context of a ring of PF_0's page 1. -/
def ringCtx (kind : Nat) (l : List (Bits × Nat)) : Nat :=
  (recWith ([(RC.KIND, kind), (RC.VALID, 1), (RC.SIZE_LOG2, 6), (RC.LOCAL, 1), (RC.CPL_RING, 16383), (RC.BASE, 2 ^ 20), (RC.PREFETCH, 4)] ++ l)).toNat
/-- PF_0 without translation, ring 9 with a context and a state, and completion ring 16383. -/
def ringed (kind : Nat) (l : List (Bits × Nat)) (x : RingSt) : Dev :=
  { ((((hosted 0).tabled true Tab.ring 9 (ringCtx kind l)).tabled true Tab.ring 16383 (ringCtx 2 [(RC.LOCAL, 2)])).modHif (fun h => { h with selvedge := [(0, 0)] })).withSh [(F.LOOM_HOST_CEIL_HOST_MTU 0, 1518)]
    with rings := [(9, x), (16383, { state := 1 })] }
/-- An active ring. -/
def ring1 : RingSt := { state := 1 }
/-- A transmit descriptor of 60 bytes at address 4096, owned by the module. -/
def txDesc (own : Byte) : List Byte := leBytes 8 4096 ++ [60, 0] ++ List.replicate 21 0 ++ [own]
theorem witness_RingsTakeDoorbellsAndPushes_doorbells :
    chk (.doorbellProducer 0 7 0 0 ⟨true, 0⟩ false) (ringed 0 [] ring1) (fun d => d.ctr K.RING_BAD_DOORBELL == 1) = true ∧ chk (.doorbellConsumer 0 2 0 0 true true true) (ringed 0 [] ring1) (fun d => d.ctr K.HIF_POISON_RX == 1) = true ∧
    chk (.doorbellProducer 0 1 0 1 ⟨true, 0⟩ false) (ringed 0 [] ring1) (fun d => (d.ring 9).producer == 64 && (d.ring 9).doorbells.length == 1) = true ∧
    chk (.doorbellProducer 0 1 1 1 ⟨true, 0⟩ false) (ringed 0 [] ring1) (fun d => d.ctr K.RING_BAD_DOORBELL == 1) = true ∧ still (.doorbellProducer 0 1 0 0 ⟨true, 0⟩ false) (ringed 0 [] ring1) = true ∧
    chk (.doorbellProducer 0 1 64 0 ⟨true, 0⟩ false) (ringed 0 [] ring1) (fun d => d.ctr K.RING_BAD_DOORBELL == 1) = true ∧ chk (.doorbellProducer 0 1 1 0 ⟨false, 0⟩ false) (ringed 1 [] ring1) (fun d => d.ctr K.RING_BAD_DOORBELL == 1) = true ∧
    chk (.doorbellConsumer 0 1 2 0 true true false) (ringed 2 [(RC.MOD_CNT, 1), (RC.VECTOR, 5)] { state := 1, reserved := 3, unread := [0, 1, 2] }) (fun d => (d.ring 9).consumer == 2 && (d.ring 9).unread == [2] && !(d.ring 9).armed && d.out == [.msix 0 5]) = true ∧
    chk (.doorbellConsumer 0 1 3 0 true true false) (ringed 2 [(RC.MOD_CNT, 1)] { state := 1, reserved := 3, unread := [2] }) (fun d => (d.ring 9).armed && (d.ring 9).unread == []) = true ∧
    chk (.doorbellConsumer 0 1 4 0 false true false) (ringed 2 [] { state := 1, reserved := 3 }) (fun d => (d.ring 9).consumer == 0 && d.ctr K.RING_BAD_DOORBELL == 1) = true ∧
    chk (.ringInvalidate 0 1 65535 true false) (ringed 0 [(RC.MODE, 1)] { ring1 with take := 3, fetch := 5 }) (fun d => (d.ring 9).token == 65535 && (d.ring 9).fetch == 3) = true ∧
    chk (.ringInvalidate 0 1 7 true false) (ringed 0 [(RC.MIRROR, 8192)] ring1) (fun d => d.out == [.hostWrite 0 0 8192 [0, 0, 0, 0, 7, 0, 1, 0] false false]) = true ∧
    chk (.ringResetDoorbell 0 1 7 true false) (ringed 0 [] { ring1 with producer := 3 }) (fun d => (d.ring 9).state == 3 && (d.ring 9).token == 7) = true ∧
    chk (.ringResetDoorbell 0 1 7 true false) (ringed 0 [] { state := 3 }) (fun d => d.ring 9 == { state := 3, token := 7 }) = true ∧
    chk (.ringInvalidate 0 1 7 false false) (ringed 0 [] ring1) (fun d => d.ctr K.RING_BAD_DOORBELL == 1) = true ∧ chk (.ringResetDoorbell 0 1 7 true false) (ringed 2 [] ring1) (fun d => d.ctr K.RING_BAD_DOORBELL == 1) = true ∧
    chk (.interruptModTimer 9) (ringed 2 [(RC.MOD_US, 1), (RC.VECTOR, 2047)] { state := 1, armed := true, unread := [0] }) (fun d => d.out == [.msix 0 2047] && !(d.ring 9).armed) = true ∧
    still (.interruptModTimer 9) (ringed 2 [] { state := 1, armed := true, unread := [0] }) = true := by decide +kernel
/-- A push of 14 bytes with index `n`. -/
def push (n : Byte) : List Byte := leBytes 8 0 ++ [14, 0] ++ List.replicate 22 0 ++ [n, 0, 14, 0] ++ List.replicate 28 0 ++ List.replicate 14 7
theorem witness_RingsTakeDoorbellsAndPushes_pushes :
    chk (.inlinePush 0 1 0x800 (push 0) ⟨true, 0⟩ false) (ringed 0 [] ring1) (fun d => d.ctr K.RING_BAD_DOORBELL == 1) = true ∧
    chk (.inlinePush 0 1 0xE00 (push 0) ⟨true, 0⟩ false) (ringed 0 [(RC.FEED, 1), (RC.PUSH_DEPTH, 1)] ring1) (fun d => (d.ring 9).producer == 1 && (d.ring 9).pushes.length == 1) = true ∧
    chk (.inlinePush 0 1 0xE00 (push 1) ⟨true, 0⟩ false) (ringed 0 [(RC.FEED, 1), (RC.PUSH_DEPTH, 1)] ring1) (fun d => (d.ring 9).state == 2 && (d.ring 9).cause == 4) = true ∧
    chk (.inlinePush 0 1 0xE00 (push 0 ++ [1]) ⟨true, 0⟩ false) { ringed 0 [(RC.FEED, 1), (RC.PUSH_DEPTH, 1)] ring1 with rings := [(9, ring1), (16383, { state := 1, reserved := 64 })] }
      (fun d => (d.ring 9).state == 2 && (d.ring 9).cause == 5 && d.ctr K.RING_PUSH_LOST == 1) = true ∧
    chk (.inlinePush 0 1 0xE00 (push 0) ⟨true, 0⟩ false) (ringed 0 [(RC.FEED, 1)] { state := 2 }) (fun d => d.ring 9 == { state := 2, producer := 1 }) = true ∧ chk (.inlinePush 0 3 0xE00 (push 0) ⟨true, 0⟩ false) (ringed 0 [] ring1) (fun d => d.ctr K.RING_BAD_DOORBELL == 1) = true ∧
    chk (.ringRead 0 1 9) (ringed 0 [] ring1) (fun d => d.ind == [(0xC00100, 0)] && recGet (d.winRec 0xC00200 64) RC.SIZE_LOG2 == 6) = true ∧ chk (.ringWrite 0 1 9) live (fun d => d.ind == [(0xC00100, 5)]) = true ∧
    chk (.ringWrite 0 0 16383) (live.putWord 0xC00200 3) (fun d => d.ind == [(0xC00100, 3)]) = true ∧ chk (.ringWrite 0 0 16383) (live.putWord 0xC00200 6) (fun d => d.cfg.shadow.record Tab.ring 16383 == 6 && d.ind == [(0xC00100, 0)]) = true ∧
    chk (.ringReset 0 8) live (fun d => d.ind == [(0xC00100, 1)]) = true ∧ chk (.ringReset 0 9) (ringed 0 [] { ring1 with token := 4 }) (fun d => d.ring 9 == { state := 3, token := 4 } && d.ind == [(0xC00100, 0)]) = true ∧
    chk (.ringReset 1 9) live (fun d => d.ind == [(0xC00100, 3)]) = true ∧ chk (.ringRead 0 0 16384) live (fun d => d.ind == [(0xC00100, 3)]) = true ∧
    chk (.ringResetDone 9) (ringed 0 [] { state := 3, token := 4, fetch := 3 }) (fun d => (d.ring 9).state == 1 && (d.ring 9).token == 4 && (d.ring 9).fetch == 0) = true ∧ still (.ringResetDone 9) (ringed 0 [] ring1) = true := by
  decide +kernel
/-- The read of ring 9's descriptor 0. -/
def descRead : HRead := { tag := 9, link := 0, inst := 0, len := 32, use := .desc 9 0 1, sent := 0, guar := false }
/-- Shuttle 0 for host link 0 with a receive buffer of ring 9. -/
def toWrite (len : Nat) : Shut := { ((({} : Shut).set S.DEST_PORT 9).set S.DEST_VALID 1).set S.CLASS 3 with
  frame := List.replicate len 5
  stage := .toHost
  ended := true
  rxRing := some 9
  rxCplPos := some 0
  rxAddr := 4096
  rxLen := 2048 }
theorem witness_FramesPassBetweenRingsAndHost :
    still (.descriptorFetch 9) live = true ∧ chk (.descriptorFetch 9) (ringed 0 [] { ring1 with producer := 1 }) (fun d => d.out == [.hostRead 0 0 (2 ^ 20) 32 0] && d.hif.reads.map (fun r => r.use) == [.desc 9 0 1]) = true ∧
    chk (.hostReadCompletion 9 (txDesc 128) true 0 false) ((ringed 0 [] ring1).modHif (fun h => { h with reads := [descRead] })) (fun d => d.hif.reads == [] && (d.ring 9).fetch == 1 && (d.ring 9).cached.map (fun c => c.bytes) == [txDesc 128]) = true ∧
    chk (.hostReadCompletion 9 (txDesc 0) true 0 false) ((ringed 0 [(RC.MODE, 1)] ring1).modHif (fun h => { h with reads := [descRead] })) (fun d => (d.ring 9).stopped && (d.ring 9).state == 1) = true ∧
    chk (.hostReadCompletion 9 (txDesc 0) true 0 false) ((ringed 0 [] ring1).modHif (fun h => { h with reads := [descRead] })) (fun d => (d.ring 9).state == 2 && (d.ring 9).cause == 1 && d.ctr K.RING_RING_ERRORS == 1) = true ∧
    still (.txFrameTake 9) (ringed 0 [] ring1) = true ∧
    chk (.txFrameTake 9) { ringed 0 [] ring1 with rings := [(9, { ring1 with cached := [⟨0, txDesc 128, 0, 0⟩], fetch := 1, producer := 1 }), (16383, { state := 1, reserved := 64 })] } (fun d => (d.ring 9).stalled && d.ctr K.RING_CPL_STALL == 1) = true ∧
    chk (.txFrameTake 9) (ringed 0 [] { ring1 with cached := [⟨0, txDesc 129, 0, 0⟩], fetch := 1, producer := 1 }) (fun d => (d.ring 9).take == 1 && d.shuts == [] && d.ctr K.RING_MALFORMED_DESC == 1) = true ∧
    chk (.txFrameTake 9) (ringed 0 [] { ring1 with cached := [⟨0, txDesc 128, 0, 0⟩], fetch := 1, producer := 1 }) (fun d => d.ctr K.RING_TX_TAKEN == 1
      && (d.shut 0).map (fun (x : Shut) => (x.ring, x.total, x.envelope, x.stage)) == some (some 9, 60, none, .fetch)) = true ∧
    chk (.txFrameTake 9) ((ringed 0 [] { ring1 with cached := [⟨0, txDesc 128, 0, 0⟩], fetch := 1, producer := 1 }).withSh [(F.LOOM_HOST_CEIL_HOST_MTU 0, 63)]) (fun d => d.ctr K.RING_TX_OVER_MTU == 1 && d.shuts == []) = true ∧
    still (.hostTlpRelease ⟨0, true, .none⟩) live = true ∧ chk (.hostTlpRelease ⟨0, true, .none⟩) { live with shuts := [(0, toWrite 60)] } (fun d => d.ctr K.HIF_FN_DROP == 1) = true ∧
    chk (.hostTlpRelease ⟨0, true, .none⟩) { (ringed 1 [] ring1).modHif (fun h => { h with selvedge := [(0, 1 + 2 ^ 64 * 4096)] }) with shuts := [(0, toWrite 60)] } (fun d => d.shuts.length == 1 && d.hif.walks.map (fun w => (w.inst, w.page)) == [(0, 1)]) = true ∧
    chk (.hostTlpRelease ⟨0, true, .none⟩) { ringed 1 [] ring1 with shuts := [(0, toWrite 60)] } (fun d => d.shuts == [] && d.ctr K.RING_RX_WRITTEN == 1 && d.out.any (fun o => match o with
      | .hostWrite _ _ a b _ _ => a == 4096 && b == List.replicate 60 5
      | _ => false)) = true := by decide +kernel
/-- PF_0 active, its mailbox pair in a state, selected by the manager. -/
def mailed (p : MboxPair) : Dev := (hosted 0).modMbox (fun m => { m with user := [(0, p)] })
/-- A data-class direction bound from endpoint 0 to endpoint 8. -/
def bound (x : MboxDir) : Dev := (live.withF [(F.MBOX_DATA_BIND_VALID 255, 1), (F.MBOX_DATA_BIND_RECEIVER 255, 8)]).modMbox (fun m => { m with data := [(255, x)] })
theorem witness_MailboxesCarryMessages :
    chk (.mailboxWrite 0 0 15 7) (mailed {}) (fun d => (d.pair 0).up.full && mapGet (d.pair 0).up.words 15 == some 7 && d.ctr K.MBOX_USER_SENT == 1 && d.get F.MBOX_EVENT_UP_FULL == 1) = true ∧
    chk (.mailboxWrite 0 0 0 7) (mailed { up := { full := true } }) (fun d => (d.pair 0).up.colS && (d.pair 0).up.colR && d.ctr K.MBOX_COLLISIONS == 1) = true ∧
    chk (.mailboxWrite 0 0 33 0xFFFFFFFF) (mailed {}) (fun d => (d.pair 0).ctrl == 0x307FF) = true ∧
    chk (.mailboxWrite 1 0 15 7) (mailed { ctrl := 0x10005 }) (fun d => (d.pair 0).down.full && d.out == [.msix 0 5]) = true ∧ chk (.mailboxWrite 1 0 15 7) live (fun d => (d.pair 0).down.aborted && d.ctr K.MBOX_ABORTS == 1) = true ∧
    chk (.mailboxWrite 2 255 15 7) (bound {}) (fun d => (d.dataDir 255).full && d.ctr K.MBOX_DATA_SENT == 1) = true ∧
    chk (.mailboxWrite 2 255 15 7) ((bound {}).modFlt (fun f => { f with outUnits := [(2, 1)] })) (fun d => d.get (F.MBOX_DATA_BIND_NO_PEER 255) == 1 && d.ctr K.MBOX_POWER_ERRORS == 1) = true ∧
    still (.mailboxWrite 2 254 0 7) (bound {}) = true ∧
    chk (.mailboxReadLast 0 0) (mailed { down := { full := true, words := [(15, 9)] } }) (fun d => !(d.pair 0).down.full && d.out == [.readData 9] && d.get F.MBOX_EVENT_DOWN_EMPTY == 1) = true ∧
    chk (.mailboxReadLast 1 0) (mailed { up := { full := true }, ctrl := 0x20006 }) (fun d => !(d.pair 0).up.full && d.out == [.readData 0, .msix 0 6]) = true ∧
    chk (.mailboxReadLast 2 255) (bound { full := true }) (fun d => !(d.dataDir 255).full && d.out == [.readData 0]) = true ∧
    still (.mailboxWrite 0 0 0 0) (live.modSys (fun s => { s with configReady := false, inReset := true })) = true := by decide +kernel
/-- A mover descriptor within DDR5: from 0 to 4096. -/
def movDesc (len ctl : Nat) : List Byte := leBytes 8 0 ++ leBytes 8 4096 ++ leBytes 4 len ++ leBytes 2 ctl ++ List.replicate 10 0
/-- Channel 31 of the manager in a state, with a mover state. -/
def moving (st : Nat) (m : Mov) : Dev := { live.withF [(F.MOVE_CH_STATUS_STATE 31, st)] with movers := [(31, m)] }
/-- The same channel with a descriptor in its registers. -/
def started (st len ctl : Nat) : Dev := (moving st {}).putWords (0xE01040 + 0x80 * 31) 8 (leNat (movDesc len ctl))
theorem witness_MoverChannelsRun :
    still (.moverStart 32 0) live = true ∧ still (.moverStart 31 1) live = true ∧ chk (.moverStart 31 0) (started 1 64 0) (fun d => d.get F.MOVE_EVENT_WRITE_IGNORED == 1) = true ∧
    chk (.moverStart 31 0) (started 0 64 0) (fun d => d.movState 31 == 1 && (d.mov 31).descs.map (fun x => x.bytes) == [movDesc 64 0]) = true ∧
    chk (.moverStart 31 0) (started 5 0 0) (fun d => d.movState 31 == 5 && d.get (F.MOVE_CH_STATUS_CAUSE 31) == 5) = true ∧
    chk (.moverStart 31 0) ((started 3 64 0).withF [(F.MOVE_CH_CFG_MODE 31, 1), (F.MOVE_CH_CHAIN_HEAD 31, 95)]) (fun d => d.movState 31 == 1 && (d.mov 31).reqs.map (fun q => (q.kind, q.desc)) == [(2, 64)]) = true ∧
    chk (.moverAbort 31 0) (moving 1 { descs := [{ id := 0, bytes := movDesc 64 0 }] }) (fun d => d.movState 31 == 0 && (d.mov 31).descs == []) = true ∧
    chk (.moverAbort 31 0) (moving 1 { reqs := [{ id := 0, kind := 0, desc := 0, off := 0, len := 4 }] }) (fun d => d.movState 31 == 2 && (d.mov 31).aborting) = true ∧ chk (.moverAbort 31 0) (moving 3 {}) (fun d => d.movState 31 == 3) = true ∧
    chk (.chainKick 31 0) (moving 4 { tail := 96 }) (fun d => d.ctr K.MOVE_KICKS == 1 && (d.mov 31).reqs.map (fun q => (q.kind, q.desc)) == [(3, 96)]) = true ∧
    chk (.chainKick 31 0) ((moving 1 {}).withF [(F.MOVE_CH_CFG_MODE 31, 1)]) (fun d => d.get (F.MOVE_CH_STATUS_KICK_PENDING 31) == 1) = true ∧ chk (.chainKick 31 0) (moving 3 {}) (fun d => d.ctr K.MOVE_KICK_IDLE == 1) = true ∧
    still (.moverBurst 31) (moving 0 {}) = true ∧
    chk (.moverBurst 31) (((moving 1 { descs := [{ id := 4, bytes := movDesc 8 0 }] }).ddrWrite 0 [1, 2, 3, 4, 5, 6, 7, 8])) (fun d => d.movState 31 == 2 && (d.mov 31).reqs.map (fun q => (q.kind, q.desc, q.data)) == [(0, 4, [1, 2, 3, 4, 5, 6, 7, 8])]) = true ∧
    still (.moverResponse 31 0 0 0) (moving 1 {}) = true ∧
    chk (.moverResponse 31 0 0 0) (moving 2 { descs := [{ id := 4, bytes := movDesc 8 0, issued := 8 }], reqs := [{ id := 0, kind := 0, desc := 4, off := 0, len := 8, data := [1, 2, 3, 4, 5, 6, 7, 8] }] })
      (fun d => memRead (ddrView [] d.dram.wq) 4095 9 == [0, 1, 2, 3, 4, 5, 6, 7, 8] && (d.mov 31).reqs.map (fun q => q.kind) == [1]) = true ∧
    chk (.moverResponse 31 0 0 0) (moving 2 { descs := [{ id := 4, bytes := movDesc 8 0, issued := 8 }], reqs := [{ id := 0, kind := 1, desc := 4, off := 0, len := 8 }] })
      (fun d => d.movState 31 == 3 && d.get (F.MOVE_CH_DONE_DONE_BYTES 31) == 8 && d.ctr K.MOVE_DESCRIPTORS == 1) = true := by decide +kernel

/-- A running module whose active side is A and whose standby is B. -/
def sided : Dev := live.withF [(F.FLT_HEALTH_ACTIVE, 0), (F.FLT_HEALTH_STANDBY, 1), (F.FLT_HEALTH_SINGLE, 0), (F.FLT_SIDE_STATE 0, 1), (F.FLT_SIDE_STATE 1, 2)]
/-- A running module that has one side only. -/
def alone : Dev := live.withF [(F.FLT_HEALTH_ACTIVE, 0), (F.FLT_HEALTH_STANDBY, 3), (F.FLT_SIDE_STATE 0, 1)]
/-- A gap of the decision plane. -/
def gapped (d : Dev) (g r : Nat) : Dev := d.modFlt (fun f => { f with gap := g, retries := r })
theorem witness_DecisionSidesAndTheGate :
    still (.lockstepMismatch true false) alone = true ∧
    chk (.lockstepMismatch true false) sided (fun d => d.activeSide == 1 && d.single && d.side 1 == 1 && d.flt.gap == 1 && d.side 0 == 3 && d.ctr K.FLT_TAKEOVERS == 1) = true ∧
    chk (.lockstepMismatch true false) (sided.modFlt (fun f => { f with lastNamed := [(0, 0)] })) (fun d => d.side 0 == 4 && d.boot.store.retiredSides == [0]) = true ∧
    chk (.lockstepMismatch false true) sided (fun d => d.activeSide == 0 && d.single && d.flt.gap == 2 && d.side 1 == 3) = true ∧
    chk (.lockstepMismatch true true) sided (fun d => d.flt.gap == 3 && d.flt.retries == 1) = true ∧
    chk (.lockstepMismatch true true) (gapped sided 3 2) (fun d => d.flt.gap == 3 && d.flt.retries == 3) = true ∧
    chkC (.lockstepMismatch true true) (gapped sided 3 3) (fun d => d.get F.GEN_RESET_CAUSE_FAULT == 1) = true ∧
    chk (.inject 0xFA17 0) (sided.withF [(F.BARB_DBG_STATUS_DEBUG_EN, 1)]) (fun d => d.activeSide == 1 && d.flt.gap == 1) = true ∧
    chk (.inject 0xFA17 1) (sided.withF [(F.BARB_DBG_STATUS_DEBUG_EN, 1)]) (fun d => d.activeSide == 0 && d.flt.gap == 2) = true ∧ still (.inject 0xFA17 1) (sided.withF [(F.BARB_DBG_STATUS_DEBUG_EN, 0)]) = true ∧
    chk (.switch 0xFA17) sided (fun d => d.activeSide == 1 && d.standbySide == 0 && d.ctr K.FLT_PLANNED_SWITCHES == 1) = true ∧
    chk (.switch 0xFA17) (gapped sided 2 0) (fun d => d.activeSide == 0 && d.ctr K.FLT_SWITCH_REFUSED == 1) = true ∧ chk (.switch 0xFA17) alone (fun d => d.ctr K.FLT_SWITCH_REFUSED == 1) = true ∧
    still (.switch 0xFA16) sided = true ∧ still .singleCheckFlag sided = true ∧ chk .singleCheckFlag alone (fun d => d.flt.gap == 3 && d.ctr K.FLT_SINGLE_RETRIES == 1) = true ∧
    chkC .singleCheckFlag (gapped alone 3 1) (fun d => d.get F.GEN_RESET_CAUSE_FAULT == 1) = true ∧ chkC .gateClaimConflict sided (fun d => d.get F.GEN_RESET_CAUSE_FAULT == 1) = true ∧
    chk .gapEnd (gapped sided 3 2) (fun d => d == sided) = true ∧
    chk (.resyncDone 2) (alone.withF [(F.FLT_SIDE_STATE 2, 3)]) (fun d => d.side 2 == 2 && d.standbySide == 2 && !d.single) = true ∧ still (.resyncDone 2) sided = true ∧
    chk (.sidePowerOn 2) ((alone.withF [(F.FLT_SIDE_STATE 2, 0)]).modFlt (fun f => { f with bringIn := some 2 })) (fun d => d.side 2 == 5) = true ∧ still (.sidePowerOn 2) (sided.withF [(F.FLT_SIDE_STATE 2, 0)]) = true ∧
    chk (.sideSelfTestDone 2 true) (sided.withF [(F.FLT_SIDE_STATE 2, 5)]) (fun d => d.side 2 == 3) = true ∧
    chk (.sideSelfTestDone 2 false) (sided.withF [(F.FLT_SIDE_STATE 2, 5)]) (fun d => d.side 2 == 4 && d.boot.store.retiredSides == [2] && d.ctr K.FLT_SELF_TEST_FAILS == 1) = true ∧ still (.sideSelfTestDone 2 false) sided = true ∧
    chk (.selfTestPeriod true) sided (fun d => d.ctr K.FLT_SELFTEST_LATE == 1) = true ∧ still (.selfTestPeriod false) sided = true ∧
    chk (.fltPendClear 6) ((sided.putWord 0x1000020 7)) (fun d => d.word 0x1000020 == 1) = true := by decide +kernel
/-- A running module with an event limit for a kind of unit. -/
def counted (k n : Nat) (l : List (Fld × Nat)) : Dev := sided.withF ((F.FLT_POLICY_COUNT k, n) :: (F.FLT_POLICY_WINDOW_S k, 1) :: l)
theorem witness_UnitsSparesWearAndDdr5 :
    chk (.unitTransient 3 15 0 false false) (counted 3 2 []) (fun d => mapGet d.flt.unitTimes (unitKey 3 15 0) == some [0]) = true ∧
    chk (.unitTransient 3 15 0 false false) (counted 3 1 [(F.FLT_HEALTH_CIPHER_SPARES, 2)]) (fun d => d.get (F.CIPH_LANE_CFG_PHYS 15) == 16 && d.get F.FLT_HEALTH_CIPHER_SPARES == 1) = true ∧
    chk (.unitTransient 3 15 0 false false) (counted 3 1 [(F.FLT_HEALTH_CIPHER_SPARES, 0)]) (fun d => d.flt.outUnits == [(3, 15)] && d.get (F.CIPH_LANE_CFG_OUT 15) == 1) = true ∧
    chk (.unitTransient 4 31 0 false false) (counted 4 2 [(F.STOR_CRC_STATUS_STATE 31, 1)]) (fun d => d.get (F.STOR_CRC_STATUS_STATE 31) == 2 && d.get (F.STOR_CRC_STATUS_ERROR 31) == 1) = true ∧
    chk (.unitTransient 4 31 0 false false) (counted 4 1 [(F.FLT_HEALTH_CRC_SPARES, 1)]) (fun d => mapGet d.flt.crcPhys 31 == some 33 && d.get F.FLT_HEALTH_CRC_SPARES == 0) = true ∧
    chk (.unitTransient 5 9 3 false false) (counted 5 2 []) (fun d => mapGet d.flt.unitTimes (unitKey 5 9 3) == some [0]) = true ∧
    chk (.unitTransient 5 9 3 true true) (counted 5 2 []) (fun d => d.boot.store.retiredUnits == [(21, 9)] && d.ctr K.FLT_SPARES_USED == 1) = true ∧
    chk (.unitTransient 5 9 3 true false) (counted 5 2 [(F.FLT_HEALTH_BANK_SPARES, 2)]) (fun d => d.flt.bankCopy == [(9, 0)] && d.get F.FLT_HEALTH_BANK_SPARES == 1) = true ∧
    chk (.unitTransient 6 9 3 false false) (counted 6 1 []) (fun d => d.get ⟨0x1000020, Code.sramRepair, 1⟩ == 1) = true ∧
    chk (.unitTransient 2 63 0 false false) (counted 2 2 []) (fun d => d.ctr K.BARB_CORE_RESETS == 1 && (d.thread 504).run == 1) = true ∧
    chk (.unitTransient 2 63 0 false false) (counted 2 1 [(F.FLT_HEALTH_CORE_SPARES, 4)]) (fun d => d.get (F.BARB_CORE_CFG_PHYS 63) == 64 && d.get F.FLT_HEALTH_CORE_SPARES == 3) = true ∧
    chk (.wearCoreMove 63) ((counted 2 1 [(F.FLT_HEALTH_CORE_SPARES, 4)]).modFlt (fun f => { f with wearMoves := [(2, 63)] })) (fun d => d.get (F.BARB_CORE_CFG_PHYS 63) == 64 && d.flt.wearMoves == []) = true ∧
    still (.wearCoreMove 63) sided = true ∧ still (.unitTransient 1 0 0 false false) sided = true ∧ still (.unitTransient 7 0 0 true true) sided = true ∧
    chk (.spareBankCopyDone 9) (sided.modFlt (fun f => { f with bankCopy := [(9, 0), (8, 1)] })) (fun d => d.flt.bankCopy == [(8, 1)]) = true ∧
    chk (.selfTestVector 1 7 5 true) (sided.modFlt (fun f => { f with suspect := [(1, 7, 5)] })) (fun d => d.flt.suspect == []) = true ∧ chk (.selfTestVector 0 7 5 false) sided (fun d => d.flt.suspect == [(0, 7, 5)]) = true ∧
    chk (.selfTestVector 1 7 5 false) (sided.modFlt (fun f => { f with suspect := [(1, 7, 5)] })) (fun d => d.side 1 == 4 && d.standbySide == 3) = true ∧ still (.selfTestVector 2 7 5 false) (sided.withF [(F.FLT_SIDE_STATE 2, 4)]) = true ∧
    still (.wearRead 2 8 19) (sided.withF [(F.FLT_WEAR_LIMIT, 20)]) = true ∧
    chk (.wearRead 2 8 20) (sided.withF [(F.FLT_WEAR_LIMIT, 20), (F.FLT_HEALTH_CORE_SPARES, 0)]) (fun d => d.get F.FLT_HEALTH_WEAR == 1) = true ∧
    chk (.wearRead 2 8 20) (sided.withF [(F.FLT_WEAR_LIMIT, 20), (F.FLT_HEALTH_CORE_SPARES, 4)]) (fun d => d.flt.wearMoves == [(2, 8)]) = true ∧
    still (.wearRead 2 8 20) ((sided.withF [(F.FLT_WEAR_LIMIT, 20), (F.FLT_HEALTH_CORE_SPARES, 4)]).modFlt (fun f => { f with wearMoves := [(2, 9)] })) = true ∧
    chk (.wearRead 3 15 20) (sided.withF [(F.FLT_WEAR_LIMIT, 20), (F.FLT_HEALTH_CIPHER_SPARES, 2)]) (fun d => d.get (F.CIPH_LANE_CFG_PHYS 15) == 16) = true ∧
    chk (.scrubRead 0 5 0 true true) (sided.withF [(F.DRAM_STATUS_READY, 15)]) (fun d => d.ctr K.DRAM_SCRUB_PASSES == 1 && d.get F.DRAM_EVENT_SCRUB_LATE == 0) = true ∧
    chk (.scrubRead 0 5 0 false true) ((sided.withF [(F.DRAM_STATUS_READY, 15), (F.DRAM_SCRUB_SCRUB_H, 1)]).modTime (fun t => { t with cycles := 3600 * secondCycles + 1 })) (fun d => d.ctr K.DRAM_SCRUB_PASSES == 0 && d.get F.DRAM_EVENT_SCRUB_LATE == 1) = true ∧
    chk (.scrubRead 0 5 1 false false) (sided.withF [(F.DRAM_STATUS_READY, 15), (F.DRAM_SCRUB_PPR_THRESH, 1)]) (fun d => d.ctr K.DRAM_CORRECTED == 1 && d.dram.repairs == [5]) = true ∧
    chk (.scrubRead (688 * 2 ^ 20 - 8) 5 2 false false) (sided.withF [(F.DRAM_STATUS_READY, 15)]) (fun d => d.ctr K.DRAM_MIRROR_SAVED == 1 && d.dram.poison == []) = true ∧
    chk (.scrubRead (688 * 2 ^ 20) 5 3 false false) (sided.withF [(F.DRAM_STATUS_READY, 15)]) (fun d => d.dram.repairs == [5] && d.dram.poison == [688 * 2 ^ 17]) = true ∧ still (.scrubRead 0 5 3 true true) (sided.withF [(F.DRAM_STATUS_READY, 0)]) = true ∧
    chk (.pprRepair 5 0 true) (sided.modDram (fun r => { r with repairs := [5] })) (fun d => d.dram.repairs == [] && d.dram.repairsDone == [5] && d.ctr K.DRAM_REPAIRS == 1) = true ∧
    chk (.pprRepair 5 0 false) (sided.modDram (fun r => { r with repairs := [5] })) (fun d => d.dram.repairs == [] && d.get F.DRAM_EVENT_REPAIR_EXHAUSTED == 1) = true ∧ still (.pprRepair 5 0 true) sided = true := by decide +kernel

/-- A powered module out of reset on which nothing has started. -/
def fresh : Dev := { sys := { powerGood := true } }
/-- A module at start-up, with an image in hand. -/
def booting (f : Boot → Boot) : Dev := fresh.modBoot (fun b => f { b with started := true, meas := List.replicate 8 [] })
/-- The same with configuration space ready. -/
def awake (f : Boot → Boot) : Dev := (booting f).modSys (fun x => { x with configReady := true })
/-- An option image of three bytes in slot A. -/
def rom : Boot → Boot := fun b => { b with sections := [{ kind := 5, vendor := true, offset := 4096, length := 3, digest := [] }], flash := [(regionBase 0 + 4098, 7)] }
theorem witness_StartUpStepsTakeTheirPlace :
    chk .bootStart fresh (fun d => d.boot.started && d.boot.store.bootNumber == 1 && d.boot.running == 0 && d.get F.BOOT_COUNT_BOOT_NUMBER == 1) = true ∧
    chk .bootStart ((fresh.modSys (fun x => { x with recoverN := false })).modBoot (fun b => { b with store := { b.store with trial := some 1 } })) (fun d => d.boot.running == 2 && d.boot.store.trial == some 1) = true ∧
    chk .bootStart (fresh.modBoot (fun b => { b with store := { b.store with retiredSides := [0, 1, 2] } })) (fun d => d.boot.failed) = true ∧ still .bootStart (booting id) = true ∧
    chk .candidateFail (booting (fun b => { b with candidates := [1, 2] })) (fun d => d.boot.running == 1 && d.boot.candidates == [2] && !d.boot.failed) = true ∧
    chk .candidateFail (booting id) (fun d => d.boot.failed) = true ∧
    still .candidateFail ((awake (fun b => { b with accepted := true, running := 2 })).modSys (fun x => { x with firmwareLoaded := true })) = true ∧
    ((booting id).boot.meas.length = 8 ∧ (booting id).boot.failed = false ∧ (booting id).sys.configReady = false) ∧ still .configSpaceReady (booting id) = true ∧
    chkC .ddr5Trained (awake id) (fun d => d.sys.ddr5Trained && d.get F.DRAM_STATUS_READY == 15) = true ∧
    ((awake id).sys.configReady = true ∧ (awake id).sys.firmwareLoaded = false ∧ (awake id).boot.meas.length = 8) ∧ still .firmwareLoaded (awake id) = true ∧
    chk (.entropyStartupTest false) (awake id) (fun d => !d.drbgReady && d.ctr K.CIPH_ENTROPY_FAIL == 1) = true ∧ (awake id).drbgReady = false ∧
    still .dataplaneReady (awake id) = true ∧
    chk (.romRead 0 (2 ^ 20 - 2) 2) (awake rom) (fun d => d.out == [.bytes 6 [0xFF, 0xFF]]) = true ∧ chk (.romRead 0 1 4) (awake rom) (fun d => d.out == [.bytes 6 [0xFF, 7, 0xFF, 0xFF]]) = true ∧
    chk (.romRead 2 2 1) ((awake rom).modHif (fun h => { h with split := true })) (fun d => d.out == [.bytes 6 [7]]) = true ∧ chk (.romRead 1 5 1) (awake rom) (fun d => d.out == [.unsupported 5]) = true := by decide +kernel
/-- A state that meets every hypothesis of DATAPLANE_READY: what is left rests on the image. -/
def nearlyReady : Dev := ((awake id).modSys (fun x => { x with firmwareLoaded := true, ddr5Trained := true, ethRefclk := true })).drbgSeed
theorem witness_dataplaneReady : (nearlyReady.sys.ready = false ∧ nearlyReady.boot.failed = false ∧ nearlyReady.boot.running ≠ 2 ∧ nearlyReady.sys.firmwareLoaded = true ∧
    nearlyReady.sys.ddr5Trained = true ∧ nearlyReady.drbgReady = true ∧ nearlyReady.sys.ethRefclk = true ∧ (∀ k < 3, nearlyReady.side k ≠ 5) ∧ nearlyReady.hif.faulted = []) := by decide +kernel
/-- A running module with the boot window free. -/
def booted (l : List (Fld × Nat)) (f : Boot → Boot) : Dev := (live.withF ([(F.BOOT_CTRL_BUSY, 0)] ++ l)).modBoot (fun b => f { b with started := true })
/-- A fuse place. -/
def place (h : List Byte) (r : Bool) : Option KeyPlace := some { hash := h, revoked := r }
/-- Whether an operation is under way with a result. -/
def busyWith (op r : Nat) (d : Dev) : Bool := d.get F.BOOT_CTRL_BUSY == 1 && d.boot.op.map (fun (x : BootRun) => (x.op, x.result)) == some (op, r)
theorem witness_BootOperationsActAndAreRefused :
    ((booted [] id).responds 0x1200008 = true ∧ (booted [] id).get F.BOOT_CTRL_BUSY = 0) ∧ chk .bootRead (booted [(F.BOOT_ADDR_OFFSET, 112 * 2 ^ 20 - 256)] (fun b => { b with flash := [(regionBase 1 + 112 * 2 ^ 20 - 1, 9)] })) (fun d => busyWith 0 0 d && (d.winBytes 0x1200100 256).getD 255 0 == 9) = true ∧
    chk .bootRead (booted [(F.BOOT_ADDR_OFFSET, 112 * 2 ^ 20 - 255)] id) (busyWith 0 1) = true ∧
    chk (.erase 0) (booted [(F.BOOT_ADDR_OFFSET, 65536)] (fun b => { b with flash := [(regionBase 1 + 65535, 9), (regionBase 1 + 65536, 9)] })) (fun d => busyWith 1 0 d && d.boot.flash.length == 2 && d.boot.op.map (·.addr) == some (regionBase 1 + 65536)) = true ∧
    chk (.erase 2) (booted [] id) (fun d => busyWith 1 7 d && d.get F.BOOT_EVENT_FLASH_ERROR == 1) = true ∧ chk (.erase 0) (booted [(F.BOOT_ADDR_OFFSET, 256)] id) (busyWith 1 1) = true ∧
    chk (.program 1) ((booted [(F.BOOT_ADDR_OFFSET, 256)] id).putWord 0x1200100 5) (fun d => busyWith 2 0 d && d.boot.flash.isEmpty && d.boot.op.map (fun x => (x.addr, x.data.take 2)) == some (regionBase 1 + 256, [5, 0])) = true ∧
    chk (.program 0) (booted [(F.BOOT_ADDR_OFFSET, 255)] id) (busyWith 2 1) = true ∧ chk (.program 2) (booted [] id) (busyWith 2 7) = true ∧
    chk .verify (booted [] id) (fun d => busyWith 3 5 d && d.get (F.BOOT_SLOT_VERIFIED 1) == 0) = true ∧
    chk .next (booted [(F.BOOT_ARG_ARG, 1)] id) (busyWith 4 2) = true ∧ chk .next (booted [(F.BOOT_ARG_ARG, 1), (F.BOOT_SLOT_VERIFIED 1, 1)] id) (busyWith 4 0) = true ∧
    chk .confirm (booted [] id) (busyWith 5 0) = true ∧
    chk (.rollback 0xB007) (booted [(F.BOOT_ARG_ARG, 2), (F.BOOT_STATUS_SVN, 1)] id) (busyWith 6 2) = true ∧ chk (.rollback 0xB007) (booted [(F.BOOT_ARG_ARG, 1), (F.BOOT_STATUS_SVN, 1)] id) (busyWith 6 6) = true ∧
    chk (.rollback 0xB007) (booted [(F.BOOT_ARG_ARG, 1), (F.BOOT_STATUS_SVN, 1)] (fun b => { b with flash := [(regionBase 2, 1), (regionBase 2 + 1, 0)] ++ (List.range 4).map (fun i => (regionBase 2 + 4 + i, if i = 0 then 1 else 0)) }))
      (fun d => busyWith 6 0 d && d.boot.fuses.rollback == 0) = true ∧
    chk (.enroll 0xB007) (booted [] id) (fun d => busyWith 7 0 d && d.boot.fuses.places.map Option.isSome == [false, false, false, false]) = true ∧
    chk (.enroll 0xB007) (booted [] (fun b => { b with fuses := { b.fuses with places := List.replicate 4 (place [1] false) } })) (busyWith 7 2) = true ∧
    chk (.revoke 0xB007) (booted [(F.BOOT_ARG_ARG, 3)] id) (busyWith 8 2) = true ∧ chk (.revoke 0xB007) (booted [(F.BOOT_ARG_ARG, 4)] id) (busyWith 8 1) = true ∧
    chk (.revoke 0xB007) (booted [(F.BOOT_ARG_ARG, 1)] (fun b => { b with fuses := { b.fuses with places := [place [1] false, place [2] false, none, none] } })) (fun d => busyWith 8 0 d && d.boot.fuses.places == [place [1] false, place [2] false, none, none]) = true ∧
    chk (.revoke 0xB007) (booted [(F.BOOT_ARG_ARG, 0)] (fun b => { b with fuses := { b.fuses with places := [place [1] false, none, none, none] } })) (busyWith 8 2) = true ∧
    chk (.enroll 0xB006) (booted [] id) (fun d => d.get F.BOOT_CTRL_OP == 7 && d.get F.BOOT_CTRL_BUSY == 0 && d.boot.op == none) = true ∧ still (.enroll 0xB006) (booted [(F.BOOT_CTRL_BUSY, 1)] id) = true ∧ still .verify (booted [(F.BOOT_CTRL_BUSY, 1)] id) = true ∧
    chk .bootOpComplete (booted [(F.BOOT_CTRL_BUSY, 1)] (fun b => { b with op := some { op := 4, arg := 3 } })) (fun d => d.boot.op == none && d.boot.store.trial == some 1 && d.get F.BOOT_CTRL_BUSY == 0) = true ∧
    chk .bootOpComplete (booted [(F.BOOT_CTRL_BUSY, 1)] (fun b => { b with op := some { op := 4, arg := 1 } })) (fun d => d.boot.store.preferred == 1) = true ∧
    chk .bootOpComplete (booted [(F.BOOT_CTRL_BUSY, 1)] (fun b => { b with running := 1, op := some { op := 5 } })) (fun d => d.boot.store.preferred == 1) = true ∧ still .bootOpComplete (booted [] id) = true ∧
    chk .bootOpComplete (booted [(F.BOOT_CTRL_BUSY, 1)] (fun b => { b with flash := [(regionBase 1 + 65535, 9), (regionBase 1 + 65536, 9), (regionBase 1 + 131072, 9)], op := some { op := 1, addr := regionBase 1 + 65536 } })) (fun d => d.boot.flash == [(regionBase 1 + 65535, 9), (regionBase 1 + 131072, 9)] && d.get F.BOOT_EVENT_OP_DONE == 1) = true ∧
    chk .bootOpComplete (booted [(F.BOOT_CTRL_BUSY, 1)] (fun b => { b with op := some { op := 2, addr := regionBase 1 + 256, data := [5, 0xFF, 0] } })) (fun d => d.boot.flash == [(regionBase 1 + 256, 5), (regionBase 1 + 258, 0)]) = true ∧
    chk .bootOpComplete (booted [(F.BOOT_CTRL_BUSY, 1)] (fun b => { b with op := some { op := 6, arg := 2 } })) (fun d => d.boot.fuses.rollback == 2 && d.get F.BOOT_STATUS_ROLLBACK == 2) = true ∧
    chk .bootOpComplete (booted [(F.BOOT_CTRL_BUSY, 1)] (fun b => { b with op := some { op := 7 } })) (fun d => d.boot.fuses.places.map Option.isSome == [true, false, false, false]) = true ∧
    chk .bootOpComplete (booted [(F.BOOT_CTRL_BUSY, 1)] (fun b => { b with fuses := { b.fuses with places := [place [1] false, place [2] false, none, none] }, op := some { op := 8, arg := 1 } })) (fun d => d.boot.fuses.places == [place [1] false, place [2] true, none, none]) = true ∧
    chk .bootOpComplete (booted [(F.BOOT_CTRL_BUSY, 1)] (fun b => { b with op := some { op := 5, result := 2 } })) (fun d => d.boot.store == {} && d.get F.BOOT_CTRL_RESULT == 2) = true ∧
    chk .debugNonceRead (booted [(F.CIPH_STATUS_DRBG_READY, 0)] id) (fun d => d.boot.nonce == 0 && !d.boot.nonceOk && d.out == [.readData 0]) = true ∧ (booted [] id).certOk [] = false ∧
    (live.responds 0x1200030 = true) ∧ live.responds 0x1200038 = true ∧
    chk .debugCertSubmit ((booted [] id).putWord 0x1200400 0xFF0000) (fun d => d.get F.BOOT_CTRL_RESULT == 3) = true ∧
    chk (.dbgIoCommand 0 0 0 0 []) (booted [] id) (fun d => d.out == [.bytes 5 (leBytes 4 (live.word 0).toNat)]) = true ∧ chk (.dbgIoCommand 1 0 0 0 [1]) (booted [] id) (fun d => d.get F.BOOT_CTRL_RESULT == 3) = true ∧
    still (.dbgIoCommand 4 0 0 0 []) (booted [] id) = true ∧ chk (.dbgIoCommand 6 63 7 1 []) (booted [(F.BOOT_STATUS_DEBUG, 7), (F.BARB_DBG_STATUS_DEBUG_EN, 1)] id) (fun d => d.out == [.bytes 5 (List.replicate 8 0)]) = true := by decide +kernel

/-- A running module whose SPDM context on a transport is at a stage. -/
def responding (t stage : Nat) : Dev := (hosted 0).modBoot (fun b => { b with started := true, spdm := [(t, { stage := stage })] })
theorem witness_ResponderAnswersEachRequest :
    (responding 0 0).spdmOn 0 = true ∧ (responding 1 3).spdmOn 1 = true ∧ fresh.spdmOn 1 = false ∧
    chk (.getVersion 0 false) (responding 0 3) (fun d => d.out == [.bytes 2 [4, 0, 0x12]] && (d.spdmAt 0).stage == 1) = true ∧
    chk (.getCapabilities 1 false) (responding 1 1) (fun d => d.out == [.bytes 3 [0x61, 0x16, 0, 0, 0]] && (d.spdmAt 1).stage == 2) = true ∧
    chk (.negotiateAlgorithms 1 true true true false) (responding 1 2) (fun d => d.out == [.bytes 3 [0x63, 7]] && (d.spdmAt 1).stage == 3) = true ∧
    chk (.negotiateAlgorithms 1 true false true false) (responding 1 2) (fun d => d.out == [.bytes 3 [0x7F, 1]] && (d.spdmAt 1).stage == 2) = true ∧
    chk (.getCapabilities 1 false) (responding 1 0) (fun d => d.out == [.bytes 3 [0x7F, 4]]) = true ∧ chk (.getDigests 1 false) (responding 1 2) (fun d => d.out == [.bytes 3 [0x7F, 4]]) = true ∧
    chk (.spdmUnsupported 0 true) (responding 0 0) (fun d => d.out == [.bytes 2 [0x7F, 7]]) = true ∧ chk (.spdmUnsupported 1 true) (responding 1 0) (fun d => d.out == [.bytes 3 [0x7F, 3]]) = true ∧
    chk (.getCertificate 1 2 0 16 false) (responding 1 3) (fun d => d.out == [.bytes 3 [0x7F, 1]]) = true ∧ chk (.challenge 1 1 [] false) (responding 1 3) (fun d => d.out == [.bytes 3 [0x7F, 1]]) = true ∧
    chk (.getMeasurements 1 1 false [7] false) ((responding 1 3).modBoot (fun b => { b with meas := [[9, 8]] })) (fun d => d.out == [.bytes 3 [0x60, 1, 1, 9, 8]]) = true ∧
    chk (.getMeasurements 1 9 false [] false) (responding 1 3) (fun d => d.out == [.bytes 3 ([0x60, 1, 9] ++ leBytes 4 (d.word 0x1200000).toNat ++ [0])]) = true ∧
    still (.getVersion 1 false) fresh = true ∧ still (.getDigests 1 false) fresh = true ∧
    chk .readHealth (booting id) (fun d => d.out == [.bytes 3 (leBytes 4 (d.word 0x1000000).toNat ++ leBytes 4 (d.word 0x1200000).toNat)]) = true ∧ ((booting id).sys.powerGood = true ∧ (booting id).boot.started = true) := by decide +kernel
/-- A running module with a hold-up in progress. -/
def heldUp : Dev := live.modPwr (fun p => { p with holdUp := true })
theorem witness_PowerInputsPhasesAndThermalStages :
    chk (.vinAccept 1 12000 11800) (live.withF [(vinOk 0, 1), (vinOk 1, 0)]) (fun d => d.get F.PWR_STATUS_SOURCE == 3) = true ∧
    chk (.vinAccept 1 12000 11799) (live.withF [(vinOk 0, 1), (vinOk 1, 0)]) (fun d => d.get F.PWR_STATUS_SOURCE == 2) = true ∧
    chk (.vinAccept 0 12000 0) (heldUp.withF [(vinOk 0, 0), (vinOk 1, 0)]) (fun d => d.get F.PWR_STATUS_SOURCE == 1 && !d.pwr.holdUp && d.ctr K.PWR_RIDE_THROUGHS == 1) = true ∧
    chk (.vinDrop 0 false) (live.withF [(vinOk 0, 1), (vinOk 1, 1)]) (fun d => d.get F.PWR_STATUS_SOURCE == 2 && d.get F.PWR_EVENT_VIN_A_FAULT == 1) = true ∧
    chk (.vinDrop 1 true) ((live.withF [(vinOk 0, 0), (vinOk 1, 1)]).modSys (fun x => { x with powerGood := true })) (fun d => d.get F.PWR_STATUS_SOURCE == 0 && d.pwr.holdUp && d.pwr.overCause) = true ∧
    still (.vinDrop 0 false) (live.withF [(vinOk 0, 0)]) = true ∧ chkC .holdupExpire heldUp (fun d => !d.sys.powerGood && d.boot.store.lastOff == 1) = true ∧
    still .holdupExpire live = true ∧
    chk (.phaseFail 11 0) (live.withF [(F.PWR_RAIL_SPARES 11, 1)]) (fun d => d.get (F.PWR_RAIL_SPARES 11) == 0 && d.ctr K.PWR_PHASES_RETIRED == 1) = true ∧
    chk (.phaseFail 11 0) (live.withF [(F.PWR_RAIL_SPARES 11, 0)]) (fun d => d.get F.PWR_STATUS_RAIL_SHORT == 1 && d.get F.PWR_STATUS_STAGE == 2 && d.pwr.shortRails == [11]) = true ∧
    chkC (.phaseFail 11 0) ((live.withF [(F.PWR_RAIL_SPARES 11, 0)]).modPwr (fun p => { p with shortRails := [11] })) (fun d => d.boot.store.lastOff == 4) = true ∧
    chk (.thermalSample (-32768) 32767) live (fun d => d.lid == -32768 && signedOf 16 (d.get F.PWR_TEMP_JUNCTION_MAX) == 32767) = true ∧
    (live.stageThreshold 1 = 10 * (live.lidMax - (live.get F.PWR_THERM_CFG_WARN_OFFSET : Nat))) ∧
    chk (.thermalStageEnter 1) (live.withF [(F.PWR_TEMP_LID, 690), (F.PWR_THERM_CFG_WARN_OFFSET, 10)]) (fun d => d.get F.PWR_STATUS_STAGE == 1 && d.ctr K.PWR_SHED_BE_ENTRIES == 1) = true ∧
    chk (.thermalStageEnter 2) (live.withF [(F.PWR_TEMP_LID, 690), (F.PWR_THERM_CFG_HOT_OFFSET, 5)]) (fun d => d.get F.PWR_STATUS_STAGE == 2 && d.ctr K.PWR_SHED_AS_ENTRIES == 1) = true ∧
    still (.thermalStageEnter 1) (live.withF [(F.PWR_TEMP_LID, 0)]) = true ∧
    chk (.thermalStageExit 0) (live.withF [(F.PWR_TEMP_LID, 0), (F.PWR_STATUS_STAGE, 1)]) (fun d => d.get F.PWR_STATUS_STAGE == 0) = true ∧
    still (.thermalStageExit 0) ((live.withF [(F.PWR_TEMP_LID, 0), (F.PWR_STATUS_STAGE, 2)]).modPwr (fun p => { p with stageHeld := true })) = true ∧
    chkC .thermalShutdown (live.withF [(F.PWR_TEMP_LID, 950)]) (fun d => d.boot.store.lastOff == 3 && d.pwr.shutdown) = true ∧ still .thermalShutdown (live.withF [(F.PWR_TEMP_LID, 0), (F.PWR_TEMP_JUNCTION_MAX, 1149)]) = true ∧
    chk .ethRefclkStable live (fun d => d.sys.ethRefclk) = true := by decide +kernel

/-! ## More clauses of the statements -/

/-- A shuttle on its way to the program of core 63, in flight through its crossing. -/
def crossing : Dev := { waitingProgram with shuts := waitingProgram.shuts.map (fun p => (p.1, { p.2 with stage := .cross, seq := 4 })) }
theorem witness_clauses_organisation :
    (crossing.coreIsland 63 ≤ 17 ∧ 0 < crossing.coreIsland 63) ∧
    chk (.crossingArrive (crossing.coreIsland 63)) { crossing with xing := [(crossing.coreIsland 63, [.shuttle 0 4])] } (fun d => (d.shut 0).map (fun y => y.stage) == some .dispatch && d.xing == []) = true ∧
    mapGetD ((crossing.crossPump (crossing.coreIsland 63)).xing) (crossing.coreIsland 63) [] = [.shuttle 0 4] ∧
    chk (.registerWrite 0x500100 (1 + 7 * 2) 15) live (fun d => d.get F.HED_IND_CTRL_BUSY == 1 && d.ind == [(0x500100, 3)]) = true ∧
    chk (.snapshotTake 0x1100008) live (fun d => (mapGet d.bus.snap 0x1100100).isSome && d.ctr 0x1100104 == 0) = true ∧
    chkC .powerGoodRise ((live.modSys (fun s => { s with powerGood := false, perstN := false })).withF [(F.PWR_STATUS_VIN_B_OK, 1)])
      (fun d => d.get F.GEN_RESET_CAUSE_COLD == 1 && d.get F.GEN_RESET_CAUSE_PERST == 1 && d.get F.GEN_RESET_CAUSE_RST_N == 0 && d.sys.inReset) = true ∧
    still .powerGoodRise (live.modSys (fun s => { s with powerGood := false })) = true := by decide +kernel
theorem witness_clauses_time :
    still .stepApply (stepping (some ⟨65536, 0, false, 0⟩) 0) = true ∧ still .stepFold ((stepping (some ⟨65536, 0, true, 0⟩) 1).modTime (fun t => { t with cycles := 11999999 })) = true ∧
    chk .stepApply ((stepping (some ⟨65536, 0, false, 3⟩) 0).modTime (fun t => { t with cycles := 67 })) (fun d => d.nowNs == 10) = true ∧
    still .ppsOutPulse ((timed.modTime (fun t => { t with q := 7 * 65536 * unit16 })).withF [(F.TIME_PPS_OUT_CFG_ENABLE, 1), (F.TIME_PPS_OUT_CFG_FORCE, 1), (F.TIME_PPS_OUT_CFG_PERIOD_MS, 1)]) = true ∧
    still .ppsOutEnd (timed.modTime (fun t => { t with ppsOutHigh := true, ppsEnd := 1 })) = true ∧
    still .servoHoldoverExpire ((servo 3).modTime (fun t => { t with cycles := 86400 * 1200000000 - 1 })) = true ∧
    still (.sealWrite 1) (live.modLedg (fun l => { l with signer := [{ stream := 7, slot := 6, number := 3, cycle := 0 }] })) = true ∧
    still (.xoffRefresh 7 7) (pausing 7 2 [] []) = true := by decide +kernel
theorem witness_clauses_ports :
    chk (.pauseFrameRx 7 ⟨0, true⟩) (pausing 7 1 [8] []) (fun d => (d.port 7).paused == [] && d.get (F.PORT_STATUS_WATCHDOG_ALSO 7) == 1) = true ∧
    chk (.frameTransmit 8 0 ⟨0, .shuttle⟩) (leaving 8) (fun d => d.ctr K.DRAM_SHUTTLE_LOST == 1 && d.ctr (K.PORT_TX_FRAMES 8) == 0) = true ∧
    chk (.reedChoose ⟨8, .cell 9⟩) ((queued 0 [] { forPort 1 .reed with ended := true }).modReed (fun r => { r with deadlineSet := [(8, [0])] }))
      (fun d => (d.shut 0).map (fun y => (y.stage, y.frame.take 8, y.frame.length, y.badAt)) == some (.toLands, List.replicate 8 1, 60, [(8, 8)])) = true ∧
    chk (.reedChoose ⟨8, .shuttle⟩) (((queued 0 [] { (forPort 1 .reed).set S.PORT 8 with envelope := some 7 }).withSh [(EV.CUT 7, 1)]).modReed (fun r => { r with deadlineSet := [(8, [0])] }))
      (fun d => d.ctr K.DRAM_SHUTTLE_LOST == 1 && (d.shut 0).map (fun y => (y.stage, y.dropReason)) == some (.ended, some 6)) = true ∧
    chk (.reedEnqueue 0) { queued 0 [] { forPort 1 .reed with pipe := 2 } with shuts := [(0, { forPort 1 .reed with pipe := 2 }), (1, { forPort 1 .reed with pipe := 1 })], reed := { deadlineSet := [(8, [1])] } }
      (fun d => mapGetD d.reed.deadlineSet 8 [] == [0, 1]) = true ∧
    still (.reedEnqueue 1) { queued 0 [] (forPort 1 .pass) with shuts := [(0, forPort 1 .pass), (1, forPort 1 .reed)] } = true ∧
    chk (.reedEnqueue 0) { queued 0 [] (forPort 1 .reed) with shuts := [(0, (forPort 1 .reed).set S.DEST_PORT 9)] } (fun d => d.ctr K.HIF_FN_DROP == 1) = true := by decide +kernel
theorem witness_clauses_tables :
    chk (.hedRead 0 0 0) live (fun d => d.ind == [(0x500100, 1)]) = true ∧
    chk .recordReclaim (live.modCfg (fun c => { c with gone := [4, 5] })) (fun d => d.cfg.gone == [5] && d.get F.HED_SHADOW_STATUS_RECLAIMING == 1) = true ∧
    still (.heddlePass 1 none none) { classifying .pass 0 plainFrame with shuts := [(0, inPass .pass 0 plainFrame), (1, inPass .pass 0 plainFrame)] } = true ∧
    flushPlace true 0 = some 264192 ∧ flushPlace false 264192 = none ∧ flushPlace false 264191 = some 264191 ∧
    still (.flushBucket false 1) ((forwarding 3 ⟨5, 6, false, false, false, 7, 8, 9⟩ []).modFwd (fun f => { f with flush := some (0, 6, 0) })) = true ∧
    chk (.agerBucketRead 0 false none) ((forwarding 3 ⟨5, 6, false, false, false, 7, 8, 9⟩ []).modFwd (fun f => { f with removes := [(3, 9)], refreshes := [(3, 5, 6, 4)] }))
      (fun d => d.fwdAt 3 == some ⟨5, 6, false, false, false, 7, 8, 4⟩ && d.ctr K.FWD_AGE_SAVED == 1) = true ∧
    chk (.saRekey 0) ((secured 0 (saWith [(SAR.TYPE, 2)] 5)).modCiph (fun c => { c with keyLoaded := true })) (fun d => d.ind == [(0x700200, 3)] && !d.ciph.keyLoaded) = true ∧
    still (.cipherLaneEnter 15) ((secured 4 (saWith [] 5)).modFlt (fun f => { f with gap := 1 })) = true ∧
    chk (.cipherLaneEnter 15) { (secured 4 (saWith [(SAR.DIR, 1), (SAR.LIMIT, 100)] 5)).modDom (fun x => { x with gated := [(1, 15)] }) with shuts := [(0, laneShut 2 .lane plainFrame)] }
      (fun d => d.dom.waking == [(1, 15)] && d.ciph.sas.length == 1) = true := by decide +kernel
theorem witness_clauses_units :
    chk (.crcStart 31 1 5 3 none) (live.modDom (fun x => { x with gated := [(2, 31)] })) (fun d => d == (live.modDom (fun x => { x with gated := [(2, 31)] })).holdFor 2 31 (.crcStart 31 1 5 3 none)) = true ∧
    chk (.crcStart 31 1 5 3 none) (owning {}) (fun d => d.get (F.STOR_CRC_STATUS_STATE 31) == 1) = true ∧
    chk (.crcs 63 7 3 1 31 2) ((coreWith 7 (runs [])).modDom (fun x => { x with gated := [(2, 31)] })) (fun d => d.dom.waking == [(2, 31)]) = true ∧
    chk (.lock 63 7 1) (locked 9 [510] (runs [(1, 4095)])) (fun d => d.barb.locks == [(4095, ⟨9, [510, 511]⟩)]) = true ∧
    sendBehind [⟨1, [], 9, 5⟩] ⟨2, [], 8, 5⟩ = [⟨2, [], 8, 5⟩, ⟨1, [], 9, 5⟩] ∧ sendBehind [⟨1, [], 9, 5⟩] ⟨2, [], 8, 6⟩ = [⟨1, [], 9, 5⟩, ⟨2, [], 8, 6⟩] ∧
    chk (.debugStep 63 7) ((debugged { runs [] with halted := true }).modDom (fun x => { x with gated := [(0, 63)] })) (fun d => d.dom.held == [((0, 63), .debugStep 63 7)] && !(d.thread 511).issues) = true ∧
    chk (.unitTransient 4 31 0 true false) (counted 4 1 [(F.FLT_HEALTH_CRC_SPARES, 1), (F.STOR_CRC_STATUS_STATE 31, 3)]) (fun d => (mapGet d.flt.crcMoves 31).map (fun m => m.1) == some 33 && d.flt.crcPhys == []) = true ∧
    chk (.selfTestVector 0 7 5 false) (sided.modFlt (fun f => { f with suspect := [(0, 7, 5)] })) (fun d => d.side 0 == 4 && d.activeSide == 1 && d.standbySide == 3 && d.ctr K.FLT_PLANNED_SWITCHES == 1) = true ∧
    chk (.selfTestVector 0 7 5 false) (alone.modFlt (fun f => { f with suspect := [(0, 7, 5)] })) (fun d => d.side 0 == 1 && d.get F.FLT_HEALTH_ST_FAIL == 1) = true := by decide +kernel
theorem witness_clauses_hosts :
    chk (.inlinePush 0 1 0xC08 (push 0) ⟨true, 0⟩ false) (ringed 0 [(RC.FEED, 1), (RC.PUSH_DEPTH, 1)] ring1) (fun d => d.ctr K.RING_BAD_DOORBELL == 1 && (d.ring 9).producer == 0) = true ∧
    chk (.inlinePush 0 1 0xC08 (List.replicate 512 0) ⟨true, 0⟩ false) (ringed 0 [(RC.FEED, 1), (RC.PUSH_DEPTH, 1)] ring1) (fun d => (d.ring 9).state == 2 && (d.ring 9).cause == 4 && d.get F.RING_EVENT_BAD_DOORBELL == 1) = true ∧
    chk (.inlinePush 0 1 0xC00 (push 0) ⟨false, 0⟩ false) (ringed 0 [(RC.FEED, 1), (RC.PUSH_DEPTH, 1)] ring1) (fun d => (d.ring 9).state == 2 && (d.ring 9).cause == 4) = true ∧
    chk (.inlinePush 0 1 0xC00 (push 0) ⟨true, 0⟩ true) (ringed 0 [(RC.FEED, 1), (RC.PUSH_DEPTH, 1)] ring1) (fun d => (d.ring 9).state == 1 && (d.ring 9).pushes == [] && d.ctr K.RING_PUSH_DISCARD == 1 && d.ctr K.HIF_POISON_RX == 1) = true ∧
    chk (.hostTlpRelease ⟨0, false, .none⟩) { ringed 1 [] ring1 with shuts := [(0, toWrite 60)] } (fun d => (d.shut 0).map (fun x => x.creditAt) == some (some (0, 0)) && d.out == []) = true ∧
    chk (.hostTlpRelease ⟨0, true, .shuttle⟩) { ringed 1 [] ring1 with shuts := [(0, toWrite 60)] } (fun d => d.ctr K.DRAM_SHUTTLE_LOST == 1) = true ∧
    chk (.hostTlpRelease ⟨0, true, .none⟩) { ringed 1 [] ring1 with shuts := [(0, { toWrite 100 with ended := false })] } (fun d => (d.shut 0).map (fun x => (x.writtenHost, x.hostSent)) == some (true, 36)) = true ∧
    chk (.mailboxWrite 2 255 16 3) (bound { colS := true, colR := true, aborted := true }) (fun d => d.dataDir 255 == { colR := true }) = true ∧
    chk (.mailboxWrite 2 255 17 1) (bound { colS := true, colR := true, aborted := true }) (fun d => d.dataDir 255 == { colS := true, aborted := true }) = true ∧
    chk (.mailboxWrite 2 255 15 7) ((bound {}).modDom (fun x => { x with gated := [(0, 1)] })) (fun d => d.mbox == (bound {}).mbox && d.dom.held.length == 1) = true ∧
    chk (.moverStart 31 0) ((started 0 64 0).modDom (fun x => { x with gated := [(3, 7)] })) (fun d => d.movState 31 == 0 && d.dom.held == [((3, 7), .moverStart 31 0)]) = true := by decide +kernel

/-! ## Published values of the algorithms that the spec names -/

/-- The digits 1 to 9 in ASCII. -/
def digits : List Byte := [0x31, 0x32, 0x33, 0x34, 0x35, 0x36, 0x37, 0x38, 0x39]
/-- The check values of Table 5 of ch. 9 (R232). -/
theorem test_crc_check_values : crcOf 0 digits = 0xCBF43926 ∧ crcOf 1 digits = 0xE3069283 ∧ crcOf 2 digits = 0x6C40DF5F0B497347 ∧
    crcOf 3 digits = 0x29B1 := by decide +kernel
/-- SHA-512 of "abc" (FIPS 180-4): its first eight bytes. -/
theorem test_sha512_abc : (sha512 [0x61, 0x62, 0x63]).take 8 = [0xdd, 0xaf, 0x35, 0xa1, 0x93, 0x61, 0x7a, 0xba] := by decide +kernel
/-- AES-128 (FIPS 197, appendix C.1): its first eight bytes, and back. -/
theorem test_aes128_fips197 :
    (aesBlock ((List.range 16).map (BitVec.ofNat 8)) ((List.range 16).map (fun i => BitVec.ofNat 8 (17 * i)))).take 8 = [0x69, 0xc4, 0xe0, 0xd8, 0x6a, 0x7b, 0x04, 0x30] ∧
    aesBlockInv ((List.range 16).map (BitVec.ofNat 8)) (aesBlock ((List.range 16).map (BitVec.ofNat 8)) (digits ++ List.replicate 7 0)) = digits ++ List.replicate 7 0 := by
  decide +kernel
/-- AES-GCM with a zero key, nonce and block (the second case of the algorithm's published set): the first bytes of text and tag. -/
theorem test_gcm_zero_block : (gcmCrypt (List.replicate 16 0) (List.replicate 12 0) (List.replicate 16 0)).take 4 = [0x03, 0x88, 0xda, 0xce] ∧
    (gcmTag (List.replicate 16 0) (List.replicate 12 0) [] (gcmCrypt (List.replicate 16 0) (List.replicate 12 0) (List.replicate 16 0))).take 4 = [0xab, 0x6e, 0x47, 0xd4] := by
  decide +kernel
/-- Ed25519 (RFC 8032, 7.1, test 1): the first bytes of the public key. -/
theorem test_ed25519_public : (edPublic (beBytes 32 0x9d61b19deffd5a60ba844af492ec2cc44449c5697b326919703bac031cae7f60)).take 4 = [0xd7, 0x5a, 0x98, 0x01] := by decide +kernel
/-- A weave-clock cycle is 5/6 ns: six cycles are 5 ns at frequency word 0 (R84). -/
theorem test_six_cycles_are_five_ns : (((List.range 6).foldl (fun t _ => quartzNext t) ({} : Time)).q : Int) - ({} : Time).q = 5 * (6 * 2 ^ 48) := by decide +kernel

/-! ## DDR5, the queue and reset -/

theorem witness_ResetHasCanonicalMemory : memWf State.reset.ddr = true ∧ State.reset.pending = [] := by decide +kernel
/-- A step that drains a write keeps the canonical form, and a zero written takes its entry out. -/
theorem witness_EveryStepKeepsCanonicalMemory :
    (match step { dev := live.ddrWrite 8 [0, 7], ddr := [(8, 5), (20, 1)], pending := [] } with
      | .next t => t.ddr == [(9, 7), (20, 1)] && memWf t.ddr
      | _ => false) = true ∧ memWf [(8, 5), (20, 1)] = true ∧ memWf [(20, 1), (8, 5)] = false ∧ memWf [(8, 0)] = false := by decide +kernel
theorem witness_StepRunsFrontCommand :
    (match step { dev := live, ddr := [], pending := [.ethRefclkStable, .timeLatch] } with
      | .next t => t.dev.sys.ethRefclk && t.pending == [.timeLatch]
      | _ => false) = true := by decide +kernel
theorem test_reset_idles : (match step State.reset with
      | .next t => t.pending == []
      | _ => false) = true := by decide +kernel

/-! ## An ill-formed command for each check -/

theorem test_well_formed : ([.registerWrite (2 ^ 26 - 4) 0 15, .crossingArrive 37, .sfdRx 8 0 0, .gateListStart 7, .add 63 7 31 31 31, .ld 0 0 0 0 3 0, .dbgIoCommand 6 63 7 0 [],
    .pfcFrameRx 8 255 ⟨List.replicate 8 65535, 255⟩] : List Instr).all Instr.wellFormed = true := by decide +kernel
theorem test_ill_formed_bus : ([.registerWrite (2 ^ 26) 0 15, .registerWrite 0 0 16, .crossingArrive 38, .logTailWrite 0 256, .genReset 65536 true, .powerGoodFall 16] : List Instr).all
    (fun c => !c.wellFormed) = true := by decide +kernel
theorem test_ill_formed_ports : ([.sfdRx 9 0 0, .gateListStart 8, .pauseFrameRx 0 ⟨65536, false⟩, .pauseQuantaExpire 0 9 0, .pfcFrameRx 0 0 ⟨[0], 0⟩, .reedChoose ⟨11, .none⟩, .pipelineEntry 4] : List Instr).all
    (fun c => !c.wellFormed) = true := by decide +kernel
theorem test_ill_formed_cores : ([.add 64 0 0 0 0, .add 0 8 0 0 0, .add 0 0 32 0 0, .ld 0 0 0 0 4 0, .sig 0 0 256, .channelMessageArrive 1024, .crcFeed 32 0 0 []] : List Instr).all
    (fun c => !c.wellFormed) = true := by decide +kernel
theorem test_ill_formed_hosts : ([.flrComplete 4096, .vfEnableSet 0 1, .vfEnableSet 4 1, .hostTlpRelease ⟨2, true, .none⟩, .descriptorFetch 16384, .hostReadCompletion 0 [] true 3 false, .dirtySwap 4,
    .moverBurst 32, .sealIntervalExpire 8] : List Instr).all (fun c => !c.wellFormed) = true := by decide +kernel
theorem test_ill_formed_tables : ([.hedRead 8 0 0, .hedRead 0 2 0, .hedRead 0 0 (2 ^ 23), .cipherLaneEnter 16, .keyWrite 64 0, .ddr5LookupResult 0 0 (2 ^ 36) 0 ⟨none, none⟩] : List Instr).all
    (fun c => !c.wellFormed) = true := by decide +kernel
theorem test_ill_formed_board : ([.resyncDone 3, .vinDrop 2 false, .phaseFail 12 0, .thermalStageEnter 3, .erase 3, .dbgIoCommand 7 0 0 0 [], .getVersion 3 false] : List Instr).all
    (fun c => !c.wellFormed) = true := by decide +kernel

end Sys2Proof.Tests
end

section
/-! PROOFS. Snapshots (R10) and the index registers of the event logs (R455). -/
namespace Sys2Proof.Machine
open Sys2Proof

/-! ## Fields and words of BAR0 -/

/-- A field is a number of its own width. -/
theorem Dev.get_lt (d : Dev) (f : Fld) : d.get f < 2 ^ f.width := by
  unfold Dev.get fieldGet
  split <;> exact Nat.mod_lt _ (Nat.two_pow_pos _)

/-- A field within one word depends on that word alone. -/
theorem Dev.get_eq_of_word_eq {d e : Dev} {f : Fld} (hf : f.lo + f.width ≤ 32) (h : d.word f.addr = e.word f.addr) : d.get f = e.get f := by
  simp only [Dev.get, fieldGet, if_pos hf]
  exact congrArg (fun w : Word => bitsOf w.toNat f.lo f.width) h

/-- Two fields of one word without a common bit. -/
theorem Fld.apart_of_disjoint {a lo w lo' w' : Nat} (h : lo + w ≤ 32) (h' : lo' + w' ≤ 32) (hd : lo + w ≤ lo' ∨ lo' + w' ≤ lo) :
    Fld.apart ⟨a, lo, w⟩ ⟨a, lo', w'⟩ = true := by
  simp only [Fld.apart, h, h', decide_true, Bool.and_true, Bool.true_and, bne_self_eq_false, Bool.false_or, Bool.or_eq_true, decide_eq_true_eq]
  omega

/-- A field written leaves the disjoint fields of its word. -/
theorem Dev.get_set_disjoint (d : Dev) {a lo w lo' w' : Nat} (v : Nat) (h : lo + w ≤ 32) (h' : lo' + w' ≤ 32)
    (hd : lo + w ≤ lo' ∨ lo' + w' ≤ lo) : (d.set ⟨a, lo, w⟩ v).get ⟨a, lo', w'⟩ = d.get ⟨a, lo', w'⟩ :=
  Dev.get_set_apart d _ _ v (Fld.apart_of_disjoint h h' hd)

/-- A field written out by its place reads what was written. -/
theorem Dev.get_set_place (d : Dev) {a lo w : Nat} (v : Nat) (h : lo + w ≤ 64) : (d.set ⟨a, lo, w⟩ v).get ⟨a, lo, w⟩ = v % 2 ^ w :=
  Dev.get_set_self d ⟨a, lo, w⟩ v h

/-- A field of one word written leaves every other word. -/
theorem sameWordsBut_set (d : Dev) {a lo w : Nat} (v : Nat) (h : lo + w ≤ 32) : SameWordsBut [a] (d.set ⟨a, lo, w⟩ v) d :=
  fun b hb => Dev.word_set d ⟨a, lo, w⟩ v b (by simpa using hb) (.inl h)

/-- Words written from an address leave every word outside their run. -/
theorem Dev.word_putWords_outside (d : Dev) (a n x : Nat) {b : Nat} (h : b < a ∨ a + 4 * n ≤ b) : (d.putWords a n x).word b = d.word b := by
  induction n generalizing d a x with
  | zero => rfl
  | succ n ih =>
    rw [Dev.putWords, ih _ _ _ (by omega), Dev.word_putWord_ne _ _ _ (by omega)]

/-- Word `w` of a number written from an address. -/
theorem Dev.word_putWords_inside (d : Dev) (a n x : Nat) {w : Nat} (h : w < n) :
    ((d.putWords a n x).word (a + 4 * w)).toNat = x / 2 ^ (32 * w) % 2 ^ 32 := by
  induction n generalizing d a x w with
  | zero => omega
  | succ n ih =>
    rw [Dev.putWords]
    cases w with
    | zero => rw [Dev.word_putWords_outside _ _ _ _ (by omega)]; simp
    | succ w =>
      rw [show a + 4 * (w + 1) = a + 4 + 4 * w by omega, ih _ _ _ (by omega), Nat.div_div_eq_div_mul, ← Nat.pow_add,
        show 32 + 32 * w = 32 * (w + 1) by omega]

/-- Words written from an address leave a field of a word outside their run. -/
theorem Dev.get_putWords_outside (d : Dev) (a n x : Nat) {f : Fld} (hf : f.lo + f.width ≤ 32) (h : f.addr < a ∨ a + 4 * n ≤ f.addr) :
    (d.putWords a n x).get f = d.get f :=
  Dev.get_eq_of_word_eq hf (Dev.word_putWords_outside d a n x h)

/-! ## Snapshots (R10) -/

/-- No two snapshot registers share an address. -/
theorem find_snapshotRegs : ∀ p ∈ snapshotRegs, snapshotRegs.find? (fun q => q.1 == p.1) = some p := by decide

/-- PWR_SNAPSHOT latches the counts of PWR. -/
theorem snapshotRegs_pwr : ∀ p ∈ snapshotRegs, p.1 = 0x1100008 → p = (0x1100008, 0x1100000, 0x1200000) := by decide

/-- A latched copy after a TAKE: the live count inside the run, the copy of before outside it. -/
theorem mapGet_takeSnapshot (b : Bus) (lo hi k : Nat) :
    mapGet (takeSnapshot b lo hi).snap k = if lo ≤ k ∧ k < hi then mapGet b.ctr k else mapGet b.snap k := by
  simp only [takeSnapshot, mapGet_append, mapGet_filter_key (fun a => decide (a < lo) || decide (hi ≤ a)),
    mapGet_filter_key (fun a => decide (lo ≤ a) && decide (a < hi))]
  by_cases h : lo ≤ k ∧ k < hi
  · rw [if_pos h, if_neg (by simp; omega), if_pos (by simpa using h), Option.none_or]
  · rw [if_neg h, if_pos (by simp; omega), if_neg (by simpa using h), Option.or_none]

/-- Measuring PWR_ENERGY writes the live counts only. -/
theorem Dev.measureEnergy_eq (d : Dev) (a : Nat) : ∃ c, d.measureEnergy a = { d with bus := { d.bus with ctr := c } } := by
  unfold Dev.measureEnergy
  split
  · exact ⟨_, rfl⟩
  · exact ⟨d.bus.ctr, rfl⟩

/-- Measuring PWR_ENERGY leaves every other count. -/
theorem Dev.measureEnergy_ctr_ne (d : Dev) (a : Nat) {k : Nat} (h : k ≠ 0x1100100) :
    mapGet (d.measureEnergy a).bus.ctr k = mapGet d.bus.ctr k := by
  unfold Dev.measureEnergy
  split
  · exact mapGet_mapPut_ne _ _ h
  · rfl

/-- PWR_SNAPSHOT measures PWR_ENERGY. -/
theorem Dev.measureEnergy_ctr_self (d : Dev) :
    mapGet (d.measureEnergy 0x1100008).bus.ctr 0x1100100 = some (BitVec.ofNat 64 (Config.sensor 5 d.time.cycles)) :=
  mapGet_mapPut_self _ _ _

/-- SNAPSHOT_TAKE at a register that answers. -/
theorem execSnapshotTake_of_mem {s : State} {a lo hi : Nat} (h : (a, lo, hi) ∈ snapshotRegs) (hr : s.dev.responds a = true)
    (ho : s.dev.addrOff a = false) :
    execSnapshotTake a s = done s { s.dev.measureEnergy a with bus := takeSnapshot (s.dev.measureEnergy a).bus lo hi } := by
  have hf : snapshotRegs.find? (fun q => q.1 == a) = some (a, lo, hi) := find_snapshotRegs _ h
  simp only [execSnapshotTake, hf, hr, ho, Bool.not_false, Bool.and_self, if_true]

/-- A TAKE latches the counts of its block and moves no live value but the energy that it measures (R10). -/
theorem snapshotTake_latches (s : State) (a lo hi : Nat) (h : (a, lo, hi) ∈ snapshotRegs) (hl : s.dev.Live) (ho : s.dev.addrOff a = false) :
    Yields (.snapshotTake a) s (fun d => (∀ k, lo ≤ k → k < hi → k ≠ 0x1100100 → mapGet d.bus.snap k = mapGet s.dev.bus.ctr k) ∧
      (∀ k, k < lo ∨ hi ≤ k → mapGet d.bus.snap k = mapGet s.dev.bus.snap k) ∧ { d with bus := s.dev.bus } = s.dev ∧
      (∀ k, k ≠ 0x1100100 → d.ctr k = s.dev.ctr k) ∧ d.bus.words = s.dev.bus.words ∧
      (a = 0x1100008 → mapGet d.bus.snap 0x1100100 = some (BitVec.ofNat 64 (Config.sensor 5 s.dev.time.cycles)))) := by
  obtain ⟨c, hc⟩ := s.dev.measureEnergy_eq a
  refine Yields.of _ (execSnapshotTake_of_mem h (hl.responds a) ho) ⟨?inside, ?outside, ?rest, ?counts, ?words, ?energy⟩
  case inside =>
    intro k h1 h2 hk
    exact (mapGet_takeSnapshot _ lo hi k).trans ((if_pos ⟨h1, h2⟩).trans (s.dev.measureEnergy_ctr_ne a hk))
  case outside =>
    intro k hk
    exact (mapGet_takeSnapshot _ lo hi k).trans ((if_neg (by omega)).trans (by rw [hc]))
  case rest => rw [hc]
  case counts =>
    intro k hk
    exact congrArg (fun o : Option Dword => (o.getD 0).toNat) (s.dev.measureEnergy_ctr_ne a hk)
  case words => rw [hc]; rfl
  case energy =>
    intro ha
    subst ha
    obtain ⟨rfl, rfl⟩ : lo = 0x1100000 ∧ hi = 0x1200000 := by simpa using snapshotRegs_pwr _ h rfl
    exact (mapGet_takeSnapshot _ _ _ _).trans ((if_pos (by decide)).trans s.dev.measureEnergy_ctr_self)

/-! ## The index registers (R455) -/

/-- LOG_TAIL_WRITE at an index register of a live module. -/
theorem execLogTailWrite_of_mem {s : State} {ix tail : Nat} (h : ix ∈ logIndexes) (hl : s.dev.Live) (ht : tail < 256) :
    execLogTailWrite ix tail s =
      if (tail + 256 - s.dev.get ⟨ix, 8, 8⟩) % 256 ≤ (s.dev.get ⟨ix, 0, 8⟩ + 256 - s.dev.get ⟨ix, 8, 8⟩) % 256
      then done s (s.dev.set ⟨ix, 8, 8⟩ tail) else done s s.dev := by
  simp [execLogTailWrite, h, hl.responds ix, Nat.mod_eq_of_lt ht]

/-- A write of TAIL moves it exactly to a place between TAIL and HEAD (R455). -/
theorem logTailWrite_moves_tail (s : State) (ix tail : Nat) (h : ix ∈ logIndexes) (hl : s.dev.Live) (ht : tail < 256) :
    Yields (.logTailWrite ix tail) s (fun d =>
      d.get ⟨ix, 8, 8⟩ = (if (tail + 256 - s.dev.get ⟨ix, 8, 8⟩) % 256 ≤ (s.dev.get ⟨ix, 0, 8⟩ + 256 - s.dev.get ⟨ix, 8, 8⟩) % 256
        then tail else s.dev.get ⟨ix, 8, 8⟩) ∧
      d.get ⟨ix, 0, 8⟩ = s.dev.get ⟨ix, 0, 8⟩ ∧ d.get ⟨ix, 16, 16⟩ = s.dev.get ⟨ix, 16, 16⟩ ∧ SameWordsBut [ix] d s.dev) := by
  have he := execLogTailWrite_of_mem h hl ht
  split at he
  case isTrue hrun =>
    refine Yields.of _ he ⟨?_, Dev.get_set_disjoint _ _ (by decide) (by decide) (by decide),
      Dev.get_set_disjoint _ _ (by decide) (by decide) (by decide), sameWordsBut_set s.dev tail (by decide)⟩
    rw [if_pos hrun, Dev.get_set_place _ _ (by decide)]
    exact Nat.mod_eq_of_lt ht
  case isFalse hrun =>
    exact Yields.of _ he ⟨(if_neg hrun).symm, rfl, rfl, fun _ _ => rfl⟩

/-- LOST_READ at an index register of a live module. -/
theorem execLostRead_of_mem {s : State} {ix : Nat} (h : ix ∈ logIndexes) (hl : s.dev.Live) :
    execLostRead ix s = done s ((s.dev.emit (.readData (s.dev.word ix).toNat)).set ⟨ix, 16, 16⟩ 0) := by
  simp [execLostRead, h, hl.responds ix]

/-- Reading LOST answers the word and clears LOST alone (R455). -/
theorem lostRead_clears_lost (s : State) (ix : Nat) (h : ix ∈ logIndexes) (hl : s.dev.Live) :
    Yields (.lostRead ix) s (fun d => d.out = s.dev.out ++ [.readData (s.dev.word ix).toNat] ∧ d.get ⟨ix, 16, 16⟩ = 0 ∧
      d.get ⟨ix, 0, 8⟩ = s.dev.get ⟨ix, 0, 8⟩ ∧ d.get ⟨ix, 8, 8⟩ = s.dev.get ⟨ix, 8, 8⟩ ∧ SameWordsBut [ix] d s.dev) :=
  Yields.of _ (execLostRead_of_mem h hl) ⟨rfl, (Dev.get_set_place _ _ (by decide)).trans (Nat.zero_mod _),
    Dev.get_set_disjoint _ _ (by decide) (by decide) (by decide), Dev.get_set_disjoint _ _ (by decide) (by decide) (by decide),
    sameWordsBut_set (s.dev.emit _) 0 (by decide)⟩

/-! ## An entry written to a log (R455) -/

section
variable (d : Dev) (ix win words entry : Nat)

/-- The device with an entry in the place that HEAD names and HEAD advanced: what a log's write does whether it is full or not. -/
def Dev.logPlaced : Dev :=
  (d.putWords (win + 4 * words * d.get ⟨ix, 0, 8⟩) words entry).set ⟨ix, 0, 8⟩ (d.get ⟨ix, 0, 8⟩ + 1)

/-- A log with room: the entry is placed. -/
theorem Dev.logPut_room (h : (d.get ⟨ix, 0, 8⟩ + 256 - d.get ⟨ix, 8, 8⟩) % 256 < 255) :
    d.logPut ix win words entry = d.logPlaced ix win words entry := if_neg (by omega)

/-- A full log: the entry is placed, the oldest entry is given up, and its loss counted. -/
theorem Dev.logPut_full (h : (d.get ⟨ix, 0, 8⟩ + 256 - d.get ⟨ix, 8, 8⟩) % 256 = 255) :
    d.logPut ix win words entry = ((d.logPlaced ix win words entry).set ⟨ix, 8, 8⟩ (d.get ⟨ix, 8, 8⟩ + 1)).set ⟨ix, 16, 16⟩
      (satAdd 65535 (d.get ⟨ix, 16, 16⟩) 1) := if_pos h

/-- HEAD names the next of the 256 places. -/
theorem Dev.logPlaced_head : (d.logPlaced ix win words entry).get ⟨ix, 0, 8⟩ = (d.get ⟨ix, 0, 8⟩ + 1) % 256 :=
  Dev.get_set_place _ _ (by decide)

variable {ix win words}

/-- An index register outside a log's window lies outside each of its entries. -/
theorem index_outside_entry {head : Nat} (h : win + 4 * words * 256 ≤ ix ∨ ix + 4 ≤ win) (hh : head < 256) :
    ix < win + 4 * words * head ∨ win + 4 * words * head + 4 * words ≤ ix := by
  have hend : 4 * words * (head + 1) ≤ 4 * words * 256 := Nat.mul_le_mul_left _ hh
  rw [Nat.mul_add] at hend
  omega

/-- Placing an entry leaves the fields of the index register above HEAD. -/
theorem Dev.logPlaced_get (h : win + 4 * words * 256 ≤ ix ∨ ix + 4 ≤ win) {lo w : Nat} (hlo : 8 ≤ lo) (hw : lo + w ≤ 32) :
    (d.logPlaced ix win words entry).get ⟨ix, lo, w⟩ = d.get ⟨ix, lo, w⟩ := by
  rw [Dev.logPlaced, Dev.get_set_disjoint _ _ (by decide) hw (.inl hlo),
    Dev.get_putWords_outside _ _ _ _ hw (index_outside_entry h (d.get_lt ⟨ix, 0, 8⟩))]

/-- The placed entry stands word by word in the place that HEAD named. -/
theorem Dev.logPlaced_word (h : win + 4 * words * 256 ≤ ix ∨ ix + 4 ≤ win) {w : Nat} (hw : w < words) :
    ((d.logPlaced ix win words entry).word (win + 4 * words * d.get ⟨ix, 0, 8⟩ + 4 * w)).toNat = entry / 2 ^ (32 * w) % 2 ^ 32 := by
  have hout := index_outside_entry h (d.get_lt ⟨ix, 0, 8⟩)
  rw [Dev.logPlaced, sameWordsBut_set _ _ (by decide) _ (by rw [List.mem_singleton]; omega), Dev.word_putWords_inside _ _ _ _ hw]

/-- An entry that arrives at a full log moves TAIL and counts in LOST (R455). -/
theorem Dev.logPut_full_index (hfull : (d.get ⟨ix, 0, 8⟩ + 256 - d.get ⟨ix, 8, 8⟩) % 256 = 255) :
    (d.logPut ix win words entry).get ⟨ix, 0, 8⟩ = (d.get ⟨ix, 0, 8⟩ + 1) % 256 ∧
    (d.logPut ix win words entry).get ⟨ix, 8, 8⟩ = (d.get ⟨ix, 8, 8⟩ + 1) % 256 ∧
    (d.logPut ix win words entry).get ⟨ix, 16, 16⟩ = min 65535 (d.get ⟨ix, 16, 16⟩ + 1) := by
  rw [Dev.logPut_full d ix win words entry hfull]
  refine ⟨?head, ?tail, ?lost⟩
  case head =>
    rw [Dev.get_set_disjoint _ _ (by decide) (by decide) (by decide), Dev.get_set_disjoint _ _ (by decide) (by decide) (by decide),
      Dev.logPlaced_head]
  case tail => exact (Dev.get_set_disjoint _ _ (by decide) (by decide) (by decide)).trans (Dev.get_set_place _ _ (by decide))
  case lost =>
    rw [Dev.get_set_place _ _ (by decide)]
    exact Nat.mod_eq_of_lt (Nat.lt_of_le_of_lt (Nat.min_le_left _ _) (by decide))

/-- An entry that arrives at a log with room stands at HEAD and leaves TAIL and LOST (R455). -/
theorem Dev.logPut_room_index (h : win + 4 * words * 256 ≤ ix ∨ ix + 4 ≤ win)
    (hroom : (d.get ⟨ix, 0, 8⟩ + 256 - d.get ⟨ix, 8, 8⟩) % 256 < 255) :
    (d.logPut ix win words entry).get ⟨ix, 0, 8⟩ = (d.get ⟨ix, 0, 8⟩ + 1) % 256 ∧
    (d.logPut ix win words entry).get ⟨ix, 8, 8⟩ = d.get ⟨ix, 8, 8⟩ ∧
    (d.logPut ix win words entry).get ⟨ix, 16, 16⟩ = d.get ⟨ix, 16, 16⟩ ∧
    ∀ w < words, ((d.logPut ix win words entry).word (win + 4 * words * d.get ⟨ix, 0, 8⟩ + 4 * w)).toNat = entry / 2 ^ (32 * w) % 2 ^ 32 := by
  rw [Dev.logPut_room d ix win words entry hroom]
  exact ⟨Dev.logPlaced_head d ix win words entry, Dev.logPlaced_get d entry h (by decide) (by decide),
    Dev.logPlaced_get d entry h (by decide) (by decide), fun w hw => Dev.logPlaced_word d entry h hw⟩

end

/-- Settles O8: a TAKE latches its block alone, TAIL moves only towards HEAD, reading LOST clears LOST alone, and an entry moves HEAD, and TAIL and
LOST with it exactly when the log is full. -/
theorem snapshotsAndLogReadsMoveOnlyTheirOwn : Obligations.SnapshotsAndLogReadsMoveOnlyTheirOwn :=
  ⟨snapshotTake_latches, logTailWrite_moves_tail, lostRead_clears_lost,
    fun d _ _ _ entry _ hfull => Dev.logPut_full_index d entry hfull,
    fun d _ _ _ entry h hroom => Dev.logPut_room_index d entry h hroom⟩

end Sys2Proof.Machine
end

section
/-! PROOFS. How a command that may free a frame ends (R69). -/
namespace Sys2Proof.Machine
open Sys2Proof

/-- Two devices that differ at most in what their ports have asked their partners to pause, and in what has left the module. -/
def Dev.PauseOnly (d e : Dev) : Prop :=
  (∃ ports out, e = { d with net := { d.net with ports := ports }, out := out }) ∧
    ∀ n, ∃ l, e.port n = { d.port n with xoff := l }

theorem Dev.PauseOnly.refl (d : Dev) : d.PauseOnly d := ⟨⟨_, _, rfl⟩, fun _ => ⟨_, rfl⟩⟩

theorem Dev.PauseOnly.trans {d e f : Dev} (h : d.PauseOnly e) (h' : e.PauseOnly f) : d.PauseOnly f := by
  obtain ⟨⟨p, o, rfl⟩, hp⟩ := h
  obtain ⟨⟨p', o', rfl⟩, hp'⟩ := h'
  refine ⟨⟨p', o', rfl⟩, fun n => ?_⟩
  obtain ⟨l, hl⟩ := hp n
  obtain ⟨l', hl'⟩ := hp' n
  exact ⟨l', by rw [hl', hl]⟩

/-- A port's list of paused priorities written. -/
theorem Dev.pauseOnly_xoff (d : Dev) (p : Nat) (l : List Nat) :
    d.PauseOnly (d.modNet (fun y => { y with ports := mapPut y.ports p { mapGetD d.net.ports p {} with xoff := l } })) := by
  refine ⟨⟨_, d.out, rfl⟩, fun n => ?_⟩
  by_cases h : n = p
  · subst h
    exact ⟨l, by simp [Dev.port, mapGetD]⟩
  · exact ⟨(d.port n).xoff, by simp [Dev.port, mapGetD, mapGet_mapPut_ne _ _ h]⟩

theorem Dev.pauseOnly_emit (d : Dev) (o : Out) : d.PauseOnly (d.emit o) := ⟨⟨_, _, rfl⟩, fun _ => ⟨_, rfl⟩⟩

/-- Steps that each change pauses only change pauses only. -/
theorem Dev.PauseOnly.foldl {α : Type} {f : Dev → α → Dev} (h : ∀ (d : Dev) a, d.PauseOnly (f d a)) (d : Dev) (l : List α) : d.PauseOnly (l.foldl f d) := by
  induction l generalizing d with
  | nil => exact .refl d
  | cons a t ih => exact (h d a).trans (ih _)

theorem Dev.pauseOnly_pauseJudge (d : Dev) (p k : Nat) : d.PauseOnly (d.pauseJudge p k) := by
  unfold Dev.pauseJudge
  dsimp only
  split
  · split
    · exact (d.pauseOnly_xoff p _).trans (Dev.pauseOnly_emit _ _)
    · exact .refl d
  · split
    · exact (d.pauseOnly_xoff p _).trans (Dev.pauseOnly_emit _ _)
    · exact .refl d

theorem Dev.pauseOnly_xoffForget (d : Dev) (p : Nat) : d.PauseOnly (d.xoffForget p) := by
  unfold Dev.xoffForget
  dsimp only
  split
  · exact .refl d
  · exact d.pauseOnly_xoff p _

/-- Judging the pauses of every port changes what they ask for alone (R69). -/
theorem Dev.pauseOnly_pauseSettle (d : Dev) : d.PauseOnly d.pauseSettle := by
  refine Dev.PauseOnly.foldl (fun d p => (d.pauseOnly_xoffForget p).trans ?_) d _
  dsimp only
  split
  · exact Dev.pauseOnly_pauseJudge _ _ _
  · split
    · exact .refl _
    · exact Dev.PauseOnly.foldl (fun d k => d.pauseOnly_pauseJudge p k) _ _
  · exact .refl _

/-- The failed accesses that their own commands report are left to them; with none listed there is nothing to handle. -/
theorem Dev.faultsN_quiet {d : Dev} (h : d.hif.faulted = []) (n : Nat) : d.faultsN n = d := by
  cases n with
  | zero => rfl
  | succ n => simp [Dev.faultsN, h]

/-- A meaning that ends with its pauses judged, and with no failed access to handle, yields what holds of every device that differs from its own
in pauses only. -/
theorem Yields.of_doneH {c : Instr} {s : State} {P : Dev → Prop} (d : Dev) (h : exec c s = doneH s d) (hf : d.hif.faulted = [])
    (p : ∀ e, d.PauseOnly e → P e) : Yields c s P :=
  ⟨d.pauseSettle, by rw [h, doneH, Dev.faultsN_quiet hf]; rfl, p _ d.pauseOnly_pauseSettle⟩

/-- What an instruction yields it yields in every weaker form. -/
theorem Yields.mono {c : Instr} {s : State} {P Q : Dev → Prop} (h : Yields c s P) (hp : ∀ d, P d → Q d) : Yields c s Q := by
  obtain ⟨d, hexec, hd⟩ := h
  exact ⟨d, hexec, hp d hd⟩

namespace Dev.PauseOnly
variable {d e : Dev} (h : d.PauseOnly e)
include h

theorem eq : { e with net := d.net, out := d.out } = d := by obtain ⟨⟨p, o, rfl⟩, -⟩ := h; rfl
theorem bus : e.bus = d.bus := by obtain ⟨⟨p, o, rfl⟩, -⟩ := h; rfl
theorem shuts : e.shuts = d.shuts := by obtain ⟨⟨p, o, rfl⟩, -⟩ := h; rfl
theorem barb : e.barb = d.barb := by obtain ⟨⟨p, o, rfl⟩, -⟩ := h; rfl
theorem nextShut : e.nextShut = d.nextShut := by obtain ⟨⟨p, o, rfl⟩, -⟩ := h; rfl
theorem get (f : Fld) : e.get f = d.get f := by rw [Dev.get, h.bus]; rfl
theorem ctr (k : Nat) : e.ctr k = d.ctr k := by rw [Dev.ctr, h.bus]; rfl
theorem shut (i : Nat) : e.shut i = d.shut i := by rw [Dev.shut, h.shuts]; rfl
theorem thread (n : Nat) : e.thread n = d.thread n := by rw [Dev.thread, h.barb]; rfl
theorem chan (q : Nat) : e.chan q = d.chan q := by rw [Dev.chan, h.barb]; rfl
theorem cur (n : Nat) : (e.port n).cur = (d.port n).cur := by obtain ⟨-, hp⟩ := h; obtain ⟨l, hl⟩ := hp n; rw [hl]
theorem stamps (n : Nat) : (e.port n).stamps = (d.port n).stamps := by obtain ⟨-, hp⟩ := h; obtain ⟨l, hl⟩ := hp n; rw [hl]

end Dev.PauseOnly

end Sys2Proof.Machine
end

section
/-! PROOFS. The arbiters before a pipeline and before a core (R17, R21, R54). -/
namespace Sys2Proof.Machine
open Sys2Proof

/-- The arbiters' order has no two shuttles before each other. -/
theorem Dev.arbBefore_asymm (d : Dev) {early : Bool} {a b : Shut} (h : d.arbBefore early a b = true) : d.arbBefore early b a = false := by
  simp only [Dev.arbBefore] at h ⊢
  by_cases hr : arbRank early a = arbRank early b
  · rw [if_neg (by simpa using hr)] at h
    rw [if_neg (by simpa using hr.symm)]
    by_cases ht : arbRank early a = 0 ∧ d.arbTime early a ≠ d.arbTime early b
    · rw [if_pos ht, decide_eq_true_eq] at h
      rw [if_pos ⟨hr ▸ ht.1, ht.2.symm⟩, decide_eq_false_iff_not]
      omega
    · rw [if_neg ht, decide_eq_true_eq] at h
      rw [if_neg (fun h' => ht ⟨hr.trans h'.1, h'.2.symm⟩), decide_eq_false_iff_not]
      omega
  · rw [if_pos hr, decide_eq_true_eq] at h
    rw [if_pos (Ne.symm hr), decide_eq_false_iff_not]
    omega

/-- A search that keeps one of what it has seen ends with the member that replaces every other and that none replaces. -/
theorem foldl_best {α : Type} (f : Option α → α → Option α) (a : α) (l : List α) (b : Option α) (hb : b = some a ∨ a ∈ l)
    (hbl : ∀ p, b = some p → p = a ∨ f (some p) a = some a) (hnone : f none a = some a)
    (hone : ∀ b p, f b p = b ∨ f b p = some p) (hkeep : ∀ p ∈ l, p ≠ a → f (some a) p = some a)
    (htake : ∀ p ∈ l, p ≠ a → f (some p) a = some a) : l.foldl f b = some a := by
  induction l generalizing b with
  | nil => simpa using hb
  | cons q t ih =>
    have self : f (some a) a = some a := by simpa using hone (some a) a
    refine ih _ ?_ (fun p hp => ?_) (fun p hp => hkeep p (.tail _ hp)) (fun p hp => htake p (.tail _ hp))
    · by_cases hq : q = a
      · subst hq
        left
        match b with
        | none => exact hnone
        | some p => rcases hbl p rfl with rfl | h
                    · exact self
                    · exact h
      · refine hb.imp (fun h => by rw [h]; exact hkeep q (.head _) hq) (fun h => ?_)
        exact (List.mem_cons.mp h).resolve_left (Ne.symm hq)
    · by_cases hpa : p = a
      · exact .inl hpa
      · refine .inr ?_
        rcases hone b q with h | h
        · exact (hbl p (h ▸ hp)).resolve_left hpa
        · obtain rfl : q = p := by simpa [h] using hp
          exact htake q (.head _) hpa

/-- The arbiter serves the shuttle that comes before every other one. -/
theorem Dev.arbFirst_of_before (d : Dev) {early : Bool} {l : List (Nat × Shut)} {i : Nat} {x : Shut} (hm : (i, x) ∈ l)
    (h : ∀ p ∈ l, p ≠ (i, x) → d.arbBefore early x p.2 = true) : d.arbFirst early l = some i := by
  rw [Dev.arbFirst, foldl_best _ (i, x) l none (.inr hm) (by simp) rfl]
  · rfl
  · intro b p
    cases b with
    | none => exact .inr rfl
    | some q => dsimp only; split <;> simp
  · intro p hp hne
    simp [d.arbBefore_asymm (h p hp hne)]
  · intro p hp hne
    simp [h p hp hne]

/-- A guaranteed shuttle comes before any other (R21). -/
theorem Dev.arbBefore_guaranteed (d : Dev) {a b : Shut} (ha : a.guaranteed = true) (hb : b.guaranteed = false) : d.arbBefore false a b = true := by
  simp only [Dev.arbBefore, arbRank, ha, hb, Bool.false_and, Bool.or_false, Bool.false_eq_true, if_true, if_false]
  split <;> simp

/-- Of two guaranteed shuttles the one with the earlier deadline comes first (R21). -/
theorem Dev.arbBefore_deadline (d : Dev) {a b : Shut} (ha : a.guaranteed = true) (hb : b.guaranteed = true)
    (h : d.onScale a.deadline a.dlEpoch < d.onScale b.deadline b.dlEpoch) : d.arbBefore false a b = true := by
  simp [Dev.arbBefore, arbRank, Dev.arbTime, ha, hb, h, Int.ne_of_lt h]

theorem Shut.not_guaranteed_of_class {s : Shut} (h : 2 ≤ s.get S.CLASS) : s.guaranteed = false := by
  simp only [Shut.guaranteed, decide_eq_false_iff_not]
  omega

/-- AS comes before BE (R21). -/
theorem Dev.arbBefore_as_be (d : Dev) {a b : Shut} (ha : a.get S.CLASS = 2) (hb : b.get S.CLASS = 3) : d.arbBefore false a b = true := by
  simp [Dev.arbBefore, arbRank, Shut.not_guaranteed_of_class, ha, hb]

/-- Within AS and within BE the order is that of arrival (R21). -/
theorem Dev.arbBefore_arrival (d : Dev) {a b : Shut} (ha : a.guaranteed = false) (hb : b.guaranteed = false) (h : a.get S.CLASS = b.get S.CLASS) :
    d.arbBefore false a b = decide (a.seq < b.seq) := by
  have hr : arbRank false b ≠ 0 := by
    simp only [arbRank, hb, Bool.false_and, Bool.or_false, Bool.false_eq_true, if_false]
    split <;> simp
  have he : arbRank false a = arbRank false b := by simp [arbRank, ha, hb, h]
  simp [Dev.arbBefore, he, hr]

/-! ## Shuttles by their identifier -/

/-- In a sparse table in order an entry of the list is the one that its key reads. -/
theorem mapGet_of_mem {α : Type} {m : SMap α} (hs : mapSorted m = true) {p : Nat × α} (h : p ∈ m) : mapGet m p.1 = some p.2 := by
  induction m with
  | nil => cases h
  | cons q t ih =>
    obtain ⟨k, v⟩ := q
    rcases List.mem_cons.mp h with rfl | h
    · simp [mapGet]
    · rw [mapGet, if_neg (Nat.ne_of_gt (mapSorted_head hs p h)), ih (mapSorted_tail hs) h]

/-- What a key reads stands in the list. -/
theorem mem_of_mapGet {α : Type} {m : SMap α} {a : Nat} {x : α} (h : mapGet m a = some x) : (a, x) ∈ m := by
  induction m with
  | nil => cases h
  | cons q t ih =>
    obtain ⟨k, v⟩ := q
    rw [mapGet] at h
    split at h
    · rename_i e
      obtain rfl : v = x := by simpa using h
      exact e ▸ .head _
    · exact .tail _ (ih h)

@[simp] theorem Dev.shut_putShut_self (d : Dev) (i : Nat) (s : Shut) : (d.putShut i s).shut i = some s := mapGet_mapPut_self _ _ _
theorem Dev.shut_putShut_ne (d : Dev) {i j : Nat} (s : Shut) (h : j ≠ i) : (d.putShut i s).shut j = d.shut j := mapGet_mapPut_ne _ _ h

theorem Dev.modShut_of_shut {d : Dev} {i : Nat} {x : Shut} (h : d.shut i = some x) (f : Shut → Shut) : d.modShut i f = d.putShut i (f x) := by
  simp [Dev.modShut, h]

/-- PIPELINE_ENTRY takes the waiting shuttle that comes before every other one of its pipeline and starts its pass (R16, R17). -/
theorem pipelineEntry_starts_first (s : State) (pipe i : Nat) (x : Shut) (hg : s.dev.flt.gap = 0) (hs : mapSorted s.dev.shuts = true)
    (hx : s.dev.shut i = some x) (hst : x.stage = .entry) (hp : x.pipe = pipe) (hd : x.dropReason = none)
    (hf : ∀ p ∈ s.dev.shuts, p.1 ≠ i → p.2.stage = .entry → p.2.pipe = pipe → p.2.dropReason = none → s.dev.arbBefore true x p.2 = true) :
    Yields (.pipelineEntry pipe) s (fun d => d.shut i = some { (if x.get S.PASS = 0 then x.set S.PASS 1 else x) with stage := .pass } ∧
      (∀ j, j ≠ i → d.shut j = s.dev.shut j) ∧ { d with shuts := s.dev.shuts } = s.dev) := by
  have hfirst : s.dev.arbFirst true (s.dev.shuts.filter (fun p => p.2.stage == .entry && p.2.pipe == pipe && p.2.dropReason.isNone)) = some i := by
    refine s.dev.arbFirst_of_before (x := x) ?_ (fun p hm hne => ?_)
    · simp [List.mem_filter, mem_of_mapGet hx, hst, hp, hd]
    · simp only [List.mem_filter, Bool.and_eq_true, beq_iff_eq, Option.isNone_iff_eq_none] at hm
      obtain ⟨hm, ⟨h1, h2⟩, h3⟩ := hm
      refine hf p hm (fun e => hne (Prod.ext e ?_)) h1 h2 h3
      have := mapGet_of_mem hs hm
      rw [e] at this
      exact Option.some.inj (this.symm.trans hx)
  refine Yields.of (s.dev.putShut i { (if x.get S.PASS = 0 then x.set S.PASS 1 else x) with stage := .pass }) ?_
    ⟨Dev.shut_putShut_self _ _ _, fun j hj => Dev.shut_putShut_ne _ _ hj, rfl⟩
  change execPipelineEntry pipe s = _
  simp only [execPipelineEntry, Dev.deciding, hg, hfirst, Dev.modShut_of_shut hx]
  rfl

end Sys2Proof.Machine
end

section
/-! PROOFS. The fields of a shuttle, match resolution and the words of an action list (R19, R146, R148). -/
namespace Sys2Proof.Machine
open Sys2Proof

/-! ## Fields of a shuttle (R19) -/

/-- A field written within a bit vector loses no bit. -/
theorem toNat_ofNat_bitsSet {n : Nat} (w : BitVec n) (lo wd v : Nat) (h : lo + wd ≤ n) :
    (BitVec.ofNat n (bitsSet w.toNat lo wd v)).toNat = bitsSet w.toNat lo wd v := Nat.mod_eq_of_lt (bitsSet_lt _ _ _ _ n w.isLt h)

/-- A shuttle's word with a field written, as a number. -/
theorem Shut.set_w_toNat (s : Shut) {f : Bits} (v : Nat) (h : f.lo + f.width ≤ 1024) : (s.set f v).w.toNat = bitsSet s.w.toNat f.lo f.width v :=
  toNat_ofNat_bitsSet s.w _ _ v h

/-- A written field of a shuttle reads back. -/
theorem Shut.get_set_self (s : Shut) {f : Bits} (v : Nat) (h : f.lo + f.width ≤ 1024) : (s.set f v).get f = v % 2 ^ f.width := by
  rw [Shut.get, s.set_w_toNat v h, bitsOf_bitsSet_self]

/-- Two fields of a shuttle within its word that share no bit. -/
def bitsApart (f g : Bits) : Bool := decide (f.lo + f.width ≤ 1024) && (decide (g.lo + g.width ≤ f.lo) || decide (f.lo + f.width ≤ g.lo))

/-- A field of a shuttle apart from the written one is as before. -/
theorem Shut.get_set_apart (s : Shut) {f g : Bits} (v : Nat) (h : bitsApart f g = true) : (s.set f v).get g = s.get g := by
  simp only [bitsApart, Bool.and_eq_true, Bool.or_eq_true, decide_eq_true_eq] at h
  rw [Shut.get, s.set_w_toNat v h.1, bitsOf_bitsSet_apart _ _ _ _ _ _ h.2, Shut.get]

theorem Shut.flag_mark_self (s : Shut) {b : Nat} (h : b < 32) : (s.mark b).flag b = true := by
  rw [Shut.flag, Shut.mark, s.get_set_self 1 (by simp only [S.FLAG]; omega)]
  rfl

/-! ## Match resolution (R146, Table 7) -/

/-- The four rows of Table 7. -/
theorem resolve_rows (c : CfgSet) (port f k : Nat) (r w : Rec) :
    (recGet w WR.FINAL ≠ 1 → ((c.resolve port (some (f, r)) (some (k, w))).flow, (c.resolve port (some (f, r)) (some (k, w))).rule,
      (c.resolve port (some (f, r)) (some (k, w))).store, (c.resolve port (some (f, r)) (some (k, w))).action) = (f, f, 0, recGet r FR.ACTION)) ∧
    (recGet w WR.FINAL = 1 → ((c.resolve port (some (f, r)) (some (k, w))).flow, (c.resolve port (some (f, r)) (some (k, w))).rule,
      (c.resolve port (some (f, r)) (some (k, w))).store, (c.resolve port (some (f, r)) (some (k, w))).action) = (f, k, 1, recGet w WR.ACTION)) ∧
    ((c.resolve port none (some (k, w))).flow, (c.resolve port none (some (k, w))).store, (c.resolve port none (some (k, w))).action) =
      (recGet w WR.FLOW, 1, recGet w WR.ACTION) ∧
    ((c.resolve port none none).flow, (c.resolve port none none).rule, (c.resolve port none none).action) = (0, 2 ^ 22 - 1, c.get (F.HED_PORT_DEFAULT_LIST port)) := by
  refine ⟨fun h => ?_, fun h => ?_, rfl, rfl⟩
  · simp only [CfgSet.resolve, if_neg h]
  · simp only [CfgSet.resolve, if_pos h]

/-! ## Action lists (R148, Table 9) -/

/-- A list that has dropped its frame takes no further word. -/
theorem foldl_applyWord_dropped (first : Bool) {x : ListRun} (h : x.drop = true) (l : List Nat) : l.foldl (applyWord first) x = x := by
  induction l with
  | nil => rfl
  | cons w t ih => rw [List.foldl_cons, applyWord, if_pos h, ih]

/-- DROP marks the shuttle and ends the list. -/
theorem applyWord_drop (first : Bool) {x : ListRun} {w : Nat} (hw : awOp w = 0x0D) (h : x.drop = false) :
    applyWord first x w = { x with s := x.s.mark Fl.DROP, drop := true } := by
  simp [applyWord, h, hw]

/-- A word after DROP has no effect. -/
theorem runList_drop (first : Bool) (s : Shut) (l m : List Nat) (w : Nat) (hw : awOp w = 0x0D) (h : (runList first s l).drop = false) :
    runList first s (l ++ w :: m) = { runList first s l with s := (runList first s l).s.mark Fl.DROP, drop := true } := by
  unfold runList at h ⊢
  rw [List.foldl_append, List.foldl_cons, applyWord_drop first hw h, foldl_applyWord_dropped first rfl]

/-- A list that is one DROP word. -/
theorem runList_one_drop (first : Bool) (s : Shut) {w : Nat} (hw : awOp w = 0x0D) :
    runList first s [w] = { s := s.mark Fl.DROP, drop := true } := runList_drop first s [] [] w hw rfl

/-- A number of `n` bits of a word. -/
theorem bitsOf_mod (x lo n : Nat) : bitsOf x lo n % 2 ^ n = bitsOf x lo n := Nat.mod_mod _ _

/-- DEST, CIPHER, PROGRAM and RECIRC write their fields; the word 0 changes nothing. -/
theorem runList_one_fields (first : Bool) (s : Shut) (w : Nat) :
    (awOp w = 0x03 → (runList first s [w]).s.get S.DEST_PORT = bitsOf w 0 4 ∧ (runList first s [w]).s.get S.DEST_QUEUE = bitsOf w 4 14 ∧ (runList first s [w]).s.get S.DEST_VALID = 1) ∧
    (awOp w = 0x07 → (runList first s [w]).s.get S.SA = bitsOf w 0 20 ∧ (runList first s [w]).s.get S.CIPHER_OP = bitsOf w 20 3) ∧
    (awOp w = 0x08 → (runList first s [w]).s.get S.PROGRAM = bitsOf w 0 16) ∧ (awOp w = 0x0C → (runList first s [w]).s.flag Fl.RECIRCULATE = true) ∧
    (awOp w = 0x00 → (runList first s [w]).s = s) := by
  have run : runList first s [w] = applyWord first { s := s } w := rfl
  refine ⟨fun h => ?dest, fun h => ?cipher, fun h => ?program, fun h => ?recirc, fun h => ?nop⟩ <;>
    simp only [run, applyWord, h, Bool.false_eq_true, if_false]
  case dest =>
    change ((((s.set S.DEST_PORT (bitsOf w 0 4)).set S.DEST_QUEUE (bitsOf w 4 14)).set S.DEST_VALID 1).get S.DEST_PORT = _ ∧
      (((s.set S.DEST_PORT (bitsOf w 0 4)).set S.DEST_QUEUE (bitsOf w 4 14)).set S.DEST_VALID 1).get S.DEST_QUEUE = _ ∧
      (((s.set S.DEST_PORT (bitsOf w 0 4)).set S.DEST_QUEUE (bitsOf w 4 14)).set S.DEST_VALID 1).get S.DEST_VALID = _)
    refine ⟨?_, ?_, Shut.get_set_self _ _ (by decide)⟩
    · rw [Shut.get_set_apart _ _ (by decide), Shut.get_set_apart _ _ (by decide), Shut.get_set_self _ _ (by decide)]
      exact bitsOf_mod w 0 4
    · rw [Shut.get_set_apart _ _ (by decide), Shut.get_set_self _ _ (by decide)]
      exact bitsOf_mod w 4 14
  case cipher =>
    refine ⟨?_, ?_⟩
    · rw [Shut.get_set_apart _ _ (by decide), Shut.get_set_self _ _ (by decide)]
      exact bitsOf_mod w 0 20
    · rw [Shut.get_set_self _ _ (by decide)]
      exact bitsOf_mod w 20 3
  case program =>
    rw [Shut.get_set_self _ _ (by decide)]
    exact bitsOf_mod w 0 16
  case recirc => exact s.flag_mark_self (by decide)

end Sys2Proof.Machine
end

section
/-! PROOFS. A frame's pass: what parsing leaves of a shuttle, when a pass waits, and the discard of a frame that is not yet whole (R136 to R149). -/
namespace Sys2Proof.Machine
open Sys2Proof

/-! ## What parsing writes (R137 to R144) -/

/-- A shuttle with other words, and another VNI and TCI: all that parsing changes. -/
def Shut.Reparsed (s t : Shut) : Prop :=
  (∃ w vni tci, t = { s with w := w, vni := vni, tci := tci }) ∧ ∀ f : Bits, f.lo + f.width ≤ 384 → t.get f = s.get f

theorem Shut.Reparsed.refl (s : Shut) : s.Reparsed s := ⟨⟨_, _, _, rfl⟩, fun _ _ => rfl⟩

theorem Shut.Reparsed.trans {s t u : Shut} (h : s.Reparsed t) (h' : t.Reparsed u) : s.Reparsed u := by
  obtain ⟨⟨w, a, b, rfl⟩, hg⟩ := h
  obtain ⟨⟨w', a', b', rfl⟩, hg'⟩ := h'
  exact ⟨⟨w', a', b', rfl⟩, fun f hf => (hg' f hf).trans (hg f hf)⟩

/-- Fields from bit 384 on: the offsets, the flags and FLOW_HASH. -/
theorem Shut.reparsed_set (s : Shut) {f : Bits} (v : Nat) (h : 384 ≤ f.lo) (h' : f.lo + f.width ≤ 1024) : s.Reparsed (s.set f v) :=
  ⟨⟨_, _, _, rfl⟩, fun g hg => s.get_set_apart v (by simp only [bitsApart, Bool.and_eq_true, Bool.or_eq_true, decide_eq_true_eq]; omega)⟩

theorem Shut.reparsed_flag (s : Shut) (b : Nat) (c : Bool) (h : b < 32) : s.Reparsed (if c then s.mark b else s.unmark b) := by
  split
  · exact s.reparsed_set 1 (by simp only [S.FLAG]; omega) (by simp only [S.FLAG]; omega)
  · exact s.reparsed_set 0 (by simp only [S.FLAG]; omega) (by simp only [S.FLAG]; omega)

/-- The offsets written one by one. -/
theorem Shut.reparsed_offsets (s : Shut) (o : List Nat) (n : Nat) (h : n ≤ 12) :
    s.Reparsed ((List.range n).foldl (fun s k => s.set (S.OFFSET k) (o.getD k 0xFFFF)) s) := by
  induction n with
  | zero => exact .refl s
  | succ n ih =>
    rw [List.range_succ, List.foldl_append]
    exact (ih (by omega)).trans (Shut.reparsed_set _ _ (by simp only [S.OFFSET]; omega) (by simp only [S.OFFSET]; omega))

theorem Shut.reparsed_parsed (s : Shut) (p : Parsed) (app : Nat) (ptp : Bool) : s.Reparsed (s.parsed p app ptp) :=
  ((((s.reparsed_offsets _ 12 (by decide)).trans (Shut.reparsed_flag _ Fl.MALFORMED p.mal.isSome (by decide))).trans
    (Shut.reparsed_flag _ Fl.FRAGMENT (p.outer.frag || p.inner.frag) (by decide))).trans
    (Shut.reparsed_flag _ Fl.PTP_EVENT ptp (by decide))).trans ⟨⟨_, _, _, rfl⟩, fun _ _ => rfl⟩

/-- What Heddle knows of a frame holds the shuttle with what parsing wrote. -/
theorem Dev.reparsed_view (d : Dev) (s : Shut) : s.Reparsed (d.view s).s :=
  (s.reparsed_parsed _ _ _).trans (Shut.reparsed_set _ _ (by decide) (by decide))

/-! ## Places of the lookup pool, and a pass that waits (R145) -/

/-- An entry written where a filter drops the old one and the new one leaves what the filter keeps. -/
theorem filter_mapPut {α : Type} (q : α → Bool) (m : SMap α) (a : Nat) (x : α) (hx : q x = false) (h : ∀ y, mapGet m a = some y → q y = false) :
    (mapPut m a x).filter (fun p => q p.2) = m.filter (fun p => q p.2) := by
  induction m with
  | nil => simp [mapPut, hx]
  | cons p t ih =>
    obtain ⟨k, v⟩ := p
    rw [mapPut]
    split
    · simp [hx]
    · split
      · rename_i e
        have hv : q v = false := h v (by simp [mapGet, e])
        simp [hx, hv]
      · rename_i e
        simp only [List.filter_cons, ih (fun y hy => h y (by simpa [mapGet, e] using hy))]

section
variable {d : Dev} {i : Nat} {x y : Shut} (hx : d.shut i = some x) (hst : x.stage ≠ .ddr5) (hst' : y.stage ≠ .ddr5)
include hx hst hst'

/-- The shuttles that wait for a lookup stay the same when one that does not is written. -/
theorem Dev.ddr5_putShut : (d.putShut i y).shuts.filter (fun p => p.2.stage == .ddr5) = d.shuts.filter (fun p => p.2.stage == .ddr5) :=
  filter_mapPut (fun s : Shut => s.stage == .ddr5) d.shuts i y (by simpa using hst') (fun z hz => by
    obtain rfl : x = z := Option.some.inj (hx.symm.trans hz)
    simpa using hst)

/-- A shuttle that waits for no lookup takes and frees no place of the pool. -/
theorem Dev.poolPlace_putShut (gd : Bool) : (d.putShut i y).poolPlace gd = d.poolPlace gd := by
  simp only [Dev.poolPlace, Dev.ddr5_putShut hx hst hst']

theorem Dev.passWaits_putShut (v : View2) : (d.putShut i y).passWaits v = d.passWaits v := by
  have he : (d.putShut i y).exactOf v true = d.exactOf v true := rfl
  simp only [Dev.passWaits, he, Dev.poolPlace_putShut hx hst hst']

end

/-- A pass that its frame's order holds back changes nothing (R18). -/
theorem heddlePass_behind (s : State) (i : Nat) (x : Shut) (fp kp : Option Nat) (hx : s.dev.shut i = some x) (hb : s.dev.passBehind i x = true) :
    Yields (.heddlePass i fp kp) s (fun d => d = s.dev) := by
  refine Yields.of s.dev ?_ rfl
  change execHeddlePass i fp kp s = _
  simp [execHeddlePass, hx, hb]

/-- A shuttle without the mark that an entry read for it failed its parity check: as each pass begins (R145). -/
def Shut.clean (s : Shut) : Shut := { s with parityBad := false }

/-- HEDDLE_PASS of a shuttle whose pass is not its egress pipeline's: it waits, or the pass is made (R136). -/
theorem execHeddlePass_of_pass {s : State} {i : Nat} {x : Shut} (fp : Option Nat) (hx : s.dev.shut i = some x) (hst : x.stage = .pass)
    (hd : x.dropReason = none) (hr : x.resume ≠ 3) :
    execHeddlePass i fp none s = if !s.dev.deciding || s.dev.passBehind i x || s.dev.passWaits (s.dev.view x.clean) then done s s.dev
      else doneH s (((s.dev.putShut i x.clean).makePass i (s.dev.view x.clean) fp).settlePass i) := by
  have hne : x.stage ≠ .ddr5 := by simp [hst]
  have hy : x.clean.stage ≠ .ddr5 := hne
  simp only [execHeddlePass, hx]
  generalize hc : ({ x with parityBad := false } : Shut) = y
  change x.clean = y at hc
  rw [hc] at hy ⊢
  have hv : (s.dev.putShut i y).view y = s.dev.view y := rfl
  simp only [hst, hd, hr, Dev.indexParity, Dev.shut_putShut_self, Option.getD_some, hv, Dev.passWaits_putShut hx hne hy]
  cases s.dev.deciding <;> cases s.dev.passBehind i x <;> simp

/-- A pass whose frame still misses bytes that it reads changes nothing (R80, R136, R148). -/
theorem heddlePass_waits (s : State) (i : Nat) (x : Shut) (fp : Option Nat) (hx : s.dev.shut i = some x) (hst : x.stage = .pass)
    (hd : x.dropReason = none) (hr : x.resume ≠ 3) (hw : s.dev.passWaits (s.dev.view x.clean) = true) :
    Yields (.heddlePass i fp none) s (fun d => d = s.dev) :=
  Yields.of s.dev ((execHeddlePass_of_pass fp hx hst hd hr).trans (by simp [hw])) rfl

/-! ## A frame that is not yet whole is discarded -/

/-- A shuttle whose frame has not ended, that no lane holds and that holds no SA. -/
structure Shut.Open (s : Shut) : Prop where
  ended : s.ended = false
  lane : s.lane = none
  sa : s.holdsSa = none

@[simp] theorem Dev.unqueue_shut (d : Dev) (i j : Nat) : (d.unqueue i).shut j = d.shut j := rfl

/-- A shuttle whose frame is discarded before its end has arrived. -/
def Shut.discarded (s : Shut) (reason : Nat) : Shut := { s with stage := .ended, dropReason := some reason }

/-- The discard of a frame whose end has not arrived: its shuttle leaves Reed and keeps its place until then. -/
theorem Dev.discard_open {d : Dev} {i : Nat} {s : Shut} (reason : Nat) (hs : d.shut i = some s) (h : s.Open) :
    d.discard i reason = (d.unqueue i).putShut i (s.discarded reason) := by
  simp [Shut.discarded, Dev.discard, Dev.releaseSa, hs, h.ended, h.lane, h.sa]

/-- A pass that asks for no exception list is settled. -/
theorem Dev.settlePass_of_resume {d : Dev} {i : Nat} {s : Shut} (hs : d.shut i = some s) (hr : s.resume ≠ 2) : d.settlePass i = d := by
  simp [Dev.settlePass, hs, hr]

/-- A network frame on pass 1 whose end has not arrived, with no envelope and no policer of its own. -/
structure Shut.FirstPass (s : Shut) : Prop extends s.Open where
  kept : s.dropReason = none
  resume : s.resume = 0
  dir : s.get S.DIR = 0
  pass : s.get S.PASS = 1
  envelope : s.envelope = none
  police : s.polGeneral = none

theorem Shut.FirstPass.reparsed {s t : Shut} (h : s.FirstPass) (hr : s.Reparsed t) : t.FirstPass := by
  obtain ⟨⟨w, a, b, rfl⟩, hg⟩ := hr
  obtain ⟨⟨h1, h2, h3⟩, h4, h5, h6, h7, h8, h9⟩ := h
  exact ⟨⟨h1, h2, h3⟩, h4, h5, (hg S.DIR (by decide)).trans h6, (hg S.PASS (by decide)).trans h7, h8, h9⟩

/-- A field written that is neither DIR nor PASS. -/
theorem Shut.FirstPass.set {s : Shut} (h : s.FirstPass) {f : Bits} (v : Nat) (h1 : bitsApart f S.DIR = true) (h2 : bitsApart f S.PASS = true) :
    (s.set f v).FirstPass :=
  ⟨⟨h.ended, h.lane, h.sa⟩, h.kept, h.resume, (s.get_set_apart v h1).trans h.dir, (s.get_set_apart v h2).trans h.pass, h.envelope, h.police⟩

theorem Shut.FirstPass.status {s : Shut} (h : s.FirstPass) (c : Nat) : (s.status c).FirstPass := by
  unfold Shut.status
  split
  · exact h.set c (by decide) (by decide)
  · exact h

theorem Shut.FirstPass.withExc {s : Shut} (h : s.FirstPass) (e : Nat) : { s with exc := e }.FirstPass :=
  ⟨⟨h.ended, h.lane, h.sa⟩, h.kept, h.resume, h.dir, h.pass, h.envelope, h.police⟩

theorem Shut.FirstPass.withoutPolicer {s : Shut} (h : s.FirstPass) : { s with polGeneral := none }.FirstPass :=
  ⟨⟨h.ended, h.lane, h.sa⟩, h.kept, h.resume, h.dir, h.pass, h.envelope, rfl⟩

/-- A field apart from those of a match. -/
theorem MatchRes.get_write (m : MatchRes) (s : Shut) {f : Bits} (h1 : bitsApart S.FLOW_ID f = true) (h2 : bitsApart S.RULE f = true)
    (h3 : bitsApart S.RULE_STORE f = true) (h4 : bitsApart S.ACTION f = true) : (m.write s).get f = s.get f := by
  change ((((s.set S.FLOW_ID m.flow).set S.RULE m.rule).set S.RULE_STORE m.store).set S.ACTION m.action).get f = _
  rw [Shut.get_set_apart _ _ h4, Shut.get_set_apart _ _ h3, Shut.get_set_apart _ _ h2, Shut.get_set_apart _ _ h1]

/-- A shuttle made BE without a deadline. -/
theorem Shut.get_demoted (s : Shut) : ((s.set S.CLASS 3).set S.DEADLINE noDeadline).get S.CLASS = 3 ∧
    ((s.set S.CLASS 3).set S.DEADLINE noDeadline).get S.DEADLINE = noDeadline ∧
    ((s.set S.CLASS 3).set S.DEADLINE noDeadline).get S.STATUS = s.get S.STATUS := by
  refine ⟨?_, ?_, ?_⟩
  · rw [Shut.get_set_apart _ _ (by decide), Shut.get_set_self _ _ (by decide)]
    rfl
  · rw [Shut.get_set_self _ _ (by decide)]
    exact Nat.mod_eq_of_lt (by decide)
  · rw [Shut.get_set_apart _ _ (by decide), Shut.get_set_apart _ _ (by decide)]

/-- The first status of a shuttle is kept, and it moves neither its class nor its deadline (R337). -/
theorem Shut.get_status (s : Shut) (c : Nat) (h : s.get S.STATUS = 0) : (s.status c).get S.STATUS = c % 2 ^ 8 ∧
    (s.status c).get S.CLASS = s.get S.CLASS ∧ (s.status c).get S.DEADLINE = s.get S.DEADLINE := by
  rw [Shut.status, if_pos h]
  refine ⟨?_, Shut.get_set_apart _ _ (by decide), Shut.get_set_apart _ _ (by decide)⟩
  rw [Shut.get_set_self _ _ (by decide)]
  rfl

/-- What a match and a list that is one DROP word make of a shuttle. -/
def MatchRes.dropped (m : MatchRes) (s : Shut) : Shut := { (m.write s).mark Fl.DROP with polGeneral := none }

theorem MatchRes.dropped_firstPass {s : Shut} (m : MatchRes) (h : s.FirstPass) : (m.dropped s).FirstPass :=
  (((((((h.set m.flow (f := S.FLOW_ID) (by decide) (by decide)).set m.rule (f := S.RULE) (by decide) (by decide)).set m.store
    (f := S.RULE_STORE) (by decide) (by decide)).set m.action (f := S.ACTION) (by decide) (by decide)).withExc m.exc).set 1
    (f := S.FLAG Fl.DROP) (by decide) (by decide))).withoutPolicer

/-- A list without a GUARANTEE, CLASS or POLICE word leaves a shuttle's class and gives it no policer. -/
theorem Dev.classify_drop (d : Dev) (i : Nat) (v : View2) (t : Shut) :
    d.classify i v { s := t, drop := true } = d.putShut i { t with polGeneral := none } := by
  simp [Dev.classify]

/-- A frame without a policer is not policed. -/
theorem Dev.policePass_none {d : Dev} {i : Nat} {t : Shut} (p : Parsed) (ht : d.shut i = some t) (h : t.FirstPass) : d.policePass i p = d := by
  simp [Dev.policePass, ht, h.envelope, h.police]

/-- A first pass whose match names a list of one DROP word: the match is written and counted and the frame discarded with reason 2 (R146, R148). -/
theorem Dev.passMatched_drop (d : Dev) (i : Nat) {v : View2} {m : MatchRes} {w : Nat} (parity : Option Nat) (h : v.s.FirstPass)
    (hl : v.c.list m.action = [w]) (hw : awOp w = 0x0D) :
    d.passMatched i v m parity = (((d.count m.ctr).putShut i (m.dropped v.s)).unqueue i).putShut i
      ((m.dropped v.s).discarded 2) := by
  have hdrop := m.dropped_firstPass h
  have hrun := runList_one_drop true (m.write v.s) hw
  have hclass := fun e : Dev => e.classify_drop i v ((m.write v.s).mark Fl.DROP)
  change ∀ e : Dev, _ = e.putShut i (m.dropped v.s) at hclass
  generalize m.dropped v.s = t at hdrop hclass ⊢
  generalize (m.write v.s).mark Fl.DROP = u at hrun hclass
  have hpolice := Dev.policePass_none v.p ((d.count m.ctr).shut_putShut_self i t) hdrop
  simp only [Dev.passMatched, h.pass, decide_true, hl, hrun, if_true, hclass, Dev.takeSa, Dev.shut_putShut_self, hdrop.kept, hpolice,
    Option.isSome_none, Bool.false_eq_true, if_false]
  exact Dev.discard_open 2 (Dev.shut_putShut_self _ _ _) hdrop.toOpen

/-! ## HEDDLE_PASS of a frame that is not yet whole (R140, R145) -/

/-- The rule and the flow of a match in a shuttle that its list drops. -/
theorem MatchRes.dropped_match (m : MatchRes) (s : Shut) :
    (m.dropped s).get S.FLOW_ID = m.flow % 2 ^ 22 ∧ (m.dropped s).get S.RULE = m.rule % 2 ^ 22 ∧ (m.dropped s).flag Fl.DROP = true := by
  have hget : ∀ f : Bits, bitsApart (S.FLAG Fl.DROP) f = true → bitsApart S.ACTION f = true → bitsApart S.RULE_STORE f = true →
      (m.dropped s).get f = ((s.set S.FLOW_ID m.flow).set S.RULE m.rule).get f := by
    intro f h1 h2 h3
    change (((((s.set S.FLOW_ID m.flow).set S.RULE m.rule).set S.RULE_STORE m.store).set S.ACTION m.action).mark Fl.DROP).get f = _
    rw [Shut.mark, Shut.get_set_apart _ _ h1, Shut.get_set_apart _ _ h2, Shut.get_set_apart _ _ h3]
  refine ⟨?flow, ?rule, ?drop⟩
  case flow =>
    rw [hget _ (by decide) (by decide) (by decide), Shut.get_set_apart _ _ (by decide), Shut.get_set_self _ _ (by decide)]
    rfl
  case rule =>
    rw [hget _ (by decide) (by decide) (by decide), Shut.get_set_self _ _ (by decide)]
    rfl
  case drop => exact (m.write s).flag_mark_self (by decide)

/-- What the discard of a malformed frame leaves of the counters, of the host interface and of the frame's shuttle. -/
theorem Dev.malformed_left {d made : Dev} {i k : Nat} {s t u : Shut}
    (h : made = (((((d.putShut i s).count k).putShut i t).putShut i u).unqueue i).putShut i (u.discarded 6))
    (hu : u.FirstPass) (h1 : u.get S.STATUS = St.malformedFrame % 2 ^ 8) (h2 : u.get S.CLASS = 3) (h3 : u.get S.DEADLINE = noDeadline) :
    ∃ (e : Dev) (y : Shut), made = e.putShut i y ∧ e.bus = (d.count k).bus ∧ e.hif = d.hif ∧ y.resume = 0 ∧
      y.dropReason = some 6 ∧ y.get S.STATUS = 0x0D ∧ y.get S.CLASS = 3 ∧ y.get S.DEADLINE = noDeadline :=
  ⟨_, _, h, rfl, rfl, hu.resume, rfl, h1, h2, h3⟩

section
variable (d : Dev) (i : Nat) {v : View2} (fp : Option Nat)

/-- A frame that no key matches, and that has none, is matched by the wildcard store alone (R145). -/
theorem Dev.matchPass_keyless (he : d.exactOf v true = none) (hk : v.key = none) (hs : d.shut i = some v.s) (hp : v.s.parityBad = false) :
    d.matchPass i v fp = (d.count K.HED_EXACT_MISS).passMatched i v (v.c.resolve (v.s.get S.PORT) none v.wc) fp := by
  have hs' : (d.count K.HED_EXACT_MISS).shut i = some v.s := hs
  have hk' : v.key.isNone = true := by rw [hk]; rfl
  simp only [Dev.matchPass, he, hk', Dev.missStatus, hs', hp, if_true, Bool.false_eq_true, if_false, Option.getD_some]

/-- A frame with a key that the hot tier does not hold takes a shared place of the lookup pool (R145). -/
theorem Dev.matchPass_ddr5 (he : d.exactOf v true = none) (hk : v.key.isSome = true)
    (hn : (d.shuts.filter (fun p => p.2.stage == .ddr5)).length < 3072) :
    d.matchPass i v fp = d.putShut i { v.s with stage := .ddr5, wait := 1, poolReserved := false } := by
  have hk' : v.key.isNone = false := by simpa [Option.isSome_iff_ne_none] using hk
  have hpool : ∀ gd, d.poolPlace gd = some false := fun gd => if_pos (Nat.lt_of_le_of_lt (List.length_filter_le _ _) hn)
  simp only [Dev.matchPass, he, hk', hpool, Bool.false_eq_true, if_false]

variable (h : v.s.FirstPass)
include h

/-- A well-formed frame of a first pass that is no fragment and whose end has not arrived is matched (R140). -/
theorem Dev.makePass_wellFormed (hf : v.s.flag Fl.FRAGMENT = false) (hm : v.p.mal = none) : d.makePass i v fp = (d.putShut i v.s).matchPass i v fp := by
  simp only [Dev.makePass, hf, h.ended, h.dir, hm, Bool.false_and, Bool.false_eq_true, if_false, decide_false, Nat.zero_ne_one]

/-- A malformed frame of a first pass whose port discards it (R140, R141). -/
theorem Dev.malformed_discard {c : Nat} (goOn : Dev → Dev) (ha : v.c.get (F.HED_PORT_CFG_MAL_ACTION (v.s.get S.PORT)) = 0) {t : Shut}
    (ht : (v.s.set S.CLASS 3).set S.DEADLINE noDeadline = t) (hp : t.FirstPass) :
    d.malformed i v c fp goOn = ((((d.count (K.HED_MALFORMED c)).putShut i t).putShut i (t.status St.malformedFrame)).unqueue i).putShut i
      ((t.status St.malformedFrame).discarded 6) := by
  have hu := hp.status St.malformedFrame
  simp only [Dev.malformed, h.pass, if_true, ht, ha, hp.pass, Dev.setStatus, Dev.shut_putShut_self]
  generalize t.status St.malformedFrame = u at hu ⊢
  exact Dev.discard_open 6 (Dev.shut_putShut_self _ _ _) hu.toOpen

/-- A malformed frame whose port discards it is BE without a deadline, carries MALFORMED_FRAME and is discarded with reason 6 (R140, R141). -/
theorem Dev.makePass_malformed (hf : v.s.flag Fl.FRAGMENT = false) {c : Nat} (hm : v.p.mal = some c)
    (ha : v.c.get (F.HED_PORT_CFG_MAL_ACTION (v.s.get S.PORT)) = 0) (h0 : v.s.get S.STATUS = 0) :
    ∃ (e : Dev) (y : Shut), d.makePass i v fp = e.putShut i y ∧ e.bus = (d.count (K.HED_MALFORMED c)).bus ∧ e.hif = d.hif ∧ y.resume = 0 ∧
      y.dropReason = some 6 ∧ y.get S.STATUS = 0x0D ∧ y.get S.CLASS = 3 ∧ y.get S.DEADLINE = noDeadline := by
  have hpass : d.makePass i v fp = (d.putShut i v.s).malformed i v c fp (fun d => d.matchPass i { v with s := (d.shut i).getD v.s } fp) := by
    simp only [Dev.makePass, hf, h.ended, h.dir, hm, Bool.false_and, Bool.false_eq_true, if_false, decide_false, Nat.zero_ne_one]
  have hs := (h.set 3 (f := S.CLASS) (by decide) (by decide)).set noDeadline (f := S.DEADLINE) (by decide) (by decide)
  obtain ⟨g1, g2, g3⟩ := v.s.get_demoted
  obtain ⟨k1, k2, k3⟩ := ((v.s.set S.CLASS 3).set S.DEADLINE noDeadline).get_status St.malformedFrame (g3.trans h0)
  have hmal := (d.putShut i v.s).malformed_discard i fp h (c := c) (fun d => d.matchPass i { v with s := (d.shut i).getD v.s } fp) ha rfl hs
  exact Dev.malformed_left (hpass.trans hmal) (hs.status St.malformedFrame) k1 (k2.trans g1) (k3.trans g2)

end

/-! ## HEDDLE_PASS of a network frame on pass 1 whose end has not arrived -/

/-- The parity mark of a shuttle is no part of a first pass. -/
theorem Shut.FirstPass.clean {x : Shut} (h : x.FirstPass) : x.clean.FirstPass :=
  ⟨⟨h.ended, h.lane, h.sa⟩, h.kept, h.resume, h.dir, h.pass, h.envelope, h.police⟩

/-- The shuttle of a pass, as parsing leaves it, is still on its first pass. -/
theorem Shut.FirstPass.view {x : Shut} (h : x.FirstPass) (d : Dev) : (d.view x).s.FirstPass := h.reparsed (d.reparsed_view x)

theorem Dev.view_parityBad (d : Dev) (x : Shut) : (d.view x).s.parityBad = x.parityBad := by
  obtain ⟨⟨w, a, b, hv⟩, -⟩ := d.reparsed_view x
  rw [hv]

/-- A match that nothing is found for, with a default list of one DROP word: it counts under the default, and the frame is discarded with reason 2
(R146). -/
theorem Dev.passMatched_default (d : Dev) (i : Nat) {v : View2} (fp : Option Nat) (h : v.s.FirstPass) (port : Nat)
    (hl : ∃ w, v.c.list (v.c.get (F.HED_PORT_DEFAULT_LIST port)) = [w] ∧ awOp w = 0x0D) :
    ∃ (e : Dev) (y : Shut), d.passMatched i v (v.c.resolve port none none) fp = e.putShut i y ∧ e.hif = d.hif ∧ e.bus = (d.count K.HED_DEFAULT).bus ∧
      y.resume = 0 ∧ y.stage = .ended ∧ y.dropReason = some 2 ∧ y.get S.FLOW_ID = 0 ∧ y.get S.RULE = 2 ^ 22 - 1 ∧ y.flag Fl.DROP = true := by
  obtain ⟨w, hl, hw⟩ := hl
  generalize hm : v.c.resolve port none none = m
  obtain ⟨h0, h1, h2, h3⟩ : m.flow = 0 ∧ m.rule = 2 ^ 22 - 1 ∧ m.ctr = K.HED_DEFAULT ∧ m.action = v.c.get (F.HED_PORT_DEFAULT_LIST port) := by
    subst hm
    exact ⟨rfl, rfl, rfl, rfl⟩
  obtain ⟨hflow, hrule, hdrop⟩ := m.dropped_match v.s
  have hd := m.dropped_firstPass h
  have hp := d.passMatched_drop i fp h (h3 ▸ hl) hw
  rw [h0] at hflow
  rw [h1] at hrule
  rw [h2] at hp
  generalize m.dropped v.s = y at hflow hrule hdrop hd hp
  exact ⟨_, _, hp, rfl, rfl, hd.resume, rfl, rfl, hflow, hrule, hdrop⟩

section
variable {s : State} {i : Nat} {x : Shut} {v : View2} (hg : s.dev.deciding = true) (hx : s.dev.shut i = some x)
  (hb : s.dev.passBehind i x = false) (hst : x.stage = .pass) (h : x.FirstPass) (hq : s.dev.hif.faulted = [])
  (hv : s.dev.view x.clean = v) (hw : s.dev.passWaits v = false)
include hg hx hb hst h hq hv hw

/-- A pass that leaves a shuttle which asks for nothing more yields what holds of the device it leaves. -/
theorem heddlePass_yields {P : Dev → Prop} {e : Dev} {y : Shut} (he : (s.dev.putShut i x.clean).makePass i v none = e.putShut i y)
    (hy : y.resume = 0) (hh : e.hif = s.dev.hif) (p : ∀ t, (e.putShut i y).PauseOnly t → P t) : Yields (.heddlePass i none none) s P := by
  refine Yields.of_doneH (e.putShut i y) ?_ (show e.hif.faulted = [] by rw [hh, hq]) p
  change execHeddlePass i none none s = _
  rw [execHeddlePass_of_pass none hx hst h.kept (by simp [h.resume]), hv, hg, hb, hw, he,
    Dev.settlePass_of_resume (e.shut_putShut_self i y) (by simp [hy])]
  rfl

variable (hf : v.s.flag Fl.FRAGMENT = false)
include hf

/-- A frame that no key and no rule matches, under a default list of one DROP word, counts as a miss and under the default, and is discarded with
reason 2 (R145, R146). -/
theorem heddlePass_default_drop (hm : v.p.mal = none) (he : s.dev.exactOf v true = none) (hk : v.key = none) (hwc : v.wc = none)
    (hl : ∃ w, v.c.list (v.c.get (F.HED_PORT_DEFAULT_LIST (v.s.get S.PORT))) = [w] ∧ awOp w = 0x0D) :
    Yields (.heddlePass i none none) s (fun d => d.ctr K.HED_DEFAULT = (s.dev.ctr K.HED_DEFAULT + 1) % 2 ^ 64 ∧
      d.ctr K.HED_EXACT_MISS = (s.dev.ctr K.HED_EXACT_MISS + 1) % 2 ^ 64 ∧
      ∃ y, d.shut i = some y ∧ y.stage = .ended ∧ y.dropReason = some 2 ∧ y.get S.FLOW_ID = 0 ∧ y.get S.RULE = 2 ^ 22 - 1 ∧ y.flag Fl.DROP = true) := by
  have hs : v.s.FirstPass := hv ▸ h.clean.view s.dev
  have hp : v.s.parityBad = false := hv ▸ s.dev.view_parityBad _
  have hmade := Dev.makePass_wellFormed (s.dev.putShut i x.clean) i none hs hf hm
  rw [Dev.matchPass_keyless ((s.dev.putShut i x.clean).putShut i v.s) i none he hk (Dev.shut_putShut_self _ _ _) hp, hwc] at hmade
  obtain ⟨e, y, hmatched, hhif, hbus, hres, hy⟩ := Dev.passMatched_default
    (((s.dev.putShut i x.clean).putShut i v.s).count K.HED_EXACT_MISS) i none hs _ hl
  have hctr : ∀ k, (e.putShut i y).ctr k = ((s.dev.count K.HED_EXACT_MISS).count K.HED_DEFAULT).ctr k := fun k => by
    rw [Dev.ctr, show (e.putShut i y).bus = e.bus from rfl, hbus]
    rfl
  refine heddlePass_yields hg hx hb hst h hq hv hw (hmade.trans hmatched) hres hhif (fun t ht => ⟨?_, ?_, y, ?_, hy⟩)
  · rw [ht.ctr, hctr, Dev.ctr_count_self, Dev.ctr_count_ne _ _ _ (by decide)]
  · rw [ht.ctr, hctr, Dev.ctr_count_ne _ _ _ (by decide), Dev.ctr_count_self]
  · rw [ht.shut, Dev.shut_putShut_self]

/-- A frame with a key that the hot tier does not hold waits for DDR5 while the pool has a shared place (R145). -/
theorem heddlePass_waits_ddr5 (hm : v.p.mal = none) (he : s.dev.exactOf v true = none) (hk : v.key.isSome = true)
    (hn : (s.dev.shuts.filter (fun p => p.2.stage == .ddr5)).length < 3072) :
    Yields (.heddlePass i none none) s (fun d => d.shut i = some { v.s with stage := .ddr5, wait := 1, poolReserved := false } ∧ d.bus = s.dev.bus) := by
  have hs : v.s.FirstPass := hv ▸ h.clean.view s.dev
  have hclean : x.clean.stage ≠ .ddr5 := show x.stage ≠ .ddr5 by simp [hst]
  have hstage : v.s.stage ≠ .ddr5 := by
    obtain ⟨⟨w, a, b, hr⟩, -⟩ := s.dev.reparsed_view x.clean
    rw [← hv, hr]
    exact hclean
  have hmade := Dev.makePass_wellFormed (s.dev.putShut i x.clean) i none hs hf hm
  rw [Dev.matchPass_ddr5 ((s.dev.putShut i x.clean).putShut i v.s) i none he hk (by
    rwa [Dev.ddr5_putShut (Dev.shut_putShut_self _ _ _) hclean hstage, Dev.ddr5_putShut hx hclean hclean])] at hmade
  exact heddlePass_yields hg hx hb hst h hq hv hw hmade hs.resume rfl (fun t ht => ⟨by rw [ht.shut, Dev.shut_putShut_self], ht.bus⟩)

/-- A malformed frame whose port discards it counts under its cause, becomes BE without a deadline, carries status 0x0D and is discarded with
reason 6 (R140, R141). -/
theorem heddlePass_malformed {c : Nat} (hm : v.p.mal = some c) (ha : v.c.get (F.HED_PORT_CFG_MAL_ACTION (v.s.get S.PORT)) = 0)
    (hstatus : x.get S.STATUS = 0) :
    Yields (.heddlePass i none none) s (fun d => d.ctr (K.HED_MALFORMED c) = (s.dev.ctr (K.HED_MALFORMED c) + 1) % 2 ^ 64 ∧
      ∃ y, d.shut i = some y ∧ y.dropReason = some 6 ∧ y.get S.STATUS = 0x0D ∧ y.get S.CLASS = 3 ∧ y.get S.DEADLINE = noDeadline) := by
  have hs : v.s.FirstPass := hv ▸ h.clean.view s.dev
  have hst0 : v.s.get S.STATUS = 0 := by
    rw [← hv, (s.dev.reparsed_view x.clean).2 S.STATUS (by decide)]
    exact hstatus
  obtain ⟨e, y, hmade, hbus, hhif, hres, hdrop, hy⟩ := (s.dev.putShut i x.clean).makePass_malformed i none hs hf hm ha hst0
  refine heddlePass_yields hg hx hb hst h hq hv hw hmade hres hhif (fun t ht => ⟨?_, y, by rw [ht.shut, Dev.shut_putShut_self], hdrop, hy⟩)
  rw [ht.ctr, show (e.putShut i y).ctr = e.ctr from rfl, Dev.ctr, hbus]
  exact Dev.ctr_count_self s.dev _ _

end

/-! ## DDR5_LOOKUP_RESULT (R54, R145) -/

/-- A result that is not due is ignored. -/
theorem ddr5LookupResult_ignored (s : State) (i err addr row : Nat) (parity : LookupParity) (h : s.dev.arbFirst false s.dev.ddr5Ready ≠ some i) :
    Yields (.ddr5LookupResult i err addr row parity) s (fun d => d = s.dev) := by
  refine Yields.of s.dev ?_ rfl
  change execDdr5LookupResult i err addr row parity s = _
  cases hx : s.dev.shut i with
  | none => simp only [execDdr5LookupResult, hx]
  | some x => simp only [execDdr5LookupResult, hx, h, ne_eq, not_false_eq_true, decide_true, Bool.or_true, if_true]

end Sys2Proof.Machine
end

section
/-! PROOFS. DDR5_LOOKUP_RESULT where nothing is found, and the statement on a frame's pass (R54, R145 to R149). -/
namespace Sys2Proof.Machine
open Sys2Proof

/-! ## A row read from DDR5 (R367) -/

theorem Dev.view_activate (d : Dev) (x : Shut) : d.activate.view x = d.view x := rfl

theorem Dev.exactOf_activate (d : Dev) (v : View2) (hot : Bool) : d.activate.exactOf v hot = d.exactOf v hot := rfl

/-- Opening a row counts the neighbours refreshed alone. -/
theorem Dev.ctr_activate (d : Dev) {k : Nat} (h : k ≠ K.DRAM_NEIGHBOUR_REFRESH) : d.activate.ctr k = d.ctr k := Dev.ctr_count_ne _ _ _ h

/-! ## A lookup that finds nothing -/

/-- A shuttle whose DDR5 lookup has been answered: it is back in its pipeline and gives back its place of the pool. -/
def Shut.answered (x : Shut) : Shut := { x with stage := .pass, wait := 0, poolReserved := false }

theorem Shut.FirstPass.answered {x : Shut} (h : x.FirstPass) : x.answered.FirstPass :=
  ⟨⟨h.ended, h.lane, h.sa⟩, h.kept, h.resume, h.dir, h.pass, h.envelope, h.police⟩

/-- A miss marks at most the status of the shuttle that missed. -/
theorem Dev.missStatus_firstPass {d : Dev} {i : Nat} {x : Shut} (hx : d.shut i = some x) (h : x.FirstPass) :
    ∃ t, (d.missStatus i).shut i = some t ∧ t.FirstPass ∧ (d.missStatus i).bus = d.bus ∧ (d.missStatus i).hif = d.hif := by
  simp only [Dev.missStatus, hx]
  split
  · rw [Dev.setStatus, hx]
    exact ⟨_, Dev.shut_putShut_self _ _ _, h.status _, rfl, rfl⟩
  · exact ⟨x, hx, h, rfl, rfl⟩

/-- The answer to a shuttle that waits for its exact lookup, where neither a flow nor a rule is found: the miss is counted, and the pass goes on
with the default list (R145, R146). -/
theorem execDdr5LookupResult_miss {s : State} {i : Nat} {x : Shut} (addr row : Nat) (hg : s.dev.deciding = true) (hx : s.dev.shut i = some x)
    (hfirst : s.dev.arbFirst false s.dev.ddr5Ready = some i) (hwait : x.wait = 1) {v : View2} (hv : s.dev.view x.answered = v)
    (he : s.dev.exactOf v false = none) (hwc : v.wc = none) {d : Dev}
    (hd : (((s.dev.activate.putShut i x.answered).putShut i v.s).count K.HED_EXACT_MISS).missStatus i = d) {t : Shut} (ht : d.shut i = some t) :
    execDdr5LookupResult i 0 addr row ⟨none, none⟩ s =
      doneH s ((d.passMatched i { v with s := t } (v.c.resolve (x.get S.PORT) none none) none).settlePass i) := by
  have hv' : (s.dev.activate.putShut i x.answered).view x.answered = v := hv
  have he' : (s.dev.activate.putShut i x.answered).exactOf v false = none := he
  simp only [execDdr5LookupResult, hx]
  change (if _ then _ else if x.wait = 1 then _ else _) = _
  simp only [hg, hfirst, hwait, Dev.dramFound, Dev.indexParity, Dev.ddr5Match]
  generalize hy : ({ x with stage := .pass, wait := 0, poolReserved := false } : Shut) = y
  obtain rfl : x.answered = y := hy
  have hport : x.answered.get S.PORT = x.get S.PORT := rfl
  simp only [Dev.shut_putShut_self, Option.getD_some, hv', he', hwc, hport, Option.isNone_none, if_true, hd, ht, Bool.not_true, Bool.false_or,
    decide_not, decide_true, Bool.false_eq_true, if_false]

/-- A lookup that finds nothing counts the miss, and under a default list of one DROP word the frame is discarded with reason 2 (R145, R146). -/
theorem ddr5LookupResult_default_drop {s : State} {i : Nat} {x : Shut} (addr row : Nat) (hg : s.dev.deciding = true) (hx : s.dev.shut i = some x)
    (hfirst : s.dev.arbFirst false s.dev.ddr5Ready = some i) (hwait : x.wait = 1) (h : x.FirstPass) (hq : s.dev.hif.faulted = [])
    {v : View2} (hv : s.dev.view x.answered = v) (he : s.dev.exactOf v false = none) (hwc : v.wc = none)
    (hl : ∃ w, v.c.list (v.c.get (F.HED_PORT_DEFAULT_LIST (x.get S.PORT))) = [w] ∧ awOp w = 0x0D) :
    Yields (.ddr5LookupResult i 0 addr row ⟨none, none⟩) s (fun d => d.ctr K.HED_EXACT_MISS = (s.dev.ctr K.HED_EXACT_MISS + 1) % 2 ^ 64 ∧
      ∃ y, d.shut i = some y ∧ y.stage = .ended ∧ y.dropReason = some 2 ∧ y.get S.RULE = 2 ^ 22 - 1) := by
  have hs : v.s.FirstPass := hv ▸ h.answered.view s.dev
  obtain ⟨t, ht, hfp, hbus, hhif⟩ := Dev.missStatus_firstPass (d := ((s.dev.activate.putShut i x.answered).putShut i v.s).count K.HED_EXACT_MISS)
    (i := i) (Dev.shut_putShut_self _ _ _) hs
  have hexec := execDdr5LookupResult_miss addr row hg hx hfirst hwait hv he hwc rfl ht
  generalize ((s.dev.activate.putShut i x.answered).putShut i v.s |>.count K.HED_EXACT_MISS |>.missStatus i) = d at ht hbus hhif hexec
  obtain ⟨e, y, hmatched, hhif', hbus', hres, hstage, hdrop, -, hrule, -⟩ := d.passMatched_default i none (v := { v with s := t }) hfp (x.get S.PORT) hl
  rw [hmatched, Dev.settlePass_of_resume (e.shut_putShut_self i y) (by simp [hres])] at hexec
  refine Yields.of_doneH (e.putShut i y) hexec (show e.hif.faulted = [] by rw [hhif', hhif]; exact hq) (fun u hu => ⟨?_, y, ?_, hstage, hdrop, hrule⟩)
  · have hctr : (e.putShut i y).ctr K.HED_EXACT_MISS = d.ctr K.HED_EXACT_MISS := by
      rw [Dev.ctr, show (e.putShut i y).bus = e.bus from rfl, hbus']
      exact Dev.ctr_count_ne _ _ _ (by decide)
    have hmiss : d.ctr K.HED_EXACT_MISS = (s.dev.activate.count K.HED_EXACT_MISS).ctr K.HED_EXACT_MISS := by
      rw [Dev.ctr, hbus]
      rfl
    rw [hu.ctr, hctr, hmiss, Dev.ctr_count_self, Dev.ctr_activate _ (by decide)]
  · rw [hu.shut, Dev.shut_putShut_self]

/-! ## The statement -/

/-- Settles O30: each rule of a pass by its own lemma; the frame of the last clauses is on its first pass, and keeps that through parsing. -/
theorem passesMatchAndApplyActionLists : Obligations.PassesMatchAndApplyActionLists := by
  unfold Obligations.PassesMatchAndApplyActionLists
  refine ⟨?entry, Dev.arbBefore_guaranteed, Dev.arbBefore_deadline, Dev.arbBefore_as_be, Dev.arbBefore_arrival, resolve_rows,
    fun first s l m w => runList_drop first s l m w, runList_one_fields, ?waits, fun s i x fp kp => heddlePass_behind s i x fp kp, ?pass, ?miss,
    ddr5LookupResult_ignored⟩
  case entry =>
    intro s pipe i x hg hs hx hst hp hd hf
    exact pipelineEntry_starts_first s pipe i x hg hs hx hst hp hd hf
  case waits =>
    intro s i x fp hx hst hd hr hw
    exact heddlePass_waits s i x fp hx hst hd hr hw
  case pass =>
    intro s i x hg hx hb hst hd hended hlane hsa hr hdir hpass henv hpol hf hq hw
    have h : x.FirstPass := ⟨⟨hended, hlane, hsa⟩, hd, hr, hdir, hpass, henv, hpol⟩
    refine ⟨fun hm he hk hwc hl => ?_, fun hm he hk hn _ => ?_, fun c hm ha h0 => ?_⟩
    · exact heddlePass_default_drop hg hx hb hst h hq rfl hw hf hm he hk hwc hl
    · exact heddlePass_waits_ddr5 hg hx hb hst h hq rfl hw hf hm he hk hn
    · exact heddlePass_malformed hg hx hb hst h hq rfl hw hf hm ha h0
  case miss =>
    intro s i addr row x hg hx hfirst _ hwait hd hended hlane hsa hr hdir hpass henv hpol hq he hwc hl
    have h : x.FirstPass := ⟨⟨hended, hlane, hsa⟩, hd, hr, hdir, hpass, henv, hpol⟩
    exact ddr5LookupResult_default_drop addr row hg hx hfirst hwait h hq rfl he hwc hl

end Sys2Proof.Machine
end

section
/-! PROOFS. What a record offered to Ledger and a fault raised leave unchanged (R120 to R131, R389). -/
namespace Sys2Proof.Machine
open Sys2Proof

/-! ## Folds -/

/-- Steps that each stand in a relation that is reflexive and transitive stand in it together. -/
theorem foldl_rel {α β : Type} {r : β → β → Prop} (refl : ∀ b, r b b) (trans : ∀ {a b c}, r a b → r b c → r a c) {f : β → α → β} (l : List α)
    (h : ∀ b, ∀ a ∈ l, r b (f b a)) (b : β) : r b (l.foldl f b) := by
  induction l generalizing b with
  | nil => exact refl b
  | cons a t ih => exact trans (h b a List.mem_cons_self) (ih (fun b x hx => h b x (List.mem_cons_of_mem a hx)) _)

/-! ## The words of Ledger's and the fault block's notes -/

/-- A word apart from Ledger's registers and from the fault codes and their log. -/
def noteApart (a : Nat) : Prop := (a < 0x400000 ∨ 0x500000 ≤ a) ∧ (a < 0x1000020 ∨ 0x1002000 ≤ a)

/-- Two devices that differ at most in Ledger, in the bytes queued for DDR5, in the words of Ledger's and the fault block's notes, and in the counts
from an address to another; a fault code that was raised stays raised. -/
structure Dev.NotedIn (lo hi : Nat) (d e : Dev) : Prop where
  rest : ∃ l m b, e = { d with ledg := l, dram := m, bus := b }
  ctr : ∀ k, k < lo ∨ hi ≤ k → e.ctr k = d.ctr k
  word : ∀ a, noteApart a → e.word a = d.word a
  raised : ∀ c < 32, d.get ⟨0x1000020, c, 1⟩ = 1 → e.get ⟨0x1000020, c, 1⟩ = 1

namespace Dev.NotedIn
variable {lo hi : Nat} {d e f : Dev}

theorem refl (lo hi : Nat) (d : Dev) : NotedIn lo hi d d := ⟨⟨_, _, _, rfl⟩, fun _ _ => rfl, fun _ _ => rfl, fun _ _ h => h⟩

theorem trans (h : NotedIn lo hi d e) (h' : NotedIn lo hi e f) : NotedIn lo hi d f := by
  obtain ⟨⟨l, m, b, rfl⟩, hc, hw, hr⟩ := h
  obtain ⟨⟨l', m', b', rfl⟩, hc', hw', hr'⟩ := h'
  exact ⟨⟨l', m', b', rfl⟩, fun k hk => (hc' k hk).trans (hc k hk), fun a ha => (hw' a ha).trans (hw a ha), fun c hlt hg => hr' c hlt (hr c hlt hg)⟩

theorem mono {lo' hi' : Nat} (h : NotedIn lo hi d e) (h1 : lo' ≤ lo) (h2 : hi ≤ hi') : NotedIn lo' hi' d e :=
  ⟨h.rest, fun k hk => h.ctr k (by omega), h.word, h.raised⟩

/-- A field of a word apart. -/
theorem get (h : NotedIn lo hi d e) {g : Fld} (hg : g.lo + g.width ≤ 32) (ha : noteApart g.addr) : e.get g = d.get g :=
  Dev.get_eq_of_word_eq hg (h.word _ ha)

variable (h : NotedIn lo hi d e)
include h

theorem shuts : e.shuts = d.shuts := by obtain ⟨⟨l, m, b, rfl⟩, -⟩ := h; rfl
theorem hif : e.hif = d.hif := by obtain ⟨⟨l, m, b, rfl⟩, -⟩ := h; rfl
theorem barb : e.barb = d.barb := by obtain ⟨⟨l, m, b, rfl⟩, -⟩ := h; rfl
theorem net : e.net = d.net := by obtain ⟨⟨l, m, b, rfl⟩, -⟩ := h; rfl
theorem dom : e.dom = d.dom := by obtain ⟨⟨l, m, b, rfl⟩, -⟩ := h; rfl

end Dev.NotedIn

/-! ## The steps that notes are made of -/

section
variable (lo hi : Nat) (d : Dev)

theorem Dev.notedIn_ledg (l : Ledg) : NotedIn lo hi d { d with ledg := l } := ⟨⟨_, _, _, rfl⟩, fun _ _ => rfl, fun _ _ => rfl, fun _ _ h => h⟩

theorem Dev.notedIn_ddrWrite (a : Nat) (b : List Byte) : NotedIn lo hi d (d.ddrWrite a b) :=
  ⟨⟨_, _, _, rfl⟩, fun _ _ => rfl, fun _ _ => rfl, fun _ _ h => h⟩

theorem Dev.notedIn_setCtr {k : Nat} (v : Nat) (h : lo ≤ k ∧ k < hi) : NotedIn lo hi d (d.setCtr k v) :=
  ⟨⟨_, _, _, rfl⟩, fun _ hj => Dev.ctr_setCtr_ne d k v (by omega), fun _ _ => rfl, fun _ _ h => h⟩

theorem Dev.notedIn_count {k : Nat} (v : Nat) (h : lo ≤ k ∧ k < hi) : NotedIn lo hi d (d.count k v) := d.notedIn_setCtr lo hi _ h

/-- A field of Ledger's registers written. -/
theorem Dev.notedIn_set {f : Fld} (v : Nat) (h : 0x400000 ≤ f.addr ∧ f.addr + 4 < 0x500000) : NotedIn lo hi d (d.set f v) := by
  refine ⟨⟨_, _, _, rfl⟩, fun _ _ => rfl, fun a ha => ?_, fun c hc hr => ?_⟩
  · obtain ⟨ha, -⟩ := ha
    exact d.word_set f v a (by omega) (by omega)
  · rw [Dev.get_set_apart, hr]
    simp only [Fld.apart, Bool.or_eq_true, decide_eq_true_eq]
    omega

theorem Dev.notedIn_raise {f : Fld} (h : 0x400000 ≤ f.addr ∧ f.addr + 4 < 0x500000) : NotedIn lo hi d (d.raise f) := d.notedIn_set lo hi 1 h

/-- A fault code set, and the others as they were. -/
theorem Dev.notedIn_code {c : Nat} (hc : c < 32) : NotedIn lo hi d (d.set ⟨0x1000020, c, 1⟩ 1) := by
  refine ⟨⟨_, _, _, rfl⟩, fun _ _ => rfl, fun a ha => ?_, fun k hk hr => ?_⟩
  · obtain ⟨-, ha⟩ := ha
    exact d.word_set _ 1 a (by dsimp only; omega) (.inl (by dsimp only; omega))
  · by_cases h : k = c
    · subst h
      exact Dev.get_set_place d 1 (by omega)
    · rw [Dev.get_set_disjoint d 1 (by omega) (by omega) (by omega), hr]

/-- Words written change the words alone. -/
theorem Dev.putWords_eq (d : Dev) (a n x : Nat) : ∃ w, d.putWords a n x = { d with bus := { d.bus with words := w } } := by
  induction n generalizing d a x with
  | zero => exact ⟨_, rfl⟩
  | succ n ih => exact ih (d.putWord a _) _ _

/-- An entry written to a log changes words alone. -/
theorem Dev.logPut_eq (d : Dev) (ix win words entry : Nat) : ∃ w, d.logPut ix win words entry = { d with bus := { d.bus with words := w } } := by
  obtain ⟨w, hw⟩ := d.putWords_eq (win + 4 * words * d.get ⟨ix, 0, 8⟩) words entry
  simp only [Dev.logPut, hw]
  split
  · exact ⟨_, rfl⟩
  · exact ⟨_, rfl⟩

/-- An entry written to a log leaves the words outside its window and its index. -/
theorem Dev.word_logPut (d : Dev) (ix win words entry : Nat) {a : Nat} (h : a ≠ ix) (hw : a < win ∨ win + 4 * words * 256 ≤ a) :
    (d.logPut ix win words entry).word a = d.word a := by
  have hhead : 4 * words * (d.get ⟨ix, 0, 8⟩ + 1) ≤ 4 * words * 256 := Nat.mul_le_mul_left _ (d.get_lt ⟨ix, 0, 8⟩)
  rw [Nat.mul_add] at hhead
  have hset : ∀ (e : Dev) (lo w v : Nat), lo + w ≤ 32 → (e.set ⟨ix, lo, w⟩ v).word a = e.word a := fun e lo w v hlo =>
    sameWordsBut_set e v hlo a (by simpa using h)
  have hput : (d.putWords (win + 4 * words * d.get ⟨ix, 0, 8⟩) words entry).word a = d.word a := Dev.word_putWords_outside _ _ _ _ (by omega)
  simp only [Dev.logPut]
  split
  · rw [hset _ _ _ _ (by decide), hset _ _ _ _ (by decide), hset _ _ _ _ (by decide), hput]
  · rw [hset _ _ _ _ (by decide), hput]

/-- An entry of the fault log. -/
theorem Dev.notedIn_faultLog (entry : Nat) : NotedIn lo hi d (d.logPut 0x1000034 0x1001000 4 entry) := by
  have hword : ∀ a, a ≠ 0x1000034 → (a < 0x1001000 ∨ 0x1002000 ≤ a) → (d.logPut 0x1000034 0x1001000 4 entry).word a = d.word a :=
    fun a h hw => d.word_logPut _ _ _ entry h hw
  obtain ⟨w, hw⟩ := d.logPut_eq 0x1000034 0x1001000 4 entry
  refine ⟨⟨d.ledg, d.dram, _, hw⟩, fun k _ => by rw [hw]; rfl, fun a ha => ?_, fun c hc hr => ?_⟩
  · obtain ⟨-, ha⟩ := ha
    exact hword a (by omega) (by omega)
  · rw [Dev.get_eq_of_word_eq (d := d.logPut 0x1000034 0x1001000 4 entry) (e := d) (by dsimp only; omega)
      (hword 0x1000020 (by decide) (by decide)), hr]

/-- A fault raised: its code, and its entry in the fault log. -/
theorem Dev.notedIn_fault {c : Nat} (kind unit detail : Nat) (hc : c < 32) : NotedIn lo hi d (d.fault c kind unit detail) :=
  (d.notedIn_code lo hi hc).trans (Dev.notedIn_faultLog lo hi _ _)

/-- A fault raised shows its code. -/
theorem Dev.raised_fault {c : Nat} (kind unit detail : Nat) (hc : c < 32) : (d.fault c kind unit detail).get ⟨0x1000020, c, 1⟩ = 1 :=
  (Dev.notedIn_faultLog 0 0 _ _).raised c hc (d.get_set_place 1 (by omega))

end

/-! ## A record offered to Ledger (R120 to R131) -/

section
variable (d : Dev) (s : Nat)

/-- What Ledger does for one stream moves no count but those of that stream. -/
abbrev Dev.NotedFor (s : Nat) (d e : Dev) : Prop := NotedIn (0x401000 + 128 * s) (0x401080 + 128 * s) d e

theorem Dev.notedFor_stall : NotedFor s d (d.stall s) := by
  unfold Dev.stall
  dsimp only
  split
  · exact .refl ..
  · exact ((((Dev.notedIn_ledg _ _ _ _).trans (Dev.notedIn_count _ _ _ _ (by simp only [K.LEDG_STALLS]; omega))).trans
      (Dev.notedIn_set _ _ _ _ (by simp))).trans (Dev.notedIn_raise _ _ _ (by decide))).trans (Dev.notedIn_fault _ _ _ _ _ _ (by decide))

theorem Dev.notedFor_loseSlots (cause n ns : Nat) : NotedFor s d (d.loseSlots s cause n ns) := by
  unfold Dev.loseSlots
  dsimp only
  refine .trans ?_ (Dev.notedIn_raise _ _ _ (by decide))
  split
  · exact (Dev.notedIn_ledg _ _ _ _).trans (Dev.notedIn_count _ _ _ _ (by simp only [K.LEDG_LOST_RING_FULL]; omega))
  · exact (Dev.notedIn_ledg _ _ _ _).trans (Dev.notedIn_count _ _ _ _ (by simp only [K.LEDG_LOST_RATE]; omega))
  · exact (Dev.notedIn_ledg _ _ _ _).trans (Dev.notedIn_count _ _ _ _ (by simp only [K.LEDG_HASH_SKIPPED]; omega))
  · exact Dev.notedIn_ledg _ _ _ _

theorem Dev.notedFor_headOn (n : Nat) : NotedFor s d (d.headOn s n) := by
  have hhead : NotedFor s d ((d.chargeRate n 0).setCtr (kHead s) (d.ctr (kHead s) + n)) :=
    (Dev.notedIn_ledg _ _ _ _).trans (Dev.notedIn_setCtr _ _ _ _ (by simp only [kHead]; omega))
  simp only [Dev.headOn]
  split
  · exact hhead.trans (Dev.notedIn_raise _ _ _ (by decide))
  · exact hhead

theorem Dev.notedFor_writeSlots (ring : Nat × Nat) (slot : Nat) (b : List Byte) (n : Nat) : NotedFor s d (d.writeSlots ring slot b n) := by
  induction n generalizing d slot b with
  | zero => exact .refl ..
  | succ n ih => exact (Dev.notedIn_ddrWrite _ _ d _ _).trans (ih _ _ _)

theorem Dev.notedFor_putRecord (mk : Nat → List Byte) : NotedFor s d (d.putRecord s mk) := by
  unfold Dev.putRecord
  dsimp only
  split
  · exact (((Dev.notedFor_writeSlots _ _ _ _ _ _).trans (Dev.notedIn_ledg _ _ _ _)).trans
      (Dev.notedIn_count _ _ _ _ (by simp only [K.LEDG_SLOTS_WRITTEN]; omega))).trans (Dev.notedFor_headOn _ _ _)
  · exact ((((Dev.notedFor_writeSlots _ _ _ _ _ _).trans (Dev.notedIn_ledg _ _ _ _)).trans (Dev.notedIn_ledg _ _ _ _)).trans
      (Dev.notedIn_count _ _ _ _ (by simp only [K.LEDG_SLOTS_WRITTEN]; omega))).trans (Dev.notedFor_headOn _ _ _)

theorem Dev.notedFor_writeGaps (l : List (Nat × Nat × Nat)) : NotedFor s d (d.writeGaps s l) := by
  induction l generalizing d with
  | nil => exact Dev.notedIn_ledg _ _ _ _
  | cons g t ih => exact (d.notedFor_putRecord s _).trans (ih _)

theorem Dev.notedFor_cutSeal (cause : Nat) : NotedFor s d (d.cutSeal s cause) := by
  unfold Dev.cutSeal
  dsimp only
  split
  · exact .refl ..
  · split
    · exact Dev.notedIn_ledg _ _ _ _
    · split
      · exact d.notedFor_stall s
      · exact (((Dev.notedFor_writeGaps _ _ _).trans (Dev.notedIn_ledg _ _ _ _)).trans (Dev.notedIn_ledg _ _ _ _)).trans (Dev.notedFor_headOn _ _ _)

theorem Dev.notedFor_cutAtLimit : NotedFor s d (d.cutAtLimit s) := by
  unfold Dev.cutAtLimit
  split
  · exact d.notedFor_cutSeal s 1
  · exact .refl ..

theorem Dev.notedFor_offerRecord (n : Nat) (reserve : Bool) (ns : Nat) (mk : Nat → List Byte) : NotedFor s d (d.offerRecord s n reserve ns mk) := by
  have hput : NotedFor s d (((d.writeGaps s (d.stream s).gaps).putRecord s mk).cutAtLimit s) :=
    ((Dev.notedFor_writeGaps _ _ _).trans (Dev.notedFor_putRecord _ _ _)).trans (Dev.notedFor_cutAtLimit _ _)
  have hlose := fun e : Dev => Dev.notedFor_loseSlots e s 1 n ns
  have hstall : NotedFor s d (if reserve then d.stall s else d) := by
    split
    · exact d.notedFor_stall s
    · exact .refl ..
  simp only [Dev.offerRecord]
  generalize (if reserve then d.stall s else d) = e at hstall
  generalize (if reserve then 0 else 64) = r
  split
  · exact .refl ..
  · split
    · exact hlose d
    · split
      · exact hput
      · exact hstall.trans (hlose e)

/-- Two devices that differ at most in what Ledger's eight streams and the fault block note. -/
abbrev Dev.Noted (d e : Dev) : Prop := NotedIn 0x401000 0x401400 d e

/-- A health record goes to every stream that runs. -/
theorem Dev.noted_health (source detail code : Nat) : d.Noted (d.health source detail code) :=
  foldl_rel (.refl _ _) .trans _ (fun b k hk => (Dev.notedFor_offerRecord b k _ _ _ _).mono (by omega) (by
    have hlt : k < 8 := List.mem_range.1 (List.mem_filter.1 hk).1
    omega)) d

end

end Sys2Proof.Machine
end

section
/-! PROOFS. Threads and their cores: dispatch, the end of a program, stalls and the debug port (R264 to R266, R284, R285). -/
namespace Sys2Proof.Machine
open Sys2Proof

/-! ## A thread read after a write -/

section
variable (d : Dev) (n : Nat)

@[simp] theorem Dev.thread_putThread_self (t : Thread) : (d.putThread n t).thread n = t := by simp [Dev.thread, Dev.putThread, mapGetD]

theorem Dev.thread_putThread_ne (t : Thread) {m : Nat} (h : m ≠ n) : (d.putThread n t).thread m = d.thread m := by
  simp [Dev.thread, Dev.putThread, mapGetD, mapGet_mapPut_ne _ _ h]

@[simp] theorem Dev.thread_modThread_self (f : Thread → Thread) : (d.modThread n f).thread n = f (d.thread n) := d.thread_putThread_self n _

theorem Dev.thread_modThread_ne (f : Thread → Thread) {m : Nat} (h : m ≠ n) : (d.modThread n f).thread m = d.thread m :=
  d.thread_putThread_ne n _ h

@[simp] theorem Dev.thread_count (k a : Nat) : (d.count k a).thread n = d.thread n := rfl
@[simp] theorem Dev.thread_raise (f : Fld) : (d.raise f).thread n = d.thread n := rfl
@[simp] theorem Dev.thread_putShut (i : Nat) (x : Shut) : (d.putShut i x).thread n = d.thread n := rfl
@[simp] theorem Dev.thread_unqueue (i : Nat) : (d.unqueue i).thread n = d.thread n := rfl

end

/-! ## PROGRAM_DISPATCH (R264, R265) -/

/-- The thread that a program starts with. -/
def Dev.programThread (d : Dev) (n i : Nat) (x : Shut) : Thread :=
  { run := 1, pc := recGet ((d.cfgOf x).record Tab.program (x.get S.PROGRAM)) ⟨0, 16⟩, budget := some (d.dispatchBudget x),
    events := (d.thread n).events, armed := (d.thread n).armed, shuttle := some i, guar := d.isGuar n,
    copy := (x.set S.CELL (Config.freeValue d.free).toNat).w,
    regs := [(1, BitVec.ofNat 64 (x.get S.PROGRAM)), (2, BitVec.ofNat 64 (x.get S.LENGTH)), (3, BitVec.ofNat 64 (x.get S.CLASS))] }

/-- A shuttle whose program runs. -/
def Shut.dispatched (x : Shut) : Shut := { x with stage := .thread }

theorem Dev.startProgram_eq (d : Dev) (n i : Nat) (x : Shut) :
    d.startProgram n i x = ((d.fresh.2.putThread n (d.programThread n i x)).putShut i x.dispatched).count K.BARB_DISPATCHED := rfl

/-- The dispatch of the one shuttle that waits for a thread's core. -/
theorem execProgramDispatch_start {s : State} {c th i : Nat} {x : Shut} (hc : c < 64) (hth : th < 8) (hd : s.dev.deciding = true)
    (hg : s.dev.isGated 0 c = false) (ho : s.dev.flt.outUnits.contains (2, c) = false) (hw : s.dev.flt.wearMoves.contains (2, c) = false)
    (hdis : s.dev.isDispatch (8 * c + th) = true) (hrun : (s.dev.thread (8 * c + th)).run = 0)
    (hl : s.dev.waitingFor c (s.dev.isGuar (8 * c + th)) = [(i, x)]) (hx : s.dev.shut i = some x) :
    execProgramDispatch c th s = done s (s.dev.startProgram (8 * c + th) i x) := by
  have hfirst : s.dev.arbFirst false [(i, x)] = some i := rfl
  simp only [execProgramDispatch, ge_iff_le, Nat.not_le.2 hc, Nat.not_le.2 hth, hd, hg, ho, hw, hdis, hrun, hl, hfirst, hx, decide_false, Bool.not_true,
    Bool.or_false, Bool.false_eq_true, if_false, ne_eq, not_true_eq_false]

/-- PROGRAM_DISPATCH starts a thread at the program's entry, with its registers, its copy of the shuttle and its budget. -/
theorem programDispatch_starts {s : State} {c th i : Nat} {x : Shut} (hc : c < 64) (hth : th < 8) (hd : s.dev.deciding = true)
    (hg : s.dev.isGated 0 c = false) (ho : s.dev.flt.outUnits.contains (2, c) = false) (hw : s.dev.flt.wearMoves.contains (2, c) = false)
    (hdis : s.dev.isDispatch (8 * c + th) = true) (hrun : (s.dev.thread (8 * c + th)).run = 0)
    (hl : s.dev.waitingFor c (s.dev.isGuar (8 * c + th)) = [(i, x)]) (hx : s.dev.shut i = some x) :
    Yields (.programDispatch c th) s (fun e => e.thread (8 * c + th) = s.dev.programThread (8 * c + th) i x ∧ e.shut i = some x.dispatched ∧
      e.ctr K.BARB_DISPATCHED = (s.dev.ctr K.BARB_DISPATCHED + 1) % 2 ^ 64 ∧ ∀ m, m ≠ 8 * c + th → e.thread m = s.dev.thread m) := by
  refine Yields.of _ (execProgramDispatch_start hc hth hd hg ho hw hdis hrun hl hx) ?_
  rw [Dev.startProgram_eq]
  refine ⟨?_, Dev.shut_putShut_self _ _ _, Dev.ctr_count_self _ _ _, fun m hm => ?_⟩
  · rw [Dev.thread_count, Dev.thread_putShut, Dev.thread_putThread_self]
  · rw [Dev.thread_count, Dev.thread_putShut, Dev.thread_putThread_ne _ _ _ hm]
    rfl

/-- PROGRAM_DISPATCH in the recovery gap, or to a gated core, changes nothing. -/
theorem programDispatch_ignored {s : State} (c th : Nat) (h : s.dev.deciding = false ∨ s.dev.isGated 0 c = true) :
    Yields (.programDispatch c th) s (fun e => e = s.dev) := by
  refine Yields.of s.dev ?_ rfl
  change execProgramDispatch c th s = _
  rcases h with h | h
  · simp [execProgramDispatch, h]
  · simp [execProgramDispatch, h]

/-! ## TEND (R266) -/

/-- A thread whose program has ended. -/
def Thread.ended (t : Thread) : Thread :=
  { t with run := 0, halted := false, stepDue := false, wait := .none, staging := [], shuttle := none, win := [], guar := false }

/-- The end of a thread that holds no lock. -/
theorem Dev.endThread_unlocked {d : Dev} {n : Nat} (h : d.locksOf n = []) : d.endThread n = (d.withdrawLocks n).modThread n Thread.ended := by
  simp only [Dev.endThread, Dev.dropLocks, h, List.foldl_nil, List.isEmpty_nil, if_true]
  rfl

/-- The flag bits that a program writes. -/
theorem testBit_writeBack (w c : ShuttleWord) {k : Nat} (hk : programMask.toNat.testBit k = true) :
    ((w &&& ~~~ programMask) ||| (c &&& programMask)).toNat.testBit k = c.toNat.testBit k := by
  have hbit : programMask.getLsbD k = true := hk
  change ((w &&& ~~~ programMask) ||| (c &&& programMask)).getLsbD k = c.getLsbD k
  simp [hbit]

/-- A flag is its bit of the shuttle. -/
theorem Shut.flag_eq_testBit (x : Shut) (b : Nat) : x.flag b = x.w.toNat.testBit (S.FLAG b).lo := by
  rw [Nat.testBit_eq_decide_div_mod_eq, Shut.flag, beq_eq_decide]
  simp only [Shut.get, bitsOf, S.FLAG, pow_one, Nat.shiftRight_eq_div_pow]
  rfl

/-- A shuttle written back whose program asked for a drop. -/
theorem Shut.flag_writeBack_drop (x : Shut) {t : Thread} (h : t.copy.toNat.testBit 647 = true) : (x.writeBack t).flag Fl.DROP = true := by
  rw [Shut.flag_eq_testBit]
  exact (testBit_writeBack x.w t.copy (by decide +kernel)).trans h

/-- A shuttle whose program has ended. -/
def Shut.returned (x : Shut) : Shut := { x with stage := .pass }

/-- What follows a program that asked for a drop: the frame, not yet whole, is discarded with reason 2. -/
theorem Dev.afterProgram_drop {d : Dev} {i : Nat} {x : Shut} (old : Shut) (hx : d.shut i = some x) (hf : x.flag Fl.DROP = true) (ho : x.Open) :
    d.afterProgram i old = ((d.putShut i x.returned).unqueue i).putShut i (x.returned.discarded 2) := by
  have hopen : x.returned.Open := ⟨ho.ended, ho.lane, ho.sa⟩
  simp only [Dev.afterProgram, hx, hf, if_true]
  exact Dev.discard_open 2 (Dev.shut_putShut_self _ _ _) hopen

/-- TEND of a thread that runs a program without a lock. -/
theorem execTend_program {s : State} {c th i : Nat} {x : Shut} (hc : c < 64) (hth : th < 8) (hi : (s.dev.thread (8 * c + th)).issues = true)
    (hs : (s.dev.thread (8 * c + th)).shuttle = some i) (hx : s.dev.shut i = some x) (hl : s.dev.locksOf (8 * c + th) = []) :
    execTend c th s = doneH s (((s.dev.putShut i (x.writeBack (s.dev.thread (8 * c + th)))).endThread (8 * c + th)).afterProgram i x) := by
  simp only [execTend, ge_iff_le, Nat.not_le.2 hc, Nat.not_le.2 hth, hi, hs, hx, hl, decide_false, Bool.not_true, Bool.or_false, Bool.false_eq_true,
    if_false, List.isEmpty_nil]

/-- TEND of a program that set DROP writes back its fields and frame bytes, ends its thread and discards the frame with reason 2 (R266). -/
theorem tend_drop {s : State} {c th i : Nat} {t : Thread} {x : Shut} (hc : c < 64) (hth : th < 8) (ht : s.dev.thread (8 * c + th) = t)
    (hi : t.issues = true) (hs : t.shuttle = some i) (hx : s.dev.shut i = some x) (hl : s.dev.locksOf (8 * c + th) = [])
    (hq : s.dev.hif.faulted = []) (hdrop : t.copy.toNat.testBit 647 = true) (ho : x.Open) :
    Yields (.tend c th) s (fun e => e.thread (8 * c + th) = t.ended ∧ e.shut i = some ((x.writeBack t).returned.discarded 2)) := by
  have hend : (s.dev.putShut i (x.writeBack t)).endThread (8 * c + th) =
      ((s.dev.putShut i (x.writeBack t)).withdrawLocks (8 * c + th)).modThread (8 * c + th) Thread.ended := Dev.endThread_unlocked hl
  have hthread : ((s.dev.putShut i (x.writeBack t)).endThread (8 * c + th)).thread (8 * c + th) = t.ended := by
    rw [hend, Dev.thread_modThread_self]
    exact congrArg Thread.ended ht
  have hshut : ((s.dev.putShut i (x.writeBack t)).endThread (8 * c + th)).shut i = some (x.writeBack t) := by
    rw [hend]
    exact Dev.shut_putShut_self s.dev i _
  have hhif : ((s.dev.putShut i (x.writeBack t)).endThread (8 * c + th)).hif = s.dev.hif := by
    rw [hend]
    rfl
  have hexec : exec (.tend c th) s = _ := execTend_program hc hth (ht ▸ hi) (ht ▸ hs) hx hl
  rw [ht, Dev.afterProgram_drop x hshut (x.flag_writeBack_drop hdrop) ⟨ho.ended, ho.lane, ho.sa⟩] at hexec
  generalize (s.dev.putShut i (x.writeBack t)).endThread (8 * c + th) = d at hthread hhif hexec
  generalize x.writeBack t = y at hexec ⊢
  refine Yields.of_doneH _ hexec (show d.hif.faulted = [] by rw [hhif, hq]) (fun e he => ⟨?_, ?_⟩)
  · rw [he.thread, Dev.thread_putShut, Dev.thread_unqueue, Dev.thread_putShut, hthread]
  · rw [he.shut, Dev.shut_putShut_self]

/-! ## STALL_DETECT (R284) -/

/-- The bit of an event that arrived and is awaited, in the word that the wake gives (R276, R277). -/
theorem wakeWord_event {ev k : Nat} (hk : k = 4) (h : ev.testBit k = true) (timer : Bool) : wakeWord ev timer / 256 % 32 / 16 = 1 := by
  subst hk
  have hbit : ev / 16 % 2 = 1 := by simpa [Nat.testBit_eq_decide_div_mod_eq] using h
  have hne : ev ≠ 0 := fun h0 => by simp [h0] at hbit
  rw [wakeWord, if_neg hne]
  cases timer
  · simp only [Bool.false_eq_true, if_false]
    omega
  · simp only [if_true]
    omega

/-- An event given to a thread. -/
theorem Dev.thread_threadEvent_self (d : Dev) {n : Nat} (bit : Nat) (h : n < 512) :
    (d.threadEvent n bit).thread n = { d.thread n with events := (d.thread n).events ||| 2 ^ bit } := by
  have hw : (d.wake 0 (n / 8)).thread n = d.thread n := by
    unfold Dev.wake
    split <;> rfl
  rw [Dev.threadEvent, if_pos h, Dev.thread_modThread_self, hw]

/-- The thread that a wake leaves RUNNING. -/
theorem Dev.thread_woken (d : Dev) (n wd ev : Nat) (timer : Bool) :
    ((d.giveWake n wd ev timer).rouse n).thread n =
      { ({ d.thread n with wake := wakeWord ev timer, events := (d.thread n).events &&& (255 - ev) } : Thread).setReg wd
          (BitVec.ofNat 64 (wakeWord ev timer)) with run := 1, wait := .none } := by
  simp [Dev.giveWake, Dev.rouse, Dev.wreg]

/-- The wake word of a thread is apart from its registers. -/
theorem Thread.wake_setReg (t : Thread) (r : Nat) (v : Dword) : (t.setReg r v).wake = t.wake := by
  unfold Thread.setReg
  split <;> rfl

/-- A WAITE that an event ends. -/
theorem Dev.threadWake_event {d : Dev} {n m : Nat} (hr : (d.thread n).run = 2) (hw : (d.thread n).wait = .event m none)
    (he : d.threadEvents n &&& m ≠ 0) : d.threadWake n = (d.giveWake n (d.thread n).wd (d.threadEvents n &&& m) false).rouse n := by
  simp [Dev.threadWake, hr, hw, he]

/-- STALL_DETECT of a stalled core whose thread 0 awaits CORE counts the stall, raises the event and runs thread 0 (R284). -/
theorem stallDetect_wakes {s : State} {c m : Nat} {t : Thread} (hc : c < 64) (hq : s.dev.hif.faulted = []) (ht : s.dev.thread (8 * c) = t)
    (hr : t.run = 2) (hw : t.wait = .event m none) (hm : m.testBit 4 = true) (hs : s.dev.stalled c = true) :
    Yields (.stallDetect c) s (fun e => (e.thread (8 * c)).run = 1 ∧ (e.thread (8 * c)).wait = .none ∧ e.get F.BARB_EVENT_STALL = 1 ∧
      e.ctr K.BARB_STALL_EVENTS = (s.dev.ctr K.BARB_STALL_EVENTS + 1) % 2 ^ 64 ∧ (e.thread (8 * c)).wake / 256 % 32 / 16 = 1) := by
  obtain ⟨d, hd⟩ : ∃ d, d = (s.dev.count K.BARB_STALL_EVENTS).raise F.BARB_EVENT_STALL := ⟨_, rfl⟩
  have hthread : d.thread (8 * c) = t := by rw [hd, Dev.thread_raise, Dev.thread_count, ht]
  have hevent := d.thread_threadEvent_self (n := 8 * c) 4 (by omega)
  rw [hthread] at hevent
  have hexec : exec (.stallDetect c) s = doneH s ((d.threadEvent (8 * c) 4).threadWake (8 * c)) := by
    change execStallDetect c s = _
    simp only [execStallDetect, ge_iff_le, Nat.not_le.2 hc, hs, decide_false, Bool.not_true, Bool.or_false, Bool.false_eq_true, if_false, ← hd,
      hthread, hr, hw, hm, if_true]
  have hbit : ((d.threadEvent (8 * c) 4).threadEvents (8 * c) &&& m).testBit 4 = true := by
    simp [Dev.threadEvents, hevent, Nat.testBit_and, Nat.testBit_or, hm, show Nat.testBit 16 4 = true by decide]
  have hbus : (d.threadEvent (8 * c) 4).bus = d.bus := by
    unfold Dev.threadEvent Dev.wake
    split
    · split <;> rfl
    · rfl
  have hhif : (d.threadEvent (8 * c) 4).hif = s.dev.hif := by
    subst hd
    unfold Dev.threadEvent Dev.wake
    split
    · split <;> rfl
    · rfl
  generalize (d.threadEvent (8 * c) 4) = e at hevent hexec hbit hbus hhif
  have hne : e.threadEvents (8 * c) &&& m ≠ 0 := fun h => by simp [h] at hbit
  rw [Dev.threadWake_event (by rw [hevent]; exact hr) (by rw [hevent]; exact hw) hne] at hexec
  refine Yields.of_doneH _ hexec (show e.hif.faulted = [] by rw [hhif, hq]) (fun u hu => ?_)
  rw [hu.thread, Dev.thread_woken, hu.get, hu.ctr]
  refine ⟨rfl, rfl, ?_, ?_, ?_⟩
  · change Dev.get e _ = 1
    rw [Dev.get, hbus, hd]
    exact Dev.get_raise_self _ _ (by decide) (by decide)
  · change Dev.ctr e _ = _
    rw [Dev.ctr, hbus, hd]
    exact Dev.ctr_count_self _ _ _
  · change (Thread.setReg _ _ _).wake / 256 % 32 / 16 = 1
    rw [Thread.wake_setReg]
    exact wakeWord_event rfl hbit false

/-- STALL_DETECT of a core that is not stalled changes nothing. -/
theorem stallDetect_ignored {s : State} {c : Nat} (h : s.dev.stalled c = false) : Yields (.stallDetect c) s (fun e => e = s.dev) := by
  refine Yields.of s.dev ?_ rfl
  change execStallDetect c s = _
  simp [execStallDetect, h]

/-! ## The debug port (R285) -/

section
variable {s : State} {c : Nat}

/-- An access to a core that is awake is made at once. -/
theorem coreAccess_awake (i : HeldOp) (now : Dev) (h : s.dev.asleep 0 c = false) : coreAccess c i s now = doneH s now := by
  simp [coreAccess, h]

/-- An access to a core that is gated, or that others wait for, begins the wake and waits for it (R30). -/
theorem coreAccess_asleep (i : HeldOp) (now : Dev) (hc : c < 64) (hl : s.dev.Live) (h : s.dev.asleep 0 c = true) :
    coreAccess c i s now = done s (s.dev.holdFor 0 c i) := by
  simp [coreAccess, h, hc, hl.responds]

variable {th : Nat} {t : Thread} (hc : c < 64) (hth : th < 8) (ht : s.dev.thread (8 * c + th) = t) (hl : s.dev.Live) (ha : s.dev.asleep 0 c = false)
  (hq : s.dev.hif.faulted = [])

section
include hc hl

theorem Dev.debugAt_of_open (hth : th < 8) (ho : s.dev.debugOpen c = true) : s.dev.debugAt c th = true := by
  simp [Dev.debugAt, hc, hth, hl.responds, ho]

end

include hc hl ha hq

/-- DEBUG_HALT while debug is locked, or of a core that holds an admitted envelope, is refused. -/
theorem debugHalt_refused (hth : th < 8) (h : s.dev.debugOpen c = false ∨ s.dev.coreAdmitted c = true) :
    Yields (.debugHalt c th) s (fun e => e.get F.BARB_EVENT_DBG_REFUSED = 1 ∧ e.barb = s.dev.barb) := by
  have hhalt : s.dev.debugHalt c th = s.dev.raise F.BARB_EVENT_DBG_REFUSED := by
    rcases h with h | h
    · simp [Dev.debugHalt, hc, hth, hl.responds, h]
    · simp [Dev.debugHalt, hc, hth, hl.responds, h]
  have hexec : exec (.debugHalt c th) s = doneH s (s.dev.raise F.BARB_EVENT_DBG_REFUSED) := by
    rw [← hhalt]
    exact coreAccess_awake _ _ ha
  refine Yields.of_doneH _ hexec hq (fun e he => ⟨?_, he.barb⟩)
  rw [he.get]
  exact Dev.get_raise_self _ _ (by decide) (by decide)

include ht

/-- DEBUG_HALT of a thread that runs or waits halts it, and counts. -/
theorem debugHalt_halts (hth : th < 8) (ho : s.dev.debugOpen c = true) (had : s.dev.coreAdmitted c = false) (hr : t.run ≠ 0) (hh : t.halted = false) :
    Yields (.debugHalt c th) s (fun e => e.thread (8 * c + th) = t.halt ∧ e.ctr K.BARB_DBG_HALTS = (s.dev.ctr K.BARB_DBG_HALTS + 1) % 2 ^ 64 ∧
      ∀ m, m ≠ 8 * c + th → e.thread m = s.dev.thread m) := by
  have hexec : exec (.debugHalt c th) s = doneH s ((s.dev.count K.BARB_DBG_HALTS).modThread (8 * c + th) (·.halt)) := by
    refine (coreAccess_awake _ _ ha).trans ?_
    simp [Dev.debugHalt, Nat.not_le.2 hc, Nat.not_le.2 hth, hl.responds, ho, had, ht, hr, hh]
  refine Yields.of_doneH _ hexec hq (fun e he => ⟨?_, ?_, fun m hm => ?_⟩)
  · rw [he.thread, Dev.thread_modThread_self, Dev.thread_count, ht]
  · rw [he.ctr]
    exact Dev.ctr_count_self _ _ _
  · rw [he.thread, Dev.thread_modThread_ne _ _ _ hm, Dev.thread_count]

/-- DEBUG_RESUME lets a thread go on. -/
theorem debugResume_resumes (hth : th < 8) (ho : s.dev.debugOpen c = true) :
    Yields (.debugResume c th) s (fun e => e.thread (8 * c + th) = { t with halted := false, stepDue := false } ∧ e.bus = s.dev.bus) := by
  have hexec : exec (.debugResume c th) s =
      doneH s (s.dev.modThread (8 * c + th) (fun t => { t with halted := false, stepDue := false })) := by
    refine (coreAccess_awake _ _ ha).trans ?_
    simp [Dev.debugResume, Dev.debugAt_of_open hc hl hth ho]
  refine Yields.of_doneH _ hexec hq (fun e he => ⟨?_, he.bus⟩)
  rw [he.thread, Dev.thread_modThread_self, ht]

/-- DEBUG_STEP of a HALTED thread that runs lets it issue once. -/
theorem debugStep_steps (hth : th < 8) (ho : s.dev.debugOpen c = true) (hh : t.halted = true) (hr : t.run = 1) :
    Yields (.debugStep c th) s (fun e => e.thread (8 * c + th) = { t with stepDue := true } ∧ e.bus = s.dev.bus) := by
  have hexec : exec (.debugStep c th) s = doneH s (s.dev.modThread (8 * c + th) (fun t => { t with stepDue := true })) := by
    refine (coreAccess_awake _ _ ha).trans ?_
    simp [Dev.debugStep, Dev.debugAt_of_open hc hl hth ho, ht, hh, hr]
  refine Yields.of_doneH _ hexec hq (fun e he => ⟨?_, he.bus⟩)
  rw [he.thread, Dev.thread_modThread_self, ht]

omit hc hl in
/-- DEBUG_STEP of a thread that does not run changes nothing. -/
theorem debugStep_waiting (hr : t.run ≠ 1) : Yields (.debugStep c th) s (fun e => { e with net := s.dev.net, out := s.dev.out } = s.dev) := by
  have hexec : exec (.debugStep c th) s = doneH s s.dev := by
    refine (coreAccess_awake _ _ ha).trans ?_
    simp [Dev.debugStep, ht, hr]
  exact Yields.of_doneH _ hexec hq (fun e he => he.eq)

variable (hsel : s.dev.get (F.BARB_CORE_DBG_SEL_THREAD c) = th)
include hsel

/-- DEBUG_DATA_WRITE of a HALTED thread writes the item that DBG_SEL selects. -/
theorem debugDataWrite_writes (ho : s.dev.debugOpen c = true) (hh : t.halted = true) {k : Nat} (hk : s.dev.get (F.BARB_CORE_DBG_SEL_ITEM c) = k)
    (h0 : k ≠ 0) (h32 : k ≤ 32) (v : Dword) :
    Yields (.debugDataWrite c v) s (fun e => e.thread (8 * c + th) = if k = 32 then { t with pc := v.toNat % 2 ^ 32 } else t.setReg k v) := by
  have hexec : exec (.debugDataWrite c v) s =
      doneH s (s.dev.modThread (8 * c + th) (fun t => if k = 32 then { t with pc := v.toNat % 2 ^ 32 } else t.setReg k v)) := by
    refine (coreAccess_awake _ _ ha).trans ?_
    simp [Dev.debugDataWrite, Dev.debugAt_of_open hc hl (th := 0) (by decide) ho, hsel, hk, ht, hh, h0, Nat.not_lt.2 h32]
  refine Yields.of_doneH _ hexec hq (fun e he => ?_)
  rw [he.thread, Dev.thread_modThread_self, ht]

omit hc hl in
/-- DEBUG_DATA_WRITE of a thread that is not HALTED changes nothing. -/
theorem debugDataWrite_running (hh : t.halted = false) (v : Dword) :
    Yields (.debugDataWrite c v) s (fun e => { e with net := s.dev.net, out := s.dev.out } = s.dev) := by
  have hexec : exec (.debugDataWrite c v) s = doneH s s.dev := by
    refine (coreAccess_awake _ _ ha).trans ?_
    simp [Dev.debugDataWrite, hsel, ht, hh]
  exact Yields.of_doneH _ hexec hq (fun e he => he.eq)

end

end Sys2Proof.Machine
end

section
/-! PROOFS. The restart of a core (R31, R283) and the BARB tables (R287). -/
namespace Sys2Proof.Machine
open Sys2Proof

/-! ## What the parts of a core's restart keep -/

/-- What each part of a core's restart keeps: the shuttles, the host interface, the cores' images and channels, and what shows that the core was
restarted. -/
structure Dev.ResetKept (d e : Dev) : Prop where
  shuts : e.shuts = d.shuts
  hif : e.hif = d.hif
  master : e.barb.master = d.barb.master
  chans : e.barb.chans = d.barb.chans
  resets : e.ctr K.BARB_CORE_RESETS = d.ctr K.BARB_CORE_RESETS
  event : e.get F.BARB_EVENT_CORE_RESET = d.get F.BARB_EVENT_CORE_RESET
  raised : d.get ⟨0x1000020, Code.coreReset, 1⟩ = 1 → e.get ⟨0x1000020, Code.coreReset, 1⟩ = 1

namespace Dev.ResetKept
variable {d e f : Dev}

theorem refl (d : Dev) : d.ResetKept d := ⟨rfl, rfl, rfl, rfl, rfl, rfl, id⟩

theorem trans (h : d.ResetKept e) (h' : e.ResetKept f) : d.ResetKept f :=
  ⟨h'.shuts.trans h.shuts, h'.hif.trans h.hif, h'.master.trans h.master, h'.chans.trans h.chans, h'.resets.trans h.resets, h'.event.trans h.event,
    h'.raised ∘ h.raised⟩

/-- Threads, locks and messages in flight may change. -/
theorem of_barb (d : Dev) {b : Barb} (hm : b.master = d.barb.master) (hc : b.chans = d.barb.chans) : d.ResetKept (d.modBarb (fun _ => b)) :=
  ⟨rfl, rfl, hm, hc, rfl, rfl, id⟩

theorem of_same {d e : Dev} (hs : e.shuts = d.shuts) (hh : e.hif = d.hif) (hb : e.barb = d.barb) (hbus : e.bus = d.bus) : d.ResetKept e :=
  ⟨hs, hh, by rw [hb], by rw [hb], by rw [Dev.ctr, hbus]; rfl, by rw [Dev.get, hbus]; rfl, by rw [Dev.get, Dev.get, hbus]; exact id⟩

theorem of_set (d : Dev) {g : Fld} (v : Nat) (h : g.apart F.BARB_EVENT_CORE_RESET = true) (h' : g.apart ⟨0x1000020, Code.coreReset, 1⟩ = true) :
    d.ResetKept (d.set g v) :=
  ⟨rfl, rfl, rfl, rfl, rfl, Dev.get_set_apart d _ _ v h, fun hr => (Dev.get_set_apart d _ _ v h').trans hr⟩

theorem of_count (d : Dev) {k : Nat} (n : Nat) (h : K.BARB_CORE_RESETS ≠ k) : d.ResetKept (d.count k n) :=
  ⟨rfl, rfl, rfl, rfl, Dev.ctr_count_ne d k n h, rfl, id⟩

theorem of_noted (h : d.Noted e) : d.ResetKept e :=
  ⟨h.shuts, h.hif, by rw [h.barb], by rw [h.barb], h.ctr _ (by decide), h.get (by decide) ⟨by decide, by decide⟩, h.raised _ (by decide)⟩

end Dev.ResetKept

section
variable (d : Dev)

theorem Dev.resetKept_modThread (n : Nat) (f : Thread → Thread) : d.ResetKept (d.modThread n f) := .of_barb d rfl rfl

theorem Dev.resetKept_unlock (k : Nat) : d.ResetKept (d.unlock k) := by
  unfold Dev.unlock
  split
  · exact .refl d
  · split
    · exact .of_barb d rfl rfl
    · exact .of_barb d rfl rfl

/-- The locks of a thread that ends go to those that wait for them. -/
theorem Dev.resetKept_dropLocks (n : Nat) : d.ResetKept (d.dropLocks n) := by
  have hfree : d.ResetKept ((d.locksOf n).foldl (fun d k => d.unlock k) (d.withdrawLocks n)) :=
    .trans (e := d.withdrawLocks n) (.of_barb d rfl rfl) (foldl_rel .refl .trans _ (fun e k _ => e.resetKept_unlock k) _)
  simp only [Dev.dropLocks]
  split
  · exact hfree
  · exact (hfree.trans (.of_count _ _ (by decide))).trans (.of_set _ 1 (by decide) (by decide))

theorem Dev.resetKept_endThread (n : Nat) : d.ResetKept (d.endThread n) := (d.resetKept_dropLocks n).trans (Dev.resetKept_modThread _ _ _)

/-- A spare unit in use: counted, its code raised and recorded in Ledger. -/
theorem Dev.resetKept_sparedNote (kind p detail : Nat) : d.ResetKept (d.sparedNote kind p detail) :=
  ((ResetKept.of_count d 1 (by decide)).trans (.of_noted (Dev.notedIn_fault _ _ _ _ _ _ (by decide)))).trans (.of_noted (Dev.noted_health _ _ _ _))

/-- A check unit's place taken by the spare that was moved in for it. -/
theorem Dev.resetKept_crcTakeover (u : Nat) : d.ResetKept (d.crcTakeover u) := by
  have hflt : ∀ f, d.ResetKept (d.modFlt f) := fun f => .of_same rfl rfl rfl rfl
  unfold Dev.crcTakeover
  split
  · exact .refl d
  · exact (hflt _).trans (Dev.resetKept_sparedNote _ _ _ _)

theorem Dev.resetKept_putCrc (u : Nat) (x : CrcUnit) : d.ResetKept (d.putCrc u x) := .of_same rfl rfl rfl rfl

/-- A field of a check unit's status. -/
theorem Dev.resetKept_setCrc {u : Nat} (hu : u < 32) {lo w : Nat} (v : Nat) (h : lo + w ≤ 32) :
    d.ResetKept (d.set ⟨0x801004 + 32 * u, lo, w⟩ v) :=
  .of_set d v (by simp [Fld.apart, F.BARB_EVENT_CORE_RESET]; omega) (by simp [Fld.apart]; omega)

/-- A check unit that its owner abandons. -/
theorem Dev.resetKept_crcAbandon {u : Nat} (hu : u < 32) : d.ResetKept (d.crcAbandon u) := by
  have hfree : d.ResetKept (d.crcFree u) :=
    ((d.resetKept_setCrc hu 0 (by decide)).trans (Dev.resetKept_putCrc _ _ _)).trans (Dev.resetKept_crcTakeover _ _)
  unfold Dev.crcAbandon
  split
  · exact hfree.trans (Dev.resetKept_setCrc _ hu 1 (by decide))
  · exact .refl d

theorem Dev.resetKept_crcAbandonAll (p : Nat × Nat → Bool) : d.ResetKept (d.crcAbandonAll p) := by
  refine foldl_rel .refl .trans _ (fun e u hu => ?_) d
  split
  · split
    · exact e.resetKept_crcAbandon (List.mem_range.1 hu)
    · exact .refl e
  · exact .refl e

theorem Dev.resetKept_threadEvent (n bit : Nat) : d.ResetKept (d.threadEvent n bit) := by
  have hwake : d.ResetKept (d.wake 0 (n / 8)) := by
    unfold Dev.wake
    split
    · exact .of_same rfl rfl rfl rfl
    · exact .refl d
  unfold Dev.threadEvent
  split
  · exact hwake.trans (Dev.resetKept_modThread _ _ _)
  · exact .refl d

/-- A mailbox whose receiver was restarted (R345). -/
theorem Dev.resetKept_dataReset {m : Nat} (hm : m < 256) : d.ResetKept (d.dataReset m) := by
  have hset : ∀ (e : Dev) (lo w v : Nat), lo + w ≤ 32 → e.ResetKept (e.set ⟨0xD01000 + 4 * m, lo, w⟩ v) := fun e lo w v h =>
    .of_set e v (by simp [Fld.apart, F.BARB_EVENT_CORE_RESET]; omega) (by simp [Fld.apart]; omega)
  have hbox : ∀ f, d.ResetKept (d.modMbox f) := fun f => .of_same rfl rfl rfl rfl
  have hput : ∀ x, d.ResetKept (d.putData m x) := fun x =>
    ((hbox _).trans (hset _ 17 1 x.full.toNat (by decide))).trans (hset _ 18 1 x.colR.toNat (by decide))
  unfold Dev.dataReset Dev.endpointEvent
  split
  · exact ((hput _).trans (.of_count _ _ (by decide))).trans (Dev.resetKept_threadEvent _ _ _)
  · exact (hput _).trans (.of_count _ _ (by decide))

theorem Dev.resetKept_mboxCoreReset (c : Nat) : d.ResetKept (d.mboxCoreReset c) := by
  refine foldl_rel .refl .trans _ (fun e m hm => ?_) d
  split
  · exact e.resetKept_dataReset (List.mem_range.1 hm)
  · exact .refl e

end

/-! ## CORE_RESET_WRITE (R31, R283) -/

/-- The core that starts: thread 0 RUNNING at its image's entry, the others IDLE. -/
theorem Dev.thread_startCore (d : Dev) (c : Nat) : (d.startCore c).thread (8 * c) = { run := 1, pc := mapGetD d.barb.master c 0 } ∧
    ∀ th, 1 ≤ th → th < 8 → (d.startCore c).thread (8 * c + th) = {} := by
  refine ⟨?_, fun th h1 h8 => ?_⟩
  · simp [Dev.startCore, Dev.thread, mapGetD]
  · have hne : 8 * c + th ≠ 8 * c := by omega
    have hcore : (8 * c + th) / 8 = c := by omega
    simp [Dev.startCore, Dev.thread, mapGetD, mapGet_mapPut_ne _ _ hne, mapGet_filter_key (fun a => a / 8 != c), hcore]

/-- The channels of a core taken away. -/
def Barb.withoutChans (b : Barb) (c : Nat) : Barb :=
  { b with chans := b.chans.filter (fun p => p.1 / 16 != c), flight := b.flight.filter (fun m => m.chan / 16 != c) }

/-- The restart counted, its event and its code raised. -/
def Dev.resetNoted (d : Dev) (c detail : Nat) : Dev :=
  ((d.count K.BARB_CORE_RESETS).raise F.BARB_EVENT_CORE_RESET).fault Code.coreReset 2
    (((d.count K.BARB_CORE_RESETS).raise F.BARB_EVENT_CORE_RESET).get (F.BARB_CORE_CFG_PHYS c)) detail

/-- The restart of a core none of whose threads holds a shuttle. -/
theorem Dev.coreReset_idle {d : Dev} {c : Nat} (detail : Nat) (h : ∀ th < 8, (d.thread (8 * c + th)).shuttle = none) :
    d.coreReset c detail = (((((coreThreads c).foldl (fun d n => d.endThread n) (d.resetNoted c detail)).modBarb (·.withoutChans c)).crcAbandonAll
      (fun o => o.1 == 0 && o.2 / 8 == c)).mboxCoreReset c).startCore c := by
  have hheld : (coreThreads c).filterMap (fun n => (d.thread n).shuttle.map (fun i => (n, i))) = [] := by
    rw [List.filterMap_eq_nil_iff]
    intro n hn
    obtain ⟨th, hth, rfl⟩ := List.mem_map.1 hn
    rw [h th (List.mem_range.1 hth)]
    rfl
  simp only [Dev.coreReset, hheld, List.foldl_nil]
  rfl

theorem Dev.resetNoted_kept (d : Dev) (c detail : Nat) : (d.resetNoted c detail).shuts = d.shuts ∧ (d.resetNoted c detail).hif = d.hif ∧
    (d.resetNoted c detail).barb = d.barb ∧ (d.resetNoted c detail).ctr K.BARB_CORE_RESETS = (d.ctr K.BARB_CORE_RESETS + 1) % 2 ^ 64 ∧
    (d.resetNoted c detail).get F.BARB_EVENT_CORE_RESET = 1 ∧ (d.resetNoted c detail).get ⟨0x1000020, Code.coreReset, 1⟩ = 1 := by
  have h : Dev.Noted ((d.count K.BARB_CORE_RESETS).raise F.BARB_EVENT_CORE_RESET) (d.resetNoted c detail) :=
    Dev.notedIn_fault _ _ _ _ _ _ (by decide)
  refine ⟨h.shuts, h.hif, h.barb, ?_, ?_, Dev.raised_fault _ _ _ _ (by decide)⟩
  · rw [h.ctr _ (by decide)]
    exact Dev.ctr_count_self d _ _
  · rw [h.get (by decide) ⟨by decide, by decide⟩]
    exact Dev.get_raise_self _ _ (by decide) (by decide)

/-- What a core restarted without a shuttle shows. -/
theorem Dev.coreReset_shows {d : Dev} {c : Nat} (detail : Nat) (h : ∀ th < 8, (d.thread (8 * c + th)).shuttle = none) :
    (d.coreReset c detail).thread (8 * c) = { run := 1, pc := mapGetD d.barb.master c 0 } ∧
    (∀ th, 1 ≤ th → th < 8 → (d.coreReset c detail).thread (8 * c + th) = {}) ∧ (∀ k < 16, (d.coreReset c detail).chan (16 * c + k) = []) ∧
    (d.coreReset c detail).ctr K.BARB_CORE_RESETS = (d.ctr K.BARB_CORE_RESETS + 1) % 2 ^ 64 ∧
    (d.coreReset c detail).get F.BARB_EVENT_CORE_RESET = 1 ∧ (d.coreReset c detail).get ⟨0x1000020, Code.coreReset, 1⟩ = 1 ∧
    (d.coreReset c detail).shuts = d.shuts ∧ (d.coreReset c detail).hif = d.hif := by
  rw [Dev.coreReset_idle detail h]
  obtain ⟨hshuts, hhif, hbarb, hctr, hevent, hcode⟩ := d.resetNoted_kept c detail
  have hended : (d.resetNoted c detail).ResetKept ((coreThreads c).foldl (fun d n => d.endThread n) (d.resetNoted c detail)) :=
    foldl_rel .refl .trans _ (fun e n _ => e.resetKept_endThread n) _
  generalize (coreThreads c).foldl (fun d n => d.endThread n) (d.resetNoted c detail) = e at hended
  have hkept : (e.modBarb (·.withoutChans c)).ResetKept
      (((e.modBarb (·.withoutChans c)).crcAbandonAll (fun o => o.1 == 0 && o.2 / 8 == c)).mboxCoreReset c) :=
    (Dev.resetKept_crcAbandonAll _ _).trans (Dev.resetKept_mboxCoreReset _ _)
  generalize ((e.modBarb (·.withoutChans c)).crcAbandonAll (fun o => o.1 == 0 && o.2 / 8 == c)).mboxCoreReset c = f at hkept
  have hmaster : f.barb.master = d.barb.master := hkept.master.trans (hended.master.trans (by rw [hbarb]))
  have hchans : f.barb.chans = e.barb.chans.filter (fun p => p.1 / 16 != c) := hkept.chans
  obtain ⟨hzero, hrest⟩ := f.thread_startCore c
  refine ⟨?_, hrest, fun k hk => ?_, ?_, ?_, ?_, ?_, ?_⟩
  · rw [hzero, hmaster]
  · have hcore : (16 * c + k) / 16 = c := by omega
    change mapGetD f.barb.chans (16 * c + k) [] = []
    simp [hchans, mapGetD, mapGet_filter_key (fun a => a / 16 != c), hcore]
  · exact hkept.resets.trans (hended.resets.trans hctr)
  · exact hkept.event.trans (hended.event.trans hevent)
  · exact hkept.raised (hended.raised hcode)
  · exact hkept.shuts.trans (hended.shuts.trans hshuts)
  · exact hkept.hif.trans (hended.hif.trans hhif)

/-- CORE_RESET_WRITE with the KEY of a core from 8 up that holds no shuttle restarts it (R31). -/
theorem coreResetWrite_restarts {s : State} {c : Nat} (h8 : 8 ≤ c) (hc : c < 64) (hl : s.dev.Live) (ha : s.dev.asleep 0 c = false)
    (hq : s.dev.hif.faulted = []) (h : ∀ th < 8, (s.dev.thread (8 * c + th)).shuttle = none) :
    Yields (.coreResetWrite c 0xC0E5) s (fun e => (e.thread (8 * c)).run = 1 ∧ (e.thread (8 * c)).pc = mapGetD s.dev.barb.master c 0 ∧
      (∀ th, 1 ≤ th → th < 8 → e.thread (8 * c + th) = {}) ∧ (∀ k < 16, e.chan (16 * c + k) = []) ∧
      e.ctr K.BARB_CORE_RESETS = (s.dev.ctr K.BARB_CORE_RESETS + 1) % 2 ^ 64 ∧ e.get F.BARB_EVENT_CORE_RESET = 1 ∧
      e.get ⟨0x1000020, Code.coreReset, 1⟩ = 1 ∧ e.shuts = s.dev.shuts) := by
  obtain ⟨hzero, hrest, hchans, hctr, hevent, hcode, hshuts, hhif⟩ := Dev.coreReset_shows 0 h
  have hexec : exec (.coreResetWrite c 0xC0E5) s = doneH s (s.dev.coreReset c 0) := by
    change execCoreResetWrite c 0xC0E5 s = _
    simp only [execCoreResetWrite, Nat.not_lt.2 h8, ge_iff_le, Nat.not_le.2 hc, hl.responds, ne_eq, not_true_eq_false, Bool.true_eq_false, or_self, if_false]
    exact coreAccess_awake _ _ ha
  generalize s.dev.coreReset c 0 = d at hzero hrest hchans hctr hevent hcode hshuts hhif hexec
  refine Yields.of_doneH d hexec (by rw [hhif, hq]) (fun e he => ⟨?_, ?_, fun th h1 h2 => ?_, fun k hk => ?_, ?_, ?_, ?_, ?_⟩)
  · rw [he.thread, hzero]
  · rw [he.thread, hzero]
  · rw [he.thread, hrest th h1 h2]
  · rw [he.chan, hchans k hk]
  · rw [he.ctr, hctr]
  · rw [he.get, hevent]
  · rw [he.get, hcode]
  · rw [he.shuts, hshuts]

/-- CORE_RESET_WRITE of a core from 0 to 7, or without the KEY, changes nothing. -/
theorem coreResetWrite_ignored {s : State} {c k : Nat} (h : c < 8 ∨ k ≠ 0xC0E5) : Yields (.coreResetWrite c k) s (fun e => e = s.dev) := by
  refine Yields.of s.dev ?_ rfl
  change execCoreResetWrite c k s = _
  rcases h with h | h
  · simp [execCoreResetWrite, h]
  · simp [execCoreResetWrite, h]

end Sys2Proof.Machine
end

section
/-! PROOFS. Indirect operations (R161), the BARB tables (R287), and the statement on dispatch, reset and debug. -/
namespace Sys2Proof.Machine
open Sys2Proof

/-! ## Words read back -/

/-- The number that words written from an address show. -/
theorem Dev.words_putWords (d : Dev) (a n x : Nat) : (d.putWords a n x).words a n = x % 2 ^ (32 * n) := by
  induction n generalizing d a x with
  | zero => simp [Dev.words, Nat.mod_one]
  | succ n ih =>
    rw [Dev.putWords, Dev.words, ih, Dev.word_putWords_outside _ _ _ _ (by omega), Dev.word_putWord_self, BitVec.toNat_ofNat,
      show 32 * (n + 1) = 32 + 32 * n by omega, Nat.pow_add, Nat.mod_mul]

/-- Words apart from what changed read the same. -/
theorem Dev.words_congr {d e : Dev} {a n : Nat} (h : ∀ b, a ≤ b → b < a + 4 * n → e.word b = d.word b) : e.words a n = d.words a n := by
  induction n generalizing a with
  | zero => rfl
  | succ n ih => rw [Dev.words, Dev.words, h a (by omega) (by omega), ih (fun b h1 h2 => h b (by omega) (by omega))]

/-! ## An indirect operation (R161) -/

/-- The device with an indirect operation's fields written and BUSY set. -/
def Dev.indStarted (d : Dev) (ctrl op table set index : Nat) : Dev :=
  ((((d.set ⟨ctrl, 1, 3⟩ op).set ⟨ctrl, 4, 3⟩ table).set ⟨ctrl, 7, 1⟩ set).set ⟨ctrl + 4, 0, 32⟩ index).set ⟨ctrl, 16, 1⟩ 1

section
variable (d : Dev) (ctrl op table set index : Nat)

theorem Dev.indStarted_busy : (d.indStarted ctrl op table set index).get ⟨ctrl, 16, 1⟩ = 1 := Dev.get_set_place _ _ (by decide)

theorem Dev.indStarted_cfg : (d.indStarted ctrl op table set index).cfg = d.cfg := rfl

/-- An operation's start leaves every word but its own two. -/
theorem Dev.indStarted_word {a : Nat} (h : a ≠ ctrl) (h' : a ≠ ctrl + 4) : (d.indStarted ctrl op table set index).word a = d.word a := by
  have hs : ∀ (e : Dev) (b lo w v : Nat), a ≠ b → lo + w ≤ 32 → (e.set ⟨b, lo, w⟩ v).word a = e.word a := fun e b lo w v hb hw =>
    sameWordsBut_set e v hw a (by simpa using hb)
  rw [Dev.indStarted, hs _ _ _ _ _ h (by decide), hs _ _ _ _ _ h' (by decide), hs _ _ _ _ _ h (by decide), hs _ _ _ _ _ h (by decide),
    hs _ _ _ _ _ h (by decide)]

variable {d ctrl}

/-- An operation that starts acts at once, and keeps the RESULT that its completion will show. -/
theorem Dev.indirect_ready (h : d.IndReady ctrl) (f : Dev → Dev × Nat) :
    d.indirect ctrl op table set index f =
      { (f (d.indStarted ctrl op table set index)).1 with
        ind := mapPut (f (d.indStarted ctrl op table set index)).1.ind ctrl (f (d.indStarted ctrl op table set index)).2 } := by
  obtain ⟨hl, hb⟩ := h
  have hz : ¬ (0 = 1) := by decide
  simp only [Dev.indirect, hl.responds, hb, hz, Bool.not_true, decide_false, Bool.or_self, Bool.false_eq_true, if_false]
  rfl

end

/-- An operation under way, its RESULT kept. -/
theorem Dev.indBusy_put {e : Dev} {ctrl : Nat} (code : Nat) (h : e.get ⟨ctrl, 16, 1⟩ = 1) : { e with ind := mapPut e.ind ctrl code }.IndBusy ctrl code :=
  ⟨h, mapGet_mapPut_self _ _ _⟩

/-! ## BARB_READ and BARB_WRITE (R287) -/

/-- A field as wide as its word, read and written to an empty one, is the word. -/
theorem bitsSet_whole {n : Nat} (x : BitVec n) : BitVec.ofNat n (bitsSet (0 : BitVec n).toNat 0 n (bitsOf x.toNat 0 n)) = x := by
  apply BitVec.eq_of_toNat_eq
  simp [bitsSet, bitsOf, Nat.mod_eq_of_lt x.isLt]

/-- A record of the BARB tables is staged whole. -/
theorem keepRec_barb {tab : Nat} (h : tab = Tab.program ∨ tab = Tab.binding) (r : Rec) : keepRec tab r = r := by
  have hwhole : keepRec tab r = recSet 0 ⟨0, 2048⟩ (recGet r ⟨0, 2048⟩) := by
    rcases h with rfl | rfl
    · rfl
    · rfl
  simp only [hwhole, recSet, recGet]
  exact bitsSet_whole r

/-- The tables that BARB_IND names. -/
theorem barbTable_mem {table k tab : Nat} (h : barbTable table k = some tab) : tab = Tab.program ∨ tab = Tab.binding := by
  unfold barbTable at h
  split at h
  · exact .inl (Option.some.inj h).symm
  · split at h
    · exact .inr (Option.some.inj h).symm
    · exact absurd h (by simp)

/-- A record of a table without a reserve is staged (R157). -/
theorem Dev.stageRec_barb (d : Dev) {tab : Nat} (h : tab = Tab.program ∨ tab = Tab.binding) (k : Nat) (r : Rec) (log : List Byte) :
    ∃ b, d.stageRec tab k (some r) log =
      (((d.modCfg (fun c => { c with shadow := { c.shadow with recs := mapPut c.shadow.recs (recKey tab k) r } })).modBoot (fun _ => b)).set
        F.HED_SHADOW_STATUS_CHANGED 1, true) := by
  have hres : reserveOf tab k = none := by
    rcases h with rfl | rfl
    · rfl
    · rfl
  simp only [Dev.stageRec, hres, Option.map_some, keepRec_barb h]
  exact ⟨_, rfl⟩

/-- What BARB_WRITE would stage depends on the shadow set and on the window alone. -/
theorem Dev.barbMerge_indStarted (d : Dev) (op table set index tab k : Nat) :
    (d.indStarted 0xB00200 op table set index).barbMerge tab k = d.barbMerge tab k := by
  have hw : (d.indStarted 0xB00200 op table set index).words barbWin 4 = d.words barbWin 4 :=
    Dev.words_congr (fun b h1 _ => Dev.indStarted_word _ _ _ _ _ _ (by simp only [barbWin] at h1; omega) (by simp only [barbWin] at h1; omega))
  have hrec : (d.indStarted 0xB00200 op table set index).winRec barbWin 16 = d.winRec barbWin 16 := by
    change BitVec.ofNat 2048 (Dev.words _ barbWin 4 % 2 ^ 128) = _
    rw [hw]
    rfl
  simp only [Dev.barbMerge, hrec, Dev.indStarted_cfg]

section
variable {s : State} (h : s.dev.IndReady 0xB00200)
include h

/-- BARB_READ of an entry of a set. -/
theorem barbRead_shows {table k tab : Nat} (x : Nat) (ht : barbTable table k = some tab) :
    Yields (.barbRead table x k) s (fun e => e.IndBusy 0xB00200 0 ∧ e.words barbWin 4 = ((s.dev.setBy x).record tab k).toNat % 2 ^ 128 ∧
      e.cfg = s.dev.cfg) := by
  have hexec : exec (.barbRead table x k) s = done s _ := congrArg (done s) (Dev.indirect_ready 0 table x k h _)
  simp only [ht] at hexec
  refine Yields.of _ hexec ?_
  have hbusy := s.dev.indStarted_busy 0xB00200 0 table x k
  have hset : (s.dev.indStarted 0xB00200 0 table x k).setBy x = s.dev.setBy x := rfl
  have hcfg := s.dev.indStarted_cfg 0xB00200 0 table x k
  rw [hset]
  generalize s.dev.indStarted 0xB00200 0 table x k = d at hbusy hcfg
  generalize (s.dev.setBy x).record tab k = r
  have hwords : (d.showRec barbWin 16 r).words barbWin 4 = r.toNat % 2 ^ 128 := by
    rw [Dev.showRec, show ceilDiv 16 4 = 4 by decide, Dev.words_putWords, show 32 * 4 = 8 * 16 by decide, Nat.mod_mod]
  have hkept : (d.showRec barbWin 16 r).get ⟨0xB00200, 16, 1⟩ = 1 := (Dev.get_putWords_outside _ _ _ _ (by decide) (.inl (by decide))).trans hbusy
  have hsame : (d.showRec barbWin 16 r).cfg = s.dev.cfg := by
    obtain ⟨w, hw⟩ := d.putWords_eq barbWin (ceilDiv 16 4) (r.toNat % 2 ^ (8 * 16))
    rw [Dev.showRec, hw, ← hcfg]
  generalize d.showRec barbWin 16 r = e at hwords hkept hsame
  exact ⟨Dev.indBusy_put _ hkept, hwords, hsame⟩

/-- BARB_WRITE to the active set is refused. -/
theorem barbWrite_active {table k tab : Nat} (ht : barbTable table k = some tab) :
    Yields (.barbWrite table 1 k) s (fun e => e.IndBusy 0xB00200 5 ∧ e.cfg = s.dev.cfg) := by
  have hexec : exec (.barbWrite table 1 k) s = done s _ := congrArg (done s) (Dev.indirect_ready 1 table 1 k h _)
  have hbusy := s.dev.indStarted_busy 0xB00200 1 table 1 k
  have hcfg := s.dev.indStarted_cfg 0xB00200 1 table 1 k
  simp only [ht, Dev.indWrite, if_true] at hexec
  generalize s.dev.indStarted 0xB00200 1 table 1 k = d at hbusy hcfg hexec
  exact Yields.of _ hexec ⟨Dev.indBusy_put _ hbusy, hcfg⟩

/-- BARB_WRITE to the shadow set stages the entry with its writable fields. -/
theorem barbWrite_stages {table k tab : Nat} (ht : barbTable table k = some tab) :
    Yields (.barbWrite table 0 k) s (fun e => e.IndBusy 0xB00200 0 ∧ e.cfg.active = s.dev.cfg.active ∧
      e.cfg.shadow.record tab k = s.dev.barbMerge tab k) := by
  have hexec : exec (.barbWrite table 0 k) s = done s _ := congrArg (done s) (Dev.indirect_ready 1 table 0 k h _)
  have hbusy := s.dev.indStarted_busy 0xB00200 1 table 0 k
  have hcfg := s.dev.indStarted_cfg 0xB00200 1 table 0 k
  simp only [ht, Dev.indWrite, Dev.barbMerge_indStarted, Nat.zero_ne_one, if_false] at hexec
  generalize s.dev.indStarted 0xB00200 1 table 0 k = d at hbusy hcfg hexec
  generalize s.dev.barbMerge tab k = r at hexec ⊢
  obtain ⟨b, hb⟩ := d.stageRec_barb (barbTable_mem ht) k r (leBytes 16 ((some r).getD 0).toNat)
  rw [hb] at hexec
  refine Yields.of _ hexec ⟨Dev.indBusy_put _ ?_, ?_, ?_⟩
  · rw [Dev.get_set_apart _ _ _ _ (by decide)]
    exact hbusy
  · change d.cfg.active = _
    rw [hcfg]
  · change mapGetD (mapPut _ (recKey tab k) r) (recKey tab k) 0 = r
    simp [mapGetD]

/-- BARB_READ of a program that is none answers RANGE. -/
theorem barbRead_range {k : Nat} (x : Nat) (hk : 65536 ≤ k ∨ k = 0) :
    Yields (.barbRead 0 x k) s (fun e => e.IndBusy 0xB00200 3 ∧ e.cfg = s.dev.cfg) := by
  have ht : barbTable 0 k = none := by
    rw [barbTable, if_neg (by omega), if_neg (by omega)]
  have hexec : exec (.barbRead 0 x k) s = done s _ := congrArg (done s) (Dev.indirect_ready 0 0 x k h _)
  have hbusy := s.dev.indStarted_busy 0xB00200 0 0 x k
  have hcfg := s.dev.indStarted_cfg 0xB00200 0 0 x k
  simp only [ht] at hexec
  generalize s.dev.indStarted 0xB00200 0 0 x k = d at hbusy hcfg hexec
  exact Yields.of _ hexec ⟨Dev.indBusy_put _ hbusy, hcfg⟩

end

/-- BARB_WRITE leaves the entries of the programs of cores 0 to 7. -/
theorem Dev.barbMerge_reserved (d : Dev) {k : Nat} (h : recGet (d.cfg.shadow.record Tab.program k) ⟨16, 6⟩ < 8) :
    d.barbMerge Tab.program k = d.cfg.shadow.record Tab.program k := by
  simp only [Dev.barbMerge, if_true, h]

/-! ## The statement -/

/-- A halt of a thread that does not wait to send leaves its wait. -/
theorem Thread.halt_of_not_send {t : Thread} (h : ∀ q w, t.wait ≠ .send q w) : t.halt = { t with halted := true } := by
  unfold Thread.halt
  split
  · exact absurd ‹_› (h _ _)
  · rfl

theorem Thread.halted_halt (t : Thread) : t.halt.halted = true := by
  unfold Thread.halt
  split <;> rfl

/-- Settles O44: each command by the lemma on what it does to its core, its thread or the BARB window. -/
theorem dispatchResetAndDebug : Obligations.DispatchResetAndDebug := by
  unfold Obligations.DispatchResetAndDebug
  refine ⟨?dispatch, fun s c th h => programDispatch_ignored c th h, ?tend, ?stall, fun s c h => stallDetect_ignored h, ?reset,
    fun s c k h => coreResetWrite_ignored h, ?debug, ?asleep, ?tables, fun s x k h hk => barbRead_range h x hk, fun d k h => d.barbMerge_reserved h⟩
  case dispatch =>
    rintro s c th _ i x hc hth rfl hd hg ho hw hdis hrun hl hx
    refine (programDispatch_starts hc hth hd hg ho hw hdis hrun hl hx).mono (fun e ⟨hthread, hshut, hctr, hothers⟩ => ?_)
    exact ⟨by rw [hthread]; rfl, by rw [hthread]; rfl, by rw [hthread]; rfl, by rw [hthread]; rfl, by rw [hthread]; rfl,
      by rw [hthread]; rfl, by rw [hthread]; rfl, by rw [hthread]; rfl, by rw [hthread]; rfl, hshut, hctr, hothers⟩
  case tend =>
    rintro s c th _ i _ x hc hth rfl rfl hi hs hx hl hq hdrop hended hlane hsa _
    exact (tend_drop hc hth rfl hi hs hx hl hq hdrop ⟨hended, hlane, hsa⟩).mono (fun e ⟨hthread, hshut⟩ =>
      ⟨by rw [hthread]; rfl, by rw [hthread]; rfl, _, hshut, rfl, rfl, rfl, rfl⟩)
  case stall =>
    rintro s c m _ hc hq rfl hr hw hm hs
    exact stallDetect_wakes hc hq rfl hr hw hm hs
  case reset =>
    intro s c h8 hc hl ha hq h
    exact coreResetWrite_restarts h8 hc hl ha hq h
  case debug =>
    rintro s c th _ _ hc hth rfl rfl hl ha hq
    refine ⟨fun ho had hr hh => ?_, fun h => debugHalt_refused hc hl ha hq hth h, fun ho hh => ⟨?_, fun hr => ?_, fun hr => ?_, fun v hsel => ⟨?_, ?_⟩⟩,
      fun hh hsel v => debugDataWrite_running rfl ha hq hsel hh v⟩
    · exact (debugHalt_halts hc rfl hl ha hq hth ho had hr hh).mono (fun e ⟨hthread, hctr, hothers⟩ =>
        ⟨by rw [hthread, Thread.halted_halt], fun hs => by rw [hthread, Thread.halt_of_not_send hs], hctr, hothers⟩)
    · exact debugResume_resumes hc rfl hl ha hq hth ho
    · exact (debugStep_steps hc rfl hl ha hq hth ho hh hr).mono (fun e ⟨hthread, hbus⟩ =>
        ⟨hthread, by simp [hthread, Thread.issues, hr], hbus⟩)
    · exact debugStep_waiting rfl ha hq (by simp [hr])
    · intro k hk h1 h31
      exact (debugDataWrite_writes hc rfl hl ha hq hsel ho hh hk (by omega) (by omega) v).mono (fun e he => he.trans (if_neg (by omega)))
    · intro hk
      exact (debugDataWrite_writes hc rfl hl ha hq hsel ho hh hk (by decide) (by decide) v).mono (fun e he => he.trans (if_pos rfl))
  case asleep =>
    intro s c th v hc hl ha
    exact ⟨Yields.of _ (coreAccess_asleep _ _ hc hl ha) rfl, Yields.of _ (coreAccess_asleep _ _ hc hl ha) rfl,
      Yields.of _ (coreAccess_asleep _ _ hc hl ha) rfl, Yields.of _ (coreAccess_asleep _ _ hc hl ha) rfl⟩
  case tables =>
    intro s table x k tab h _ ht
    exact ⟨barbRead_shows h x ht, barbWrite_active h ht, barbWrite_stages h ht⟩

end Sys2Proof.Machine
end

section
/-! PROOFS. What the ports show of their reception: the frame each is receiving and the counts of its frames (R64). Every step of a frame's end and
of the handling of a failed access keeps it, as a lemma `rxSide_f` says for each function `f`, in the order of the model's units. -/
namespace Sys2Proof.Machine
open Sys2Proof

/-! ## The receiving side of the ports -/

/-- What the ports show of their reception: the frame each is receiving, and its counts of frames and of bad ones. -/
def Dev.rxSide (d : Dev) : List (Option Nat × Nat × Nat) :=
  (List.range 9).map (fun n => ((d.port n).cur, d.ctr (K.PORT_RX_FRAMES n), d.ctr (K.PORT_RX_FCS_BAD n)))

/-- A count that is none of a port's counts of received frames. -/
def rxApart (k : Nat) : Bool := (List.range 9).all (fun n => k != K.PORT_RX_FRAMES n && k != K.PORT_RX_FCS_BAD n)

theorem rxApart_iff {k : Nat} : rxApart k = true ↔ ∀ n < 9, k ≠ K.PORT_RX_FRAMES n ∧ k ≠ K.PORT_RX_FCS_BAD n := by
  simp [rxApart]

theorem Dev.rxSide_ext {d e : Dev} (h : ∀ n < 9, (e.port n).cur = (d.port n).cur ∧ e.ctr (K.PORT_RX_FRAMES n) = d.ctr (K.PORT_RX_FRAMES n) ∧
    e.ctr (K.PORT_RX_FCS_BAD n) = d.ctr (K.PORT_RX_FCS_BAD n)) : e.rxSide = d.rxSide := by
  refine List.map_congr_left (fun n hn => ?_)
  obtain ⟨hcur, hframes, hbad⟩ := h n (List.mem_range.1 hn)
  rw [hcur, hframes, hbad]

/-- What a port's receiving side shows when it is the same. -/
theorem Dev.rxSide_at {d e : Dev} (h : e.rxSide = d.rxSide) {n : Nat} (hn : n ≤ 8) : (e.port n).cur = (d.port n).cur ∧
    e.ctr (K.PORT_RX_FRAMES n) = d.ctr (K.PORT_RX_FRAMES n) ∧ e.ctr (K.PORT_RX_FCS_BAD n) = d.ctr (K.PORT_RX_FCS_BAD n) := by
  have heq := List.map_inj_left.1 h n (List.mem_range.2 (by omega))
  simpa using heq

/-- Steps that each keep the receiving side keep it together. -/
theorem Dev.rxSide_foldl {α : Type} {f : Dev → α → Dev} (h : ∀ d a, (f d a).rxSide = d.rxSide) (d : Dev) (l : List α) :
    (l.foldl f d).rxSide = d.rxSide := by
  induction l generalizing d with
  | nil => rfl
  | cons a t ih => exact (ih _).trans (h d a)

section
variable (d : Dev)

@[simp] theorem Dev.rxSide_set (f : Fld) (v : Nat) : (d.set f v).rxSide = d.rxSide := rfl
@[simp] theorem Dev.rxSide_raise (f : Fld) : (d.raise f).rxSide = d.rxSide := rfl
@[simp] theorem Dev.rxSide_emit (o : Out) : (d.emit o).rxSide = d.rxSide := rfl
@[simp] theorem Dev.rxSide_putShut (i : Nat) (s : Shut) : (d.putShut i s).rxSide = d.rxSide := rfl
@[simp] theorem Dev.rxSide_freeShut (i : Nat) : (d.freeShut i).rxSide = d.rxSide := rfl
@[simp] theorem Dev.rxSide_arrive (i : Nat) (s : Shut) (g : Stage) : (d.arrive i s g).rxSide = d.rxSide := rfl
@[simp] theorem Dev.rxSide_fresh : d.fresh.2.rxSide = d.rxSide := rfl
@[simp] theorem Dev.rxSide_modReed (f : Reed → Reed) : (d.modReed f).rxSide = d.rxSide := rfl
@[simp] theorem Dev.rxSide_modFwd (f : Fwd → Fwd) : (d.modFwd f).rxSide = d.rxSide := rfl
@[simp] theorem Dev.rxSide_modHif (f : Hif → Hif) : (d.modHif f).rxSide = d.rxSide := rfl
@[simp] theorem Dev.rxSide_modCiph (f : Ciph → Ciph) : (d.modCiph f).rxSide = d.rxSide := rfl
@[simp] theorem Dev.rxSide_modStor (f : Stor → Stor) : (d.modStor f).rxSide = d.rxSide := rfl
@[simp] theorem Dev.rxSide_modHed (f : Hed → Hed) : (d.modHed f).rxSide = d.rxSide := rfl
@[simp] theorem Dev.rxSide_modRing (r : Nat) (f : RingSt → RingSt) : (d.modRing r f).rxSide = d.rxSide := rfl
@[simp] theorem Dev.rxSide_unqueue (i : Nat) : (d.unqueue i).rxSide = d.rxSide := rfl
@[simp] theorem Dev.rxSide_present (n : Nat) (x : CrossItem) : (d.present n x).rxSide = d.rxSide := rfl
@[simp] theorem Dev.rxSide_chargeRate (a b : Nat) : (d.chargeRate a b).rxSide = d.rxSide := rfl

@[simp] theorem Dev.rxSide_count {k : Nat} (h : rxApart k = true) (n : Nat) : (d.count k n).rxSide = d.rxSide := by
  refine Dev.rxSide_ext (fun p hp => ?_)
  obtain ⟨hframes, hbad⟩ := rxApart_iff.1 h p hp
  exact ⟨rfl, Dev.ctr_count_ne d k n hframes.symm, Dev.ctr_count_ne d k n hbad.symm⟩

@[simp] theorem Dev.rxSide_logPut (ix win words entry : Nat) : (d.logPut ix win words entry).rxSide = d.rxSide := by
  obtain ⟨w, hw⟩ := d.logPut_eq ix win words entry
  rw [hw]
  rfl

/-- What Ledger and the fault block note is apart from the ports. -/
theorem Dev.NotedIn.rxSide {d e : Dev} {lo hi : Nat} (h : d.NotedIn lo hi e) (hlo : 0x400000 ≤ lo) : e.rxSide = d.rxSide := by
  refine Dev.rxSide_ext (fun n hn => ⟨?_, h.ctr _ (.inl ?_), h.ctr _ (.inl ?_)⟩)
  · rw [Dev.port, h.net]
    rfl
  · simp only [K.PORT_RX_FRAMES]
    omega
  · simp only [K.PORT_RX_FCS_BAD]
    omega

@[simp] theorem Dev.rxSide_fault {c : Nat} (h : c < 32) (kind unit detail : Nat) : (d.fault c kind unit detail).rxSide = d.rxSide :=
  (Dev.notedIn_fault 0x400000 0 d kind unit detail h).rxSide (by decide)

@[simp] theorem Dev.rxSide_loseSlots (s cause n ns : Nat) : (d.loseSlots s cause n ns).rxSide = d.rxSide :=
  (d.notedFor_loseSlots s cause n ns).rxSide (by omega)

@[simp] theorem Dev.rxSide_offerRecord (s n : Nat) (reserve : Bool) (ns : Nat) (mk : Nat → List Byte) :
    (d.offerRecord s n reserve ns mk).rxSide = d.rxSide := (d.notedFor_offerRecord s n reserve ns mk).rxSide (by omega)

@[simp] theorem Dev.rxSide_health (source detail code : Nat) : (d.health source detail code).rxSide = d.rxSide :=
  (d.noted_health source detail code).rxSide (by omega)

@[simp] theorem Dev.rxSide_wake (kind unit : Nat) : (d.wake kind unit).rxSide = d.rxSide := by
  unfold Dev.wake
  split <;> rfl

@[simp] theorem Dev.rxSide_modShut (i : Nat) (f : Shut → Shut) : (d.modShut i f).rxSide = d.rxSide := by
  unfold Dev.modShut
  split <;> rfl

@[simp] theorem Dev.rxSide_setStatus (i c : Nat) : (d.setStatus i c).rxSide = d.rxSide := by
  unfold Dev.setStatus
  split <;> rfl

end

end Sys2Proof.Machine
end

section
/-! PROOFS. Ledger's records, learning, and the host interface keep the receiving side of the ports. -/
namespace Sys2Proof.Machine
open Sys2Proof

section
variable (d : Dev)

/-! ## Records and learning (R120, R178) -/

@[simp] theorem Dev.rxSide_offerFrame (st n ns : Nat) (hash : Bool) (b : List Byte) : (d.offerFrame st n ns hash b).rxSide = d.rxSide := by
  unfold Dev.offerFrame
  split
  · exact d.rxSide_wake 4 0
  · simp

@[simp] theorem Dev.rxSide_missFlush (i : Nat) : (d.missFlush i).rxSide = d.rxSide := by
  unfold Dev.missFlush
  split
  · rfl
  · split <;> simp

@[simp] theorem Dev.rxSide_frameRecord (s : Shut) (stamp : StampAt) (port dir key : Nat) (bytes : List Byte) (fcs : Nat) (ext : Bool) :
    (d.frameRecord s stamp port dir key bytes fcs ext).rxSide = d.rxSide := by
  simp [Dev.frameRecord, apply_ite Dev.rxSide]

@[simp] theorem Dev.rxSide_takeIngress (i : Nat) (s : Shut) : (d.takeIngress i s).rxSide = d.rxSide := by
  simp [Dev.takeIngress, apply_ite Dev.rxSide]

@[simp] theorem Dev.rxSide_queueLearn (q : LearnReq) : (d.queueLearn q).rxSide = d.rxSide := by
  simp (disch := decide) [Dev.queueLearn, apply_ite Dev.rxSide]

@[simp] theorem Dev.rxSide_releaseLearn (i : Nat) : (d.releaseLearn i).rxSide = d.rxSide := by
  unfold Dev.releaseLearn
  split
  · rfl
  · split <;> simp [apply_ite Dev.rxSide]

@[simp] theorem Dev.rxSide_disposal (s : Shut) (reason : Nat) : (d.disposal s reason).rxSide = d.rxSide := by
  simp [Dev.disposal, apply_ite Dev.rxSide]

/-! ## Requests to the host (R295 to R304) -/

@[simp] theorem Dev.rxSide_sendRead (op : HostOp) (addr : Nat) : (d.sendRead op addr).rxSide = d.rxSide := rfl

@[simp] theorem Dev.rxSide_walkOp (op : HostOp) : (d.walkOp op).1.rxSide = d.rxSide := by
  unfold Dev.walkOp
  split <;> simp

@[simp] theorem Dev.rxSide_modMovReq (chan id : Nat) (f : MovReq → MovReq) : (d.modMovReq chan id f).rxSide = d.rxSide := rfl

@[simp] theorem Dev.rxSide_opDropped (op : HostOp) : (d.opDropped op).rxSide = d.rxSide := by
  unfold Dev.opDropped
  split <;> simp

@[simp] theorem Dev.rxSide_touchXl (inst iova : Nat) : (d.touchXl inst iova).rxSide = d.rxSide := rfl

@[simp] theorem Dev.rxSide_logDirtyIn (inst iova len k : Nat) : (d.logDirtyIn inst iova len k).rxSide = d.rxSide := by
  unfold Dev.logDirtyIn
  dsimp only
  split
  · rfl
  · split
    · simp (disch := decide)
    · split <;> simp [apply_ite Dev.rxSide]

@[simp] theorem Dev.rxSide_logDirty (inst iova len : Nat) : (d.logDirty inst iova len).rxSide = d.rxSide :=
  Dev.rxSide_foldl (fun d k => d.rxSide_logDirtyIn inst iova len k) d _

@[simp] theorem Dev.rxSide_issue (op : HostOp) (addr : Nat) : (d.issue op addr).rxSide = d.rxSide := by
  simp (disch := decide) [Dev.issue, apply_ite Dev.rxSide]

@[simp] theorem Dev.rxSide_walkRead (inst page addr : Nat) : (d.walkRead inst page addr).rxSide = d.rxSide := by
  simp [Dev.walkRead, apply_ite Dev.rxSide]

@[simp] theorem Dev.rxSide_walkFirst (inst page : Nat) : (d.walkFirst inst page).rxSide = d.rxSide := by
  simp [Dev.walkFirst, apply_ite Dev.rxSide]

@[simp] theorem Dev.rxSide_beginWalk (inst page : Nat) (pin : Bool) : (d.beginWalk inst page pin).rxSide = d.rxSide := by
  simp [Dev.beginWalk, apply_ite Dev.rxSide]

@[simp] theorem Dev.rxSide_startWalk (inst iova : Nat) (guar : Bool) : (d.startWalk inst iova guar).rxSide = d.rxSide := by
  simp (disch := decide) [Dev.startWalk, apply_ite Dev.rxSide]

@[simp] theorem Dev.rxSide_xlateFault (inst iova reason : Nat) (write : Bool) : (d.xlateFault inst iova reason write).rxSide = d.rxSide := by
  simp (disch := decide) [Dev.xlateFault]

@[simp] theorem Dev.rxSide_tryOp (op : HostOp) : (d.tryOp op).1.rxSide = d.rxSide := by
  unfold Dev.tryOp
  split
  · simp
  · split
    · simp
    · split
      · rfl
      · split
        · split <;> simp
        · simp
        · simp

@[simp] theorem Dev.rxSide_hostOp (op : HostOp) : (d.hostOp op).rxSide = d.rxSide := by
  simp [Dev.hostOp, apply_ite Dev.rxSide]

@[simp] theorem Dev.rxSide_dmaWriteN (inst : Nat) (use : Use) (n iova : Nat) (b : List Byte) (bad : List (Nat × Nat)) :
    (d.dmaWriteN inst use n iova b bad).rxSide = d.rxSide := by
  induction n generalizing d iova b bad with
  | zero => rfl
  | succ n ih => simp [Dev.dmaWriteN, apply_ite Dev.rxSide, ih]

@[simp] theorem Dev.rxSide_dmaWrite (inst iova : Nat) (b : List Byte) (use : Use) (bad : List (Nat × Nat)) :
    (d.dmaWrite inst iova b use bad).rxSide = d.rxSide := d.rxSide_dmaWriteN inst use _ iova b bad

@[simp] theorem Dev.rxSide_dmaReadN (inst : Nat) (guar : Bool) (n iova len : Nat) (use : Use) :
    (d.dmaReadN inst guar n iova len use).rxSide = d.rxSide := by
  induction n generalizing d iova len use with
  | zero => rfl
  | succ n ih => simp [Dev.dmaReadN, apply_ite Dev.rxSide, ih]

@[simp] theorem Dev.rxSide_dmaRead (inst iova len : Nat) (use : Use) (guar : Bool) : (d.dmaRead inst iova len use guar).rxSide = d.rxSide :=
  d.rxSide_dmaReadN inst guar _ iova len use

@[simp] theorem Dev.rxSide_walkPages (inst iova n : Nat) (guar : Bool) : (d.walkPages inst iova n guar).rxSide = d.rxSide := by
  refine Dev.rxSide_foldl (fun d k => ?_) d _
  dsimp only
  split <;> simp

/-! ## Rings, completions and interrupts (R317 to R338) -/

@[simp] theorem Dev.rxSide_clearOwn (r index n : Nat) : (d.clearOwn r index n).rxSide = d.rxSide := by
  induction n generalizing d index with
  | zero => rfl
  | succ n ih => simp [Dev.clearOwn, ih]

@[simp] theorem Dev.rxSide_cplEntry (c pos v : Nat) : (d.cplEntry c pos v).rxSide = d.rxSide := d.rxSide_dmaWrite _ _ _ _ _

@[simp] theorem Dev.rxSide_sendMsix (c : Nat) : (d.sendMsix c).rxSide = d.rxSide := by
  simp (disch := decide) [Dev.sendMsix, apply_ite Dev.rxSide]

@[simp] theorem Dev.rxSide_evalMsix (c : Nat) : (d.evalMsix c).rxSide = d.rxSide := by
  simp [Dev.evalMsix, apply_ite Dev.rxSide]

@[simp] theorem Dev.rxSide_writeCpl (pos : Nat) (x : Cpl) : (d.writeCpl pos x).rxSide = d.rxSide := by
  simp (disch := decide) [Dev.writeCpl, apply_ite Dev.rxSide]

@[simp] theorem Dev.rxSide_writeMirror (r : Nat) : (d.writeMirror r).rxSide = d.rxSide := by
  simp [Dev.writeMirror, apply_ite Dev.rxSide]

@[simp] theorem Dev.rxSide_ringSettle (r : Nat) : (d.ringSettle r).rxSide = d.rxSide := by
  simp [Dev.ringSettle, apply_ite Dev.rxSide]

@[simp] theorem Dev.rxSide_txComplete (i : Nat) : (d.txComplete i).rxSide = d.rxSide := by
  unfold Dev.txComplete
  split
  · rfl
  · split <;> simp [apply_ite Dev.rxSide]

@[simp] theorem Dev.rxSide_rxComplete (i : Nat) : (d.rxComplete i).rxSide = d.rxSide := by
  unfold Dev.rxComplete
  split
  · rfl
  · split <;> simp

@[simp] theorem Dev.rxSide_ringErrorOne (r cause : Nat) : (d.ringErrorOne r cause).rxSide = d.rxSide := by
  simp (disch := decide) [Dev.ringErrorOne, apply_ite Dev.rxSide]

@[simp] theorem Dev.rxSide_ringError (r cause : Nat) : (d.ringError r cause).rxSide = d.rxSide := by
  simp only [Dev.ringError]
  split
  · rw [Dev.rxSide_foldl (fun d x => d.rxSide_ringErrorOne x 6), Dev.rxSide_ringErrorOne]
  · exact d.rxSide_ringErrorOne r cause

@[simp] theorem Dev.rxSide_stopExport (s cause : Nat) : (d.stopExport s cause).rxSide = d.rxSide := by
  simp [Dev.stopExport, apply_ite Dev.rxSide]

end

end Sys2Proof.Machine
end

section
/-! PROOFS. The end of a shuttle, the cipher lanes and the ways out of a pipeline keep the receiving side of the ports. -/
namespace Sys2Proof.Machine
open Sys2Proof

section
variable (d : Dev)

/-! ## A shuttle that ends (R200, R333) -/

@[simp] theorem Dev.rxSide_ciphLog (sa kind : Nat) : (d.ciphLog sa kind).rxSide = d.rxSide := d.rxSide_logPut _ _ _ _

@[simp] theorem Dev.rxSide_freeSa (k : Nat) : (d.freeSa k).rxSide = d.rxSide := by
  unfold Dev.freeSa
  split
  · rfl
  · simp [apply_ite Dev.rxSide]

@[simp] theorem Dev.rxSide_releaseSa (i : Nat) : (d.releaseSa i).rxSide = d.rxSide := by
  unfold Dev.releaseSa
  split
  · rfl
  · split
    · rfl
    · rw [Dev.rxSide_freeSa]
      split <;> simp

@[simp] theorem Dev.rxSide_finishOne (i reason : Nat) : (d.finishOne i reason).rxSide = d.rxSide := by
  unfold Dev.finishOne
  split
  · rfl
  · simp only [Dev.rxSide_freeShut, Dev.rxSide_txComplete, Dev.rxSide_rxComplete, Dev.rxSide_releaseSa]
    split <;> simp [apply_ite Dev.rxSide]

@[simp] theorem Dev.rxSide_finish (i reason : Nat) : (d.finish i reason).rxSide = d.rxSide := by
  unfold Dev.finish
  split
  · rfl
  · split
    · rfl
    · dsimp only
      split
      · simp
      · split
        · simp
        · split <;> simp [apply_ite Dev.rxSide]

@[simp] theorem Dev.rxSide_discard (i reason : Nat) : (d.discard i reason).rxSide = d.rxSide := by
  unfold Dev.discard
  split
  · rfl
  · simp [apply_ite Dev.rxSide]

@[simp] theorem Dev.rxSide_stompOrDrop (i reason : Nat) : (d.stompOrDrop i reason).rxSide = d.rxSide := by
  unfold Dev.stompOrDrop
  split
  · rfl
  · simp [apply_ite Dev.rxSide]

/-! ## Deadline misses (R56 to R58) -/

@[simp] theorem Dev.rxSide_missRecord (i : Nat) (s : Shut) (cause late : Nat) : (d.missRecord i s cause late).rxSide = d.rxSide := by
  simp [Dev.missRecord, apply_ite Dev.rxSide]

@[simp] theorem Dev.rxSide_declareMiss (i : Nat) (s : Shut) (cause late : Nat) : (d.declareMiss i s cause late).rxSide = d.rxSide := by
  have hmiss : rxApart (K.LOOM_MISS cause) = true := by
    rw [rxApart_iff]
    simp only [K.LOOM_MISS, K.PORT_RX_FRAMES, K.PORT_RX_FCS_BAD]
    omega
  simp only [Dev.declareMiss]
  split
  · rfl
  · simp (disch := decide) [Dev.rxSide_count _ hmiss]

@[simp] theorem Dev.rxSide_loseClass (i cause : Nat) : (d.loseClass i cause).rxSide = d.rxSide := by
  unfold Dev.loseClass
  split
  · rfl
  · simp [apply_ite Dev.rxSide]

@[simp] theorem Dev.rxSide_discardMiss (i reason cause : Nat) : (d.discardMiss i reason cause).rxSide = d.rxSide := by
  unfold Dev.discardMiss
  split <;> simp

/-! ## The cipher lanes (R190 to R216) -/

@[simp] theorem Dev.rxSide_putSa (k : Nat) (a : Sa) : (d.putSa k a).rxSide = d.rxSide := rfl

@[simp] theorem Dev.rxSide_takeValue (k v : Nat) : (d.takeValue k v).rxSide = d.rxSide := by
  unfold Dev.takeValue
  split
  · rfl
  · simp (disch := decide) [apply_ite Dev.rxSide]

@[simp] theorem Dev.rxSide_laneOut (i : Nat) (f : List Byte) (good : Bool) : (d.laneOut i f good).rxSide = d.rxSide := d.rxSide_modShut _ _

@[simp] theorem Dev.rxSide_sealXts (i : Nat) (w : XtsItem) : (d.sealXts i w).rxSide = d.rxSide := by
  unfold Dev.sealXts
  split <;> simp

@[simp] theorem Dev.rxSide_tlsOut (i k : Nat) (s : Shut) (a : Sa) (p : Parsed) : (d.tlsOut i k s a p).rxSide = d.rxSide := by
  simp only [Dev.tlsOut]
  split
  · simp
  · rw [Dev.rxSide_modShut, Dev.rxSide_laneOut, Dev.rxSide_foldl (fun d v => d.rxSide_takeValue k v), Dev.rxSide_putSa]

@[simp] theorem Dev.rxSide_notApplied (i : Nat) : (d.notApplied i).rxSide = d.rxSide := by
  simp (disch := decide) [Dev.notApplied]

@[simp] theorem Dev.rxSide_tlsIn (i k : Nat) (s : Shut) (a : Sa) (p : Parsed) : (d.tlsIn i k s a p).rxSide = d.rxSide := by
  simp [Dev.tlsIn, apply_ite Dev.rxSide]

@[simp] theorem Dev.rxSide_laneTransform (i : Nat) : (d.laneTransform i).rxSide = d.rxSide := by
  unfold Dev.laneTransform
  split
  · rfl
  · split
    · simp
    · dsimp only
      split
      · rw [Dev.rxSide_modShut]
        split
        · exact Dev.rxSide_foldl (fun d w => d.rxSide_sealXts i w) d _
        · rfl
      · split
        · split <;> simp
        · split
          · simp
          · split <;> simp

@[simp] theorem Dev.rxSide_crossPump (island : Nat) : (d.crossPump island).rxSide = d.rxSide := by
  unfold Dev.crossPump
  split
  · rfl
  · split
    · rfl
    · split <;> simp

@[simp] theorem Dev.rxSide_toProgram (i : Nat) (s : Shut) : (d.toProgram i s).rxSide = d.rxSide := by
  simp [Dev.toProgram]

/-! ## Tunnels (R193 to R196) -/

@[simp] theorem Dev.rxSide_decap (i : Nat) (p : Parsed) : (d.decap i p).rxSide = d.rxSide := by
  unfold Dev.decap
  split
  · rfl
  · simp (disch := decide) [apply_ite Dev.rxSide]

@[simp] theorem Dev.rxSide_growthAt (i len : Nat) : (d.growthAt i len).rxSide = d.rxSide := by
  unfold Dev.growthAt
  split
  · rfl
  · simp (disch := decide) [apply_ite Dev.rxSide]

@[simp] theorem Dev.rxSide_checkGrowth (i : Nat) : (d.checkGrowth i).rxSide = d.rxSide := d.rxSide_growthAt _ _

@[simp] theorem Dev.rxSide_encap (i charge : Nat) : (d.encap i charge).rxSide = d.rxSide := by
  unfold Dev.encap
  split
  · rfl
  · simp (disch := decide) [apply_ite Dev.rxSide]

@[simp] theorem Dev.rxSide_saMismatch (i : Nat) : (d.saMismatch i).rxSide = d.rxSide := by
  simp (disch := decide) [Dev.saMismatch]

@[simp] theorem Dev.rxSide_laneArrive (i : Nat) : (d.laneArrive i).rxSide = d.rxSide := by
  unfold Dev.laneArrive
  split
  · rfl
  next s _ =>
    split
    · simp
    next a _ =>
      have he : (if s.guaranteed && !a.guards s then (d.count K.CIPH_GUAR_SA_VIOLATION).loseClass i Miss.fault else d).rxSide = d.rxSide := by
        split
        · simp (disch := decide)
        · rfl
      dsimp only
      generalize (if s.guaranteed && !a.guards s then (d.count K.CIPH_GUAR_SA_VIOLATION).loseClass i Miss.fault else d) = e at he ⊢
      split
      · rw [Dev.rxSide_saMismatch, he]
      · split
        · exact he
        · simp (disch := decide) [apply_ite Dev.rxSide, he]

end

end Sys2Proof.Machine
end

section
/-! PROOFS. The last pass, what leaves a port, and what a frame's end judges keep the receiving side of the ports. -/
namespace Sys2Proof.Machine
open Sys2Proof

/-! ## Counts apart from those of received frames -/

/-- A count of a port other than those of its received frames. -/
theorem rxApart_port (n : Nat) {off : Nat} (h : off < 0x10000) (h1 : off ≠ 0x100) (h2 : off ≠ 0x108) : rxApart (0x200000 + off + 0x10000 * n) = true := by
  rw [rxApart_iff]
  simp only [K.PORT_RX_FRAMES, K.PORT_RX_FCS_BAD]
  omega

/-- A count of the blocks above the ports. -/
theorem rxApart_above {k : Nat} (h : 0x300000 ≤ k) : rxApart k = true := by
  rw [rxApart_iff]
  simp only [K.PORT_RX_FRAMES, K.PORT_RX_FCS_BAD]
  omega

theorem rxApart_txLengthDrop (n : Nat) : rxApart (K.PORT_TX_LENGTH_DROP n) = true := rxApart_port n (off := 0x150) (by decide) (by decide) (by decide)
theorem rxApart_txFrames (n : Nat) : rxApart (K.PORT_TX_FRAMES n) = true := rxApart_port n (off := 0x128) (by decide) (by decide) (by decide)
theorem rxApart_txStomped (n : Nat) : rxApart (K.PORT_TX_STOMPED n) = true := rxApart_port n (off := 0x138) (by decide) (by decide) (by decide)
theorem rxApart_txMiss (n : Nat) : rxApart (K.PORT_TX_DEADLINE_MISS n) = true := rxApart_port n (off := 0x140) (by decide) (by decide) (by decide)
theorem rxApart_prpReplace (n : Nat) : rxApart (K.PORT_PRP_TABLE_REPLACE n) = true :=
  rxApart_port n (off := 0x178) (by decide) (by decide) (by decide)
theorem rxApart_prpDiscard (n : Nat) : rxApart (K.PORT_PRP_DUP_DISCARD n) = true := rxApart_port n (off := 0x168) (by decide) (by decide) (by decide)
theorem rxApart_prpWindow (n : Nat) : rxApart (K.PORT_PRP_OUT_OF_WINDOW n) = true :=
  rxApart_port n (off := 0x170) (by decide) (by decide) (by decide)

section
variable (d : Dev)

/-! ## Copies, storage digests and the way to Reed (R77, R229) -/

@[simp] theorem Dev.rxSide_prpSeq (f : Net → SMap Nat) : (d.modNet (fun n => { n with prpSeq := f n })).rxSide = d.rxSide := rfl
@[simp] theorem Dev.rxSide_prpSources (f : Net → SMap (List PrpSource)) : (d.modNet (fun n => { n with prpSources := f n })).rxSide = d.rxSide := rfl
@[simp] theorem Dev.rxSide_putAb (g : Nat) (x : AbGroup) : (d.putAb g x).rxSide = d.rxSide := rfl

@[simp] theorem Dev.rxSide_prpTail (i : Nat) : (d.prpTail i).rxSide = d.rxSide := by
  unfold Dev.prpTail
  split
  · rfl
  · split
    · rfl
    · simp [apply_ite Dev.rxSide, Dev.rxSide_count _ (rxApart_txLengthDrop _)]

@[simp] theorem Dev.rxSide_prpDuplicate (i : Nat) : (d.prpDuplicate i).1.rxSide = d.rxSide := by
  unfold Dev.prpDuplicate
  split
  · rfl
  · split
    · rfl
    · simp only [Dev.rxSide_prpTail, Dev.rxSide_putShut]
      rfl

@[simp] theorem Dev.rxSide_putCtx (k : Nat) (c : StorCtx) : (d.putCtx k c).rxSide = d.rxSide := rfl

@[simp] theorem Dev.rxSide_storDigests (i k : Nat) (l : List (Nat × Nat × Option Nat)) : (d.storDigests i k l).rxSide = d.rxSide := by
  induction l generalizing d with
  | nil => rfl
  | cons p t ih =>
    obtain ⟨a, n, g⟩ := p
    unfold Dev.storDigests
    split
    · split <;> simp [ih]
    · rfl

@[simp] theorem Dev.rxSide_writeBack (inst : Nat) (l : List (Nat × Nat)) (b : List Byte) : (d.writeBack inst l b).rxSide = d.rxSide := by
  induction l generalizing d b with
  | nil => rfl
  | cons p t ih =>
    obtain ⟨a, n⟩ := p
    simp [Dev.writeBack, ih]

@[simp] theorem Dev.rxSide_storTxEnd (i : Nat) : (d.storTxEnd i).rxSide = d.rxSide := by
  unfold Dev.storTxEnd
  split
  · rfl
  · split
    · dsimp only
      split <;> simp
    · rfl

@[simp] theorem Dev.rxSide_ownerFields (i : Nat) : (d.ownerFields i).rxSide = d.rxSide := d.rxSide_modShut _ _
@[simp] theorem Dev.rxSide_ptpMarks (i : Nat) : (d.ptpMarks i).rxSide = d.rxSide := d.rxSide_modShut _ _

@[simp] theorem Dev.rxSide_toReed (i : Nat) : (d.toReed i).rxSide = d.rxSide := by
  unfold Dev.toReed
  split
  · rfl
  · split
    · simp
    · dsimp only
      rw [Dev.rxSide_foldl]
      · simp
      · intro d j
        split <;> simp [apply_ite Dev.rxSide]

@[simp] theorem Dev.rxSide_lastPassEnd (i : Nat) : (d.lastPassEnd i).rxSide = d.rxSide := by
  unfold Dev.lastPassEnd
  dsimp only
  split
  · simp
  next s _ =>
    split
    · simp
    · split
      · simp
      · have he : ∀ c, (if (d.ptpMarks i).espTunnelOut s then d.ptpMarks i else (d.ptpMarks i).encap i c).rxSide = d.rxSide := fun c => by
          split <;> simp
        split
        · exact he _
        · simp [apply_ite Dev.rxSide]

@[simp] theorem Dev.rxSide_leavePipe (i : Nat) (s : Shut) : (d.leavePipe i s).rxSide = d.rxSide := by
  simp [Dev.leavePipe, apply_ite Dev.rxSide]

@[simp] theorem Dev.rxSide_passEnd (i : Nat) : (d.passEnd i).rxSide = d.rxSide := by
  unfold Dev.passEnd
  split
  · rfl
  · split
    · simp (disch := decide)
    · dsimp only
      split
      · simp [apply_ite Dev.rxSide]
      · simp (disch := decide) [apply_ite Dev.rxSide]

@[simp] theorem Dev.rxSide_afterCipher (i : Nat) : (d.afterCipher i).rxSide = d.rxSide := by
  unfold Dev.afterCipher
  split
  · rfl
  · simp [apply_ite Dev.rxSide]

@[simp] theorem Dev.rxSide_laneOn (i : Nat) : (d.laneOn i).rxSide = d.rxSide := by
  unfold Dev.laneOn
  split
  · rfl
  next s _ =>
    have he : (if s.flag Fl.ENCAP_PENDING && decide (s.get S.DEST_PORT ≤ 7) then d.encap i (s.frame.length + 4)
        else (d.encap i (s.frame.length + 4)).checkGrowth i).rxSide = d.rxSide := by
      split <;> simp
    dsimp only
    generalize (if s.flag Fl.ENCAP_PENDING && decide (s.get S.DEST_PORT ≤ 7) then d.encap i (s.frame.length + 4)
      else (d.encap i (s.frame.length + 4)).checkGrowth i) = e at he ⊢
    split
    · rfl
    · split
      · simp
      · split
        · rfl
        · split
          · split
            · split
              · simp [apply_ite Dev.rxSide, he]
              · exact he
            · simp [apply_ite Dev.rxSide]
          · simp [apply_ite Dev.rxSide]

@[simp] theorem Dev.rxSide_laneEnd (i : Nat) : (d.laneEnd i).rxSide = d.rxSide := by
  unfold Dev.laneEnd
  split
  · rfl
  · simp [apply_ite Dev.rxSide]

@[simp] theorem Dev.rxSide_copiesEnd (copies : List Nat) (i : Nat) : (d.copiesEnd copies i).rxSide = d.rxSide := by
  unfold Dev.copiesEnd
  split
  · exact Dev.rxSide_foldl (fun d j => d.rxSide_modShut j _) d _
  · exact Dev.rxSide_foldl (fun d j => d.rxSide_modShut j _) d _

/-! ## What leaves a port, and the charge it gives back (R72, R74, R243) -/

@[simp] theorem Dev.rxSide_takeEgress (s : Shut) (stamp : StampAt) (port : Nat) (bytes : List Byte) (fcs : Nat) :
    (d.takeEgress s stamp port bytes fcs).rxSide = d.rxSide := by
  simp [Dev.takeEgress, apply_ite Dev.rxSide]

@[simp] theorem Dev.rxSide_decay (s : Shut) (port : Nat) : (d.decay s port).rxSide = d.rxSide := by
  unfold Dev.decay
  split
  · rfl
  · simp [apply_ite Dev.rxSide]

/-- What a port sends is apart from what it receives. -/
@[simp] theorem Dev.rxSide_sent (port stop : Nat) :
    (d.modNet (fun n => { n with ports := mapPut n.ports port { mapGetD n.ports port {} with sending := none, txEnd := stop } })).rxSide = d.rxSide := by
  refine Dev.rxSide_ext (fun n _ => ⟨?_, rfl, rfl⟩)
  by_cases h : n = port
  · subst h
    simp [Dev.port, mapGetD]
  · simp [Dev.port, mapGetD, mapGet_mapPut_ne _ _ h]

@[simp] theorem Dev.rxSide_departEnd (i : Nat) : (d.departEnd i).rxSide = d.rxSide := by
  unfold Dev.departEnd
  split
  · rfl
  · split
    · rfl
    · extract_lets port bad fcs bytes stamp d1 stop d2 d3 d4 d5 d6
      have h2 : d2.rxSide = d.rxSide := (Dev.rxSide_sent _ _ _).trans (Dev.rxSide_count _ (rxApart_txFrames _) _)
      have h3 : d3.rxSide = d2.rxSide := by simp [d3, apply_ite Dev.rxSide, Dev.rxSide_count _ (rxApart_txStomped _)]
      have h4 : d4.rxSide = d3.rxSide := by simp [d4, apply_ite Dev.rxSide, Dev.rxSide_count _ (rxApart_txMiss _)]
      have h5 : d5.rxSide = d4.rxSide := by simp [d5, apply_ite Dev.rxSide]
      have h6 : d6.rxSide = d5.rxSide := by
        simp only [d6]
        split <;> simp [apply_ite Dev.rxSide]
      simp only [Dev.rxSide_freeShut, Dev.rxSide_txComplete, Dev.rxSide_releaseSa, Dev.rxSide_decay, h6, h5, h4, h3, h2]

@[simp] theorem Dev.rxSide_countBytes (p : Nat) (committed : Bool) (s : Shut) : (d.countBytes p committed s).rxSide = d.rxSide := by
  refine d.rxSide_count ?_ _
  split
  · exact rxApart_above (by simp only [K.REED_BE_BYTES]; omega)
  · split
    · exact rxApart_above (by simp only [K.REED_AS_COMMITTED_BYTES]; omega)
    · exact rxApart_above (by simp only [K.REED_AS_EXCESS_BYTES]; omega)

@[simp] theorem Dev.rxSide_chargeBits (p k : Nat) (committed : Bool) (bits : Int) : (d.chargeBits p k committed bits).rxSide = d.rxSide := rfl

@[simp] theorem Dev.rxSide_refund (i : Nat) : (d.refund i).rxSide = d.rxSide := by
  unfold Dev.refund
  split
  · rfl
  · split <;> simp

/-! ## Redundant feeds (R78, R80) -/

@[simp] theorem Dev.rxSide_abGapLost (g : Nat) (gap : Nat × Nat) : (d.abGapLost g gap).rxSide = d.rxSide := by
  simp (disch := decide) [Dev.abGapLost, Dev.abLog]

@[simp] theorem Dev.rxSide_abTrim (g n : Nat) : (d.abTrim g n).rxSide = d.rxSide := by
  induction n generalizing d with
  | zero => rfl
  | succ n ih =>
    unfold Dev.abTrim
    dsimp only
    split
    · simp [apply_ite Dev.rxSide, ih]
    · rfl

@[simp] theorem Dev.rxSide_abUnmark (g seq : Nat) : (d.abUnmark g seq).rxSide = d.rxSide := by
  simp [Dev.abUnmark]

@[simp] theorem Dev.rxSide_abAtEnd (i : Nat) : (d.abAtEnd i).rxSide = d.rxSide := by
  unfold Dev.abAtEnd
  split
  · rfl
  · split <;> simp

@[simp] theorem Dev.rxSide_prpJudge (s : Shut) : (d.prpJudge s).1.rxSide = d.rxSide := by
  unfold Dev.prpJudge
  dsimp only
  split
  · split
    · simp [apply_ite Dev.rxSide, Dev.rxSide_count _ (rxApart_prpReplace _)]
    · simp [apply_ite Dev.rxSide, Dev.rxSide_count _ (rxApart_prpDiscard _), Dev.rxSide_count _ (rxApart_prpWindow _)]
  · rfl

@[simp] theorem Dev.rxSide_prpAtEnd (i : Nat) : (d.prpAtEnd i).rxSide = d.rxSide := by
  unfold Dev.prpAtEnd
  split
  · rfl
  next s _ =>
    have hjudge := d.rxSide_prpJudge s
    split
    · rfl
    · split
      next e he => rwa [he] at hjudge
      next e he =>
        rw [he] at hjudge
        simpa using hjudge

/-! ## What a frame's end judges (R141, R152 to R154) -/

@[simp] theorem Dev.rxSide_ipLenDrop (i : Nat) : (d.ipLenDrop i).rxSide = d.rxSide := by
  have hmal : rxApart (K.HED_MALFORMED Mal.IP_LEN) = true := by decide
  unfold Dev.ipLenDrop
  split
  · rfl
  · simp [apply_ite Dev.rxSide, hmal]

@[simp] theorem Dev.rxSide_ipLenAtEnd (i : Nat) : (d.ipLenAtEnd i).rxSide = d.rxSide := by
  unfold Dev.ipLenAtEnd
  split
  · rfl
  · simp [apply_ite Dev.rxSide]

@[simp] theorem Dev.rxSide_setDeadline (i : Nat) : (d.setDeadline i).rxSide = d.rxSide := by
  unfold Dev.setDeadline
  split
  · rfl
  · split
    · rfl
    · simp [apply_ite Dev.rxSide]

@[simp] theorem Dev.rxSide_ingressAtEnd (i : Nat) : (d.ingressAtEnd i).rxSide = d.rxSide := by
  unfold Dev.ingressAtEnd
  split
  · rfl
  · simp [apply_ite Dev.rxSide]

theorem Dev.rxSide_policerDrop (i : Nat) {k : Nat} (h : rxApart k = true) : (d.policerDrop i k).rxSide = d.rxSide := by
  simp [Dev.policerDrop, h]

@[simp] theorem Dev.rxSide_policeGeneral (i k charge : Nat) : (d.policeGeneral i k charge).rxSide = d.rxSide := by
  unfold Dev.policeGeneral
  split
  · rfl
  · simp (disch := decide) [apply_ite Dev.rxSide, Dev.rxSide_policerDrop]

@[simp] theorem Dev.rxSide_policeEnv (i e charge : Nat) : (d.policeEnv i e charge).rxSide = d.rxSide := by
  unfold Dev.policeEnv
  split
  · rfl
  · dsimp only
    split
    · rfl
    · rw [Dev.rxSide_policerDrop]
      · rfl
      · split <;> decide

@[simp] theorem Dev.rxSide_policeWith (i charge : Nat) : (d.policeWith i charge).rxSide = d.rxSide := by
  unfold Dev.policeWith
  split
  · rfl
  · dsimp only
    split <;> simp [apply_ite Dev.rxSide]

@[simp] theorem Dev.rxSide_policeAtEnd (i : Nat) : (d.policeAtEnd i).rxSide = d.rxSide := by
  unfold Dev.policeAtEnd
  split
  · rfl
  · simp [apply_ite Dev.rxSide]

@[simp] theorem Dev.rxSide_heldAtEnd (i : Nat) : (d.heldAtEnd i).rxSide = d.rxSide := by
  unfold Dev.heldAtEnd
  split
  · rfl
  · simp [apply_ite Dev.rxSide]

@[simp] theorem Dev.rxSide_tunnelEnd (i : Nat) : (d.tunnelEnd i).rxSide = d.rxSide := by
  have he : (if (d.shut i).elim false (fun s => s.encapOpen && !s.stomp) then d.checkGrowth i else d).rxSide = d.rxSide := by
    split <;> simp
  unfold Dev.tunnelEnd
  dsimp only
  generalize (if (d.shut i).elim false (fun s => s.encapOpen && !s.stomp) then d.checkGrowth i else d) = e at he ⊢
  split
  · exact he
  · split
    · simp (disch := decide) [apply_ite Dev.rxSide, he]
    · exact he

/-! ## Frames to the host (R336) -/

@[simp] theorem Dev.rxSide_hostLate (i : Nat) : (d.hostLate i).rxSide = d.rxSide := by
  unfold Dev.hostLate
  split
  · rfl
  · simp [apply_ite Dev.rxSide]

@[simp] theorem Dev.rxSide_rxWrite (s : Shut) (i from_ n : Nat) (b : List Byte) (bad : List (Nat × Nat)) :
    (d.rxWrite s i from_ n b bad).rxSide = d.rxSide := Dev.rxSide_foldl (fun d _ => d.rxSide_dmaWrite _ _ _ _ _) d _

@[simp] theorem Dev.rxSide_hostDone (i : Nat) : (d.hostDone i).rxSide = d.rxSide := by
  unfold Dev.hostDone
  split
  · rfl
  · simp (disch := decide) [apply_ite Dev.rxSide]

@[simp] theorem Dev.rxSide_hostRelease (i : Nat) (s : Shut) : (d.hostRelease i s).rxSide = d.rxSide := by
  unfold Dev.hostRelease
  dsimp only
  split <;> simp (disch := decide) [apply_ite Dev.rxSide]

@[simp] theorem Dev.rxSide_hostEnd (i : Nat) : (d.hostEnd i).rxSide = d.rxSide := by
  unfold Dev.hostEnd
  split
  · rfl
  · simp [apply_ite Dev.rxSide]

end

end Sys2Proof.Machine
end

section
/-! PROOFS. The storage offload, a frame's end and the handling of a failed access keep the receiving side of the ports. -/
namespace Sys2Proof.Machine
open Sys2Proof

section
variable (d : Dev)

/-! ## The storage offload (R222 to R229) -/

@[simp] theorem Dev.rxSide_afterStor (i : Nat) : (d.afterStor i).rxSide = d.rxSide := by
  unfold Dev.afterStor
  split
  · rfl
  · simp [apply_ite Dev.rxSide]

@[simp] theorem Dev.rxSide_putCid (k : Nat) (e : CidEntry) : (d.putCid k e).rxSide = d.rxSide := rfl

@[simp] theorem Dev.rxSide_loseHeld (k : Nat) : (d.loseHeld k).rxSide = d.rxSide :=
  Dev.rxSide_foldl (fun d _ => by simp (disch := decide)) d _

@[simp] theorem Dev.rxSide_syncLost : d.syncLost.rxSide = d.rxSide := by
  simp (disch := decide) [Dev.syncLost]

@[simp] theorem Dev.rxSide_clearSync (k : Nat) (counted : Bool) : (d.clearSync k counted).rxSide = d.rxSide := by
  unfold Dev.clearSync
  split
  · rfl
  · simp [apply_ite Dev.rxSide]

@[simp] theorem Dev.rxSide_fetchCid (c : StorCtx) (key : Nat) : (d.fetchCid c key).rxSide = d.rxSide := by
  simp [Dev.fetchCid, apply_ite Dev.rxSide]

@[simp] theorem Dev.rxSide_storTxStep (i n : Nat) : (d.storTxStep i n).1.rxSide = d.rxSide := by
  induction n generalizing d with
  | zero => rfl
  | succ n ih =>
    unfold Dev.storTxStep
    split
    · rfl
    · split
      · split
        · split
          · rfl
          · split
            · simp (disch := decide) [ih]
            · simp
        · simp [ih]
      · rfl

@[simp] theorem Dev.rxSide_notPlaced (i : Nat) : (d.notPlaced i).rxSide = d.rxSide := by
  simp (disch := decide) [Dev.notPlaced]

@[simp] theorem Dev.rxSide_placeFault (i key : Nat) : (d.placeFault i key).rxSide = d.rxSide := by
  unfold Dev.placeFault
  split <;> simp (disch := decide)

@[simp] theorem Dev.rxSide_placeNow (i key inst : Nat) (e : CidEntry) (off : Nat) (b : List Byte) : (d.placeNow i key inst e off b).rxSide = d.rxSide := by
  have hwrite := Dev.rxSide_foldl (fun d (p : Nat × List Byte) => d.rxSide_dmaWrite inst p.1 p.2 (.cid key) []) d (ceRun e.pieces off b)
  simp (disch := decide) [Dev.placeNow, hwrite]

theorem Dev.rxSide_placeRun {i key inst : Nat} {e : CidEntry} {off : Nat} {b : List Byte} {r : Dev × Bool}
    (h : d.placeRun i key inst e off b = some r) : r.1.rxSide = d.rxSide := by
  unfold Dev.placeRun at h
  dsimp only at h
  split at h
  · exact absurd h (by simp)
  · cases h
    simp
  · cases h
    simp

theorem Dev.rxSide_placeItem {i : Nat} {c : StorCtx} {e : CidEntry} {it : StorItem} {f : Dev} (h : d.placeItem i c e it = some f) :
    f.rxSide = d.rxSide := by
  obtain ⟨r, hr, rfl⟩ := Option.map_eq_some_iff.1 h
  have hrun := d.rxSide_placeRun hr
  split
  · rw [Dev.rxSide_modShut, hrun]
  · exact hrun

theorem Dev.rxSide_storData {i : Nat} {c : StorCtx} {it : StorItem} {f : Dev} (h : d.storData i c it = some f) : f.rxSide = d.rxSide := by
  unfold Dev.storData at h
  split at h
  · cases h
    simp
  · split at h
    · split at h
      · exact absurd h (by simp)
      · split at h
        · cases h
          simp
        · split at h
          · cases h
            simp (disch := decide)
          · exact absurd h (by simp)
    · split at h
      · cases h
        simp
      · split at h
        · cases h
          simp
        · split at h
          · split at h
            · cases h
              simp (disch := decide)
            · cases h
              simp
          · exact d.rxSide_placeItem h

theorem Dev.rxSide_behindXts (i : Nat) (it : StorItem) {now : Dev} (h : now.rxSide = d.rxSide) : (d.behindXts i it now).rxSide = d.rxSide := by
  simp [Dev.behindXts, apply_ite Dev.rxSide, h]

theorem Dev.rxSide_storItem {i : Nat} {c : StorCtx} {it : StorItem} {f : Dev} (h : d.storItem i c it = some f) : f.rxSide = d.rxSide := by
  unfold Dev.storItem at h
  split at h
  · exact d.rxSide_storData h
  · cases h
    exact d.rxSide_behindXts i it (by simp)
  · cases h
    exact d.rxSide_behindXts i it (by simp)
  · split at h
    · cases h
      simp
    · split at h
      · cases h
        simp
      · exact d.rxSide_placeItem h

@[simp] theorem Dev.rxSide_walkRun (inst : Nat) (e : CidEntry) (it : StorItem) : (d.walkRun inst e it).rxSide = d.rxSide :=
  Dev.rxSide_foldl (fun d _ => d.rxSide_walkPages _ _ _ _) d _

@[simp] theorem Dev.rxSide_storRxStep (i n : Nat) : (d.storRxStep i n).1.rxSide = d.rxSide := by
  induction n generalizing d with
  | zero => rfl
  | succ n ih =>
    unfold Dev.storRxStep
    split
    · rfl
    · split
      · rfl
      · simp
      · split
        next e he => simp [ih, d.rxSide_storItem he]
        · dsimp only
          split <;> simp

@[simp] theorem Dev.rxSide_storStep (i : Nat) : (d.storStep i).1.rxSide = d.rxSide := by
  unfold Dev.storStep
  split
  · rfl
  · split <;> simp

@[simp] theorem Dev.rxSide_storGo (i : Nat) : (d.storGo i).rxSide = d.rxSide := by
  simp [Dev.storGo, apply_ite Dev.rxSide]

@[simp] theorem Dev.rxSide_storRx (i k : Nat) (c : StorCtx) (p : Parsed) : (d.storRx i k c p).rxSide = d.rxSide := by
  unfold Dev.storRx
  split
  · rfl
  · simp (disch := decide) [apply_ite Dev.rxSide]

@[simp] theorem Dev.rxSide_storTx (i k : Nat) (c : StorCtx) (p : Parsed) : (d.storTx i k c p).rxSide = d.rxSide := by
  unfold Dev.storTx
  split
  · rfl
  · simp (disch := decide) [apply_ite Dev.rxSide]

@[simp] theorem Dev.rxSide_storEnter (i : Nat) : (d.storEnter i).rxSide = d.rxSide := by
  unfold Dev.storEnter
  split
  · rfl
  · dsimp only
    split
    · simp
    · split
      · simp
      · split
        · simp (disch := decide)
        · split
          · simp
          · split
            · simp
            · split
              · simp
              · split <;> simp [apply_ite Dev.rxSide]

@[simp] theorem Dev.rxSide_storAtEnd (i : Nat) : (d.storAtEnd i).rxSide = d.rxSide := by
  unfold Dev.storAtEnd
  split
  · rfl
  · simp [apply_ite Dev.rxSide]

/-! ## The end of a frame (R64, R69) -/

@[simp] theorem Dev.rxSide_frameEnded (i : Nat) : (d.frameEnded i).rxSide = d.rxSide := by
  have hend := fun (d : Dev) (l : List Nat) => Dev.rxSide_foldl (f := fun d j => (d.prpTail j).refund j) (fun d j => by simp) d l
  have hdepart := fun (d : Dev) (l : List Nat) => Dev.rxSide_foldl (f := fun d j => d.departEnd j) (fun d j => by simp) d l
  have hboth := fun (d : Dev) (l : List Nat) => Dev.rxSide_foldl (f := fun d j => ((d.prpTail j).refund j).departEnd j) (fun d j => by simp) d l
  have hstomp := fun (d : Dev) (l : List Nat) => Dev.rxSide_foldl (f := fun d j => d.stompOrDrop j 6) (fun d j => by simp) d l
  unfold Dev.frameEnded
  split
  · rfl
  · split
    · rfl
    · extract_lets copies d0 dropped1 dropped2 d1 d2 d3 d4 d5 d6
      split
      · simp [hboth, dropped2, dropped1, d0]
      · have h4 : d4.rxSide = d.rxSide := by simp [d4, d3, d2, d1, d0]
        have h5 : d5.rxSide = d4.rxSide := by simp only [d5, apply_ite Dev.rxSide, hstomp, ite_self]
        rw [Dev.rxSide_hostEnd, hdepart, Dev.rxSide_storAtEnd]
        simp only [d6, hend, h5, h4]

/-! ## The forwarding stage and the exception list (R149, R167 to R184) -/

@[simp] theorem Dev.rxSide_excDiscard (i reason : Nat) : (d.excDiscard i reason).rxSide = d.rxSide := by
  unfold Dev.excDiscard
  split
  · rfl
  · simp [apply_ite Dev.rxSide]

@[simp] theorem Dev.rxSide_applyExc (i ptr resume : Nat) : (d.applyExc i ptr resume).1.rxSide = d.rxSide := by
  unfold Dev.applyExc
  split
  · rfl
  · extract_lets keep marked s e l r f
    have he : e.rxSide = d.rxSide := Dev.rxSide_putShut _ _ _
    have hf : f.rxSide = e.rxSide := Dev.rxSide_putShut _ _ _
    split
    · simp [he]
    · split
      · simp [hf, he]
      · exact hf.trans he

@[simp] theorem Dev.rxSide_putFwd (i : Nat) (e : FwdEntry) : (d.putFwd i e).rxSide = d.rxSide := rfl

@[simp] theorem Dev.rxSide_refresh (i : Nat) (counted : Bool) : (d.refresh i counted).rxSide = d.rxSide := by
  unfold Dev.refresh
  split
  · rfl
  · simp (disch := decide) [apply_ite Dev.rxSide]

@[simp] theorem Dev.rxSide_learnSource (i fd ring : Nat) : (d.learnSource i fd ring).rxSide = d.rxSide := by
  unfold Dev.learnSource
  split
  · rfl
  · dsimp only
    split
    · simp (disch := decide)
    · split
      · simp [apply_ite Dev.rxSide]
      · split
        · rfl
        · simp (disch := decide) [apply_ite Dev.rxSide]

@[simp] theorem Dev.rxSide_learnSide (i : Nat) : (d.learnSide i).rxSide = d.rxSide := by
  unfold Dev.learnSide
  split
  · rfl
  · split
    · rfl
    · split
      · rfl
      · split
        · simp [apply_ite Dev.rxSide]
        · rfl

@[simp] theorem Dev.rxSide_learnCount (port : Nat) (up : Bool) : (d.learnCount port up).rxSide = d.rxSide := by
  simp [Dev.learnCount, apply_ite Dev.rxSide]

@[simp] theorem Dev.rxSide_removeFwd (i : Nat) : (d.removeFwd i).rxSide = d.rxSide := by
  unfold Dev.removeFwd
  split
  · rfl
  · simp [apply_ite Dev.rxSide]

@[simp] theorem Dev.rxSide_fwdParity (i : Nat) : (d.fwdParity i).rxSide = d.rxSide := by
  simp (disch := decide) [Dev.fwdParity]

@[simp] theorem Dev.rxSide_lookParity (i : Nat) (parity : Option Nat) : (d.lookParity i parity).rxSide = d.rxSide := by
  unfold Dev.lookParity
  split
  · rfl
  · simp [apply_ite Dev.rxSide]

@[simp] theorem Dev.rxSide_checkDst (i port : Nat) : (d.checkDst i port).rxSide = d.rxSide := by
  unfold Dev.checkDst
  split
  · rfl
  · simp (disch := decide) [apply_ite Dev.rxSide]

@[simp] theorem Dev.rxSide_writeDest (i port queue : Nat) : (d.writeDest i port queue).rxSide = d.rxSide := by
  unfold Dev.writeDest
  split
  · rfl
  · simp [apply_ite Dev.rxSide]

@[simp] theorem Dev.rxSide_fwdHit (i idx : Nat) : (d.fwdHit i idx).rxSide = d.rxSide := by
  have hcount : (d.count (if inDdr idx then K.FWD_HIT_DDR5 else K.FWD_HIT_ONDIE)).rxSide = d.rxSide := d.rxSide_count (by split <;> decide) 1
  unfold Dev.fwdHit
  split
  · rfl
  · simp [hcount]

@[simp] theorem Dev.rxSide_missStatus (i : Nat) : (d.missStatus i).rxSide = d.rxSide := by
  unfold Dev.missStatus
  split
  · rfl
  · simp [apply_ite Dev.rxSide]

@[simp] theorem Dev.rxSide_forwardLook (i : Nat) (parity : Option Nat) : (d.forwardLook i parity).1.rxSide = d.rxSide := by
  unfold Dev.forwardLook
  split
  · rfl
  · split
    · rfl
    · dsimp only
      split
      · simp
      · split
        · simp
        · split
          · simp
          · split
            · simp
            · simp (disch := decide)
            · split <;> simp (disch := decide)

@[simp] theorem Dev.rxSide_afterForward (i : Nat) : (d.afterForward i).rxSide = d.rxSide := by
  unfold Dev.afterForward
  split
  · rfl
  · simp [apply_ite Dev.rxSide]

@[simp] theorem Dev.rxSide_fwdMiss (i fd : Nat) : (d.fwdMiss i fd).1.rxSide = d.rxSide := by
  unfold Dev.fwdMiss
  split
  · rfl
  · dsimp only
    split <;> simp

@[simp] theorem Dev.rxSide_fwdDrop (i : Nat) : (d.fwdDrop i).rxSide = d.rxSide := by
  unfold Dev.fwdDrop
  split
  · rfl
  · simp (disch := decide) [apply_ite Dev.rxSide]

@[simp] theorem Dev.rxSide_missDiscard (i : Nat) (wasGuar : Bool) : (d.missDiscard i wasGuar).rxSide = d.rxSide := by
  simp (disch := decide) [Dev.missDiscard, apply_ite Dev.rxSide]

@[simp] theorem Dev.rxSide_excMissed (i fd : Nat) : (d.excMissed i fd).rxSide = d.rxSide := by
  have hmiss := d.rxSide_fwdMiss i fd
  unfold Dev.excMissed
  split
  next e he => simpa [he] using hmiss
  next e he => simpa [he] using hmiss
  next e he => simpa [he] using hmiss

@[simp] theorem Dev.rxSide_fwdMissed (i fd : Nat) : (d.fwdMissed i fd).rxSide = d.rxSide := by
  have hmiss := d.rxSide_fwdMiss i fd
  unfold Dev.fwdMissed
  split
  · simp
  · split
    next e he => simpa [he] using hmiss
    next e he => simpa [he] using hmiss
    next e he =>
      rw [he] at hmiss
      split
      · exact hmiss
      next s _ =>
        have happ := e.rxSide_applyExc i s.exc 0
        rw [hmiss] at happ
        generalize e.applyExc i s.exc 0 = r at happ ⊢
        obtain ⟨f, go⟩ := r
        dsimp only at happ ⊢
        have hlook := f.rxSide_forwardLook i none
        split
        · simp (disch := decide) [apply_ite Dev.rxSide, happ]
        · split
          next g hg => simpa [hg, happ] using hlook
          next g hg => simpa [hg, happ] using hlook
          next g fd2 hg => simpa [hg, happ] using hlook

@[simp] theorem Dev.rxSide_forwardStage (i : Nat) (parity : Option Nat) : (d.forwardStage i parity).rxSide = d.rxSide := by
  have hlook := d.rxSide_forwardLook i parity
  unfold Dev.forwardStage
  split
  next e he => simpa [he] using hlook
  next e he => simpa [he] using hlook
  next e fd he => simpa [he] using hlook

@[simp] theorem Dev.rxSide_runExc (i ptr resume : Nat) (parity : Option Nat) : (d.runExc i ptr resume parity).rxSide = d.rxSide := by
  simp [Dev.runExc, apply_ite Dev.rxSide]

@[simp] theorem Dev.rxSide_settlePass (i : Nat) : (d.settlePass i).rxSide = d.rxSide := by
  unfold Dev.settlePass
  split
  · rfl
  · simp [apply_ite Dev.rxSide]

/-! ## Failed accesses (R303) -/

@[simp] theorem Dev.rxSide_txFetched (i : Nat) : (d.txFetched i).rxSide = d.rxSide := by
  unfold Dev.txFetched
  split
  · rfl
  · dsimp only
    split
    · rfl
    · split <;> simp [apply_ite Dev.rxSide]

@[simp] theorem Dev.rxSide_txPieceFailed (i off code : Nat) : (d.txPieceFailed i off code).rxSide = d.rxSide := by
  simp [Dev.txPieceFailed]

@[simp] theorem Dev.rxSide_faultUse (u : Use) : (d.faultUse u).rxSide = d.rxSide := by
  unfold Dev.faultUse
  split <;> simp

@[simp] theorem Dev.rxSide_faultsN (n : Nat) : (d.faultsN n).rxSide = d.rxSide := by
  induction n generalizing d with
  | zero => rfl
  | succ n ih =>
    simp only [Dev.faultsN]
    split
    · rfl
    · rw [ih, Dev.rxSide_foldl Dev.rxSide_faultUse, Dev.rxSide_modHif]

/-- Judging the pauses leaves what the ports receive. -/
@[simp] theorem Dev.rxSide_pauseSettle : d.pauseSettle.rxSide = d.rxSide := by
  have h := d.pauseOnly_pauseSettle
  exact Dev.rxSide_ext (fun n _ => ⟨h.cur n, h.ctr _, h.ctr _⟩)

end

end Sys2Proof.Machine
end

section
/-! PROOFS. Reception (R16, R64, R81, R87 to R89, R136): stamps, windows, the end of a frame and the recovered clock. -/
namespace Sys2Proof.Machine
open Sys2Proof

/-! ## A port's state read after a write -/

section
variable (d : Dev) (n : Nat)

@[simp] theorem Dev.port_modPort_self (f : PortSt → PortSt) : (d.modPort n f).port n = f (d.port n) := by simp [Dev.port, Dev.modPort, mapGetD]

theorem Dev.port_modPort_ne (f : PortSt → PortSt) {m : Nat} (h : m ≠ n) : (d.modPort n f).port m = d.port m := by
  simp [Dev.port, Dev.modPort, mapGetD, mapGet_mapPut_ne _ _ h]

@[simp] theorem Dev.port_count (k a : Nat) : (d.count k a).port n = d.port n := rfl
@[simp] theorem Dev.port_raise (f : Fld) : (d.raise f).port n = d.port n := rfl

end

/-! ## SFD_RX (R87 to R89, R116) -/

/-- SFD_RX queues the stamp of the frame. -/
theorem sfdRx_queues {s : State} {n : Nat} (off : Nat) (m : Int) (h : s.dev.receives n = true) :
    Yields (.sfdRx n off m) s (fun d => (d.port n).stamps = (s.dev.port n).stamps ++ [⟨s.dev.rxStamp n off m, s.dev.epoch, s.dev.traceable⟩] ∧
      { d with net := s.dev.net } = s.dev ∧ ∀ k, k ≠ n → d.port k = s.dev.port k) := by
  have hexec : exec (.sfdRx n off m) s =
      done s (s.dev.modPort n (fun p => { p with stamps := p.stamps ++ [s.dev.stampOf (s.dev.rxStamp n off m)] })) := by
    change execSfdRx n off m s = _
    simp [execSfdRx, h]
  refine Yields.of _ hexec ⟨?_, rfl, fun k hk => Dev.port_modPort_ne _ _ _ hk⟩
  rw [Dev.port_modPort_self]
  rfl

/-! ## FIRST_WINDOW_READY (R16, R136) -/

/-- A stamp that fits its field is read back from it. -/
theorem fieldStamp_stampField {t : Nat} (h : t < quartzMod / unit16) : fieldStamp (stampField t % 2 ^ 80) = t := by
  have ht : t < 2 ^ 80 := h
  have hq : t / 65536 < 2 ^ 64 := by omega
  have hr : t % 65536 < 65536 := Nat.mod_lt _ (by decide)
  have hfield : stampField t = t / 65536 + 2 ^ 64 * (t % 65536) := by rw [stampField, Nat.mod_eq_of_lt hq]
  rw [Nat.mod_eq_of_lt (by rw [hfield]; omega), hfield, fieldStamp, Nat.add_mul_mod_self_left, Nat.mod_eq_of_lt hq,
    Nat.add_mul_div_left _ _ (by decide), Nat.div_eq_of_lt hq, Nat.zero_add, Nat.mod_mod, Nat.div_add_mod']

/-- The shuttle as the entry arbiter takes it. -/
def Shut.entered (x : Shut) (seq : Nat) : Shut := { x with stage := .entry, seq := seq }

theorem Shut.get_entered (x : Shut) (seq : Nat) (f : Bits) : (x.entered seq).get f = x.get f := rfl

/-- What a shuttle shows whose field was written, of all but its word. -/
theorem Shut.set_rest (x : Shut) (f : Bits) (v : Nat) : (x.set f v).frame = x.frame ∧ (x.set f v).rx = x.rx ∧ (x.set f v).pipe = x.pipe ∧
    (x.set f v).epoch = x.epoch ∧ (x.set f v).trace = x.trace := ⟨rfl, rfl, rfl, rfl, rfl⟩

/-- The shuttle of a frame from the network, before its fields are written. -/
def bareShut (n : Nat) (st : StampAt) (b : List Byte) : Shut :=
  { frame := b, rx := b, pipe := if 4 ≤ n ∧ n ≤ 7 then 1 else 0, epoch := st.epoch, dlEpoch := st.epoch, trace := st.trace }

theorem newShut_eq (n version cell : Nat) (st : StampAt) (b : List Byte) : newShut n version cell st b =
    ((((((bareShut n st b).set S.INGRESS_STAMP (stampField st.time)).set S.DEADLINE noDeadline).set S.PORT n).set S.CLASS 3).set S.VERSION version).set
      S.CELL cell := rfl

/-- The bytes, the pipeline and the stamp's epoch of a frame's shuttle. -/
theorem newShut_rest (n version cell : Nat) (st : StampAt) (b : List Byte) : (newShut n version cell st b).frame = b ∧
    (newShut n version cell st b).rx = b ∧ (newShut n version cell st b).pipe = (if 4 ≤ n ∧ n ≤ 7 then 1 else 0) ∧
    (newShut n version cell st b).epoch = st.epoch ∧ (newShut n version cell st b).trace = st.trace := by
  rw [newShut_eq]
  simp only [Shut.set_rest]
  exact ⟨rfl, rfl, rfl, rfl, rfl⟩

/-- The fields of a frame's shuttle. -/
theorem newShut_fields {n version : Nat} (cell : Nat) {st : StampAt} (b : List Byte) (hn : n ≤ 8) (ht : st.time < quartzMod / unit16)
    (hv : version < 16) : fieldStamp ((newShut n version cell st b).get S.INGRESS_STAMP) = st.time ∧ (newShut n version cell st b).get S.PORT = n ∧
    (newShut n version cell st b).get S.DIR = 0 ∧ (newShut n version cell st b).get S.VERSION = version := by
  rw [newShut_eq]
  refine ⟨?stamp, ?port, ?dir, ?vers⟩
  case stamp =>
    rw [Shut.get_set_apart _ _ (by decide), Shut.get_set_apart _ _ (by decide), Shut.get_set_apart _ _ (by decide), Shut.get_set_apart _ _ (by decide),
      Shut.get_set_apart _ _ (by decide), Shut.get_set_self _ _ (by decide)]
    exact fieldStamp_stampField ht
  case port =>
    rw [Shut.get_set_apart _ _ (by decide), Shut.get_set_apart _ _ (by decide), Shut.get_set_apart _ _ (by decide), Shut.get_set_self _ _ (by decide)]
    exact Nat.mod_eq_of_lt (by simp only [S.PORT]; omega)
  case dir =>
    rw [Shut.get_set_apart _ _ (by decide), Shut.get_set_apart _ _ (by decide), Shut.get_set_apart _ _ (by decide), Shut.get_set_apart _ _ (by decide),
      Shut.get_set_apart _ _ (by decide), Shut.get_set_apart _ _ (by decide)]
    change bitsOf (0 : ShuttleWord).toNat 164 1 = 0
    decide +kernel
  case vers =>
    rw [Shut.get_set_apart _ _ (by decide), Shut.get_set_self _ _ (by decide)]
    exact Nat.mod_eq_of_lt (by simp only [S.VERSION]; omega)

/-- A port that receives is one of the nine. -/
theorem Dev.le_of_receives {d : Dev} {n : Nat} (h : d.receives n = true) : n ≤ 8 := by
  simp only [Dev.receives, Bool.and_eq_true, decide_eq_true_eq] at h
  obtain ⟨⟨⟨hn, -⟩, -⟩, -⟩ := h
  exact hn

section
variable {s : State} {n : Nat} {st : StampAt} {t : List StampAt} (b : List Byte) (h : s.dev.receives n = true) (hst : (s.dev.port n).stamps = st :: t)
  (hcur : (s.dev.port n).cur = none)
include h hst hcur

/-- The device with a frame's stamp taken, and its shuttle at the entry arbiter. -/
theorem firstWindowReady_enters (hcell : s.dev.cellFree = true) (hq : s.dev.hif.faulted = []) :
    Yields (.firstWindowReady n b) s (fun d => (d.port n).stamps = t ∧ (d.port n).cur = some s.dev.nextShut ∧ d.nextShut = s.dev.nextShut + 1 ∧
      (∀ j, j ≠ s.dev.nextShut → d.shut j = s.dev.shut j) ∧
      ∃ cell seq, d.shut s.dev.nextShut = some ((newShut n s.dev.cfg.version cell st b).entered seq)) := by
  obtain ⟨d1, hd1⟩ : ∃ d1, d1 = s.dev.modPort n (fun p => { p with stamps := t }) := ⟨_, rfl⟩
  obtain ⟨d2, hd2⟩ : ∃ d2, d2 = ({ d1.newCell.2 with nextShut := s.dev.nextShut + 1 } : Dev).arrive s.dev.nextShut
      (newShut n s.dev.cfg.version d1.newCell.1 st b) .entry := ⟨_, rfl⟩
  have hcell1 : d1.cellFree = true := by rw [hd1]; exact hcell
  have hexec : exec (.firstWindowReady n b) s = doneH s (d2.modPort n (fun p => { p with cur := some s.dev.nextShut })) := by
    change execFirstWindowReady n b s = _
    simp only [execFirstWindowReady, hst, hcur, h, Option.isSome_none, Bool.not_true, Bool.or_self, Bool.false_eq_true, if_false]
    rw [← hd1, hcell1, hd2]
    have hnext : d1.newCell.2.nextShut = s.dev.nextShut := by rw [hd1]; rfl
    have hversion : d1.newCell.2.cfg.version = s.dev.cfg.version := by rw [hd1]; rfl
    simp only [Bool.not_true, Bool.false_eq_true, if_false, hnext, hversion]
  have hport : d2.port n = { s.dev.port n with stamps := t } := by
    rw [hd2]
    change d1.port n = _
    rw [hd1, Dev.port_modPort_self]
  have hhif : d2.hif = s.dev.hif := by rw [hd2, hd1]; rfl
  have hnext : d2.nextShut = s.dev.nextShut + 1 := by rw [hd2]; rfl
  have hshut : d2.shut s.dev.nextShut = some ((newShut n s.dev.cfg.version d1.newCell.1 st b).entered d1.seq) := by
    rw [hd2]
    exact Dev.shut_putShut_self _ _ _
  have hothers : ∀ j, j ≠ s.dev.nextShut → d2.shut j = s.dev.shut j := fun j hj => by
    rw [hd2]
    refine (Dev.shut_putShut_ne _ _ hj).trans ?_
    rw [hd1]
    rfl
  clear hd2
  refine Yields.of_doneH _ hexec (show d2.hif.faulted = [] by rw [hhif, hq]) (fun e he => ⟨?_, ?_, ?_, fun j hj => ?_, d1.newCell.1, d1.seq, ?_⟩)
  · rw [he.stamps, Dev.port_modPort_self, hport]
  · rw [he.cur, Dev.port_modPort_self]
  · rw [he.nextShut]
    exact hnext
  · rw [he.shut]
    exact hothers j hj
  · rw [he.shut]
    exact hshut

/-- A frame that finds no free cell is discarded and counted. -/
theorem firstWindowReady_drops (hcell : s.dev.cellFree = false) :
    Yields (.firstWindowReady n b) s (fun d => d.shuts = s.dev.shuts ∧ d.ctr K.DRAM_CELL_DROP = (s.dev.ctr K.DRAM_CELL_DROP + 1) % 2 ^ 64) := by
  have hcell1 : (s.dev.modPort n (fun p => { p with stamps := t })).cellFree = false := hcell
  have hexec : exec (.firstWindowReady n b) s =
      done s (((s.dev.modPort n (fun p => { p with stamps := t })).count K.DRAM_CELL_DROP).modPort n (fun p => { p with cur := none })) := by
    change execFirstWindowReady n b s = _
    simp only [execFirstWindowReady, hst, hcur, h, hcell1, Option.isSome_none, Bool.not_true, Bool.not_false, Bool.or_self, Bool.false_eq_true, if_false,
      if_true]
  exact Yields.of _ hexec ⟨rfl, Dev.ctr_count_self (s.dev.modPort n (fun p => { p with stamps := t })) _ _⟩

end

/-! ## SECOND_WINDOW_READY (R136) -/

/-- Shuttles changed one by one, none of them shuttle `i`. -/
theorem Dev.shut_foldl_modShut (d : Dev) {i : Nat} (f : Shut → Shut) (l : List Nat) (h : i ∉ l) :
    (l.foldl (fun d j => d.modShut j f) d).shut i = d.shut i := by
  induction l generalizing d with
  | nil => rfl
  | cons j t ih =>
    have hij : i ≠ j := fun e => h (e ▸ List.mem_cons_self)
    rw [List.foldl_cons, ih _ (fun hi => h (List.mem_cons_of_mem j hi))]
    unfold Dev.modShut
    split
    · rfl
    · exact Dev.shut_putShut_ne _ _ hij

theorem Dev.hif_foldl_modShut (d : Dev) (f : Shut → Shut) (l : List Nat) : (l.foldl (fun d j => d.modShut j f) d).hif = d.hif := by
  induction l generalizing d with
  | nil => rfl
  | cons j t ih =>
    rw [List.foldl_cons, ih]
    unfold Dev.modShut
    split <;> rfl

/-- A frame that is no copy is none of its own copies. -/
theorem Dev.not_mem_openCopies {d : Dev} {i : Nat} {x : Shut} (hx : d.shut i = some x) (hp : x.prpCopyOf = none) (hs : mapSorted d.shuts = true) :
    i ∉ d.openCopies i := by
  intro hi
  obtain ⟨⟨j, z⟩, hz, rfl⟩ := List.mem_map.1 hi
  obtain ⟨hmem, hcopy⟩ := List.mem_filter.1 hz
  have hzx : z = x := Option.some.inj ((mapGet_of_mem hs hmem).symm.trans hx)
  simp [hzx, hp] at hcopy

/-- SECOND_WINDOW_READY appends its bytes to the frame in reception. -/
theorem secondWindowReady_appends {s : State} {n i : Nat} {x : Shut} (b : List Byte) (hcur : (s.dev.port n).cur = some i) (hx : s.dev.shut i = some x)
    (hq : s.dev.hif.faulted = []) (hp : x.prpCopyOf = none) (hs : mapSorted s.dev.shuts = true) :
    Yields (.secondWindowReady n b) s (fun d => d.shut i = some (x.append b)) := by
  have hexec : exec (.secondWindowReady n b) s =
      doneH s ((s.dev.openCopies i).foldl (fun d j => d.modShut j (fun x => x.append b)) (s.dev.putShut i (x.append b))) := by
    change execSecondWindowReady n b s = _
    simp only [execSecondWindowReady, hcur, List.foldl_cons, Dev.modShut_of_shut hx]
  refine Yields.of_doneH _ hexec (by rw [Dev.hif_foldl_modShut]; exact hq) (fun e he => ?_)
  rw [he.shut, Dev.shut_foldl_modShut _ _ _ (Dev.not_mem_openCopies hx hp hs), Dev.shut_putShut_self]

/-! ## FRAME_END_RX (R64) -/

/-- The counts of codewords and symbols that the end of a frame moves. -/
def Dev.fecCounted (d : Dev) (n c u sy : Nat) : Dev :=
  let d := d.count (K.PORT_RX_FEC_CORR n) c
  let d := if u > 0 then (d.count (K.PORT_RX_FEC_UNCORR n) u).raise (F.PORT_EVENT_FEC_UNCORR n) else d
  if d.sh (F.PORT_CFG_FEC n) == 0 then d.count (K.PORT_RX_SYMBOL_ERR n) sy else d

/-- They are no part of the receiving side, and move words and counts alone. -/
theorem Dev.fecCounted_keeps (d : Dev) (n c u sy : Nat) : (d.fecCounted n c u sy).rxSide = d.rxSide ∧ (d.fecCounted n c u sy).shuts = d.shuts := by
  have hcorr : rxApart (K.PORT_RX_FEC_CORR n) = true := rxApart_port n (off := 0x110) (by decide) (by decide) (by decide)
  have huncorr : rxApart (K.PORT_RX_FEC_UNCORR n) = true := rxApart_port n (off := 0x118) (by decide) (by decide) (by decide)
  have hsymbol : rxApart (K.PORT_RX_SYMBOL_ERR n) = true := rxApart_port n (off := 0x120) (by decide) (by decide) (by decide)
  exact ⟨by simp [Dev.fecCounted, apply_ite Dev.rxSide, hcorr, huncorr, hsymbol], by simp [Dev.fecCounted, apply_ite Dev.shuts]⟩

/-- Whether a frame that ends is bad: its CRC, an uncorrectable codeword, or a symbol error without FEC (R64). -/
def Dev.endsBad (d : Dev) (n u sy : Nat) (x : Shut) : Bool :=
  crc32 (x.rx.take (x.rx.length - 4)) != fcsOf x.rx || decide (u > 0) || (d.sh (F.PORT_CFG_FEC n) == 0 && decide (sy > 0))

/-- The device with the end of a frame counted, and no frame in reception at its port. -/
def Dev.frameTaken (d : Dev) (n c u sy : Nat) (bad : Bool) : Dev :=
  let d := ((d.count (K.PORT_RX_FRAMES n)).fecCounted n c u sy).modPort n (fun p => { p with cur := none })
  if bad then d.count (K.PORT_RX_FCS_BAD n) else d

/-- What the port shows once a frame has ended. -/
theorem Dev.frameTaken_shows (d : Dev) {n : Nat} (hn : n ≤ 8) (c u sy : Nat) (bad : Bool) : ((d.frameTaken n c u sy bad).port n).cur = none ∧
    (d.frameTaken n c u sy bad).ctr (K.PORT_RX_FRAMES n) = (d.ctr (K.PORT_RX_FRAMES n) + 1) % 2 ^ 64 ∧
    (d.frameTaken n c u sy bad).ctr (K.PORT_RX_FCS_BAD n) =
      if bad then (d.ctr (K.PORT_RX_FCS_BAD n) + 1) % 2 ^ 64 else d.ctr (K.PORT_RX_FCS_BAD n) := by
  have hne : K.PORT_RX_FRAMES n ≠ K.PORT_RX_FCS_BAD n := by
    simp only [K.PORT_RX_FRAMES, K.PORT_RX_FCS_BAD]
    omega
  obtain ⟨-, hframes, hbad⟩ := Dev.rxSide_at ((d.count (K.PORT_RX_FRAMES n)).fecCounted_keeps n c u sy).1 hn
  rw [Dev.ctr_count_self] at hframes
  rw [Dev.ctr_count_ne _ _ _ hne.symm] at hbad
  unfold Dev.frameTaken
  generalize (d.count (K.PORT_RX_FRAMES n)).fecCounted n c u sy = e at hframes hbad ⊢
  cases bad with
  | false => exact ⟨by simp, hframes, hbad⟩
  | true =>
    refine ⟨by simp, ?_, ?_⟩
    · exact (Dev.ctr_count_ne _ _ _ hne).trans hframes
    · exact (Dev.ctr_count_self _ _ _).trans (by rw [← hbad]; rfl)

/-- FRAME_END_RX of the frame in reception counts it, gives its shuttle its end, and lets all that waits for the end go on. -/
theorem execFrameEndRx_of_cur {s : State} {n i : Nat} {x : Shut} (b : List Byte) (off : Nat) (m : Int) (c u sy : Nat) (h : s.dev.receives n = true)
    (hcur : (s.dev.port n).cur = some i) (hx : s.dev.shut i = some x) :
    ∃ y, execFrameEndRx n b off m c u sy s =
      doneH s ((((s.dev.frameTaken n c u sy (s.dev.endsBad n u sy (x.append b))).putShut i y).frameEnded i).settlePass i) := by
  obtain ⟨hside, hshuts⟩ := (s.dev.count (K.PORT_RX_FRAMES n)).fecCounted_keeps n c u sy
  unfold execFrameEndRx
  extract_lets d0 d1 d2 noFec d3 d4
  have hfec : noFec = (s.dev.sh (F.PORT_CFG_FEC n) == 0) := by
    simp only [noFec, d2]
    split <;> rfl
  have h3 : d3 = (s.dev.count (K.PORT_RX_FRAMES n)).fecCounted n c u sy := rfl
  have hcur3 : (d3.port n).cur = some i := by
    obtain ⟨hport, -⟩ := Dev.rxSide_at hside (Dev.le_of_receives h)
    rw [h3, hport]
    exact hcur
  have hx4 : d4.shut i = some x := by
    change mapGet d3.shuts i = some x
    rw [h3, hshuts]
    exact hx
  have htaken : s.dev.frameTaken n c u sy (s.dev.endsBad n u sy (x.append b)) =
      if s.dev.endsBad n u sy (x.append b) then d4.count (K.PORT_RX_FCS_BAD n) else d4 := rfl
  rw [htaken]
  clear_value noFec d3 d4
  subst hfec
  simp only [d0, h, hcur3, hx4, Bool.not_true, Bool.false_eq_true, if_false]
  exact ⟨_, rfl⟩

/-- FRAME_END_RX counts the frame, counts it as bad exactly when it is, and leaves no frame in reception (R64). -/
theorem frameEndRx_counts {s : State} {n i : Nat} {x : Shut} (b : List Byte) (off : Nat) (m : Int) (c u sy : Nat) (h : s.dev.receives n = true)
    (hcur : (s.dev.port n).cur = some i) (hx : s.dev.shut i = some x) :
    Yields (.frameEndRx n b off m c u sy) s (fun d => (d.port n).cur = none ∧
      d.ctr (K.PORT_RX_FRAMES n) = (s.dev.ctr (K.PORT_RX_FRAMES n) + 1) % 2 ^ 64 ∧
      d.ctr (K.PORT_RX_FCS_BAD n) = if s.dev.endsBad n u sy (x.append b) then (s.dev.ctr (K.PORT_RX_FCS_BAD n) + 1) % 2 ^ 64
        else s.dev.ctr (K.PORT_RX_FCS_BAD n)) := by
  have hn := Dev.le_of_receives h
  obtain ⟨y, hexec⟩ := execFrameEndRx_of_cur b off m c u sy h hcur hx
  obtain ⟨hnone, hframes, hbad⟩ := s.dev.frameTaken_shows hn c u sy (s.dev.endsBad n u sy (x.append b))
  generalize s.dev.frameTaken n c u sy (s.dev.endsBad n u sy (x.append b)) = d at hexec hnone hframes hbad
  refine ⟨_, hexec, ?_⟩
  have hside : (((((d.putShut i y).frameEnded i).settlePass i).faultsN 4).pauseSettle).rxSide = d.rxSide := by simp
  obtain ⟨hcur', hframes', hbad'⟩ := Dev.rxSide_at hside hn
  exact ⟨hcur'.trans hnone, hframes'.trans hframes, hbad'.trans hbad⟩

/-! ## The recovered clock (R81) -/

/-- The squelch of one output that selects a port. -/
def Dev.squelchOne (d : Dev) (n k : Nat) : Dev := if d.get (F.PORT_RCLK_PORT k) = n then d.set (F.PORT_RCLK_SQUELCHED k) 1 else d

theorem Dev.squelch_eq (d : Dev) (n : Nat) : d.squelch n = (d.squelchOne n 0).squelchOne n 1 := rfl

theorem Dev.get_squelchOne_apart (d : Dev) (n k : Nat) {f : Fld} (h : (F.PORT_RCLK_SQUELCHED k).apart f = true) :
    (d.squelchOne n k).get f = d.get f := by
  unfold Dev.squelchOne
  split
  · exact Dev.get_set_apart d _ f 1 h
  · rfl

theorem Dev.get_squelchOne_self (d : Dev) {n k : Nat} (h : d.get (F.PORT_RCLK_PORT k) = n) :
    (d.squelchOne n k).get (F.PORT_RCLK_SQUELCHED k) = 1 := by
  rw [Dev.squelchOne, if_pos h, Dev.get_set_self _ _ _ (by simp [F.PORT_RCLK_SQUELCHED])]
  rfl

/-- The outputs that select a port are squelched. -/
theorem Dev.get_squelch (d : Dev) {n k : Nat} (hk : k < 2) (h : d.get (F.PORT_RCLK_PORT k) = n) :
    (d.squelch n).get (F.PORT_RCLK_SQUELCHED k) = 1 := by
  rw [Dev.squelch_eq]
  obtain rfl | rfl : k = 0 ∨ k = 1 := by omega
  · rw [Dev.get_squelchOne_apart _ _ _ (by decide), Dev.get_squelchOne_self _ h]
  · exact Dev.get_squelchOne_self _ ((Dev.get_squelchOne_apart _ _ _ (by decide)).trans h)

/-- A lost lock shows, and squelches the outputs that select the port. -/
theorem cdrLockLoss_squelches (s : State) {n : Nat} (hn : n ≤ 8) :
    Yields (.cdrLockLoss n) s (fun d => d.get (F.PORT_STATUS_CDR_LOCK n) = 0 ∧
      ∀ k < 2, s.dev.get (F.PORT_RCLK_PORT k) = n → d.get (F.PORT_RCLK_SQUELCHED k) = 1) := by
  have hexec : exec (.cdrLockLoss n) s = done s ((s.dev.set (F.PORT_STATUS_CDR_LOCK n) 0).squelch n) := if_neg (Nat.not_lt.2 hn)
  refine Yields.of _ hexec ⟨?_, fun k hk h => Dev.get_squelch _ hk ?_⟩
  · have happart : ∀ k, (F.PORT_RCLK_SQUELCHED k).apart (F.PORT_STATUS_CDR_LOCK n) = true := fun k => by
      simp [Fld.apart, F.PORT_RCLK_SQUELCHED, F.PORT_STATUS_CDR_LOCK]
    rw [Dev.squelch_eq, Dev.get_squelchOne_apart _ _ _ (happart 1), Dev.get_squelchOne_apart _ _ _ (happart 0)]
    exact Dev.get_set_place _ _ (by decide)
  · rw [Dev.get_set_apart, h]
    simp [Fld.apart, F.PORT_RCLK_PORT, F.PORT_STATUS_CDR_LOCK]

/-- A lock gained shows, and moves nothing else. -/
theorem cdrLockGain_shows (s : State) {n : Nat} (hn : n ≤ 8) :
    Yields (.cdrLockGain n) s (fun d => d.get (F.PORT_STATUS_CDR_LOCK n) = 1 ∧ SameWordsBut [0x200004 + 0x10000 * n] d s.dev) := by
  have hexec : exec (.cdrLockGain n) s = done s (s.dev.set (F.PORT_STATUS_CDR_LOCK n) 1) := if_neg (Nat.not_lt.2 hn)
  exact Yields.of _ hexec ⟨Dev.get_set_place _ _ (by decide), sameWordsBut_set _ _ (by decide)⟩

/-- RCLK_RESTORE of an output whose port has its lock ends the squelch. -/
theorem rclkRestore_restores {s : State} {k : Nat} (hk : k < 2) (hp : s.dev.get (F.PORT_RCLK_PORT k) < 8)
    (hl : s.dev.get (F.PORT_STATUS_CDR_LOCK (s.dev.get (F.PORT_RCLK_PORT k))) = 1) :
    Yields (.rclkRestore k) s (fun d => d.get (F.PORT_RCLK_SQUELCHED k) = 0 ∧ SameWordsBut [0x2F0000 + 4 * k] d s.dev) := by
  have hexec : exec (.rclkRestore k) s = done s (s.dev.set (F.PORT_RCLK_SQUELCHED k) 0) := by
    change execRclkRestore k s = _
    simp [execRclkRestore, Dev.flag, hk, hp, hl]
  exact Yields.of _ hexec ⟨Dev.get_set_place _ _ (by decide), sameWordsBut_set _ _ (by decide)⟩

/-! ## The statement -/

/-- Settles O19: each command of reception by its own lemma; what a frame's end sets off keeps the receiving side of the ports. -/
theorem receptionCreatesShuttles : Obligations.ReceptionCreatesShuttles := by
  unfold Obligations.ReceptionCreatesShuttles
  refine ⟨fun s n off m h => sfdRx_queues off m h, ?enters, fun s n p t b h hst hcur hcell => firstWindowReady_drops b h hst hcur hcell, ?appends, ?ended,
    fun s n hn => ⟨cdrLockLoss_squelches s hn, cdrLockGain_shows s hn⟩, fun s k hk hp hl => rclkRestore_restores hk hp hl⟩
  case enters =>
    intro s n st t b h hst hcur hcell hq ht hv
    refine (firstWindowReady_enters b h hst hcur hcell hq).mono (fun d ⟨hstamps, hport, hnext, hothers, cell, seq, hshut⟩ => ?_)
    obtain ⟨hframe, hrx, hpipe, hepoch, htrace⟩ := newShut_rest n s.dev.cfg.version cell st b
    obtain ⟨hstamp, hfrom, hdir, hversion⟩ := newShut_fields cell b (Dev.le_of_receives h) ht hv
    generalize newShut n s.dev.cfg.version cell st b = y at hshut hframe hrx hpipe hepoch htrace hstamp hfrom hdir hversion
    exact ⟨hstamps, hport, hnext, hothers, y.entered seq, hshut, hframe, hrx, rfl, hpipe, hstamp, hepoch, htrace, hfrom, hdir, hversion⟩
  case appends =>
    intro s n i x b hcur hx hq hp hs
    exact (secondWindowReady_appends b hcur hx hq hp hs).mono (fun d hd => ⟨_, hd, rfl, rfl, rfl⟩)
  case ended =>
    intro s n i off c u sy m x b h hcur hx
    refine (frameEndRx_counts b off m c u sy h hcur hx).mono (fun d ⟨hnone, hframes, hbad⟩ => ⟨hnone, hframes, ?_⟩)
    rw [hbad]
    refine if_congr ?_ rfl rfl
    simp [Dev.endsBad, Shut.append, or_assoc]

end Sys2Proof.Machine
end

section
/-! PROOFS. The part of a device that a frame on its way and a failed access never touch. Every step of theirs keeps it, as a lemma `steady_f` says for
each function `f`, in the order of the model's units. -/
namespace Sys2Proof.Machine
open Sys2Proof

/-! ## The steady part -/

/-- What a frame on its way, and a failed access, never touch: the configuration sets, the Loom and its commit in hand, the module's own state, time,
the faults' state, start-up, and LOOM_COMMIT_STATUS. -/
structure Steady where
  cfg : Cfg
  loom : Loom
  sys : Sys
  time : Time
  flt : Flt
  boot : Boot
  status : Word

/-- The steady part of a device. -/
def Dev.steady (d : Dev) : Steady := ⟨d.cfg, d.loom, d.sys, d.time, d.flt, d.boot, d.word 0xA00004⟩

/-- A field that LOOM_COMMIT_STATUS holds no bit of. -/
def statusApart (f : Fld) : Bool := f.addr != 0xA00004 && (decide (f.lo + f.width ≤ 32) || f.addr + 4 != 0xA00004)

theorem statusApart_of_ne {f : Fld} (h : f.addr ≠ 0xA00004) (hw : f.lo + f.width ≤ 32) : statusApart f = true := by
  simp [statusApart, h, hw]

/-- Steps that each keep the steady part keep it together. -/
@[simp] theorem Dev.steady_foldl {α : Type} {f : Dev → α → Dev} (h : ∀ d a, (f d a).steady = d.steady) (d : Dev) (l : List α) :
    (l.foldl f d).steady = d.steady := by
  induction l generalizing d with
  | nil => rfl
  | cons a t ih => exact (ih _).trans (h d a)

/-- What Ledger and the fault block note is apart from the steady part. -/
theorem Dev.NotedIn.steady {d e : Dev} {lo hi : Nat} (h : d.NotedIn lo hi e) : e.steady = d.steady := by
  have hword : e.word 0xA00004 = d.word 0xA00004 := h.word _ ⟨by decide, by decide⟩
  obtain ⟨⟨l, m, b, rfl⟩, -⟩ := h
  exact congrArg (Steady.mk _ _ _ _ _ _) hword

section
variable (d : Dev)

@[simp] theorem Dev.steady_set {f : Fld} (h : statusApart f = true) (v : Nat) : (d.set f v).steady = d.steady := by
  simp only [statusApart, Bool.and_eq_true, bne_iff_ne, Bool.or_eq_true, decide_eq_true_eq] at h
  obtain ⟨hne, hwide⟩ := h
  exact congrArg (Steady.mk _ _ _ _ _ _) (d.word_set f v _ (Ne.symm hne) (hwide.imp id Ne.symm))
@[simp] theorem Dev.steady_raise {f : Fld} (h : statusApart f = true) : (d.raise f).steady = d.steady := d.steady_set h 1
@[simp] theorem Dev.steady_count (k n : Nat) : (d.count k n).steady = d.steady := rfl
@[simp] theorem Dev.steady_modNet (f : Net → Net) : (d.modNet f).steady = d.steady := rfl
@[simp] theorem Dev.steady_ite (c : Prop) [Decidable c] (d e : Dev) : (if c then d else e).steady = if c then d.steady else e.steady :=
  apply_ite Dev.steady c d e

@[simp] theorem Dev.steady_emit (o : Out) : (d.emit o).steady = d.steady := rfl
@[simp] theorem Dev.steady_putShut (i : Nat) (s : Shut) : (d.putShut i s).steady = d.steady := rfl
@[simp] theorem Dev.steady_freeShut (i : Nat) : (d.freeShut i).steady = d.steady := rfl
@[simp] theorem Dev.steady_arrive (i : Nat) (s : Shut) (g : Stage) : (d.arrive i s g).steady = d.steady := rfl
@[simp] theorem Dev.steady_fresh : d.fresh.2.steady = d.steady := rfl
@[simp] theorem Dev.steady_modFwd (f : Fwd → Fwd) : (d.modFwd f).steady = d.steady := rfl
@[simp] theorem Dev.steady_modHif (f : Hif → Hif) : (d.modHif f).steady = d.steady := rfl
@[simp] theorem Dev.steady_modCiph (f : Ciph → Ciph) : (d.modCiph f).steady = d.steady := rfl
@[simp] theorem Dev.steady_modStor (f : Stor → Stor) : (d.modStor f).steady = d.steady := rfl
@[simp] theorem Dev.steady_modHed (f : Hed → Hed) : (d.modHed f).steady = d.steady := rfl
@[simp] theorem Dev.steady_modPort (n : Nat) (f : PortSt → PortSt) : (d.modPort n f).steady = d.steady := rfl
@[simp] theorem Dev.steady_modRing (r : Nat) (f : RingSt → RingSt) : (d.modRing r f).steady = d.steady := rfl
@[simp] theorem Dev.steady_unqueue (i : Nat) : (d.unqueue i).steady = d.steady := rfl
@[simp] theorem Dev.steady_present (n : Nat) (x : CrossItem) : (d.present n x).steady = d.steady := rfl
@[simp] theorem Dev.steady_chargeRate (a b : Nat) : (d.chargeRate a b).steady = d.steady := rfl

/-- An entry written to a log whose index and window lie apart from LOOM_COMMIT_STATUS. -/
@[simp] theorem Dev.steady_logPut {ix win words : Nat} (h : ix ≠ 0xA00004 ∧ (0xA00004 < win ∨ win + 4 * words * 256 ≤ 0xA00004)) (entry : Nat) :
    (d.logPut ix win words entry).steady = d.steady := by
  obtain ⟨hix, hwin⟩ := h
  have hword := d.word_logPut ix win words entry hix.symm hwin
  obtain ⟨w, hw⟩ := d.logPut_eq ix win words entry
  rw [hw] at hword ⊢
  exact congrArg (Steady.mk _ _ _ _ _ _) hword

@[simp] theorem Dev.steady_fault {c : Nat} (h : c < 32) (kind unit detail : Nat) : (d.fault c kind unit detail).steady = d.steady :=
  (Dev.notedIn_fault 0 0 d kind unit detail h).steady
@[simp] theorem Dev.steady_loseSlots (s cause n ns : Nat) : (d.loseSlots s cause n ns).steady = d.steady := (d.notedFor_loseSlots s cause n ns).steady
@[simp] theorem Dev.steady_cutSeal (s cause : Nat) : (d.cutSeal s cause).steady = d.steady := (d.notedFor_cutSeal s cause).steady
@[simp] theorem Dev.steady_offerRecord (s n : Nat) (reserve : Bool) (ns : Nat) (mk : Nat → List Byte) :
    (d.offerRecord s n reserve ns mk).steady = d.steady := (d.notedFor_offerRecord s n reserve ns mk).steady
@[simp] theorem Dev.steady_health (source detail code : Nat) : (d.health source detail code).steady = d.steady :=
  (d.noted_health source detail code).steady

@[simp] theorem Dev.steady_modReed (f : Reed → Reed) : (d.modReed f).steady = d.steady := rfl

@[simp] theorem Dev.steady_wake (kind unit : Nat) : (d.wake kind unit).steady = d.steady := by
  unfold Dev.wake
  split <;> rfl

@[simp] theorem Dev.steady_modShut (i : Nat) (f : Shut → Shut) : (d.modShut i f).steady = d.steady := by
  unfold Dev.modShut
  split <;> rfl

@[simp] theorem Dev.steady_setStatus (i c : Nat) : (d.setStatus i c).steady = d.steady := by
  unfold Dev.setStatus
  split <;> rfl

end

end Sys2Proof.Machine
end

section
/-! PROOFS. Ledger's records, learning, and the host interface keep the steady part. -/
namespace Sys2Proof.Machine
open Sys2Proof

section
variable (d : Dev)

/-! ## Records and learning (R120, R178) -/

@[simp] theorem Dev.steady_offerFrame (st n ns : Nat) (hash : Bool) (b : List Byte) : (d.offerFrame st n ns hash b).steady = d.steady := by
  unfold Dev.offerFrame
  split
  · exact d.steady_wake 4 0
  · simp

@[simp] theorem Dev.steady_missFlush (i : Nat) : (d.missFlush i).steady = d.steady := by
  unfold Dev.missFlush
  repeat' split
  all_goals simp (disch := decide)

@[simp] theorem Dev.steady_frameRecord (s : Shut) (stamp : StampAt) (port dir key : Nat) (bytes : List Byte) (fcs : Nat) (ext : Bool) :
    (d.frameRecord s stamp port dir key bytes fcs ext).steady = d.steady := by
  simp [Dev.frameRecord]

@[simp] theorem Dev.steady_takeIngress (i : Nat) (s : Shut) : (d.takeIngress i s).steady = d.steady := by
  simp [Dev.takeIngress]

@[simp] theorem Dev.steady_queueLearn (q : LearnReq) : (d.queueLearn q).steady = d.steady := by
  simp (disch := decide) [Dev.queueLearn]

@[simp] theorem Dev.steady_releaseLearn (i : Nat) : (d.releaseLearn i).steady = d.steady := by
  unfold Dev.releaseLearn
  repeat' split
  all_goals simp (disch := decide)

@[simp] theorem Dev.steady_disposal (s : Shut) (reason : Nat) : (d.disposal s reason).steady = d.steady := by
  simp [Dev.disposal]

/-! ## Requests to the host (R295 to R304) -/

@[simp] theorem Dev.steady_sendRead (op : HostOp) (addr : Nat) : (d.sendRead op addr).steady = d.steady := rfl

@[simp] theorem Dev.steady_walkOp (op : HostOp) : (d.walkOp op).1.steady = d.steady := by
  unfold Dev.walkOp
  split <;> rfl

@[simp] theorem Dev.steady_modMovReq (chan id : Nat) (f : MovReq → MovReq) : (d.modMovReq chan id f).steady = d.steady := rfl

@[simp] theorem Dev.steady_opDropped (op : HostOp) : (d.opDropped op).steady = d.steady := by
  unfold Dev.opDropped
  split <;> rfl

@[simp] theorem Dev.steady_touchXl (inst iova : Nat) : (d.touchXl inst iova).steady = d.steady := rfl

@[simp] theorem Dev.steady_logDirtyIn (inst iova len k : Nat) : (d.logDirtyIn inst iova len k).steady = d.steady := by
  have hslot : statusApart (F.HIF_DIRTY_CFG_OVERFLOW k) = true :=
    statusApart_of_ne (by dsimp only [F.HIF_DIRTY_CFG_OVERFLOW]; omega) (by dsimp only [F.HIF_DIRTY_CFG_OVERFLOW]; omega)
  simp only [Dev.logDirtyIn]
  repeat' split
  all_goals simp (disch := first | exact hslot | decide)

@[simp] theorem Dev.steady_logDirty (inst iova len : Nat) : (d.logDirty inst iova len).steady = d.steady := by
  simp [Dev.logDirty]

@[simp] theorem Dev.steady_issue (op : HostOp) (addr : Nat) : (d.issue op addr).steady = d.steady := by
  simp [Dev.issue]

@[simp] theorem Dev.steady_walkRead (inst page addr : Nat) : (d.walkRead inst page addr).steady = d.steady := by
  simp [Dev.walkRead]

@[simp] theorem Dev.steady_walkFirst (inst page : Nat) : (d.walkFirst inst page).steady = d.steady := by
  simp [Dev.walkFirst]

@[simp] theorem Dev.steady_beginWalk (inst page : Nat) (pin : Bool) : (d.beginWalk inst page pin).steady = d.steady := by
  simp [Dev.beginWalk]

@[simp] theorem Dev.steady_startWalk (inst iova : Nat) (guar : Bool) : (d.startWalk inst iova guar).steady = d.steady := by
  simp [Dev.startWalk]

@[simp] theorem Dev.steady_xlateFault (inst iova reason : Nat) (write : Bool) : (d.xlateFault inst iova reason write).steady = d.steady := by
  simp (disch := decide) [Dev.xlateFault]

@[simp] theorem Dev.steady_tryOp (op : HostOp) : (d.tryOp op).1.steady = d.steady := by
  unfold Dev.tryOp
  repeat' split
  all_goals simp (disch := decide)

@[simp] theorem Dev.steady_hostOp (op : HostOp) : (d.hostOp op).steady = d.steady := by
  simp [Dev.hostOp]

@[simp] theorem Dev.steady_dmaWriteN (inst : Nat) (use : Use) (n iova : Nat) (b : List Byte) (bad : List (Nat × Nat)) :
    (d.dmaWriteN inst use n iova b bad).steady = d.steady := by
  induction n generalizing d iova b bad with
  | zero => rfl
  | succ n ih => simp [Dev.dmaWriteN, ih]

@[simp] theorem Dev.steady_dmaWrite (inst iova : Nat) (b : List Byte) (use : Use) (bad : List (Nat × Nat)) :
    (d.dmaWrite inst iova b use bad).steady = d.steady := by
  simp [Dev.dmaWrite]

@[simp] theorem Dev.steady_dmaReadN (inst : Nat) (guar : Bool) (n iova len : Nat) (use : Use) :
    (d.dmaReadN inst guar n iova len use).steady = d.steady := by
  induction n generalizing d iova len use with
  | zero => rfl
  | succ n ih => simp [Dev.dmaReadN, ih]

@[simp] theorem Dev.steady_dmaRead (inst iova len : Nat) (use : Use) (guar : Bool) : (d.dmaRead inst iova len use guar).steady = d.steady := by
  simp [Dev.dmaRead]

@[simp] theorem Dev.steady_walkPages (inst iova n : Nat) (guar : Bool) : (d.walkPages inst iova n guar).steady = d.steady := by
  refine Dev.steady_foldl (fun d k => ?_) d _
  dsimp only
  split <;> simp

/-! ## Rings, completions and interrupts (R317 to R338) -/

@[simp] theorem Dev.steady_clearOwn (r index n : Nat) : (d.clearOwn r index n).steady = d.steady := by
  induction n generalizing d index with
  | zero => rfl
  | succ n ih => simp [Dev.clearOwn, ih]

@[simp] theorem Dev.steady_cplEntry (c pos v : Nat) : (d.cplEntry c pos v).steady = d.steady := by
  simp [Dev.cplEntry]

@[simp] theorem Dev.steady_sendMsix (c : Nat) : (d.sendMsix c).steady = d.steady := by
  simp [Dev.sendMsix]

@[simp] theorem Dev.steady_evalMsix (c : Nat) : (d.evalMsix c).steady = d.steady := by
  simp [Dev.evalMsix]

@[simp] theorem Dev.steady_writeCpl (pos : Nat) (x : Cpl) : (d.writeCpl pos x).steady = d.steady := by
  simp [Dev.writeCpl]

@[simp] theorem Dev.steady_writeMirror (r : Nat) : (d.writeMirror r).steady = d.steady := by
  simp [Dev.writeMirror]

@[simp] theorem Dev.steady_ringSettle (r : Nat) : (d.ringSettle r).steady = d.steady := by
  simp [Dev.ringSettle]

@[simp] theorem Dev.steady_txComplete (i : Nat) : (d.txComplete i).steady = d.steady := by
  unfold Dev.txComplete
  repeat' split
  all_goals simp (disch := decide)

@[simp] theorem Dev.steady_rxComplete (i : Nat) : (d.rxComplete i).steady = d.steady := by
  unfold Dev.rxComplete
  repeat' split
  all_goals simp (disch := decide)

@[simp] theorem Dev.steady_ringErrorOne (r cause : Nat) : (d.ringErrorOne r cause).steady = d.steady := by
  simp (disch := decide) [Dev.ringErrorOne]

@[simp] theorem Dev.steady_ringError (r cause : Nat) : (d.ringError r cause).steady = d.steady := by
  simp [Dev.ringError]

@[simp] theorem Dev.steady_stopExport (s cause : Nat) : (d.stopExport s cause).steady = d.steady := by
  have hexport : statusApart (F.LEDG_STREAM_CFG_EXPORT s) = true :=
    statusApart_of_ne (by dsimp only [F.LEDG_STREAM_CFG_EXPORT]; omega) (by dsimp only [F.LEDG_STREAM_CFG_EXPORT]; omega)
  have hstatus : statusApart ⟨0x400004, 8 + s, 1⟩ = true := by simp [statusApart]
  unfold Dev.stopExport
  split
  · rfl
  · rw [Dev.steady_health, Dev.steady_raise _ (by decide), Dev.steady_set _ hstatus, Dev.steady_set _ hexport]

end

end Sys2Proof.Machine
end

section
/-! PROOFS. The end of a shuttle, the cipher lanes and the ways out of a pipeline keep the steady part. -/
namespace Sys2Proof.Machine
open Sys2Proof

section
variable (d : Dev)

/-! ## A shuttle that ends (R200, R333) -/

@[simp] theorem Dev.steady_ciphLog (sa kind : Nat) : (d.ciphLog sa kind).steady = d.steady := by
  simp [Dev.ciphLog]

@[simp] theorem Dev.steady_freeSa (k : Nat) : (d.freeSa k).steady = d.steady := by
  unfold Dev.freeSa
  split <;> simp (disch := decide)

@[simp] theorem Dev.steady_releaseSa (i : Nat) : (d.releaseSa i).steady = d.steady := by
  simp only [Dev.releaseSa]
  repeat' split
  all_goals simp (disch := decide)

@[simp] theorem Dev.steady_finishOne (i reason : Nat) : (d.finishOne i reason).steady = d.steady := by
  simp only [Dev.finishOne]
  repeat' split
  all_goals simp (disch := decide)

@[simp] theorem Dev.steady_finish (i reason : Nat) : (d.finish i reason).steady = d.steady := by
  simp only [Dev.finish]
  repeat' split
  all_goals simp (disch := decide)

@[simp] theorem Dev.steady_discard (i reason : Nat) : (d.discard i reason).steady = d.steady := by
  unfold Dev.discard
  split <;> simp

@[simp] theorem Dev.steady_stompOrDrop (i reason : Nat) : (d.stompOrDrop i reason).steady = d.steady := by
  unfold Dev.stompOrDrop
  split <;> simp

/-! ## Deadline misses (R56 to R58) -/

@[simp] theorem Dev.steady_missRecord (i : Nat) (s : Shut) (cause late : Nat) : (d.missRecord i s cause late).steady = d.steady := by
  simp [Dev.missRecord]

@[simp] theorem Dev.steady_declareMiss (i : Nat) (s : Shut) (cause late : Nat) : (d.declareMiss i s cause late).steady = d.steady := by
  simp (disch := decide) [Dev.declareMiss]

@[simp] theorem Dev.steady_loseClass (i cause : Nat) : (d.loseClass i cause).steady = d.steady := by
  unfold Dev.loseClass
  split <;> simp

@[simp] theorem Dev.steady_discardMiss (i reason cause : Nat) : (d.discardMiss i reason cause).steady = d.steady := by
  unfold Dev.discardMiss
  split <;> simp

/-! ## The cipher lanes (R190 to R216) -/

@[simp] theorem Dev.steady_putSa (k : Nat) (a : Sa) : (d.putSa k a).steady = d.steady := rfl

@[simp] theorem Dev.steady_takeValue (k v : Nat) : (d.takeValue k v).steady = d.steady := by
  unfold Dev.takeValue
  split <;> simp (disch := decide)

@[simp] theorem Dev.steady_laneOut (i : Nat) (f : List Byte) (good : Bool) : (d.laneOut i f good).steady = d.steady := by
  simp [Dev.laneOut]

@[simp] theorem Dev.steady_sealXts (i : Nat) (w : XtsItem) : (d.sealXts i w).steady = d.steady := by
  unfold Dev.sealXts
  split <;> simp

@[simp] theorem Dev.steady_tlsOut (i k : Nat) (s : Shut) (a : Sa) (p : Parsed) : (d.tlsOut i k s a p).steady = d.steady := by
  simp [Dev.tlsOut]

@[simp] theorem Dev.steady_notApplied (i : Nat) : (d.notApplied i).steady = d.steady := by
  simp [Dev.notApplied]

@[simp] theorem Dev.steady_tlsIn (i k : Nat) (s : Shut) (a : Sa) (p : Parsed) : (d.tlsIn i k s a p).steady = d.steady := by
  simp [Dev.tlsIn]

@[simp] theorem Dev.steady_laneTransform (i : Nat) : (d.laneTransform i).steady = d.steady := by
  simp only [Dev.laneTransform]
  repeat' split
  all_goals simp

@[simp] theorem Dev.steady_crossPump (island : Nat) : (d.crossPump island).steady = d.steady := by
  unfold Dev.crossPump
  repeat' split
  all_goals simp (disch := decide)

@[simp] theorem Dev.steady_toProgram (i : Nat) (s : Shut) : (d.toProgram i s).steady = d.steady := by
  simp [Dev.toProgram]

/-! ## Tunnels (R193 to R196) -/

@[simp] theorem Dev.steady_decap (i : Nat) (p : Parsed) : (d.decap i p).steady = d.steady := by
  unfold Dev.decap
  split <;> simp

@[simp] theorem Dev.steady_growthAt (i len : Nat) : (d.growthAt i len).steady = d.steady := by
  unfold Dev.growthAt
  split <;> simp

@[simp] theorem Dev.steady_checkGrowth (i : Nat) : (d.checkGrowth i).steady = d.steady := by
  simp [Dev.checkGrowth]

@[simp] theorem Dev.steady_encap (i charge : Nat) : (d.encap i charge).steady = d.steady := by
  unfold Dev.encap
  split <;> simp

@[simp] theorem Dev.steady_saMismatch (i : Nat) : (d.saMismatch i).steady = d.steady := by
  simp [Dev.saMismatch]

@[simp] theorem Dev.steady_laneArrive (i : Nat) : (d.laneArrive i).steady = d.steady := by
  simp only [Dev.laneArrive]
  repeat' split
  all_goals simp (disch := decide)

end

end Sys2Proof.Machine
end

section
/-! PROOFS. The last pass, what leaves a port, and what a frame's end judges keep the steady part. -/
namespace Sys2Proof.Machine
open Sys2Proof

section
variable (d : Dev)

/-! ## Copies, storage digests and the way to Reed (R77, R229) -/

@[simp] theorem Dev.steady_putAb (g : Nat) (x : AbGroup) : (d.putAb g x).steady = d.steady := rfl

@[simp] theorem Dev.steady_prpTail (i : Nat) : (d.prpTail i).steady = d.steady := by
  unfold Dev.prpTail
  repeat' split
  all_goals simp (disch := decide)

@[simp] theorem Dev.steady_prpDuplicate (i : Nat) : (d.prpDuplicate i).1.steady = d.steady := by
  unfold Dev.prpDuplicate
  repeat' split
  · rfl
  · rfl
  · simp only [Dev.steady_prpTail, Dev.steady_putShut]
    rfl

@[simp] theorem Dev.steady_putCtx (k : Nat) (c : StorCtx) : (d.putCtx k c).steady = d.steady := rfl

@[simp] theorem Dev.steady_storDigests (i k : Nat) (l : List (Nat × Nat × Option Nat)) : (d.storDigests i k l).steady = d.steady := by
  induction l generalizing d with
  | nil => rfl
  | cons p t ih =>
    unfold Dev.storDigests
    repeat' split
    all_goals simp [ih]

@[simp] theorem Dev.steady_writeBack (inst : Nat) (l : List (Nat × Nat)) (b : List Byte) : (d.writeBack inst l b).steady = d.steady := by
  induction l generalizing d b with
  | nil => rfl
  | cons p t ih => simp [Dev.writeBack, ih]

@[simp] theorem Dev.steady_storTxEnd (i : Nat) : (d.storTxEnd i).steady = d.steady := by
  simp only [Dev.storTxEnd]
  repeat' split
  all_goals simp (disch := decide)

@[simp] theorem Dev.steady_ownerFields (i : Nat) : (d.ownerFields i).steady = d.steady := by
  simp [Dev.ownerFields]

@[simp] theorem Dev.steady_ptpMarks (i : Nat) : (d.ptpMarks i).steady = d.steady := by
  simp [Dev.ptpMarks]

@[simp] theorem Dev.steady_toReed (i : Nat) : (d.toReed i).steady = d.steady := by
  simp only [Dev.toReed]
  split
  · rfl
  · split
    · simp
    · rw [Dev.steady_foldl]
      · simp
      · intro d j
        split <;> simp

@[simp] theorem Dev.steady_lastPassEnd (i : Nat) : (d.lastPassEnd i).steady = d.steady := by
  simp only [Dev.lastPassEnd]
  repeat' split
  all_goals simp (disch := decide)

@[simp] theorem Dev.steady_leavePipe (i : Nat) (s : Shut) : (d.leavePipe i s).steady = d.steady := by
  simp [Dev.leavePipe]

@[simp] theorem Dev.steady_passEnd (i : Nat) : (d.passEnd i).steady = d.steady := by
  simp only [Dev.passEnd]
  repeat' split
  all_goals simp (disch := decide)

@[simp] theorem Dev.steady_afterCipher (i : Nat) : (d.afterCipher i).steady = d.steady := by
  unfold Dev.afterCipher
  split <;> simp

@[simp] theorem Dev.steady_laneOn (i : Nat) : (d.laneOn i).steady = d.steady := by
  simp only [Dev.laneOn]
  repeat' split
  all_goals simp (disch := decide)

@[simp] theorem Dev.steady_laneEnd (i : Nat) : (d.laneEnd i).steady = d.steady := by
  unfold Dev.laneEnd
  split <;> simp

@[simp] theorem Dev.steady_copiesEnd (copies : List Nat) (i : Nat) : (d.copiesEnd copies i).steady = d.steady := by
  unfold Dev.copiesEnd
  split <;> simp

/-! ## What leaves a port, and the charge it gives back (R72, R74, R243) -/

@[simp] theorem Dev.steady_takeEgress (s : Shut) (stamp : StampAt) (port : Nat) (bytes : List Byte) (fcs : Nat) :
    (d.takeEgress s stamp port bytes fcs).steady = d.steady := by
  simp [Dev.takeEgress]

@[simp] theorem Dev.steady_decay (s : Shut) (port : Nat) : (d.decay s port).steady = d.steady := by
  unfold Dev.decay
  split <;> simp

@[simp] theorem Dev.steady_departEnd (i : Nat) : (d.departEnd i).steady = d.steady := by
  unfold Dev.departEnd
  repeat' split
  all_goals simp (disch := decide)

@[simp] theorem Dev.steady_countBytes (p : Nat) (committed : Bool) (s : Shut) : (d.countBytes p committed s).steady = d.steady := rfl

@[simp] theorem Dev.steady_chargeBits (p k : Nat) (committed : Bool) (bits : Int) : (d.chargeBits p k committed bits).steady = d.steady := rfl

@[simp] theorem Dev.steady_refund (i : Nat) : (d.refund i).steady = d.steady := by
  unfold Dev.refund
  repeat' split
  all_goals simp (disch := decide)

/-! ## Redundant feeds (R78, R80) -/

@[simp] theorem Dev.steady_abGapLost (g : Nat) (gap : Nat × Nat) : (d.abGapLost g gap).steady = d.steady := by
  simp (disch := decide) [Dev.abGapLost, Dev.abLog]

@[simp] theorem Dev.steady_abTrim (g n : Nat) : (d.abTrim g n).steady = d.steady := by
  induction n generalizing d with
  | zero => rfl
  | succ n ih =>
    simp only [Dev.abTrim]
    split <;> simp [ih]

@[simp] theorem Dev.steady_abUnmark (g seq : Nat) : (d.abUnmark g seq).steady = d.steady := by
  simp [Dev.abUnmark]

@[simp] theorem Dev.steady_abAtEnd (i : Nat) : (d.abAtEnd i).steady = d.steady := by
  unfold Dev.abAtEnd
  repeat' split
  all_goals simp (disch := decide)

@[simp] theorem Dev.steady_prpJudge (s : Shut) : (d.prpJudge s).1.steady = d.steady := by
  have hfull : statusApart (F.PORT_EVENT_PRP_FULL (s.get S.PORT)) = true :=
    statusApart_of_ne (by dsimp only [F.PORT_EVENT_PRP_FULL]; omega) (by dsimp only [F.PORT_EVENT_PRP_FULL]; omega)
  simp only [Dev.prpJudge]
  repeat' split
  all_goals simp [hfull]

@[simp] theorem Dev.steady_prpAtEnd (i : Nat) : (d.prpAtEnd i).steady = d.steady := by
  unfold Dev.prpAtEnd
  split
  · rfl
  next s _ =>
    have hjudge := d.steady_prpJudge s
    split
    · rfl
    · split <;> simp_all

/-! ## What a frame's end judges (R141, R152 to R154) -/

@[simp] theorem Dev.steady_ipLenDrop (i : Nat) : (d.ipLenDrop i).steady = d.steady := by
  unfold Dev.ipLenDrop
  split <;> simp

@[simp] theorem Dev.steady_ipLenAtEnd (i : Nat) : (d.ipLenAtEnd i).steady = d.steady := by
  unfold Dev.ipLenAtEnd
  split <;> simp

@[simp] theorem Dev.steady_setDeadline (i : Nat) : (d.setDeadline i).steady = d.steady := by
  unfold Dev.setDeadline
  repeat' split
  all_goals simp (disch := decide)

@[simp] theorem Dev.steady_ingressAtEnd (i : Nat) : (d.ingressAtEnd i).steady = d.steady := by
  unfold Dev.ingressAtEnd
  split <;> simp

@[simp] theorem Dev.steady_policerDrop (i k : Nat) : (d.policerDrop i k).steady = d.steady := by
  simp [Dev.policerDrop]

@[simp] theorem Dev.steady_policeGeneral (i k charge : Nat) : (d.policeGeneral i k charge).steady = d.steady := by
  unfold Dev.policeGeneral
  split <;> simp

@[simp] theorem Dev.steady_policeEnv (i e charge : Nat) : (d.policeEnv i e charge).steady = d.steady := by
  unfold Dev.policeEnv
  split <;> simp

@[simp] theorem Dev.steady_policeWith (i charge : Nat) : (d.policeWith i charge).steady = d.steady := by
  unfold Dev.policeWith
  repeat' split
  all_goals simp (disch := decide)

@[simp] theorem Dev.steady_policeAtEnd (i : Nat) : (d.policeAtEnd i).steady = d.steady := by
  unfold Dev.policeAtEnd
  split <;> simp

@[simp] theorem Dev.steady_heldAtEnd (i : Nat) : (d.heldAtEnd i).steady = d.steady := by
  unfold Dev.heldAtEnd
  split <;> simp

@[simp] theorem Dev.steady_tunnelEnd (i : Nat) : (d.tunnelEnd i).steady = d.steady := by
  simp only [Dev.tunnelEnd]
  repeat' split
  all_goals simp (disch := decide)

/-! ## Frames to the host (R336) -/

@[simp] theorem Dev.steady_hostLate (i : Nat) : (d.hostLate i).steady = d.steady := by
  unfold Dev.hostLate
  split <;> simp

@[simp] theorem Dev.steady_rxWrite (s : Shut) (i from_ n : Nat) (b : List Byte) (bad : List (Nat × Nat)) :
    (d.rxWrite s i from_ n b bad).steady = d.steady := by
  simp [Dev.rxWrite]

@[simp] theorem Dev.steady_hostDone (i : Nat) : (d.hostDone i).steady = d.steady := by
  unfold Dev.hostDone
  split <;> simp

@[simp] theorem Dev.steady_hostRelease (i : Nat) (s : Shut) : (d.hostRelease i s).steady = d.steady := by
  simp only [Dev.hostRelease]
  split <;> simp (disch := decide)

@[simp] theorem Dev.steady_hostEnd (i : Nat) : (d.hostEnd i).steady = d.steady := by
  unfold Dev.hostEnd
  split <;> simp

end

end Sys2Proof.Machine
end

section
/-! PROOFS. The storage offload, a frame's end and the handling of a failed access keep the steady part. -/
namespace Sys2Proof.Machine
open Sys2Proof

section
variable (d : Dev)

/-! ## The storage offload (R222 to R229) -/

@[simp] theorem Dev.steady_afterStor (i : Nat) : (d.afterStor i).steady = d.steady := by
  unfold Dev.afterStor
  split <;> simp

@[simp] theorem Dev.steady_putCid (k : Nat) (e : CidEntry) : (d.putCid k e).steady = d.steady := rfl

@[simp] theorem Dev.steady_loseHeld (k : Nat) : (d.loseHeld k).steady = d.steady := by
  exact Dev.steady_foldl (fun d _ => by rw [Dev.steady_count, Dev.steady_putCid]) d _

@[simp] theorem Dev.steady_syncLost : d.syncLost.steady = d.steady := by
  simp (disch := decide) [Dev.syncLost]

@[simp] theorem Dev.steady_clearSync (k : Nat) (counted : Bool) : (d.clearSync k counted).steady = d.steady := by
  unfold Dev.clearSync
  split <;> simp

@[simp] theorem Dev.steady_fetchCid (c : StorCtx) (key : Nat) : (d.fetchCid c key).steady = d.steady := by
  simp [Dev.fetchCid]

@[simp] theorem Dev.steady_storTxStep (i n : Nat) : (d.storTxStep i n).1.steady = d.steady := by
  induction n generalizing d with
  | zero => rfl
  | succ n ih =>
    unfold Dev.storTxStep
    repeat' split
    all_goals simp (disch := decide) [ih]

@[simp] theorem Dev.steady_notPlaced (i : Nat) : (d.notPlaced i).steady = d.steady := by
  simp [Dev.notPlaced]

@[simp] theorem Dev.steady_placeFault (i key : Nat) : (d.placeFault i key).steady = d.steady := by
  unfold Dev.placeFault
  split <;> simp

@[simp] theorem Dev.steady_placeNow (i key inst : Nat) (e : CidEntry) (off : Nat) (b : List Byte) : (d.placeNow i key inst e off b).steady = d.steady := by
  simp [Dev.placeNow]

theorem Dev.steady_placeRun {i key inst : Nat} {e : CidEntry} {off : Nat} {b : List Byte} {r : Dev × Bool}
    (h : d.placeRun i key inst e off b = some r) : r.1.steady = d.steady := by
  simp only [Dev.placeRun] at h
  split at h
  · cases h
  · cases h
    simp
  · cases h
    simp

theorem Dev.steady_placeItem {i : Nat} {c : StorCtx} {e : CidEntry} {it : StorItem} {f : Dev} (h : d.placeItem i c e it = some f) :
    f.steady = d.steady := by
  obtain ⟨r, hr, rfl⟩ := Option.map_eq_some_iff.1 h
  have hrun := d.steady_placeRun hr
  split
  · rw [Dev.steady_modShut, hrun]
  · exact hrun

theorem Dev.steady_storData {i : Nat} {c : StorCtx} {it : StorItem} {f : Dev} (h : d.storData i c it = some f) : f.steady = d.steady := by
  unfold Dev.storData at h
  split at h
  · cases h
    simp
  · split at h
    · split at h
      · exact absurd h (by simp)
      · split at h
        · cases h
          simp
        · split at h
          · cases h
            simp (disch := decide)
          · exact absurd h (by simp)
    · split at h
      · cases h
        simp
      · split at h
        · cases h
          simp
        · split at h
          · split at h
            · cases h
              simp (disch := decide)
            · cases h
              simp
          · exact d.steady_placeItem h

theorem Dev.steady_behindXts (i : Nat) (it : StorItem) {now : Dev} (h : now.steady = d.steady) : (d.behindXts i it now).steady = d.steady := by
  simp [Dev.behindXts, h]

theorem Dev.steady_storItem {i : Nat} {c : StorCtx} {it : StorItem} {f : Dev} (h : d.storItem i c it = some f) : f.steady = d.steady := by
  unfold Dev.storItem at h
  split at h
  · exact d.steady_storData h
  · cases h
    exact d.steady_behindXts i it (by simp)
  · cases h
    exact d.steady_behindXts i it (by simp)
  · split at h
    · cases h
      simp
    · split at h
      · cases h
        simp
      · exact d.steady_placeItem h

@[simp] theorem Dev.steady_walkRun (inst : Nat) (e : CidEntry) (it : StorItem) : (d.walkRun inst e it).steady = d.steady := by
  simp [Dev.walkRun]

@[simp] theorem Dev.steady_storRxStep (i n : Nat) : (d.storRxStep i n).1.steady = d.steady := by
  induction n generalizing d with
  | zero => rfl
  | succ n ih =>
    unfold Dev.storRxStep
    split
    · rfl
    · split
      · rfl
      · simp
      · split
        next e he => simp [ih, d.steady_storItem he]
        next => split <;> simp

@[simp] theorem Dev.steady_storStep (i : Nat) : (d.storStep i).1.steady = d.steady := by
  unfold Dev.storStep
  repeat' split
  all_goals simp (disch := decide)

@[simp] theorem Dev.steady_storGo (i : Nat) : (d.storGo i).steady = d.steady := by
  simp [Dev.storGo]

@[simp] theorem Dev.steady_storRx (i k : Nat) (c : StorCtx) (p : Parsed) : (d.storRx i k c p).steady = d.steady := by
  have hdata : ∀ e : Dev, (e.raise F.STOR_EVENT_DDGST_BAD).steady = e.steady := fun e => e.steady_raise (by decide)
  have hhead : ∀ e : Dev, (e.raise F.STOR_EVENT_HDGST_BAD).steady = e.steady := fun e => e.steady_raise (by decide)
  unfold Dev.storRx
  split <;> simp [hdata, hhead]

@[simp] theorem Dev.steady_storTx (i k : Nat) (c : StorCtx) (p : Parsed) : (d.storTx i k c p).steady = d.steady := by
  unfold Dev.storTx
  split <;> simp

@[simp] theorem Dev.steady_storEnter (i : Nat) : (d.storEnter i).steady = d.steady := by
  simp only [Dev.storEnter]
  repeat' split
  all_goals simp (disch := decide)

@[simp] theorem Dev.steady_storAtEnd (i : Nat) : (d.storAtEnd i).steady = d.steady := by
  unfold Dev.storAtEnd
  split <;> simp

/-! ## The end of a frame (R64, R69) -/

@[simp] theorem Dev.steady_frameEnded (i : Nat) : (d.frameEnded i).steady = d.steady := by
  unfold Dev.frameEnded
  split
  · rfl
  · split
    · rfl
    · extract_lets copies d0 dropped1 dropped2 d1 d2 d3 d4 d5 d6
      have h0 : d0.steady = d.steady := rfl
      split
      · simp [dropped2, dropped1, h0]
      · have h4 : d4.steady = d.steady := by simp [d4, d3, d2, d1, h0]
        have h5 : d5.steady = d4.steady := by
          dsimp only [d5]
          split <;> simp
        simp [d6, h5, h4]

/-! ## The forwarding stage and the exception list (R149, R167 to R184) -/

@[simp] theorem Dev.steady_excDiscard (i reason : Nat) : (d.excDiscard i reason).steady = d.steady := by
  unfold Dev.excDiscard
  split <;> simp

@[simp] theorem Dev.steady_applyExc (i ptr resume : Nat) : (d.applyExc i ptr resume).1.steady = d.steady := by
  simp only [Dev.applyExc]
  repeat' split
  all_goals simp (disch := decide)

@[simp] theorem Dev.steady_putFwd (i : Nat) (e : FwdEntry) : (d.putFwd i e).steady = d.steady := rfl

@[simp] theorem Dev.steady_refresh (i : Nat) (counted : Bool) : (d.refresh i counted).steady = d.steady := by
  unfold Dev.refresh
  split <;> simp

@[simp] theorem Dev.steady_learnSource (i fd ring : Nat) : (d.learnSource i fd ring).steady = d.steady := by
  simp only [Dev.learnSource]
  repeat' split
  all_goals simp (disch := decide)

@[simp] theorem Dev.steady_learnSide (i : Nat) : (d.learnSide i).steady = d.steady := by
  unfold Dev.learnSide
  repeat' split
  all_goals simp (disch := decide)

@[simp] theorem Dev.steady_learnCount (port : Nat) (up : Bool) : (d.learnCount port up).steady = d.steady := by
  have hport : port ≤ 10 → statusApart (F.FWD_PORT_COUNT_COUNT port) = true := fun h =>
    statusApart_of_ne (by dsimp only [F.FWD_PORT_COUNT_COUNT]; omega) (by dsimp only [F.FWD_PORT_COUNT_COUNT]; omega)
  simp only [Dev.learnCount]
  split
  next h => rw [Dev.steady_set _ (hport h), Dev.steady_set _ (by decide)]
  next => exact d.steady_set (by decide) _

@[simp] theorem Dev.steady_removeFwd (i : Nat) : (d.removeFwd i).steady = d.steady := by
  unfold Dev.removeFwd
  split <;> simp

@[simp] theorem Dev.steady_fwdParity (i : Nat) : (d.fwdParity i).steady = d.steady := by
  simp (disch := decide) [Dev.fwdParity]

@[simp] theorem Dev.steady_lookParity (i : Nat) (parity : Option Nat) : (d.lookParity i parity).steady = d.steady := by
  unfold Dev.lookParity
  split <;> simp

@[simp] theorem Dev.steady_checkDst (i port : Nat) : (d.checkDst i port).steady = d.steady := by
  unfold Dev.checkDst
  split <;> simp

@[simp] theorem Dev.steady_writeDest (i port queue : Nat) : (d.writeDest i port queue).steady = d.steady := by
  unfold Dev.writeDest
  split <;> simp

@[simp] theorem Dev.steady_fwdHit (i idx : Nat) : (d.fwdHit i idx).steady = d.steady := by
  unfold Dev.fwdHit
  split <;> simp

@[simp] theorem Dev.steady_missStatus (i : Nat) : (d.missStatus i).steady = d.steady := by
  unfold Dev.missStatus
  split <;> simp

@[simp] theorem Dev.steady_forwardLook (i : Nat) (parity : Option Nat) : (d.forwardLook i parity).1.steady = d.steady := by
  simp only [Dev.forwardLook]
  repeat' split
  all_goals simp (disch := decide)

@[simp] theorem Dev.steady_afterForward (i : Nat) : (d.afterForward i).steady = d.steady := by
  unfold Dev.afterForward
  split <;> simp

@[simp] theorem Dev.steady_fwdMiss (i fd : Nat) : (d.fwdMiss i fd).1.steady = d.steady := by
  simp only [Dev.fwdMiss]
  repeat' split
  all_goals simp (disch := decide)

@[simp] theorem Dev.steady_fwdDrop (i : Nat) : (d.fwdDrop i).steady = d.steady := by
  unfold Dev.fwdDrop
  split <;> simp

@[simp] theorem Dev.steady_missDiscard (i : Nat) (wasGuar : Bool) : (d.missDiscard i wasGuar).steady = d.steady := by
  simp [Dev.missDiscard]

@[simp] theorem Dev.steady_excMissed (i fd : Nat) : (d.excMissed i fd).steady = d.steady := by
  have hmiss := d.steady_fwdMiss i fd
  unfold Dev.excMissed
  split <;> simp_all

@[simp] theorem Dev.steady_fwdMissed (i fd : Nat) : (d.fwdMissed i fd).steady = d.steady := by
  have hmiss := d.steady_fwdMiss i fd
  unfold Dev.fwdMissed
  split
  · simp
  · split
    next e he => simpa [he] using hmiss
    next e he => simpa [he] using hmiss
    next e he =>
      rw [he] at hmiss
      split
      · exact hmiss
      next s _ =>
        have happ := e.steady_applyExc i s.exc 0
        generalize e.applyExc i s.exc 0 = r at happ ⊢
        have hlook := r.1.steady_forwardLook i none
        dsimp only
        split
        · simp [happ, hmiss]
        · split <;> simp_all

@[simp] theorem Dev.steady_forwardStage (i : Nat) (parity : Option Nat) : (d.forwardStage i parity).steady = d.steady := by
  have hlook := d.steady_forwardLook i parity
  unfold Dev.forwardStage
  split <;> simp_all

@[simp] theorem Dev.steady_runExc (i ptr resume : Nat) (parity : Option Nat) : (d.runExc i ptr resume parity).steady = d.steady := by
  simp [Dev.runExc]

@[simp] theorem Dev.steady_settlePass (i : Nat) : (d.settlePass i).steady = d.steady := by
  unfold Dev.settlePass
  split <;> simp

/-! ## Failed accesses (R303) -/

@[simp] theorem Dev.steady_txFetched (i : Nat) : (d.txFetched i).steady = d.steady := by
  simp only [Dev.txFetched]
  repeat' split
  all_goals simp (disch := decide)

@[simp] theorem Dev.steady_txPieceFailed (i off code : Nat) : (d.txPieceFailed i off code).steady = d.steady := by
  simp [Dev.txPieceFailed]

@[simp] theorem Dev.steady_faultUse (u : Use) : (d.faultUse u).steady = d.steady := by
  unfold Dev.faultUse
  split <;> simp

@[simp] theorem Dev.steady_faultsN (n : Nat) : (d.faultsN n).steady = d.steady := by
  induction n generalizing d with
  | zero => rfl
  | succ n ih =>
    simp only [Dev.faultsN]
    split <;> simp [ih]

@[simp] theorem Dev.steady_pauseSettle : d.pauseSettle.steady = d.steady := by
  obtain ⟨⟨net, out, h⟩, -⟩ := d.pauseOnly_pauseSettle
  rw [h]
  rfl

end

end Sys2Proof.Machine
end

section
/-! PROOFS. The swap of the configuration sets: each block takes the new set and leaves the configuration (R51, R157, R158). -/
namespace Sys2Proof.Machine
open Sys2Proof

section
variable {d e : Dev}

/-! ## The sets and the commit registers, where the rest is kept -/

/-- What keeps the steady part keeps the configuration. -/
theorem Dev.cfg_of_steady (h : e.steady = d.steady) : e.cfg = d.cfg := congrArg Steady.cfg h
theorem Dev.loom_of_steady (h : e.steady = d.steady) : e.loom = d.loom := congrArg Steady.loom h
theorem Dev.commitState_of_steady (h : e.steady = d.steady) : e.get F.LOOM_COMMIT_STATUS_STATE = d.get F.LOOM_COMMIT_STATUS_STATE :=
  Dev.get_eq_of_word_eq (by decide) (congrArg Steady.status h)

end

section
variable (d : Dev)

/-- Steps that each keep the configuration keep it together. -/
@[simp] theorem Dev.cfg_foldl {α : Type} {f : Dev → α → Dev} (h : ∀ d a, (f d a).cfg = d.cfg) (l : List α) : (l.foldl f d).cfg = d.cfg := by
  induction l generalizing d with
  | nil => rfl
  | cons a t ih => exact (ih _).trans (h d a)

@[simp] theorem Dev.cfg_ite (c : Prop) [Decidable c] (d e : Dev) : (if c then d else e).cfg = if c then d.cfg else e.cfg := apply_ite Dev.cfg c d e

/-! ## The blocks at a swap (R65, R121, R252, R318) -/

@[simp] theorem Dev.cfg_cutSeal (s cause : Nat) : (d.cutSeal s cause).cfg = d.cfg := Dev.cfg_of_steady (d.steady_cutSeal s cause)
@[simp] theorem Dev.cfg_putRecord (s : Nat) (mk : Nat → List Byte) : (d.putRecord s mk).cfg = d.cfg :=
  Dev.cfg_of_steady (d.notedFor_putRecord s mk).steady
@[simp] theorem Dev.cfg_writeSlots (ring : Nat × Nat) (slot : Nat) (b : List Byte) (n : Nat) : (d.writeSlots ring slot b n).cfg = d.cfg :=
  Dev.cfg_of_steady (d.notedFor_writeSlots 0 ring slot b n).steady
@[simp] theorem Dev.cfg_health (source detail code : Nat) : (d.health source detail code).cfg = d.cfg :=
  Dev.cfg_of_steady (d.steady_health source detail code)
@[simp] theorem Dev.cfg_discardMiss (i reason cause : Nat) : (d.discardMiss i reason cause).cfg = d.cfg :=
  Dev.cfg_of_steady (d.steady_discardMiss i reason cause)
@[simp] theorem Dev.cfg_writeMirror (r : Nat) : (d.writeMirror r).cfg = d.cfg := Dev.cfg_of_steady (d.steady_writeMirror r)

@[simp] theorem Dev.cfg_endStream (s : Nat) : (d.endStream s).cfg = d.cfg := d.cfg_cutSeal s 3

@[simp] theorem Dev.cfg_ledgBefore (new : CfgSet) : (d.ledgBefore new).cfg = d.cfg := by
  simp [Dev.ledgBefore]

@[simp] theorem Dev.cfg_putSeal (j : SealJob) (sig : List Byte) : (d.putSeal j sig).cfg = d.cfg := by
  simp [Dev.putSeal, Dev.putStream]

@[simp] theorem Dev.cfg_sealsDue (s : Nat) : (d.sealsDue s).cfg = d.cfg := by
  simp [Dev.sealsDue]

@[simp] theorem Dev.cfg_startStream (s : Nat) : (d.startStream s).cfg = d.cfg := by
  simp only [Dev.startStream, Dev.cfg_putRecord]
  exact d.cfg_sealsDue s

@[simp] theorem Dev.cfg_showOwners : d.showOwners.cfg = d.cfg := by
  unfold Dev.showOwners
  exact Dev.cfg_foldl d (fun _ _ => Dev.set_cfg _ _ _) _

@[simp] theorem Dev.cfg_ledgAfter (retiring : Nat) : (d.ledgAfter retiring).cfg = d.cfg := by
  simp [Dev.ledgAfter]

@[simp] theorem Dev.cfg_ringSwap (r : Nat) (was : Bool) : (d.ringSwap r was).cfg = d.cfg := by
  simp only [Dev.ringSwap, Dev.ringFresh]
  repeat' split
  all_goals simp [Dev.modRing, Dev.dropCached, Dev.voidDescReads]

@[simp] theorem Dev.cfg_ringsSwap (old : CfgSet) : (d.ringsSwap old).cfg = d.cfg := by
  simp [Dev.ringsSwap]

@[simp] theorem Dev.cfg_gateRefresh (n : Nat) : (d.gateRefresh n).cfg = d.cfg := by
  unfold Dev.gateRefresh
  split <;> rfl

@[simp] theorem Dev.cfg_gateSwap (old new : CfgSet) (n : Nat) : (d.gateSwap old new n).cfg = d.cfg := by
  simp [Dev.gateSwap]

@[simp] theorem Dev.cfg_scaleOf (p : Nat) : (d.scaleOf p).cfg = d.cfg := by
  simp [Dev.scaleOf]

@[simp] theorem Dev.cfg_reedSwap (old : CfgSet) : (d.reedSwap old).cfg = d.cfg := by
  simp [Dev.reedSwap]

@[simp] theorem Dev.cfg_setLink (n st : Nat) : (d.setLink n st).cfg = d.cfg := rfl

@[simp] theorem Dev.cfg_linkStart (n : Nat) : (d.linkStart n).cfg = d.cfg := rfl

@[simp] theorem Dev.cfg_cutReception (n : Nat) : (d.cutReception n).cfg = d.cfg := by
  unfold Dev.cutReception
  split
  · rfl
  · exact Dev.cfg_of_steady (by simp)

@[simp] theorem Dev.cfg_dropQueued (n : Nat) : (d.dropQueued n).cfg = d.cfg := by
  simp [Dev.dropQueued]

@[simp] theorem Dev.cfg_squelch (n : Nat) : (d.squelch n).cfg = d.cfg := by
  simp [Dev.squelch]

@[simp] theorem Dev.cfg_bookFell (k : Nat) : (d.bookFell k).cfg = d.cfg := rfl

@[simp] theorem Dev.cfg_modPort (n : Nat) (f : PortSt → PortSt) : (d.modPort n f).cfg = d.cfg := rfl

@[simp] theorem Dev.cfg_linkLeave (n : Nat) : (d.linkLeave n).cfg = d.cfg := by
  simp [Dev.linkLeave]

@[simp] theorem Dev.cfg_linkDisable (n : Nat) : (d.linkDisable n).cfg = d.cfg := by
  simp [Dev.linkDisable]

@[simp] theorem Dev.cfg_showComp (n : Nat) : (d.showComp n).cfg = d.cfg := rfl

@[simp] theorem Dev.cfg_portSwapOne (old : CfgSet) (n : Nat) : (d.portSwapOne old n).cfg = d.cfg := by
  simp [Dev.portSwapOne]

@[simp] theorem Dev.cfg_portSwap (old : CfgSet) : (d.portSwap old).cfg = d.cfg := by
  simp [Dev.portSwap]

@[simp] theorem Dev.cfg_showBooks : d.showBooks.cfg = d.cfg := by
  simp [Dev.showBooks]

@[simp] theorem Dev.cfg_swapBuckets (old : CfgSet) : (d.swapBuckets old).cfg = d.cfg := rfl
@[simp] theorem Dev.cfg_measureCommit : d.measureCommit.cfg = d.cfg := rfl
@[simp] theorem Dev.cfg_wakeHeld : d.wakeHeld.cfg = d.cfg := rfl

@[simp] theorem Dev.cfg_noLanes : d.noLanes.cfg = d.cfg := Dev.cfg_of_steady (by simp [Dev.noLanes])

/-! ## The swap (R51, R157, R158) -/

/-- The configuration that a swap leaves: the shadow set is active, the set that was active retires, and the version advances. -/
def Cfg.swap (c : Cfg) : Cfg :=
  { c with retiring := c.active, active := c.shadow, version := (c.version + 1) % 16, retiringVersion := some c.version,
           copies := [], dead := c.dead ++ c.copies, deletes := [], gone := c.gone ++ c.deletes }

theorem Dev.cfg_swapSlots : d.swapSlots.cfg = d.cfg.swap := rfl

theorem Dev.cfg_swapSet (passed : List (Nat × Nat × Nat)) : (d.swapSet passed).cfg = Cfg.swap { d.cfg with shadow := d.cfg.shadow.admitted passed } := by
  rw [Dev.swapSet, Dev.cfg_noLanes, Dev.cfg_ledgAfter, Dev.cfg_wakeHeld, Dev.cfg_showBooks, Dev.cfg_portSwap, Dev.cfg_reedSwap, Dev.cfg_ringsSwap,
    Dev.cfg_swapBuckets, Dev.cfg_measureCommit, Dev.cfg_swapSlots, Dev.cfg_ledgBefore, Dev.modCfg_cfg]

end

end Sys2Proof.Machine
end

section
/-! PROOFS. How a commit ends, and when a retiring slot is free (R51, R52, R157, R159). -/
namespace Sys2Proof.Machine
open Sys2Proof

/-! ## What staging leaves (R157, R314) -/

/-- What is in force: the active set, its version, the version that retires, the Loom, and LOOM_COMMIT_STATUS. -/
structure InForce where
  active : CfgSet
  version : Nat
  retiringVersion : Option Nat
  loom : Loom
  status : Word

/-- What is in force in a device. -/
def Dev.inForce (d : Dev) : InForce := ⟨d.cfg.active, d.cfg.version, d.cfg.retiringVersion, d.loom, d.word 0xA00004⟩

section
variable (d : Dev)

@[simp] theorem Dev.inForce_set {f : Fld} (h : statusApart f = true) (v : Nat) : (d.set f v).inForce = d.inForce :=
  congrArg (InForce.mk _ _ _ _) (congrArg Steady.status (d.steady_set h v))
@[simp] theorem Dev.inForce_modCfg {f : Cfg → Cfg} (h : (f d.cfg).active = d.cfg.active ∧ (f d.cfg).version = d.cfg.version ∧
    (f d.cfg).retiringVersion = d.cfg.retiringVersion) : (d.modCfg f).inForce = d.inForce := by
  obtain ⟨hactive, hversion, hretiring⟩ := h
  simp only [Dev.inForce, Dev.modCfg_cfg, hactive, hversion, hretiring]
  rfl
@[simp] theorem Dev.inForce_modBoot (f : Boot → Boot) : (d.modBoot f).inForce = d.inForce := rfl
@[simp] theorem Dev.inForce_modHif (f : Hif → Hif) : (d.modHif f).inForce = d.inForce := rfl

@[simp] theorem Dev.inForce_foldl {α : Type} {f : Dev → α → Dev} (h : ∀ d a, (f d a).inForce = d.inForce) (l : List α) :
    (l.foldl f d).inForce = d.inForce := by
  induction l generalizing d with
  | nil => rfl
  | cons a t ih => exact (ih _).trans (h d a)

@[simp] theorem Dev.inForce_stage (a mask v : Nat) : (d.stage a mask v).inForce = d.inForce := Dev.inForce_set _ (by decide) 1

@[simp] theorem Dev.inForce_stageRec (tab i : Nat) (r : Option Rec) (log : List Byte) : (d.stageRec tab i r log).1.inForce = d.inForce := by
  have hfull : ∀ bit, statusApart ⟨0x500004, bit, 1⟩ = true := fun bit => by simp [statusApart]
  have hchanged : statusApart F.HED_SHADOW_STATUS_CHANGED = true := by decide
  cases r <;> simp only [Dev.stageRec, Option.map]
  all_goals repeat' split
  all_goals simp [hfull, hchanged]

@[simp] theorem Dev.inForce_releaseStage (inst : Nat) : (d.releaseStage inst).inForce = d.inForce := by
  simp [Dev.releaseStage]

@[simp] theorem Dev.inForce_releaseAll : d.releaseAll.inForce = d.inForce := by
  simp only [Dev.releaseAll]
  split <;> simp

/-- With no release due, a commit's end stages nothing. -/
theorem Dev.releaseAll_none {d : Dev} (h : d.hif.releaseDue = []) : d.releaseAll = d := by
  simp [Dev.releaseAll, h]

end

/-! ## The retiring slot (R157, R159) -/

section
variable {d : Dev}

/-- A slot that is still held is not freed. -/
theorem Dev.freeSlot_held (h : d.drained = false) : d.freeSlot = d := by
  simp [Dev.freeSlot, h]

/-- A device whose retiring slot is free. -/
def Dev.slotFreed (d : Dev) : Dev := (d.modCfg (fun c => { c with retiringVersion := none })).set F.HED_VERSION_RETIRING_LIVE 0

/-- A drained slot is freed, and RECLAIMING shows the dead records it leaves. -/
theorem Dev.freeSlot_eq (hr : d.cfg.retiringVersion.isSome = true) (h : d.drained = true) :
    d.freeSlot = if d.cfg.dead.isEmpty && d.cfg.gone.isEmpty then d.slotFreed else d.slotFreed.set F.HED_SHADOW_STATUS_RECLAIMING 1 := by
  simp only [Dev.freeSlot, Option.isNone_eq_false_iff.2 hr, h, Bool.not_true, Bool.or_false, Bool.false_eq_true, if_false]
  rfl

/-- Freeing a drained slot changes no more than the retiring version and the registers. -/
theorem Dev.freeSlot_drained (hr : d.cfg.retiringVersion.isSome = true) (h : d.drained = true) :
    ∃ b, d.freeSlot = { d with bus := b, cfg := { d.cfg with retiringVersion := none } } := by
  rw [Dev.freeSlot_eq hr h]
  split <;> exact ⟨_, rfl⟩

theorem Dev.freeSlot_reclaims (hr : d.cfg.retiringVersion.isSome = true) (h : d.drained = true) (hdead : d.cfg.dead ≠ [] ∨ d.cfg.gone ≠ []) :
    d.freeSlot.get F.HED_SHADOW_STATUS_RECLAIMING = 1 := by
  have hrecs : ¬ (d.cfg.dead.isEmpty && d.cfg.gone.isEmpty) = true := by
    rcases hdead with h | h <;> simp [h]
  rw [Dev.freeSlot_eq hr h, if_neg hrecs]
  exact Dev.get_set_self _ _ 1 (by decide)

/-! ## A commit that waits -/

theorem Dev.commitGoOn_none (h : d.loom.commit = none) : d.commitGoOn = d := by
  simp [Dev.commitGoOn, h]

/-- While a slot retires no waiting commit goes on. -/
theorem Dev.commitGoOn_held (h : d.cfg.retiringVersion.isSome = true) : d.commitGoOn = d := by
  unfold Dev.commitGoOn
  split <;> simp [h]

/-- A commit that waited swaps once the slot is free and nothing holds the swap. -/
theorem Dev.commitGoOn_swaps {c : CommitReq} (hc : d.loom.commit = some c) (hw : c.waiting = true) (hcap : c.capChanged = false)
    (hr : d.cfg.retiringVersion = none) (hs : d.swapHeld = false) : d.commitGoOn = d.commitSwap c.passed := by
  simp [Dev.commitGoOn, hc, hw, hcap, hr, hs]

/-- A commit that swaps ends DONE, with the shadow set and the results its checks gave in force. -/
theorem Dev.commitSwap_inForce (d : Dev) (l : List (Nat × Nat × Nat)) : (d.commitSwap l).cfg.active = d.cfg.shadow.admitted l ∧
    (d.commitSwap l).cfg.version = (d.cfg.version + 1) % 16 ∧ (d.commitSwap l).cfg.retiringVersion = some d.cfg.version ∧
    (d.commitSwap l).loom.commit = none ∧ (d.commitSwap l).get F.LOOM_COMMIT_STATUS_STATE = 2 := by
  have hdone : (d.commitSwap l).inForce = (((d.swapSet l).modLoom (fun x => { x with commit := none })).set F.LOOM_COMMIT_STATUS_STATE 2).inForce := by
    rw [Dev.commitSwap, Dev.commitDone, Dev.inForce_releaseAll]
  have hcfg := d.cfg_swapSet l
  generalize d.commitSwap l = e at hdone ⊢
  generalize d.swapSet l = f at hdone hcfg
  refine ⟨(congrArg InForce.active hdone).trans (congrArg Cfg.active hcfg), (congrArg InForce.version hdone).trans (congrArg Cfg.version hcfg),
    (congrArg InForce.retiringVersion hdone).trans (congrArg Cfg.retiringVersion hcfg), congrArg (fun x => x.loom.commit) hdone,
    (Dev.get_eq_of_word_eq (f := F.LOOM_COMMIT_STATUS_STATE) (by decide) (congrArg InForce.status hdone)).trans (Dev.get_set_self _ _ 2 (by decide))⟩

/-- A rejected commit shows its REASON and BOOK, and leaves the configuration. -/
theorem Dev.commitReject_shows {reason book : Nat} (env : Option Nat) (excess : Nat) (hdue : d.hif.releaseDue = []) (hreason : reason < 16)
    (hbook : book < 128) : (d.commitReject reason book env excess).get F.LOOM_COMMIT_STATUS_STATE = 3 ∧
    (d.commitReject reason book env excess).get F.LOOM_COMMIT_STATUS_REASON = reason ∧
    (d.commitReject reason book env excess).get F.LOOM_COMMIT_STATUS_BOOK = book ∧ (d.commitReject reason book env excess).cfg = d.cfg ∧
    (d.commitReject reason book env excess).loom.commit = none := by
  rw [Dev.commitReject, Dev.releaseAll_none (by exact hdue)]
  refine ⟨?_, ?_, ?_, rfl, rfl⟩
  all_goals
    rw [Dev.get_set_apart _ _ _ _ (by decide), Dev.get_set_apart _ _ _ _ (by decide), Dev.get_set_apart _ _ _ _ (by decide)]
  · rw [Dev.get_set_apart _ _ _ _ (by decide), Dev.get_set_apart _ _ _ _ (by decide), Dev.get_set_self _ _ _ (by decide)]
    rfl
  · rw [Dev.get_set_apart _ _ _ _ (by decide), Dev.get_set_self _ _ _ (by decide)]
    exact Nat.mod_eq_of_lt hreason
  · rw [Dev.get_set_self _ _ _ (by decide)]
    exact Nat.mod_eq_of_lt hbook

end

/-- A meaning that ends with its failed accesses handled and its pauses judged yields what holds of every device with its steady part. -/
theorem Yields.of_doneH_steady {c : Instr} {s : State} {P : Dev → Prop} (d : Dev) (h : exec c s = doneH s d) (p : ∀ e, e.steady = d.steady → P e) :
    Yields c s P := ⟨_, h, p _ (by simp)⟩

/-! ## The statement -/

section
variable {s : State} {c : CommitReq}

/-- Both commands let a commit that waited for the slot swap once the slot has drained (R51, R52). -/
theorem exec_waitingCommit_drained {i : Instr} (hdec : s.dev.deciding = true) (hi : i = .retiringSlotDrain ∨ i = .commitLimitExpire)
    (hc : s.dev.loom.commit = some c) (hw : c.waiting = true) (hcap : c.capChanged = false) (hs : s.dev.swapHeld = false)
    (hr : s.dev.cfg.retiringVersion.isSome = true) (h : s.dev.drained = true) : exec i s = doneH s (s.dev.freeSlot.commitSwap c.passed) := by
  obtain ⟨b, hfree⟩ := Dev.freeSlot_drained hr h
  have hswap : s.dev.freeSlot.commitGoOn = s.dev.freeSlot.commitSwap c.passed := by
    rw [hfree]
    exact Dev.commitGoOn_swaps hc hw hcap rfl hs
  rcases hi with rfl | rfl
  · exact congrArg (doneH s) hswap
  · have hnone : s.dev.freeSlot.cfg.retiringVersion = none := by rw [hfree]
    have hheld : s.dev.freeSlot.swapHeld = false := by rw [hfree]; exact hs
    change execCommitLimitExpire s = _
    simp [execCommitLimitExpire, hc, hdec, hw, hnone, hheld, hswap]

/-- At its limit, a commit whose slot is still held is refused with RETIRING_BUSY (R52). -/
theorem exec_commitLimitExpire_held (hdec : s.dev.deciding = true) (hc : s.dev.loom.commit = some c) (hw : c.waiting = true)
    (hr : s.dev.cfg.retiringVersion.isSome = true) (h : s.dev.drained = false) :
    exec .commitLimitExpire s = done s (s.dev.commitReject 8 127 none 0) := by
  change execCommitLimitExpire s = _
  simp [execCommitLimitExpire, hc, hdec, hw, Dev.freeSlot_held h, Option.isNone_eq_false_iff.2 hr]

end

/-- Settles O14: a drained slot lets the commit that waits swap at either command, a held one frees nothing and refuses the commit at its limit. -/
theorem waitingCommitsEndAtDrainOrLimit : Obligations.WaitingCommitsEndAtDrainOrLimit := by
  unfold Obligations.WaitingCommitsEndAtDrainOrLimit
  refine ⟨?swaps, ?refused, ?held, ?freed⟩
  case swaps =>
    intro s c i hdec hi hc hw hcap _ hs hr h
    refine Yields.of_doneH_steady _ (exec_waitingCommit_drained hdec hi hc hw hcap hs hr h) (fun e he => ?_)
    obtain ⟨b, hfree⟩ := Dev.freeSlot_drained hr h
    have hshown := s.dev.freeSlot.commitSwap_inForce c.passed
    rw [← Dev.cfg_of_steady he, ← Dev.loom_of_steady he, ← Dev.commitState_of_steady he, hfree] at hshown
    obtain ⟨hactive, hversion, hretiring, hcommit, hstate⟩ := hshown
    exact ⟨hstate, hversion, hactive, hretiring, hcommit⟩
  case refused =>
    intro s c hdec hc hw hdue hr h
    exact Yields.of _ (exec_commitLimitExpire_held hdec hc hw hr h) (Dev.commitReject_shows none 0 hdue (by decide) (by decide))
  case held =>
    intro s _ hr h
    refine Yields.of_doneH_steady s.dev ?_ (fun e he => ⟨Dev.cfg_of_steady he, Dev.loom_of_steady he⟩)
    change doneH s s.dev.freeSlot.commitGoOn = _
    rw [Dev.freeSlot_held h, Dev.commitGoOn_held hr]
  case freed =>
    intro s hq hc hr h
    obtain ⟨b, hfree⟩ := Dev.freeSlot_drained hr h
    have hend : s.dev.freeSlot.commitGoOn = s.dev.freeSlot := Dev.commitGoOn_none (by rw [hfree]; exact hc)
    refine Yields.of_doneH s.dev.freeSlot (congrArg (doneH s) hend) (by rw [hfree]; exact hq) (fun e he => ⟨?_, fun hdead => ?_⟩)
    · rw [← he.eq] at hfree
      exact congrArg Dev.cfg hfree
    · rw [he.get, Dev.freeSlot_reclaims hr h hdead]

end Sys2Proof.Machine
end

section
/-! PROOFS. The register fields that a frame on its way and a failed access never write: those of the ports and of the books' capacities among them.
Every step of theirs keeps them, as a lemma `unwritten_f` says for each function `f`, in the order of the model's units. -/
namespace Sys2Proof.Machine
open Sys2Proof

/-! ## The fields that frames do not write -/

/-- Whether the addresses from `lo` up to `hi` lie in one of the blocks of BAR0 in which frames and failed accesses write words: HIF, the feed groups,
Ledger up to the Loom's misses, the log of misses up to the rings, the packet buffer and the faults. -/
def inFrameBlock (lo hi : Nat) : Bool :=
  [(0x100000, 0x200000), (0x2F0000, 0x300000), (0x400000, 0xA01000), (0xA02000, 0xD00000), (0xF00000, 0x1100000)].any
    (fun b => decide (b.1 ≤ lo) && decide (hi ≤ b.2))

@[simp] theorem inFrameBlock_iff {lo hi : Nat} : inFrameBlock lo hi = true ↔ (0x100000 ≤ lo ∧ hi ≤ 0x200000) ∨ (0x2F0000 ≤ lo ∧ hi ≤ 0x300000) ∨
    (0x400000 ≤ lo ∧ hi ≤ 0xA01000) ∨ (0xA02000 ≤ lo ∧ hi ≤ 0xD00000) ∨ (0xF00000 ≤ lo ∧ hi ≤ 0x1100000) := by
  simp [inFrameBlock]

/-- A field that frames may write: one of those blocks, or the bit of a port's event register that a full PRP table raises. -/
def frameField (f : Fld) : Bool := inFrameBlock f.addr (f.addr + 8) || (f.addr % 0x10000 == 8 && f.lo == 3 && f.width == 1)

theorem frameField_of_block {f : Fld} (h : inFrameBlock f.addr (f.addr + 8) = true) : frameField f = true := by
  rw [frameField, h, Bool.true_or]

theorem frameField_prpFull (n : Nat) : frameField (F.PORT_EVENT_PRP_FULL n) = true := by
  have hplace : (0x200008 + 0x10000 * n) % 0x10000 = 8 := by omega
  simp [frameField, F.PORT_EVENT_PRP_FULL, hplace]

/-- A field that no frame writes, within one word: outside the blocks, and in a port's event register below the bit of a full PRP table. -/
def unwrittenField (g : Fld) : Bool :=
  decide (g.lo + g.width ≤ 32) && !inFrameBlock g.addr (g.addr + 1) && (g.addr % 0x10000 != 8 || decide (g.lo + g.width ≤ 3))

/-- The fields that no frame writes, as a device shows them. -/
def Dev.unwritten (d : Dev) (g : Fld) : Nat := if unwrittenField g then d.get g else 0

theorem Dev.unwritten_ext {d e : Dev} (h : ∀ g, unwrittenField g = true → e.get g = d.get g) : e.unwritten = d.unwritten := by
  funext g
  unfold Dev.unwritten
  split
  next hg => exact h g hg
  next => rfl

/-- A field that no frame writes, where the unwritten fields are the same. -/
theorem Dev.get_of_unwritten {d e : Dev} (h : e.unwritten = d.unwritten) {g : Fld} (hg : unwrittenField g = true) : e.get g = d.get g := by
  simpa [Dev.unwritten, hg] using congrFun h g

/-- The words outside the blocks are enough. -/
theorem Dev.unwritten_of_words {d e : Dev} (h : ∀ a, inFrameBlock a (a + 1) = false → e.word a = d.word a) : e.unwritten = d.unwritten := by
  refine Dev.unwritten_ext (fun g hg => ?_)
  simp only [unwrittenField, Bool.and_eq_true, decide_eq_true_eq, Bool.not_eq_true'] at hg
  obtain ⟨⟨hword, hout⟩, -⟩ := hg
  exact Dev.get_eq_of_word_eq hword (h _ hout)

/-- Steps that each keep the unwritten fields keep them together. -/
@[simp] theorem Dev.unwritten_foldl {α : Type} {f : Dev → α → Dev} (h : ∀ d a, (f d a).unwritten = d.unwritten) (d : Dev) (l : List α) :
    (l.foldl f d).unwritten = d.unwritten := by
  induction l generalizing d with
  | nil => rfl
  | cons a t ih => exact (ih _).trans (h d a)

/-- What Ledger and the fault block note lies in the blocks. -/
theorem Dev.NotedIn.unwritten {d e : Dev} {lo hi : Nat} (h : d.NotedIn lo hi e) : e.unwritten = d.unwritten := by
  refine Dev.unwritten_of_words (fun a ha => h.word a ?_)
  rw [← Bool.not_eq_true, inFrameBlock_iff] at ha
  unfold noteApart
  omega

section
variable (d : Dev)

@[simp] theorem Dev.unwritten_set {f : Fld} (h : frameField f = true) (v : Nat) : (d.set f v).unwritten = d.unwritten := by
  simp only [frameField, Bool.or_eq_true, Bool.and_eq_true, beq_iff_eq] at h
  rcases h with hblock | ⟨⟨haddr, hlo⟩, hwidth⟩
  · rw [inFrameBlock_iff] at hblock
    refine Dev.unwritten_of_words (fun a ha => d.word_set f v a ?_ (.inr ?_)) <;>
      · rw [← Bool.not_eq_true, inFrameBlock_iff] at ha
        omega
  · refine Dev.unwritten_ext (fun g hg => ?_)
    simp only [unwrittenField, Bool.and_eq_true, decide_eq_true_eq, Bool.or_eq_true, bne_iff_ne] at hg
    obtain ⟨⟨hword, -⟩, hplace⟩ := hg
    refine Dev.get_set_apart d f g v ?_
    simp only [Fld.apart, Bool.or_eq_true, Bool.and_eq_true, decide_eq_true_eq, bne_iff_ne]
    by_cases heq : f.addr = g.addr
    · exact .inl (.inr ⟨⟨by omega, hword⟩, by omega⟩)
    · exact .inl (.inr ⟨⟨by omega, hword⟩, .inl (.inl heq)⟩)
@[simp] theorem Dev.unwritten_raise {f : Fld} (h : frameField f = true) : (d.raise f).unwritten = d.unwritten := d.unwritten_set h 1
@[simp] theorem Dev.unwritten_count (k n : Nat) : (d.count k n).unwritten = d.unwritten := rfl
@[simp] theorem Dev.unwritten_modNet (f : Net → Net) : (d.modNet f).unwritten = d.unwritten := rfl
@[simp] theorem Dev.unwritten_ite (c : Prop) [Decidable c] (d e : Dev) : (if c then d else e).unwritten = if c then d.unwritten else e.unwritten :=
  apply_ite Dev.unwritten c d e

@[simp] theorem Dev.unwritten_emit (o : Out) : (d.emit o).unwritten = d.unwritten := rfl
@[simp] theorem Dev.unwritten_putShut (i : Nat) (s : Shut) : (d.putShut i s).unwritten = d.unwritten := rfl
@[simp] theorem Dev.unwritten_freeShut (i : Nat) : (d.freeShut i).unwritten = d.unwritten := rfl
@[simp] theorem Dev.unwritten_arrive (i : Nat) (s : Shut) (g : Stage) : (d.arrive i s g).unwritten = d.unwritten := rfl
@[simp] theorem Dev.unwritten_fresh : d.fresh.2.unwritten = d.unwritten := rfl
@[simp] theorem Dev.unwritten_modFwd (f : Fwd → Fwd) : (d.modFwd f).unwritten = d.unwritten := rfl
@[simp] theorem Dev.unwritten_modHif (f : Hif → Hif) : (d.modHif f).unwritten = d.unwritten := rfl
@[simp] theorem Dev.unwritten_modCiph (f : Ciph → Ciph) : (d.modCiph f).unwritten = d.unwritten := rfl
@[simp] theorem Dev.unwritten_modStor (f : Stor → Stor) : (d.modStor f).unwritten = d.unwritten := rfl
@[simp] theorem Dev.unwritten_modHed (f : Hed → Hed) : (d.modHed f).unwritten = d.unwritten := rfl
@[simp] theorem Dev.unwritten_modPort (n : Nat) (f : PortSt → PortSt) : (d.modPort n f).unwritten = d.unwritten := rfl
@[simp] theorem Dev.unwritten_modRing (r : Nat) (f : RingSt → RingSt) : (d.modRing r f).unwritten = d.unwritten := rfl
@[simp] theorem Dev.unwritten_unqueue (i : Nat) : (d.unqueue i).unwritten = d.unwritten := rfl
@[simp] theorem Dev.unwritten_present (n : Nat) (x : CrossItem) : (d.present n x).unwritten = d.unwritten := rfl
@[simp] theorem Dev.unwritten_chargeRate (a b : Nat) : (d.chargeRate a b).unwritten = d.unwritten := rfl

/-- An entry written to a log in the blocks. -/
@[simp] theorem Dev.unwritten_logPut {ix win words : Nat} (hix : inFrameBlock ix (ix + 4) = true)
    (hwin : inFrameBlock win (win + 4 * words * 256) = true) (entry : Nat) : (d.logPut ix win words entry).unwritten = d.unwritten := by
  rw [inFrameBlock_iff] at hix hwin
  refine Dev.unwritten_of_words (fun a ha => d.word_logPut ix win words entry ?_ ?_) <;>
    · rw [← Bool.not_eq_true, inFrameBlock_iff] at ha
      omega

@[simp] theorem Dev.unwritten_fault {c : Nat} (h : c < 32) (kind unit detail : Nat) : (d.fault c kind unit detail).unwritten = d.unwritten :=
  (Dev.notedIn_fault 0 0 d kind unit detail h).unwritten
@[simp] theorem Dev.unwritten_loseSlots (s cause n ns : Nat) : (d.loseSlots s cause n ns).unwritten = d.unwritten :=
  (d.notedFor_loseSlots s cause n ns).unwritten
@[simp] theorem Dev.unwritten_offerRecord (s n : Nat) (reserve : Bool) (ns : Nat) (mk : Nat → List Byte) :
    (d.offerRecord s n reserve ns mk).unwritten = d.unwritten := (d.notedFor_offerRecord s n reserve ns mk).unwritten
@[simp] theorem Dev.unwritten_health (source detail code : Nat) : (d.health source detail code).unwritten = d.unwritten :=
  (d.noted_health source detail code).unwritten

@[simp] theorem Dev.unwritten_modReed (f : Reed → Reed) : (d.modReed f).unwritten = d.unwritten := rfl

@[simp] theorem Dev.unwritten_wake (kind unit : Nat) : (d.wake kind unit).unwritten = d.unwritten := by
  unfold Dev.wake
  split <;> rfl

@[simp] theorem Dev.unwritten_modShut (i : Nat) (f : Shut → Shut) : (d.modShut i f).unwritten = d.unwritten := by
  unfold Dev.modShut
  split <;> rfl

@[simp] theorem Dev.unwritten_setStatus (i c : Nat) : (d.setStatus i c).unwritten = d.unwritten := by
  unfold Dev.setStatus
  split <;> rfl

end

end Sys2Proof.Machine
end

section
/-! PROOFS. Ledger's records, learning, and the host interface keep the fields that no frame writes. -/
namespace Sys2Proof.Machine
open Sys2Proof

section
variable (d : Dev)

/-! ## Records and learning (R120, R178) -/

@[simp] theorem Dev.unwritten_offerFrame (st n ns : Nat) (hash : Bool) (b : List Byte) : (d.offerFrame st n ns hash b).unwritten = d.unwritten := by
  unfold Dev.offerFrame
  split
  · exact d.unwritten_wake 4 0
  · simp

@[simp] theorem Dev.unwritten_missFlush (i : Nat) : (d.missFlush i).unwritten = d.unwritten := by
  unfold Dev.missFlush
  repeat' split
  all_goals simp (disch := decide)

@[simp] theorem Dev.unwritten_frameRecord (s : Shut) (stamp : StampAt) (port dir key : Nat) (bytes : List Byte) (fcs : Nat) (ext : Bool) :
    (d.frameRecord s stamp port dir key bytes fcs ext).unwritten = d.unwritten := by
  simp [Dev.frameRecord]

@[simp] theorem Dev.unwritten_takeIngress (i : Nat) (s : Shut) : (d.takeIngress i s).unwritten = d.unwritten := by
  simp [Dev.takeIngress]

@[simp] theorem Dev.unwritten_queueLearn (q : LearnReq) : (d.queueLearn q).unwritten = d.unwritten := by
  simp (disch := decide) [Dev.queueLearn]

@[simp] theorem Dev.unwritten_releaseLearn (i : Nat) : (d.releaseLearn i).unwritten = d.unwritten := by
  unfold Dev.releaseLearn
  repeat' split
  all_goals simp (disch := decide)

@[simp] theorem Dev.unwritten_disposal (s : Shut) (reason : Nat) : (d.disposal s reason).unwritten = d.unwritten := by
  simp [Dev.disposal]

/-! ## Requests to the host (R295 to R304) -/

@[simp] theorem Dev.unwritten_sendRead (op : HostOp) (addr : Nat) : (d.sendRead op addr).unwritten = d.unwritten := rfl

@[simp] theorem Dev.unwritten_walkOp (op : HostOp) : (d.walkOp op).1.unwritten = d.unwritten := by
  unfold Dev.walkOp
  split <;> rfl

@[simp] theorem Dev.unwritten_modMovReq (chan id : Nat) (f : MovReq → MovReq) : (d.modMovReq chan id f).unwritten = d.unwritten := rfl

@[simp] theorem Dev.unwritten_opDropped (op : HostOp) : (d.opDropped op).unwritten = d.unwritten := by
  unfold Dev.opDropped
  split <;> rfl

@[simp] theorem Dev.unwritten_touchXl (inst iova : Nat) : (d.touchXl inst iova).unwritten = d.unwritten := rfl

theorem Dev.unwritten_logDirtyIn (inst iova len : Nat) {k : Nat} (hk : k < 4) : (d.logDirtyIn inst iova len k).unwritten = d.unwritten := by
  have hslot : frameField (F.HIF_DIRTY_CFG_OVERFLOW k) = true :=
    frameField_of_block (by rw [inFrameBlock_iff]; dsimp only [F.HIF_DIRTY_CFG_OVERFLOW]; omega)
  simp only [Dev.logDirtyIn]
  repeat' split
  all_goals simp (disch := first | exact hslot | decide)

@[simp] theorem Dev.unwritten_logDirty (inst iova len : Nat) : (d.logDirty inst iova len).unwritten = d.unwritten := by
  simp only [Dev.logDirty, List.foldl_cons, List.foldl_nil]
  rw [Dev.unwritten_logDirtyIn _ _ _ _ (by decide), Dev.unwritten_logDirtyIn _ _ _ _ (by decide), Dev.unwritten_logDirtyIn _ _ _ _ (by decide),
    Dev.unwritten_logDirtyIn _ _ _ _ (by decide)]

@[simp] theorem Dev.unwritten_issue (op : HostOp) (addr : Nat) : (d.issue op addr).unwritten = d.unwritten := by
  simp [Dev.issue]

@[simp] theorem Dev.unwritten_walkRead (inst page addr : Nat) : (d.walkRead inst page addr).unwritten = d.unwritten := by
  simp [Dev.walkRead]

@[simp] theorem Dev.unwritten_walkFirst (inst page : Nat) : (d.walkFirst inst page).unwritten = d.unwritten := by
  simp [Dev.walkFirst]

@[simp] theorem Dev.unwritten_beginWalk (inst page : Nat) (pin : Bool) : (d.beginWalk inst page pin).unwritten = d.unwritten := by
  simp [Dev.beginWalk]

@[simp] theorem Dev.unwritten_startWalk (inst iova : Nat) (guar : Bool) : (d.startWalk inst iova guar).unwritten = d.unwritten := by
  simp [Dev.startWalk]

@[simp] theorem Dev.unwritten_xlateFault (inst iova reason : Nat) (write : Bool) : (d.xlateFault inst iova reason write).unwritten = d.unwritten := by
  simp (disch := decide) [Dev.xlateFault]

@[simp] theorem Dev.unwritten_tryOp (op : HostOp) : (d.tryOp op).1.unwritten = d.unwritten := by
  unfold Dev.tryOp
  repeat' split
  all_goals simp (disch := decide)

@[simp] theorem Dev.unwritten_hostOp (op : HostOp) : (d.hostOp op).unwritten = d.unwritten := by
  simp [Dev.hostOp]

@[simp] theorem Dev.unwritten_dmaWriteN (inst : Nat) (use : Use) (n iova : Nat) (b : List Byte) (bad : List (Nat × Nat)) :
    (d.dmaWriteN inst use n iova b bad).unwritten = d.unwritten := by
  induction n generalizing d iova b bad with
  | zero => rfl
  | succ n ih => simp [Dev.dmaWriteN, ih]

@[simp] theorem Dev.unwritten_dmaWrite (inst iova : Nat) (b : List Byte) (use : Use) (bad : List (Nat × Nat)) :
    (d.dmaWrite inst iova b use bad).unwritten = d.unwritten := by
  simp [Dev.dmaWrite]

@[simp] theorem Dev.unwritten_dmaReadN (inst : Nat) (guar : Bool) (n iova len : Nat) (use : Use) :
    (d.dmaReadN inst guar n iova len use).unwritten = d.unwritten := by
  induction n generalizing d iova len use with
  | zero => rfl
  | succ n ih => simp [Dev.dmaReadN, ih]

@[simp] theorem Dev.unwritten_dmaRead (inst iova len : Nat) (use : Use) (guar : Bool) : (d.dmaRead inst iova len use guar).unwritten = d.unwritten := by
  simp [Dev.dmaRead]

@[simp] theorem Dev.unwritten_walkPages (inst iova n : Nat) (guar : Bool) : (d.walkPages inst iova n guar).unwritten = d.unwritten := by
  refine Dev.unwritten_foldl (fun d k => ?_) d _
  dsimp only
  split <;> simp

/-! ## Rings, completions and interrupts (R317 to R338) -/

@[simp] theorem Dev.unwritten_clearOwn (r index n : Nat) : (d.clearOwn r index n).unwritten = d.unwritten := by
  induction n generalizing d index with
  | zero => rfl
  | succ n ih => simp [Dev.clearOwn, ih]

@[simp] theorem Dev.unwritten_cplEntry (c pos v : Nat) : (d.cplEntry c pos v).unwritten = d.unwritten := by
  simp [Dev.cplEntry]

@[simp] theorem Dev.unwritten_sendMsix (c : Nat) : (d.sendMsix c).unwritten = d.unwritten := by
  simp [Dev.sendMsix]

@[simp] theorem Dev.unwritten_evalMsix (c : Nat) : (d.evalMsix c).unwritten = d.unwritten := by
  simp [Dev.evalMsix]

@[simp] theorem Dev.unwritten_writeCpl (pos : Nat) (x : Cpl) : (d.writeCpl pos x).unwritten = d.unwritten := by
  simp [Dev.writeCpl]

@[simp] theorem Dev.unwritten_writeMirror (r : Nat) : (d.writeMirror r).unwritten = d.unwritten := by
  simp [Dev.writeMirror]

@[simp] theorem Dev.unwritten_ringSettle (r : Nat) : (d.ringSettle r).unwritten = d.unwritten := by
  simp [Dev.ringSettle]

@[simp] theorem Dev.unwritten_txComplete (i : Nat) : (d.txComplete i).unwritten = d.unwritten := by
  unfold Dev.txComplete
  repeat' split
  all_goals simp (disch := decide)

@[simp] theorem Dev.unwritten_rxComplete (i : Nat) : (d.rxComplete i).unwritten = d.unwritten := by
  unfold Dev.rxComplete
  repeat' split
  all_goals simp (disch := decide)

@[simp] theorem Dev.unwritten_ringErrorOne (r cause : Nat) : (d.ringErrorOne r cause).unwritten = d.unwritten := by
  simp (disch := decide) [Dev.ringErrorOne]

@[simp] theorem Dev.unwritten_ringError (r cause : Nat) : (d.ringError r cause).unwritten = d.unwritten := by
  simp [Dev.ringError]

end

end Sys2Proof.Machine
end

section
/-! PROOFS. The end of a shuttle, the cipher lanes and the ways out of a pipeline keep the fields that no frame writes. -/
namespace Sys2Proof.Machine
open Sys2Proof

section
variable (d : Dev)

/-! ## A shuttle that ends (R200, R333) -/

@[simp] theorem Dev.unwritten_ciphLog (sa kind : Nat) : (d.ciphLog sa kind).unwritten = d.unwritten := by
  simp [Dev.ciphLog]

@[simp] theorem Dev.unwritten_freeSa (k : Nat) : (d.freeSa k).unwritten = d.unwritten := by
  unfold Dev.freeSa
  split <;> simp (disch := decide)

@[simp] theorem Dev.unwritten_releaseSa (i : Nat) : (d.releaseSa i).unwritten = d.unwritten := by
  simp only [Dev.releaseSa]
  repeat' split
  all_goals simp (disch := decide)

@[simp] theorem Dev.unwritten_finishOne (i reason : Nat) : (d.finishOne i reason).unwritten = d.unwritten := by
  simp only [Dev.finishOne]
  repeat' split
  all_goals simp (disch := decide)

@[simp] theorem Dev.unwritten_finish (i reason : Nat) : (d.finish i reason).unwritten = d.unwritten := by
  simp only [Dev.finish]
  repeat' split
  all_goals simp (disch := decide)

@[simp] theorem Dev.unwritten_discard (i reason : Nat) : (d.discard i reason).unwritten = d.unwritten := by
  unfold Dev.discard
  split <;> simp

@[simp] theorem Dev.unwritten_stompOrDrop (i reason : Nat) : (d.stompOrDrop i reason).unwritten = d.unwritten := by
  unfold Dev.stompOrDrop
  split <;> simp

/-! ## Deadline misses (R56 to R58) -/

@[simp] theorem Dev.unwritten_missRecord (i : Nat) (s : Shut) (cause late : Nat) : (d.missRecord i s cause late).unwritten = d.unwritten := by
  simp [Dev.missRecord]

@[simp] theorem Dev.unwritten_declareMiss (i : Nat) (s : Shut) (cause late : Nat) : (d.declareMiss i s cause late).unwritten = d.unwritten := by
  simp (disch := decide) [Dev.declareMiss]

@[simp] theorem Dev.unwritten_loseClass (i cause : Nat) : (d.loseClass i cause).unwritten = d.unwritten := by
  unfold Dev.loseClass
  split <;> simp

@[simp] theorem Dev.unwritten_discardMiss (i reason cause : Nat) : (d.discardMiss i reason cause).unwritten = d.unwritten := by
  unfold Dev.discardMiss
  split <;> simp

/-! ## The cipher lanes (R190 to R216) -/

@[simp] theorem Dev.unwritten_putSa (k : Nat) (a : Sa) : (d.putSa k a).unwritten = d.unwritten := rfl

@[simp] theorem Dev.unwritten_takeValue (k v : Nat) : (d.takeValue k v).unwritten = d.unwritten := by
  unfold Dev.takeValue
  split <;> simp (disch := decide)

@[simp] theorem Dev.unwritten_laneOut (i : Nat) (f : List Byte) (good : Bool) : (d.laneOut i f good).unwritten = d.unwritten := by
  simp [Dev.laneOut]

@[simp] theorem Dev.unwritten_sealXts (i : Nat) (w : XtsItem) : (d.sealXts i w).unwritten = d.unwritten := by
  unfold Dev.sealXts
  split <;> simp

@[simp] theorem Dev.unwritten_tlsOut (i k : Nat) (s : Shut) (a : Sa) (p : Parsed) : (d.tlsOut i k s a p).unwritten = d.unwritten := by
  simp [Dev.tlsOut]

@[simp] theorem Dev.unwritten_notApplied (i : Nat) : (d.notApplied i).unwritten = d.unwritten := by
  simp [Dev.notApplied]

@[simp] theorem Dev.unwritten_tlsIn (i k : Nat) (s : Shut) (a : Sa) (p : Parsed) : (d.tlsIn i k s a p).unwritten = d.unwritten := by
  simp [Dev.tlsIn]

@[simp] theorem Dev.unwritten_laneTransform (i : Nat) : (d.laneTransform i).unwritten = d.unwritten := by
  simp only [Dev.laneTransform]
  repeat' split
  all_goals simp

@[simp] theorem Dev.unwritten_crossPump (island : Nat) : (d.crossPump island).unwritten = d.unwritten := by
  unfold Dev.crossPump
  repeat' split
  all_goals simp (disch := decide)

@[simp] theorem Dev.unwritten_toProgram (i : Nat) (s : Shut) : (d.toProgram i s).unwritten = d.unwritten := by
  simp [Dev.toProgram]

/-! ## Tunnels (R193 to R196) -/

@[simp] theorem Dev.unwritten_decap (i : Nat) (p : Parsed) : (d.decap i p).unwritten = d.unwritten := by
  unfold Dev.decap
  split <;> simp

@[simp] theorem Dev.unwritten_growthAt (i len : Nat) : (d.growthAt i len).unwritten = d.unwritten := by
  unfold Dev.growthAt
  split <;> simp

@[simp] theorem Dev.unwritten_checkGrowth (i : Nat) : (d.checkGrowth i).unwritten = d.unwritten := by
  simp [Dev.checkGrowth]

@[simp] theorem Dev.unwritten_encap (i charge : Nat) : (d.encap i charge).unwritten = d.unwritten := by
  unfold Dev.encap
  split <;> simp

@[simp] theorem Dev.unwritten_saMismatch (i : Nat) : (d.saMismatch i).unwritten = d.unwritten := by
  simp [Dev.saMismatch]

@[simp] theorem Dev.unwritten_laneArrive (i : Nat) : (d.laneArrive i).unwritten = d.unwritten := by
  simp only [Dev.laneArrive]
  repeat' split
  all_goals simp (disch := decide)

end

end Sys2Proof.Machine
end

section
/-! PROOFS. The last pass, what leaves a port, and what a frame's end judges keep the fields that no frame writes. -/
namespace Sys2Proof.Machine
open Sys2Proof

section
variable (d : Dev)

/-! ## Copies, storage digests and the way to Reed (R77, R229) -/

@[simp] theorem Dev.unwritten_putAb (g : Nat) (x : AbGroup) : (d.putAb g x).unwritten = d.unwritten := rfl

@[simp] theorem Dev.unwritten_prpTail (i : Nat) : (d.prpTail i).unwritten = d.unwritten := by
  unfold Dev.prpTail
  repeat' split
  all_goals simp (disch := decide)

@[simp] theorem Dev.unwritten_prpDuplicate (i : Nat) : (d.prpDuplicate i).1.unwritten = d.unwritten := by
  unfold Dev.prpDuplicate
  repeat' split
  · rfl
  · rfl
  · simp only [Dev.unwritten_prpTail, Dev.unwritten_putShut]
    rfl

@[simp] theorem Dev.unwritten_putCtx (k : Nat) (c : StorCtx) : (d.putCtx k c).unwritten = d.unwritten := rfl

@[simp] theorem Dev.unwritten_storDigests (i k : Nat) (l : List (Nat × Nat × Option Nat)) : (d.storDigests i k l).unwritten = d.unwritten := by
  induction l generalizing d with
  | nil => rfl
  | cons p t ih =>
    unfold Dev.storDigests
    repeat' split
    all_goals simp [ih]

@[simp] theorem Dev.unwritten_writeBack (inst : Nat) (l : List (Nat × Nat)) (b : List Byte) : (d.writeBack inst l b).unwritten = d.unwritten := by
  induction l generalizing d b with
  | nil => rfl
  | cons p t ih => simp [Dev.writeBack, ih]

@[simp] theorem Dev.unwritten_storTxEnd (i : Nat) : (d.storTxEnd i).unwritten = d.unwritten := by
  simp only [Dev.storTxEnd]
  repeat' split
  all_goals simp (disch := decide)

@[simp] theorem Dev.unwritten_ownerFields (i : Nat) : (d.ownerFields i).unwritten = d.unwritten := by
  simp [Dev.ownerFields]

@[simp] theorem Dev.unwritten_ptpMarks (i : Nat) : (d.ptpMarks i).unwritten = d.unwritten := by
  simp [Dev.ptpMarks]

@[simp] theorem Dev.unwritten_toReed (i : Nat) : (d.toReed i).unwritten = d.unwritten := by
  simp only [Dev.toReed]
  split
  · rfl
  · split
    · simp
    · rw [Dev.unwritten_foldl]
      · simp
      · intro d j
        split <;> simp

@[simp] theorem Dev.unwritten_lastPassEnd (i : Nat) : (d.lastPassEnd i).unwritten = d.unwritten := by
  simp only [Dev.lastPassEnd]
  repeat' split
  all_goals simp (disch := decide)

@[simp] theorem Dev.unwritten_leavePipe (i : Nat) (s : Shut) : (d.leavePipe i s).unwritten = d.unwritten := by
  simp [Dev.leavePipe]

@[simp] theorem Dev.unwritten_passEnd (i : Nat) : (d.passEnd i).unwritten = d.unwritten := by
  simp only [Dev.passEnd]
  repeat' split
  all_goals simp (disch := decide)

@[simp] theorem Dev.unwritten_afterCipher (i : Nat) : (d.afterCipher i).unwritten = d.unwritten := by
  unfold Dev.afterCipher
  split <;> simp

@[simp] theorem Dev.unwritten_laneOn (i : Nat) : (d.laneOn i).unwritten = d.unwritten := by
  simp only [Dev.laneOn]
  repeat' split
  all_goals simp (disch := decide)

@[simp] theorem Dev.unwritten_laneEnd (i : Nat) : (d.laneEnd i).unwritten = d.unwritten := by
  unfold Dev.laneEnd
  split <;> simp

@[simp] theorem Dev.unwritten_copiesEnd (copies : List Nat) (i : Nat) : (d.copiesEnd copies i).unwritten = d.unwritten := by
  unfold Dev.copiesEnd
  split <;> simp

/-! ## What leaves a port, and the charge it gives back (R72, R74, R243) -/

@[simp] theorem Dev.unwritten_takeEgress (s : Shut) (stamp : StampAt) (port : Nat) (bytes : List Byte) (fcs : Nat) :
    (d.takeEgress s stamp port bytes fcs).unwritten = d.unwritten := by
  simp [Dev.takeEgress]

@[simp] theorem Dev.unwritten_decay (s : Shut) (port : Nat) : (d.decay s port).unwritten = d.unwritten := by
  unfold Dev.decay
  split <;> simp

@[simp] theorem Dev.unwritten_departEnd (i : Nat) : (d.departEnd i).unwritten = d.unwritten := by
  unfold Dev.departEnd
  repeat' split
  all_goals simp (disch := decide)

@[simp] theorem Dev.unwritten_countBytes (p : Nat) (committed : Bool) (s : Shut) : (d.countBytes p committed s).unwritten = d.unwritten := rfl

@[simp] theorem Dev.unwritten_chargeBits (p k : Nat) (committed : Bool) (bits : Int) : (d.chargeBits p k committed bits).unwritten = d.unwritten := rfl

@[simp] theorem Dev.unwritten_refund (i : Nat) : (d.refund i).unwritten = d.unwritten := by
  unfold Dev.refund
  repeat' split
  all_goals simp (disch := decide)

/-! ## Redundant feeds (R78, R80) -/

@[simp] theorem Dev.unwritten_abGapLost (g : Nat) (gap : Nat × Nat) : (d.abGapLost g gap).unwritten = d.unwritten := by
  simp (disch := decide) [Dev.abGapLost, Dev.abLog]

@[simp] theorem Dev.unwritten_abTrim (g n : Nat) : (d.abTrim g n).unwritten = d.unwritten := by
  induction n generalizing d with
  | zero => rfl
  | succ n ih =>
    simp only [Dev.abTrim]
    split <;> simp [ih]

@[simp] theorem Dev.unwritten_abUnmark (g seq : Nat) : (d.abUnmark g seq).unwritten = d.unwritten := by
  simp [Dev.abUnmark]

@[simp] theorem Dev.unwritten_abAtEnd (i : Nat) : (d.abAtEnd i).unwritten = d.unwritten := by
  unfold Dev.abAtEnd
  repeat' split
  all_goals simp (disch := decide)

@[simp] theorem Dev.unwritten_prpJudge (s : Shut) : (d.prpJudge s).1.unwritten = d.unwritten := by
  simp only [Dev.prpJudge]
  repeat' split
  all_goals simp [frameField_prpFull]

@[simp] theorem Dev.unwritten_prpAtEnd (i : Nat) : (d.prpAtEnd i).unwritten = d.unwritten := by
  unfold Dev.prpAtEnd
  split
  · rfl
  next s _ =>
    have hjudge := d.unwritten_prpJudge s
    split
    · rfl
    · split <;> simp_all

/-! ## What a frame's end judges (R141, R152 to R154) -/

@[simp] theorem Dev.unwritten_ipLenDrop (i : Nat) : (d.ipLenDrop i).unwritten = d.unwritten := by
  unfold Dev.ipLenDrop
  split <;> simp

@[simp] theorem Dev.unwritten_ipLenAtEnd (i : Nat) : (d.ipLenAtEnd i).unwritten = d.unwritten := by
  unfold Dev.ipLenAtEnd
  split <;> simp

@[simp] theorem Dev.unwritten_setDeadline (i : Nat) : (d.setDeadline i).unwritten = d.unwritten := by
  unfold Dev.setDeadline
  repeat' split
  all_goals simp (disch := decide)

@[simp] theorem Dev.unwritten_ingressAtEnd (i : Nat) : (d.ingressAtEnd i).unwritten = d.unwritten := by
  unfold Dev.ingressAtEnd
  split <;> simp

@[simp] theorem Dev.unwritten_policerDrop (i k : Nat) : (d.policerDrop i k).unwritten = d.unwritten := by
  simp [Dev.policerDrop]

@[simp] theorem Dev.unwritten_policeGeneral (i k charge : Nat) : (d.policeGeneral i k charge).unwritten = d.unwritten := by
  unfold Dev.policeGeneral
  split <;> simp

@[simp] theorem Dev.unwritten_policeEnv (i e charge : Nat) : (d.policeEnv i e charge).unwritten = d.unwritten := by
  unfold Dev.policeEnv
  split <;> simp

@[simp] theorem Dev.unwritten_policeWith (i charge : Nat) : (d.policeWith i charge).unwritten = d.unwritten := by
  unfold Dev.policeWith
  repeat' split
  all_goals simp (disch := decide)

@[simp] theorem Dev.unwritten_policeAtEnd (i : Nat) : (d.policeAtEnd i).unwritten = d.unwritten := by
  unfold Dev.policeAtEnd
  split <;> simp

@[simp] theorem Dev.unwritten_heldAtEnd (i : Nat) : (d.heldAtEnd i).unwritten = d.unwritten := by
  unfold Dev.heldAtEnd
  split <;> simp

@[simp] theorem Dev.unwritten_tunnelEnd (i : Nat) : (d.tunnelEnd i).unwritten = d.unwritten := by
  simp only [Dev.tunnelEnd]
  repeat' split
  all_goals simp (disch := decide)

/-! ## Frames to the host (R336) -/

@[simp] theorem Dev.unwritten_hostLate (i : Nat) : (d.hostLate i).unwritten = d.unwritten := by
  unfold Dev.hostLate
  split <;> simp

@[simp] theorem Dev.unwritten_rxWrite (s : Shut) (i from_ n : Nat) (b : List Byte) (bad : List (Nat × Nat)) :
    (d.rxWrite s i from_ n b bad).unwritten = d.unwritten := by
  simp [Dev.rxWrite]

@[simp] theorem Dev.unwritten_hostDone (i : Nat) : (d.hostDone i).unwritten = d.unwritten := by
  unfold Dev.hostDone
  split <;> simp

@[simp] theorem Dev.unwritten_hostRelease (i : Nat) (s : Shut) : (d.hostRelease i s).unwritten = d.unwritten := by
  simp only [Dev.hostRelease]
  split <;> simp (disch := decide)

@[simp] theorem Dev.unwritten_hostEnd (i : Nat) : (d.hostEnd i).unwritten = d.unwritten := by
  unfold Dev.hostEnd
  split <;> simp

end

end Sys2Proof.Machine
end

section
/-! PROOFS. The storage offload, a frame's end and the handling of a failed access keep the fields that no frame writes. -/
namespace Sys2Proof.Machine
open Sys2Proof

section
variable (d : Dev)

/-! ## The storage offload (R222 to R229) -/

@[simp] theorem Dev.unwritten_afterStor (i : Nat) : (d.afterStor i).unwritten = d.unwritten := by
  unfold Dev.afterStor
  split <;> simp

@[simp] theorem Dev.unwritten_putCid (k : Nat) (e : CidEntry) : (d.putCid k e).unwritten = d.unwritten := rfl

@[simp] theorem Dev.unwritten_loseHeld (k : Nat) : (d.loseHeld k).unwritten = d.unwritten := by
  exact Dev.unwritten_foldl (fun d _ => by rw [Dev.unwritten_count, Dev.unwritten_putCid]) d _

@[simp] theorem Dev.unwritten_syncLost : d.syncLost.unwritten = d.unwritten := by
  simp (disch := decide) [Dev.syncLost]

@[simp] theorem Dev.unwritten_clearSync (k : Nat) (counted : Bool) : (d.clearSync k counted).unwritten = d.unwritten := by
  unfold Dev.clearSync
  split <;> simp

@[simp] theorem Dev.unwritten_fetchCid (c : StorCtx) (key : Nat) : (d.fetchCid c key).unwritten = d.unwritten := by
  simp [Dev.fetchCid]

@[simp] theorem Dev.unwritten_storTxStep (i n : Nat) : (d.storTxStep i n).1.unwritten = d.unwritten := by
  induction n generalizing d with
  | zero => rfl
  | succ n ih =>
    unfold Dev.storTxStep
    repeat' split
    all_goals simp (disch := decide) [ih]

@[simp] theorem Dev.unwritten_notPlaced (i : Nat) : (d.notPlaced i).unwritten = d.unwritten := by
  simp [Dev.notPlaced]

@[simp] theorem Dev.unwritten_placeFault (i key : Nat) : (d.placeFault i key).unwritten = d.unwritten := by
  unfold Dev.placeFault
  split <;> simp

@[simp] theorem Dev.unwritten_placeNow (i key inst : Nat) (e : CidEntry) (off : Nat) (b : List Byte) : (d.placeNow i key inst e off b).unwritten = d.unwritten := by
  simp [Dev.placeNow]

theorem Dev.unwritten_placeRun {i key inst : Nat} {e : CidEntry} {off : Nat} {b : List Byte} {r : Dev × Bool}
    (h : d.placeRun i key inst e off b = some r) : r.1.unwritten = d.unwritten := by
  simp only [Dev.placeRun] at h
  split at h
  · cases h
  · cases h
    simp
  · cases h
    simp

theorem Dev.unwritten_placeItem {i : Nat} {c : StorCtx} {e : CidEntry} {it : StorItem} {f : Dev} (h : d.placeItem i c e it = some f) :
    f.unwritten = d.unwritten := by
  obtain ⟨r, hr, rfl⟩ := Option.map_eq_some_iff.1 h
  have hrun := d.unwritten_placeRun hr
  split
  · rw [Dev.unwritten_modShut, hrun]
  · exact hrun

theorem Dev.unwritten_storData {i : Nat} {c : StorCtx} {it : StorItem} {f : Dev} (h : d.storData i c it = some f) : f.unwritten = d.unwritten := by
  unfold Dev.storData at h
  split at h
  · cases h
    simp
  · split at h
    · split at h
      · exact absurd h (by simp)
      · split at h
        · cases h
          simp
        · split at h
          · cases h
            simp (disch := decide)
          · exact absurd h (by simp)
    · split at h
      · cases h
        simp
      · split at h
        · cases h
          simp
        · split at h
          · split at h
            · cases h
              simp (disch := decide)
            · cases h
              simp
          · exact d.unwritten_placeItem h

theorem Dev.unwritten_behindXts (i : Nat) (it : StorItem) {now : Dev} (h : now.unwritten = d.unwritten) : (d.behindXts i it now).unwritten = d.unwritten := by
  simp [Dev.behindXts, h]

theorem Dev.unwritten_storItem {i : Nat} {c : StorCtx} {it : StorItem} {f : Dev} (h : d.storItem i c it = some f) : f.unwritten = d.unwritten := by
  unfold Dev.storItem at h
  split at h
  · exact d.unwritten_storData h
  · cases h
    exact d.unwritten_behindXts i it (by simp)
  · cases h
    exact d.unwritten_behindXts i it (by simp)
  · split at h
    · cases h
      simp
    · split at h
      · cases h
        simp
      · exact d.unwritten_placeItem h

@[simp] theorem Dev.unwritten_walkRun (inst : Nat) (e : CidEntry) (it : StorItem) : (d.walkRun inst e it).unwritten = d.unwritten := by
  simp [Dev.walkRun]

@[simp] theorem Dev.unwritten_storRxStep (i n : Nat) : (d.storRxStep i n).1.unwritten = d.unwritten := by
  induction n generalizing d with
  | zero => rfl
  | succ n ih =>
    unfold Dev.storRxStep
    split
    · rfl
    · split
      · rfl
      · simp
      · split
        next e he => simp [ih, d.unwritten_storItem he]
        next => split <;> simp

@[simp] theorem Dev.unwritten_storStep (i : Nat) : (d.storStep i).1.unwritten = d.unwritten := by
  unfold Dev.storStep
  repeat' split
  all_goals simp (disch := decide)

@[simp] theorem Dev.unwritten_storGo (i : Nat) : (d.storGo i).unwritten = d.unwritten := by
  simp [Dev.storGo]

@[simp] theorem Dev.unwritten_storRx (i k : Nat) (c : StorCtx) (p : Parsed) : (d.storRx i k c p).unwritten = d.unwritten := by
  have hdata : ∀ e : Dev, (e.raise F.STOR_EVENT_DDGST_BAD).unwritten = e.unwritten := fun e => e.unwritten_raise (by decide)
  have hhead : ∀ e : Dev, (e.raise F.STOR_EVENT_HDGST_BAD).unwritten = e.unwritten := fun e => e.unwritten_raise (by decide)
  unfold Dev.storRx
  split <;> simp [hdata, hhead]

@[simp] theorem Dev.unwritten_storTx (i k : Nat) (c : StorCtx) (p : Parsed) : (d.storTx i k c p).unwritten = d.unwritten := by
  unfold Dev.storTx
  split <;> simp

@[simp] theorem Dev.unwritten_storEnter (i : Nat) : (d.storEnter i).unwritten = d.unwritten := by
  simp only [Dev.storEnter]
  repeat' split
  all_goals simp (disch := decide)

@[simp] theorem Dev.unwritten_storAtEnd (i : Nat) : (d.storAtEnd i).unwritten = d.unwritten := by
  unfold Dev.storAtEnd
  split <;> simp

/-! ## The end of a frame (R64, R69) -/

@[simp] theorem Dev.unwritten_frameEnded (i : Nat) : (d.frameEnded i).unwritten = d.unwritten := by
  unfold Dev.frameEnded
  split
  · rfl
  · split
    · rfl
    · extract_lets copies d0 dropped1 dropped2 d1 d2 d3 d4 d5 d6
      have h0 : d0.unwritten = d.unwritten := rfl
      split
      · simp [dropped2, dropped1, h0]
      · have h4 : d4.unwritten = d.unwritten := by simp [d4, d3, d2, d1, h0]
        have h5 : d5.unwritten = d4.unwritten := by
          dsimp only [d5]
          split <;> simp
        simp [d6, h5, h4]

/-! ## The forwarding stage and the exception list (R149, R167 to R184) -/

@[simp] theorem Dev.unwritten_excDiscard (i reason : Nat) : (d.excDiscard i reason).unwritten = d.unwritten := by
  unfold Dev.excDiscard
  split <;> simp

@[simp] theorem Dev.unwritten_applyExc (i ptr resume : Nat) : (d.applyExc i ptr resume).1.unwritten = d.unwritten := by
  simp only [Dev.applyExc]
  repeat' split
  all_goals simp (disch := decide)

@[simp] theorem Dev.unwritten_putFwd (i : Nat) (e : FwdEntry) : (d.putFwd i e).unwritten = d.unwritten := rfl

@[simp] theorem Dev.unwritten_refresh (i : Nat) (counted : Bool) : (d.refresh i counted).unwritten = d.unwritten := by
  unfold Dev.refresh
  split <;> simp

@[simp] theorem Dev.unwritten_learnSource (i fd ring : Nat) : (d.learnSource i fd ring).unwritten = d.unwritten := by
  simp only [Dev.learnSource]
  repeat' split
  all_goals simp (disch := decide)

@[simp] theorem Dev.unwritten_learnSide (i : Nat) : (d.learnSide i).unwritten = d.unwritten := by
  unfold Dev.learnSide
  repeat' split
  all_goals simp (disch := decide)

@[simp] theorem Dev.unwritten_learnCount (port : Nat) (up : Bool) : (d.learnCount port up).unwritten = d.unwritten := by
  have hport : port ≤ 10 → frameField (F.FWD_PORT_COUNT_COUNT port) = true := fun h =>
    frameField_of_block (by rw [inFrameBlock_iff]; dsimp only [F.FWD_PORT_COUNT_COUNT]; omega)
  simp only [Dev.learnCount]
  split
  next h => rw [Dev.unwritten_set _ (hport h), Dev.unwritten_set _ (by decide)]
  next => exact d.unwritten_set (by decide) _

@[simp] theorem Dev.unwritten_removeFwd (i : Nat) : (d.removeFwd i).unwritten = d.unwritten := by
  unfold Dev.removeFwd
  split <;> simp

@[simp] theorem Dev.unwritten_fwdParity (i : Nat) : (d.fwdParity i).unwritten = d.unwritten := by
  simp (disch := decide) [Dev.fwdParity]

@[simp] theorem Dev.unwritten_lookParity (i : Nat) (parity : Option Nat) : (d.lookParity i parity).unwritten = d.unwritten := by
  unfold Dev.lookParity
  split <;> simp

@[simp] theorem Dev.unwritten_checkDst (i port : Nat) : (d.checkDst i port).unwritten = d.unwritten := by
  unfold Dev.checkDst
  split <;> simp

@[simp] theorem Dev.unwritten_writeDest (i port queue : Nat) : (d.writeDest i port queue).unwritten = d.unwritten := by
  unfold Dev.writeDest
  split <;> simp

@[simp] theorem Dev.unwritten_fwdHit (i idx : Nat) : (d.fwdHit i idx).unwritten = d.unwritten := by
  unfold Dev.fwdHit
  split <;> simp

@[simp] theorem Dev.unwritten_missStatus (i : Nat) : (d.missStatus i).unwritten = d.unwritten := by
  unfold Dev.missStatus
  split <;> simp

@[simp] theorem Dev.unwritten_forwardLook (i : Nat) (parity : Option Nat) : (d.forwardLook i parity).1.unwritten = d.unwritten := by
  simp only [Dev.forwardLook]
  repeat' split
  all_goals simp (disch := decide)

@[simp] theorem Dev.unwritten_afterForward (i : Nat) : (d.afterForward i).unwritten = d.unwritten := by
  unfold Dev.afterForward
  split <;> simp

@[simp] theorem Dev.unwritten_fwdMiss (i fd : Nat) : (d.fwdMiss i fd).1.unwritten = d.unwritten := by
  simp only [Dev.fwdMiss]
  repeat' split
  all_goals simp (disch := decide)

@[simp] theorem Dev.unwritten_fwdDrop (i : Nat) : (d.fwdDrop i).unwritten = d.unwritten := by
  unfold Dev.fwdDrop
  split <;> simp

@[simp] theorem Dev.unwritten_missDiscard (i : Nat) (wasGuar : Bool) : (d.missDiscard i wasGuar).unwritten = d.unwritten := by
  simp [Dev.missDiscard]

@[simp] theorem Dev.unwritten_excMissed (i fd : Nat) : (d.excMissed i fd).unwritten = d.unwritten := by
  have hmiss := d.unwritten_fwdMiss i fd
  unfold Dev.excMissed
  split <;> simp_all

@[simp] theorem Dev.unwritten_fwdMissed (i fd : Nat) : (d.fwdMissed i fd).unwritten = d.unwritten := by
  have hmiss := d.unwritten_fwdMiss i fd
  unfold Dev.fwdMissed
  split
  · simp
  · split
    next e he => simpa [he] using hmiss
    next e he => simpa [he] using hmiss
    next e he =>
      rw [he] at hmiss
      split
      · exact hmiss
      next s _ =>
        have happ := e.unwritten_applyExc i s.exc 0
        generalize e.applyExc i s.exc 0 = r at happ ⊢
        have hlook := r.1.unwritten_forwardLook i none
        dsimp only
        split
        · simp [happ, hmiss]
        · split <;> simp_all

@[simp] theorem Dev.unwritten_forwardStage (i : Nat) (parity : Option Nat) : (d.forwardStage i parity).unwritten = d.unwritten := by
  have hlook := d.unwritten_forwardLook i parity
  unfold Dev.forwardStage
  split <;> simp_all

@[simp] theorem Dev.unwritten_runExc (i ptr resume : Nat) (parity : Option Nat) : (d.runExc i ptr resume parity).unwritten = d.unwritten := by
  simp [Dev.runExc]

@[simp] theorem Dev.unwritten_settlePass (i : Nat) : (d.settlePass i).unwritten = d.unwritten := by
  unfold Dev.settlePass
  split <;> simp

/-! ## Failed accesses (R303) -/

@[simp] theorem Dev.unwritten_txFetched (i : Nat) : (d.txFetched i).unwritten = d.unwritten := by
  simp only [Dev.txFetched]
  repeat' split
  all_goals simp (disch := decide)

@[simp] theorem Dev.unwritten_txPieceFailed (i off code : Nat) : (d.txPieceFailed i off code).unwritten = d.unwritten := by
  simp [Dev.txPieceFailed]

/-- What a failed access leads to, but for a stream's writes to the host, which may name none of the eight streams. -/
theorem Dev.unwritten_faultUse {u : Use} (h : ∀ s, u ≠ .export_ s) : (d.faultUse u).unwritten = d.unwritten := by
  cases u with
  | export_ s => exact absurd rfl (h s)
  | _ => simp [Dev.faultUse]

@[simp] theorem Dev.unwritten_pauseSettle : d.pauseSettle.unwritten = d.unwritten := by
  obtain ⟨⟨net, out, h⟩, -⟩ := d.pauseOnly_pauseSettle
  rw [h]
  rfl

end

/-! ## Failed accesses of any state (R133, R303) -/

/-- The fields that no frame writes are the same below Ledger's registers, and a whole register that was 0 is still 0. -/
structure Dev.UnwrittenKept (d e : Dev) : Prop where
  below : ∀ g, unwrittenField g = true → g.addr < 0x400000 → e.get g = d.get g
  clear : ∀ a, unwrittenField ⟨a, 0, 32⟩ = true → d.get ⟨a, 0, 32⟩ = 0 → e.get ⟨a, 0, 32⟩ = 0

namespace Dev.UnwrittenKept
variable {d e f : Dev}

theorem of_unwritten (h : e.unwritten = d.unwritten) : d.UnwrittenKept e :=
  ⟨fun _ hg _ => Dev.get_of_unwritten h hg, fun _ ha h0 => (Dev.get_of_unwritten h ha).trans h0⟩

theorem trans (h : d.UnwrittenKept e) (h' : e.UnwrittenKept f) : d.UnwrittenKept f :=
  ⟨fun g hg hlt => (h'.below g hg hlt).trans (h.below g hg hlt), fun a ha h0 => h'.clear a ha (h.clear a ha h0)⟩

end Dev.UnwrittenKept

/-- A bit of a register that is 0. -/
theorem Dev.get_bit_of_clear {d : Dev} {a : Nat} (k : Nat) (hk : k < 32) (h : d.get ⟨a, 0, 32⟩ = 0) : d.get ⟨a, k, 1⟩ = 0 := by
  have hword : (d.word a).toNat = 0 := by
    have hwhole : d.get ⟨a, 0, 32⟩ = (d.word a).toNat := Nat.mod_eq_of_lt (d.word a).isLt
    exact hwhole.symm.trans h
  have hbit : d.get ⟨a, k, 1⟩ = bitsOf (d.word a).toNat k 1 := if_pos (show k + 1 ≤ 32 from hk)
  rw [hbit, hword]
  simp [bitsOf]

/-- A stream's writes to the host stop: below Ledger nothing changes, and the bit that clears lies in a register that was not 0, whatever stream is
named. -/
theorem Dev.unwrittenKept_stopExport (d : Dev) (s cause : Nat) : d.UnwrittenKept (d.stopExport s cause) := by
  have hstatus : frameField ⟨0x400004, 8 + s, 1⟩ = true := frameField_of_block rfl
  have hrest : (d.stopExport s cause).unwritten =
      (if d.get (F.LEDG_STREAM_CFG_EXPORT s) = 0 then d else d.set (F.LEDG_STREAM_CFG_EXPORT s) 0).unwritten := by
    unfold Dev.stopExport
    split
    · rfl
    · rw [Dev.unwritten_health, Dev.unwritten_raise _ (by decide), Dev.unwritten_set _ hstatus]
  refine .trans ?_ (.of_unwritten hrest)
  split
  next => exact .of_unwritten rfl
  next hexport =>
    have hword : (F.LEDG_STREAM_CFG_EXPORT s).lo + (F.LEDG_STREAM_CFG_EXPORT s).width ≤ 32 := by simp [F.LEDG_STREAM_CFG_EXPORT]
    refine ⟨fun g hg hlt => ?_, fun a _ h0 => ?_⟩
    · refine Dev.get_eq_of_word_eq ?_ (d.word_set _ 0 _ ?_ (.inl hword))
      · simp only [unwrittenField, Bool.and_eq_true, decide_eq_true_eq] at hg
        obtain ⟨⟨hg, -⟩, -⟩ := hg
        exact hg
      · dsimp only [F.LEDG_STREAM_CFG_EXPORT]
        omega
    · refine (Dev.get_eq_of_word_eq (f := ⟨a, 0, 32⟩) (Nat.le_refl 32) (d.word_set _ 0 a ?_ (.inl hword))).trans h0
      rintro rfl
      exact hexport (Dev.get_bit_of_clear 1 (by decide) h0)

theorem Dev.unwrittenKept_faultUse (d : Dev) (u : Use) : d.UnwrittenKept (d.faultUse u) := by
  by_cases h : ∃ s, u = .export_ s
  · obtain ⟨s, rfl⟩ := h
    exact d.unwrittenKept_stopExport s 3
  · exact .of_unwritten (d.unwritten_faultUse (fun s hs => h ⟨s, hs⟩))

theorem Dev.unwrittenKept_faultsN (d : Dev) (n : Nat) : d.UnwrittenKept (d.faultsN n) := by
  induction n generalizing d with
  | zero => exact .of_unwritten rfl
  | succ n ih =>
    simp only [Dev.faultsN]
    split
    · exact .of_unwritten rfl
    · refine .trans ?_ (ih _)
      exact .trans (.of_unwritten (d.unwritten_modHif _)) (foldl_rel (fun _ => .of_unwritten rfl) .trans _ (fun d u _ => d.unwrittenKept_faultUse u) _)

end Sys2Proof.Machine
end

section
/-! PROOFS. Link states (R66, R67): what the registers and the port's book show as a port moves through Table 2. -/
namespace Sys2Proof.Machine
open Sys2Proof

/-! ## A link state written -/

section
variable (d : Dev) (n : Nat)

/-- A link state is shown in its field, and moves nothing else. -/
theorem Dev.setLink_shows {st : Nat} (h : st < 8) : (d.setLink n st).linkState n = st ∧ SameWordsBut [0x200004 + 0x10000 * n] (d.setLink n st) d ∧
    { d.setLink n st with bus := d.bus } = d :=
  ⟨(Dev.get_set_place _ _ (by decide)).trans (Nat.mod_eq_of_lt h), sameWordsBut_set _ _ (by decide), rfl⟩

/-- The state in which a link starts again. -/
def Dev.startState : Nat := if d.sh (F.PORT_CFG_AN n) = 1 then LS.negotiate else LS.train

theorem Dev.startState_lt : d.startState n < 8 := by
  unfold Dev.startState
  split <;> decide

theorem Dev.linkStart_eq : d.linkStart n = d.setLink n (d.startState n) := rfl

end

/-! ## Negotiation and training (R66) -/

section
variable {s : State} {n : Nat}

theorem anComplete_resolved (hn : n ≤ 8) (h : s.dev.linkState n = LS.negotiate) : exec (.anComplete n true) s = done s (s.dev.setLink n LS.train) := by
  change execAnComplete n true s = _
  simp [execAnComplete, h, Nat.not_lt.2 hn]

theorem anComplete_unresolved (hn : n ≤ 8) (h : s.dev.linkState n = LS.negotiate) :
    exec (.anComplete n false) s = done s (s.dev.count (K.PORT_AN_FAIL n)) := by
  change execAnComplete n false s = _
  simp [execAnComplete, h, Nat.not_lt.2 hn]

theorem trainingComplete_aligns (hn : n ≤ 8) (h : s.dev.linkState n = LS.train) :
    exec (.trainingComplete n) s = done s (s.dev.setLink n LS.align) := by
  change execTrainingComplete n s = _
  simp [execTrainingComplete, h, Nat.not_lt.2 hn]

theorem trainingTimeout_restarts (hn : n ≤ 8) (h : s.dev.linkState n = LS.train) : exec (.trainingTimeout n) s = done s (s.dev.linkStart n) := by
  change execTrainingTimeout n s = _
  simp [execTrainingTimeout, h, Nat.not_lt.2 hn]

end

/-! ## Commands in another link state -/

/-- Each of the five commands changes nothing in a link state other than its own. -/
theorem linkCommands_elsewhere (s : State) (n : Nat) :
    (s.dev.linkState n ≠ LS.negotiate → Yields (.anComplete n true) s (fun d => d = s.dev)) ∧
    (s.dev.linkState n ≠ LS.train → Yields (.trainingComplete n) s (fun d => d = s.dev) ∧ Yields (.trainingTimeout n) s (fun d => d = s.dev)) ∧
    (s.dev.linkState n ≠ LS.align → Yields (.linkUp n) s (fun d => d = s.dev)) ∧
    (s.dev.linkState n ≠ LS.up → Yields (.linkLoss n) s (fun d => d = s.dev)) :=
  ⟨fun h => .of s.dev (if_pos (.inr h)) rfl, fun h => ⟨.of s.dev (if_pos (.inr h)) rfl, .of s.dev (if_pos (.inr h)) rfl⟩,
    fun h => .of s.dev (if_pos (.inr h)) rfl, fun h => .of s.dev (if_pos (.inr h)) rfl⟩

/-! ## LINK_UP (R66, R67) -/

theorem modeRate_lt (m : Nat) : modeRate m < 2 ^ 32 := by
  unfold modeRate
  split <;> decide

/-- The book whose capacity moved waits for re-admission. -/
theorem Dev.mem_readmit_bookFell (d : Dev) (k : Nat) : k ∈ (d.bookFell k).loom.readmit := by
  simp only [Dev.bookFell, Dev.modLoom_loom]
  split <;> simp_all

/-- The device with a link up in a port's registers, its book aside. -/
def Dev.upShown (d : Dev) (n : Nat) : Dev :=
  (((d.setLink n LS.up).set (F.PORT_STATUS_LINK n) 1).raise (F.PORT_EVENT_LINK_CHANGE n)).set (F.PORT_STATUS_FEC_ACTIVE n) (d.sh (F.PORT_CFG_FEC n))

/-- The capacity of a book lies in a word that holds no field of a port. -/
theorem Dev.get_setCap (d : Dev) {n : Nat} (hn : n < 8) (v : Nat) {f : Fld} (hf : f.lo + f.width ≤ 32) (h : f.addr < 0xA01400) :
    (d.set (F.LOOM_BOOK_CAP_CAP n) v).get f = d.get f :=
  Dev.get_eq_of_word_eq hf (d.word_set _ v _ (by dsimp only [F.LOOM_BOOK_CAP_CAP]; omega) (.inl (by simp [F.LOOM_BOOK_CAP_CAP])))

/-- The event register and the status register of a port are two words. -/
theorem Dev.get_setStatus_event (d : Dev) (n : Nat) {lo w lo' w' : Nat} (v : Nat) (h : lo + w ≤ 32) (h' : lo' + w' ≤ 32) :
    (d.set ⟨0x200004 + 0x10000 * n, lo, w⟩ v).get ⟨0x200008 + 0x10000 * n, lo', w'⟩ = d.get ⟨0x200008 + 0x10000 * n, lo', w'⟩ :=
  Dev.get_eq_of_word_eq h' (d.word_set _ v _ (by dsimp only; omega) (.inl h))

theorem Dev.get_setEvent_status (d : Dev) (n : Nat) {lo w lo' w' : Nat} (v : Nat) (h : lo + w ≤ 32) (h' : lo' + w' ≤ 32) :
    (d.set ⟨0x200008 + 0x10000 * n, lo, w⟩ v).get ⟨0x200004 + 0x10000 * n, lo', w'⟩ = d.get ⟨0x200004 + 0x10000 * n, lo', w'⟩ :=
  Dev.get_eq_of_word_eq h' (d.word_set _ v _ (by dsimp only; omega) (.inl h))

theorem Dev.upShown_shows (d : Dev) (n : Nat) : (d.upShown n).linkState n = LS.up ∧ (d.upShown n).get (F.PORT_STATUS_LINK n) = 1 ∧
    (d.upShown n).get (F.PORT_EVENT_LINK_CHANGE n) = 1 := by
  unfold Dev.upShown Dev.linkState Dev.raise Dev.setLink
  refine ⟨?state, ?link, ?event⟩
  case state =>
    rw [F.PORT_STATUS_FEC_ACTIVE, F.PORT_STATUS_LINK_STATE, Dev.get_set_disjoint _ _ (by decide) (by decide) (by decide), F.PORT_EVENT_LINK_CHANGE,
      Dev.get_setEvent_status _ _ _ (by decide) (by decide), F.PORT_STATUS_LINK, Dev.get_set_disjoint _ _ (by decide) (by decide) (by decide)]
    exact Dev.get_set_place _ _ (by decide)
  case link =>
    rw [F.PORT_STATUS_FEC_ACTIVE, F.PORT_STATUS_LINK, Dev.get_set_disjoint _ _ (by decide) (by decide) (by decide), F.PORT_EVENT_LINK_CHANGE,
      Dev.get_setEvent_status _ _ _ (by decide) (by decide)]
    exact Dev.get_set_place _ _ (by decide)
  case event =>
    rw [F.PORT_STATUS_FEC_ACTIVE, F.PORT_EVENT_LINK_CHANGE, Dev.get_setStatus_event _ _ _ (by decide) (by decide)]
    exact Dev.get_set_place _ _ (by decide)

/-- LINK_UP shows the link up, gives the port's book the rate of the configured mode, and asks for re-admission. -/
theorem linkUp_shows {s : State} {n : Nat} (hn : n ≤ 8) (h : s.dev.linkState n = LS.align) :
    Yields (.linkUp n) s (fun d => d.linkState n = LS.up ∧ d.get (F.PORT_STATUS_LINK n) = 1 ∧ d.get (F.PORT_EVENT_LINK_CHANGE n) = 1 ∧
      (n < 8 → d.get (F.LOOM_BOOK_CAP_CAP n) = s.dev.cfg.active.portRate n ∧ n ∈ d.loom.readmit) ∧ d.shuts = s.dev.shuts ∧ d.cfg = s.dev.cfg) := by
  have hexec : exec (.linkUp n) s = done s (if n < 8 then ((s.dev.upShown n).set (F.LOOM_BOOK_CAP_CAP n) (s.dev.cfg.active.portRate n)).bookFell n
      else s.dev.upShown n) := by
    change execLinkUp n s = _
    simp only [execLinkUp, h, Nat.not_lt.2 hn, ne_eq, not_true_eq_false, or_self, if_false]
    rfl
  obtain ⟨hstate, hlink, hevent⟩ := s.dev.upShown_shows n
  refine Yields.of _ hexec ?_
  split
  next hlt =>
    have hport : ∀ f : Fld, f.lo + f.width ≤ 32 → f.addr < 0xA01400 → (((s.dev.upShown n).set (F.LOOM_BOOK_CAP_CAP n)
        (s.dev.cfg.active.portRate n)).bookFell n).get f = (s.dev.upShown n).get f := fun f hf ha => Dev.get_setCap _ hlt _ hf ha
    refine ⟨?_, ?_, ?_, fun _ => ⟨?_, Dev.mem_readmit_bookFell _ _⟩, rfl, rfl⟩
    · exact (hport _ (by simp [F.PORT_STATUS_LINK_STATE]) (by dsimp only [F.PORT_STATUS_LINK_STATE]; omega)).trans hstate
    · exact (hport _ (by simp [F.PORT_STATUS_LINK]) (by dsimp only [F.PORT_STATUS_LINK]; omega)).trans hlink
    · exact (hport _ (by simp [F.PORT_EVENT_LINK_CHANGE]) (by dsimp only [F.PORT_EVENT_LINK_CHANGE]; omega)).trans hevent
    · exact (Dev.get_set_place _ _ (by decide)).trans (Nat.mod_eq_of_lt (modeRate_lt _))
  next hge => exact ⟨hstate, hlink, hevent, fun hlt => absurd hlt hge, rfl, rfl⟩

/-! ## LINK_LOSS (R66, R67) -/

section
variable (d : Dev) (n : Nat)

/-- The registers and the book of a port whose link is lost. -/
def Dev.lossShown : Dev :=
  let d := ((d.set (F.PORT_STATUS_LINK n) 0).raise (F.PORT_EVENT_LINK_CHANGE n)).set (F.PORT_STATUS_FEC_ACTIVE n) 0
  (if n < 8 then (d.set (F.LOOM_BOOK_CAP_CAP n) 0).bookFell n else d).setLink n LS.disabled

/-- The frames of a port whose link is lost: the one in reception is cut, the queued ones are discarded, and its clock is no longer sent on. -/
def Dev.framesLost : Dev := (((d.modPort n (fun p => { p with stamps := [] })).cutReception n).dropQueued n).squelch n

theorem Dev.linkLeave_up (h : d.linkState n = LS.up) : d.linkLeave n = (d.lossShown n).framesLost n := by
  simp only [Dev.linkLeave, h, ne_eq, not_true_eq_false, if_false]
  rfl

@[simp] theorem Dev.unwritten_cutReception : (d.cutReception n).unwritten = d.unwritten := by
  unfold Dev.cutReception
  split <;> simp

@[simp] theorem Dev.unwritten_dropQueued : (d.dropQueued n).unwritten = d.unwritten := by
  simp [Dev.dropQueued]

@[simp] theorem Dev.unwritten_squelch : (d.squelch n).unwritten = d.unwritten := by
  have hone : ∀ (e : Dev) (k : Nat), k < 2 → (e.squelchOne n k).unwritten = e.unwritten := fun e k hk => by
    rw [Dev.squelchOne, Dev.unwritten_ite, Dev.unwritten_set _ (frameField_of_block (by rw [inFrameBlock_iff]; dsimp only [F.PORT_RCLK_SQUELCHED]; omega)),
      ite_self]
  rw [Dev.squelch_eq, hone _ _ (by decide), hone _ _ (by decide)]

@[simp] theorem Dev.unwritten_framesLost : (d.framesLost n).unwritten = d.unwritten := by
  simp [Dev.framesLost]

@[simp] theorem Dev.steady_cutReception : (d.cutReception n).steady = d.steady := by
  unfold Dev.cutReception
  split <;> simp

@[simp] theorem Dev.steady_dropQueued : (d.dropQueued n).steady = d.steady := by
  simp [Dev.dropQueued]

@[simp] theorem Dev.steady_squelch : (d.squelch n).steady = d.steady := by
  have hone : ∀ (e : Dev) (k : Nat), k < 2 → (e.squelchOne n k).steady = e.steady := fun e k hk => by
    rw [Dev.squelchOne, Dev.steady_ite, Dev.steady_set _ (statusApart_of_ne (by dsimp only [F.PORT_RCLK_SQUELCHED]; omega) (by simp [F.PORT_RCLK_SQUELCHED])),
      ite_self]
  rw [Dev.squelch_eq, hone _ _ (by decide), hone _ _ (by decide)]

@[simp] theorem Dev.steady_framesLost : (d.framesLost n).steady = d.steady := by
  simp [Dev.framesLost]

end

/-- What a port shows that has no link: LINK clear, its change raised, and no capacity in its book. -/
structure Dev.NoLink (d : Dev) (n : Nat) : Prop where
  link : d.get (F.PORT_STATUS_LINK n) = 0
  change : d.get (F.PORT_EVENT_LINK_CHANGE n) = 1
  cap : n < 8 → d.get (F.LOOM_BOOK_CAP_CAP n) = 0

/-- A link state written leaves it. -/
theorem Dev.NoLink.setLink {d : Dev} {n : Nat} (h : d.NoLink n) (st : Nat) : (d.setLink n st).NoLink n := by
  obtain ⟨hlink, hchange, hcap⟩ := h
  refine ⟨?_, ?_, fun hlt => ?_⟩
  · exact (Dev.get_set_disjoint _ _ (by decide) (by decide) (by decide)).trans hlink
  · exact (Dev.get_setStatus_event _ _ _ (by decide) (by decide)).trans hchange
  · refine (Dev.get_eq_of_word_eq ?_ (d.word_set _ _ _ ?_ (.inl ?_))).trans (hcap hlt)
    · simp [F.LOOM_BOOK_CAP_CAP]
    · dsimp only [F.LOOM_BOOK_CAP_CAP, F.PORT_STATUS_LINK_STATE]
      omega
    · simp [F.PORT_STATUS_LINK_STATE]

theorem Dev.lossShown_noLink (d : Dev) (n : Nat) : (d.lossShown n).NoLink n := by
  unfold Dev.lossShown
  refine Dev.NoLink.setLink ?_ _
  have hlink : (((d.set (F.PORT_STATUS_LINK n) 0).raise (F.PORT_EVENT_LINK_CHANGE n)).set (F.PORT_STATUS_FEC_ACTIVE n) 0).get (F.PORT_STATUS_LINK n) = 0 := by
    rw [F.PORT_STATUS_FEC_ACTIVE, F.PORT_STATUS_LINK, Dev.get_set_disjoint _ _ (by decide) (by decide) (by decide), F.PORT_EVENT_LINK_CHANGE,
      Dev.raise, Dev.get_setEvent_status _ _ _ (by decide) (by decide)]
    exact Dev.get_set_place _ _ (by decide)
  have hchange : (((d.set (F.PORT_STATUS_LINK n) 0).raise (F.PORT_EVENT_LINK_CHANGE n)).set (F.PORT_STATUS_FEC_ACTIVE n) 0).get
      (F.PORT_EVENT_LINK_CHANGE n) = 1 := by
    rw [F.PORT_STATUS_FEC_ACTIVE, F.PORT_EVENT_LINK_CHANGE, Dev.get_setStatus_event _ _ _ (by decide) (by decide)]
    exact Dev.get_set_place _ _ (by decide)
  generalize ((d.set (F.PORT_STATUS_LINK n) 0).raise (F.PORT_EVENT_LINK_CHANGE n)).set (F.PORT_STATUS_FEC_ACTIVE n) 0 = e at hlink hchange
  split
  next hlt =>
    refine ⟨?_, ?_, fun _ => Dev.get_set_place _ _ (by decide)⟩
    · exact (Dev.get_setCap _ hlt _ (by simp [F.PORT_STATUS_LINK]) (by dsimp only [F.PORT_STATUS_LINK]; omega)).trans hlink
    · exact (Dev.get_setCap _ hlt _ (by simp [F.PORT_EVENT_LINK_CHANGE]) (by dsimp only [F.PORT_EVENT_LINK_CHANGE]; omega)).trans hchange
  next hge => exact ⟨hlink, hchange, fun hlt => absurd hlt hge⟩

theorem Dev.mem_readmit_lossShown (d : Dev) {n : Nat} (hn : n < 8) : n ∈ (d.lossShown n).loom.readmit := by
  simp only [Dev.lossShown, hn, if_true]
  exact Dev.mem_readmit_bookFell _ _

/-- The fields that show the link of one of the nine ports, and its capacity, are no fields that frames write. -/
theorem unwrittenField_link {n : Nat} (hn : n ≤ 8) : unwrittenField (F.PORT_STATUS_LINK_STATE n) = true ∧ unwrittenField (F.PORT_STATUS_LINK n) = true ∧
    unwrittenField (F.PORT_EVENT_LINK_CHANGE n) = true ∧ unwrittenField (F.LOOM_BOOK_CAP_CAP n) = true := by
  interval_cases n <;> decide

/-- Frames and failed accesses leave a port without link as it shows. -/
theorem Dev.NoLink.kept {d e : Dev} {n : Nat} (hn : n ≤ 8) (h : d.NoLink n) (hk : d.UnwrittenKept e) : e.NoLink n := by
  obtain ⟨-, hlink, hevent, hbook⟩ := unwrittenField_link hn
  exact ⟨(hk.below _ hlink (by dsimp only [F.PORT_STATUS_LINK]; omega)).trans h.link,
    (hk.below _ hevent (by dsimp only [F.PORT_EVENT_LINK_CHANGE]; omega)).trans h.change, fun hlt => hk.clear _ hbook (h.cap hlt)⟩

/-- LINK_LOSS shows the link down, starts it again, takes the capacity of the port's book, and asks for re-admission, whatever the frames of the port
and the failed accesses lead to. -/
theorem linkLoss_shows {s : State} {n : Nat} (hn : n ≤ 8) (h : s.dev.linkState n = LS.up) :
    Yields (.linkLoss n) s (fun d => d.linkState n = s.dev.startState n ∧ d.get (F.PORT_STATUS_LINK n) = 0 ∧ d.get (F.PORT_EVENT_LINK_CHANGE n) = 1 ∧
      (n < 8 → d.get (F.LOOM_BOOK_CAP_CAP n) = 0 ∧ n ∈ d.loom.readmit)) := by
  obtain ⟨e, he⟩ : ∃ e, e = (s.dev.lossShown n).framesLost n := ⟨_, rfl⟩
  have hunwritten : e.unwritten = (s.dev.lossShown n).unwritten := by rw [he, Dev.unwritten_framesLost]
  have hsteady : e.steady = (s.dev.lossShown n).steady := by rw [he, Dev.steady_framesLost]
  have hstart : e.linkStart n = e.setLink n (s.dev.startState n) := by
    have hcfg : e.cfg = s.dev.cfg := by
      rw [he, ← Dev.linkLeave_up _ _ h, Dev.cfg_linkLeave]
    rw [Dev.linkStart_eq, Dev.startState, Dev.sh, hcfg]
    rfl
  have hexec : exec (.linkLoss n) s = doneH s (e.setLink n (s.dev.startState n)) := by
    rw [← hstart, he, ← Dev.linkLeave_up _ _ h]
    change execLinkLoss n s = _
    simp [execLinkLoss, h, Nat.not_lt.2 hn]
  have hnone : (e.setLink n (s.dev.startState n)).NoLink n :=
    ((s.dev.lossShown_noLink n).kept hn (.of_unwritten hunwritten)).setLink _
  have hkept := ((e.setLink n (s.dev.startState n)).unwrittenKept_faultsN 4).trans (.of_unwritten (Dev.unwritten_pauseSettle _))
  obtain ⟨hstate, -⟩ := e.setLink_shows n (s.dev.startState_lt n)
  obtain ⟨hfield, -⟩ := unwrittenField_link hn
  have hlast := hnone.kept hn hkept
  refine ⟨_, hexec, ?_, hlast.link, hlast.change, fun hlt => ⟨hlast.cap hlt, ?_⟩⟩
  · exact (hkept.below _ hfield (by dsimp only [F.PORT_STATUS_LINK_STATE]; omega)).trans hstate
  · have hloom : (((e.setLink n (s.dev.startState n)).faultsN 4).pauseSettle).loom = e.loom :=
      Dev.loom_of_steady (d := e.setLink n (s.dev.startState n)) (by simp)
    rw [hloom, Dev.loom_of_steady hsteady]
    exact s.dev.mem_readmit_lossShown hlt

/-! ## The statement -/

/-- Settles O17: each move of Table 2 by its own lemma; what a lost link sets off writes none of the fields that show it. -/
theorem linkStatesFollowTheirTable : Obligations.LinkStatesFollowTheirTable := by
  unfold Obligations.LinkStatesFollowTheirTable
  refine ⟨fun s n hn h => ⟨?resolved, ?unresolved⟩, fun s n hn h => ⟨?complete, ?timeout⟩, fun s n hn h => linkUp_shows hn h,
    fun s n hn h => linkLoss_shows hn h, linkCommands_elsewhere⟩
  case resolved => exact .of _ (anComplete_resolved hn h) (Dev.setLink_shows _ _ (by decide))
  case unresolved => exact .of _ (anComplete_unresolved hn h) ⟨h, Dev.ctr_count_self _ _ _, fun _ _ => rfl, rfl⟩
  case complete => exact .of _ (trainingComplete_aligns hn h) (Dev.setLink_shows _ _ (by decide))
  case timeout => exact .of _ (trainingTimeout_restarts hn h) (Dev.setLink_shows _ _ (s.dev.startState_lt n))

end Sys2Proof.Machine
end

section
/-! PROOFS. Pauses received (R68 to R70, R34): what each pause leaves in a port's state and in its registers. -/
namespace Sys2Proof.Machine
open Sys2Proof

/-! ## What a port shows of its pauses -/

section
variable (d : Dev) (n : Nat)

@[simp] theorem Dev.port_set (f : Fld) (v m : Nat) : (d.set f v).port m = d.port m := rfl

@[simp] theorem Dev.port_showPause (rest m : Nat) : (d.showPause n rest).port m = d.port m := rfl
@[simp] theorem Dev.ctr_showPause (rest k : Nat) : (d.showPause n rest).ctr k = d.ctr k := rfl

/-- PAUSE_STATE reads PAUSED while a pause is in force, and what the last one left otherwise. -/
theorem Dev.pauseState_showPause {rest : Nat} (h : rest < 4) :
    (d.showPause n rest).get (F.PORT_STATUS_PAUSE_STATE n) = if (d.port n).paused.isEmpty then rest else 1 := by
  refine (Dev.get_set_place _ _ (by decide)).trans (Nat.mod_eq_of_lt ?_)
  split
  · exact h
  · decide

theorem Dev.sameWords_showPause (rest : Nat) : SameWordsBut [0x200004 + 0x10000 * n] (d.showPause n rest) d := fun a ha => by
  rw [Dev.showPause, F.PORT_STATUS_PAUSE_STATE, sameWordsBut_set _ _ (by decide) a ha, F.PORT_STATUS_PFC_PAUSED,
    sameWordsBut_set _ _ (by decide) a ha]

/-! ## A pause that starts, and one that ends -/

/-- A pause in hold-off is ignored. -/
theorem Dev.pauseOn_held {k : Nat} (h : k ∈ (d.port n).holdoff) : d.pauseOn n k = d := by
  simp [Dev.pauseOn, h]

/-- A pause neither in hold-off nor in force is taken. -/
theorem Dev.pauseOn_taken {k : Nat} (hh : k ∉ (d.port n).holdoff) (hp : k ∉ (d.port n).paused) :
    d.pauseOn n k = ((d.modPort n (fun p => { p with paused := p.paused ++ [k] })).set (F.PORT_STATUS_WATCHDOG_ALSO n) 0).showPause n 1 := by
  simp [Dev.pauseOn, hh, hp]

/-- A pause taken is the port's last, and shows. -/
theorem Dev.pauseOn_shows {k : Nat} (hh : k ∉ (d.port n).holdoff) (hp : k ∉ (d.port n).paused) :
    ((d.pauseOn n k).port n).paused = (d.port n).paused ++ [k] ∧ (d.pauseOn n k).get (F.PORT_STATUS_PAUSE_STATE n) = 1 ∧
    (∀ m, m ≠ n → (d.pauseOn n k).port m = d.port m) ∧ SameWordsBut [0x200004 + 0x10000 * n] (d.pauseOn n k) d := by
  rw [Dev.pauseOn_taken d n hh hp]
  refine ⟨by simp, ?_, fun m hm => by simp [Dev.port_modPort_ne d n _ hm], fun a ha => ?_⟩
  · simp [Dev.pauseState_showPause]
  · rw [Dev.sameWords_showPause _ _ _ a ha, F.PORT_STATUS_WATCHDOG_ALSO, sameWordsBut_set _ _ (by decide) a ha]
    rfl

/-- The end of a port's only pause: none is left, its hold-off is as it was, and PAUSE_STATE reads RELEASED. -/
theorem Dev.pauseOff_shows {k : Nat} (h : (d.port n).paused = [k]) : ((d.pauseOff n k).port n).paused = [] ∧
    ((d.pauseOff n k).port n).holdoff = (d.port n).holdoff ∧ (d.pauseOff n k).get (F.PORT_STATUS_PAUSE_STATE n) = 2 ∧
    ∀ c, (d.pauseOff n k).ctr c = d.ctr c := by
  have hoff : d.pauseOff n k = (d.modPort n (fun p => { p with paused := p.paused.filter (fun j => j != k) })).showPause n 2 := by
    simp [Dev.pauseOff, h]
  rw [hoff]
  refine ⟨by simp [h], by simp, ?_, fun c => rfl⟩
  simp [Dev.pauseState_showPause, h]

/-- WATCHDOG_ALSO is raised beside the other fields, where it is. -/
theorem Dev.pauseAlso_shows (ended : Bool) : (∀ m, (d.pauseAlso n ended).port m = d.port m) ∧ (∀ c, (d.pauseAlso n ended).ctr c = d.ctr c) ∧
    (d.pauseAlso n ended).get (F.PORT_STATUS_PAUSE_STATE n) = d.get (F.PORT_STATUS_PAUSE_STATE n) ∧
    (ended = true → (d.pauseAlso n ended).get (F.PORT_STATUS_WATCHDOG_ALSO n) = 1) := by
  cases ended with
  | false => exact ⟨fun _ => rfl, fun _ => rfl, rfl, fun h => absurd h (by decide)⟩
  | true =>
    exact ⟨fun _ => rfl, fun _ => rfl, Dev.get_set_disjoint _ _ (by decide) (by decide) (by decide), fun _ => Dev.get_set_place _ _ (by decide)⟩

end

/-! ## PAUSE_FRAME_RX and PFC_FRAME_RX (R68, R70) -/

section
variable {s : State} {n : Nat} (also : Bool)

/-- PAUSE_FRAME_RX with quanta at a port that takes PAUSE. -/
theorem pauseFrameRx_quanta {q : Nat} (hr : s.dev.receives n = true) (hm : s.dev.sh (F.PORT_PAUSE_RX_MODE n) = 1) (hq : q ≠ 0) :
    exec (.pauseFrameRx n ⟨q, also⟩) s = done s (s.dev.pauseOn n 8) := by
  change execPauseFrameRx n ⟨q, also⟩ s = _
  simp [execPauseFrameRx, hr, hm, hq, Dev.pauseAct, Dev.pauseAlso]

/-- PAUSE_FRAME_RX with quanta 0 ends the pause of the whole port, with the watchdog limit in the same cycle or not. -/
theorem pauseFrameRx_xon (hr : s.dev.receives n = true) (hm : s.dev.sh (F.PORT_PAUSE_RX_MODE n) = 1) (h : (s.dev.port n).paused = [8]) :
    exec (.pauseFrameRx n ⟨0, also⟩) s = done s ((s.dev.pauseOff n 8).pauseAlso n also) := by
  change execPauseFrameRx n ⟨0, also⟩ s = _
  simp [execPauseFrameRx, hr, hm, h, Dev.pauseAct]

/-- Of the steps over a range, one acts. -/
theorem foldl_range_single {β : Type} (g : β → Nat → β) (b : β) {k m : Nat} (h : k < m) :
    (List.range m).foldl (fun b j => if j = k then g b j else b) b = g b k := by
  have hnone : ∀ m ≤ k, (List.range m).foldl (fun b j => if j = k then g b j else b) b = b := fun m hm => by
    induction m with
    | zero => rfl
    | succ m ih => rw [List.range_succ, List.foldl_append, ih (by omega)]; exact if_neg (by omega)
  induction m with
  | zero => omega
  | succ m ih =>
    rw [List.range_succ, List.foldl_append]
    by_cases hkm : k = m
    · subst hkm
      rw [hnone k (Nat.le_refl k)]
      exact if_pos rfl
    · rw [ih (by omega)]
      exact if_neg (fun e => hkm e.symm)

/-- PFC_FRAME_RX that names one enabled priority with quanta. -/
theorem pfcFrameRx_one {k w : Nat} {q : List Nat} (hr : s.dev.receives n = true) (hn : n < 8) (hk : k < 8)
    (hm : s.dev.sh (F.PORT_PAUSE_RX_MODE n) = 2) (he : (s.dev.sh (F.PORT_PAUSE_PFC_EN n)).testBit k = true) (hq : q.getD k 0 ≠ 0) :
    exec (.pfcFrameRx n (2 ^ k) ⟨q, w⟩) s = done s (s.dev.pauseOn n k) := by
  have hnamed : ∀ j, (2 ^ k &&& s.dev.sh (F.PORT_PAUSE_PFC_EN n)).testBit j = decide (j = k) := fun j => by
    rw [Nat.testBit_and, Nat.testBit_two_pow]
    by_cases hj : k = j
    · subst hj
      simp [he]
    · simp [hj, Ne.symm hj]
  change execPfcFrameRx n (2 ^ k) ⟨q, w⟩ s = _
  simp only [execPfcFrameRx, hr, hm, Nat.ne_of_lt hn, hnamed, decide_eq_true_eq, Bool.not_true, decide_false, Bool.or_self, ne_eq, not_true_eq_false,
    Bool.false_eq_true, if_false]
  rw [foldl_range_single (fun (d : Dev) j => (d.pauseAct n j (q.getD j 0)).pauseAlso n
    (w.testBit j && decide (q.getD j 0 = 0) && (d.port n).paused.contains j)) s.dev hk]
  simp only [Dev.pauseAct, Dev.pauseAlso, hq, decide_false, Bool.and_false, Bool.false_and, Bool.false_eq_true, if_false]

end

/-! ## The quanta, the watchdog and its hold-off (R70) -/

section
variable {s : State} {n k : Nat} (hn : n ≤ 8)
include hn

theorem pauseQuantaExpire_ends (also : Bool) (h : k ∈ (s.dev.port n).paused) :
    exec (.pauseQuantaExpire n k also) s = done s ((s.dev.pauseOff n k).pauseAlso n also) := by
  change execPauseQuantaExpire n k also s = _
  simp [execPauseQuantaExpire, h, Nat.not_lt.2 hn]

/-- PAUSE_WATCHDOG_EXPIRE ends the pause, holds its priority off, and shows, counts and raises it. -/
theorem pauseWatchdogExpire_holds (h : k ∈ (s.dev.port n).paused) :
    Yields (.pauseWatchdogExpire n k) s (fun d => k ∉ (d.port n).paused ∧ k ∈ (d.port n).holdoff ∧ d.get (F.PORT_STATUS_PAUSE_STATE n) = 3 ∧
      d.get (F.PORT_EVENT_PAUSE_WDOG n) = 1 ∧ d.ctr (K.PORT_PAUSE_WDOG n) = (s.dev.ctr (K.PORT_PAUSE_WDOG n) + 1) % 2 ^ 64) := by
  obtain ⟨e, he⟩ : ∃ e, e = s.dev.modPort n (fun p => { p with paused := p.paused.filter (fun j => j != k), holdoff := p.holdoff ++ [k] }) := ⟨_, rfl⟩
  have hexec : exec (.pauseWatchdogExpire n k) s = done s ((((e.showPause n 3).set (F.PORT_STATUS_PAUSE_STATE n) 3).count (K.PORT_PAUSE_WDOG n)).raise
      (F.PORT_EVENT_PAUSE_WDOG n)) := by
    rw [he]
    change execPauseWatchdogExpire n k s = _
    simp [execPauseWatchdogExpire, h, Nat.not_lt.2 hn]
  have hport : e.port n = { s.dev.port n with paused := (s.dev.port n).paused.filter (fun j => j != k), holdoff := (s.dev.port n).holdoff ++ [k] } := by
    rw [he, Dev.port_modPort_self]
  have hctr : ∀ c, e.ctr c = s.dev.ctr c := fun c => by rw [he]; rfl
  refine Yields.of _ hexec ⟨?_, ?_, ?_, Dev.get_set_place _ _ (by decide), ?_⟩
  · simp [hport]
  · simp [hport]
  · exact (Dev.get_setEvent_status _ n 1 (by decide) (by decide)).trans (Dev.get_set_place _ _ (by decide))
  · exact (Dev.ctr_count_self _ _ _).trans (by rw [Dev.set_ctr, Dev.ctr_showPause, hctr])

/-- PAUSE_HOLDOFF_EXPIRE ends the hold-off of its priority, and no pause. -/
theorem pauseHoldoffExpire_ends (h : k ∈ (s.dev.port n).holdoff) :
    Yields (.pauseHoldoffExpire n k) s (fun d => k ∉ (d.port n).holdoff ∧ (d.port n).paused = (s.dev.port n).paused) := by
  obtain ⟨e, he⟩ : ∃ e, e = s.dev.modPort n (fun p => { p with holdoff := p.holdoff.filter (fun j => j != k) }) := ⟨_, rfl⟩
  have hexec : exec (.pauseHoldoffExpire n k) s = done s (e.showPause n (if (e.port n).holdoff.isEmpty then 0 else 3)) := by
    rw [he]
    change execPauseHoldoffExpire n k s = _
    simp [execPauseHoldoffExpire, h, Nat.not_lt.2 hn]
  refine Yields.of _ hexec ?_
  rw [Dev.port_showPause, he, Dev.port_modPort_self]
  exact ⟨by simp, rfl⟩

end

/-! ## XOFF_REFRESH (R69) -/

/-- XOFF_REFRESH of an XOFF that no longer holds, or is not the transmit mode's, changes nothing. -/
theorem xoffRefresh_ignored {s : State} {n k : Nat} (h : k ∉ (s.dev.port n).xoff ∨ s.dev.xoffFits n k = false) :
    exec (.xoffRefresh n k) s = done s s.dev := by
  change execXoffRefresh n k s = _
  rcases h with h | h
  · simp [execXoffRefresh, h]
  · simp [execXoffRefresh, h]

theorem xoffRefresh_sends {s : State} {n k : Nat} (hn : n ≤ 8) (hx : k ∈ (s.dev.port n).xoff) (hf : s.dev.xoffFits n k = true) :
    exec (.xoffRefresh n k) s = done s (s.dev.emit (.pause n (s.dev.sh (F.PORT_PAUSE_QUANTA n)) (2 ^ k))) := by
  change execXoffRefresh n k s = _
  simp [execXoffRefresh, hx, hf, Nat.not_lt.2 hn]

/-! ## The statement -/

/-- Settles O18: each command by its own lemma, over what a pause that starts and one that ends leave in the port's state and status. -/
theorem pauseAndItsWatchdog : Obligations.PauseAndItsWatchdog := by
  unfold Obligations.PauseAndItsWatchdog
  refine ⟨?taken, ?ended, ?held, ?pfc, ?expired, fun s n k hn h => pauseWatchdogExpire_holds hn h, fun s n k hn h => pauseHoldoffExpire_ends hn h,
    fun s n k hn hx hf => .of _ (xoffRefresh_sends hn hx hf) ⟨rfl, rfl⟩, fun s n k h => .of _ (xoffRefresh_ignored h) rfl⟩
  case taken =>
    intro s n q also hr hm hq hh hp
    exact .of _ (pauseFrameRx_quanta also hr hm hq) (s.dev.pauseOn_shows n hh hp)
  case ended =>
    intro s n also hr hm h
    obtain ⟨hnone, -, hstate, -⟩ := s.dev.pauseOff_shows n h
    obtain ⟨hport, -, hsame, halso⟩ := (s.dev.pauseOff n 8).pauseAlso_shows n also
    exact .of _ (pauseFrameRx_xon also hr hm h) ⟨by rw [hport, hnone], hsame.trans hstate, halso⟩
  case held =>
    intro s n q also hr hm hh hq
    exact .of _ (pauseFrameRx_quanta also hr hm hq) (s.dev.pauseOn_held n hh)
  case pfc =>
    intro s n k also q hr hn hk hm he hq hh hp
    obtain ⟨htaken, hstate, -⟩ := s.dev.pauseOn_shows n hh hp
    exact .of _ (pfcFrameRx_one hr hn hk hm he hq) ⟨htaken, hstate⟩
  case expired =>
    intro s n k also hn h
    obtain ⟨hnone, hhold, hstate, hctr⟩ := s.dev.pauseOff_shows n h
    obtain ⟨hport, hsamectr, hsame, halso⟩ := (s.dev.pauseOff n k).pauseAlso_shows n also
    refine .of _ (pauseQuantaExpire_ends hn also (by simp [h])) ⟨?_, hsame.trans hstate, ?_, halso, ?_⟩
    · rw [hport, hnone]
    · rw [hport, hhold]
    · rw [hsamectr, hctr]

end Sys2Proof.Machine
end

section
/-! PROOFS. Transmit underruns (R72) of a port that the module does not have: the statement on departing frames lets TX_UNDERRUN name any port, and
TX_UNDERRUN itself looks only at what the port is sending. -/
namespace Sys2Proof.Machine
open Sys2Proof

/-- A host frame of ring 0, discarded while its data is fetched, whose completion has its place. -/
def droppedHostFrame : Shut := { (({} : Shut).set S.DIR 1) with
  ring := some 0
  cplPos := some 0
  dropReason := some 6 }

/-- A module whose state lists a port 160, which is sending that frame. PORT_EVENT of a port 160 would lie at 0xC00008, where RING_LOG_INDEX lies: the log of ring errors has 7
entries. Function 0 may issue requests and ring 0 is active, and every access of function 0 faults, as Selvedge is at module reset (R300). -/
def sendingBeyondPorts : State where
  dev := { ((({} : Dev).set F.RING_LOG_INDEX_HEAD 7).set (F.HIF_LINK_STATUS_UP 0) 1).modHif
      (fun h => { h with fns := [(0, { state := FnSt.active, bme := true })] }) with
    net := { ports := [(160, { sending := some 0 })] }
    rings := [(0, { state := RS.active })]
    shuts := [(0, droppedHostFrame)] }
  ddr := []
  pending := []

/-- What a command's next state shows in a register field. -/
def shownAfter (c : Instr) (s : State) (f : Fld) : Option Nat := match exec c s with
  | .next t => some (t.dev.get f)
  | _ => none

/-- The underrun raises its event, and the frame's completion then fails: its ring enters ERROR, and the entry of the log moves HEAD from 7 to 8,
which clears the bit. -/
theorem sendingBeyondPorts_event : shownAfter (.txUnderrun 160) sendingBeyondPorts (F.PORT_EVENT_UNDERRUN 160) = some 0 := by decide +kernel

theorem Yields.shown {c : Instr} {s : State} {P : Dev → Prop} (h : Yields c s P) (f : Fld) : ∃ d, shownAfter c s f = some (d.get f) ∧ P d := by
  obtain ⟨d, hexec, hd⟩ := h
  exact ⟨d, by rw [shownAfter, hexec], hd⟩

/-- Refutes O20: its clause on TX_UNDERRUN bounds no port. At 160 the event register of the port is the index of the ring error log, and the log entry of
the frame's failed completion takes UNDERRUN away again. -/
theorem not_framesLeaveStampedAndUnderrunsCount : ¬ Obligations.FramesLeaveStampedAndUnderrunsCount := by
  unfold Obligations.FramesLeaveStampedAndUnderrunsCount
  rintro ⟨-, -, -, hunderrun⟩
  have hdir : droppedHostFrame.get S.DIR = 1 := by decide +kernel
  have hstatus : droppedHostFrame.get S.STATUS = 0 := by decide +kernel
  obtain ⟨d, hshown, -, hevent, -⟩ := (hunderrun sendingBeyondPorts 160 0 0 droppedHostFrame rfl rfl rfl hdir rfl hstatus rfl rfl rfl).shown
    (F.PORT_EVENT_UNDERRUN 160)
  rw [sendingBeyondPorts_event, hevent] at hshown
  exact absurd hshown (by decide)

end Sys2Proof.Machine
end

section
/-! PROOFS. Redundant feeds (R78, R80): Table 4 for each place of a number, a gap's timeout, and the PRP source table. -/
namespace Sys2Proof.Machine
open Sys2Proof

/-! ## A group's state read after a write -/

section
variable (d : Dev) (g : Nat)

@[simp] theorem Dev.abGroup_putAb_self (x : AbGroup) : (d.putAb g x).abGroup g = x := by simp [Dev.abGroup, Dev.putAb, mapGetD]

theorem Dev.abGroup_putAb_ne (x : AbGroup) {k : Nat} (h : k ≠ g) : (d.putAb g x).abGroup k = d.abGroup k := by
  simp [Dev.abGroup, Dev.putAb, mapGetD, mapGet_mapPut_ne _ _ h]

@[simp] theorem Dev.abGroup_count (k n : Nat) : (d.count k n).abGroup g = d.abGroup g := rfl
@[simp] theorem Dev.ctr_putAb (x : AbGroup) (k : Nat) : (d.putAb g x).ctr k = d.ctr k := rfl

/-- No gap is logged while at most 16 are open. -/
theorem Dev.abTrim_fits (h : (d.abGroup g).gaps.length ≤ 16) (n : Nat) : d.abTrim g n = d := by
  cases n with
  | zero => rfl
  | succ n =>
    simp only [Dev.abTrim]
    split
    · exact if_neg (by omega)
    · rfl

/-- A gap logged as lost moves its two counts, and no group. -/
theorem Dev.abGapLost_shows (gap : Nat × Nat) : (d.abGapLost g gap).ctr K.AB_GAPS = (d.ctr K.AB_GAPS + 1) % 2 ^ 64 ∧
    (d.abGapLost g gap).ctr K.AB_GAP_SEQS = (d.ctr K.AB_GAP_SEQS + gap.2) % 2 ^ 64 ∧ ∀ k, (d.abGapLost g gap).abGroup k = d.abGroup k := by
  obtain ⟨w, hw⟩ := d.logPut_eq 0x2F0010 0x2F8000 8 (d.nowNs % 2 ^ 64 + 2 ^ 64 * (gap.1 % 2 ^ 64) + 2 ^ 128 * (min gap.2 (2 ^ 32 - 1)) +
    2 ^ 160 * (g % 1024) + 2 ^ 176 * 0)
  have hlog : d.abLog g 0 gap.1 gap.2 = { d with bus := { d.bus with words := w } } := hw
  have hctr : ∀ k, (d.abLog g 0 gap.1 gap.2).ctr k = d.ctr k := fun k => by rw [hlog]; rfl
  refine ⟨?_, ?_, fun k => ?_⟩
  · exact (Dev.ctr_count_ne _ _ _ (by decide)).trans ((Dev.ctr_count_self _ _ _).trans (by rw [hctr]))
  · refine (Dev.ctr_count_self _ _ _).trans ?_
    rw [Dev.ctr_count_ne _ _ _ (by decide), hctr]
  · change (d.abLog g 0 gap.1 gap.2).abGroup k = _
    rw [hlog]
    rfl

end

/-! ## Table 4 -/

/-- The number `k` places on from `h` lies `k` ahead of it. -/
theorem ahead_of_next {m h k : Nat} (hh : h < m) (hk : k < m) : ((h + k) % m + m - h) % m = k := by
  by_cases hlt : h + k < m
  · rw [Nat.mod_eq_of_lt hlt, show h + k + m - h = k + m by omega, Nat.add_mod_right, Nat.mod_eq_of_lt hk]
  · rw [show (h + k) % m = h + k - m by rw [Nat.mod_eq_sub_mod (by omega), Nat.mod_eq_of_lt (by omega)], show h + k - m + m - h = k by omega,
      Nat.mod_eq_of_lt hk]

/-- The group once a number ahead of its highest is delivered: the numbers passed over open a gap. -/
def AbGroup.movedOn (x : AbGroup) (m h seq : Nat) : AbGroup :=
  { x with
    high := some seq
    marked := seq :: x.marked.filter (fun k => (seq + m - k) % m ≤ 1023)
    gaps := if (seq + m - h) % m = 1 then x.gaps else x.gaps ++ [((h + 1) % m, (seq + m - h) % m - 1)]
    behind := 0 }

/-- A group that has delivered and is not due to start again goes by its highest number. -/
theorem AbGroup.known {x : AbGroup} {h : Nat} (hh : x.high = some h) (hr : x.rewind = false) : (if x.rewind then none else x.high) = some h := by
  rw [hr, hh]
  rfl

section
variable (d : Dev) {g m h seq : Nat} (hh : (d.abGroup g).high = some h) (hr : (d.abGroup g).rewind = false)
include hh hr

/-- A number in an open gap is delivered. -/
theorem Dev.abDecide_inGap (hg : inGap m seq (d.abGroup g).gaps = true) : (d.abDecide g m seq).2 = true := by
  simp only [Dev.abDecide, AbGroup.known hh hr, hg, if_true]

/-- A number ahead, in no gap, is delivered and moves the group on; with at most 16 gaps then open none is logged. -/
theorem Dev.abDecide_ahead (hg : inGap m seq (d.abGroup g).gaps = false) (h0 : (seq + m - h) % m ≠ 0) (hlt : (seq + m - h) % m < m / 2)
    (hfit : ((d.abGroup g).movedOn m h seq).gaps.length ≤ 16) :
    d.abDecide g m seq = ((d.putAb g ((d.abGroup g).movedOn m h seq)).count K.AB_FIRST, true) := by
  have htrim : ((d.putAb g ((d.abGroup g).movedOn m h seq)).count K.AB_FIRST).abTrim g 1 =
      (d.putAb g ((d.abGroup g).movedOn m h seq)).count K.AB_FIRST :=
    Dev.abTrim_fits _ _ (by rw [Dev.abGroup_count, Dev.abGroup_putAb_self]; exact hfit) 1
  simp only [Dev.abDecide, AbGroup.known hh hr, hg, h0, hlt, ne_eq, not_false_eq_true, and_self, if_true, Bool.false_eq_true, if_false]
  exact congrArg (·, true) htrim

/-- A marked number, in no gap and not ahead, is dropped and counted. -/
theorem Dev.abDecide_marked (hg : inGap m seq (d.abGroup g).gaps = false) (ha : (seq + m - h) % m = 0 ∨ m / 2 ≤ (seq + m - h) % m)
    (hm : seq ∈ (d.abGroup g).marked) :
    d.abDecide g m seq = ((d.putAb g { d.abGroup g with behind := 0 }).count K.AB_SECOND_DROP, false) := by
  have hahead : ¬ ((seq + m - h) % m ≠ 0 ∧ (seq + m - h) % m < m / 2) := by omega
  have hmarked : (d.abGroup g).marked.contains seq = true := List.contains_iff_mem.2 hm
  simp only [Dev.abDecide, AbGroup.known hh hr, hg, hahead, hmarked, if_true, Bool.false_eq_true, if_false]

end

/-! ## AB_GAP_TIMEOUT (R80) and PRP_ENTRY_FORGET (R78) -/

/-- A gap's timeout logs it as lost and closes it. -/
theorem abGapTimeout_closes {s : State} {g first n : Nat} (h : (s.dev.abGroup g).gaps.find? (fun p => p.1 == first) = some (first, n)) :
    exec (.abGapTimeout g first) s = done s ((s.dev.abGapLost g (first, n)).putAb g
      { s.dev.abGroup g with gaps := (s.dev.abGroup g).gaps.filter (fun p => p.1 != first) }) := by
  change execAbGapTimeout g first s = _
  simp only [execAbGapTimeout, h]

theorem abGapTimeout_ignored {s : State} {g first : Nat} (h : (s.dev.abGroup g).gaps.find? (fun p => p.1 == first) = none) :
    exec (.abGapTimeout g first) s = done s s.dev := by
  change execAbGapTimeout g first s = _
  simp only [execAbGapTimeout, h]

/-- A forgotten source leaves the table of its pair, and no other source does. -/
theorem prpEntryForget_removes (s : State) (pair mac : Nat) : Yields (.prpEntryForget pair mac) s (fun d =>
    (∀ e, e ∈ mapGetD d.net.prpSources pair [] ↔ e ∈ mapGetD s.dev.net.prpSources pair [] ∧ e.mac ≠ mac) ∧
    (∀ p, p ≠ pair → mapGet d.net.prpSources p = mapGet s.dev.net.prpSources p) ∧ { d with net := s.dev.net } = s.dev) := by
  refine ⟨_, rfl, fun e => ?_, fun p hp => mapGet_mapPut_ne _ _ hp, rfl⟩
  change e ∈ mapGetD (mapPut s.dev.net.prpSources pair _) pair [] ↔ _
  rw [mapGetD, mapGet_mapPut_self, Option.getD_some, List.mem_filter, bne_iff_ne]

/-! ## The statement -/

/-- Settles O21: the rows of Table 4 by where the number lies, the timeout by what a lost gap counts, and the source table by its filter. -/
theorem redundantFeedsAreJudged : Obligations.RedundantFeedsAreJudged := by
  unfold Obligations.RedundantFeedsAreJudged
  refine ⟨?next, ?ahead, fun d g m h n hh hr hg => d.abDecide_inGap hh hr hg, ?marked, ?timeout,
    fun s g first h => .of _ (abGapTimeout_ignored h) rfl, prpEntryForget_removes⟩
  case next =>
    intro d g m h hm _ hlt hh hr hg hfit
    have hone := ahead_of_next (k := 1) hlt (by omega)
    have hgaps : ((d.abGroup g).movedOn m h ((h + 1) % m)).gaps = (d.abGroup g).gaps := if_pos hone
    rw [d.abDecide_ahead hh hr hg (by omega) (by omega) (by rw [hgaps]; exact hfit), Dev.abGroup_count, Dev.abGroup_putAb_self]
    exact ⟨rfl, rfl, hgaps⟩
  case ahead =>
    intro d g m h k hm _ hlt hh hr hk hk2 hg hfit
    have hplace := ahead_of_next (k := k) hlt (by omega)
    have hgaps : ((d.abGroup g).movedOn m h ((h + k) % m)).gaps = (d.abGroup g).gaps ++ [((h + 1) % m, k - 1)] := by
      simp only [AbGroup.movedOn, hplace, Nat.ne_of_gt hk, if_false]
    rw [d.abDecide_ahead hh hr hg (by omega) (by omega) (by rw [hgaps, List.length_append, List.length_singleton]; omega), Dev.abGroup_count,
      Dev.abGroup_putAb_self]
    exact ⟨rfl, rfl, hgaps⟩
  case marked =>
    intro d g m h n hh hr hg ha hm
    rw [d.abDecide_marked hh hr hg ha hm]
    exact ⟨rfl, (Dev.ctr_count_self _ _ _).trans (by rw [Dev.ctr_putAb])⟩
  case timeout =>
    intro s g first n h
    obtain ⟨hgaps, hseqs, hgroups⟩ := s.dev.abGapLost_shows g (first, n)
    refine .of _ (abGapTimeout_closes h) ⟨hgaps, hseqs, ?_, ?_, fun k hk => ?_⟩
    · simp
    · simp
    · rw [Dev.abGroup_putAb_ne _ _ _ hk, hgroups]

end Sys2Proof.Machine
end

section
/-! PROOFS. Quartz and its frequency word (R82, R84, R86): the increment of a cycle, FREQ_WRITE and TIME_LATCH. -/
namespace Sys2Proof.Machine
open Sys2Proof

/-! ## Fields of two words, and registers read through a choice -/

/-- A field depends on the word at its address and on the next one alone. -/
theorem Dev.get_eq_of_words_eq {d e : Dev} {f : Fld} (h : d.word f.addr = e.word f.addr) (h' : d.word (f.addr + 4) = e.word (f.addr + 4)) :
    d.get f = e.get f := by
  simp only [Dev.word] at h h'
  simp only [Dev.get, fieldGet, h, h']

theorem Dev.get_ite (c : Prop) [Decidable c] (d e : Dev) (g : Fld) : (if c then d else e).get g = if c then d.get g else e.get g :=
  apply_ite (fun x : Dev => x.get g) c d e

theorem Dev.ctr_ite (c : Prop) [Decidable c] (d e : Dev) (k : Nat) : (if c then d else e).ctr k = if c then d.ctr k else e.ctr k :=
  apply_ite (fun x : Dev => x.ctr k) c d e

/-! ## The limit of F (R84) -/

section
variable {v : Int}

theorem clampFreq_within (h : -freqLimit ≤ v) (h' : v ≤ freqLimit) : clampFreq v = v := by
  rw [clampFreq, if_neg (by omega), if_neg (by omega)]

theorem clampFreq_above (h : freqLimit < v) : clampFreq v = freqLimit := if_pos h

theorem clampFreq_below (h : v < -freqLimit) : clampFreq v = -freqLimit := by
  have hpos : -freqLimit < freqLimit := by decide
  rw [clampFreq, if_neg (by omega), if_pos h]

theorem clampFreq_bounds (v : Int) : -freqLimit ≤ clampFreq v ∧ clampFreq v ≤ freqLimit := by
  have hpos : -freqLimit < freqLimit := by decide
  unfold clampFreq
  split
  · omega
  · split <;> omega

end

/-! ## A frequency word taken -/

section
variable (d : Dev) (v : Int)

@[simp] theorem Dev.setFreq_f : (d.setFreq v).time.f = clampFreq v := by
  unfold Dev.setFreq
  dsimp only
  split <;> rfl

/-- Of the time's state, a frequency word changes F and its log alone. -/
theorem Dev.setFreq_time : { (d.setFreq v).time with f := d.time.f, fLog := d.time.fLog } = d.time := by
  unfold Dev.setFreq
  dsimp only
  split <;> rfl

@[simp] theorem Dev.setFreq_step : (d.setFreq v).time.step = d.time.step := (congrArg Time.step (d.setFreq_time v) :)
@[simp] theorem Dev.setFreq_holdStart : (d.setFreq v).time.holdStart = d.time.holdStart := (congrArg Time.holdStart (d.setFreq_time v) :)

/-- Beside the registers and the time's state, a frequency word changes nothing. -/
theorem Dev.setFreq_rest : { d.setFreq v with bus := d.bus, time := d.time } = d := by
  unfold Dev.setFreq
  dsimp only
  split <;> rfl

theorem Dev.word_setFreq : SameWordsBut [0x300018, 0x30001C, 0x300004] (d.setFreq v) d := fun a ha => by
  simp only [List.mem_cons, List.not_mem_nil, or_false, not_or] at ha
  obtain ⟨hlow, hhigh, hevent⟩ := ha
  have hshown : ∀ e : Dev, (e.set F.TIME_FREQ_F (unsignedOf 39 (clampFreq v))).word a = e.word a := fun e => e.word_set _ _ a hlow (.inr hhigh)
  unfold Dev.setFreq
  dsimp only
  split
  · exact hshown _
  · exact (Dev.word_set _ _ 1 a hevent (.inl (by decide))).trans (hshown _)

/-- A field apart from TIME_FREQ and from FREQ_CLAMP. -/
theorem Dev.get_setFreq {g : Fld} (h : F.TIME_FREQ_F.apart g = true) (h' : F.TIME_EVENT_FREQ_CLAMP.apart g = true) :
    (d.setFreq v).get g = d.get g := by
  unfold Dev.setFreq
  dsimp only
  split
  · exact Dev.get_set_apart _ _ _ _ h
  · exact (Dev.get_raise_apart _ _ _ h').trans (Dev.get_set_apart _ _ _ _ h)

/-- FREQ_CLAMP is raised where the word is beyond the limit. -/
theorem Dev.freqClamp_setFreq : (d.setFreq v).get F.TIME_EVENT_FREQ_CLAMP = if v = clampFreq v then d.get F.TIME_EVENT_FREQ_CLAMP else 1 := by
  unfold Dev.setFreq
  dsimp only
  split
  · exact Dev.get_set_apart _ _ _ _ (by decide)
  · exact Dev.get_raise_self _ _ (by decide) (by decide)

end

/-! ## One cycle, FREQ_WRITE and TIME_LATCH -/

/-- CLK10_OUT's level moves neither Quartz nor its frequency. -/
theorem Time.clkNext_keeps (t : Time) : t.clkNext.q = t.q ∧ t.clkNext.cycles = t.cycles ∧ t.clkNext.f = t.f := by
  unfold Time.clkNext
  dsimp only
  split <;> exact ⟨rfl, rfl, rfl⟩

/-- One cycle adds the exact increment, which is never negative within the limit of F. -/
theorem quartzNext_counts {t : Time} (hf : -freqLimit ≤ t.f) : (quartzNext t).q = (t.q + (5 * (2 ^ 48 + t.f)).toNat) % quartzMod ∧
    (quartzNext t).cycles = t.cycles + 1 ∧ (quartzNext t).f = t.f := by
  have hinc : 0 ≤ 5 * (2 ^ 48 + t.f) := by
    unfold freqLimit at hf
    omega
  obtain ⟨hq, hcycles, hsame⟩ := Time.clkNext_keeps { t with q := ((t.q : Int) + 5 * (2 ^ 48 + t.f)).toNat % quartzMod, cycles := t.cycles + 1 }
  refine ⟨hq.trans ?_, hcycles, hsame⟩
  rw [Int.toNat_add (Int.natCast_nonneg _) hinc, Int.toNat_natCast]

section
variable {s : State}

theorem freqWrite_sets (hi : Word) (hr : s.dev.responds 0x300018 = true) :
    exec (.freqWrite hi) s = done s (s.dev.setFreq (signedOf 39 ((s.dev.word 0x300018).toNat + 2 ^ 32 * hi.toNat))) := by
  change execFreqWrite hi s = _
  simp [execFreqWrite, hr]

theorem timeLatch_latches (hr : s.dev.responds 0x300008 = true) :
    exec .timeLatch s = done s ((s.dev.set F.TIME_NOW_NS_NS s.dev.nowNs).set F.TIME_NOW_FRAC_FRAC (s.dev.now % 65536)) := by
  change execTimeLatch s = _
  simp [execTimeLatch, hr]

end

/-- NOW_NS and NOW_FRAC written show what was written, and no other word changes. -/
theorem Dev.latch_shows (d : Dev) (ns frac : Nat) : ((d.set F.TIME_NOW_NS_NS ns).set F.TIME_NOW_FRAC_FRAC frac).get F.TIME_NOW_NS_NS = ns % 2 ^ 64 ∧
    ((d.set F.TIME_NOW_NS_NS ns).set F.TIME_NOW_FRAC_FRAC frac).get F.TIME_NOW_FRAC_FRAC = frac % 2 ^ 16 ∧
    SameWordsBut [0x30000C, 0x300010, 0x300014] ((d.set F.TIME_NOW_NS_NS ns).set F.TIME_NOW_FRAC_FRAC frac) d := by
  have hfrac : SameWordsBut [0x30000C] ((d.set F.TIME_NOW_NS_NS ns).set F.TIME_NOW_FRAC_FRAC frac) (d.set F.TIME_NOW_NS_NS ns) :=
    sameWordsBut_set _ _ (by decide)
  refine ⟨?_, Dev.get_set_self _ _ _ (by decide), fun a ha => ?_⟩
  · exact (Dev.get_eq_of_words_eq (hfrac _ (by decide)) (hfrac _ (by decide))).trans (Dev.get_set_self _ _ _ (by decide))
  · simp only [List.mem_cons, List.not_mem_nil, or_false, not_or] at ha
    obtain ⟨hc, hlow, hhigh⟩ := ha
    exact (hfrac a (by simpa using hc)).trans (d.word_set _ _ a hlow (.inr hhigh))

/-- Settles O22: the increment of a cycle, what a frequency word within and beyond the limit changes, and the latch. -/
theorem quartzIsSteeredLatchedAndCountsExactly : Obligations.QuartzIsSteeredLatchedAndCountsExactly := by
  unfold Obligations.QuartzIsSteeredLatchedAndCountsExactly
  refine ⟨fun t hf _ => quartzNext_counts hf, ?write, ?latch⟩
  case write =>
    rintro s hi v hr rfl
    obtain ⟨hlow, hhigh⟩ := clampFreq_bounds (signedOf 39 ((s.dev.word 0x300018).toNat + 2 ^ 32 * hi.toNat))
    refine .of _ (freqWrite_sets hi hr) ?_
    generalize signedOf 39 ((s.dev.word 0x300018).toNat + 2 ^ 32 * hi.toNat) = v at hlow hhigh
    rw [Dev.setFreq_f, Dev.freqClamp_setFreq]
    refine ⟨hlow, hhigh, fun ⟨h, h'⟩ => ?_, fun h => ?_, fun h => ?_, s.dev.setFreq_rest v, s.dev.setFreq_time v, s.dev.word_setFreq v⟩
    · rw [clampFreq_within h h']
      exact ⟨rfl, if_pos rfl⟩
    · rw [clampFreq_above h]
      exact ⟨rfl, if_neg (by omega)⟩
    · rw [clampFreq_below h]
      exact ⟨rfl, if_neg (by omega)⟩
  case latch =>
    intro s hr
    obtain ⟨hns, hfrac, hwords⟩ := s.dev.latch_shows s.dev.nowNs (s.dev.now % 65536)
    exact .of _ (timeLatch_latches hr) ⟨hns, hfrac.trans (Nat.mod_eq_of_lt (by omega)), rfl, hwords⟩

end Sys2Proof.Machine
end

section
/-! PROOFS. Clock steps (R83, R101 to R105): what a step moves, and what Ledger's records and the gates leave of the clock. -/
namespace Sys2Proof.Machine
open Sys2Proof

/-! ## What records and gates leave of the clock -/

/-- Two devices with the same time and the same shuttles whose words and counts below Ledger's agree, those of TIME among them. -/
structure Dev.ClockKept (d e : Dev) : Prop where
  time : e.time = d.time
  shuts : e.shuts = d.shuts
  word : ∀ a < 0x400000, e.word a = d.word a
  ctr : ∀ k < 0x400000, e.ctr k = d.ctr k

namespace Dev.ClockKept
variable {d e f : Dev}

theorem refl (d : Dev) : d.ClockKept d := ⟨rfl, rfl, fun _ _ => rfl, fun _ _ => rfl⟩

theorem trans (h : d.ClockKept e) (h' : e.ClockKept f) : d.ClockKept f :=
  ⟨h'.time.trans h.time, h'.shuts.trans h.shuts, fun a ha => (h'.word a ha).trans (h.word a ha), fun k hk => (h'.ctr k hk).trans (h.ctr k hk)⟩

theorem ite {c : Prop} [Decidable c] (h : d.ClockKept e) (h' : d.ClockKept f) : d.ClockKept (if c then e else f) := by
  split
  · exact h
  · exact h'

/-- A field of registers below Ledger's. -/
theorem get (h : d.ClockKept e) {g : Fld} (hg : g.addr + 4 < 0x400000) : e.get g = d.get g :=
  Dev.get_eq_of_words_eq (h.word _ (by omega)) (h.word _ hg)

/-- What Ledger and the fault block note is no part of the clock. -/
theorem of_noted {lo hi : Nat} (h : d.NotedIn lo hi e) (hlo : 0x400000 ≤ lo) : d.ClockKept e := by
  have hword : ∀ a < 0x400000, e.word a = d.word a := fun a ha => h.word a ⟨.inl ha, .inl (by omega)⟩
  have hctr : ∀ k < 0x400000, e.ctr k = d.ctr k := fun k hk => h.ctr k (.inl (by omega))
  obtain ⟨⟨l, m, b, rfl⟩, -⟩ := h
  exact ⟨rfl, rfl, hword, hctr⟩

end Dev.ClockKept

section
variable (d : Dev)

theorem Dev.clockKept_set {f : Fld} (v : Nat) (h : 0x400000 ≤ f.addr) : d.ClockKept (d.set f v) :=
  ⟨rfl, rfl, fun a ha => d.word_set f v a (by omega) (.inr (by omega)), fun _ _ => rfl⟩

theorem Dev.clockKept_count {k : Nat} (h : 0x400000 ≤ k) : d.ClockKept (d.count k) :=
  ⟨rfl, rfl, fun _ _ => rfl, fun _ hj => Dev.ctr_count_ne d k 1 (by omega)⟩

theorem Dev.clockKept_modNet (f : Net → Net) : d.ClockKept (d.modNet f) := ⟨rfl, rfl, fun _ _ => rfl, fun _ _ => rfl⟩
theorem Dev.clockKept_modReed (f : Reed → Reed) : d.ClockKept (d.modReed f) := ⟨rfl, rfl, fun _ _ => rfl, fun _ _ => rfl⟩

theorem Dev.clockKept_gateRefresh (n : Nat) : d.ClockKept (d.gateRefresh n) := by
  unfold Dev.gateRefresh
  split
  · exact (d.clockKept_set _ (Nat.le_add_right_of_le (by decide))).trans (Dev.clockKept_set _ _ (Nat.le_add_right_of_le (by decide)))
  · exact (d.clockKept_set _ (Nat.le_add_right_of_le (by decide))).trans (Dev.clockKept_set _ _ (Nat.le_add_right_of_le (by decide)))

theorem Dev.clockKept_gateStart (n : Nat) : d.ClockKept (d.gateStart n) := by
  unfold Dev.gateStart
  split
  · exact .refl d
  · exact .ite (.refl d) (((((d.clockKept_modReed _).trans (Dev.clockKept_set _ _ (Nat.le_add_right_of_le (by decide)))).trans
      (Dev.clockKept_set _ _ (Nat.le_add_right_of_le (by decide)))).trans (Dev.clockKept_set _ _ (by decide))).trans (Dev.clockKept_gateRefresh _ n))

theorem Dev.clockKept_gateStep (was : Nat) (delta : Int) (n : Nat) : d.ClockKept (d.gateStep was delta n) := by
  have hgates : ∀ e, d.ClockKept e → d.ClockKept ((e.gateStart n).gateRefresh n) := fun e h =>
    (h.trans (e.clockKept_gateStart n)).trans (Dev.clockKept_gateRefresh _ n)
  have hoverrun : 0x400000 ≤ K.REED_GATE_OVERRUN n := Nat.le_add_right_of_le (by decide)
  simp only [Dev.gateStep]
  refine .ite (((hgates _ ?_).trans (Dev.clockKept_count _ hoverrun)).trans (Dev.clockKept_set _ 1 (by decide))) (hgates _ ?_) <;>
  · exact .ite (d.clockKept_modNet _) (.refl d)

end

/-! ## A step applied (R83, R102, R105) -/

section
variable (d : Dev) (delta : Int)

/-- What a step does to Quartz. -/
def Dev.stepTime : Time :=
  { d.time with
    q := (((d.time.q : Int) + delta * (unit16 : Int)) % (quartzMod : Int)).toNat
    epochSum := (d.time.epochSum.map (· + delta)).set ((d.epoch + 1) % 4) 0
    step := none }

/-- The device whose Quartz and registers a step has moved, before Ledger's records of it and the gates. -/
def Dev.stepShown : Dev :=
  ((((({ d with time := d.stepTime delta }.set F.TIME_STATUS_EPOCH ((d.epoch + 1) % 4)).set F.TIME_STATUS_STEP_PENDING 0).set
    F.TIME_STATUS_VALID 1).raise F.TIME_EVENT_STEP_DONE).count K.TIME_STEPS)

/-- The records and the gates leave what the step has moved. -/
theorem Dev.applyStep_keeps : (d.stepShown delta).ClockKept (d.applyStep delta) :=
  (foldl_rel (r := Dev.ClockKept) .refl .trans _ (fun b k _ => .of_noted (Dev.notedFor_offerRecord b k _ _ _ _) (by omega)) _).trans
    (foldl_rel (r := Dev.ClockKept) .refl .trans _ (fun b n _ => b.clockKept_gateStep _ _ n) _)

theorem Dev.applyStep_time : (d.applyStep delta).time = d.stepTime delta := (d.applyStep_keeps delta).time

theorem Dev.applyStep_shuts : (d.applyStep delta).shuts = d.shuts := (d.applyStep_keeps delta).shuts

theorem Dev.applyStep_quartz : ((d.applyStep delta).time.q : Int) = ((d.time.q : Int) + delta * (unit16 : Int)) % (quartzMod : Int) := by
  rw [Dev.applyStep_time]
  exact Int.toNat_of_nonneg (Int.emod_nonneg _ (by decide))

theorem Dev.applyStep_epoch : (d.applyStep delta).epoch = (d.epoch + 1) % 4 := by
  refine ((d.applyStep_keeps delta).get (by decide)).trans ?_
  simp (disch := decide) only [Dev.stepShown, Dev.count_get, Dev.get_raise_apart, Dev.get_set_apart, Dev.get_set_self]
  exact Nat.mod_mod _ 4

theorem Dev.applyStep_status : (d.applyStep delta).get F.TIME_STATUS_VALID = 1 ∧ (d.applyStep delta).get F.TIME_EVENT_STEP_DONE = 1 ∧
    (d.applyStep delta).get F.TIME_STATUS_STEP_PENDING = 0 := by
  have hkept := d.applyStep_keeps delta
  rw [hkept.get (by decide), hkept.get (by decide), hkept.get (by decide)]
  simp (disch := decide) only [Dev.stepShown, Dev.count_get, Dev.get_raise_apart, Dev.get_set_apart, Dev.get_set_self, Dev.get_raise_self]
  decide

theorem Dev.applyStep_steps : (d.applyStep delta).ctr K.TIME_STEPS = (d.ctr K.TIME_STEPS + 1) % 2 ^ 64 :=
  ((d.applyStep_keeps delta).ctr _ (by decide)).trans (Dev.ctr_count_self _ _ _)

/-- Another count of TIME. -/
theorem Dev.applyStep_ctr {k : Nat} (hk : k < 0x400000) (h : k ≠ K.TIME_STEPS) : (d.applyStep delta).ctr k = d.ctr k :=
  ((d.applyStep_keeps delta).ctr k hk).trans (Dev.ctr_count_ne _ _ _ h)

/-- The sum of the new epoch begins at 0. -/
theorem Dev.applyStep_epochSum_new (h : d.time.epochSum.length = 4) : (d.applyStep delta).epochSum (d.applyStep delta).epoch = 0 := by
  have hlt : (d.epoch + 1) % 4 < 4 := Nat.mod_lt _ (by decide)
  rw [Dev.applyStep_epoch, Dev.epochSum, Dev.applyStep_time]
  simp [Dev.stepTime, List.getD_eq_getElem?_getD, h, hlt]

/-- The sum of every other epoch grows by the step. -/
theorem Dev.applyStep_epochSum (h : d.time.epochSum.length = 4) {e : Nat} (he : e < 4) (hne : e ≠ (d.applyStep delta).epoch) :
    (d.applyStep delta).epochSum e = d.epochSum e + delta := by
  rw [Dev.applyStep_epoch] at hne
  rw [Dev.epochSum, Dev.applyStep_time]
  simp [Dev.stepTime, Dev.epochSum, List.getD_eq_getElem?_getD, h, he, hne.symm]

end

/-! ## STEP_GO, STEP_APPLY and STEP_FOLD -/

section
variable (d : Dev) (delta : Int) (at_ : Nat)

/-- A step requested while none is pending. -/
theorem Dev.requestStep_new (h : d.time.step = none) : d.requestStep delta at_ =
    { d with time := { d.time with step := some ⟨delta, if at_ ≤ d.nowNs then 0 else at_, false, d.time.cycles⟩ } }.set F.TIME_STATUS_STEP_PENDING 1 := by
  simp only [Dev.requestStep, h]

/-- A step requested while one is pending. -/
theorem Dev.requestStep_pending {r : StepReq} (h : d.time.step = some r) : d.requestStep delta at_ = d.raise F.TIME_EVENT_STEP_GO_IGNORED := by
  simp only [Dev.requestStep, h]

/-- When a step's time has come. -/
theorem Dev.stepDue_iff (r : StepReq) :
    d.stepDue r = true ↔ (r.at_ = 0 ∧ r.go + 64 ≤ d.time.cycles) ∨ (r.at_ ≠ 0 ∧ r.at_ ≤ d.nowNs) := by
  unfold Dev.stepDue
  split <;> simp [*]

end

section
variable {s : State} {r : StepReq}

theorem stepGo_requests (fr : Nat) (hr : s.dev.responds 0x300030 = true) : exec (.stepGo fr) s = done s ((s.dev.set F.TIME_STEP_CTRL_FRAC fr).requestStep
    (signedOf 64 (s.dev.get F.TIME_STEP_NS_DELTA) * 65536 + (fr % 65536 : Nat)) (s.dev.get F.TIME_STEP_AT_AT)) := by
  change execStepGo fr s = _
  simp (disch := decide) only [execStepGo, hr, Dev.get_set_apart, Bool.not_true, Bool.false_eq_true, if_false]

variable (h : s.dev.time.step = some r)
include h

theorem stepApply_early (hd : s.dev.stepDue r = false) : exec .stepApply s = done s s.dev := by
  change execStepApply s = _
  simp [execStepApply, h, hd]

theorem stepApply_waits (hd : s.dev.stepDue r = true) (he : s.dev.epochHeld ((s.dev.epoch + 1) % 4) = true) :
    exec .stepApply s = done s ({ s.dev with time := { s.dev.time with step := some { r with held := true } } }.raise F.TIME_EVENT_STEP_HELD) := by
  change execStepApply s = _
  simp [execStepApply, h, hd, he]

theorem stepApply_applies (hd : s.dev.stepDue r = true) (he : s.dev.epochHeld ((s.dev.epoch + 1) % 4) = false) :
    exec .stepApply s = done s (s.dev.applyStep r.delta) := by
  change execStepApply s = _
  simp [execStepApply, h, hd, he]

theorem stepFold_ignored (hf : r.held = false ∨ s.dev.time.cycles < r.go + 12000000) : exec .stepFold s = done s s.dev := by
  change execStepFold s = _
  rcases hf with hf | hf
  · simp [execStepFold, h, hf]
  · simp [execStepFold, h, hf]

end

/-- The device in which what the epoch `old` still holds has been folded into the next one, and its shuttles counted (R104). -/
def Dev.foldHeld (d : Dev) (old : Nat) : Dev :=
  ({ d with shuts := d.shuts.map (fun (p : Nat × Shut) => (p.1, foldShut d.now d.epoch old p.2)) }.foldPending old).count K.TIME_EPOCH_FOLD
    (d.shuts.filter (fun (p : Nat × Shut) => p.2.inEpoch old)).length

theorem stepFold_folds {s : State} {r : StepReq} (h : s.dev.time.step = some r) (hh : r.held = true) (hc : r.go + 12000000 ≤ s.dev.time.cycles) :
    exec .stepFold s = done s ((s.dev.foldHeld ((s.dev.epoch + 1) % 4)).applyStep r.delta) := by
  change execStepFold s = _
  simp only [execStepFold, h, hh, Nat.not_lt.2 hc, decide_false, Bool.not_true, Bool.or_false, Bool.false_eq_true, if_false]
  rfl

/-- Settles O23: a request by whether one is pending, STEP_APPLY and STEP_FOLD by their guards, and the step by what it moves. -/
theorem clockStepsApplyOnceTheirEpochIsFree : Obligations.ClockStepsApplyOnceTheirEpochIsFree := by
  unfold Obligations.ClockStepsApplyOnceTheirEpochIsFree
  refine ⟨?request, ?ignored, ?applied, ?held, ?early, ?folded, fun s r h hf => .of _ (stepFold_ignored h hf) rfl⟩
  case request =>
    intro s fr hr hfr h
    refine .of _ (stepGo_requests fr hr) ?_
    rw [Dev.requestStep_new (s.dev.set F.TIME_STEP_CTRL_FRAC fr) _ _ h, Nat.mod_eq_of_lt hfr]
    exact ⟨Dev.get_set_self _ _ _ (by decide), rfl, rfl⟩
  case ignored =>
    intro s fr r hr h
    refine .of _ (stepGo_requests fr hr) ?_
    rw [Dev.requestStep_pending (s.dev.set F.TIME_STEP_CTRL_FRAC fr) _ _ h]
    exact ⟨Dev.get_raise_self _ _ (by decide) (by decide), rfl⟩
  case applied =>
    intro s r h hdue hlen hfree
    obtain ⟨hvalid, hdone, hpending⟩ := s.dev.applyStep_status r.delta
    refine .of _ (stepApply_applies h ((s.dev.stepDue_iff r).2 hdue) hfree) ⟨s.dev.applyStep_quartz r.delta, s.dev.applyStep_epoch r.delta,
      s.dev.applyStep_epochSum_new r.delta hlen, fun e he hne => s.dev.applyStep_epochSum r.delta hlen he hne, hvalid, hdone,
      s.dev.applyStep_steps r.delta, ?_, hpending, ?_, s.dev.applyStep_shuts r.delta⟩ <;>
    · rw [Dev.applyStep_time]
      rfl
  case held =>
    intro s r h hdue hheld
    exact .of _ (stepApply_waits h ((s.dev.stepDue_iff r).2 hdue) hheld) ⟨Dev.get_raise_self _ _ (by decide) (by decide), rfl, rfl⟩
  case early =>
    intro s r h hwait
    refine .of _ (stepApply_early h ?_) rfl
    rw [← Bool.not_eq_true, Dev.stepDue_iff]
    omega
  case folded =>
    intro s r h hh hc hroom
    have hcount : (s.dev.shuts.filter (fun p => p.2.inEpoch ((s.dev.epoch + 1) % 4))).length ≤ s.dev.shuts.length := List.length_filter_le _ _
    refine .of _ (stepFold_folds h hh hc) ⟨Dev.applyStep_quartz _ _, ?_, (Dev.applyStep_shuts _ _).trans rfl, ?_⟩
    · rw [Dev.applyStep_time]
      rfl
    · rw [Dev.applyStep_ctr _ _ (by decide) (by decide)]
      exact (Dev.ctr_count_self _ _ _).trans (Nat.mod_eq_of_lt (Nat.lt_of_le_of_lt (Nat.add_le_add_left hcount _) hroom))

/-! ## Comparisons across a step (R103) -/

/-- A step without a wrap moves the time now by itself. -/
theorem Dev.applyStep_now (d : Dev) (delta : Int) (h : 0 ≤ (d.time.q : Int) + delta * (unit16 : Int))
    (h' : (d.time.q : Int) + delta * (unit16 : Int) < (quartzMod : Int)) : ((d.applyStep delta).now : Int) = d.now + delta := by
  have hq := d.applyStep_quartz delta
  rw [Int.emod_eq_of_lt h h'] at hq
  rw [Dev.now, Dev.now, Int.natCast_ediv, Int.natCast_ediv, hq, Int.add_mul_ediv_right _ _ (by decide)]

/-- Settles O24: every kept epoch's sum, and the time now, grow by the step. -/
theorem aStepKeepsEveryComparison : Obligations.AStepKeepsEveryComparison := by
  unfold Obligations.AStepKeepsEveryComparison
  intro d delta hlen hzero hlow hhigh
  have hscale : ∀ t e : Nat, e < 4 → e ≠ (d.applyStep delta).epoch → (d.applyStep delta).onScale t e = d.onScale t e + delta := fun t e he hne => by
    rw [Dev.onScale, Dev.onScale, d.applyStep_epochSum delta hlen he hne]
    omega
  have hnow : (d.applyStep delta).onScale (d.applyStep delta).now (d.applyStep delta).epoch = d.onScale d.now d.epoch + delta := by
    rw [Dev.onScale, Dev.onScale, d.applyStep_epochSum_new delta hlen, d.applyStep_now delta hlow hhigh, hzero]
    omega
  refine ⟨fun t1 t2 e1 e2 h1 h2 hne1 hne2 => ?_, fun t e he hne => ?_⟩
  · rw [hscale t1 e1 h1 hne1, hscale t2 e2 h2 hne2]
    omega
  · rw [hnow, hscale t e he hne]
    omega

end Sys2Proof.Machine
end

section
/-! PROOFS. The timing inputs (R92 to R95): PPS_IN, CLK10_IN and TOD_RX. -/
namespace Sys2Proof.Machine
open Sys2Proof

/-! ## PPS_IN (R93) -/

/-- A stamp that finds the last one unread. -/
def Dev.ppsOverrun (d : Dev) : Dev := if d.time.ppsUnread then (d.count K.TIME_PPS_IN_OVERRUN).raise F.TIME_EVENT_PPS_IN_OVERRUN else d

/-- A stamp stored, shown and counted. -/
def Dev.ppsStamped (d : Dev) (t : Nat) : Dev :=
  (((((d.ppsOverrun.set F.TIME_PPS_IN_NS_NS (t / 65536)).set F.TIME_PPS_IN_FRAC_FRAC (t % 65536)).raise F.TIME_EVENT_PPS_IN).set
    F.TIME_STATUS_PPS_IN_OK 1).modTime (fun x => { x with ppsUnread := true })).count K.TIME_PPS_IN_EDGES

section
variable {s : State}

theorem ppsInEdge_stamps {rise : Bool} (off : Nat) (h : s.dev.time.decl.ppsIn = (if rise then 1 else 2)) (hr : s.dev.sys.inReset = false) :
    exec (.ppsInEdge rise off) s = done s (s.dev.ppsStamped (netStamp (s.dev.now + off * 1024))) := by
  change execPpsInEdge rise off s = _
  simp only [execPpsInEdge, h, hr, ne_eq, not_true, decide_false, Bool.or_false, Bool.false_eq_true, if_false]
  rfl

theorem ppsInEdge_ignored {rise : Bool} (off : Nat) (h : s.dev.time.decl.ppsIn ≠ (if rise then 1 else 2)) :
    exec (.ppsInEdge rise off) s = done s s.dev := by
  change execPpsInEdge rise off s = _
  simp only [execPpsInEdge, h, ne_eq, not_false_eq_true, decide_true, Bool.true_or, if_true]

theorem ppsInLoss_raises (h : s.dev.time.decl.ppsIn ≠ 0) :
    exec (.ppsInLoss false) s = done s ((s.dev.raise F.TIME_EVENT_PPS_IN_LOSS).set F.TIME_STATUS_PPS_IN_OK 0) := by
  change execPpsInLoss false s = _
  simp [execPpsInLoss, h]

theorem ppsInRead_answers (hr : s.dev.responds 0x300040 = true) : exec .ppsInRead s =
    done s (((s.dev.emit (.readData (s.dev.get F.TIME_PPS_IN_NS_NS))).set F.TIME_PPS_IN_NS_NS 0).modTime (fun t => { t with ppsUnread := false })) := by
  change execPpsInRead s = _
  simp only [execPpsInRead, hr, Bool.not_true, Bool.false_eq_true, if_false]
  rfl

end

section
variable (d : Dev) (t : Nat)

theorem Dev.ppsStamped_shows : (d.ppsStamped t).get F.TIME_PPS_IN_NS_NS = t / 65536 % 2 ^ 64 ∧
    (d.ppsStamped t).get F.TIME_PPS_IN_FRAC_FRAC = t % 65536 ∧ (d.ppsStamped t).get F.TIME_EVENT_PPS_IN = 1 ∧
    (d.ppsStamped t).get F.TIME_STATUS_PPS_IN_OK = 1 := by
  simp (disch := decide) only [Dev.ppsStamped, Dev.count_get, Dev.modTime_get, Dev.get_set_apart, Dev.get_raise_apart, Dev.get_raise_self, Dev.get_set_self]
  exact ⟨rfl, Nat.mod_mod _ _, trivial, rfl⟩

/-- Every stamp counts as an edge, and one that finds the last one unread as an overrun. -/
theorem Dev.ppsStamped_counts : (d.ppsStamped t).ctr K.TIME_PPS_IN_EDGES = (d.ctr K.TIME_PPS_IN_EDGES + 1) % 2 ^ 64 ∧
    (d.ppsStamped t).ctr K.TIME_PPS_IN_OVERRUN =
      if d.time.ppsUnread then (d.ctr K.TIME_PPS_IN_OVERRUN + 1) % 2 ^ 64 else d.ctr K.TIME_PPS_IN_OVERRUN := by
  have hother : K.TIME_PPS_IN_EDGES ≠ K.TIME_PPS_IN_OVERRUN := by decide
  simp [Dev.ppsStamped, Dev.ppsOverrun, Dev.ctr_count_self, Dev.ctr_count_ne, Dev.ctr_ite, hother, hother.symm]

end

/-! ## CLK10_IN (R94, R100) -/

/-- The bits above those read do not count. -/
theorem signedOf_mod (w x : Nat) : signedOf w (x % 2 ^ w) = signedOf w x := by
  rw [signedOf, signedOf, Nat.mod_mod]

/-- A number within the range of `w` bits is read back from its two's complement. -/
theorem signedOf_unsignedOf {w : Nat} {x : Int} (hw : 0 < w) (hlow : -(2 ^ (w - 1) : Nat) ≤ x) (hhigh : x < (2 ^ (w - 1) : Nat)) :
    signedOf w (unsignedOf w x) = x := by
  have hmod : 2 ^ w = 2 * 2 ^ (w - 1) := by rw [← Nat.pow_succ', Nat.succ_eq_add_one, Nat.sub_add_cancel hw]
  have hbits : ((unsignedOf w x : Nat) : Int) = if 0 ≤ x then x else x + (2 ^ w : Nat) := by
    rw [unsignedOf, Int.toNat_of_nonneg (Int.emod_nonneg _ (by positivity))]
    split
    · exact Int.emod_eq_of_lt ‹_› (by omega)
    · rw [← Int.add_emod_right, Int.emod_eq_of_lt (by omega) (by omega)]
  have hlt : unsignedOf w x < 2 ^ w := by
    split at hbits <;> omega
  rw [signedOf, Nat.mod_eq_of_lt hlt]
  split at hbits <;> split <;> omega

/-- No edge is further than 50 ns from the nearest boundary. -/
theorem clk10Phase_near (t : Nat) : (clk10Phase t).natAbs ≤ 50 * 65536 := by
  unfold clk10Phase
  dsimp only
  split <;> omega

/-- The phase of an edge shown, and CLK10_OK set. -/
def Dev.clkMeasured (d : Dev) (t : Nat) : Dev := (d.set F.TIME_CLK10_PHASE_PHASE (unsignedOf 32 (clk10Phase t))).set F.TIME_STATUS_CLK10_OK 1

theorem Dev.clkMeasured_shows (d : Dev) (t : Nat) : (d.clkMeasured t).get F.TIME_STATUS_CLK10_OK = 1 ∧
    signedOf 32 ((d.clkMeasured t).get F.TIME_CLK10_PHASE_PHASE) = clk10Phase t := by
  have hnear := clk10Phase_near t
  simp (disch := decide) only [Dev.clkMeasured, Dev.get_set_apart, Dev.get_set_self]
  refine ⟨rfl, ?_⟩
  have hread : signedOf 32 (unsignedOf 32 (clk10Phase t)) = clk10Phase t := signedOf_unsignedOf (by decide) (by omega) (by omega)
  exact (signedOf_mod 32 _).trans hread

/-- A measured edge does not change whether CLK10_IN holds. -/
theorem Dev.clkHolds_clkMeasured (d : Dev) (t : Nat) : (d.clkMeasured t).clkHolds = d.clkHolds := by
  simp (disch := decide) only [Dev.clkHolds, Dev.clkMeasured, Dev.get_set_apart, Dev.set_time]

section
variable {s : State} (h : s.dev.time.decl.clk10In ≠ 0)
include h

theorem clk10Measure_measures (edge : Clk10Edge) : exec (.clk10Measure edge) s = done s (if s.dev.clkHolds && s.dev.sys.firmwareLoaded then
    (s.dev.clkMeasured (s.dev.now + edge.offset * 1024)).setFreq edge.steer else s.dev.clkMeasured (s.dev.now + edge.offset * 1024)) := by
  rw [← s.dev.clkHolds_clkMeasured (s.dev.now + edge.offset * 1024)]
  change execClk10Measure edge s = _
  simp only [execClk10Measure, h, if_false]
  rfl

theorem clk10Loss_ends : exec .clk10Loss s = done s (if s.dev.clkHolds && s.dev.sys.firmwareLoaded && s.dev.flag F.TIME_STATUS_CLK10_OK then
    ((s.dev.raise F.TIME_EVENT_CLK10_LOSS).set F.TIME_STATUS_CLK10_OK 0).setFreq s.dev.time.fHold
    else (s.dev.raise F.TIME_EVENT_CLK10_LOSS).set F.TIME_STATUS_CLK10_OK 0) := by
  change execClk10Loss s = _
  simp only [execClk10Loss, h, if_false]
  rfl

/-- CLK10_LOSS shows the loss, whether or not a frequency word follows. -/
theorem clk10Loss_shows : Yields .clk10Loss s (fun d => d.get F.TIME_STATUS_CLK10_OK = 0 ∧ d.get F.TIME_EVENT_CLK10_LOSS = 1) := by
  refine .of _ (clk10Loss_ends h) ?_
  simp (disch := decide) only [Dev.get_ite, Dev.get_setFreq, ite_self, Dev.get_set_apart, Dev.get_raise_self, Dev.get_set_self]
  decide

end

/-! ## TOD_RX (R95, R455) -/

/-- The place of a character in the window. -/
def todCell (head : Nat) : Fld := ⟨0x302000 + head / 4 * 4, 8 * (head % 4), 8⟩

/-- A field of a register below the window. -/
theorem apart_todCell {f : Fld} (h : f.addr + 4 < 0x302000) (head : Nat) : f.apart (todCell head) = true ∧ (todCell head).apart f = true := by
  have hcell : 0x302000 ≤ (todCell head).addr := Nat.le_add_right _ _
  simp only [Fld.apart, Bool.or_eq_true, decide_eq_true_eq]
  omega

section
variable (d : Dev) (c : Byte) (idle fe : Bool)

/-- A character stored at HEAD, which advances. -/
def Dev.todStored : Dev :=
  (d.set (todCell (d.get F.TIME_TOD_RX_INDEX_HEAD)) c.toNat).set F.TIME_TOD_RX_INDEX_HEAD (d.get F.TIME_TOD_RX_INDEX_HEAD + 1)

/-- With 255 characters unread the oldest is lost. -/
def Dev.todKept : Dev :=
  if (d.get F.TIME_TOD_RX_INDEX_HEAD + 256 - d.get F.TIME_TOD_RX_INDEX_TAIL) % 256 = 255 then
    ((d.todStored c).set F.TIME_TOD_RX_INDEX_TAIL (d.get F.TIME_TOD_RX_INDEX_TAIL + 1)).set F.TIME_TOD_RX_INDEX_LOST
      (satAdd 65535 (d.get F.TIME_TOD_RX_INDEX_LOST) 1)
  else d.todStored c

/-- A framing error counted, and a message that begins raised and counted. -/
def Dev.todCounted : Dev :=
  let e := if fe then d.count K.TIME_TOD_RX_ERRORS else d
  if idle then (e.raise F.TIME_EVENT_TOD_RX).count K.TIME_TOD_RX_MESSAGES else e

theorem Dev.head_todKept : (d.todKept c).get F.TIME_TOD_RX_INDEX_HEAD = (d.get F.TIME_TOD_RX_INDEX_HEAD + 1) % 256 := by
  simp (disch := decide) only [Dev.todKept, Dev.todStored, Dev.get_ite, Dev.get_set_apart, Dev.get_set_self, ite_self]
  rfl

theorem Dev.cell_todKept : (d.todKept c).get (todCell (d.get F.TIME_TOD_RX_INDEX_HEAD)) = c.toNat := by
  have hcell : ∀ (e : Dev) (v lo w : Nat), (e.set ⟨0x300054, lo, w⟩ v).get (todCell (d.get F.TIME_TOD_RX_INDEX_HEAD)) =
      e.get (todCell (d.get F.TIME_TOD_RX_INDEX_HEAD)) := fun e v lo w => Dev.get_set_apart _ _ _ _ (apart_todCell (f := ⟨0x300054, lo, w⟩) (by simp) _).1
  have hstored : (d.todStored c).get (todCell (d.get F.TIME_TOD_RX_INDEX_HEAD)) = c.toNat :=
    (hcell _ _ 0 8).trans ((Dev.get_set_self _ _ _ (by simp only [todCell]; omega)).trans (Nat.mod_eq_of_lt c.isLt))
  unfold Dev.todKept
  split
  · exact (hcell _ _ 16 16).trans ((hcell _ _ 8 8).trans hstored)
  · exact hstored

@[simp] theorem Dev.ctr_todKept (k : Nat) : (d.todKept c).ctr k = d.ctr k := by
  simp only [Dev.todKept, Dev.todStored, Dev.ctr_ite, Dev.set_ctr, ite_self]

/-- A field apart from the event. -/
theorem Dev.get_todCounted {g : Fld} (h : F.TIME_EVENT_TOD_RX.apart g = true) : (d.todCounted idle fe).get g = d.get g := by
  simp only [Dev.todCounted, Dev.get_ite, Dev.count_get, Dev.get_raise_apart _ _ _ h, ite_self]

theorem Dev.event_todCounted : (d.todCounted true fe).get F.TIME_EVENT_TOD_RX = 1 := Dev.get_raise_self _ _ (by decide) (by decide)

theorem Dev.errors_todCounted : (d.todCounted idle fe).ctr K.TIME_TOD_RX_ERRORS =
    if fe then (d.ctr K.TIME_TOD_RX_ERRORS + 1) % 2 ^ 64 else d.ctr K.TIME_TOD_RX_ERRORS := by
  have hother : K.TIME_TOD_RX_ERRORS ≠ K.TIME_TOD_RX_MESSAGES := by decide
  simp only [Dev.todCounted, Dev.ctr_ite, Dev.ctr_count_ne _ _ _ hother, Dev.ctr_count_self, Dev.raise_ctr, ite_self]

end

/-- The message under way with a character more, its last 256. -/
def Dev.todMessage (d : Dev) (c : Byte) (idle : Bool) : List Byte :=
  ((if idle then [] else d.time.todMsg) ++ [c]).drop (((if idle then [] else d.time.todMsg) ++ [c]).length - 256)

/-- What firmware found in a message, once it has ended, shown in TOD_OK. -/
def Dev.todJudged (d : Dev) (verdict : Option Bool) : Dev := verdict.elim d (fun ok => d.set F.TIME_STATUS_TOD_OK (if ok then 1 else 0))

section
variable (d : Dev) (verdict : Option Bool)

theorem Dev.get_todJudged {g : Fld} (h : F.TIME_STATUS_TOD_OK.apart g = true) : (d.todJudged verdict).get g = d.get g := by
  cases verdict with
  | none => rfl
  | some ok => exact Dev.get_set_apart _ _ _ _ h

theorem Dev.ctr_todJudged (k : Nat) : (d.todJudged verdict).ctr k = d.ctr k := by
  cases verdict <;> rfl

end

/-- A character is stored, counted and added to its message, which firmware may find ended. -/
theorem todRxChar_takes {s : State} (c : Byte) (idle fe : Bool) (h : s.dev.time.decl.todRx = true) : ∃ verdict, exec (.todRxChar c idle fe) s =
    done s ((((s.dev.todKept c).todCounted idle fe).modTime (fun t => { t with todMsg := s.dev.todMessage c idle })).todJudged verdict) := by
  have hexec : exec (.todRxChar c idle fe) s = execTodRxChar c idle fe s := rfl
  cases hf : s.dev.sys.firmwareLoaded with
  | false =>
    simp only [execTodRxChar, h, hf, Bool.not_true, Bool.not_false, Bool.false_eq_true, if_false, if_true] at hexec
    exact ⟨none, hexec⟩
  | true =>
    simp only [execTodRxChar, h, hf, Bool.not_true, Bool.false_eq_true, if_false] at hexec
    split at hexec
    · exact ⟨some _, hexec⟩
    · exact ⟨none, hexec⟩

/-! ## The statement -/

/-- Settles O25: an edge by its stamp and its counts, CLK10_IN by its phase, and a character by its place in the window. That every measured edge sets
CLK10_OK, and that a character after an idle line begins a message, are the model's choices (assumption log 84 and 11). -/
theorem timingInputsAreStamped : Obligations.TimingInputsAreStamped := by
  unfold Obligations.TimingInputsAreStamped
  refine ⟨?edge, fun s rise off h => .of _ (ppsInEdge_ignored off h) rfl, ?loss, fun s => .of _ rfl rfl, ?read, ?measure,
    fun s h => clk10Loss_shows h, ?character⟩
  case edge =>
    intro s rise off h hr
    obtain ⟨hns, hfrac, hevent, hok⟩ := s.dev.ppsStamped_shows (netStamp (s.dev.now + off * 1024))
    obtain ⟨hedges, hoverrun⟩ := s.dev.ppsStamped_counts (netStamp (s.dev.now + off * 1024))
    exact .of _ (ppsInEdge_stamps off h hr) ⟨hns, hfrac, hevent, hok, hedges, rfl, hoverrun⟩
  case loss =>
    intro s h
    refine .of _ (ppsInLoss_raises h) ⟨?_, Dev.get_set_self _ _ _ (by decide), rfl⟩
    exact (Dev.get_set_apart _ _ _ _ (by decide)).trans (Dev.get_raise_self _ _ (by decide) (by decide))
  case read =>
    intro s hr
    exact .of _ (ppsInRead_answers hr) ⟨rfl, Dev.get_set_self _ _ _ (by decide), rfl⟩
  case measure =>
    intro s off steer h
    obtain ⟨hok, hphase⟩ := s.dev.clkMeasured_shows (s.dev.now + off * 1024)
    refine .of _ (clk10Measure_measures h ⟨off, steer⟩) ⟨?_, ?_, clk10Phase_near _, fun hholds hfirmware => ?_⟩
    · simpa (disch := decide) only [Dev.get_ite, Dev.get_setFreq, ite_self] using hok
    · simpa (disch := decide) only [Dev.get_ite, Dev.get_setFreq, ite_self] using hphase
    · rw [hholds, hfirmware]
      exact Dev.setFreq_f _ _
  case character =>
    intro s c idle fe h
    obtain ⟨verdict, hexec⟩ := todRxChar_takes c idle fe h
    refine .of _ hexec ⟨?_, ?_, fun hidle => ?_, ?_⟩
    · rw [Dev.get_todJudged _ _ (by decide), Dev.modTime_get, Dev.get_todCounted _ _ _ (by decide), Dev.head_todKept]
    · change Dev.get _ (todCell _) = _
      rw [Dev.get_todJudged _ _ (apart_todCell (by decide) _).1, Dev.modTime_get, Dev.get_todCounted _ _ _ (apart_todCell (by decide) _).1,
        Dev.cell_todKept]
    · rw [Dev.get_todJudged _ _ (by decide), Dev.modTime_get, hidle, Dev.event_todCounted]
    · rw [Dev.ctr_todJudged, Dev.modTime_ctr, Dev.errors_todCounted, Dev.ctr_todKept]

end Sys2Proof.Machine
end

section
/-! PROOFS. The timing outputs (R96, R98), the servo's states (R99, Table 5) and the transmit stamps (R110). -/
namespace Sys2Proof.Machine
open Sys2Proof

/-! ## PPS_OUT and TOD_TX -/

section
variable {s : State}

/-- The pulse that begins at an edge. -/
def Dev.ppsRisen (d : Dev) : Dev :=
  (d.modTime (fun t => { t with
    ppsOutHigh := true
    ppsEnd := t.cycles + 1200 * d.get F.TIME_PPS_OUT_CFG_WIDTH_US
    todTxDue := if d.nowNs % 1000000000 = 0 ∧ d.time.decl.todTx ∧ d.flag F.TIME_TOD_CFG_TX_EN then some (d.nowNs / 1000000000) else d.time.todTxDue })).emit
    (.pinEdge 0 1)

theorem ppsOutPulse_rises (hd : s.dev.time.decl.ppsOut = true) (he : s.dev.get F.TIME_PPS_OUT_CFG_ENABLE = 1)
    (hv : s.dev.get F.TIME_STATUS_VALID = 1 ∨ s.dev.get F.TIME_PPS_OUT_CFG_FORCE = 1) (hp : s.dev.ppsEdge = true) (hl : s.dev.time.ppsOutHigh = false) :
    exec .ppsOutPulse s = done s s.dev.ppsRisen := by
  have hdrives : (s.dev.flag F.TIME_STATUS_VALID || s.dev.flag F.TIME_PPS_OUT_CFG_FORCE) = true := by simpa [Dev.flag] using hv
  have henabled : s.dev.flag F.TIME_PPS_OUT_CFG_ENABLE = true := beq_iff_eq.2 he
  change execPpsOutPulse s = _
  simp only [execPpsOutPulse, hd, henabled, hp, hdrives, hl, Bool.not_true, Bool.or_false, Bool.false_eq_true, if_false]
  rfl

theorem ppsOutPulse_ignored (h : (s.dev.get F.TIME_STATUS_VALID = 0 ∧ s.dev.get F.TIME_PPS_OUT_CFG_FORCE = 0) ∨ s.dev.ppsEdge = false) :
    exec .ppsOutPulse s = done s s.dev := by
  change execPpsOutPulse s = _
  rcases h with ⟨hvalid, hforce⟩ | h
  · simp [execPpsOutPulse, Dev.flag, hvalid, hforce]
  · simp [execPpsOutPulse, h]

theorem ppsOutEnd_falls (hh : s.dev.time.ppsOutHigh = true) (hc : s.dev.time.ppsEnd ≤ s.dev.time.cycles) :
    exec .ppsOutEnd s = done s ((s.dev.modTime (fun t => { t with ppsOutHigh := false })).emit (.pinEdge 0 0)) := by
  change execPpsOutEnd s = _
  simp [execPpsOutEnd, hh, Nat.not_lt.2 hc]

theorem ppsOutEnd_early (hc : s.dev.time.cycles < s.dev.time.ppsEnd) : exec .ppsOutEnd s = done s s.dev := by
  change execPpsOutEnd s = _
  simp [execPpsOutEnd, hc]

/-- A due second is sent as one message, whose format is the one selected. -/
theorem todTxSend_sends {sec : Nat} (h : s.dev.time.todTxDue = some sec)
    (hf : s.dev.get F.TIME_TOD_CFG_TX_FORMAT = 1 ∨ s.dev.get F.TIME_TOD_CFG_TX_FORMAT = 2) :
    Yields .todTxSend s (fun d => d.time.todTxDue = none ∧ ∃ b, d.out = s.dev.out ++ [.bytes 1 b]) := by
  have hexec : exec .todTxSend s = execTodTxSend s := rfl
  rcases hf with hf | hf
  · simp only [execTodTxSend, h, hf] at hexec
    exact .of _ hexec ⟨rfl, _, rfl⟩
  · simp only [execTodTxSend, h, hf] at hexec
    exact .of _ hexec ⟨rfl, _, rfl⟩

end

/-! ## A change of the servo's state -/

section
variable (d : Dev) (new source : Nat)

/-- A change of state as the registers show it, before its health record. -/
def Dev.servoShown : Dev :=
  let e := if d.get F.TIME_STATUS_SERVO = 3 then d.set F.TIME_HOLD_ELAPSED_S d.holdSeconds else d
  let e := if new = 2 then e.modTime (fun t => { t with fLog := [(t.cycles, t.f)] }) else e
  ((e.set F.TIME_STATUS_SERVO new).set F.TIME_STATUS_SOURCE source).raise F.TIME_EVENT_SERVO_CHANGE

/-- The health record leaves what the change has shown. -/
theorem Dev.servoTo_keeps : (d.servoShown new source).ClockKept (d.servoTo new source) := .of_noted (Dev.noted_health _ _ _ _) (by decide)

variable {new source}

theorem Dev.servoTo_shows (hn : new < 8) (hs : source < 8) : (d.servoTo new source).get F.TIME_STATUS_SERVO = new ∧
    (d.servoTo new source).get F.TIME_STATUS_SOURCE = source ∧ (d.servoTo new source).get F.TIME_EVENT_SERVO_CHANGE = 1 := by
  have hkept := d.servoTo_keeps new source
  rw [hkept.get (by decide), hkept.get (by decide), hkept.get (by decide)]
  simp (disch := decide) only [Dev.servoShown, Dev.get_set_apart, Dev.get_raise_apart, Dev.get_raise_self, Dev.get_set_self]
  exact ⟨Nat.mod_eq_of_lt hn, Nat.mod_eq_of_lt hs, trivial⟩

/-- Only LOCKED begins a log of F. -/
theorem Dev.servoTo_time (hn : new ≠ 2) : (d.servoTo new source).time = d.time := by
  refine (d.servoTo_keeps new source).time.trans ?_
  simp only [Dev.servoShown, hn, if_false, Dev.raise_time, Dev.set_time, apply_ite Dev.time, ite_self]

theorem Dev.clk10Ok_servoTo : (d.servoTo new source).get F.TIME_STATUS_CLK10_OK = d.get F.TIME_STATUS_CLK10_OK := by
  refine ((d.servoTo_keeps new source).get (by decide)).trans ?_
  simp (disch := decide) only [Dev.servoShown, Dev.get_set_apart, Dev.get_raise_apart, Dev.get_ite, Dev.modTime_get, ite_self]

end

/-! ## A step or a frequency word chosen by firmware (Table 5) -/

section
variable (d : Dev) (delta : Int) (at_ : Nat)

/-- After a request a step is pending, the one requested or the one before it. -/
theorem Dev.requestStep_isSome : (d.requestStep delta at_).time.step.isSome = true := by
  cases h : d.time.step with
  | none => rw [d.requestStep_new delta at_ h]; rfl
  | some r => rw [d.requestStep_pending delta at_ h, Dev.raise_time, h]; rfl

theorem Dev.requestStep_f : (d.requestStep delta at_).time.f = d.time.f := by
  cases h : d.time.step with
  | none => rw [d.requestStep_new delta at_ h]; rfl
  | some r => rw [d.requestStep_pending delta at_ h]; rfl

/-- A field apart from STEP_PENDING and STEP_GO_IGNORED. -/
theorem Dev.get_requestStep {g : Fld} (hp : F.TIME_STATUS_STEP_PENDING.apart g = true) (hi : F.TIME_EVENT_STEP_GO_IGNORED.apart g = true) :
    (d.requestStep delta at_).get g = d.get g := by
  cases h : d.time.step with
  | none => rw [d.requestStep_new delta at_ h]; exact Dev.get_set_apart _ _ _ _ hp
  | some r => rw [d.requestStep_pending delta at_ h]; exact Dev.get_raise_apart _ _ _ hi

end

section
variable (d : Dev) {o : Int} (st : Int)

theorem Dev.servoAct_steers (h : o.natAbs ≤ d.time.decl.stepThreshNs) : d.servoAct o st = d.setFreq st := if_neg (Nat.not_lt.2 h)
theorem Dev.servoAct_steps (h : o.natAbs > d.time.decl.stepThreshNs) : d.servoAct o st = d.requestStep (o * 65536) 0 := if_pos h

/-- What firmware does leaves the servo's state as shown. -/
theorem Dev.servoAct_shows (o : Int) : (d.servoAct o st).get F.TIME_STATUS_SERVO = d.get F.TIME_STATUS_SERVO ∧
    (d.servoAct o st).get F.TIME_STATUS_SOURCE = d.get F.TIME_STATUS_SOURCE ∧
    (d.servoAct o st).get F.TIME_EVENT_SERVO_CHANGE = d.get F.TIME_EVENT_SERVO_CHANGE := by
  simp (disch := decide) only [Dev.servoAct, Dev.get_ite, Dev.get_requestStep, Dev.get_setFreq, ite_self, and_self]

end

/-! ## Sources (R99) -/

/-- A source that a priority entry names is one of the three that TIME_STATUS shows. -/
theorem sourceKind_lt {k v : Nat} (h : sourceKind k v = true) : k < 8 := by
  unfold sourceKind at h
  split at h
  · decide
  · decide
  · decide
  · exact absurd h (by decide)

theorem Dev.mayFollow_lt {d : Dev} {k : Nat} (h : d.mayFollow k = true) : k < 8 := by
  simp only [Dev.mayFollow, Dev.declares, Bool.and_eq_true, List.any_eq_true] at h
  obtain ⟨⟨⟨v, -, hkind⟩, -⟩, -⟩ := h
  exact sourceKind_lt hkind

theorem Dev.declaredBehind_lt {d : Dev} {cur k : Nat} (h : d.declaredBehind cur k = true) : k < 8 := by
  simp only [Dev.declaredBehind, List.any_eq_true, Bool.and_eq_true] at h
  obtain ⟨j, -, hkind, -⟩ := h
  exact sourceKind_lt hkind

/-! ## HOLDOVER begins (R100) -/

section
variable (d : Dev)

/-- HOLDOVER as the registers and the time's state show it, before F is held. -/
def Dev.holdShown : Dev :=
  ((d.servoTo 3 0).set F.TIME_HOLD_ELAPSED_S 0).modTime (fun t => { t with holdStart := t.cycles, fHold := d.time.fAverage })

theorem Dev.holdShown_shows : d.holdShown.get F.TIME_STATUS_SERVO = 3 ∧ d.holdShown.get F.TIME_HOLD_ELAPSED_S = 0 ∧
    d.holdShown.get F.TIME_STATUS_CLK10_OK = d.get F.TIME_STATUS_CLK10_OK ∧
    d.holdShown.time = { d.time with holdStart := d.time.cycles, fHold := d.time.fAverage } := by
  obtain ⟨hservo, -, -⟩ := d.servoTo_shows (new := 3) (source := 0) (by decide) (by decide)
  refine ⟨?_, Dev.get_set_self _ _ _ (by decide), ?_, ?_⟩
  · exact (Dev.get_set_apart _ _ _ _ (by decide)).trans hservo
  · exact (Dev.get_set_apart _ _ _ _ (by decide)).trans d.clk10Ok_servoTo
  · rw [Dev.holdShown, Dev.modTime_time, Dev.set_time, d.servoTo_time (by decide)]

/-- F is held at its average unless CLK10_IN, stable and with its edges there, is to steer by. -/
theorem Dev.beginHold_eq : d.beginHold =
    if d.time.decl.clk10In = 2 ∧ d.get F.TIME_STATUS_CLK10_OK = 1 then d.holdShown else d.holdShown.setFreq d.time.fAverage := by
  obtain ⟨hservo, -, hok, htime⟩ := d.holdShown_shows
  have hheld : (d.holdShown.clkHolds && d.holdShown.flag F.TIME_STATUS_CLK10_OK) =
      decide (d.time.decl.clk10In = 2 ∧ d.get F.TIME_STATUS_CLK10_OK = 1) := by
    simp [Dev.clkHolds, Dev.flag, hservo, hok, htime, Bool.beq_eq_decide_eq]
  change (if (d.holdShown.clkHolds && d.holdShown.flag F.TIME_STATUS_CLK10_OK) = true then d.holdShown else d.holdShown.setFreq d.time.fAverage) = _
  simp only [hheld, decide_eq_true_eq]

theorem Dev.beginHold_shows : d.beginHold.get F.TIME_STATUS_SERVO = 3 ∧ d.beginHold.get F.TIME_HOLD_ELAPSED_S = 0 ∧
    d.beginHold.time.holdStart = d.time.cycles ∧
    d.beginHold.time.f = if d.time.decl.clk10In = 2 ∧ d.get F.TIME_STATUS_CLK10_OK = 1 then d.time.f else clampFreq d.time.fAverage := by
  obtain ⟨hservo, helapsed, -, htime⟩ := d.holdShown_shows
  rw [Dev.beginHold_eq]
  split
  · exact ⟨hservo, helapsed, by rw [htime], by rw [htime]⟩
  · refine ⟨?_, ?_, ?_, Dev.setFreq_f _ _⟩
    · rw [Dev.get_setFreq _ _ (by decide) (by decide), hservo]
    · rw [Dev.get_setFreq _ _ (by decide) (by decide), helapsed]
    · rw [Dev.setFreq_holdStart, htime]

end

/-! ## The servo's commands -/

section
variable {s : State} (hf : s.dev.sys.firmwareLoaded = true)
include hf

theorem servoSourceUsable_acquires {src : Nat} (o st : Int) (hm : s.dev.mayFollow src = true)
    (hs : s.dev.get F.TIME_STATUS_SERVO = 0 ∨ s.dev.get F.TIME_STATUS_SERVO = 3) :
    exec (.servoSourceUsable src o st) s = done s ((s.dev.servoTo 1 src).servoAct o st) := by
  change execServoSourceUsable src o st s = _
  rcases hs with hs | hs
  · simp [execServoSourceUsable, hf, hm, hs]
  · simp [execServoSourceUsable, hf, hm, hs]

theorem servoLocked_locks (hs : s.dev.get F.TIME_STATUS_SERVO = 1) :
    exec .servoLocked s = done s ((s.dev.servoTo 2 (s.dev.get F.TIME_STATUS_SOURCE)).set F.TIME_STATUS_TRACEABLE 1) := by
  change execServoLocked s = _
  simp [execServoLocked, hf, hs]

theorem servoSourceLost_acquiring (hs : s.dev.get F.TIME_STATUS_SERVO = 1) : exec (.servoSourceLost none) s = done s (s.dev.servoTo 0 0) := by
  change execServoSourceLost none s = _
  simp [execServoSourceLost, hf, hs]

theorem servoSourceLost_locked (hs : s.dev.get F.TIME_STATUS_SERVO = 2) : exec (.servoSourceLost none) s = done s s.dev.beginHold := by
  change execServoSourceLost none s = _
  simp [execServoSourceLost, hf, hs]

theorem servoSourceLost_fallback {k : Nat} (hs : s.dev.get F.TIME_STATUS_SERVO = 2)
    (hb : s.dev.declaredBehind (s.dev.get F.TIME_STATUS_SOURCE) k = true) (ho : s.dev.sourceOk k = true) :
    exec (.servoSourceLost (some k)) s = done s (s.dev.servoTo 1 k) := by
  change execServoSourceLost (some k) s = _
  simp [execServoSourceLost, hf, hs, hb, ho]

theorem servoOffsetExceed_steps {o : Int} (hs : s.dev.get F.TIME_STATUS_SERVO = 2) (ho : o.natAbs > s.dev.time.decl.stepThreshNs) :
    exec (.servoOffsetExceed o) s = done s ((s.dev.servoTo 1 (s.dev.get F.TIME_STATUS_SOURCE)).requestStep (o * 65536) 0) := by
  change execServoOffsetExceed o s = _
  simp [execServoOffsetExceed, hf, hs, Nat.not_le.2 ho]

theorem servoTraceLimit_judges (err : Nat) (hs : s.dev.get F.TIME_STATUS_SERVO = 3) : exec (.servoTraceLimit err) s =
    done s (if err > s.dev.time.decl.traceLimitNs then (s.dev.set F.TIME_HOLD_EST_ERR (min (err / 10) 65535)).set F.TIME_STATUS_TRACEABLE 0
      else s.dev.set F.TIME_HOLD_EST_ERR (min (err / 10) 65535)) := by
  change execServoTraceLimit err s = _
  simp [execServoTraceLimit, hf, hs]

theorem servoHoldoverExpire_ends (hs : s.dev.get F.TIME_STATUS_SERVO = 3)
    (hc : s.dev.time.holdStart + 86400 * 1200000000 ≤ s.dev.time.cycles) :
    exec .servoHoldoverExpire s = done s ((s.dev.servoTo 0 0).set F.TIME_STATUS_TRACEABLE 0) := by
  change execServoHoldoverExpire s = _
  simp only [execServoHoldoverExpire, hf, hs, Nat.not_lt.2 hc]
  rfl

end

/-- A state reached with TRACEABLE written. -/
theorem Dev.servoTo_traceable (d : Dev) {new source v : Nat} (hn : new < 8) (hs : source < 8) (hv : v < 2) :
    ((d.servoTo new source).set F.TIME_STATUS_TRACEABLE v).get F.TIME_STATUS_SERVO = new ∧
    ((d.servoTo new source).set F.TIME_STATUS_TRACEABLE v).get F.TIME_STATUS_TRACEABLE = v ∧
    ((d.servoTo new source).set F.TIME_STATUS_TRACEABLE v).get F.TIME_EVENT_SERVO_CHANGE = 1 := by
  obtain ⟨hservo, -, hevent⟩ := d.servoTo_shows hn hs
  refine ⟨?_, (Dev.get_set_self _ _ _ (by decide)).trans (Nat.mod_eq_of_lt hv), ?_⟩
  · rw [Dev.get_set_apart _ _ _ _ (by decide), hservo]
  · rw [Dev.get_set_apart _ _ _ _ (by decide), hevent]

/-! ## Transmit stamps (R110) -/

/-- TXSTAMP_CTRL shows the count of a port's stamps. -/
theorem Dev.count_showTxStamps (d : Dev) (n : Nat) :
    (d.showTxStamps n).get (F.TIME_PORT_TXSTAMP_CTRL_COUNT n) = (mapGetD d.time.txStamps n []).length % 2 ^ 7 := by
  have hword : ∀ (e : Dev) (a lo w v : Nat), 0x30100C + 0x40 * n < a → (e.set ⟨a, lo, w⟩ v).get (F.TIME_PORT_TXSTAMP_CTRL_COUNT n) =
      e.get (F.TIME_PORT_TXSTAMP_CTRL_COUNT n) := fun e a lo w v ha =>
    Dev.get_eq_of_word_eq (show 0 + 7 ≤ 32 by decide) (e.word_set _ _ _ (Nat.ne_of_lt ha) (.inr (Nat.ne_of_lt (Nat.lt_add_right 4 ha))))
  exact (hword _ _ 16 16 _ (by omega)).trans ((hword _ _ 0 16 _ (by omega)).trans ((hword _ _ 0 64 _ (by omega)).trans
    (Dev.get_set_place _ _ (show 0 + 7 ≤ 64 by decide))))

theorem txstampPop_pops {s : State} {n : Nat} (hl : s.dev.Live) (hn : n ≤ 8) : exec (.txstampPop n) s =
    done s ((s.dev.modTime (fun t => { t with txStamps := mapPut t.txStamps n ((mapGetD t.txStamps n []).drop 1) })).showTxStamps n) := by
  change execTxstampPop n s = _
  simp only [execTxstampPop, hl.responds, Nat.not_lt.2 hn, decide_false, Bool.not_true, Bool.or_false, Bool.false_eq_true, if_false]
  rfl

/-! ## The statement -/

/-- Settles O26: the outputs by their guards, the servo by its state before the command, and the stamps by the oldest one's removal. What the servo's
events carry, and how F is averaged for HOLDOVER, are the model's choices (assumption log 16 and 90). -/
theorem timingOutputsAndServoStates : Obligations.TimingOutputsAndServoStates := by
  unfold Obligations.TimingOutputsAndServoStates
  refine ⟨fun s hd he hv hp hl => .of _ (ppsOutPulse_rises hd he hv hp hl) ⟨rfl, rfl, rfl, rfl⟩, fun s h => .of _ (ppsOutPulse_ignored h) rfl,
    fun s hh hc => .of _ (ppsOutEnd_falls hh hc) ⟨rfl, rfl, rfl⟩, fun s hc => .of _ (ppsOutEnd_early hc) rfl,
    fun s sec h hf => todTxSend_sends h hf, ?usable, ?acquiring, ?locked, ?holdover, ?stamps⟩
  case usable =>
    intro s src o st hf hm hs
    obtain ⟨hservo, hsource, hevent⟩ := s.dev.servoTo_shows (new := 1) (by decide) (Dev.mayFollow_lt hm)
    obtain ⟨hservo', hsource', hevent'⟩ := (s.dev.servoTo 1 src).servoAct_shows st o
    have htime : (s.dev.servoTo 1 src).time = s.dev.time := s.dev.servoTo_time (by decide)
    refine .of _ (servoSourceUsable_acquires hf o st hm hs) ⟨hservo'.trans hservo, hsource'.trans hsource, hevent'.trans hevent,
      fun ho => ?_, fun ho _ => ?_⟩
    · rw [Dev.servoAct_steers _ _ (by rwa [htime]), Dev.setFreq_f, Dev.setFreq_step, htime]
      exact ⟨rfl, rfl⟩
    · rw [Dev.servoAct_steps _ _ (by rwa [htime]), Dev.requestStep_f, htime]
      exact ⟨Dev.requestStep_isSome _ _ _, rfl⟩
  case acquiring =>
    intro s hf hs
    obtain ⟨hlost, -, -⟩ := s.dev.servoTo_shows (new := 0) (source := 0) (by decide) (by decide)
    refine ⟨.of _ (servoLocked_locks hf hs) (s.dev.servoTo_traceable (by decide) (s.dev.get_lt _) (by decide)),
      .of _ (servoSourceLost_acquiring hf hs) ⟨hlost, ?_⟩⟩
    rw [Dev.servoTo_time _ (by decide)]
  case locked =>
    intro s o k hf hs
    refine ⟨fun ho => ?_, .of _ (servoSourceLost_locked hf hs) s.dev.beginHold_shows, fun hb ho => ?_⟩
    · obtain ⟨hservo, -, hevent⟩ := s.dev.servoTo_shows (new := 1) (by decide) (s.dev.get_lt F.TIME_STATUS_SOURCE)
      refine .of _ (servoOffsetExceed_steps hf hs ho) ⟨?_, ?_, fun _ => Dev.requestStep_isSome _ _ _⟩
      · rw [Dev.get_requestStep _ _ _ (by decide) (by decide), hservo]
      · rw [Dev.get_requestStep _ _ _ (by decide) (by decide), hevent]
    · obtain ⟨hservo, hsource, -⟩ := s.dev.servoTo_shows (new := 1) (by decide) (Dev.declaredBehind_lt hb)
      exact .of _ (servoSourceLost_fallback hf hs hb ho) ⟨hservo, hsource⟩
  case holdover =>
    intro s err hf hs
    refine ⟨.of _ (servoTraceLimit_judges hf err hs) ?_,
      fun hc => .of _ (servoHoldoverExpire_ends hf hs hc) (s.dev.servoTo_traceable (by decide) (by decide) (by decide))⟩
    simp (disch := decide) only [Dev.get_ite, Dev.get_set_self, Dev.get_set_apart]
    rfl
  case stamps =>
    intro s n hl hn hlen
    refine .of _ (txstampPop_pops hl hn) ⟨?_, ?_, fun m hm => mapGet_mapPut_ne _ _ hm⟩
    · change mapGetD (mapPut s.dev.time.txStamps n _) n [] = _
      rw [mapGetD, mapGet_mapPut_self, Option.getD_some]
    · rw [Dev.count_showTxStamps, Dev.modTime_time, mapGetD, mapGet_mapPut_self, Option.getD_some, List.length_drop]
      exact Nat.mod_eq_of_lt (by omega)

end Sys2Proof.Machine
end

section
/-! PROOFS. The streams of Ledger (R120 to R131): what the operations of one stream leave of the others, of their exports, and of the registers. -/
namespace Sys2Proof.Machine
open Sys2Proof

/-! ## A stream read after a write, and the parts of the operations -/

section
variable (d : Dev) (s : Nat)

@[simp] theorem Dev.stream_putStream_self (x : Stream) : (d.putStream s x).stream s = x := by
  simp [Dev.stream, Dev.putStream, mapGetD]

theorem Dev.stream_putStream_ne (x : Stream) {k : Nat} (h : k ≠ s) : (d.putStream s x).stream k = d.stream k := by
  simp [Dev.stream, Dev.putStream, mapGetD, mapGet_mapPut_ne _ _ h]

/-- Slots written to a ring change the bytes queued for DDR5 alone. -/
theorem Dev.writeSlots_eq (ring : Nat × Nat) (slot : Nat) (b : List Byte) (n : Nat) : ∃ m, d.writeSlots ring slot b n = { d with dram := m } := by
  induction n generalizing d slot b with
  | zero => exact ⟨_, rfl⟩
  | succ n ih =>
    obtain ⟨m, hm⟩ := ih (d.ddrWrite (ring.1 + 32 * slot % 2 ^ ring.2) (b.take 32)) (slot + 1) (b.drop 32)
    exact ⟨m, hm⟩

/-- A fault raised changes words alone. -/
theorem Dev.fault_eq (c kind unit detail : Nat) : ∃ w, d.fault c kind unit detail = { d with bus := { d.bus with words := w } } := by
  obtain ⟨w, hw⟩ := (d.set ⟨0x1000020, c, 1⟩ 1).logPut_eq 0x1000034 0x1001000 4
    (d.nowNs % 2 ^ 64 + 2 ^ 64 * c + 2 ^ 72 * (kind % 16) + 2 ^ 80 * (unit % 2 ^ 16) + 2 ^ 96 * (detail % 2 ^ 32))
  exact ⟨w, hw⟩

/-- A fault raised leaves the words below the fault block's. -/
theorem Dev.word_fault {c a : Nat} (kind unit detail : Nat) (h : a < 0x1000020) : (d.fault c kind unit detail).word a = d.word a :=
  (Dev.word_logPut _ _ _ _ _ (by omega) (.inl (by omega))).trans (d.word_set _ 1 a (by dsimp only; omega) (.inr (by dsimp only; omega)))

/-- What counts toward the rate is no part of the streams, nor of the seals that wait. -/
theorem Dev.chargeRate_ledg (n b : Nat) : (d.chargeRate n b).ledg.streams = d.ledg.streams ∧ (d.chargeRate n b).ledg.signer = d.ledg.signer := by
  simp only [Dev.chargeRate]
  split <;> exact ⟨rfl, rfl⟩

/-- HEAD moves on, and no stream nor waiting seal with it (R130). -/
theorem Dev.headOn_shows (n : Nat) : (d.headOn s n).ctr (kHead s) = (d.ctr (kHead s) + n) % 2 ^ 64 ∧
    (∀ k, (d.headOn s n).stream k = d.stream k) ∧ (d.headOn s n).ledg.signer = d.ledg.signer := by
  obtain ⟨hstreams, hsigner⟩ := d.chargeRate_ledg n 0
  have hhead : ((d.chargeRate n 0).setCtr (kHead s) (d.ctr (kHead s) + n)).ctr (kHead s) = (d.ctr (kHead s) + n) % 2 ^ 64 := Dev.ctr_setCtr_self _ _ _
  have hstream : ∀ k, (d.chargeRate n 0).stream k = d.stream k := fun k => congrArg (fun m => mapGetD m k ({} : Stream)) hstreams
  simp only [Dev.headOn]
  split
  · exact ⟨hhead, hstream, hsigner⟩
  · exact ⟨hhead, hstream, hsigner⟩

end

/-! ## What the operations of one stream leave -/

/-- Two devices with the same exported slots of every stream and the same registers of the streams, from 0x401000 on; an event that Ledger raised
stays raised. -/
structure Dev.ExportKept (d e : Dev) : Prop where
  exported : ∀ k, e.ctr (kExported k) = d.ctr (kExported k)
  word : ∀ a, 0x401000 ≤ a → a < 0x500000 → e.word a = d.word a
  event : ∀ b < 32, d.get ⟨0x400008, b, 1⟩ = 1 → e.get ⟨0x400008, b, 1⟩ = 1

/-- Two such devices in which every stream but one is the same. -/
structure Dev.StreamOnly (s : Nat) (d e : Dev) : Prop extends d.ExportKept e where
  stream : ∀ k, k ≠ s → e.stream k = d.stream k

namespace Dev.ExportKept
variable {d e f : Dev}

theorem refl (d : Dev) : d.ExportKept d := ⟨fun _ => rfl, fun _ _ _ => rfl, fun _ _ h => h⟩

theorem trans (h : d.ExportKept e) (h' : e.ExportKept f) : d.ExportKept f :=
  ⟨fun k => (h'.exported k).trans (h.exported k), fun a hlo hhi => (h'.word a hlo hhi).trans (h.word a hlo hhi),
    fun b hb hr => h'.event b hb (h.event b hb hr)⟩

/-- Whether a stream exports. -/
theorem get_export (h : d.ExportKept e) {k : Nat} (hk : k < 8) : e.get (F.LEDG_STREAM_CFG_EXPORT k) = d.get (F.LEDG_STREAM_CFG_EXPORT k) :=
  Dev.get_eq_of_word_eq (show 1 + 1 ≤ 32 by decide) (h.word _ (Nat.le_add_right _ _) (show 0x401000 + 0x80 * k < _ by omega))

end Dev.ExportKept

namespace Dev.StreamOnly
variable {s : Nat} {d e f : Dev}

theorem refl (s : Nat) (d : Dev) : StreamOnly s d d := ⟨.refl d, fun _ _ => rfl⟩

theorem trans (h : StreamOnly s d e) (h' : StreamOnly s e f) : StreamOnly s d f :=
  ⟨h.toExportKept.trans h'.toExportKept, fun k hk => (h'.stream k hk).trans (h.stream k hk)⟩

/-- Ledger's state changed, but for the other streams. -/
theorem of_ledg (l : Ledg) (h : ∀ k, k ≠ s → mapGetD l.streams k {} = d.stream k) : StreamOnly s d { d with ledg := l } :=
  ⟨⟨fun _ => rfl, fun _ _ _ => rfl, fun _ _ h => h⟩, h⟩

/-- The seals that wait changed. -/
theorem of_signer (l : List SealJob) : StreamOnly s d { d with ledg := { d.ledg with signer := l } } := of_ledg _ (fun _ _ => rfl)

end Dev.StreamOnly

section
variable (d : Dev) {s : Nat}

theorem Dev.streamOnly_putStream (x : Stream) : StreamOnly s d (d.putStream s x) :=
  .of_ledg _ (fun _ hk => d.stream_putStream_ne s x hk)

theorem Dev.streamOnly_writeSlots (ring : Nat × Nat) (slot : Nat) (b : List Byte) (n : Nat) : StreamOnly s d (d.writeSlots ring slot b n) := by
  obtain ⟨m, hm⟩ := d.writeSlots_eq ring slot b n
  rw [hm]
  exact ⟨⟨fun _ => rfl, fun _ _ _ => rfl, fun _ _ h => h⟩, fun _ _ => rfl⟩

theorem Dev.streamOnly_setCtr {j : Nat} (v : Nat) (h : ∀ k, kExported k ≠ j) : StreamOnly s d (d.setCtr j v) :=
  ⟨⟨fun k => Dev.ctr_setCtr_ne d j v (h k), fun _ _ _ => rfl, fun _ _ h => h⟩, fun _ _ => rfl⟩

/-- A bit of LEDG_STATUS written. -/
theorem Dev.streamOnly_status {b : Nat} (v : Nat) (h : b < 32) : StreamOnly s d (d.set ⟨0x400004, b, 1⟩ v) := by
  have hword : ∀ a, a ≠ 0x400004 → (d.set ⟨0x400004, b, 1⟩ v).word a = d.word a := fun a ha =>
    d.word_set _ v a ha (.inl (by dsimp only; omega))
  refine ⟨⟨fun _ => rfl, fun a hlo _ => hword a (by omega), fun i hi hr => ?_⟩, fun _ _ => rfl⟩
  rw [Dev.get_eq_of_word_eq (by dsimp only; omega) (hword 0x400008 (by decide)), hr]

/-- An event of Ledger raised. -/
theorem Dev.streamOnly_raise {b : Nat} (h : b < 32) : StreamOnly s d (d.raise ⟨0x400008, b, 1⟩) := by
  have hword : ∀ a, a ≠ 0x400008 → (d.raise ⟨0x400008, b, 1⟩).word a = d.word a := fun a ha => d.word_set _ 1 a ha (.inl (by dsimp only; omega))
  refine ⟨⟨fun _ => rfl, fun a hlo _ => hword a (by omega), fun i hi hr => ?_⟩, fun _ _ => rfl⟩
  by_cases hib : i = b
  · subst hib
    exact Dev.get_set_place d 1 (by omega)
  · exact (Dev.get_set_disjoint d 1 (by omega) (by omega) (by omega)).trans hr

theorem Dev.streamOnly_fault (c kind unit detail : Nat) : StreamOnly s d (d.fault c kind unit detail) := by
  have hword : ∀ a < 0x1000020, (d.fault c kind unit detail).word a = d.word a := fun a ha => d.word_fault kind unit detail ha
  obtain ⟨w, hw⟩ := d.fault_eq c kind unit detail
  refine ⟨⟨fun k => by rw [hw]; rfl, fun a _ hhi => hword a (by omega), fun i hi hr => ?_⟩, fun k _ => by rw [hw]; rfl⟩
  rw [Dev.get_eq_of_word_eq (by dsimp only; omega) (hword 0x400008 (by decide)), hr]

theorem Dev.streamOnly_stall (hs : s < 8) : StreamOnly s d (d.stall s) := by
  unfold Dev.stall
  dsimp only
  split
  · exact .refl ..
  · exact ((((d.streamOnly_putStream _).trans (Dev.streamOnly_setCtr _ _ (by simp only [K.LEDG_STALLS, kExported]; omega))).trans
      (Dev.streamOnly_status _ _ (by omega))).trans (Dev.streamOnly_raise _ (b := 2) (by decide))).trans (Dev.streamOnly_fault _ _ _ _ _)

theorem Dev.streamOnly_loseSlots (cause n ns : Nat) : StreamOnly s d (d.loseSlots s cause n ns) := by
  unfold Dev.loseSlots
  dsimp only
  refine .trans ?_ (Dev.streamOnly_raise _ (b := 0) (by decide))
  split
  · exact (d.streamOnly_putStream _).trans (Dev.streamOnly_setCtr _ _ (by simp only [K.LEDG_LOST_RING_FULL, kExported]; omega))
  · exact (d.streamOnly_putStream _).trans (Dev.streamOnly_setCtr _ _ (by simp only [K.LEDG_LOST_RATE, kExported]; omega))
  · exact (d.streamOnly_putStream _).trans (Dev.streamOnly_setCtr _ _ (by simp only [K.LEDG_HASH_SKIPPED, kExported]; omega))
  · exact d.streamOnly_putStream _

theorem Dev.streamOnly_headOn (n : Nat) : StreamOnly s d (d.headOn s n) := by
  obtain ⟨hstreams, -⟩ := d.chargeRate_ledg n 0
  have hhead : StreamOnly s d ((d.chargeRate n 0).setCtr (kHead s) (d.ctr (kHead s) + n)) :=
    .trans (.of_ledg _ (fun k _ => congrArg (fun m => mapGetD m k ({} : Stream)) hstreams))
      (Dev.streamOnly_setCtr _ _ (by simp only [kHead, kExported]; omega))
  simp only [Dev.headOn]
  split
  · exact hhead.trans (Dev.streamOnly_raise _ (b := 1) (by decide))
  · exact hhead

theorem Dev.streamOnly_putRecord (mk : Nat → List Byte) : StreamOnly s d (d.putRecord s mk) := by
  have hcount : ∀ (e : Dev) (n : Nat), StreamOnly s e ((e.count (K.LEDG_SLOTS_WRITTEN s) n).headOn s n) := fun e n =>
    (e.streamOnly_setCtr _ (by simp only [K.LEDG_SLOTS_WRITTEN, kExported]; omega)).trans (Dev.streamOnly_headOn _ _)
  unfold Dev.putRecord
  dsimp only
  split
  · exact ((d.streamOnly_writeSlots _ _ _ _).trans (Dev.streamOnly_putStream _ _)).trans (hcount _ _)
  · exact (((d.streamOnly_writeSlots _ _ _ _).trans (Dev.streamOnly_putStream _ _)).trans (.of_signer _)).trans (hcount _ _)

theorem Dev.streamOnly_writeGaps (l : List (Nat × Nat × Nat)) : StreamOnly s d (d.writeGaps s l) := by
  induction l generalizing d with
  | nil => exact d.streamOnly_putStream _
  | cons g t ih => exact (d.streamOnly_putRecord _).trans (ih _)

theorem Dev.streamOnly_cutSeal (hs : s < 8) (cause : Nat) : StreamOnly s d (d.cutSeal s cause) := by
  unfold Dev.cutSeal
  dsimp only
  split
  · exact .refl ..
  · split
    · exact .of_signer _
    · split
      · exact d.streamOnly_stall hs
      · exact (((d.streamOnly_writeGaps _).trans (Dev.streamOnly_putStream _ _)).trans (.of_signer _)).trans (Dev.streamOnly_headOn _ _)

theorem Dev.streamOnly_cutAtLimit (hs : s < 8) : StreamOnly s d (d.cutAtLimit s) := by
  unfold Dev.cutAtLimit
  split
  · exact d.streamOnly_cutSeal hs 1
  · exact .refl ..

theorem Dev.streamOnly_unstall (hs : s < 8) : StreamOnly s d (d.unstall s) := by
  unfold Dev.unstall
  dsimp only
  split
  · exact .refl ..
  · split
    · exact .refl ..
    · exact ((((d.streamOnly_putStream _).trans (Dev.streamOnly_status _ _ (by omega))).trans (Dev.streamOnly_raise _ (b := 0) (by decide))).trans
        (Dev.streamOnly_writeGaps _ _)).trans (Dev.streamOnly_cutAtLimit _ hs)

theorem Dev.streamOnly_offerRecord (hs : s < 8) (n : Nat) (reserve : Bool) (ns : Nat) (mk : Nat → List Byte) :
    StreamOnly s d (d.offerRecord s n reserve ns mk) := by
  have hstall : StreamOnly s d (if reserve then d.stall s else d) := by
    split
    · exact d.streamOnly_stall hs
    · exact .refl ..
  simp only [Dev.offerRecord]
  generalize (if reserve then d.stall s else d) = e at hstall
  generalize (if reserve then 0 else 64) = r
  split
  · exact .refl ..
  · split
    · exact d.streamOnly_loseSlots _ _ _
    · split
      · exact ((d.streamOnly_writeGaps _).trans (Dev.streamOnly_putRecord _ _)).trans (Dev.streamOnly_cutAtLimit _ hs)
      · exact hstall.trans (e.streamOnly_loseSlots _ _ _)

/-- A health record goes to every stream that runs. -/
theorem Dev.exportKept_health (source detail code : Nat) : d.ExportKept (d.health source detail code) :=
  foldl_rel (r := Dev.ExportKept) .refl .trans _ (fun b _ hk =>
    (b.streamOnly_offerRecord (List.mem_range.1 (List.mem_filter.1 hk).1) _ _ _ _).toExportKept) d

end

end Sys2Proof.Machine
end

section
/-! PROOFS. Cuts and seals (R122 to R125): what a cut chains and hands to the signer, and what the signer writes. -/
namespace Sys2Proof.Machine
open Sys2Proof

/-! ## A cut (R122 to R124) -/

section
variable (d : Dev) (s cause : Nat)

/-- The seal that a cut of a stream hands to the signer. -/
def Dev.sealCut : SealJob :=
  { stream := s, slot := d.ctr (kHead s), number := (d.stream s).sealNumber + 1, cycle := d.time.cycles, ring := d.ledgRing s,
    stamp := d.stampOf d.now, version := d.activeVersion, keyId := d.get F.LEDG_KEY_ID_KEY_ID, alive := (d.stream s).alive,
    before := (d.stream s).total, prev := (d.stream s).digest, batch := (d.stream s).batch, causes := 2 ^ cause }

/-- A stream behind its cut: the digest is chained, the next batch is empty, and six slots are reserved. -/
def Dev.streamCut : Stream :=
  { d.stream s with
    alive := ((d.stream s).alive + 1) % 256, batch := [], total := (d.stream s).total + (d.stream s).batch.length / 32
    digest := sha512 ((d.stream s).digest ++ (d.stream s).batch), sealNumber := (d.stream s).sealNumber + 1
    reserved := (d.stream s).reserved ++ [d.ctr (kHead s)] }

/-- The signer takes seals in the order of their cuts, and those of one cycle in stream order (R124). -/
def SealJob.ahead (cycle s : Nat) (j : SealJob) : Bool := decide (j.cycle < cycle) || decide (j.stream < s)

/-- The device whose stream is cut, before HEAD moves past the seal. -/
def Dev.cutMade : Dev :=
  { d.putStream s (d.streamCut s) with
    ledg := { (d.putStream s (d.streamCut s)).ledg with
      signer := d.ledg.signer.filter (SealJob.ahead d.time.cycles s) ++ [d.sealCut s cause] ++
        d.ledg.signer.filter (fun j => !SealJob.ahead d.time.cycles s j) } }

/-- A cut with no loss to report. -/
theorem Dev.cutSeal_cuts (hrun : (d.stream s).running = true) (hstall : (d.stream s).stalledAt = none) (hopen : d.openCut s = none)
    (hgaps : (d.stream s).gaps = []) (hfree : 6 ≤ d.freeSlots s) : d.cutSeal s cause = ((d.writeGaps s []).cutMade s cause).headOn s 6 := by
  simp only [Dev.cutSeal, hrun, hstall, hopen, hgaps, Bool.not_true, Option.isSome_none, Bool.or_self, Bool.false_eq_true, if_false, List.length_nil,
    Nat.zero_add, if_neg (Nat.not_lt.2 hfree)]
  rfl

/-- With no loss to report, reporting them leaves every stream. -/
theorem Dev.stream_writeGaps_nil (hgaps : (d.stream s).gaps = []) (k : Nat) : (d.writeGaps s []).stream k = d.stream k := by
  have hsame : { d.stream s with gaps := [] } = d.stream s := by rw [← hgaps]
  simp only [Dev.writeGaps, hsame]
  by_cases hk : k = s
  · rw [hk, Dev.stream_putStream_self]
  · exact d.stream_putStream_ne s _ hk

end

/-- What SEAL_INTERVAL_EXPIRE and SEAL_NOW of one stream make of it (R123). -/
theorem cut_of_interval_or_request {s : State} {k : Nat} {i : Instr} (hk : k < 8)
    (hi : i = .sealIntervalExpire k ∨ (i = .sealNow (2 ^ k) ∧ s.dev.responds 0x400014 = true)) (hgap : s.dev.flt.gap = 0) :
    ∃ cause, exec i s = done s (s.dev.cutSeal k cause) := by
  have hnamed : ∀ k < 8, (List.range 8).filter (fun j => (2 ^ k).testBit j) = [k] := by decide
  rcases hi with rfl | ⟨rfl, hr⟩
  · refine ⟨0, ?_⟩
    change execSealIntervalExpire k s = _
    simp [execSealIntervalExpire, hk, hgap]
  · refine ⟨2, ?_⟩
    change execSealNow (2 ^ k) s = _
    have honly : (List.range 8).foldl (fun d j => if (2 ^ k).testBit j then d.cutSeal j 2 else d) s.dev = s.dev.cutSeal k 2 := by
      refine List.foldl_filter.symm.trans ?_
      rw [hnamed k hk]
      rfl
    simp only [execSealNow, hr, Bool.not_true, Bool.false_eq_true, if_false, honly]

/-- A cut with no loss to report chains the batch, reserves six slots and hands the seal to the signer. -/
theorem Dev.cutSeal_shows {d : Dev} {k : Nat} (cause : Nat) (hopen : d.openCut k = none) (hrun : (d.stream k).running = true)
    (hstall : (d.stream k).stalledAt = none) (hgaps : (d.stream k).gaps = []) (hfree : 6 ≤ d.freeSlots k) :
    (d.cutSeal k cause).stream k = d.streamCut k ∧ (d.cutSeal k cause).ctr (kHead k) = (d.ctr (kHead k) + 6) % 2 ^ 64 ∧
    (d.cutSeal k cause).ledg.signer = d.ledg.signer.filter (SealJob.ahead d.time.cycles k) ++ [d.sealCut k cause] ++
      d.ledg.signer.filter (fun j => !SealJob.ahead d.time.cycles k j) ∧
    ∀ m, m ≠ k → (d.cutSeal k cause).stream m = d.stream m := by
  obtain ⟨hhead, hstream, hsigner⟩ := ((d.writeGaps k []).cutMade k cause).headOn_shows k 6
  have hsame := d.stream_writeGaps_nil k hgaps
  have hcut : (d.writeGaps k []).streamCut k = d.streamCut k := by
    simp only [Dev.streamCut, hsame]
    rfl
  have hseal : (d.writeGaps k []).sealCut k cause = d.sealCut k cause := by
    simp only [Dev.sealCut, hsame]
    rfl
  rw [d.cutSeal_cuts k cause hrun hstall hopen hgaps hfree, hsigner, hhead, ← hseal, ← hcut]
  refine ⟨(hstream k).trans (Dev.stream_putStream_self _ _ _), rfl, rfl, fun m hm => ?_⟩
  exact (hstream m).trans (((d.writeGaps k []).stream_putStream_ne k _ hm).trans (hsame m))

/-! ## A seal written (R124, R125) -/

section
variable (d : Dev) (j : SealJob) (sig : List Byte)

/-- A seal written leaves the signer, frees its place for the host, shows its number and is counted. -/
theorem Dev.putSeal_shows : (d.putSeal j sig).ledg.signer = d.ledg.signer ∧
    (d.putSeal j sig).ctr (kLastSeal j.stream) = j.number % 2 ^ 64 ∧
    (d.putSeal j sig).ctr (K.LEDG_SEALS j.stream) = (d.ctr (K.LEDG_SEALS j.stream) + 1) % 2 ^ 64 ∧
    j.slot ∉ ((d.putSeal j sig).stream j.stream).reserved ∧
    (d.putSeal j sig).dram.wq = (d.writeSlots j.ring j.slot (j.body ++ sig) 6).dram.wq := by
  have hne : kLastSeal j.stream ≠ K.LEDG_SEALS j.stream := by
    simp only [kLastSeal, K.LEDG_SEALS]
    omega
  obtain ⟨m, hm⟩ := d.writeSlots_eq j.ring j.slot (j.body ++ sig) 6
  simp only [Dev.putSeal, hm]
  refine ⟨rfl, ?_, ?_, ?_, rfl⟩
  · rw [Dev.ctr_count_ne _ _ _ hne, Dev.ctr_setCtr_self]
  · rw [Dev.ctr_count_self, Dev.ctr_setCtr_ne _ _ _ hne.symm]
    rfl
  · intro hmem
    have hres := congrArg Stream.reserved (Dev.stream_putStream_self { d with dram := m } j.stream
      { Dev.stream { d with dram := m } j.stream with
        reserved := (Dev.stream { d with dram := m } j.stream).reserved.filter (fun k => k != j.slot) })
    exact absurd ((List.mem_filter.1 (hres ▸ hmem : j.slot ∈ _)).2) (by simp)

end

/-- What writing a seal without a signature raises. -/
def Dev.unsigned (d : Dev) : Dev := ((d.set F.LEDG_STATUS_SIGNER_FAULT 1).raise F.LEDG_EVENT_SEAL_FAULT).fault Code.ledgerSeal

theorem Dev.unsigned_shows (d : Dev) : (∃ w, d.unsigned = { d with bus := { d.bus with words := w } }) ∧
    d.unsigned.get F.LEDG_STATUS_SIGNER_FAULT = 1 ∧ d.unsigned.get F.LEDG_EVENT_SEAL_FAULT = 1 ∧
    d.unsigned.get ⟨0x1000020, Code.ledgerSeal, 1⟩ = 1 := by
  obtain ⟨w, hw⟩ := ((d.set F.LEDG_STATUS_SIGNER_FAULT 1).raise F.LEDG_EVENT_SEAL_FAULT).fault_eq Code.ledgerSeal 0 0 0
  refine ⟨⟨w, hw⟩, ?_, ?_, Dev.raised_fault _ 0 0 0 (by decide)⟩
  · rw [Dev.unsigned, Dev.get_eq_of_word_eq (by decide) (Dev.word_fault _ 0 0 0 (by decide)), Dev.get_raise_apart _ _ _ (by decide),
      Dev.get_set_self _ _ _ (by decide)]
    rfl
  · rw [Dev.unsigned, Dev.get_eq_of_word_eq (by decide) (Dev.word_fault _ 0 0 0 (by decide)), Dev.get_raise_self _ _ (by decide) (by decide)]

/-- SEAL_WRITE of the seal at the head of the signer, once the cycle of its cut is over. -/
theorem sealWrite_writes {s : State} {j : SealJob} {t : List SealJob} (f : Nat) (h : s.dev.ledg.signer = j :: t) (hc : j.cycle < s.dev.time.cycles) :
    exec (.sealWrite f) s = if 2 ≤ f
      then done s ((s.dev.modLedg (fun l => { l with signer := t })).putSeal j (List.replicate 64 0)).unsigned
      else done s (((s.dev.modLedg (fun l => { l with signer := t })).putSeal j (edSign s.dev.ledg.privateKey j.body)).set
        F.LEDG_STATUS_SIGNER_FAULT 0) := by
  change execSealWrite f s = _
  simp only [execSealWrite, h, if_neg (Nat.not_le.2 hc), ge_iff_le]
  rfl

/-- SEAL_WRITE in the cycle of the cut. -/
theorem sealWrite_early {s : State} {j : SealJob} {t : List SealJob} (f : Nat) (h : s.dev.ledg.signer = j :: t) (hc : s.dev.time.cycles ≤ j.cycle) :
    exec (.sealWrite f) s = done s s.dev := by
  change execSealWrite f s = _
  simp only [execSealWrite, h, if_pos hc, ge_iff_le]

/-! ## The statement -/

/-- Settles O27: a cut by what it leaves of the stream and hands to the signer, and a seal written by what the signer shows of it. That HEAD counts
the six slots from the cut on is the model's choice (assumption log 84). -/
theorem sealsCloseBatchesAndChain : Obligations.SealsCloseBatchesAndChain := by
  unfold Obligations.SealsCloseBatchesAndChain
  refine ⟨?cut, ?written, fun s j t f h hc => .of _ (sealWrite_early f h hc) rfl⟩
  case cut =>
    intro s k i hk hi hgap hopen hrun hstall hgaps hfree _
    obtain ⟨cause, hexec⟩ := cut_of_interval_or_request hk hi hgap
    obtain ⟨hstream, hhead, hsigner, hother⟩ := Dev.cutSeal_shows cause hopen hrun hstall hgaps hfree
    obtain ⟨l, m, b, hrest⟩ := (s.dev.notedFor_cutSeal k cause).rest
    refine .of _ hexec ⟨?_, ?_, ?_, ?_, ?_, hhead, ⟨s.dev.sealCut k cause, hsigner, rfl, rfl, rfl, rfl, rfl, rfl⟩, hother, by rw [hrest]⟩ <;>
      · rw [hstream]
        rfl
  case written =>
    intro s j t f h _ hc
    have hexec := sealWrite_writes f h hc
    have hseal := fun sig => (s.dev.modLedg (fun l => { l with signer := t })).putSeal_shows j sig
    split at hexec
    case isTrue hf =>
      obtain ⟨hsigner, hlast, hcount, hres, hwq⟩ := hseal (List.replicate 64 0)
      obtain ⟨⟨w, hw⟩, hfault, hevent, hcode⟩ :=
        ((s.dev.modLedg (fun l => { l with signer := t })).putSeal j (List.replicate 64 0)).unsigned_shows
      rw [hw] at hexec hfault hevent hcode
      exact .of _ hexec ⟨hsigner, hlast, hcount, hres, fun hlt => absurd hf (Nat.not_le.2 hlt), fun _ => ⟨hfault, hevent, hcode, _, hwq, rfl⟩⟩
    case isFalse hf =>
      obtain ⟨hsigner, hlast, hcount, hres, hwq⟩ := hseal (edSign s.dev.ledg.privateKey j.body)
      exact .of _ hexec ⟨hsigner, hlast, hcount, hres, fun _ => ⟨(Dev.get_set_self _ _ _ (by decide)).trans (Nat.zero_mod _), _, hwq, rfl⟩,
        fun hle => absurd hle hf⟩

end Sys2Proof.Machine
end

section
/-! PROOFS. Exports to the host (R132, R133): the writes of a burst, a translation that fails, and a stream that stops. -/
namespace Sys2Proof.Machine
open Sys2Proof

/-! ## What a burst's writes leave -/

/-- A stream's write to the host. -/
def Use.isExport : Use → Bool
  | .export_ _ => true
  | _ => false

/-- The exported slots of the eight streams, and the failed accesses that are no stream's writes. -/
def Dev.exportSide (d : Dev) : List Nat × List Use :=
  ((List.range 8).map (fun k => d.ctr (kExported k)), d.hif.faulted.filter (fun u => !u.isExport))

/-- A stream's exported slots, where the side of exports is the same. -/
theorem Dev.exported_of_exportSide {d e : Dev} (h : e.exportSide = d.exportSide) {k : Nat} (hk : k < 8) :
    e.ctr (kExported k) = d.ctr (kExported k) := by
  have hcounts : (List.range 8).map (fun k => e.ctr (kExported k)) = (List.range 8).map (fun k => d.ctr (kExported k)) := congrArg Prod.fst h
  exact List.map_inj_left.1 hcounts k (List.mem_range.2 hk)

/-- Where no access had failed, only streams' writes have. -/
theorem Dev.faulted_of_exportSide {d e : Dev} (h : e.exportSide = d.exportSide) (hf : d.hif.faulted = []) :
    ∀ u ∈ e.hif.faulted, u.isExport = true := by
  have hnone : e.hif.faulted.filter (fun u => !u.isExport) = [] := (congrArg Prod.snd h).trans (congrArg _ hf)
  simpa using hnone

section
variable (d : Dev)

@[simp] theorem Dev.exportSide_set (f : Fld) (v : Nat) : (d.set f v).exportSide = d.exportSide := rfl
@[simp] theorem Dev.exportSide_raise (f : Fld) : (d.raise f).exportSide = d.exportSide := rfl
@[simp] theorem Dev.exportSide_emit (o : Out) : (d.emit o).exportSide = d.exportSide := rfl
@[simp] theorem Dev.exportSide_touchXl (inst iova : Nat) : (d.touchXl inst iova).exportSide = d.exportSide := rfl
@[simp] theorem Dev.exportSide_sendRead (op : HostOp) (addr : Nat) : (d.sendRead op addr).exportSide = d.exportSide := rfl
@[simp] theorem Dev.exportSide_modHif (f : Hif → Hif) (h : ∀ x, (f x).faulted = x.faulted) : (d.modHif f).exportSide = d.exportSide := by
  simp [Dev.exportSide, h, Dev.ctr]
@[simp] theorem Dev.exportSide_count {j : Nat} (h : j < 0x401000 ∨ 0x401400 ≤ j) (n : Nat) : (d.count j n).exportSide = d.exportSide := by
  refine congrArg (Prod.mk · _) (List.map_congr_left (fun k hk => Dev.ctr_count_ne d j n ?_))
  have hlt := List.mem_range.1 hk
  unfold kExported
  omega
@[simp] theorem Dev.exportSide_ite (c : Prop) [Decidable c] (d e : Dev) :
    (if c then d else e).exportSide = if c then d.exportSide else e.exportSide := apply_ite Dev.exportSide c d e

@[simp] theorem Dev.exportSide_logPut (ix win words entry : Nat) : (d.logPut ix win words entry).exportSide = d.exportSide := by
  obtain ⟨w, hw⟩ := d.logPut_eq ix win words entry
  rw [hw]
  rfl

/-- A stream's write that fails is listed. -/
theorem Dev.exportSide_failed {u : Use} (h : u.isExport = true) :
    (d.modHif (fun x => { x with faulted := x.faulted ++ [u] })).exportSide = d.exportSide := by
  simp [Dev.exportSide, Dev.ctr, h]

@[simp] theorem Dev.exportSide_walkOp (op : HostOp) : (d.walkOp op).1.exportSide = d.exportSide := by
  unfold Dev.walkOp
  split <;> rfl

@[simp] theorem Dev.exportSide_opDropped (op : HostOp) : (d.opDropped op).exportSide = d.exportSide := by
  unfold Dev.opDropped
  split <;> rfl

@[simp] theorem Dev.exportSide_logDirtyIn (inst iova len k : Nat) : (d.logDirtyIn inst iova len k).exportSide = d.exportSide := by
  have houtside : ∀ e : Dev, (e.count K.HIF_DIRTY_OUTSIDE).exportSide = e.exportSide := fun e => e.exportSide_count (by decide) 1
  simp only [Dev.logDirtyIn]
  repeat' split
  all_goals simp [houtside]

@[simp] theorem Dev.exportSide_logDirty (inst iova len : Nat) : (d.logDirty inst iova len).exportSide = d.exportSide := by
  simp [Dev.logDirty]

@[simp] theorem Dev.exportSide_issue (op : HostOp) (addr : Nat) : (d.issue op addr).exportSide = d.exportSide := by
  have hpoison : ∀ e : Dev, (e.count K.HIF_POISON_TX).exportSide = e.exportSide := fun e => e.exportSide_count (by decide) 1
  simp [Dev.issue, hpoison]

@[simp] theorem Dev.exportSide_walkRead (inst page addr : Nat) : (d.walkRead inst page addr).exportSide = d.exportSide := by
  simp [Dev.walkRead]

@[simp] theorem Dev.exportSide_walkFirst (inst page : Nat) : (d.walkFirst inst page).exportSide = d.exportSide := by
  simp [Dev.walkFirst]

@[simp] theorem Dev.exportSide_beginWalk (inst page : Nat) (pin : Bool) : (d.beginWalk inst page pin).exportSide = d.exportSide := by
  simp [Dev.beginWalk]

@[simp] theorem Dev.exportSide_startWalk (inst iova : Nat) (guar : Bool) : (d.startWalk inst iova guar).exportSide = d.exportSide := by
  have hcount : ∀ e : Dev, (e.count K.HIF_GUAR_WALK).exportSide = e.exportSide := fun e => e.exportSide_count (by decide) 1
  simp [Dev.startWalk, hcount]

@[simp] theorem Dev.exportSide_xlateFault (inst iova reason : Nat) (write : Bool) :
    (d.xlateFault inst iova reason write).exportSide = d.exportSide := by
  have hcount : ∀ e : Dev, (e.count K.HIF_XLATE_FAULTS).exportSide = e.exportSide := fun e => e.exportSide_count (by decide) 1
  simp [Dev.xlateFault, hcount]

theorem Dev.exportSide_tryOp {op : HostOp} (h : op.use.isExport = true) : (d.tryOp op).1.exportSide = d.exportSide := by
  unfold Dev.tryOp
  repeat' split
  all_goals simp [Dev.exportSide_failed _ h]

theorem Dev.exportSide_hostOp {op : HostOp} (h : op.use.isExport = true) : (d.hostOp op).exportSide = d.exportSide := by
  simp [Dev.hostOp, Dev.exportSide_tryOp d h]

theorem Dev.exportSide_dmaWriteN {use : Use} (h : use.isExport = true) (inst n iova : Nat) (b : List Byte) (bad : List (Nat × Nat)) :
    (d.dmaWriteN inst use n iova b bad).exportSide = d.exportSide := by
  induction n generalizing d iova b bad with
  | zero => rfl
  | succ n ih =>
    simp only [Dev.dmaWriteN]
    split
    · rfl
    · exact (ih _ _ _ _).trans (d.exportSide_hostOp h)

/-- A stream's write to the host moves no stream's exported slots, and fails for a stream alone. -/
theorem Dev.exportSide_dmaWrite {use : Use} (h : use.isExport = true) (inst iova : Nat) (b : List Byte) (bad : List (Nat × Nat)) :
    (d.dmaWrite inst iova b use bad).exportSide = d.exportSide := d.exportSide_dmaWriteN h inst _ iova b bad

/-! ## Exports that stop (R133) -/

/-- A stream that stops moves no exported slots, and no access to the host. -/
theorem Dev.stopExport_keeps (s cause : Nat) : (d.stopExport s cause).hif = d.hif ∧
    ∀ k, (d.stopExport s cause).ctr (kExported k) = d.ctr (kExported k) := by
  unfold Dev.stopExport
  split
  · exact ⟨rfl, fun _ => rfl⟩
  · exact ⟨(Dev.noted_health _ _ _ _).hif, (Dev.exportKept_health _ _ _ _).exported⟩

/-- A stream that exports and is stopped has EXPORT clear and EXPORT_STOP raised. -/
theorem Dev.stopExport_stops {s : Nat} (cause : Nat) (hs : s < 8) (h : d.get (F.LEDG_STREAM_CFG_EXPORT s) = 1) :
    (d.stopExport s cause).get (F.LEDG_STREAM_CFG_EXPORT s) = 0 ∧ (d.stopExport s cause).get F.LEDG_EVENT_EXPORT_STOP = 1 := by
  have hone : ¬ d.get (F.LEDG_STREAM_CFG_EXPORT s) = 0 := by omega
  simp only [Dev.stopExport, if_neg hone]
  generalize he : ((d.set (F.LEDG_STREAM_CFG_EXPORT s) 0).set ⟨0x400004, 8 + s, 1⟩ 0).raise F.LEDG_EVENT_EXPORT_STOP = e
  have hkept := e.exportKept_health 7 (s + 2 ^ 16 * cause) 0
  refine ⟨?_, hkept.event 4 (by decide) ?_⟩
  · rw [hkept.get_export hs, ← he,
      Dev.get_raise_apart _ _ _ (by simp [Fld.apart, F.LEDG_STREAM_CFG_EXPORT, F.LEDG_EVENT_EXPORT_STOP]),
      Dev.get_set_apart _ _ _ _ (by simp [Fld.apart, F.LEDG_STREAM_CFG_EXPORT]; omega), Dev.get_set_self _ _ _ (by simp [F.LEDG_STREAM_CFG_EXPORT])]
    exact Nat.zero_mod _
  · rw [← he]
    exact Dev.get_raise_self _ F.LEDG_EVENT_EXPORT_STOP (by decide) (by decide)

/-- A stream's write that failed, handled. -/
theorem Dev.faultUse_keeps {u : Use} (h : u.isExport = true) : (d.faultUse u).hif = d.hif ∧
    ∀ k, (d.faultUse u).ctr (kExported k) = d.ctr (kExported k) := by
  cases u with
  | export_ s => exact d.stopExport_keeps s 3
  | _ => cases h

/-- Failed writes of streams, handled, move no exported slots. -/
theorem Dev.exported_faultsN (h : ∀ u ∈ d.hif.faulted, u.isExport = true) (n k : Nat) : (d.faultsN n).ctr (kExported k) = d.ctr (kExported k) := by
  cases n with
  | zero => rfl
  | succ n =>
    simp only [Dev.faultsN]
    split
    · rfl
    · have hhif := foldl_rel (r := fun a b : Dev => b.hif = a.hif) (fun _ => rfl) (fun h h' => h'.trans h) d.hif.faulted
        (fun b u hu => (b.faultUse_keeps (h u hu)).left) (d.modHif (fun x => { x with faulted := [] }))
      have hctr := foldl_rel (r := fun a b : Dev => b.ctr (kExported k) = a.ctr (kExported k)) (fun _ => rfl) (fun h h' => h'.trans h) d.hif.faulted
        (fun b u hu => (b.faultUse_keeps (h u hu)).right k) (d.modHif (fun x => { x with faulted := [] }))
      rw [Dev.faultsN_quiet (congrArg Hif.faulted hhif), hctr]
      rfl

/-- A failed translation leaves the registers of the streams, and the failed accesses listed. -/
theorem Dev.xlateFault_keeps (inst iova reason : Nat) (write : Bool) : (d.xlateFault inst iova reason write).hif.faulted = d.hif.faulted ∧
    ∀ a, 0x401000 ≤ a → (d.xlateFault inst iova reason write).word a = d.word a := by
  simp only [Dev.xlateFault]
  generalize he : (d.count K.HIF_XLATE_FAULTS).raise F.HIF_EVENT_XLATE_FAULT = e
  have hword : ∀ a, 0x401000 ≤ a → e.word a = d.word a := fun a ha => by
    rw [← he]
    exact (Dev.word_set _ F.HIF_EVENT_XLATE_FAULT 1 a (by dsimp only [F.HIF_EVENT_XLATE_FAULT]; omega) (.inl (by decide)))
  have hhif : e.hif = d.hif := by rw [← he]; rfl
  have hlog : ∀ entry, (e.logPut 0x100070 0x101000 4 entry).hif = d.hif ∧
      ∀ a, 0x401000 ≤ a → (e.logPut 0x100070 0x101000 4 entry).word a = d.word a := fun entry => by
    refine ⟨?_, fun a ha => (e.word_logPut _ _ _ _ (by omega) (.inr (by omega))).trans (hword a ha)⟩
    obtain ⟨w, hw⟩ := e.logPut_eq 0x100070 0x101000 4 entry
    rw [hw]
    exact hhif
  exact ⟨by rw [Dev.modHif_hif, (hlog _).1], (hlog _).2⟩

end

/-- A stall that ends is apart from accesses to the host. -/
theorem Dev.notedFor_unstall (d : Dev) (s : Nat) : NotedFor s d (d.unstall s) := by
  unfold Dev.unstall
  dsimp only
  split
  · exact .refl ..
  · split
    · exact .refl ..
    · exact ((((Dev.notedIn_ledg _ _ _ _).trans (Dev.notedIn_set _ _ _ _ (by simp))).trans (Dev.notedIn_raise _ _ _ (by decide))).trans
        (Dev.notedFor_writeGaps _ _ _)).trans (Dev.notedFor_cutAtLimit _ _)

end Sys2Proof.Machine
end

section
/-! PROOFS. A record taken by one stream among others (R121, R130, R134), and the statement on exports and their counts (R132 to R134). -/
namespace Sys2Proof.Machine
open Sys2Proof

/-! ## A record that finds a slot (R121, R130) -/

@[simp] theorem length_leBytes (n x : Nat) : (leBytes n x).length = n := by
  induction n generalizing x with
  | zero => rfl
  | succ n ih => simp [leBytes, ih]

/-- A HEALTH record is one slot. -/
theorem Dev.length_healthRecord (d : Dev) (stamp source detail code alive : Nat) :
    (d.moduleRecord stamp 5 (leBytes 2 source ++ leBytes 2 0 ++ leBytes 8 detail ++ leBytes 4 code) alive).length = 32 := by
  simp [Dev.moduleRecord, ledgHeader]

section
variable (d : Dev) (s : Nat) {mk : Nat → List Byte}

/-- A slot counted, and HEAD moved past it. -/
theorem Dev.slotCounted_shows {c a n : Nat} (hc : d.ctr (kHead s) = c) (ha : (d.stream s).alive = a) (hb : (d.stream s).batch.length ≤ n) :
    ((d.count (K.LEDG_SLOTS_WRITTEN s) 1).headOn s 1).ctr (kHead s) = (c + 1) % 2 ^ 64 ∧
    (((d.count (K.LEDG_SLOTS_WRITTEN s) 1).headOn s 1).stream s).alive = a ∧
    (((d.count (K.LEDG_SLOTS_WRITTEN s) 1).headOn s 1).stream s).batch.length ≤ n := by
  obtain ⟨hhead, hstream, -⟩ := (d.count (K.LEDG_SLOTS_WRITTEN s) 1).headOn_shows s 1
  rw [hhead, hstream, Dev.ctr_count_ne _ _ _ (by simp only [kHead, K.LEDG_SLOTS_WRITTEN]; omega), hc]
  exact ⟨rfl, ha, hb⟩

/-- A record of one slot moves HEAD and the alive counter on by one, and the open batch grows by at most its bytes. -/
theorem Dev.putRecord_shows (hmk : ∀ a, (mk a).length = 32) : (d.putRecord s mk).ctr (kHead s) = (d.ctr (kHead s) + 1) % 2 ^ 64 ∧
    ((d.putRecord s mk).stream s).alive = ((d.stream s).alive + 1) % 256 ∧
    ((d.putRecord s mk).stream s).batch.length ≤ (d.stream s).batch.length + 32 := by
  have hone : ∀ a, (mk a).length / 32 = 1 := fun a => by rw [hmk]
  have hslots : ∀ ring slot b, (d.writeSlots ring slot b 1).ctr (kHead s) = d.ctr (kHead s) := fun ring slot b => by
    obtain ⟨m, hm⟩ := d.writeSlots_eq ring slot b 1
    rw [hm]
    rfl
  simp only [Dev.putRecord, hone]
  split
  next =>
    refine Dev.slotCounted_shows _ s (hslots (d.ledgRing s) (d.ctr (kHead s)) (mk (d.stream s).alive)) ?_ ?_
    · rw [Dev.stream_putStream_self]
    · rw [Dev.stream_putStream_self]
      simp [hmk]
  next j _ =>
    refine Dev.slotCounted_shows _ s (hslots j.ring j.slot (mk j.alive)) ?_ ?_
    · simp [Dev.stream, Dev.putStream, mapGetD]
    · simp [Dev.stream, Dev.putStream, mapGetD]

/-- A record of one slot that may use the reserve (R130), where the slot does not bring the batch to LIMIT. -/
theorem Dev.offerRecord_taken (ns : Nat) (hmk : ∀ a, (mk a).length = 32) (hrun : (d.stream s).running = true)
    (hstall : (d.stream s).stalledAt = none) (hgaps : (d.stream s).gaps = []) (hfree : 1 ≤ d.freeSlots s)
    (hlimit : (d.stream s).batch.length / 32 + 1 < d.sh F.LEDG_SEAL_LIMIT_LIMIT) :
    (d.offerRecord s 1 true ns mk).ctr (kHead s) = (d.ctr (kHead s) + 1) % 2 ^ 64 ∧
    ((d.offerRecord s 1 true ns mk).stream s).alive = ((d.stream s).alive + 1) % 256 := by
  obtain ⟨hhead, halive, hbatch⟩ := (d.writeGaps s []).putRecord_shows s hmk
  rw [d.stream_writeGaps_nil s hgaps] at halive hbatch
  obtain ⟨⟨l, m, b, hrest⟩, -⟩ := (d.notedFor_writeGaps s []).trans ((d.writeGaps s []).notedFor_putRecord s mk)
  have hlim : ((d.writeGaps s []).putRecord s mk).sh F.LEDG_SEAL_LIMIT_LIMIT = d.sh F.LEDG_SEAL_LIMIT_LIMIT := by rw [hrest]; rfl
  have huncut : ((d.writeGaps s []).putRecord s mk).cutAtLimit s = (d.writeGaps s []).putRecord s mk :=
    if_neg (by rw [hlim]; omega)
  have hoffer : d.offerRecord s 1 true ns mk = (d.writeGaps s []).putRecord s mk := by
    simp [Dev.offerRecord, hrun, hstall, hgaps, hfree, huncut]
  rw [hoffer]
  exact ⟨hhead, halive⟩

end

/-! ## A health record offered to every stream (R121, R134) -/

/-- Two devices with the same configuration, in which a stream with its HEAD and its exported slots is the same. -/
structure Dev.StreamKept (k : Nat) (d e : Dev) : Prop where
  cfg : e.cfg = d.cfg
  stream : e.stream k = d.stream k
  head : e.ctr (kHead k) = d.ctr (kHead k)
  exported : e.ctr (kExported k) = d.ctr (kExported k)

namespace Dev.StreamKept
variable {k : Nat} {d e f : Dev}

theorem refl (k : Nat) (d : Dev) : StreamKept k d d := ⟨rfl, rfl, rfl, rfl⟩

theorem trans (h : StreamKept k d e) (h' : StreamKept k e f) : StreamKept k d f :=
  ⟨h'.cfg.trans h.cfg, h'.stream.trans h.stream, h'.head.trans h.head, h'.exported.trans h.exported⟩

theorem sh (h : StreamKept k d e) (f : Fld) : e.sh f = d.sh f := by
  simp only [Dev.sh, h.cfg]

theorem freeSlots (h : StreamKept k d e) : e.freeSlots k = d.freeSlots k := by
  simp only [Dev.freeSlots, Dev.ringSlots, h.sh, h.head, h.exported]

end Dev.StreamKept

/-- A record offered to one stream is none of another's. -/
theorem Dev.streamKept_offerRecord (d : Dev) {s k : Nat} (hs : s < 8) (hk : k ≠ s) (n : Nat) (reserve : Bool) (ns : Nat) (mk : Nat → List Byte) :
    StreamKept k d (d.offerRecord s n reserve ns mk) := by
  have honly := d.streamOnly_offerRecord hs n reserve ns mk
  have hnoted := d.notedFor_offerRecord s n reserve ns mk
  obtain ⟨l, m, b, hrest⟩ := hnoted.rest
  exact ⟨by rw [hrest], honly.stream k hk, hnoted.ctr _ (by simp only [kHead]; omega), honly.exported k⟩

/-- A fold whose steps but one stand in a relation: the one step, between what leads to it and what follows it. -/
theorem foldl_around {α β : Type} {r : β → β → Prop} (refl : ∀ b, r b b) (trans : ∀ {a b c}, r a b → r b c → r a c) {f : β → α → β}
    {l : List α} {k : α} (hl : l.Nodup) (hk : k ∈ l) (h : ∀ b, ∀ a ∈ l, a ≠ k → r b (f b a)) (b : β) : ∃ c, r b c ∧ r (f c k) (l.foldl f b) := by
  obtain ⟨l₁, l₂, rfl⟩ := List.append_of_mem hk
  have hnodup := List.nodup_middle.1 hl
  have hne : ∀ a ∈ l₁ ++ l₂, a ≠ k := fun a ha hak => (List.nodup_cons.1 hnodup).1 (hak ▸ ha)
  rw [List.foldl_append, List.foldl_cons]
  exact ⟨l₁.foldl f b, foldl_rel refl trans l₁ (fun b a ha => h b a (by simp [ha]) (hne a (by simp [ha]))) b,
    foldl_rel refl trans l₂ (fun b a ha => h b a (by simp [ha]) (hne a (by simp [ha]))) _⟩

section
variable (d : Dev) {k : Nat} (hk : k < 8) (hrun : (d.stream k).running = true) (hstall : (d.stream k).stalledAt = none)
  (hgaps : (d.stream k).gaps = []) (hfree : 1 ≤ d.freeSlots k) (hlimit : (d.stream k).batch.length / 32 + 1 < d.sh F.LEDG_SEAL_LIMIT_LIMIT)
include hk hrun hstall hgaps hfree hlimit

/-- A record of one slot offered to every stream that runs adds a slot to one that has no loss to report and finds a slot, where the slot does not
bring the batch to LIMIT. -/
theorem Dev.offeredToAll_taken (ns : Dev → Nat) {mk : Dev → Nat → List Byte} (hmk : ∀ d a, (mk d a).length = 32) :
    (d.runningStreams.foldl (fun d s => d.offerRecord s 1 true (ns d) (mk d)) d).ctr (kHead k) = (d.ctr (kHead k) + 1) % 2 ^ 64 ∧
    ((d.runningStreams.foldl (fun d s => d.offerRecord s 1 true (ns d) (mk d)) d).stream k).alive = ((d.stream k).alive + 1) % 256 := by
  have hnodup : d.runningStreams.Nodup := List.nodup_range.filter _
  have hmem : k ∈ d.runningStreams := List.mem_filter.2 ⟨List.mem_range.2 hk, hrun⟩
  obtain ⟨c, hbefore, hafter⟩ := foldl_around (r := Dev.StreamKept k) (f := fun d s => d.offerRecord s 1 true (ns d) (mk d))
    (.refl k) .trans hnodup hmem
    (fun b s hs hsk => b.streamKept_offerRecord (List.mem_range.1 (List.mem_filter.1 hs).1) (Ne.symm hsk) _ _ _ _) d
  rw [← hbefore.stream] at hrun hstall hgaps hlimit
  rw [← hbefore.freeSlots] at hfree
  rw [← hbefore.sh] at hlimit
  obtain ⟨hhead, halive⟩ := c.offerRecord_taken k (ns c) (hmk c) hrun hstall hgaps hfree hlimit
  rw [hafter.head, hafter.stream, hhead, halive, hbefore.head, hbefore.stream]
  exact ⟨rfl, rfl⟩

/-- A health record does (R134). -/
theorem Dev.health_taken (source detail code : Nat) : (d.health source detail code).ctr (kHead k) = (d.ctr (kHead k) + 1) % 2 ^ 64 ∧
    ((d.health source detail code).stream k).alive = ((d.stream k).alive + 1) % 256 :=
  d.offeredToAll_taken hk hrun hstall hgaps hfree hlimit Dev.nowNs (fun d => d.length_healthRecord d.now source detail code)

end

/-! ## The commands of exports (R132, R133) -/

/-- The device behind the two writes of a burst: the slots' bytes, and then the count of exported slots (R132). -/
def Dev.burstWritten (d : Dev) (k : Nat) (b : List Byte) : Dev :=
  (d.dmaWrite (d.sh (F.LEDG_STREAM_CFG_INSTANCE k)) (d.exportData k) b (.export_ k)
    (d.poisonRanges (d.slotAddr k (d.ctr (kExported k))) (32 * d.exportSlots k))).dmaWrite (d.sh (F.LEDG_STREAM_CFG_INSTANCE k))
    (d.sh (F.LEDG_STREAM_MIRROR_ADDR k)) (leBytes 8 (d.ctr (kExported k) + d.exportSlots k)) (.export_ k)

theorem Dev.exportSide_burstWritten (d : Dev) (k : Nat) (b : List Byte) : (d.burstWritten k b).exportSide = d.exportSide :=
  (Dev.exportSide_dmaWrite _ rfl _ _ _ _).trans (d.exportSide_dmaWrite rfl _ _ _ _)

section
variable {s : State} {k : Nat}

theorem ledgerExportBurst_idle (h : s.dev.exporting k = false ∨ s.dev.exportSlots k = 0) : exec (.ledgerExportBurst k) s = done s s.dev := by
  change execLedgerExportBurst k s = _
  rcases h with h | h
  · simp [execLedgerExportBurst, h]
  · simp [execLedgerExportBurst, h]

/-- A stream that exports is one of the eight, with EXPORT set. -/
theorem Dev.exporting_shows {d : Dev} (h : d.exporting k = true) : k < 8 ∧ d.get (F.LEDG_STREAM_CFG_EXPORT k) = 1 := by
  simp only [Dev.exporting, Dev.flag, Bool.and_eq_true, decide_eq_true_eq, beq_iff_eq] at h
  obtain ⟨⟨⟨hk, hexport⟩, -⟩, -⟩ := h
  exact ⟨hk, hexport⟩

/-- No write of a function waits. -/
theorem unwaited_of_forall {l : List HostOp} {inst : Nat} (h : ∀ w ∈ l, w.inst = inst → w.len ≠ 0) :
    l.any (fun w => w.inst == inst && w.len == 0) = false := by
  simpa [List.any_eq_false] using h

section
variable (he : s.dev.exporting k = true) (hn : s.dev.exportSlots k ≠ 0)
  (hw : ∀ w ∈ s.dev.hif.waiting, w.inst = s.dev.sh (F.LEDG_STREAM_CFG_INSTANCE k) → w.len ≠ 0)
include he hn hw

/-- A burst whose place fails its translation stops the stream (R133). -/
theorem ledgerExportBurst_faults {r : Nat} (hx : s.dev.exportXlate k (s.dev.exportData k) = .fault r) : exec (.ledgerExportBurst k) s =
    doneH s ((s.dev.xlateFault (s.dev.sh (F.LEDG_STREAM_CFG_INSTANCE k)) (s.dev.exportData k) r true).stopExport k 3) := by
  simp only [Dev.exportXlate, Dev.exportData] at hx
  change execLedgerExportBurst k s = _
  simp only [execLedgerExportBurst, he, hn, unwaited_of_forall hw, hx, Bool.not_true, Bool.false_or, beq_iff_eq, if_false, Bool.false_eq_true]
  rfl

/-- A burst whose places are translated is written and counted, and may end a stall (R130, R132). -/
theorem ledgerExportBurst_counts {p q : Nat} (hx : s.dev.exportXlate k (s.dev.exportData k) = .hit p)
    (hy : s.dev.exportXlate k (s.dev.sh (F.LEDG_STREAM_MIRROR_ADDR k)) = .hit q) : ∃ b, exec (.ledgerExportBurst k) s =
    doneH s ((((s.dev.burstWritten k b).setCtr (kExported k) (s.dev.ctr (kExported k) + s.dev.exportSlots k)).count K.MOVE_BYTES
      (32 * s.dev.exportSlots k)).unstall k) := by
  refine ⟨memRead (ddrView s.ddr s.dev.dram.wq) (s.dev.slotAddr k (s.dev.ctr (kExported k))) (32 * s.dev.exportSlots k), ?_⟩
  simp only [Dev.exportXlate, Dev.exportData] at hx hy
  change execLedgerExportBurst k s = _
  simp only [execLedgerExportBurst, he, hn, unwaited_of_forall hw, hx, hy, Bool.not_true, Bool.false_or, beq_iff_eq, if_false, Bool.false_eq_true]
  rfl

end

theorem exportStop_stops (hl : s.dev.Live) (hk : k < 8) : exec (.exportStop k) s = done s (s.dev.stopExport k 4) := by
  change execExportStop k s = _
  simp [execExportStop, hk, hl.responds]

theorem exportResume_ignored (h : s.dev.get (F.LEDG_STREAM_CFG_EXPORT k) = 1) : exec (.exportResume k) s = done s s.dev := by
  change execExportResume k s = _
  simp [execExportResume, Dev.flag, h]

theorem exportResume_resumes (hl : s.dev.Live) (hk : k < 8) (h : s.dev.get (F.LEDG_STREAM_CFG_EXPORT k) = 0) : exec (.exportResume k) s =
    done s (((s.dev.set (F.LEDG_STREAM_CFG_EXPORT k) 1).set ⟨0x400004, 8 + k, 1⟩ 1).health 7 (k + 256) 0) := by
  change execExportResume k s = _
  simp [execExportResume, Dev.flag, h, hl.responds, Nat.not_le.2 hk]

theorem ledgerHostTailWrite_sets (hl : s.dev.Live) (hk : k < 8) (n : Nat) :
    exec (.ledgerHostTailWrite k n) s = done s (s.dev.setCtr (kHostTail k) n) := by
  change execLedgerHostTailWrite k n s = _
  simp [execLedgerHostTailWrite, hk, hl.responds]

section
variable (hr : s.dev.sys.ready = true) (inst n : Nat)
include hr

theorem ledgerTailDoorbell_poisoned (single : Bool) : exec (.ledgerTailDoorbell inst k n single true) s = done s (s.dev.count K.HIF_POISON_RX) := by
  change execLedgerTailDoorbell inst k n single true s = _
  simp [execLedgerTailDoorbell, hr]

theorem ledgerTailDoorbell_split : exec (.ledgerTailDoorbell inst k n false false) s =
    done s ((s.dev.count K.RING_BAD_DOORBELL).raise F.RING_EVENT_BAD_DOORBELL) := by
  change execLedgerTailDoorbell inst k n false false s = _
  simp [execLedgerTailDoorbell, hr]

theorem ledgerTailDoorbell_whole (hk : k < 8) : exec (.ledgerTailDoorbell inst k n true false) s =
    if s.dev.sh (F.LEDG_STREAM_CFG_INSTANCE k) = inst then done s (s.dev.setCtr (kHostTail k) n)
    else done s (s.dev.count K.RING_LEDGER_TAIL_IGNORED) := by
  change execLedgerTailDoorbell inst k n true false s = _
  simp [execLedgerTailDoorbell, hr, Nat.not_le.2 hk, ite_not]

end

end

/-! ## The statement -/

/-- Settles O28: a burst by its counts, a translation that fails and EXPORT_STOP by the stream they stop, the doorbell by who rings it, and a health
record by what it adds to each stream. -/
theorem exportKeepsItsCountsAndStops : Obligations.ExportKeepsItsCountsAndStops := by
  unfold Obligations.ExportKeepsItsCountsAndStops
  refine ⟨?burst, ?fault, fun s k h => .of _ (ledgerExportBurst_idle h) rfl, ?doorbell, ?manager, ?stop, ?resume, ?selfTest, ?noSelfTest⟩
  case burst =>
    intro s k p q he hn hf hw hx hy
    obtain ⟨hk, -⟩ := Dev.exporting_shows he
    obtain ⟨b, hexec⟩ := ledgerExportBurst_counts he hn hw hx hy
    have hmove : kExported k ≠ K.MOVE_BYTES := by
      simp only [kExported, K.MOVE_BYTES]
      omega
    generalize hg : ((s.dev.burstWritten k b).setCtr (kExported k) (s.dev.ctr (kExported k) + s.dev.exportSlots k)).count K.MOVE_BYTES
      (32 * s.dev.exportSlots k) = g at hexec
    have hcount : g.ctr (kExported k) = (s.dev.ctr (kExported k) + s.dev.exportSlots k) % 2 ^ 64 := by
      rw [← hg, Dev.ctr_count_ne _ _ _ hmove, Dev.ctr_setCtr_self]
    have hfaulted : ∀ u ∈ (g.unstall k).hif.faulted, u.isExport = true := by
      rw [(g.notedFor_unstall k).hif, ← hg, Dev.count_hif, Dev.setCtr_hif]
      exact Dev.faulted_of_exportSide (s.dev.exportSide_burstWritten k b) hf
    refine .of _ hexec ?_
    rw [(Dev.pauseOnly_pauseSettle _).ctr, Dev.exported_faultsN _ hfaulted, (g.streamOnly_unstall hk).exported, hcount]
  case fault =>
    intro s k r he hn hf hw hx
    obtain ⟨hk, hexport⟩ := Dev.exporting_shows he
    have hside := s.dev.exportSide_xlateFault (s.dev.sh (F.LEDG_STREAM_CFG_INSTANCE k)) (s.dev.exportData k) r true
    obtain ⟨hfaulted, hword⟩ := s.dev.xlateFault_keeps (s.dev.sh (F.LEDG_STREAM_CFG_INSTANCE k)) (s.dev.exportData k) r true
    have hexec := ledgerExportBurst_faults he hn hw hx
    generalize s.dev.xlateFault (s.dev.sh (F.LEDG_STREAM_CFG_INSTANCE k)) (s.dev.exportData k) r true = e at hside hfaulted hword hexec
    obtain ⟨hhif, hctr⟩ := e.stopExport_keeps k 3
    have hset : e.get (F.LEDG_STREAM_CFG_EXPORT k) = 1 :=
      (Dev.get_eq_of_word_eq (show 1 + 1 ≤ 32 by decide) (hword _ (Nat.le_add_right _ _))).trans hexport
    obtain ⟨hclear, hevent⟩ := e.stopExport_stops 3 hk hset
    refine .of_doneH _ hexec (by rw [hhif, hfaulted, hf]) (fun t ht => ?_)
    rw [ht.ctr, ht.get, ht.get]
    exact ⟨(hctr k).trans (Dev.exported_of_exportSide hside hk), hclear, hevent⟩
  case doorbell =>
    intro s inst k n hr hk hn
    have hwhole := ledgerTailDoorbell_whole hr inst n hk
    refine ⟨fun hi => ?_, fun hi => ?_, .of _ (ledgerTailDoorbell_poisoned hr inst n true) ⟨Dev.ctr_count_self _ _ _, Dev.ctr_count_ne _ _ _ ?_⟩,
      .of _ (ledgerTailDoorbell_split hr inst n) ⟨Dev.ctr_count_self _ _ _, Dev.get_raise_self _ _ (by decide) (by decide)⟩⟩
    · rw [if_pos hi] at hwhole
      exact .of _ hwhole ⟨(Dev.ctr_setCtr_self _ _ _).trans (Nat.mod_eq_of_lt hn), rfl, rfl⟩
    · rw [if_neg hi] at hwhole
      refine .of _ hwhole ⟨Dev.ctr_count_self _ _ _, Dev.ctr_count_ne _ _ _ ?_⟩
      simp only [kHostTail, K.RING_LEDGER_TAIL_IGNORED]
      omega
    · simp only [kHostTail, K.HIF_POISON_RX]
      omega
  case manager =>
    intro s k n hl hk hn
    exact .of _ (ledgerHostTailWrite_sets hl hk n) ⟨(Dev.ctr_setCtr_self _ _ _).trans (Nat.mod_eq_of_lt hn), rfl⟩
  case stop =>
    intro s k hl hk he
    exact ⟨.of _ (exportStop_stops hl hk) (s.dev.stopExport_stops 4 hk he), .of _ (exportResume_ignored he) rfl⟩
  case resume =>
    intro s k hl hk he
    refine .of _ (exportResume_resumes hl hk he) ?_
    rw [(Dev.exportKept_health _ _ _ _).get_export hk, Dev.get_set_apart _ _ _ _ (by simp [Fld.apart, F.LEDG_STREAM_CFG_EXPORT]; omega),
      Dev.get_set_self _ _ _ (by simp [F.LEDG_STREAM_CFG_EXPORT])]
    rfl
  case selfTest =>
    intro s h
    refine .of (s.dev.health 5 (s.dev.word 0x1000000).toNat 0) (if_neg h) (fun k hk hrun hstall hgaps hfree hlimit => ?_)
    exact s.dev.health_taken hk hrun hstall hgaps hfree hlimit _ _ _
  case noSelfTest => exact fun s h => .of _ (if_pos h) rfl

end Sys2Proof.Machine
end

section
/-! PROOFS. The forwarding tables (R163 to R170, R184): an entry read after a write or a removal, the learn counts, the refreshes that wait, and what
the places of a key depend on. -/
namespace Sys2Proof.Machine
open Sys2Proof

/-! ## Entries and learn counts (R163, R170) -/

section
variable (d : Dev)

/-- An entry written at a place stands there. -/
@[simp] theorem Dev.fwdAt_putFwd_self (i : Nat) (e : FwdEntry) : (d.putFwd i e).fwdAt i = some e := mapGet_mapPut_self _ _ _

/-- An entry written leaves every other place. -/
theorem Dev.fwdAt_putFwd_ne {i m : Nat} (e : FwdEntry) (h : m ≠ i) : (d.putFwd i e).fwdAt m = d.fwdAt m := mapGet_mapPut_ne _ _ h

@[simp] theorem Dev.putFwd_refreshes (i : Nat) (e : FwdEntry) : (d.putFwd i e).fwd.refreshes = d.fwd.refreshes := rfl

/-- The words that hold neither the number of learned entries nor a port's learn count. -/
def learnApart (a : Nat) : Prop := a ≠ 0x60000C ∧ (a < 0x601004 ∨ 0x601054 < a)

/-- A learn count writes the number of learned entries, and the count of a port that has one. -/
theorem Dev.learnCount_cases (port : Nat) (up : Bool) {v : Nat} (hv : (if up then d.get F.FWD_STATUS_LEARNED + 1 else d.get F.FWD_STATUS_LEARNED - 1) = v) :
    d.learnCount port up = d.set F.FWD_STATUS_LEARNED v ∨
    port ≤ 10 ∧ ∃ n, d.learnCount port up = (d.set F.FWD_STATUS_LEARNED v).set (F.FWD_PORT_COUNT_COUNT port) n := by
  subst hv
  by_cases hp : port ≤ 10
  · exact .inr ⟨hp, _, if_pos hp⟩
  · exact .inl (if_neg hp)

/-- A learn count changes words alone. -/
theorem Dev.learnCount_eq (port : Nat) (up : Bool) : ∃ w, d.learnCount port up = { d with bus := { d.bus with words := w } } := by
  obtain h | ⟨-, n, h⟩ := d.learnCount_cases port up rfl
  · exact ⟨_, h⟩
  · exact ⟨_, h⟩

@[simp] theorem Dev.learnCount_fwd (port : Nat) (up : Bool) : (d.learnCount port up).fwd = d.fwd := by
  obtain ⟨w, hw⟩ := d.learnCount_eq port up
  rw [hw]

@[simp] theorem Dev.learnCount_cfg (port : Nat) (up : Bool) : (d.learnCount port up).cfg = d.cfg := by
  obtain ⟨w, hw⟩ := d.learnCount_eq port up
  rw [hw]

@[simp] theorem Dev.learnCount_ctr (port : Nat) (up : Bool) (k : Nat) : (d.learnCount port up).ctr k = d.ctr k := by
  obtain ⟨w, hw⟩ := d.learnCount_eq port up
  rw [hw]
  rfl

@[simp] theorem Dev.learnCount_fwdAt (port : Nat) (up : Bool) (m : Nat) : (d.learnCount port up).fwdAt m = d.fwdAt m := by
  rw [Dev.fwdAt, d.learnCount_fwd]
  rfl

/-- A learn count leaves the words apart. -/
theorem Dev.word_learnCount (port : Nat) (up : Bool) {a : Nat} (h : learnApart a) : (d.learnCount port up).word a = d.word a := by
  obtain ⟨hs, hp⟩ := h
  have hstatus : ∀ v, (d.set F.FWD_STATUS_LEARNED v).word a = d.word a := fun v => d.word_set _ v a hs (.inl (by decide))
  obtain h | ⟨hport, n, h⟩ := d.learnCount_cases port up rfl
  · rw [h, hstatus]
  · rw [h, Dev.word_set _ _ _ _ (by simp only [F.FWD_PORT_COUNT_COUNT]; omega) (.inl (show 0 + 21 ≤ 32 by decide)), hstatus]

/-- The number of learned entries after one more of them. -/
theorem Dev.learned_learnCount (port : Nat) (h : d.get F.FWD_STATUS_LEARNED < 1048576) :
    (d.learnCount port true).get F.FWD_STATUS_LEARNED = d.get F.FWD_STATUS_LEARNED + 1 := by
  have hset : (d.set F.FWD_STATUS_LEARNED (d.get F.FWD_STATUS_LEARNED + 1)).get F.FWD_STATUS_LEARNED = d.get F.FWD_STATUS_LEARNED + 1 :=
    (Dev.get_set_self _ _ _ (by decide)).trans (Nat.mod_eq_of_lt (show _ < 2097152 by omega))
  obtain h | ⟨-, n, h⟩ := d.learnCount_cases port true (if_pos rfl)
  · rw [h, hset]
  · rw [h, Dev.get_set_apart, hset]
    simp [Fld.apart, F.FWD_PORT_COUNT_COUNT, F.FWD_STATUS_LEARNED]
    omega

/-! ## A removal (R170) -/

/-- A removal changes the entries and words alone. -/
theorem Dev.removeFwd_eq (i : Nat) : ∃ w l, d.removeFwd i =
    { d with bus := { d.bus with words := w }, fwd := { d.fwd with entries := l } } := by
  unfold Dev.removeFwd
  split
  · exact ⟨_, _, rfl⟩
  · split
    · exact ⟨_, _, rfl⟩
    · obtain ⟨w, hw⟩ := (d.modFwd (fun f => { f with entries := mapErase f.entries i })).learnCount_eq ‹FwdEntry›.port false
      exact ⟨w, _, hw⟩

@[simp] theorem Dev.removeFwd_cfg (i : Nat) : (d.removeFwd i).cfg = d.cfg := by
  obtain ⟨w, l, hw⟩ := d.removeFwd_eq i
  rw [hw]

@[simp] theorem Dev.removeFwd_ctr (i k : Nat) : (d.removeFwd i).ctr k = d.ctr k := by
  obtain ⟨w, l, hw⟩ := d.removeFwd_eq i
  rw [hw]
  rfl

@[simp] theorem Dev.removeFwd_refreshes (i : Nat) : (d.removeFwd i).fwd.refreshes = d.fwd.refreshes := by
  obtain ⟨w, l, hw⟩ := d.removeFwd_eq i
  rw [hw]

/-- A removal leaves the words apart. -/
theorem Dev.word_removeFwd (i : Nat) {a : Nat} (h : learnApart a) : (d.removeFwd i).word a = d.word a := by
  unfold Dev.removeFwd
  split
  · rfl
  · split
    · rfl
    · exact Dev.word_learnCount _ _ _ h

/-- A removed place is empty. -/
@[simp] theorem Dev.fwdAt_removeFwd_self (i : Nat) : (d.removeFwd i).fwdAt i = none := by
  unfold Dev.removeFwd
  split
  · assumption
  · split
    · exact mapGet_mapErase_self _ _
    · exact (Dev.learnCount_fwdAt _ _ _ _).trans (mapGet_mapErase_self _ _)

/-- A removal leaves every other place. -/
theorem Dev.fwdAt_removeFwd_ne {i m : Nat} (h : m ≠ i) : (d.removeFwd i).fwdAt m = d.fwdAt m := by
  unfold Dev.removeFwd
  split
  · rfl
  · split
    · exact mapGet_mapErase_ne _ h
    · exact (Dev.learnCount_fwdAt _ _ _ _).trans (mapGet_mapErase_ne _ h)

/-- A static entry removed leaves the registers. -/
theorem Dev.removeFwd_static_bus {i : Nat} {e : FwdEntry} (h : d.fwdAt i = some e) (hs : e.isStatic = true) : (d.removeFwd i).bus = d.bus := by
  simp only [Dev.removeFwd, h, hs, if_true]
  rfl

end

/-! ## Refreshes that wait (R184) -/

/-- With no refresh waiting, the update unit changes nothing. -/
theorem Dev.applyRefreshes_none {d : Dev} (h : d.fwd.refreshes = []) : d.applyRefreshes = d := by
  have hf : { d.fwd with refreshes := [] } = d.fwd := by rw [← h]
  rw [Dev.applyRefreshes, h, Dev.modFwd, hf]
  rfl

/-- A refresh of a key that stands unfrozen in its place writes its AGE. -/
theorem Dev.applyRefreshes_one {d : Dev} {i tk : Nat} {e : FwdEntry} (h : d.fwd.refreshes = [(i, e.mac, e.fd, tk)]) (he : d.fwdAt i = some e)
    (hf : e.frozen = false) : d.applyRefreshes = (d.modFwd (fun f => { f with refreshes := [] })).putFwd i { e with age := tk } := by
  have hat : (d.modFwd (fun f => { f with refreshes := [] })).fwdAt i = some e := he
  simp only [Dev.applyRefreshes, h, List.foldl_cons, List.foldl_nil, hat, hf, and_self, if_true]

/-! ## What the places of a key depend on (R167, R169) -/

/-- Two devices with the same entries, the same units taken out, and the same hash seeds: every key stands, and finds room, at the same place. -/
structure Dev.SamePlaces (d e : Dev) : Prop where
  entries : e.fwd.entries = d.fwd.entries
  flt : e.flt = d.flt
  seeds : e.word 0x60001C = d.word 0x60001C

namespace Dev.SamePlaces
variable {d e : Dev} (h : d.SamePlaces e)
include h

theorem fwdAt (m : Nat) : e.fwdAt m = d.fwdAt m := by
  rw [Dev.fwdAt, h.entries]
  rfl

theorem bucketOf (ddr : Bool) (mac fd : Nat) : e.bucketOf ddr mac fd = d.bucketOf ddr mac fd := by
  have hd : e.get F.FWD_SEED_SEED_DDR5 = d.get F.FWD_SEED_SEED_DDR5 := Dev.get_eq_of_word_eq (by decide) h.seeds
  have ho : e.get F.FWD_SEED_SEED_ONDIE = d.get F.FWD_SEED_SEED_ONDIE := Dev.get_eq_of_word_eq (by decide) h.seeds
  simp only [Dev.bucketOf, hd, ho]

theorem findIn (ddr : Bool) (mac fd : Nat) : e.findIn ddr mac fd = d.findIn ddr mac fd := by
  have his : e.fwdIs mac fd = d.fwdIs mac fd := funext fun i => by simp only [Dev.fwdIs, h.fwdAt]
  have hout : e.fwdOut = d.fwdOut := funext fun i => by simp only [Dev.fwdOut, h.flt]
  have hover : e.findOver ddr mac fd = d.findOver ddr mac fd := by simp only [Dev.findOver, h.entries]
  simp only [Dev.findIn, h.bucketOf, his, hout, hover, h.flt]

theorem fwdFind (mac fd : Nat) : e.fwdFind mac fd = d.fwdFind mac fd := by simp only [Dev.fwdFind, h.findIn]

theorem freePlace (ddr : Bool) (mac fd : Nat) : e.freePlace ddr mac fd = d.freePlace ddr mac fd := by
  simp only [Dev.freePlace, h.bucketOf, h.fwdAt, h.entries]

theorem mayStand (i mac fd : Nat) : e.mayStand i mac fd = d.mayStand i mac fd := by simp only [Dev.mayStand, h.bucketOf]

end Dev.SamePlaces

end Sys2Proof.Machine
end

section
/-! PROOFS. FWD's indirect operations on the forwarding table and on the tables of a configuration set (R161, R186, R187). -/
namespace Sys2Proof.Machine
open Sys2Proof

/-! ## An operation of FWD's indirect registers begun (R161) -/

/-- What the start of an operation of FWD's indirect registers leaves: BUSY is set, and only FWD_IND_CTRL and FWD_IND_INDEX have changed. -/
structure Dev.FwdBegun (d b : Dev) : Prop where
  fwd : b.fwd = d.fwd
  cfg : b.cfg = d.cfg
  flt : b.flt = d.flt
  busy : b.get F.FWD_IND_CTRL_BUSY = 1
  word : ∀ a, a ≠ 0x600100 → a ≠ 0x600104 → b.word a = d.word a

theorem Dev.fwdBegun_indStarted (d : Dev) (op table set index : Nat) : d.FwdBegun (d.indStarted 0x600100 op table set index) :=
  ⟨rfl, rfl, rfl, d.indStarted_busy _ _ _ _ _, fun _ h h' => d.indStarted_word _ _ _ _ _ h h'⟩

namespace Dev.FwdBegun
variable {d b : Dev} (h : d.FwdBegun b)
include h

theorem samePlaces : d.SamePlaces b := ⟨congrArg Fwd.entries h.fwd, h.flt, h.word _ (by decide) (by decide)⟩

/-- The data window is as it was. -/
theorem words (n : Nat) : b.words fwdWin n = d.words fwdWin n :=
  Dev.words_congr (fun a ha _ => by
    simp only [fwdWin] at ha
    exact h.word a (by omega) (by omega))

theorem winRec (n : Nat) : b.winRec fwdWin n = d.winRec fwdWin n := by simp only [Dev.winRec, h.words]

end Dev.FwdBegun

/-- An operation that ends with a RESULT yields BUSY, that RESULT, and what holds of the device that its action left, where that does not speak of the
RESULT kept. -/
theorem Yields.of_fwdAction {s : State} {c : Instr} {op table set index : Nat} {f : Dev → Dev × Nat} {code : Nat} {P : Dev → Prop}
    (h : s.dev.IndReady 0x600100) (hexec : exec c s = done s (s.dev.indirect 0x600100 op table set index f))
    (hact : ∀ b, s.dev.FwdBegun b → ∃ e, f b = (e, code) ∧ e.get F.FWD_IND_CTRL_BUSY = 1 ∧ P e)
    (hind : ∀ (e : Dev) m, P e → P { e with ind := m }) : Yields c s (fun d => d.IndBusy 0x600100 code ∧ P d) := by
  obtain ⟨e, he, hbusy, hp⟩ := hact _ (s.dev.fwdBegun_indStarted op table set index)
  rw [Dev.indirect_ready _ _ _ _ h, he] at hexec
  exact .of _ hexec ⟨Dev.indBusy_put code hbusy, hind e _ hp⟩

/-- A GO while BUSY is ignored (R161). -/
theorem Yields.of_fwdBusy {s : State} {c : Instr} {op table set index : Nat} {f : Dev → Dev × Nat} (h : s.dev.get F.FWD_IND_CTRL_BUSY = 1)
    (hexec : exec c s = done s (s.dev.indirect 0x600100 op table set index f)) : Yields c s (fun d => d = s.dev) := by
  have hb : s.dev.get ⟨0x600100, 16, 1⟩ = 1 := h
  exact .of _ hexec (if_pos (by simp [hb]))

theorem fwdIndirect_ignored {s : State} {t x n : Nat} {i : Instr} (h : s.dev.get F.FWD_IND_CTRL_BUSY = 1)
    (hi : i ∈ ([.fwdRead t x n, .fwdWrite t x n, .deleteKey t x, .writeKey t x, .fwdFindKey t x] : List Instr)) : Yields i s (fun d => d = s.dev) := by
  simp only [List.mem_cons, List.not_mem_nil, or_false] at hi
  obtain rfl | rfl | rfl | rfl | rfl := hi
  all_goals exact .of_fwdBusy h rfl

/-! ## What the actions write -/

/-- What a number shown in the data window leaves, and what the window then reads. -/
theorem Dev.putWords_fwdWin (d : Dev) (n x : Nat) : (d.putWords fwdWin n x).get F.FWD_IND_CTRL_BUSY = d.get F.FWD_IND_CTRL_BUSY ∧
    (d.putWords fwdWin n x).words fwdWin n = x % 2 ^ (32 * n) ∧ (d.putWords fwdWin n x).fwd = d.fwd ∧ (d.putWords fwdWin n x).cfg = d.cfg := by
  refine ⟨Dev.get_putWords_outside _ _ _ _ (by decide) (.inl (by decide)), Dev.words_putWords _ _ _ _, ?_, ?_⟩
  all_goals
    obtain ⟨w, hw⟩ := d.putWords_eq fwdWin n x
    rw [hw]

/-- The RESULT that an indirect operation keeps is no word. -/
theorem Dev.words_withInd (d : Dev) (m : SMap Nat) (a n : Nat) : { d with ind := m }.words a n = d.words a n := Dev.words_congr (fun _ _ _ => rfl)

/-- An index shown is read back, and leaves BUSY. -/
theorem Dev.get_set_index (d : Dev) {i : Nat} (hi : i < fwdEnd) : (d.set F.FWD_IND_INDEX_INDEX i).get F.FWD_IND_CTRL_BUSY = d.get F.FWD_IND_CTRL_BUSY ∧
    (d.set F.FWD_IND_INDEX_INDEX i).get F.FWD_IND_INDEX_INDEX = i :=
  ⟨Dev.get_set_apart _ _ _ _ (by decide), (Dev.get_set_self _ _ _ (by decide)).trans (Nat.mod_eq_of_lt (Nat.lt_trans hi (by decide)))⟩

/-- A removal leaves BUSY. -/
theorem Dev.busy_removeFwd (d : Dev) (i : Nat) : (d.removeFwd i).get F.FWD_IND_CTRL_BUSY = d.get F.FWD_IND_CTRL_BUSY :=
  Dev.get_eq_of_word_eq (by decide) (d.word_removeFwd i (by simp [learnApart, F.FWD_IND_CTRL_BUSY]))

/-! ## Tables 1 to 4 (R162, R186) -/

/-- The tables that FWD's indirect registers stage draw on no copy reserve. -/
theorem fwdTable_spec {t tab k b : Nat} (h : fwdTable t = some (tab, k, b)) : t ≠ 0 ∧ ∀ i, reserveOf tab i = none := by
  unfold fwdTable at h
  split at h
  case h_5 => exact absurd h (by simp)
  all_goals
    cases h
    exact ⟨by decide, fun _ => rfl⟩

/-- A record of a table without a reserve is staged, its reserved bits 0 (R157). -/
theorem Dev.stageRec_unreserved (d : Dev) {tab k : Nat} (h : reserveOf tab k = none) (r : Rec) (log : List Byte) :
    ∃ e, d.stageRec tab k (some r) log = (e, true) ∧ e.get F.FWD_IND_CTRL_BUSY = d.get F.FWD_IND_CTRL_BUSY ∧
      e.cfg.shadow.record tab k = keepRec tab r ∧ e.cfg.active = d.cfg.active ∧ e.fwd = d.fwd := by
  simp only [Dev.stageRec, h, Option.map_some]
  refine ⟨_, rfl, Dev.get_set_apart _ _ _ _ (by decide), ?_, rfl, rfl⟩
  change mapGetD (mapPut _ _ _) _ 0 = _
  simp only [mapGetD, mapGet_mapPut_self, Option.getD_some]

section
variable {s : State} (h : s.dev.IndReady 0x600100) {t tab k b n : Nat} (ht : fwdTable t = some (tab, k, b)) (hn : n < k)
include h ht hn

theorem fwdRead_shows_record (x : Nat) : Yields (.fwdRead t x n) s (fun d => d.IndBusy 0x600100 0 ∧
    d.words fwdWin (ceilDiv b 4) = ((s.dev.setBy x).record tab n).toNat % 2 ^ (8 * b) ∧ d.cfg = s.dev.cfg) := by
  have hfits : ∀ r, r % 2 ^ (8 * b) < 2 ^ (32 * ceilDiv b 4) := fun r =>
    Nat.lt_of_lt_of_le (Nat.mod_lt _ (by positivity)) (Nat.pow_le_pow_right (by decide) (by simp only [ceilDiv]; omega))
  refine .of_fwdAction h rfl (fun d hd => ?_) (fun d m ⟨hw, hc⟩ => ⟨(d.words_withInd m _ _).trans hw, hc⟩)
  have hset : d.setBy x = s.dev.setBy x := by rw [Dev.setBy, Dev.setBy, hd.cfg]
  obtain ⟨hbusy, hwords, -, hcfg⟩ := d.putWords_fwdWin (ceilDiv b 4) (((s.dev.setBy x).record tab n).toNat % 2 ^ (8 * b))
  refine ⟨_, ?_, hbusy.trans hd.busy, hwords.trans (Nat.mod_eq_of_lt (hfits _)), hcfg.trans hd.cfg⟩
  simp only [(fwdTable_spec ht).1, ht, if_false, if_neg (Nat.not_le.mpr hn), hset, Dev.showRec]

theorem fwdWrite_active_refused : Yields (.fwdWrite t 1 n) s (fun d => d.IndBusy 0x600100 5 ∧ d.cfg = s.dev.cfg) := by
  refine .of_fwdAction h rfl (fun d hd => ⟨d, ?_, hd.busy, hd.cfg⟩) (fun _ _ hd => hd)
  simp only [(fwdTable_spec ht).1, ht, if_false, if_neg (Nat.not_le.mpr hn), Dev.indWrite, if_true, IndResult.code]

theorem fwdWrite_stages_record : Yields (.fwdWrite t 0 n) s (fun d => d.IndBusy 0x600100 0 ∧
    d.cfg.shadow.record tab n = keepRec tab (s.dev.winRec fwdWin b) ∧ d.cfg.active = s.dev.cfg.active ∧ d.fwd = s.dev.fwd) := by
  obtain ⟨ht0, hres⟩ := fwdTable_spec ht
  refine .of_fwdAction h rfl (fun d hd => ?_) (fun _ _ hd => hd)
  obtain ⟨e, hstage, hbusy, hrec, hactive, hfwd⟩ := d.stageRec_unreserved (hres n) (s.dev.winRec fwdWin b)
    (leBytes b ((some (s.dev.winRec fwdWin b)).getD 0).toNat)
  refine ⟨e, ?_, hbusy.trans hd.busy, hrec, hactive.trans (congrArg Cfg.active hd.cfg), hfwd.trans hd.fwd⟩
  simp only [ht0, ht, if_false, if_neg (Nat.not_le.mpr hn), Dev.indWrite, Nat.zero_ne_one, hd.winRec, hstage, if_true, IndResult.code]

end

/-! ## FWD_READ of an entry (R187) -/

section
variable {s : State} (h : s.dev.IndReady 0x600100) (x : Nat) {n : Nat}
include h

theorem fwdRead_shows_entry {e : FwdEntry} (hn : n < fwdEnd) (he : s.dev.fwdAt n = some e) :
    Yields (.fwdRead 0 x n) s (fun d => d.IndBusy 0x600100 0 ∧ d.words fwdWin 4 = fwdRec e % 2 ^ 128 ∧ d.fwd = s.dev.fwd ∧ d.cfg = s.dev.cfg) := by
  refine .of_fwdAction h rfl (fun d hd => ?_) (fun _ _ hd => hd)
  obtain ⟨hbusy, hwords, hfwd, hcfg⟩ := d.putWords_fwdWin 4 (fwdRec e)
  refine ⟨_, ?_, hbusy.trans hd.busy, hwords, hfwd.trans hd.fwd, hcfg.trans hd.cfg⟩
  simp only [if_true, if_neg (Nat.not_le.mpr hn), hd.samePlaces.fwdAt, he]

theorem fwdRead_not_found (hn : n < fwdEnd) (he : s.dev.fwdAt n = none) :
    Yields (.fwdRead 0 x n) s (fun d => d.IndBusy 0x600100 1 ∧ d.words fwdWin 4 = 0 ∧ d.fwd = s.dev.fwd ∧ d.cfg = s.dev.cfg) := by
  refine .of_fwdAction h rfl (fun d hd => ?_) (fun _ _ hd => hd)
  obtain ⟨hbusy, hwords, hfwd, hcfg⟩ := d.putWords_fwdWin 4 0
  refine ⟨_, ?_, hbusy.trans hd.busy, hwords, hfwd.trans hd.fwd, hcfg.trans hd.cfg⟩
  simp only [if_true, if_neg (Nat.not_le.mpr hn), hd.samePlaces.fwdAt, he]

theorem fwdWrite_range (hn : fwdEnd ≤ n) : Yields (.fwdWrite 0 x n) s (fun d => d.IndBusy 0x600100 3 ∧ d.fwd = s.dev.fwd) := by
  refine .of_fwdAction h rfl (fun d hd => ⟨d, ?_, hd.busy, hd.fwd⟩) (fun _ _ hd => hd)
  simp only [if_true, if_pos (Or.inl hn)]

end

/-! ## FWD_WRITE of a static entry (R167, R186) -/

/-- A static entry of a domain is within the table's range where a pinned one has its place on-die. -/
theorem fwdWrite_in_range {n : Nat} {e : FwdEntry} {valid : Bool} (hn : n < fwdEnd) (hs : e.isStatic = true) (hpin : e.pin = true → n < fwdDdrWays)
    (hfd : e.fd ≠ 0) : ¬ (n ≥ fwdEnd ∨ (valid = true ∧ e.fd = 0) ∨ (e.pin = true ∧ (inDdr n = true ∨ (!e.isStatic) = true))) := by
  rintro (hr | ⟨-, hr⟩ | ⟨hp, hr | hr⟩)
  · omega
  · exact hfd hr
  · have := hpin hp
    simp only [inDdr, decide_eq_true_eq] at hr
    omega
  · simp [hs] at hr

section
variable {s : State} {e : FwdEntry} {n : Nat} (h : s.dev.IndReady 0x600100) (he : e = recFwd (s.dev.words fwdWin 4)) (x : Nat) (hn : n < fwdEnd)
  (hv : (s.dev.words fwdWin 4).testBit 62 = true) (hs : e.isStatic = true) (hfd : e.fd ≠ 0) (hpin : e.pin = true → n < fwdDdrWays)
  (hplace : s.dev.mayStand n e.mac e.fd = true)
include h he hn hv hs hfd hpin hplace

theorem fwdWrite_stores_entry (hr : s.dev.fwd.refreshes = []) (hfind : s.dev.fwdFind e.mac e.fd = none ∨ s.dev.fwdFind e.mac e.fd = some n) :
    Yields (.fwdWrite 0 x n) s (fun d => d.IndBusy 0x600100 0 ∧ d.fwdAt n = some e ∧ (∀ m, m ≠ n → d.fwdAt m = s.dev.fwdAt m) ∧ d.cfg = s.dev.cfg) := by
  refine .of_fwdAction h rfl (fun d hd => ⟨(d.removeFwd n).putFwd n e, ?_, (d.busy_removeFwd n).trans hd.busy, Dev.fwdAt_putFwd_self _ _ _,
    fun m hm => ?_, (d.removeFwd_cfg n).trans hd.cfg⟩) (fun _ _ hd => hd)
  · have hnone : ((d.removeFwd n).putFwd n e).fwd.refreshes = [] := by rw [Dev.putFwd_refreshes, Dev.removeFwd_refreshes, hd.fwd, hr]
    simp only [if_true, hd.words, ← he]
    rw [if_neg (fwdWrite_in_range hn hs hpin hfd), Dev.applyRefreshes_none hnone]
    obtain hf | hf := hfind
    · simp [hv, hs, hd.samePlaces.mayStand, hplace, hd.samePlaces.fwdFind, hf]
    · simp [hv, hs, hd.samePlaces.mayStand, hplace, hd.samePlaces.fwdFind, hf]
  · rw [Dev.fwdAt_putFwd_ne _ _ hm, Dev.fwdAt_removeFwd_ne _ hm, hd.samePlaces.fwdAt]

theorem fwdWrite_exists {m : Nat} (hm : m ≠ n) (hfind : s.dev.fwdFind e.mac e.fd = some m) :
    Yields (.fwdWrite 0 x n) s (fun d => d.IndBusy 0x600100 4 ∧ d.fwd = s.dev.fwd) := by
  refine .of_fwdAction h rfl (fun d hd => ⟨d, ?_, hd.busy, hd.fwd⟩) (fun _ _ hd => hd)
  simp only [if_true, hd.words, ← he]
  rw [if_neg (fwdWrite_in_range hn hs hpin hfd)]
  simp [hv, hd.samePlaces.mayStand, hplace, hd.samePlaces.fwdFind, hfind, hm]

end

/-! ## DELETE_KEY and FWD_FIND_KEY (R187) -/

section
variable {s : State} {e : FwdEntry} (h : s.dev.IndReady 0x600100) (he : e = recFwd (s.dev.words fwdWin 4)) (x : Nat)
include h he

theorem deleteKey_not_found (hfind : s.dev.fwdFind e.mac e.fd = none) :
    Yields (.deleteKey 0 x) s (fun d => d.IndBusy 0x600100 1 ∧ d.fwd = s.dev.fwd) := by
  refine .of_fwdAction h rfl (fun d hd => ⟨d, ?_, hd.busy, hd.fwd⟩) (fun _ _ hd => hd)
  simp only [if_true, hd.words, ← he, hd.samePlaces.fwdFind, hfind]

theorem deleteKey_removes_static {i : Nat} {o : FwdEntry} (hr : s.dev.fwd.refreshes = []) (hfind : s.dev.fwdFind e.mac e.fd = some i)
    (ho : s.dev.fwdAt i = some o) (hs : o.isStatic = true) : Yields (.deleteKey 0 x) s (fun d => d.IndBusy 0x600100 0 ∧
      d.fwdAt i = none ∧ (∀ m, m ≠ i → d.fwdAt m = s.dev.fwdAt m) ∧ d.get F.FWD_STATUS_LEARNED = s.dev.get F.FWD_STATUS_LEARNED) := by
  refine .of_fwdAction h rfl (fun d hd => ⟨d.removeFwd i, ?_, (d.busy_removeFwd i).trans hd.busy, d.fwdAt_removeFwd_self i, fun m hm => ?_, ?_⟩)
    (fun _ _ hd => hd)
  · simp only [if_true, hd.words, ← he, hd.samePlaces.fwdFind, hfind]
    rw [Dev.applyRefreshes_none (by rw [Dev.removeFwd_refreshes, hd.fwd, hr])]
  · rw [Dev.fwdAt_removeFwd_ne _ hm, hd.samePlaces.fwdAt]
  · rw [Dev.get, d.removeFwd_static_bus ((hd.samePlaces.fwdAt i).trans ho) hs]
    exact Dev.get_eq_of_word_eq (by decide) (hd.word _ (by decide) (by decide))

theorem fwdFindKey_not_found (hfind : s.dev.fwdFind e.mac e.fd = none) :
    Yields (.fwdFindKey 0 x) s (fun d => d.IndBusy 0x600100 1 ∧ d.fwd = s.dev.fwd) := by
  refine .of_fwdAction h rfl (fun d hd => ⟨d, ?_, hd.busy, hd.fwd⟩) (fun _ _ hd => hd)
  simp only [if_true, hd.words, ← he, hd.samePlaces.fwdFind, hfind]

theorem fwdFindKey_shows_index {i : Nat} (hi : i < fwdEnd) (hfind : s.dev.fwdFind e.mac e.fd = some i) :
    Yields (.fwdFindKey 0 x) s (fun d => d.IndBusy 0x600100 0 ∧ d.get F.FWD_IND_INDEX_INDEX = i ∧ d.fwd = s.dev.fwd) := by
  refine .of_fwdAction h rfl (fun d hd => ?_) (fun _ _ hd => hd)
  obtain ⟨hbusy, hindex⟩ := d.get_set_index hi
  refine ⟨_, ?_, hbusy.trans hd.busy, hindex, hd.fwd⟩
  simp only [if_true, hd.words, ← he, hd.samePlaces.fwdFind, hfind]

/-! ## WRITE_KEY (R169, R187) -/

variable (hfd : e.fd ≠ 0) (hpin : e.pin = false)
include hfd hpin

/-- WRITE_KEY of a key that stands makes its entry static in its place. -/
theorem writeKey_makes_static {i : Nat} (hi : i < fwdEnd) (hr : s.dev.fwd.refreshes = []) (hfind : s.dev.fwdFind e.mac e.fd = some i) :
    Yields (.writeKey 0 x) s (fun d => d.IndBusy 0x600100 0 ∧ d.get F.FWD_IND_INDEX_INDEX = i ∧
      d.fwdAt i = some { e with isStatic := true, frozen := false, age := s.dev.fwd.tick } ∧ ∀ m, m ≠ i → d.fwdAt m = s.dev.fwdAt m) := by
  refine .of_fwdAction h rfl (fun d hd => ?_) (fun _ _ hd => hd)
  obtain ⟨hbusy, hindex⟩ := Dev.get_set_index ((d.removeFwd i).putFwd i { e with isStatic := true, frozen := false, age := s.dev.fwd.tick }) hi
  refine ⟨_, ?_, hbusy.trans ((d.busy_removeFwd i).trans hd.busy), hindex, Dev.fwdAt_putFwd_self _ _ _, fun m hm => ?_⟩
  · simp only [if_true, hd.words, ← he, hfd, hpin, hd.samePlaces.fwdFind, hd.fwd, hfind, false_and, or_self, if_false, Bool.false_eq_true]
    rw [Dev.applyRefreshes_none (by rw [Dev.putFwd_refreshes, Dev.removeFwd_refreshes, hd.fwd, hr])]
  · exact (Dev.fwdAt_putFwd_ne _ _ hm).trans ((d.fwdAt_removeFwd_ne hm).trans (hd.samePlaces.fwdAt m))

/-- WRITE_KEY of a new key stores it at the first free place. -/
theorem writeKey_inserts {i : Nat} (hi : i < fwdEnd) (hr : s.dev.fwd.refreshes = []) (hfind : s.dev.fwdFind e.mac e.fd = none)
    (hfree : s.dev.freePlace ((s.dev.word (fwdWin + 16)).toNat % 2 == 1) e.mac e.fd = some i) :
    Yields (.writeKey 0 x) s (fun d => d.IndBusy 0x600100 0 ∧ d.get F.FWD_IND_INDEX_INDEX = i ∧
      d.fwdAt i = some { e with isStatic := true, frozen := false, age := s.dev.fwd.tick } ∧ ∀ m, m ≠ i → d.fwdAt m = s.dev.fwdAt m) := by
  refine .of_fwdAction h rfl (fun d hd => ?_) (fun _ _ hd => hd)
  obtain ⟨hbusy, hindex⟩ := Dev.get_set_index (d.putFwd i { e with isStatic := true, frozen := false, age := s.dev.fwd.tick }) hi
  refine ⟨_, ?_, hbusy.trans hd.busy, hindex, Dev.fwdAt_putFwd_self _ _ _, fun m hm => ?_⟩
  · simp only [if_true, hd.words, ← he, hfd, hpin, hd.samePlaces.fwdFind, hd.fwd, hfind, false_and, or_self, if_false, Bool.false_eq_true,
      hd.word (fwdWin + 16) (by decide) (by decide), hd.samePlaces.freePlace, hfree]
    rw [Dev.applyRefreshes_none (by rw [Dev.putFwd_refreshes, hd.fwd, hr])]
  · exact (Dev.fwdAt_putFwd_ne _ _ hm).trans (hd.samePlaces.fwdAt m)

/-- WRITE_KEY of a new key whose table has no free place. -/
theorem writeKey_no_space (hfind : s.dev.fwdFind e.mac e.fd = none)
    (hfree : s.dev.freePlace ((s.dev.word (fwdWin + 16)).toNat % 2 == 1) e.mac e.fd = none) :
    Yields (.writeKey 0 x) s (fun d => d.IndBusy 0x600100 2 ∧ d.get F.FWD_EVENT_TABLE_FULL = 1 ∧ d.fwd = s.dev.fwd) := by
  refine .of_fwdAction h rfl (fun d hd => ⟨(d.count K.FWD_TABLE_FULL).raise F.FWD_EVENT_TABLE_FULL, ?_,
    (Dev.get_raise_apart _ _ _ (by decide)).trans hd.busy, Dev.get_raise_self _ _ (by decide) (by decide), hd.fwd⟩) (fun _ _ hd => hd)
  simp only [if_true, hd.words, ← he, hfd, hpin, hd.samePlaces.fwdFind, hfind, false_and, or_self, if_false, Bool.false_eq_true,
    hd.word (fwdWin + 16) (by decide) (by decide), hd.samePlaces.freePlace, hfree]

end

end Sys2Proof.Machine
end

section
/-! PROOFS. The flush of the forwarding tables (R188), and the statement on FWD's operations on the live table (R167, R169, R186 to R188). -/
namespace Sys2Proof.Machine
open Sys2Proof

/-! ## The four places of a bucket -/

/-- The four places from 4 × a bucket, in the order in which a flush and the ager read them. -/
def fourPlaces (p : Nat) : List Nat := ([0, 1, 2, 3] : List Nat).map (4 * p + ·)

theorem mem_fourPlaces {p i : Nat} : i ∈ fourPlaces p ↔ i / 4 = p := by
  simp only [fourPlaces, List.mem_map, List.mem_cons, List.not_mem_nil, or_false]
  constructor
  · rintro ⟨w, hw, rfl⟩
    omega
  · intro h
    exact ⟨i % 4, by omega, by omega⟩

theorem nodup_fourPlaces (p : Nat) : (fourPlaces p).Nodup := by simp [fourPlaces]

/-- Each place of a bucket is read once. -/
theorem fourPlaces_split {p i : Nat} (h : i / 4 = p) : ∃ l l', fourPlaces p = l ++ i :: l' ∧ i ∉ l ∧ i ∉ l' := by
  obtain ⟨l, l', hl, hi⟩ := List.eq_append_cons_of_mem (mem_fourPlaces.mpr h)
  have hnodup := nodup_fourPlaces p
  rw [hl, List.nodup_append, List.nodup_cons] at hnodup
  obtain ⟨-, ⟨hi', -⟩, -⟩ := hnodup
  exact ⟨l, l', hl, hi, hi'⟩

/-- Steps that each act on one place leave every place that none of them acts on. -/
theorem fwdAt_foldl_apart {g : Dev → Nat → Dev} (hg : ∀ (d : Dev) (i m : Nat), m ≠ i → (g d i).fwdAt m = d.fwdAt m) {l : List Nat} {m : Nat}
    (h : m ∉ l) (d : Dev) : (l.foldl g d).fwdAt m = d.fwdAt m :=
  foldl_rel (r := fun d e : Dev => e.fwdAt m = d.fwdAt m) (fun _ => rfl) (fun h h' => h'.trans h) l
    (fun d i hi => hg d i m (fun e => h (e ▸ hi))) d

/-! ## FLUSH_BUCKET (R188) -/

/-- A place as a flush reads it: the entry that the flush names is removed. -/
def Dev.flushEntry (by_ target : Nat) (d : Dev) (i : Nat) : Dev :=
  match d.fwdAt i with
  | some e => if flushes by_ target e then d.removeFwd i else d
  | none => d

section
variable (by_ target : Nat) (d : Dev)

theorem Dev.fwdAt_flushEntry_ne (i m : Nat) (h : m ≠ i) : (Dev.flushEntry by_ target d i).fwdAt m = d.fwdAt m := by
  unfold Dev.flushEntry
  split
  · split
    · exact d.fwdAt_removeFwd_ne h
    · rfl
  · rfl

theorem Dev.fwdAt_flushEntry_self {i : Nat} {e : FwdEntry} (h : d.fwdAt i = some e) :
    (Dev.flushEntry by_ target d i).fwdAt i = if flushes by_ target e then none else some e := by
  simp only [Dev.flushEntry, h]
  split
  · exact d.fwdAt_removeFwd_self i
  · exact h

/-- The bucket of a place, flushed. -/
def Dev.bucketFlushed (place : Nat) : Dev := (fourPlaces place).foldl (Dev.flushEntry by_ target) d

variable {place : Nat}

/-- A flush reads each entry of its bucket once. -/
theorem Dev.fwdAt_bucketFlushed {m : Nat} {e : FwdEntry} (hm : m / 4 = place) (he : d.fwdAt m = some e) :
    (d.bucketFlushed by_ target place).fwdAt m = if flushes by_ target e then none else some e := by
  obtain ⟨l, l', hl, hml, hml'⟩ := fourPlaces_split hm
  have hapart := @fwdAt_foldl_apart _ (Dev.fwdAt_flushEntry_ne by_ target)
  rw [Dev.bucketFlushed, hl, List.foldl_append, List.foldl_cons, hapart hml', Dev.fwdAt_flushEntry_self]
  exact (hapart hml d).trans he

theorem Dev.fwdAt_bucketFlushed_apart {m : Nat} (hm : m / 4 ≠ place) : (d.bucketFlushed by_ target place).fwdAt m = d.fwdAt m :=
  fwdAt_foldl_apart (Dev.fwdAt_flushEntry_ne by_ target) (fun h => hm (mem_fourPlaces.mp h)) d

end

section
variable {s : State} {ddr5 : Bool} {bucket by_ target : Nat}

/-- FLUSH_BUCKET of the next bucket flushes it, and the last one ends the flush. -/
theorem execFlushBucket_next {place : Nat} (hp : flushPlace ddr5 bucket = some place) (hf : s.dev.fwd.flush = some (by_, target, place))
    (hr : s.dev.fwd.refreshes = []) : exec (.flushBucket ddr5 bucket) s = done s
      (if 4 * (place + 1) ≥ fwdEnd then
        ((s.dev.bucketFlushed by_ target place).modFwd (fun f => { f with flush := none })).set F.FWD_LEARN_STATUS_FLUSH_BUSY 0
      else (s.dev.bucketFlushed by_ target place).modFwd (fun f => { f with flush := some (by_, target, place + 1) })) := by
  change execFlushBucket ddr5 bucket s = _
  simp only [execFlushBucket, hf, hp, ne_eq, not_true_eq_false, if_false, Dev.applyRefreshes_none hr]
  rfl

/-- FLUSH_BUCKET of another bucket than the next has no effect. -/
theorem flushBucket_ignored {next : Nat} (hf : s.dev.fwd.flush = some (by_, target, next)) (hp : flushPlace ddr5 bucket ≠ some next) :
    Yields (.flushBucket ddr5 bucket) s (fun d => d = s.dev) := by
  refine .of s.dev ?_ rfl
  change execFlushBucket ddr5 bucket s = _
  cases hplace : flushPlace ddr5 bucket with
  | none => simp only [execFlushBucket, hf, hplace]
  | some place =>
    have hne : place ≠ next := fun h => hp (by rw [hplace, h])
    simp only [execFlushBucket, hf, hplace, if_pos hne]

theorem flushBucket_flushes {place : Nat} (hp : flushPlace ddr5 bucket = some place) (hf : s.dev.fwd.flush = some (by_, target, place))
    (hr : s.dev.fwd.refreshes = []) : Yields (.flushBucket ddr5 bucket) s (fun d =>
      (∀ m, m / 4 = place → ∀ e, s.dev.fwdAt m = some e → d.fwdAt m = (if flushes by_ target e then none else some e)) ∧
      (∀ m, m / 4 ≠ place → d.fwdAt m = s.dev.fwdAt m) ∧
      (fwdEnd ≤ 4 * (place + 1) → d.fwd.flush = none ∧ d.get F.FWD_LEARN_STATUS_FLUSH_BUSY = 0) ∧
      (4 * (place + 1) < fwdEnd → d.fwd.flush = some (by_, target, place + 1))) := by
  have hexec := execFlushBucket_next hp hf hr
  have hin := fun m => @Dev.fwdAt_bucketFlushed by_ target s.dev place m
  have hout := fun m => @Dev.fwdAt_bucketFlushed_apart by_ target s.dev place m
  generalize s.dev.bucketFlushed by_ target place = b at hexec hin hout
  by_cases hend : fwdEnd ≤ 4 * (place + 1)
  · rw [if_pos hend] at hexec
    exact .of _ hexec ⟨fun m hm e he => hin m hm he, fun m hm => hout m hm, fun _ => ⟨rfl, Dev.get_set_self _ _ _ (by decide)⟩, fun h => by omega⟩
  · rw [if_neg hend] at hexec
    exact .of _ hexec ⟨fun m hm e he => hin m hm he, fun m hm => hout m hm, fun h => absurd h hend, fun _ => rfl⟩

end

/-! ## FWD_FLUSH (R188) -/

theorem fwdFlush_starts {s : State} (h : s.dev.Live) (by_ target : Nat) (hf : s.dev.fwd.flush = none) : Yields (.fwdFlush by_ target) s (fun d =>
    d.fwd = { s.dev.fwd with flush := some (by_, target, 0) } ∧ d.get F.FWD_LEARN_STATUS_FLUSH_BUSY = 1) :=
  .of _ (if_neg (by simp [h.responds, hf])) ⟨rfl, Dev.get_set_self _ _ _ (by decide)⟩

/-- A GO while a flush runs is ignored. -/
theorem fwdFlush_ignored {s : State} (by_ target : Nat) (hf : s.dev.fwd.flush.isSome = true) : Yields (.fwdFlush by_ target) s (fun d => d = s.dev) :=
  .of _ (if_pos (by simp [hf])) rfl

/-! ## The statement -/

/-- Settles O31: each operation by the lemma on what its action makes of the entries and of the indirect registers. -/
theorem forwardingEntriesAreManaged : Obligations.ForwardingEntriesAreManaged := by
  unfold Obligations.ForwardingEntriesAreManaged
  refine ⟨?read, ?tables, ?write, ?keys, fun s t x n i h hi => fwdIndirect_ignored h hi, ?flush, ?bucket,
    fun s ddr5 bucket by_ target next hf hp => flushBucket_ignored hf hp, fun s e => ⟨rfl, rfl⟩⟩
  case read => exact fun s x n h hn => ⟨fun e he => fwdRead_shows_entry h x hn he, fwdRead_not_found h x hn⟩
  case tables =>
    exact fun s t x n tab k b h ht hn => ⟨fwdRead_shows_record h ht hn x, fwdWrite_stages_record h ht hn, fwdWrite_active_refused h ht hn⟩
  case write =>
    exact fun s x n e h hr he => ⟨fwdWrite_range h x, fun hn hv hs hfd hpin hplace =>
      ⟨fwdWrite_stores_entry h he x hn hv hs hfd hpin hplace hr, fun m => fwdWrite_exists h he x hn hv hs hfd hpin hplace⟩⟩
  case keys =>
    intro s x e h hr he
    refine ⟨fun hf => ⟨deleteKey_not_found h he x hf, fwdFindKey_not_found h he x hf⟩, fun i => fwdFindKey_shows_index h he x,
      fun i o => deleteKey_removes_static h he x hr, fun hfd hpin => ⟨fun i hi => ?known, fun i hi => ?new, writeKey_no_space h he x hfd hpin⟩⟩
    case known => exact writeKey_makes_static h he x hfd hpin hi hr
    case new => exact writeKey_inserts h he x hfd hpin hi hr
  case flush => exact fun s by_ target h => ⟨fwdFlush_starts h by_ target, fwdFlush_ignored by_ target⟩
  case bucket => exact fun s ddr5 bucket place by_ target hp hf hr => flushBucket_flushes hp hf hr

end Sys2Proof.Machine
end

section
/-! PROOFS. Learning (R170, R178 to R181): what the learn unit makes of an unknown key and of a known one. -/
namespace Sys2Proof.Machine
open Sys2Proof

/-! ## An entry of FWD_LOG -/

/-- An entry of FWD_LOG changes words alone. -/
theorem Dev.fwdLog_eq (d : Dev) (mac fd kind : Nat) : ∃ w, d.fwdLog mac fd kind = { d with bus := { d.bus with words := w } } := d.logPut_eq _ _ _ _

/-- An entry of FWD_LOG leaves FWD_EVENT. -/
theorem Dev.word_fwdLog (d : Dev) (mac fd kind : Nat) : (d.fwdLog mac fd kind).word 0x600014 = d.word 0x600014 :=
  d.word_logPut _ _ _ _ (by decide) (.inl (by decide))

/-! ## An insert (R169, R170, R178) -/

section
variable {d : Dev} {q : LearnReq} (hl : d.get F.FWD_STATUS_LEARNED < 1048576)
include hl

theorem Dev.learnInsert_port_limit (hport : q.port ≤ 10) (hp : d.sh (F.FWD_PORT_LEARN_LIMIT q.port) ≤ d.get (F.FWD_PORT_COUNT_COUNT q.port)) :
    d.learnInsert q = d.learnRefused q K.FWD_LIMIT_PORT := by
  rw [Dev.learnInsert, if_neg (Nat.not_le.mpr hl)]
  exact if_pos ⟨hport, hp⟩

variable (hp : d.get (F.FWD_PORT_COUNT_COUNT q.port) < d.sh (F.FWD_PORT_LEARN_LIMIT q.port))
include hp

theorem Dev.learnInsert_domain_limit (hd : recGet (d.cfg.active.record Tab.domain q.fd) ⟨0, 21⟩ ≤ d.domainCount q.fd) :
    d.learnInsert q = d.learnRefused q K.FWD_LIMIT_DOMAIN := by
  rw [Dev.learnInsert, if_neg (Nat.not_le.mpr hl), if_neg (fun h => Nat.not_le.mpr hp h.2)]
  exact if_pos hd

theorem Dev.learnInsert_stores {i : Nat} (hd : d.domainCount q.fd < recGet (d.cfg.active.record Tab.domain q.fd) ⟨0, 21⟩)
    (ho : d.ondieLearned < d.get F.FWD_ONDIE_LEARN_ONDIE_MAX) (hi : d.freePlace false q.mac q.fd = some i) :
    d.learnInsert q = ((d.putFwd i ⟨q.mac, q.fd, false, false, false, q.port, q.queue, d.fwd.tick⟩).learnCount q.port true).count K.FWD_LEARNED := by
  rw [Dev.learnInsert, if_neg (Nat.not_le.mpr hl), if_neg (fun h => Nat.not_le.mpr hp h.2), if_neg (Nat.not_le.mpr hd)]
  simp only [if_pos ho, hi]

end

/-- A refused insert changes no entry, counts, and raises LIMIT. -/
theorem Dev.learnRefused_shows (d : Dev) (q : LearnReq) (k : Nat) : (d.learnRefused q k).fwd = d.fwd ∧
    (d.learnRefused q k).ctr k = (d.ctr k + 1) % 2 ^ 64 ∧ (d.learnRefused q k).get F.FWD_EVENT_LIMIT = 1 := by
  have hevent : (d.learnRefused q k).get F.FWD_EVENT_LIMIT = 1 :=
    (Dev.get_eq_of_word_eq (by decide) (Dev.word_fwdLog _ _ _ _)).trans (Dev.get_raise_self _ _ (by decide) (by decide))
  obtain ⟨w, hw⟩ := ((d.count k).raise F.FWD_EVENT_LIMIT).fwdLog_eq q.mac q.fd 2
  refine ⟨?_, ?_, hevent⟩
  · rw [Dev.learnRefused, hw]
    rfl
  · rw [Dev.learnRefused, hw]
    exact d.ctr_count_self k 1

/-! ## A refresh (R181, R182, R184) -/

section
variable {d : Dev} {i : Nat} {e : FwdEntry} (he : d.fwdAt i = some e)
include he

/-- A frozen entry, and one with the present AGE, is not refreshed. -/
theorem Dev.refresh_unchanged (counted : Bool) (h : e.frozen = true ∨ e.age = d.fwd.tick) : d.refresh i counted = d := by
  simp only [Dev.refresh, he]
  refine if_pos ?_
  obtain h | h := h
  · simp [h]
  · simp [h]

variable (hf : e.frozen = false) (ha : e.age ≠ d.fwd.tick) (hr : d.fwd.refreshes = [])
include hf ha hr

/-- An uncounted refresh of an on-die entry writes its AGE. -/
theorem Dev.refresh_ondie (hi : inDdr i = false) : d.refresh i false = d.putFwd i { e with age := d.fwd.tick } := by
  simp only [Dev.refresh, he]
  rw [if_neg (by simp [hf, ha, hr]), if_neg (by simp [hi]), if_neg Bool.false_ne_true, if_neg (by simp [hi])]

/-- An uncounted refresh of a DDR5 entry waits. -/
theorem Dev.refresh_ddr (hi : inDdr i = true) :
    d.refresh i false = d.modFwd (fun f => { f with refreshes := f.refreshes ++ [(i, e.mac, e.fd, d.fwd.tick)] }) := by
  simp only [Dev.refresh, he]
  rw [if_neg (by simp [hf, ha, hr]), if_neg (by simp [hr]), if_neg Bool.false_ne_true, if_pos hi]

end

/-! ## A station move (R180, R181) -/

section
variable {d : Dev} {i : Nat} {e : FwdEntry} {q : LearnReq} {n : Nat} {l : List MoveWin}
  (hp : q.port > 10 ∨ d.get (F.FWD_PORT_COUNT_COUNT q.port) < d.sh (F.FWD_PORT_LEARN_LIMIT q.port))
  (ht : trackMove d.fwd.moves (q.mac * 16384 + q.fd) d.time.cycles (d.get F.FWD_LEARN_CFG_MOVE_WINDOW_MS * 1200000) = (n, l))
include hp ht

theorem Dev.stationMove_moves (hn : n ≤ d.get F.FWD_LEARN_CFG_MOVE_LIMIT) : d.stationMove i e q =
    ((((d.putFwd i { e with port := q.port, queue := q.queue, age := d.fwd.tick }).modFwd (fun f => { f with moves := l })).learnCount
      e.port false).learnCount q.port true).count K.FWD_MOVES := by
  rw [Dev.stationMove, if_neg (by omega)]
  simp only [ht, gt_iff_lt, if_neg (Nat.not_lt.mpr hn)]

theorem Dev.stationMove_freezes (hn : d.get F.FWD_LEARN_CFG_MOVE_LIMIT < n) : d.stationMove i e q =
    (((d.putFwd i { e with frozen := true, age := d.fwd.tick }).count K.FWD_FLAPS).fwdLog q.mac q.fd 1).raise F.FWD_EVENT_FLAP := by
  rw [Dev.stationMove, if_neg (by omega)]
  simp only [ht, gt_iff_lt, if_pos hn]

end

/-! ## LEARN_DECIDE (R179) -/

/-- The device whose oldest learn request has been taken. -/
def Dev.learnTaken (d : Dev) (t : List LearnReq) : Dev := d.modFwd (fun f => { f with queue := t })

section
variable {s : State} {q : LearnReq} {t : List LearnReq} (hq : s.dev.fwd.queue = q :: t) (hr : s.dev.fwd.refreshes = [])

theorem learnDecide_idle (hq : s.dev.fwd.queue = []) : exec (.learnDecide none) s = done s s.dev := by
  change execLearnDecide none s = _
  simp only [execLearnDecide, hq]

include hq hr

/-- The request for an unknown key is an insert. -/
theorem learnDecide_unknown (hf : s.dev.fwdFind q.mac q.fd = none) : exec (.learnDecide none) s = done s ((s.dev.learnTaken t).learnInsert q) := by
  have htaken : (s.dev.modFwd (fun f => { f with queue := t })).applyRefreshes = s.dev.learnTaken t := Dev.applyRefreshes_none hr
  have hfind : (s.dev.learnTaken t).fwdFind q.mac q.fd = none := hf
  change execLearnDecide none s = _
  simp only [execLearnDecide, hq, htaken, Dev.parityAt, hfind]

/-- The request for a known key is a refresh on its own port, and a move, refused or not, on another. -/
theorem learnDecide_known {i : Nat} {e : FwdEntry} (hf : s.dev.fwdFind q.mac q.fd = some i) (he : s.dev.fwdAt i = some e) :
    exec (.learnDecide none) s = done s
      (if e.port = q.port then (s.dev.learnTaken t).refresh i false
      else if e.isStatic then (s.dev.learnTaken t).count K.FWD_STATIC_CONFLICT
      else if e.frozen then (s.dev.learnTaken t).count K.FWD_MOVE_FROZEN
      else (s.dev.learnTaken t).stationMove i e q) := by
  have htaken : (s.dev.modFwd (fun f => { f with queue := t })).applyRefreshes = s.dev.learnTaken t := Dev.applyRefreshes_none hr
  have hfind : (s.dev.learnTaken t).fwdFind q.mac q.fd = some i := hf
  have hat : (s.dev.learnTaken t).fwdAt i = some e := he
  change execLearnDecide none s = _
  simp only [execLearnDecide, hq, htaken, Dev.parityAt, hfind, hat]

section
variable (hf : s.dev.fwdFind q.mac q.fd = none)
include hf

/-- A refused insert stores nothing, raises LIMIT and advances the count of its limit. -/
theorem learnDecide_refuses {k : Nat} (hk : (s.dev.learnTaken t).learnInsert q = (s.dev.learnTaken t).learnRefused q k) :
    Yields (.learnDecide none) s (fun d => d.fwd.queue = t ∧ d.fwd.entries = s.dev.fwd.entries ∧ d.ctr k = (s.dev.ctr k + 1) % 2 ^ 64 ∧
      d.get F.FWD_EVENT_LIMIT = 1) := by
  have hexec := learnDecide_unknown hq hr hf
  rw [hk] at hexec
  obtain ⟨hfwd, hctr, hevent⟩ := (s.dev.learnTaken t).learnRefused_shows q k
  exact .of _ hexec ⟨congrArg Fwd.queue hfwd, (congrArg Fwd.entries hfwd).trans rfl, hctr, hevent⟩

theorem learnDecide_learns (hl : s.dev.get F.FWD_STATUS_LEARNED < 1048576)
    (hp : s.dev.get (F.FWD_PORT_COUNT_COUNT q.port) < s.dev.sh (F.FWD_PORT_LEARN_LIMIT q.port))
    (hd : s.dev.domainCount q.fd < recGet (s.dev.cfg.active.record Tab.domain q.fd) ⟨0, 21⟩)
    (ho : s.dev.ondieLearned < s.dev.get F.FWD_ONDIE_LEARN_ONDIE_MAX) {i : Nat} (hi : s.dev.freePlace false q.mac q.fd = some i) :
    Yields (.learnDecide none) s (fun d => d.fwd.queue = t ∧ d.fwdAt i = some ⟨q.mac, q.fd, false, false, false, q.port, q.queue, s.dev.fwd.tick⟩ ∧
      (∀ m, m ≠ i → d.fwdAt m = s.dev.fwdAt m) ∧ d.get F.FWD_STATUS_LEARNED = s.dev.get F.FWD_STATUS_LEARNED + 1 ∧
      d.ctr K.FWD_LEARNED = (s.dev.ctr K.FWD_LEARNED + 1) % 2 ^ 64) := by
  have hexec := learnDecide_unknown hq hr hf
  rw [Dev.learnInsert_stores (d := s.dev.learnTaken t) hl hp hd ho hi] at hexec
  refine .of _ hexec ⟨congrArg Fwd.queue (Dev.learnCount_fwd _ _ _), (Dev.learnCount_fwdAt _ _ _ _).trans (Dev.fwdAt_putFwd_self _ _ _),
    fun m hm => (Dev.learnCount_fwdAt _ _ _ _).trans (Dev.fwdAt_putFwd_ne _ _ hm), Dev.learned_learnCount _ _ hl, ?_⟩
  rw [Dev.ctr_count_self, Dev.learnCount_ctr]
  rfl

end

section
variable {i : Nat} {e : FwdEntry} (hf : s.dev.fwdFind q.mac q.fd = some i) (he : s.dev.fwdAt i = some e)
include hf he

/-- A known key on its own port has its on-die entry refreshed. -/
theorem learnDecide_refreshes (hport : e.port = q.port) (hi : inDdr i = false) : Yields (.learnDecide none) s (fun d =>
    d.fwdAt i = some (if e.frozen then e else { e with age := s.dev.fwd.tick }) ∧ (∀ m, m ≠ i → d.fwdAt m = s.dev.fwdAt m) ∧ d.bus = s.dev.bus ∧
      d.fwd.queue = t) := by
  have hexec := learnDecide_known hq hr hf he
  rw [if_pos hport] at hexec
  have hat : (s.dev.learnTaken t).fwdAt i = some e := he
  by_cases hfrozen : e.frozen = true
  · rw [Dev.refresh_unchanged hat false (.inl hfrozen)] at hexec
    exact .of _ hexec ⟨by rw [if_pos hfrozen, hat], fun m _ => rfl, rfl, rfl⟩
  · rw [if_neg hfrozen]
    by_cases hage : e.age = s.dev.fwd.tick
    · rw [Dev.refresh_unchanged hat false (.inr hage)] at hexec
      exact .of _ hexec ⟨by rw [hat, ← hage], fun m _ => rfl, rfl, rfl⟩
    · rw [Dev.refresh_ondie hat (by simpa using hfrozen) hage hr hi] at hexec
      exact .of _ hexec ⟨Dev.fwdAt_putFwd_self _ _ _, fun m hm => Dev.fwdAt_putFwd_ne _ _ hm, rfl, rfl⟩

/-- A known key on its own port has its DDR5 entry refreshed through the queue. -/
theorem learnDecide_queues_refresh (hport : e.port = q.port) (hi : inDdr i = true) (hfrozen : e.frozen = false) (hage : e.age ≠ s.dev.fwd.tick) :
    Yields (.learnDecide none) s (fun d => d.fwd.refreshes = [(i, e.mac, e.fd, s.dev.fwd.tick)] ∧ d.fwd.entries = s.dev.fwd.entries ∧
      d.bus = s.dev.bus ∧ d.fwd.queue = t) := by
  have hexec := learnDecide_known hq hr hf he
  rw [if_pos hport, Dev.refresh_ddr (d := s.dev.learnTaken t) he hfrozen hage hr hi] at hexec
  exact .of _ hexec ⟨congrArg (· ++ _) hr, rfl, rfl, rfl⟩

variable (hport : e.port ≠ q.port)
include hport

theorem learnDecide_static_conflict (hs : e.isStatic = true) : Yields (.learnDecide none) s (fun d => d.fwd.entries = s.dev.fwd.entries ∧ d.fwd.queue = t ∧
    d.ctr K.FWD_STATIC_CONFLICT = (s.dev.ctr K.FWD_STATIC_CONFLICT + 1) % 2 ^ 64) := by
  have hexec := learnDecide_known hq hr hf he
  rw [if_neg hport, if_pos hs] at hexec
  exact .of _ hexec ⟨rfl, rfl, Dev.ctr_count_self _ _ _⟩

variable (hs : e.isStatic = false)
include hs

theorem learnDecide_move_frozen (hfrozen : e.frozen = true) : Yields (.learnDecide none) s (fun d => d.fwd.entries = s.dev.fwd.entries ∧ d.fwd.queue = t ∧
    d.ctr K.FWD_MOVE_FROZEN = (s.dev.ctr K.FWD_MOVE_FROZEN + 1) % 2 ^ 64) := by
  have hexec := learnDecide_known hq hr hf he
  rw [if_neg hport, if_neg (by simp [hs]), if_pos hfrozen] at hexec
  exact .of _ hexec ⟨rfl, rfl, Dev.ctr_count_self _ _ _⟩

section
variable (hfrozen : e.frozen = false)
  (hp : q.port > 10 ∨ s.dev.get (F.FWD_PORT_COUNT_COUNT q.port) < s.dev.sh (F.FWD_PORT_LEARN_LIMIT q.port)) {n : Nat} {l : List MoveWin}
  (htrack : trackMove s.dev.fwd.moves (q.mac * 16384 + q.fd) s.dev.time.cycles (s.dev.get F.FWD_LEARN_CFG_MOVE_WINDOW_MS * 1200000) = (n, l))
include hfrozen hp htrack

theorem learnDecide_moves (hn : n ≤ s.dev.get F.FWD_LEARN_CFG_MOVE_LIMIT) : Yields (.learnDecide none) s (fun d =>
    d.fwdAt i = some { e with port := q.port, queue := q.queue, age := s.dev.fwd.tick } ∧ d.fwd.moves = l ∧ d.fwd.queue = t ∧
      d.ctr K.FWD_MOVES = (s.dev.ctr K.FWD_MOVES + 1) % 2 ^ 64) := by
  have hexec := learnDecide_known hq hr hf he
  rw [if_neg hport, if_neg (by simp [hs]), if_neg (by simp [hfrozen]), Dev.stationMove_moves (d := s.dev.learnTaken t) hp htrack hn] at hexec
  have hfwd : ∀ (d : Dev) p p', ((d.learnCount p false).learnCount p' true).fwd = d.fwd := fun d p p' => by
    rw [Dev.learnCount_fwd, Dev.learnCount_fwd]
  refine .of _ hexec ⟨?_, congrArg Fwd.moves (hfwd _ _ _), congrArg Fwd.queue (hfwd _ _ _), ?_⟩
  · exact (congrArg (fun f : Fwd => mapGet f.entries i) (hfwd _ _ _)).trans (Dev.fwdAt_putFwd_self _ _ _)
  · rw [Dev.ctr_count_self, Dev.learnCount_ctr, Dev.learnCount_ctr]
    rfl

theorem learnDecide_freezes (hn : s.dev.get F.FWD_LEARN_CFG_MOVE_LIMIT < n) : Yields (.learnDecide none) s (fun d =>
    d.fwdAt i = some { e with frozen := true, age := s.dev.fwd.tick } ∧ d.fwd.queue = t ∧ d.get F.FWD_EVENT_FLAP = 1 ∧
      d.ctr K.FWD_FLAPS = (s.dev.ctr K.FWD_FLAPS + 1) % 2 ^ 64) := by
  have hexec := learnDecide_known hq hr hf he
  rw [if_neg hport, if_neg (by simp [hs]), if_neg (by simp [hfrozen]), Dev.stationMove_freezes (d := s.dev.learnTaken t) hp htrack hn] at hexec
  obtain ⟨w, hw⟩ := Dev.fwdLog_eq (((s.dev.learnTaken t).putFwd i { e with frozen := true, age := (s.dev.learnTaken t).fwd.tick }).count K.FWD_FLAPS)
    q.mac q.fd 1
  rw [hw] at hexec
  exact .of _ hexec ⟨Dev.fwdAt_putFwd_self _ _ _, rfl, Dev.get_raise_self _ _ (by decide) (by decide), Dev.ctr_count_self _ _ _⟩

end
end
end

end Sys2Proof.Machine
end

section
/-! PROOFS. Ageing (R182 to R184): the removes that take effect, the bucket that is read; and the statement on learning and ageing (R170, R178 to R184). -/
namespace Sys2Proof.Machine
open Sys2Proof

/-! ## AGER_REMOVE (R184) -/

section
variable {d : Dev} {i : Nat} {e : FwdEntry} (he : d.fwdAt i = some e)
include he

/-- An entry refreshed since, or whose refresh waits, is saved. -/
theorem Dev.agerRemove_saves {a : Nat} (h : e.age ≠ a ∨ d.fwd.refreshes.any (fun q => q.1 == i) = true) :
    d.agerRemove (i, a) = d.count K.FWD_AGE_SAVED := by
  simp only [Dev.agerRemove, he]
  refine if_pos ?_
  obtain h | h := h
  · simp [h]
  · simp only [h, Bool.or_true]

/-- An unchanged learned entry is removed. -/
theorem Dev.agerRemove_removes (hs : e.isStatic = false) (hf : e.frozen = false) (hr : d.fwd.refreshes = []) :
    d.agerRemove (i, e.age) = (d.removeFwd i).count K.FWD_AGED := by
  simp only [Dev.agerRemove, he]
  exact if_neg (by simp [hs, hf, hr])

end

/-! ## The four places that the ager reads (R181, R183) -/

/-- What the ager's reading of a place leaves: the registers and counts, the tick, and the removes issued before. -/
structure Dev.AgerKept (d e : Dev) : Prop where
  bus : e.bus = d.bus
  tick : e.fwd.tick = d.fwd.tick
  removes : ∀ r ∈ d.fwd.removes, r ∈ e.fwd.removes

theorem Dev.AgerKept.refl (d : Dev) : d.AgerKept d := ⟨rfl, rfl, fun _ h => h⟩

theorem Dev.AgerKept.trans {d e f : Dev} (h : d.AgerKept e) (h' : e.AgerKept f) : d.AgerKept f :=
  ⟨h'.bus.trans h.bus, h'.tick.trans h.tick, fun r hr => h'.removes r (h.removes r hr)⟩

/-- An AGE is as old in a device with the same tick. -/
theorem Dev.AgerKept.ageOf {d e : Dev} (h : d.AgerKept e) (age : Nat) : e.ageOf age = d.ageOf age := by rw [Dev.ageOf, h.tick, Dev.ageOf]

theorem Dev.AgerKept.get {d e : Dev} (h : d.AgerKept e) (f : Fld) : e.get f = d.get f := by rw [Dev.get, h.bus, Dev.get]

section
variable (d : Dev)

theorem Dev.agerKept_agerEntry (i : Nat) : d.AgerKept (d.agerEntry i) := by
  unfold Dev.agerEntry
  split
  · exact .refl d
  · split
    · split
      · exact ⟨rfl, rfl, fun _ h => h⟩
      · exact .refl d
    · split
      · exact ⟨rfl, rfl, fun _ h => List.mem_append_left _ h⟩
      · exact .refl d

theorem Dev.fwdAt_agerEntry_ne (i m : Nat) (h : m ≠ i) : (d.agerEntry i).fwdAt m = d.fwdAt m := by
  unfold Dev.agerEntry
  split
  · rfl
  · split
    · split
      · exact d.fwdAt_putFwd_ne _ h
      · rfl
    · split
      · rfl
      · rfl

variable {d}

/-- A place without a frozen entry reads the same. -/
theorem Dev.fwdAt_agerEntry_unfrozen {i : Nat} (h : ∀ e, d.fwdAt i = some e → e.frozen = false) : (d.agerEntry i).fwdAt i = d.fwdAt i := by
  unfold Dev.agerEntry
  split
  · rfl
  next e he =>
    rw [if_neg (by simp [h e he])]
    split
    · rfl
    · rfl

/-- A learned entry at AGE_LIMIT has a remove issued. -/
theorem Dev.agerEntry_issues {i : Nat} {e : FwdEntry} (he : d.fwdAt i = some e) (hf : e.frozen = false) (hs : e.isStatic = false)
    (ha : d.get F.FWD_CFG_AGE_LIMIT ≤ d.ageOf e.age) : d.agerEntry i = d.modFwd (fun f => { f with removes := f.removes ++ [(i, e.age)] }) := by
  simp only [Dev.agerEntry, he]
  rw [if_neg (by simp [hf]), if_pos (by simp [hs, ha])]

/-- An entry frozen for FREEZE_TICKS thaws. -/
theorem Dev.agerEntry_thaws {i : Nat} {e : FwdEntry} (he : d.fwdAt i = some e) (hf : e.frozen = true)
    (ha : d.get F.FWD_FREEZE_FREEZE_TICKS ≤ d.ageOf e.age) : d.agerEntry i = d.putFwd i { e with frozen := false, age := d.fwd.tick } := by
  simp only [Dev.agerEntry, he]
  rw [if_pos hf, if_pos ha]

variable (d)

/-- The bucket of a place, read by the ager. -/
def Dev.bucketAged (p : Nat) : Dev := (fourPlaces p).foldl Dev.agerEntry d

/-- A run of places read by the ager. -/
theorem Dev.agerKept_foldl (l : List Nat) : d.AgerKept (l.foldl Dev.agerEntry d) := foldl_rel .refl .trans l (fun b i _ => b.agerKept_agerEntry i) d

theorem Dev.agerKept_bucketAged (p : Nat) : d.AgerKept (d.bucketAged p) := d.agerKept_foldl _

/-- A place of the bucket is read once, as it was, and what its reading leaves stays. -/
theorem Dev.bucketAged_reads {p i : Nat} (h : i / 4 = p) : ∃ e, d.AgerKept e ∧ e.fwdAt i = d.fwdAt i ∧ (e.agerEntry i).AgerKept (d.bucketAged p) ∧
    (d.bucketAged p).fwdAt i = (e.agerEntry i).fwdAt i := by
  obtain ⟨l, l', hl, hi, hi'⟩ := fourPlaces_split h
  have hsplit : d.bucketAged p = l'.foldl Dev.agerEntry ((l.foldl Dev.agerEntry d).agerEntry i) := by
    rw [Dev.bucketAged, hl, List.foldl_append, List.foldl_cons]
  refine ⟨l.foldl Dev.agerEntry d, d.agerKept_foldl l, fwdAt_foldl_apart Dev.fwdAt_agerEntry_ne hi d, ?_, ?_⟩
  · rw [hsplit]
    exact Dev.agerKept_foldl _ l'
  · rw [hsplit]
    exact fwdAt_foldl_apart Dev.fwdAt_agerEntry_ne hi' _

theorem Dev.fwdAt_bucketAged_unfrozen (p : Nat) {i : Nat} (h : ∀ e, d.fwdAt i = some e → e.frozen = false) :
    (d.bucketAged p).fwdAt i = d.fwdAt i := by
  by_cases hp : i / 4 = p
  · obtain ⟨e, -, he, -, hread⟩ := d.bucketAged_reads hp
    rw [hread, Dev.fwdAt_agerEntry_unfrozen (by rwa [he]), he]
  · exact fwdAt_foldl_apart Dev.fwdAt_agerEntry_ne (fun hm => hp (mem_fourPlaces.mp hm)) d

end

/-! ## AGER_BUCKET_READ (R183, R184) -/

/-- The device with its removes taken out to be applied. -/
def Dev.removesOut (d : Dev) : Dev := d.modFwd (fun f => { f with removes := [] })

/-- The device once the removes issued before have taken effect, and the refreshes that waited behind them. -/
def Dev.removesTaken (d : Dev) : Dev := (d.fwd.removes.foldl Dev.agerRemove d.removesOut).applyRefreshes

theorem Dev.removesTaken_none {d : Dev} (h : d.fwd.removes = []) (hr : d.fwd.refreshes = []) : d.removesTaken = d := by
  have hf : { d.fwd with removes := [] } = d.fwd := by rw [← h]
  rw [Dev.removesTaken, h, List.foldl_nil, Dev.removesOut, Dev.modFwd, hf]
  exact Dev.applyRefreshes_none hr

theorem Dev.removesTaken_one {d : Dev} {i a : Nat} (h : d.fwd.removes = [(i, a)]) :
    d.removesTaken = (d.removesOut.agerRemove (i, a)).applyRefreshes := by
  rw [Dev.removesTaken, h, List.foldl_cons, List.foldl_nil]

/-- AGER_BUCKET_READ takes the removes and then reads the bucket; a late sweep raises SWEEP_LATE. -/
theorem agerBucketRead_reads (s : State) (bucket : Nat) (late : Bool) : exec (.agerBucketRead bucket late none) s = done s
    (if late then (s.dev.removesTaken.bucketAged bucket).raise F.FWD_EVENT_SWEEP_LATE else s.dev.removesTaken.bucketAged bucket) := rfl

/-- A place where the removes leave no frozen entry stays so, and the counts stay as the removes left them. -/
theorem agerBucketRead_takes {s : State} (bucket : Nat) (late : Bool) {i : Nat} {o : Option FwdEntry} (ho : s.dev.removesTaken.fwdAt i = o)
    (hf : ∀ e, o = some e → e.frozen = false) : Yields (.agerBucketRead bucket late none) s (fun d =>
      d.fwdAt i = o ∧ (∀ k, d.ctr k = s.dev.removesTaken.ctr k) ∧ (late = true → d.get F.FWD_EVENT_SWEEP_LATE = 1)) := by
  have hat := s.dev.removesTaken.fwdAt_bucketAged_unfrozen bucket (i := i) (by rwa [ho])
  have hctr : ∀ k, (s.dev.removesTaken.bucketAged bucket).ctr k = s.dev.removesTaken.ctr k := fun k => by
    rw [Dev.ctr, (s.dev.removesTaken.agerKept_bucketAged bucket).bus, Dev.ctr]
  have hexec := agerBucketRead_reads s bucket late
  cases late with
  | true => exact .of _ hexec ⟨hat.trans ho, hctr, fun _ => Dev.get_raise_self _ _ (by decide) (by decide)⟩
  | false => exact .of _ hexec ⟨hat.trans ho, hctr, fun h => absurd h (by decide)⟩

section
variable {s : State} {bucket i : Nat} {e : FwdEntry} (he : s.dev.fwdAt i = some e)
include he

section
variable {a : Nat} (late : Bool) (h : s.dev.fwd.removes = [(i, a)]) (hf : e.frozen = false)
include h hf

theorem agerBucketRead_saves_waiting {tk : Nat} (hr : s.dev.fwd.refreshes = [(i, e.mac, e.fd, tk)]) :
    Yields (.agerBucketRead bucket late none) s (fun d =>
      d.fwdAt i = some { e with age := tk } ∧ d.ctr K.FWD_AGE_SAVED = (s.dev.ctr K.FWD_AGE_SAVED + 1) % 2 ^ 64) := by
  have htaken : s.dev.removesTaken = ((s.dev.removesOut.count K.FWD_AGE_SAVED).modFwd (fun f => { f with refreshes := [] })).putFwd i
      { e with age := tk } := by
    rw [Dev.removesTaken_one h, Dev.agerRemove_saves (d := s.dev.removesOut) he (.inr (by simp [Dev.removesOut, hr]))]
    exact Dev.applyRefreshes_one hr he hf
  refine (agerBucketRead_takes bucket late (o := some { e with age := tk }) (by rw [htaken, Dev.fwdAt_putFwd_self]) ?_).mono
    (fun d ⟨hat, hctr, _⟩ => ⟨hat, ?_⟩)
  · rintro _ ⟨⟩
    exact hf
  · rw [hctr, htaken]
    exact Dev.ctr_count_self _ _ _

variable (hr : s.dev.fwd.refreshes = [])
include hr

theorem agerBucketRead_removes (hs : e.isStatic = false) (ha : e.age = a) : Yields (.agerBucketRead bucket late none) s (fun d =>
    d.fwdAt i = none ∧ d.ctr K.FWD_AGED = (s.dev.ctr K.FWD_AGED + 1) % 2 ^ 64 ∧ (late = true → d.get F.FWD_EVENT_SWEEP_LATE = 1)) := by
  subst ha
  have htaken : s.dev.removesTaken = (s.dev.removesOut.removeFwd i).count K.FWD_AGED := by
    rw [Dev.removesTaken_one h, Dev.agerRemove_removes (d := s.dev.removesOut) he hs hf hr]
    exact Dev.applyRefreshes_none ((Dev.removeFwd_refreshes _ _).trans hr)
  have hat : s.dev.removesTaken.fwdAt i = none := by
    rw [htaken]
    exact Dev.fwdAt_removeFwd_self _ _
  refine (agerBucketRead_takes bucket late hat (fun _ h => absurd h (by simp))).mono (fun d ⟨hat, hctr, hlate⟩ => ⟨hat, ?_, hlate⟩)
  rw [hctr, htaken, Dev.ctr_count_self, Dev.removeFwd_ctr]
  rfl

theorem agerBucketRead_saves_refreshed (ha : e.age ≠ a) : Yields (.agerBucketRead bucket late none) s (fun d =>
    d.fwdAt i = some e ∧ d.ctr K.FWD_AGE_SAVED = (s.dev.ctr K.FWD_AGE_SAVED + 1) % 2 ^ 64) := by
  have htaken : s.dev.removesTaken = s.dev.removesOut.count K.FWD_AGE_SAVED := by
    rw [Dev.removesTaken_one h, Dev.agerRemove_saves (d := s.dev.removesOut) he (.inl ha)]
    exact Dev.applyRefreshes_none hr
  have hat : s.dev.removesTaken.fwdAt i = some e := by
    rw [htaken]
    exact he
  refine (agerBucketRead_takes bucket late hat ?_).mono (fun d ⟨hat, hctr, _⟩ => ⟨hat, ?_⟩)
  · rintro _ ⟨⟩
    exact hf
  · rw [hctr, htaken]
    exact Dev.ctr_count_self _ _ _

end

section
variable (h : s.dev.fwd.removes = []) (hr : s.dev.fwd.refreshes = []) (hb : i / 4 = bucket)
include h hr hb

theorem agerBucketRead_issues (hf : e.frozen = false) (hs : e.isStatic = false) (ha : s.dev.get F.FWD_CFG_AGE_LIMIT ≤ s.dev.ageOf e.age) :
    Yields (.agerBucketRead bucket false none) s (fun d => d.fwdAt i = some e ∧ (i, e.age) ∈ d.fwd.removes ∧ d.bus = s.dev.bus) := by
  have hexec := agerBucketRead_reads s bucket false
  rw [Dev.removesTaken_none h hr] at hexec
  obtain ⟨d, hkept, hat, hafter, hread⟩ := s.dev.bucketAged_reads hb
  rw [Dev.agerEntry_issues (hat.trans he) hf hs (by rwa [hkept.get, hkept.ageOf])] at hafter hread
  exact .of _ hexec ⟨hread.trans (hat.trans he), hafter.removes _ (by simp), hafter.bus.trans hkept.bus⟩

theorem agerBucketRead_thaws (hf : e.frozen = true) (ha : s.dev.get F.FWD_FREEZE_FREEZE_TICKS ≤ s.dev.ageOf e.age) :
    Yields (.agerBucketRead bucket false none) s (fun d => d.fwdAt i = some { e with frozen := false, age := s.dev.fwd.tick }) := by
  have hexec := agerBucketRead_reads s bucket false
  rw [Dev.removesTaken_none h hr] at hexec
  obtain ⟨d, hkept, hat, -, hread⟩ := s.dev.bucketAged_reads hb
  rw [Dev.agerEntry_thaws (hat.trans he) hf (by rwa [hkept.get, hkept.ageOf]), Dev.fwdAt_putFwd_self, hkept.tick] at hread
  exact .of _ hexec hread

end
end

/-! ## The statement -/

/-- Settles O32: a request by the lemma on what the learn unit makes of an unknown key or of a known one, a bucket by those on the ager. -/
theorem learningMovesAndAgeing : Obligations.LearningMovesAndAgeing := by
  unfold Obligations.LearningMovesAndAgeing
  refine ⟨?unknown, ?known, fun s h => .of _ (learnDecide_idle h) rfl, fun s => .of _ rfl rfl, ?removes, ?bucket⟩
  case unknown =>
    intro s q t hq hr hf hl hport
    exact ⟨fun hp hd ho i hi => learnDecide_learns hq hr hf hl hp hd ho hi,
      fun hp => learnDecide_refuses hq hr hf (Dev.learnInsert_port_limit hl hport hp),
      fun hp hd => learnDecide_refuses hq hr hf (Dev.learnInsert_domain_limit hl hp hd)⟩
  case known =>
    intro s q t i e hq hr hf he
    refine ⟨learnDecide_refreshes hq hr hf he, learnDecide_queues_refresh hq hr hf he, learnDecide_static_conflict hq hr hf he,
      learnDecide_move_frozen hq hr hf he, fun hport hs hfrozen hp n l htrack => ⟨?moves, ?freezes⟩⟩
    case moves => exact learnDecide_moves hq hr hf he hport hs hfrozen hp htrack
    case freezes => exact learnDecide_freezes hq hr hf he hport hs hfrozen hp htrack
  case removes =>
    intro s bucket i e a late h he hs hf
    exact ⟨fun tk _ hr => agerBucketRead_saves_waiting he late h hf hr, fun ha hr => agerBucketRead_removes he late h hf hr hs ha,
      fun ha hr => agerBucketRead_saves_refreshed he late h hf hr ha⟩
  case bucket =>
    intro s bucket i e h hr hb he
    exact ⟨agerBucketRead_issues he h hr hb, agerBucketRead_thaws he h hr hb⟩

end Sys2Proof.Machine
end

section
/-! PROOFS. A tag that fails for the original of a PRP pair whose copy may still leave (R77, R213, R333): the frame keeps its shuttle. The statement on
cipher lanes asks only that no copy shares the lane visit, and that the shuttle is gone after the discard. -/
namespace Sys2Proof.Machine
open Sys2Proof

/-- An inbound frame in lane 0 whose tag is bad: the original of a PRP pair with shuttle 1. -/
def badTagOriginal : Shut := { ({} : Shut).set S.CIPHER_OP 1 with
  stage := .inLane
  lane := some 0
  transformed := true
  ended := true
  tagOk := false
  holdsSa := some 0
  twin := some 1 }

/-- Its copy: in no lane, and not discarded. -/
def copyInReed : Shut := { stage := .reed, prpCopyOf := some 0, twin := some 0 }

/-- The SA that the original holds: a MACsec SA in use. -/
def heldSa : Sa := { record := 0, key := [], state := SaS.active, counter := 0, refs := 1 }

/-- A module with that SA, the frame and its copy. -/
def badTagWithCopy : State where
  dev := { ({} : Dev) with
    ciph := { sas := [(0, heldSa)] }
    shuts := [(0, badTagOriginal), (1, copyInReed)] }
  ddr := []
  pending := []

/-- The stage that a command's next state shows of a shuttle. -/
def stageAfter (c : Instr) (s : State) (i : Nat) : Option Stage := match exec c s with
  | .next t => (t.dev.shut i).map Shut.stage
  | _ => none

/-- The discarded original keeps its shuttle, as `Dev.finish` has it for a pair whose copy may still leave. -/
theorem badTagWithCopy_kept : stageAfter (.cipherTagResult 0) badTagWithCopy 0 = some .ended := by decide +kernel

theorem Yields.stageAfter {c : Instr} {s : State} {P : Dev → Prop} (h : Yields c s P) (i : Nat) :
    ∃ d, Machine.stageAfter c s i = (d.shut i).map Shut.stage ∧ P d := by
  obtain ⟨d, hexec, hd⟩ := h
  exact ⟨d, by rw [Machine.stageAfter, hexec], hd⟩

/-- Refutes O34: its clause on a bad tag says that the frame's shuttle is gone, and bounds the copies in the lane alone. The original of a PRP pair
whose copy waits in Reed is discarded and keeps its shuttle, since the copy may still leave. -/
theorem not_lanesTakeFramesAndJudgeTags : ¬ Obligations.LanesTakeFramesAndJudgeTags := by
  unfold Obligations.LanesTakeFramesAndJudgeTags
  rintro ⟨-, -, -, htag, -⟩
  have hop : badTagOriginal.get S.CIPHER_OP = 1 := by decide +kernel
  have hsa : badTagOriginal.get S.SA = 0 := by decide +kernel
  have htype : heldSa.f SAR.TYPE ≠ 3 := by decide +kernel
  obtain ⟨-, hbad⟩ := htag badTagWithCopy 0 0 0 badTagOriginal heldSa rfl rfl rfl rfl rfl hop rfl rfl rfl rfl hsa rfl rfl rfl htype rfl rfl
  obtain ⟨d, hshown, -, hgone, -⟩ := (hbad rfl rfl).stageAfter 0
  rw [badTagWithCopy_kept, hgone] at hshown
  exact absurd hshown (by decide)

end Sys2Proof.Machine
end

section
/-! PROOFS. The SA store and the templates through the cipher unit's indirect registers (R161, R193, R198, R200 to R202, R212, R221). -/
namespace Sys2Proof.Machine
open Sys2Proof

/-! ## An operation of the cipher unit's indirect registers begun (R161) -/

/-- What the start of an operation of the cipher unit's indirect registers leaves: BUSY is set, and only CIPH_IND_CTRL and CIPH_IND_INDEX have changed. -/
structure Dev.CiphBegun (d b : Dev) : Prop where
  ciph : b.ciph = d.ciph
  cfg : b.cfg = d.cfg
  busy : b.get ⟨0x700200, 16, 1⟩ = 1
  word : ∀ a, a ≠ 0x700200 → a ≠ 0x700204 → b.word a = d.word a

theorem Dev.ciphBegun_indStarted (d : Dev) (op table set index : Nat) : d.CiphBegun (d.indStarted 0x700200 op table set index) :=
  ⟨rfl, rfl, d.indStarted_busy _ _ _ _ _, fun _ h h' => d.indStarted_word _ _ _ _ _ h h'⟩

namespace Dev.CiphBegun
variable {d b : Dev} (h : d.CiphBegun b)
include h

/-- The data window is as it was. -/
theorem winRec : b.winRec ciphWin 256 = d.winRec ciphWin 256 := by
  have hwords : b.words ciphWin (ceilDiv 256 4) = d.words ciphWin (ceilDiv 256 4) := Dev.words_congr (fun a ha _ => by
    simp only [ciphWin] at ha
    exact h.word a (by omega) (by omega))
  simp only [Dev.winRec, hwords]

theorem pinned : b.get F.CIPH_CACHE_STATUS_PINNED = d.get F.CIPH_CACHE_STATUS_PINNED :=
  Dev.get_eq_of_word_eq (by decide) (h.word _ (by decide) (by decide))

end Dev.CiphBegun

/-- An operation that ends with a RESULT yields BUSY, that RESULT, and what holds of the device that its action left, where that does not speak of the
RESULT kept. -/
theorem Yields.of_ciphAction {s : State} {c : Instr} {op table set index : Nat} {f : Dev → Dev × Nat} {code : Nat} {P : Dev → Prop}
    (h : s.dev.IndReady 0x700200) (hexec : exec c s = done s (s.dev.indirect 0x700200 op table set index f))
    (hact : ∀ b, s.dev.CiphBegun b → ∃ e, f b = (e, code) ∧ e.get ⟨0x700200, 16, 1⟩ = 1 ∧ P e)
    (hind : ∀ (e : Dev) m, P e → P { e with ind := m }) : Yields c s (fun d => d.IndBusy 0x700200 code ∧ P d) := by
  obtain ⟨e, he, hbusy, hp⟩ := hact _ (s.dev.ciphBegun_indStarted op table set index)
  rw [Dev.indirect_ready _ _ _ _ h, he] at hexec
  exact .of _ hexec ⟨Dev.indBusy_put code hbusy, hind e _ hp⟩

section
variable {s : State} {c : Instr} {op k : Nat} {f : Dev → Dev × Nat} {code : Nat} {P : Dev → Prop}
  (h : s.dev.IndReady 0x700200) (hk : k < 1048576)
include h hk

/-- An operation on an SA of the store. -/
theorem Yields.of_saAction (hexec : exec c s = done s (s.dev.saIndirect op k f))
    (hact : ∀ b, s.dev.CiphBegun b → ∃ e, f b = (e, code) ∧ e.get ⟨0x700200, 16, 1⟩ = 1 ∧ P e)
    (hind : ∀ (e : Dev) m, P e → P { e with ind := m }) : Yields c s (fun d => d.IndBusy 0x700200 code ∧ P d) := by
  refine .of_ciphAction h hexec (fun b hb => ?_) hind
  rw [if_neg (Nat.not_le.mpr hk)]
  exact hact b hb

/-- A WRITE or REKEY of an SA of the store: what its action left, with the key window consumed (R201). -/
theorem Yields.of_saKeyed (hexec : exec c s = done s (s.dev.saKeyed op k f))
    (hact : ∀ b, s.dev.CiphBegun b → ∃ e, f b = (e, code) ∧ e.get ⟨0x700200, 16, 1⟩ = 1 ∧ P e.consumeKey)
    (hind : ∀ (e : Dev) m, P e → P { e with ind := m }) : Yields c s (fun d => d.IndBusy 0x700200 code ∧ P d) := by
  refine .of_ciphAction h hexec (fun b hb => ?_) hind
  obtain ⟨e, he, hbusy, hp⟩ := hact b hb
  dsimp only
  rw [if_neg (Nat.not_le.mpr hk), he]
  exact ⟨e.consumeKey, rfl, hbusy, hp⟩

end

/-! ## What the actions write -/

/-- The cipher unit with its key window consumed (R201). -/
def Ciph.keyless (c : Ciph) : Ciph := { c with keyWin := List.replicate 64 0, keyLoaded := false }

/-- A record shown in the data window is read back, and leaves BUSY, the SAs and the configuration. -/
theorem Dev.showRec_ciphWin (d : Dev) (r : Rec) : (d.showRec ciphWin 256 r).get ⟨0x700200, 16, 1⟩ = d.get ⟨0x700200, 16, 1⟩ ∧
    (d.showRec ciphWin 256 r).words ciphWin 64 = r.toNat ∧ (d.showRec ciphWin 256 r).ciph = d.ciph ∧ (d.showRec ciphWin 256 r).cfg = d.cfg := by
  have hfits := BitVec.toNat_mod_cancel r
  rw [Dev.showRec, show 8 * 256 = 2048 by decide, hfits, show ceilDiv 256 4 = 64 by decide]
  refine ⟨Dev.get_putWords_outside _ _ _ _ (by decide) (.inl (by decide)), ?_, ?_, ?_⟩
  · rw [Dev.words_putWords, show 32 * 64 = 2048 by decide, hfits]
  all_goals
    obtain ⟨w, hw⟩ := d.putWords_eq ciphWin 64 r.toNat
    rw [hw]

/-- An entry of CIPH_LOG changes words alone. -/
theorem Dev.ciphLog_eq (d : Dev) (k kind : Nat) : ∃ w, d.ciphLog k kind = { d with bus := { d.bus with words := w } } := d.logPut_eq _ _ _ _

theorem Dev.ciph_ciphLog (d : Dev) (k kind : Nat) : (d.ciphLog k kind).ciph = d.ciph := by
  obtain ⟨w, hw⟩ := d.ciphLog_eq k kind
  rw [hw]

/-- An entry of CIPH_LOG leaves BUSY. -/
theorem Dev.busy_ciphLog (d : Dev) (k kind : Nat) : (d.ciphLog k kind).get ⟨0x700200, 16, 1⟩ = d.get ⟨0x700200, 16, 1⟩ :=
  Dev.get_eq_of_word_eq (by decide) (d.word_logPut _ _ _ _ (by decide) (.inl (by decide)))

/-! ## SA_READ, SA_RETIRE and SA_RESYNC (R200, R212, R221) -/

/-- An SA is free once it is RETIRED and nothing holds it (R200). -/
theorem Dev.freeSa_frees {d : Dev} {k : Nat} {a : Sa} (ha : mapGet d.ciph.sas k = some a) (hs : a.state = 2) (hr : a.refs = 0) :
    (d.freeSa k).get ⟨0x700200, 16, 1⟩ = d.get ⟨0x700200, 16, 1⟩ ∧ mapGet (d.freeSa k).ciph.sas k = none := by
  have hbusy := (d.modCiph (fun c => { c with sas := mapErase c.sas k })).busy_ciphLog k 3
  have hciph := (d.modCiph (fun c => { c with sas := mapErase c.sas k })).ciph_ciphLog k 3
  simp only [Dev.freeSa, ha, hs, hr, and_self, if_true]
  generalize (d.modCiph (fun c => { c with sas := mapErase c.sas k })).ciphLog k 3 = e at hbusy hciph ⊢
  have herased : mapGet e.ciph.sas k = none := by
    rw [hciph]
    exact mapGet_mapErase_self _ _
  split
  · exact ⟨(Dev.get_set_apart _ _ _ _ (by decide)).trans hbusy, herased⟩
  · exact ⟨hbusy, herased⟩

/-- An SA that something holds is not freed (R200). -/
theorem Dev.freeSa_held {d : Dev} {k : Nat} {a : Sa} (ha : mapGet d.ciph.sas k = some a) (hr : a.refs ≠ 0) : d.freeSa k = d := by
  simp [Dev.freeSa, ha, hr]

section
variable {s : State} {k : Nat} (h : s.dev.IndReady 0x700200) (hk : k < 1048576)
include h hk

section
variable (hfree : mapGet s.dev.ciph.sas k = none)
include hfree

theorem saRead_free : Yields (.saRead k) s (fun d => d.IndBusy 0x700200 1 ∧ d.words ciphWin 64 = 0 ∧ d.ciph = s.dev.ciph) := by
  refine .of_saAction h hk rfl (fun b hb => ?_) (fun e m ⟨hw, hc⟩ => ⟨(e.words_withInd m _ _).trans hw, hc⟩)
  obtain ⟨hbusy, hwords, hciph, -⟩ := b.showRec_ciphWin 0
  refine ⟨_, ?_, hbusy.trans hb.busy, hwords.trans BitVec.toNat_zero, hciph.trans hb.ciph⟩
  simp only [hb.ciph, hfree, IndResult.code]

theorem saRetire_free : Yields (.saRetire k) s (fun d => d.IndBusy 0x700200 1 ∧ d.ciph = s.dev.ciph) := by
  refine .of_saAction h hk rfl (fun b hb => ⟨b, ?_, hb.busy, hb.ciph⟩) (fun _ _ he => he)
  simp only [hb.ciph, hfree, IndResult.code]

theorem saResync_free : Yields (.saResync k) s (fun d => d.IndBusy 0x700200 1 ∧ d.ciph = s.dev.ciph) := by
  refine .of_saAction h hk rfl (fun b hb => ⟨b, ?_, hb.busy, hb.ciph⟩) (fun _ _ he => he)
  simp only [hb.ciph, hfree, IndResult.code]

theorem saRekey_free : Yields (.saRekey k) s (fun d => d.IndBusy 0x700200 1 ∧ d.ciph = s.dev.ciph.keyless) := by
  refine .of_saKeyed h hk rfl (fun b hb => ⟨b, ?_, hb.busy, congrArg Ciph.keyless hb.ciph⟩) (fun _ _ he => he)
  simp only [hb.ciph, hfree, IndResult.code]

end

section
variable {a : Sa} (ha : mapGet s.dev.ciph.sas k = some a)
include ha

theorem saRead_shows : Yields (.saRead k) s (fun d => d.IndBusy 0x700200 0 ∧ d.words ciphWin 64 = a.show.toNat ∧ d.ciph = s.dev.ciph) := by
  refine .of_saAction h hk rfl (fun b hb => ?_) (fun e m ⟨hw, hc⟩ => ⟨(e.words_withInd m _ _).trans hw, hc⟩)
  obtain ⟨hbusy, hwords, hciph, -⟩ := b.showRec_ciphWin a.show
  refine ⟨_, ?_, hbusy.trans hb.busy, hwords, hciph.trans hb.ciph⟩
  simp only [hb.ciph, ha, IndResult.code]

/-- What SA_RETIRE makes of an ACTIVE SA, before it is freed where nothing holds it. -/
theorem saRetire_retires (hs : a.state = 1) {P : Dev → Prop}
    (hp : ∀ d : Dev, d.get ⟨0x700200, 16, 1⟩ = 1 → mapGet d.ciph.sas k = some { a with state := 2 } →
      (d.freeSa k).get ⟨0x700200, 16, 1⟩ = 1 ∧ P (d.freeSa k))
    (hind : ∀ (e : Dev) m, P e → P { e with ind := m }) : Yields (.saRetire k) s (fun d => d.IndBusy 0x700200 0 ∧ P d) := by
  refine .of_saAction h hk rfl (fun b hb => ?_) hind
  have hsa := mapGet_mapPut_self b.ciph.sas k { a with state := SaS.retired }
  refine ⟨_, ?_, hp (((b.putSa k { a with state := SaS.retired }).ciphLog k 2)) ?_ ?_⟩
  · simp only [hb.ciph, ha, hs, SaS.active, ne_eq, not_true_eq_false, if_false, IndResult.code]
  · exact (Dev.busy_ciphLog _ _ _).trans hb.busy
  · rw [Dev.ciph_ciphLog]
    exact hsa

theorem saRetire_frees (hs : a.state = 1) (hr : a.refs = 0) :
    Yields (.saRetire k) s (fun d => d.IndBusy 0x700200 0 ∧ mapGet d.ciph.sas k = none) := by
  refine saRetire_retires h hk ha hs (fun d hbusy hd => ?_) (fun _ _ he => he)
  obtain ⟨hkept, hfreed⟩ := Dev.freeSa_frees hd rfl hr
  exact ⟨hkept.trans hbusy, hfreed⟩

theorem saRetire_keeps (hs : a.state = 1) (hr : a.refs ≠ 0) :
    Yields (.saRetire k) s (fun d => d.IndBusy 0x700200 0 ∧ mapGet d.ciph.sas k = some { a with state := 2 }) := by
  refine saRetire_retires h hk ha hs (fun d hbusy hd => ?_) (fun _ _ he => he)
  rw [Dev.freeSa_held hd hr]
  exact ⟨hbusy, hd⟩

theorem saResync_restores (ht : a.f SAR.TYPE = 3) : Yields (.saResync k) s (fun d => d.IndBusy 0x700200 0 ∧ mapGet d.ciph.sas k =
    some { a with sync := true, tls := [], tcpSeq := recGet (s.dev.winRec ciphWin 256) SAR.TCP_SEQ, counter := recGet (s.dev.winRec ciphWin 256) SAR.COUNTER }) := by
  refine .of_saAction h hk rfl (fun b hb => ⟨b.putSa k _, ?_, hb.busy, mapGet_mapPut_self _ _ _⟩) (fun _ _ he => he)
  simp only [hb.ciph, hb.winRec, ha, ht, SaT.tls, ne_eq, not_true_eq_false, if_false, IndResult.code]

theorem saResync_range (ht : a.f SAR.TYPE ≠ 3) : Yields (.saResync k) s (fun d => d.IndBusy 0x700200 3 ∧ d.ciph = s.dev.ciph) := by
  refine .of_saAction h hk rfl (fun b hb => ⟨b, ?_, hb.busy, hb.ciph⟩) (fun _ _ he => he)
  simp only [hb.ciph, ha, SaT.tls, ne_eq, ht, not_false_eq_true, if_true, IndResult.code]

theorem saRekey_stores (ht : a.f SAR.TYPE = 3) (hl : s.dev.ciph.keyLoaded = true) : Yields (.saRekey k) s (fun d => d.IndBusy 0x700200 0 ∧
    mapGet d.ciph.sas k = some { a with
      rekey := some (recGet (s.dev.winRec ciphWin 256) SAR.TCP_SEQ, leBytes 12 (recGet (s.dev.winRec ciphWin 256) SAR.SALT), s.dev.ciph.keyWin) } ∧
    d.ciph.keyLoaded = false ∧ d.ciph.keyWin = List.replicate 64 0) := by
  refine .of_saKeyed h hk rfl (fun b hb => ⟨b.putSa k _, ?_, hb.busy, mapGet_mapPut_self _ _ _, rfl, rfl⟩) (fun _ _ he => he)
  simp only [hb.ciph, hb.winRec, ha, ht, hl, SaT.tls, ne_eq, not_true_eq_false, Bool.not_true, Bool.false_eq_true, if_false, IndResult.code]

theorem saRekey_range (ht : a.f SAR.TYPE ≠ 3) : Yields (.saRekey k) s (fun d => d.IndBusy 0x700200 3 ∧ d.ciph = s.dev.ciph.keyless) := by
  refine .of_saKeyed h hk rfl (fun b hb => ⟨b, ?_, hb.busy, congrArg Ciph.keyless hb.ciph⟩) (fun _ _ he => he)
  simp only [hb.ciph, ha, SaT.tls, ne_eq, ht, not_false_eq_true, if_true, IndResult.code]

theorem saWrite_busy : Yields (.saWrite k) s (fun d => d.IndBusy 0x700200 6 ∧ d.ciph = s.dev.ciph.keyless) := by
  refine .of_saKeyed h hk rfl (fun b hb => ⟨b, ?_, hb.busy, congrArg Ciph.keyless hb.ciph⟩) (fun _ _ he => he)
  simp only [hb.ciph, ha, Option.isSome_some, if_true, busySa]

end
end

end Sys2Proof.Machine
end

section
/-! PROOFS. SA_WRITE of a FREE SA, the templates and the key window (R193, R198, R200 to R202, R221). -/
namespace Sys2Proof.Machine
open Sys2Proof

/-! ## The SA cache (R198) -/

/-- An entry written adds at most one to what a filter keeps. -/
theorem length_filter_mapPut_le {α : Type} (p : Nat × α → Bool) (m : SMap α) (k : Nat) (x : α) :
    ((mapPut m k x).filter p).length ≤ (m.filter p).length + 1 := by
  simp only [← List.countP_eq_length_filter]
  induction m with
  | nil => exact List.countP_le_length
  | cons q t ih =>
    obtain ⟨j, y⟩ := q
    have hnew : (if p (k, x) then 1 else 0) ≤ 1 := by split <;> decide
    simp only [mapPut]
    split
    · simp only [List.countP_cons]
      omega
    · split
      · simp only [List.countP_cons]
        omega
      · simp only [List.countP_cons]
        omega

/-- The SAs that are cached. -/
def Ciph.cachedSas (c : Ciph) : SMap Sa := c.sas.filter (fun p => p.2.cached)

/-- No SA is evicted while the cache has room. -/
theorem Dev.evictSa_room {d : Dev} (h : d.ciph.cachedSas.length ≤ 65536) : d.evictSa = d := if_pos h

/-- An SA written to a cache with room. -/
theorem Ciph.cachedSas_put_le {c : Ciph} (h : c.cachedSas.length < 65536) (k : Nat) (a : Sa) :
    { c with sas := mapPut c.sas k a }.cachedSas.length ≤ 65536 :=
  Nat.le_trans (length_filter_mapPut_le _ c.sas k a) h

/-! ## SA_WRITE of a FREE SA (R198, R200 to R202) -/

/-- The SA that a WRITE makes of the record in the data window and of the loaded key. -/
def Dev.windowSa (d : Dev) : Sa :=
  let r := d.winRec ciphWin 256
  { record := saWritable r, key := d.ciph.keyWin, state := SaS.active, sync := recGet r SAR.TYPE == SaT.tls, counter := recGet r SAR.COUNTER,
    tcpSeq := recGet r SAR.TCP_SEQ, cached := recGet r SAR.PIN == 1, used := d.ciph.useCount }

/-- The device with that SA in the SA store and in DDR5, and counted where it is pinned. -/
def Dev.saStored (d : Dev) (k : Nat) : Dev :=
  ((d.putSa k d.windowSa).storeSa k d.windowSa).set F.CIPH_CACHE_STATUS_PINNED
    (d.get F.CIPH_CACHE_STATUS_PINNED + recGet (d.winRec ciphWin 256) SAR.PIN)

theorem Dev.ciph_saStored (d : Dev) (k : Nat) : (d.saStored k).ciph = { d.ciph with sas := mapPut d.ciph.sas k d.windowSa } := rfl

theorem Dev.busy_saStored (d : Dev) (k : Nat) : (d.saStored k).get ⟨0x700200, 16, 1⟩ = d.get ⟨0x700200, 16, 1⟩ := by
  rw [Dev.saStored, Dev.get_set_apart _ _ _ _ (by decide), Dev.storeSa, Dev.ddrWrite_get]
  rfl

/-- One more pinned SA is counted, where there was room for it. -/
theorem Dev.pinned_saStored {d : Dev} (k : Nat) (h : d.get F.CIPH_CACHE_STATUS_PINNED < 16384) :
    (d.saStored k).get F.CIPH_CACHE_STATUS_PINNED = d.get F.CIPH_CACHE_STATUS_PINNED + recGet (d.winRec ciphWin 256) SAR.PIN := by
  have hpin : recGet (d.winRec ciphWin 256) SAR.PIN < 2 ^ 1 := Nat.mod_lt _ (by decide)
  have hmax : F.CIPH_CACHE_STATUS_PINNED.width = 15 := rfl
  rw [Dev.saStored, Dev.get_set_self _ _ _ (by decide), hmax]
  exact Nat.mod_eq_of_lt (by omega)

section
variable {s : State} {k : Nat} (h : s.dev.IndReady 0x700200) (hk : k < 1048576) (hfree : mapGet s.dev.ciph.sas k = none)
include h hk hfree

theorem saWrite_range (hr : saOutOfRange (s.dev.winRec ciphWin 256) = true) :
    Yields (.saWrite k) s (fun d => d.IndBusy 0x700200 3 ∧ d.ciph = s.dev.ciph.keyless) := by
  refine .of_saKeyed h hk rfl (fun b hb => ⟨b, ?_, hb.busy, congrArg Ciph.keyless hb.ciph⟩) (fun _ _ he => he)
  simp only [hb.ciph, hb.winRec, hfree, hr, Option.isSome_none, Bool.false_eq_true, if_false, if_true, IndResult.code]

variable (hr : saOutOfRange (s.dev.winRec ciphWin 256) = false)
include hr

theorem saWrite_noKey (hl : s.dev.ciph.keyLoaded = false) :
    Yields (.saWrite k) s (fun d => d.IndBusy 0x700200 7 ∧ d.ciph = s.dev.ciph.keyless) := by
  refine .of_saKeyed h hk rfl (fun b hb => ⟨b, ?_, hb.busy, congrArg Ciph.keyless hb.ciph⟩) (fun _ _ he => he)
  simp only [hb.ciph, hb.winRec, hfree, hr, hl, Option.isSome_none, Bool.false_eq_true, Bool.not_false, if_false, if_true, noKey]

/-- A WRITE with a loaded key and its fields in range makes the SA of the window ACTIVE. -/
theorem saWrite_stores (hl : s.dev.ciph.keyLoaded = true) (hp : s.dev.get F.CIPH_CACHE_STATUS_PINNED < 16384)
    (hroom : s.dev.ciph.cachedSas.length < 65536) :
    Yields (.saWrite k) s (fun d => d.IndBusy 0x700200 0 ∧ d.ciph = { s.dev.ciph.keyless with sas := mapPut s.dev.ciph.sas k s.dev.windowSa } ∧
      d.get F.CIPH_CACHE_STATUS_PINNED = s.dev.get F.CIPH_CACHE_STATUS_PINNED + recGet (s.dev.winRec ciphWin 256) SAR.PIN) := by
  refine .of_saKeyed h hk rfl (fun b hb => ⟨b.saStored k, ?_, (b.busy_saStored k).trans hb.busy, ?_, ?_⟩) (fun _ _ he => he)
  · have hkept : (b.saStored k).evictSa = b.saStored k :=
      Dev.evictSa_room (by rw [Dev.ciph_saStored, hb.ciph]; exact Ciph.cachedSas_put_le hroom k _)
    rw [if_neg (by simp [hb.ciph, hfree]), if_neg (by simp [hb.winRec, hr]), if_neg (by simp [hb.ciph, hl]), if_neg (by rw [hb.pinned]; omega)]
    exact congrArg (fun e => (e, 0)) hkept
  · have hsa : b.windowSa = s.dev.windowSa := by simp only [Dev.windowSa, hb.winRec, hb.ciph]
    change { (b.saStored k).ciph with keyWin := List.replicate 64 0, keyLoaded := false } = _
    rw [Dev.ciph_saStored, hsa, hb.ciph]
    rfl
  · have hpinned := Dev.pinned_saStored (d := b) k (by rwa [hb.pinned])
    rwa [hb.pinned, hb.winRec] at hpinned

end

/-! ## TEMPLATE_READ and TEMPLATE_WRITE (R193, R221) -/

/-- A record of a table without a reserve is staged with its reserved bits 0, and of the registers only the mark of a changed shadow set is written
(R157). -/
theorem Dev.stageRec_without_reserve (d : Dev) {tab k : Nat} (h : reserveOf tab k = none) (r : Rec) (log : List Byte) :
    ∃ e, d.stageRec tab k (some r) log = (e, true) ∧ (∀ g, F.HED_SHADOW_STATUS_CHANGED.apart g = true → e.get g = d.get g) ∧
      e.cfg.active = d.cfg.active ∧ e.cfg.shadow.record tab k = keepRec tab r := by
  simp only [Dev.stageRec, h, Option.map_some]
  refine ⟨_, rfl, fun g hg => Dev.get_set_apart _ _ _ _ hg, rfl, ?_⟩
  change mapGetD (mapPut _ _ _) _ 0 = _
  simp only [mapGetD, mapGet_mapPut_self, Option.getD_some]

section
variable {s : State} {k : Nat} (h : s.dev.IndReady 0x700200) (hk : k < 16384)
include h hk

theorem templateRead_shows (x : Nat) : Yields (.templateRead x k) s (fun d => d.IndBusy 0x700200 0 ∧
    d.words ciphWin 64 = ((s.dev.setBy x).record Tab.template k).toNat ∧ d.cfg = s.dev.cfg) := by
  refine .of_ciphAction h rfl (fun b hb => ?_) (fun e m ⟨hw, hc⟩ => ⟨(e.words_withInd m _ _).trans hw, hc⟩)
  have hset : b.setBy x = s.dev.setBy x := by rw [Dev.setBy, Dev.setBy, hb.cfg]
  obtain ⟨hbusy, hwords, -, hcfg⟩ := b.showRec_ciphWin ((s.dev.setBy x).record Tab.template k)
  refine ⟨_, ?_, hbusy.trans hb.busy, hwords, hcfg.trans hb.cfg⟩
  rw [if_neg (Nat.not_le.mpr hk), hset]
  rfl

theorem templateWrite_stages : Yields (.templateWrite 0 k) s (fun d => d.IndBusy 0x700200 0 ∧ d.cfg.active = s.dev.cfg.active ∧
    d.cfg.shadow.record Tab.template k = keepRec Tab.template (BitVec.ofNat 2048 ((s.dev.winRec ciphWin 256).toNat % 2 ^ 1088))) := by
  refine .of_ciphAction h rfl (fun b hb => ?_) (fun _ _ he => he)
  obtain ⟨e, hstage, hget, hactive, hrec⟩ := b.stageRec_without_reserve (tab := Tab.template) (k := k) rfl
    (BitVec.ofNat 2048 ((s.dev.winRec ciphWin 256).toNat % 2 ^ 1088)) _
  refine ⟨e, ?_, (hget _ (by decide)).trans hb.busy, hactive.trans (congrArg Cfg.active hb.cfg), hrec⟩
  rw [if_neg (Nat.not_le.mpr hk), hb.winRec, Dev.indWrite, if_neg Nat.zero_ne_one, hstage]
  rfl

theorem templateWrite_active : Yields (.templateWrite 1 k) s (fun d => d.IndBusy 0x700200 5 ∧ d.cfg = s.dev.cfg) := by
  refine .of_ciphAction h rfl (fun b hb => ⟨b, ?_, hb.busy, hb.cfg⟩) (fun _ _ he => he)
  rw [if_neg (Nat.not_le.mpr hk), Dev.indWrite, if_pos rfl]
  rfl

end

/-! ## KEY_WRITE (R201) -/

theorem keyWrite_patches {s : State} {o : Nat} (v : Word) (h : s.dev.Live) (ho : o < 64) : Yields (.keyWrite o v) s (fun d =>
    d = { s.dev with ciph := { s.dev.ciph with keyWin := patchBytes s.dev.ciph.keyWin (o / 4 * 4) (leBytes 4 v.toNat), keyLoaded := true } }) := by
  refine .of _ (if_neg ?_) rfl
  simp [h.responds, ho]

/-! ## SA_FETCH_DONE (R198, R369) -/

/-- What a DDR5 read finds leaves the cipher unit. -/
theorem Dev.ciph_dramUncorrected (d : Dev) (addr row kind : Nat) : (d.dramUncorrected addr row kind).ciph = d.ciph := by
  have hlog : ∀ e : Dev, (e.dramLog addr kind).ciph = e.ciph := fun e => by
    obtain ⟨w, hw⟩ := e.logPut_eq 0xF0001C 0xF01000 4 _
    rw [Dev.dramLog, hw]
  have hfault : ∀ e : Dev, (e.fault Code.dramUncorr 9 (row % 2 ^ 16)).ciph = e.ciph := fun e => by
    obtain ⟨w, hw⟩ := e.fault_eq Code.dramUncorr 9 (row % 2 ^ 16) 0
    rw [hw]
  have hrepair : ∀ e : Dev, (e.scheduleRepair row).ciph = e.ciph := fun e => by
    rw [Dev.scheduleRepair]
    split <;> rfl
  rw [Dev.dramUncorrected, hrepair]
  split
  · rw [Dev.count_ciph, hfault, hlog]
    rfl
  · rw [Dev.modDram_ciph, hfault, hlog]
    rfl

/-- The cipher unit with a fetch ended. -/
def Ciph.fetchEnded (c : Ciph) (k : Nat) : Ciph := { c with fetching := c.fetching.filter (fun j => j != k), useCount := c.useCount + 1 }

theorem Ciph.not_mem_fetchEnded (c : Ciph) (k : Nat) : k ∉ (c.fetchEnded k).fetching := by simp [Ciph.fetchEnded]

/-- The device with a fetch ended and its row of DDR5 opened. -/
def Dev.saFetched (d : Dev) (k : Nat) : Dev := (d.modCiph (fun c => c.fetchEnded k)).activate

section
variable {s : State} {k : Nat} {a : Sa} (addr row : Nat) (hf : s.dev.ciph.fetching.contains k = true) (ha : mapGet s.dev.ciph.sas k = some a)
include hf ha

theorem exec_saFetchDone_good : exec (.saFetchDone k 0 addr row) s =
    done s ((s.dev.saFetched k).putSa k { a with cached := true, used := s.dev.ciph.useCount + 1 }).evictSa := by
  change execSaFetchDone k 0 addr row s = _
  simp only [execSaFetchDone, hf, Bool.not_true, Bool.false_eq_true, if_false]
  rw [if_neg (by decide)]
  split
  next hnone => exact absurd (hnone.symm.trans ha) (by simp)
  next b hb =>
    obtain rfl : b = a := Option.some.inj (hb.symm.trans ha)
    rfl

/-- An SA whose words are good enters the cache. -/
theorem saFetchDone_caches (hroom : s.dev.ciph.cachedSas.length < 65536) : Yields (.saFetchDone k 0 addr row) s (fun d => k ∉ d.ciph.fetching ∧
    mapGet d.ciph.sas k = some { a with cached := true, used := s.dev.ciph.useCount + 1 } ∧ SameWordsBut [] d s.dev) := by
  have hexec := exec_saFetchDone_good addr row hf ha
  rw [Dev.evictSa_room (Ciph.cachedSas_put_le (c := s.dev.ciph.fetchEnded k) hroom k _)] at hexec
  exact .of _ hexec ⟨s.dev.ciph.not_mem_fetchEnded k, mapGet_mapPut_self _ _ _, fun _ _ => rfl⟩

omit ha in
theorem exec_saFetchDone_bad : exec (.saFetchDone k 2 addr row) s = done s ((s.dev.saFetched k).dramUncorrected addr row 1) := by
  change execSaFetchDone k 2 addr row s = _
  simp only [execSaFetchDone, hf]
  rfl

/-- An SA with a word known bad stays out of the cache. -/
theorem saFetchDone_bad : Yields (.saFetchDone k 2 addr row) s (fun d => k ∉ d.ciph.fetching ∧ mapGet d.ciph.sas k = some a) := by
  refine .of _ (exec_saFetchDone_bad addr row hf) ?_
  rw [Dev.ciph_dramUncorrected]
  exact ⟨s.dev.ciph.not_mem_fetchEnded k, ha⟩

end

end Sys2Proof.Machine
end

section
/-! PROOFS. The random generator (R218 to R220), and the statement on the SA store, the key window and the random generator (R198, R200 to R202, R212,
R217 to R221). -/
namespace Sys2Proof.Machine
open Sys2Proof

/-! ## Parts of the commands -/

theorem Dev.drbgReady_iff (d : Dev) : d.drbgReady = true ↔ d.get F.CIPH_STATUS_DRBG_READY = 1 := beq_iff_eq

/-- A generator that does not run. -/
theorem Dev.drbgReady_eq_false {d : Dev} (h : d.get F.CIPH_STATUS_DRBG_READY = 0) : d.drbgReady = false := by
  simp [Dev.drbgReady, Dev.flag, h]

/-- A judged pause leaves the cipher unit. -/
theorem Dev.PauseOnly.ciph {d e : Dev} (h : d.PauseOnly e) : e.ciph = d.ciph := by
  obtain ⟨⟨p, o, rfl⟩, -⟩ := h
  rfl

/-- A SAVE that does not wait for its nonce goes on without the generator. -/
theorem Dev.saveResume_none {d : Dev} (h : d.hif.nonceDue = false) : d.saveResume = d := by
  simp only [Dev.saveResume, h, Bool.false_and, Bool.false_eq_true, if_false]
  split <;> rfl

/-! ## RNG_READ (R220) -/

section
variable {s : State}

theorem rngRead_fresh (hl : s.dev.Live) (hr : s.dev.get F.CIPH_STATUS_DRBG_READY = 1) : Yields .rngRead s (fun d =>
    d.out = s.dev.out ++ [.readData ((Config.freeValue s.dev.free).toNat % 2 ^ 32)] ∧ d.free = s.dev.free + 1 ∧
    d.ciph.requests = (if s.dev.ciph.requests + 1 < 2 ^ 20 then s.dev.ciph.requests + 1 else 0) ∧ d.bus = s.dev.bus) := by
  have hexec : exec .rngRead s = done s ((s.dev.fresh.2.drbgUsed 1).emit (.readData ((Config.freeValue s.dev.free).toNat % 2 ^ 32))) := by
    change execRngRead s = _
    simp only [execRngRead, hl.responds, (s.dev.drbgReady_iff).mpr hr]
    rfl
  refine .of _ hexec ⟨rfl, rfl, ?_, rfl⟩
  change (if s.dev.ciph.requests + 1 ≥ 2 ^ 20 then 0 else s.dev.ciph.requests + 1) = _
  split
  next h => rw [if_neg (Nat.not_lt.mpr h)]
  next h => rw [if_pos (Nat.not_le.mp h)]

section
variable (hr : s.dev.get F.CIPH_STATUS_DRBG_READY = 0)
include hr

theorem rngRead_empty (hl : s.dev.Live) : Yields .rngRead s (fun d =>
    d.out = s.dev.out ++ [.readData 0] ∧ d.get F.CIPH_EVENT_RNG_EMPTY = 1 ∧ d.ciph = s.dev.ciph) := by
  have hexec : exec .rngRead s = done s ((s.dev.raise F.CIPH_EVENT_RNG_EMPTY).emit (.readData 0)) := by
    change execRngRead s = _
    simp only [execRngRead, hl.responds, Dev.drbgReady_eq_false hr]
    rfl
  exact .of _ hexec ⟨rfl, (Dev.emit_get _ _ _).trans (Dev.get_raise_self _ _ (by decide) (by decide)), rfl⟩

/-! ## ENTROPY_RETEST, ENTROPY_HEALTH_FAIL, DRBG_RESEED and MASK_RESEED (R218 to R220) -/

theorem entropyRetest_passes (hl : s.dev.Live) (hn : s.dev.hif.nonceDue = false) (hq : s.dev.hif.faulted = []) : Yields (.entropyRetest true) s (fun d =>
    d.get F.CIPH_STATUS_DRBG_READY = 1 ∧ d.get F.CIPH_STATUS_ENTROPY_OK = 1 ∧ d.ciph.requests = 0 ∧ d.ciph.unseeded = []) := by
  obtain ⟨-, -, hready⟩ := hl
  have hexec : exec (.entropyRetest true) s = doneH s s.dev.drbgSeed.saveResume := if_neg (by simp [Dev.drbgReady_eq_false hr, hready])
  rw [Dev.saveResume_none (d := s.dev.drbgSeed) hn] at hexec
  refine .of_doneH _ hexec hq (fun e he => ⟨(he.get _).trans ?_, (he.get _).trans ?_, ?_, ?_⟩)
  · exact Dev.get_set_self _ _ _ (by decide)
  · exact (Dev.get_set_apart _ _ _ _ (by decide)).trans (Dev.get_set_self _ _ _ (by decide))
  all_goals
    rw [he.ciph]
    rfl

omit hr in
theorem entropyRetest_fails : Yields (.entropyRetest false) s (fun d => d = s.dev) := .of _ rfl rfl

theorem drbgReseed_idle : Yields .drbgReseed s (fun d => d = s.dev) := .of _ (if_pos (by simp [Dev.drbgReady_eq_false hr])) rfl

theorem maskReseed_waits (lane : Nat) : Yields (.maskReseed lane) s (fun d => lane ∈ d.ciph.unseeded ∧ d.bus = s.dev.bus) := by
  refine .of _ rfl ?_
  simp [Dev.drbgReady_eq_false hr]

end

section
variable (hr : s.dev.get F.CIPH_STATUS_DRBG_READY = 1)
include hr

theorem drbgReseed_clears : Yields .drbgReseed s (fun d => d = { s.dev with ciph := { s.dev.ciph with requests := 0 } }) :=
  .of _ (if_neg (by simp [(s.dev.drbgReady_iff).mpr hr])) rfl

theorem maskReseed_seeds (lane : Nat) : Yields (.maskReseed lane) s (fun d => lane ∉ d.ciph.unseeded ∧ d.bus = s.dev.bus) := by
  refine .of _ rfl ?_
  simp [(s.dev.drbgReady_iff).mpr hr, Dev.drbgUsed]

end

/-- The device with its generator stopped and the event raised. -/
def Dev.entropyFailed (d : Dev) : Dev := ((d.set F.CIPH_STATUS_ENTROPY_OK 0).set F.CIPH_STATUS_DRBG_READY 0).raise F.CIPH_EVENT_ENTROPY_FAIL

/-- A source that fails stops the generator, and is shown by its event, its fault code and its count (R220). -/
theorem entropyHealthFail_stops (ho : s.dev.get F.CIPH_STATUS_ENTROPY_OK = 1) : Yields .entropyHealthFail s (fun d =>
    d.get F.CIPH_STATUS_ENTROPY_OK = 0 ∧ d.get F.CIPH_STATUS_DRBG_READY = 0 ∧ d.get F.CIPH_EVENT_ENTROPY_FAIL = 1 ∧
    d.get ⟨0x1000020, Code.entropy, 1⟩ = 1 ∧ d.ctr K.CIPH_ENTROPY_FAIL = (s.dev.ctr K.CIPH_ENTROPY_FAIL + 1) % 2 ^ 64 ∧ d.ciph = s.dev.ciph) := by
  have hexec : exec .entropyHealthFail s = done s ((s.dev.entropyFailed.fault Code.entropy).count K.CIPH_ENTROPY_FAIL) := if_neg (by omega)
  have hget : ∀ f : Fld, f.addr < 0x1000020 → f.lo + f.width ≤ 32 →
      (s.dev.entropyFailed.fault Code.entropy).get f = s.dev.entropyFailed.get f := fun f ha hf =>
    Dev.get_eq_of_word_eq hf (Dev.word_fault _ _ _ _ ha)
  obtain ⟨w, hw⟩ := s.dev.entropyFailed.fault_eq Code.entropy 0 0 0
  refine .of _ hexec ⟨?ok, ?ready, ?event, ?code, ?count, ?ciph⟩
  case ok =>
    rw [Dev.count_get, hget _ (by decide) (by decide), Dev.entropyFailed, Dev.get_raise_apart _ _ _ (by decide), Dev.get_set_apart _ _ _ _ (by decide)]
    exact Dev.get_set_self _ _ _ (by decide)
  case ready =>
    rw [Dev.count_get, hget _ (by decide) (by decide), Dev.entropyFailed, Dev.get_raise_apart _ _ _ (by decide)]
    exact Dev.get_set_self _ _ _ (by decide)
  case event =>
    rw [Dev.count_get, hget _ (by decide) (by decide)]
    exact Dev.get_raise_self _ _ (by decide) (by decide)
  case code => exact Dev.raised_fault _ _ _ _ (by decide)
  case count =>
    rw [Dev.ctr_count_self, hw]
    rfl
  case ciph =>
    rw [Dev.count_ciph, hw]
    rfl

end

/-! ## The statement -/

/-- Settles O33: each operation on an SA by what its action makes of the store and of the key window, where its RESULT shows which case it met; the
fetch by what the cache holds; and the random generator by whether it runs. -/
theorem securityAssociationsLiveTheirStates : Obligations.SecurityAssociationsLiveTheirStates := by
  unfold Obligations.SecurityAssociationsLiveTheirStates
  refine ⟨fun s k h hk => ⟨?free, ?used⟩, ?write, ?template, fun s o v => keyWrite_patches v, ?fetch, ?rng,
    fun s => entropyHealthFail_stops, fun s lane => ⟨?runs, ?stopped⟩⟩
  case free =>
    exact fun hf => ⟨saRead_free h hk hf, saRetire_free h hk hf, saRekey_free h hk hf, saResync_free h hk hf⟩
  case used =>
    exact fun a ha => ⟨saRead_shows h hk ha, saWrite_busy h hk ha, saRetire_frees h hk ha, saRetire_keeps h hk ha, saRekey_stores h hk ha,
      saResync_restores h hk ha, fun ht => ⟨saRekey_range h hk ha ht, saResync_range h hk ha ht⟩⟩
  case write =>
    intro s k h hk hf
    refine ⟨saWrite_range h hk hf, saWrite_noKey h hk hf, fun hr hl hp hroom => (saWrite_stores h hk hf hr hl hp hroom).mono ?_⟩
    rintro d ⟨hbusy, hciph, hpinned⟩
    rw [hciph]
    exact ⟨hbusy, rfl, rfl, fun j hj => mapGet_mapPut_ne _ _ hj, hpinned, _, mapGet_mapPut_self _ _ _, rfl, rfl, rfl, rfl, rfl, rfl, rfl⟩
  case template =>
    exact fun s x k h _ hk => ⟨templateRead_shows h hk x, templateWrite_stages h hk, templateWrite_active h hk⟩
  case fetch =>
    exact fun s k addr row a hf ha => ⟨saFetchDone_caches addr row hf ha, saFetchDone_bad addr row hf ha⟩
  case rng =>
    exact fun s hl => ⟨rngRead_fresh hl, fun hr => ⟨rngRead_empty hr hl, entropyRetest_passes hr hl, entropyRetest_fails⟩⟩
  case runs => exact fun hr => ⟨drbgReseed_clears hr, maskReseed_seeds hr lane⟩
  case stopped => exact fun hr => ⟨drbgReseed_idle hr, maskReseed_waits hr lane⟩

end Sys2Proof.Machine
end

section
/-! PROOFS. Queue contexts through STOR's indirect registers (R161, R223, R224, R229, R236). -/
namespace Sys2Proof.Machine
open Sys2Proof

/-! ## An operation of STOR's indirect registers begun (R161) -/

/-- The device with an operation of STOR's indirect registers begun. -/
def Dev.storBegun (d : Dev) (op index : Nat) : Dev := d.indStarted 0x800100 op 0 0 index

section
variable (d : Dev) (op index : Nat)

theorem Dev.storBegun_busy : (d.storBegun op index).get ⟨0x800100, 16, 1⟩ = 1 := d.indStarted_busy _ _ _ _ _

theorem Dev.storBegun_validCtx (k : Nat) : (d.storBegun op index).validCtx k = d.validCtx k := rfl
theorem Dev.storBegun_ctxOf (flow : Nat) : (d.storBegun op index).ctxOf flow = d.ctxOf flow := rfl

/-- The data window is as it was. -/
theorem Dev.storBegun_winRec : (d.storBegun op index).winRec storWin 32 = d.winRec storWin 32 := by
  have hwords : (d.storBegun op index).words storWin (ceilDiv 32 4) = d.words storWin (ceilDiv 32 4) := Dev.words_congr (fun a ha _ => by
    simp only [storWin] at ha
    exact d.indStarted_word _ _ _ _ _ (by omega) (by omega))
  simp only [Dev.winRec, hwords]

variable {d op index} (h : d.IndReady 0x800100)
include h

/-- An operation on a context that exists acts on the device begun, and keeps its RESULT. -/
theorem Dev.storIndirect_acts {f : Dev → Dev × Nat} {e : Dev} {code : Nat} (hk : index < 16384) (he : f (d.storBegun op index) = (e, code)) :
    d.storIndirect op index f = { e with ind := mapPut e.ind 0x800100 code } := by
  rw [Dev.storBegun] at he
  rw [Dev.storIndirect, Dev.indirect_ready _ _ _ _ h]
  dsimp only
  rw [if_neg (Nat.not_le.mpr hk), he]

/-- An index that STOR does not have is out of range, whatever the operation. -/
theorem Dev.storIndirect_range (f : Dev → Dev × Nat) (hk : 16384 ≤ index) :
    d.storIndirect op index f = { d.storBegun op index with ind := mapPut (d.storBegun op index).ind 0x800100 3 } := by
  rw [Dev.storIndirect, Dev.indirect_ready _ _ _ _ h]
  dsimp only
  rw [if_pos hk]
  rfl

end

/-- An operation on a context yields BUSY, its RESULT, and what holds of the device that its action left. -/
theorem Yields.of_storAction {s : State} {c : Instr} {op k : Nat} {f : Dev → Dev × Nat} {e : Dev} {code : Nat} {P : Dev → Prop}
    (h : s.dev.IndReady 0x800100) (hk : k < 16384) (hexec : exec c s = done s (s.dev.storIndirect op k f))
    (he : f (s.dev.storBegun op k) = (e, code)) (hbusy : e.get ⟨0x800100, 16, 1⟩ = 1) (hp : P { e with ind := mapPut e.ind 0x800100 code }) :
    Yields c s (fun d => d.IndBusy 0x800100 code ∧ P d) := by
  rw [Dev.storIndirect_acts h hk he] at hexec
  exact .of _ hexec ⟨Dev.indBusy_put code hbusy, hp⟩

section
variable {s : State} {c : Instr} {op k : Nat} {f : Dev → Dev × Nat} (h : s.dev.IndReady 0x800100) (hk : k < 16384)
  (hexec : exec c s = done s (s.dev.storIndirect op k f))
include h hk hexec

/-- An operation that is refused leaves STOR. -/
theorem Yields.of_storRefused {code : Nat} (hact : f (s.dev.storBegun op k) = (s.dev.storBegun op k, code)) :
    Yields c s (fun d => d.IndBusy 0x800100 code ∧ d.stor = s.dev.stor) := .of_storAction h hk hexec hact (s.dev.storBegun_busy op k) rfl

/-- An operation that stores a context leaves the others. -/
theorem Yields.of_ctxStored (x : StorCtx) (hact : f (s.dev.storBegun op k) = ((s.dev.storBegun op k).putCtx k x, 0)) :
    Yields c s (fun d => d.IndBusy 0x800100 0 ∧ mapGet d.stor.ctxs k = some x ∧ ∀ j, j ≠ k → mapGet d.stor.ctxs j = mapGet s.dev.stor.ctxs j) :=
  .of_storAction h hk hexec hact (s.dev.storBegun_busy op k) ⟨mapGet_mapPut_self _ _ _, fun _ hj => mapGet_mapPut_ne _ _ hj⟩

end

/-! ## What a judged pause leaves (R69) -/

namespace Dev.PauseOnly
variable {d e : Dev} (h : d.PauseOnly e)
include h

theorem stor : e.stor = d.stor := by obtain ⟨⟨p, o, rfl⟩, -⟩ := h; rfl
theorem ind : e.ind = d.ind := by obtain ⟨⟨p, o, rfl⟩, -⟩ := h; rfl

theorem indBusy {ctrl code : Nat} (hb : d.IndBusy ctrl code) : e.IndBusy ctrl code := by
  obtain ⟨hbusy, hcode⟩ := hb
  exact ⟨(h.get _).trans hbusy, by rw [h.ind, hcode]⟩

end Dev.PauseOnly

/-! ## STOR_READ, RESYNC_RX and RESYNC_TX (R224, R229, R236) -/

/-- A record shown in the data window is read back, and leaves BUSY and the contexts. -/
theorem Dev.showRec_storWin (d : Dev) (r : Rec) : (d.showRec storWin 32 r).get ⟨0x800100, 16, 1⟩ = d.get ⟨0x800100, 16, 1⟩ ∧
    (d.showRec storWin 32 r).words storWin 8 = r.toNat % 2 ^ 256 ∧ (d.showRec storWin 32 r).stor = d.stor := by
  rw [Dev.showRec, show 8 * 32 = 256 by decide, show ceilDiv 32 4 = 8 by decide]
  refine ⟨Dev.get_putWords_outside _ _ _ _ (by decide) (.inl (by decide)), ?_, ?_⟩
  · rw [Dev.words_putWords, show 32 * 8 = 256 by decide, Nat.mod_mod]
  · obtain ⟨w, hw⟩ := d.putWords_eq storWin 8 (r.toNat % 2 ^ 256)
    rw [hw]

section
variable {s : State} {k : Nat} (h : s.dev.IndReady 0x800100) (hk : k < 16384)
include h hk

section
variable {c : StorCtx} (hc : s.dev.validCtx k = some c)
include hc

theorem storRead_shows_context : Yields (.storRead k) s (fun d =>
    d.IndBusy 0x800100 0 ∧ d.words storWin 8 = c.show.toNat % 2 ^ 256 ∧ d.stor = s.dev.stor) := by
  obtain ⟨hbusy, hwords, hstor⟩ := (s.dev.storBegun 0 k).showRec_storWin c.show
  refine .of_storAction h hk rfl ?_ (hbusy.trans (s.dev.storBegun_busy 0 k)) ⟨(Dev.words_withInd _ _ _ _).trans hwords, hstor⟩
  simp only [Dev.storBegun_validCtx, hc]

theorem resyncRx_resyncs : Yields (.resyncRx k) s (fun d => d.IndBusy 0x800100 0 ∧ mapGet d.stor.ctxs k =
    some { c with sync := true, rxSeq := recGet (s.dev.winRec storWin 32) QC.RX_SEQ, pdu := [], pduAt := 0, data := [] }) := by
  refine (Yields.of_ctxStored h hk rfl { c with sync := true, rxSeq := recGet (s.dev.winRec storWin 32) QC.RX_SEQ, pdu := [], pduAt := 0, data := [] } ?_).mono
    (fun _ ⟨hbusy, hput, _⟩ => ⟨hbusy, hput⟩)
  simp only [Dev.storBegun_validCtx, Dev.storBegun_winRec, hc]

theorem resyncTx_resyncs : Yields (.resyncTx k) s (fun d => d.IndBusy 0x800100 0 ∧ mapGet d.stor.ctxs k =
    some { c with txSeq := recGet (s.dev.winRec storWin 32) QC.TX_SEQ, txPdu := [], txAt := 0, txData := [] }) := by
  refine (Yields.of_ctxStored h hk rfl { c with txSeq := recGet (s.dev.winRec storWin 32) QC.TX_SEQ, txPdu := [], txAt := 0, txData := [] } ?_).mono
    (fun _ ⟨hbusy, hput, _⟩ => ⟨hbusy, hput⟩)
  simp only [Dev.storBegun_validCtx, Dev.storBegun_winRec, hc]

theorem storWrite_in_use : Yields (.storWrite k) s (fun d => d.IndBusy 0x800100 4 ∧ d.stor = s.dev.stor) := by
  refine .of_storRefused h hk rfl ?_
  simp only [Dev.storBegun_validCtx, hc, Option.isSome_some, if_true]

end

section
variable (hc : s.dev.validCtx k = none)
include hc

theorem storRead_not_found : Yields (.storRead k) s (fun d => d.IndBusy 0x800100 1 ∧ d.words storWin 8 = 0 ∧ d.stor = s.dev.stor) := by
  obtain ⟨hbusy, hwords, hstor⟩ := (s.dev.storBegun 0 k).showRec_storWin 0
  rw [show (0 : Rec).toNat = 0 from BitVec.toNat_zero, Nat.zero_mod] at hwords
  refine .of_storAction h hk rfl ?_ (hbusy.trans (s.dev.storBegun_busy 0 k)) ⟨(Dev.words_withInd _ _ _ _).trans hwords, hstor⟩
  simp only [Dev.storBegun_validCtx, hc]

theorem resyncRx_not_found : Yields (.resyncRx k) s (fun d => d.IndBusy 0x800100 1 ∧ d.stor = s.dev.stor) := by
  refine .of_storRefused h hk rfl ?_
  simp only [Dev.storBegun_validCtx, hc]

theorem resyncTx_not_found : Yields (.resyncTx k) s (fun d => d.IndBusy 0x800100 1 ∧ d.stor = s.dev.stor) := by
  refine .of_storRefused h hk rfl ?_
  simp only [Dev.storBegun_validCtx, hc]

/-! ## STOR_WRITE of an index without a valid context (R223, R236) -/

variable {r : Rec} (hr : r = ctxWritable (s.dev.winRec storWin 32)) (hv : recGet r QC.VALID = 1)
include hr hv

theorem storWrite_range (hbad : recGet r QC.FLOW_ID = 0 ∨ recGet r QC.CID_LOG2 < 4 ∨ 12 < recGet r QC.CID_LOG2) :
    Yields (.storWrite k) s (fun d => d.IndBusy 0x800100 3 ∧ d.stor = s.dev.stor) := by
  refine .of_storRefused h hk rfl ?_
  dsimp only
  rw [Dev.storBegun_validCtx, hc, Dev.storBegun_winRec, ← hr, if_neg (by decide), if_neg (by omega), if_pos hbad]

variable (hf : recGet r QC.FLOW_ID ≠ 0) (hlo : 4 ≤ recGet r QC.CID_LOG2) (hhi : recGet r QC.CID_LOG2 ≤ 12)
include hf hlo hhi

theorem storWrite_flow_taken (htaken : (s.dev.ctxOf (recGet r QC.FLOW_ID)).isSome = true) :
    Yields (.storWrite k) s (fun d => d.IndBusy 0x800100 4 ∧ d.stor = s.dev.stor) := by
  refine .of_storRefused h hk rfl ?_
  dsimp only
  rw [Dev.storBegun_validCtx, hc, Dev.storBegun_winRec, ← hr, if_neg (by decide), if_neg (by omega), if_neg (by omega),
    Dev.storBegun_ctxOf, if_pos htaken]

/-- A context stored in step, each stream at the start of a PDU header. -/
theorem storWrite_stores (hfree : s.dev.ctxOf (recGet r QC.FLOW_ID) = none) : Yields (.storWrite k) s (fun d => d.IndBusy 0x800100 0 ∧
    (∀ j, j ≠ k → mapGet d.stor.ctxs j = mapGet s.dev.stor.ctxs j) ∧ ∃ c, mapGet d.stor.ctxs k = some c ∧ c.record = r ∧ c.sync = true ∧
      c.rxSeq = recGet r QC.RX_SEQ ∧ c.txSeq = recGet r QC.TX_SEQ ∧ c.pdu = [] ∧ c.txPdu = []) := by
  refine (Yields.of_ctxStored h hk rfl { record := r, sync := true, rxSeq := recGet r QC.RX_SEQ, txSeq := recGet r QC.TX_SEQ } ?_).mono
    (fun _ ⟨hbusy, hput, hkept⟩ => ⟨hbusy, hkept, _, hput, rfl, rfl, rfl, rfl, rfl, rfl⟩)
  dsimp only
  rw [Dev.storBegun_validCtx, hc, Dev.storBegun_winRec, ← hr, if_neg (by decide), if_neg (by omega), if_neg (by omega),
    Dev.storBegun_ctxOf, hfree, if_neg (by decide)]

end
end

end Sys2Proof.Machine
end

section
/-! PROOFS. STOR_DELETE and the end of a command table entry's reads (R227, R231, R236), and the statement on queue contexts (R223, R224, R227, R229,
R231, R236). -/
namespace Sys2Proof.Machine
open Sys2Proof

/-! ## A context dropped (R228, R231) -/

/-- No shuttle stands at STOR. -/
def Dev.NoneAtStor (d : Dev) : Prop := ∀ p ∈ d.shuts, p.2.stage ≠ .stor

theorem Shut.stage_storSay (s : Shut) (r : Nat) : (s.storSay r).stage = s.stage := by
  unfold Shut.storSay
  split <;> rfl

section
variable (d : Dev) (k : Nat)

/-- Losing held bytes writes cached entries and counts alone. -/
theorem Dev.loseHeld_eq : ∃ cids ctr, d.loseHeld k = { d with stor := { d.stor with cids := cids }, bus := { d.bus with ctr := ctr } } := by
  rw [Dev.loseHeld]
  generalize d.stor.cids.filter _ = l
  induction l generalizing d with
  | nil => exact ⟨_, _, rfl⟩
  | cons p t ih => exact ih _

/-- A context that loses SYNC leaves the other contexts; beside it, cached entries and counts alone are written. -/
theorem Dev.clearSync_eq : ∃ ctxs cids ctr, (∀ j, j ≠ k → mapGet ctxs j = mapGet d.stor.ctxs j) ∧
    d.clearSync k false = { d with stor := { d.stor with ctxs := ctxs, cids := cids }, bus := { d.bus with ctr := ctr } } := by
  rw [Dev.clearSync]
  split
  · exact ⟨_, _, _, fun _ _ => rfl, rfl⟩
  next c hc =>
    obtain ⟨cids, ctr, hlost⟩ := (d.putCtx k c.lost).loseHeld_eq k
    exact ⟨_, cids, ctr, fun j hj => mapGet_mapPut_ne d.stor.ctxs c.lost hj, hlost⟩

/-- What dropping a context leaves: nothing is cached or fetched for it, the other contexts stand, and neither registers nor stages of shuttles have
changed. -/
structure Dev.CtxDropped (d : Dev) (k : Nat) (e : Dev) : Prop where
  ctxs : ∀ j, j ≠ k → mapGet e.stor.ctxs j = mapGet d.stor.ctxs j
  cached : ∀ j, j / 65536 = k → mapGet e.stor.cids j = none ∧ mapGet e.stor.data j = none ∧ j ∉ e.stor.fetching
  get : ∀ f, e.get f = d.get f
  faulted : e.hif.faulted = d.hif.faulted
  noneAtStor : d.NoneAtStor → e.NoneAtStor

theorem Dev.ctxDropped_storDrop : d.CtxDropped k (d.storDrop k) := by
  obtain ⟨ctxs, cids, ctr, hctxs, hclear⟩ := d.clearSync_eq k
  refine ⟨?ctxs, fun j hj => ?cached, ?get, ?faulted, fun hnone => ?stages⟩
  all_goals simp only [Dev.storDrop, hclear]
  case ctxs => exact hctxs
  case cached =>
    refine ⟨?_, ?_, ?_⟩
    · exact (mapGet_filter_key (fun a => a / 65536 != k) _ j).trans (if_neg (by simp [hj]))
    · exact (mapGet_filter_key (fun a => a / 65536 != k) _ j).trans (if_neg (by simp [hj]))
    · simp [Dev.dropCids, hj]
  case get => exact fun _ => rfl
  case faulted => rfl
  case stages =>
    intro p hp
    obtain ⟨q, hq, rfl⟩ := List.mem_map.mp hp
    have hstage := hnone q hq
    split
    · rwa [Shut.stage_storSay]
    · exact hstage

end

/-- With no shuttle at STOR there is nothing to try again. -/
theorem Dev.storRetry_none {d : Dev} (h : d.NoneAtStor) : d.storRetry = d := by
  have hnone : d.shuts.filter (fun (p : Nat × Shut) => p.2.stage == .stor && p.2.dropReason.isNone && !p.2.storEnd) = [] :=
    List.filter_eq_nil_iff.mpr (fun p hp => by simp [h p hp])
  rw [Dev.storRetry, hnone]
  rfl

/-- With no shuttle at STOR none waits for an entry. -/
theorem Dev.storWaiting_none {d : Dev} (h : d.NoneAtStor) (key : Nat) : d.storWaiting key = [] := by
  rw [Dev.storWaiting, List.filter_eq_nil_iff.mpr (fun p hp => by simp [h p hp])]
  rfl

/-! ## STOR_DELETE (R231, R236) -/

/-- The device with a context deleted. -/
def Dev.ctxDeleted (d : Dev) (k : Nat) : Dev := (d.storDrop k).modStor (fun x => { x with ctxs := mapErase x.ctxs k })

section
variable {s : State} {k : Nat} (h : s.dev.IndReady 0x800100) (hk : k < 16384) (hq : s.dev.hif.faulted = [])
include h hk hq

theorem storDelete_not_found (hc : s.dev.validCtx k = none) : Yields (.storDelete k) s (fun d => d.IndBusy 0x800100 1 ∧ d.stor = s.dev.stor) := by
  have hexec : exec (.storDelete k) s = doneH s (s.dev.storIndirect 2 k _) := rfl
  rw [Dev.storIndirect_acts h hk (e := s.dev.storBegun 2 k) (code := 1) (by simp only [Dev.storBegun_validCtx, hc])] at hexec
  exact .of_doneH _ hexec hq (fun e he => ⟨he.indBusy (Dev.indBusy_put 1 (s.dev.storBegun_busy 2 k)), he.stor⟩)

/-- A DELETE takes a valid context and its cached entries away. -/
theorem storDelete_removes {c : StorCtx} (hc : s.dev.validCtx k = some c) (hs : s.dev.NoneAtStor) : Yields (.storDelete k) s (fun d =>
    d.IndBusy 0x800100 0 ∧ mapGet d.stor.ctxs k = none ∧ (∀ j, j ≠ k → mapGet d.stor.ctxs j = mapGet s.dev.stor.ctxs j) ∧
    ∀ j, j / 65536 = k → mapGet d.stor.cids j = none ∧ mapGet d.stor.data j = none ∧ j ∉ d.stor.fetching) := by
  have hdrop := (s.dev.storBegun 2 k).ctxDropped_storDrop k
  have hquiet : ((s.dev.storBegun 2 k).ctxDeleted k).storRetry = (s.dev.storBegun 2 k).ctxDeleted k := Dev.storRetry_none (hdrop.noneAtStor hs)
  have hexec : exec (.storDelete k) s = doneH s (s.dev.storIndirect 2 k _) := rfl
  rw [Dev.storIndirect_acts h hk (e := (s.dev.storBegun 2 k).ctxDeleted k) (code := 0)
    (by simp only [Dev.storBegun_validCtx, hc]; exact congrArg (·, 0) hquiet)] at hexec
  refine .of_doneH _ hexec (hdrop.faulted.trans hq) (fun e he => ⟨he.indBusy (Dev.indBusy_put 0 ?_), ?_⟩)
  · exact (hdrop.get _).trans (s.dev.storBegun_busy 2 k)
  · rw [he.stor]
    exact ⟨mapGet_mapErase_self _ _, fun j hj => (mapGet_mapErase_ne _ hj).trans (hdrop.ctxs j hj), hdrop.cached⟩

end

/-! ## An index of no context -/

theorem storOp_range {s : State} {k : Nat} {i : Instr} (h : s.dev.IndReady 0x800100) (hq : s.dev.hif.faulted = []) (hk : 16384 ≤ k)
    (hi : i ∈ ([.storRead k, .storWrite k, .storDelete k, .resyncRx k, .resyncTx k] : List Instr)) :
    Yields i s (fun d => d.IndBusy 0x800100 3 ∧ d.stor = s.dev.stor) := by
  have hdone : ∀ op f, exec i s = done s (s.dev.storIndirect op k f) → Yields i s (fun d => d.IndBusy 0x800100 3 ∧ d.stor = s.dev.stor) := by
    intro op f hexec
    rw [Dev.storIndirect_range h f hk] at hexec
    exact .of _ hexec ⟨Dev.indBusy_put 3 (s.dev.storBegun_busy op k), rfl⟩
  simp only [List.mem_cons, List.not_mem_nil, or_false] at hi
  obtain rfl | rfl | rfl | rfl | rfl := hi
  · exact hdone _ _ rfl
  · exact hdone _ _ rfl
  · have hexec : exec (.storDelete k) s = doneH s (s.dev.storIndirect 2 k _) := rfl
    rw [Dev.storIndirect_range h _ hk] at hexec
    exact .of_doneH _ hexec hq (fun e he => ⟨he.indBusy (Dev.indBusy_put 3 (s.dev.storBegun_busy 2 k)), he.stor⟩)
  · exact hdone _ _ rfl
  · exact hdone _ _ rfl

/-! ## CID_ENTRY_FETCH (R227) -/

/-- The first 32 bytes hold every field of an entry. -/
theorem ceN_take {b : List Byte} {off n : Nat} (h : off + n ≤ 32) : ceN (b.take 32) off n = ceN b off n := by
  refine congrArg leNat (List.map_congr_left (fun i hi => ?_))
  have hlt : off + i < 32 := by
    have := List.mem_range.mp hi
    omega
  rw [List.getD_eq_getElem?_getD, List.getD_eq_getElem?_getD, List.getElem?_take_of_lt hlt]

/-- A key names its CID. -/
theorem cidKey_mod (c cid : Nat) : cidKey c cid % 65536 = cid % 65536 := by
  rw [cidKey]
  omega

/-- The device with the reads of an entry ended. -/
def Dev.cidRead (d : Dev) (key : Nat) : Dev :=
  d.modStor (fun x => { x with fetching := x.fetching.filter (fun k => k != key), data := mapErase x.data key })

theorem Dev.not_mem_fetching_cidRead (d : Dev) (key : Nat) : key ∉ (d.cidRead key).stor.fetching := by simp [Dev.cidRead]

/-- An entry that nothing fetches. -/
theorem Dev.cidArrive_unfetched {d : Dev} {key : Nat} (hf : d.stor.fetching.contains key = false) : d.cidArrive key = d :=
  if_pos (by rw [hf]; rfl)

section
variable {d : Dev} {c cid : Nat} (hf : d.stor.fetching.contains (cidKey c cid) = true) (hlen : 32 ≤ (mapGetD d.stor.data (cidKey c cid) []).length)
  (hr : d.hif.reads = []) (hw : d.hif.waiting = []) (hq : d.hif.faulted = [])
include hf hlen hr hw hq

/-- An entry without VALID may not be used. -/
theorem Dev.cidArrive_invalid (hv : ceValid (mapGetD d.stor.data (cidKey c cid) []) = false) :
    d.cidArrive (cidKey c cid) = (d.cidRead (cidKey c cid)).noEntry (cidKey c cid) := by
  have hvalid : ceValid ((mapGetD d.stor.data (cidKey c cid) []).take 32) = false := by rwa [ceValid, ceN_take (by decide)]
  simp only [Dev.cidArrive, hf, hr, hw, hq, hvalid, Nat.not_lt.mpr hlen]
  rfl

/-- An entry with VALID that names its CID and has no list is cached. -/
theorem Dev.cidArrive_valid (hv : ceValid (mapGetD d.stor.data (cidKey c cid) []) = true)
    (hcid : ceN (mapGetD d.stor.data (cidKey c cid) []) 14 2 = cid % 65536) (hl : ceList (mapGetD d.stor.data (cidKey c cid) []) = false) :
    d.cidArrive (cidKey c cid) = (d.cidRead (cidKey c cid)).putCid (cidKey c cid) { bytes := (mapGetD d.stor.data (cidKey c cid) []).take 32 } := by
  have hvalid : ceValid ((mapGetD d.stor.data (cidKey c cid) []).take 32) = true := by rwa [ceValid, ceN_take (by decide)]
  have hlist : ceList ((mapGetD d.stor.data (cidKey c cid) []).take 32) = false := by rwa [ceList, ceN_take (by decide)]
  have hnames : ceN ((mapGetD d.stor.data (cidKey c cid) []).take 32) 14 2 = cidKey c cid % 65536 := by
    rw [ceN_take (by decide), hcid, cidKey_mod]
  simp only [Dev.cidArrive, hf, hr, hw, hq, hvalid, hlist, hnames, Nat.not_lt.mpr hlen]
  simp only [List.any_nil, List.contains_nil, Bool.not_true, Bool.not_false, Bool.or_self, Bool.false_eq_true, bne_self_eq_false, if_false, if_true]
  rfl

end

section
variable {s : State} {c cid : Nat} (hq : s.dev.hif.faulted = []) (hs : s.dev.NoneAtStor)
include hq hs

/-- A fetch's end yields what holds of the device that the entry's arrival leaves, where no shuttle moved and no access failed. -/
theorem Yields.of_cidArrive {e : Dev} {P : Dev → Prop} (he : s.dev.cidArrive (cidKey c cid) = e) (hshuts : e.shuts = s.dev.shuts)
    (hfaulted : e.hif = s.dev.hif) (p : ∀ t, e.PauseOnly t → P t) : Yields (.cidEntryFetch c cid) s P := by
  have hexec : exec (.cidEntryFetch c cid) s = doneH s (s.dev.cidArrive (cidKey c cid)).storRetry := rfl
  rw [he, Dev.storRetry_none (by rwa [Dev.NoneAtStor, hshuts])] at hexec
  exact .of_doneH _ hexec (by rw [hfaulted, hq]) p

theorem cidEntryFetch_idle (hf : s.dev.stor.fetching.contains (cidKey c cid) = false) :
    Yields (.cidEntryFetch c cid) s (fun d => d.stor = s.dev.stor ∧ d.bus = s.dev.bus) :=
  .of_cidArrive hq hs (Dev.cidArrive_unfetched hf) rfl rfl (fun _ ht => ⟨ht.stor, ht.bus⟩)

variable (hf : s.dev.stor.fetching.contains (cidKey c cid) = true) {b : List Byte} (hb : b = mapGetD s.dev.stor.data (cidKey c cid) [])
  (hlen : 32 ≤ b.length) (hr : s.dev.hif.reads = []) (hw : s.dev.hif.waiting = [])
include hf hb hlen hr hw

theorem cidEntryFetch_caches (hv : ceValid b = true) (hcid : ceN b 14 2 = cid % 65536) (hl : ceList b = false) :
    Yields (.cidEntryFetch c cid) s (fun d => mapGet d.stor.cids (cidKey c cid) = some { bytes := b.take 32 } ∧ cidKey c cid ∉ d.stor.fetching ∧
      mapGet d.stor.data (cidKey c cid) = none ∧ d.bus = s.dev.bus) := by
  subst hb
  refine .of_cidArrive hq hs (Dev.cidArrive_valid hf hlen hr hw hq hv hcid hl) rfl rfl (fun t ht => ?_)
  rw [ht.stor]
  exact ⟨mapGet_mapPut_self _ _ _, s.dev.not_mem_fetching_cidRead _, mapGet_mapErase_self _ _, ht.bus⟩

theorem cidEntryFetch_no_entry (hv : ceValid b = false) : Yields (.cidEntryFetch c cid) s (fun d => d.stor.cids = s.dev.stor.cids ∧
    cidKey c cid ∉ d.stor.fetching ∧ d.ctr K.STOR_NO_ENTRY = (s.dev.ctr K.STOR_NO_ENTRY + 1) % 2 ^ 64) := by
  subst hb
  have hnone : (s.dev.cidRead (cidKey c cid)).noEntry (cidKey c cid) = (s.dev.cidRead (cidKey c cid)).count K.STOR_NO_ENTRY := by
    have hwait : (s.dev.cidRead (cidKey c cid)).storWaiting (cidKey c cid) = [] := Dev.storWaiting_none hs _
    rw [Dev.noEntry, hwait]
    rfl
  refine .of_cidArrive hq hs ((Dev.cidArrive_invalid hf hlen hr hw hq hv).trans hnone) rfl rfl (fun t ht => ?_)
  rw [ht.stor, ht.ctr]
  exact ⟨rfl, s.dev.not_mem_fetching_cidRead _, Dev.ctr_count_self _ _ _⟩

end

/-! ## The statement -/

/-- Settles O35: each operation on a context by whether a valid one stands at its index, and the end of an entry's reads by what the entry says. -/
theorem storageContextsAreManaged : Obligations.StorageContextsAreManaged := by
  unfold Obligations.StorageContextsAreManaged
  refine ⟨fun s k h hk => ⟨?valid, ?absent, ?write⟩, fun s k i h hq hk hi => storOp_range h hq hk hi, ?fetch,
    fun s c cid hf hq hs => cidEntryFetch_idle hq hs hf⟩
  case valid =>
    exact fun c hc => ⟨storRead_shows_context h hk hc, storWrite_in_use h hk hc, fun hq hs => storDelete_removes h hk hq hc hs,
      resyncRx_resyncs h hk hc, resyncTx_resyncs h hk hc⟩
  case absent =>
    exact fun hc hq => ⟨storRead_not_found h hk hc, storDelete_not_found h hk hq hc, resyncRx_not_found h hk hc, resyncTx_not_found h hk hc⟩
  case write =>
    exact fun r hc hr hv => ⟨fun hf hlo hhi => ⟨storWrite_stores h hk hc hr hv hf hlo hhi, storWrite_flow_taken h hk hc hr hv hf hlo hhi⟩,
      storWrite_range h hk hc hr hv⟩
  case fetch =>
    exact fun s c cid b hf hb hlen hr hw hq hs => ⟨cidEntryFetch_caches hq hs hf hb hlen hr hw, cidEntryFetch_no_entry hq hs hf hb hlen hr hw⟩

end Sys2Proof.Machine
end

section
/-! PROOFS. CRC_STOP of a check-value unit that the module does not have (R233, R386): the statement on check-value units lets CRC_STOP name any unit,
and CRC_STOP itself looks only at who owns it. -/
namespace Sys2Proof.Machine
open Sys2Proof

/-- A module, 2^46 ns after Quartz read 0, whose state lists a RUNNING unit 262,144 of thread 0, for which spare 32 waits. Its CRC_STATUS would lie at
0x1001004, the word of entry 0 of FLT_LOG that holds the high half of the entry's time. -/
def runningBeyondUnits : State where
  dev := { ((({} : Dev).set (F.STOR_CRC_STATUS_STATE 262144) 1).modStor (fun x => { x with units := [(262144, { owner := some (0, 0) })] })) with
    time := { q := 2 ^ 46 * 65536 * unit16 }
    flt := { crcMoves := [(262144, 32, 1)] } }
  ddr := []
  pending := []

/-- The unit is made FREE, and the spare that takes it over then raises FLT_UNIT_SPARED, whose entry of FLT_LOG carries the time in that word: STATE
reads 1 again. -/
theorem runningBeyondUnits_state :
    shownAfter (.crcStop 262144 0 0) runningBeyondUnits (F.STOR_CRC_STATUS_STATE 262144) = some 1 := by decide +kernel

/-- Refutes O36: its clauses on a unit's owner bound no unit. STOP of a unit 262,144 does not leave it FREE, since the log entry of the spare that takes
it over is written where its STATE would lie. -/
theorem not_checkUnitsServeTheirOwner : ¬ Obligations.CheckUnitsServeTheirOwner := by
  unfold Obligations.CheckUnitsServeTheirOwner
  rintro ⟨-, -, -, howner, -⟩
  have howns : runningBeyondUnits.dev.crcOwns 262144 0 0 = true := by decide +kernel
  obtain ⟨-, hstop, -⟩ := howner runningBeyondUnits 262144 0 0 [] _ howns rfl
  obtain ⟨d, hshown, hfree, -⟩ := hstop.shown (F.STOR_CRC_STATUS_STATE 262144)
  rw [runningBeyondUnits_state, hfree] at hshown
  exact absurd hshown (by decide)

end Sys2Proof.Machine
end

section
/-! PROOFS. Reed's shapers (R247, R248) and gate lists (R250, R252). -/
namespace Sys2Proof.Machine
open Sys2Proof

/-! ## One refill of one shaper (R247) -/

/-- A shaper in use gains its rate up to its cap, and one that comes into use is full. -/
theorem refillOne_in_use (o : Shaper) {rate : Nat} (burst k : Nat) (h : rate ≠ 0) :
    refillOne (some o) rate burst k = some ⟨min ((burst * 2048 : Nat) : Int) (o.count + ((rate * k / 256 : Nat) : Int))⟩ ∧
    refillOne none rate burst k = some ⟨((burst * 2048 : Nat) : Int)⟩ := by
  simp only [refillOne, if_neg h, and_self]

/-- A shaper with RATE 0 is not in use. -/
theorem refillOne_unused (o : Option Shaper) (burst k : Nat) : refillOne o 0 burst k = none := rfl

/-! ## Every shaper of a kind refilled (R247) -/

/-- A table with an entry's value put at its key, where the entry has one. -/
def putIfSome {α β : Type} (f : Nat × β → Option α) (m : SMap α) (y : Nat × β) : SMap α :=
  match f y with
  | some v => mapPut m y.1 v
  | none => m

theorem mapGet_putIfSome_ne {α β : Type} (f : Nat × β → Option α) (m : SMap α) (y : Nat × β) {a : Nat} (h : a ≠ y.1) :
    mapGet (putIfSome f m y) a = mapGet m a := by
  unfold putIfSome
  split
  · exact mapGet_mapPut_ne _ _ h
  · rfl

theorem mapGet_putIfSome_self {α β : Type} (f : Nat × β → Option α) {m : SMap α} (y : Nat × β) (h : mapGet m y.1 = none) :
    mapGet (putIfSome f m y) y.1 = f y := by
  unfold putIfSome
  split <;> simp [*]

/-- Entries put one after another leave a key that none of them names. -/
theorem mapGet_foldl_putIfSome_absent {α β : Type} (f : Nat × β → Option α) (l : List (Nat × β)) {a : Nat} (h : ∀ y ∈ l, a ≠ y.1) (m : SMap α) :
    mapGet (l.foldl (putIfSome f) m) a = mapGet m a := by
  induction l generalizing m with
  | nil => rfl
  | cons y t ih =>
    rw [List.foldl_cons, ih (fun z hz => h z (.tail _ hz)), mapGet_putIfSome_ne f m y (h y (.head _))]

/-- Of entries with distinct keys each one's value is read at its key. -/
theorem mapGet_foldl_putIfSome {α β : Type} (f : Nat × β → Option α) {l : List (Nat × β)} (hl : (l.map Prod.fst).Nodup) {x : Nat × β} (hx : x ∈ l)
    {m : SMap α} (hm : mapGet m x.1 = none) : mapGet (l.foldl (putIfSome f) m) x.1 = f x := by
  induction l generalizing m with
  | nil => cases hx
  | cons y t ih =>
    rw [List.map_cons, List.nodup_cons] at hl
    obtain ⟨hfirst, hrest⟩ := hl
    rw [List.foldl_cons]
    rcases List.mem_cons.mp hx with rfl | ht
    · rw [mapGet_foldl_putIfSome_absent f t (fun z hz e => hfirst (List.mem_map.mpr ⟨z, hz, e.symm⟩)), mapGet_putIfSome_self f x hm]
    · have hne : x.1 ≠ y.1 := fun e => hfirst (List.mem_map.mpr ⟨x, ht, e⟩)
      exact ih hrest ht ((mapGet_putIfSome_ne f m y hne).trans hm)

theorem refillMap_eq (m : SMap Shaper) (l : List (Nat × Nat × Nat × Nat)) :
    refillMap m l = l.foldl (putIfSome (fun x => refillOne (mapGet m x.1) x.2.1 x.2.2.1 x.2.2.2)) [] := by
  unfold refillMap
  congr 1
  funext a x
  unfold putIfSome
  split <;> simp only [*]

/-- The shapers of a kind, where no two entries name the same one. -/
theorem mapGet_refillMap (m : SMap Shaper) {l : List (Nat × Nat × Nat × Nat)} (hl : (l.map Prod.fst).Nodup) {a rate burst k : Nat}
    (h : (a, rate, burst, k) ∈ l) : mapGet (refillMap m l) a = refillOne (mapGet m a) rate burst k := by
  rw [refillMap_eq]
  exact mapGet_foldl_putIfSome _ hl h rfl

/-- The traffic class shapers of the egress points: RATE, BURST and no scale. -/
def Dev.tcShapers (d : Dev) : List (Nat × Nat × Nat × Nat) :=
  (List.range 11).flatMap (fun p => (List.range 8).map (fun t => (tcKey p t, d.sh (F.REED_TC_RATE p t), d.sh (F.REED_TC_BURST p t), 256)))

theorem Dev.tcShapers_nodup (d : Dev) : (d.tcShapers.map Prod.fst).Nodup := by
  have hkeys : d.tcShapers.map Prod.fst = List.range 88 := by rfl
  exact hkeys ▸ List.nodup_range

theorem Dev.mem_tcShapers (d : Dev) {p t : Nat} (hp : p < 11) (ht : t < 8) :
    (tcKey p t, d.sh (F.REED_TC_RATE p t), d.sh (F.REED_TC_BURST p t), 256) ∈ d.tcShapers :=
  List.mem_flatMap.mpr ⟨p, List.mem_range.mpr hp, List.mem_map.mpr ⟨t, List.mem_range.mpr ht, rfl⟩⟩

/-! ## SHAPER_REFILL (R247, R248, R256) -/

/-- Two devices with the same configuration, the same shuttles and the same traffic class shapers. -/
structure Dev.SameShapers (d e : Dev) : Prop where
  cfg : e.cfg = d.cfg
  shuts : e.shuts = d.shuts
  shTc : e.reed.shTc = d.reed.shTc

theorem Dev.SameShapers.refl (d : Dev) : d.SameShapers d := ⟨rfl, rfl, rfl⟩

theorem Dev.SameShapers.trans {d e f : Dev} (h : d.SameShapers e) (h' : e.SameShapers f) : d.SameShapers f :=
  ⟨h'.cfg.trans h.cfg, h'.shuts.trans h.shuts, h'.shTc.trans h.shTc⟩

theorem Dev.sameShapers_scaleOf (d : Dev) (p : Nat) : d.SameShapers (d.scaleOf p) := by
  unfold Dev.scaleOf
  dsimp only
  repeat' split
  all_goals exact ⟨rfl, rfl, rfl⟩

/-- What the records in use and the MIN factors of every egress point become leaves the traffic class shapers. -/
theorem Dev.sameShapers_scaled (d : Dev) : d.SameShapers ((List.range 11).foldl (fun d p => d.scaleOf p) d.takeRecords) :=
  have htaken : d.SameShapers d.takeRecords := ⟨rfl, rfl, rfl⟩
  htaken.trans (foldl_rel .refl .trans (r := Dev.SameShapers) _ (fun e p _ => e.sameShapers_scaleOf p) _)

/-- SHAPER_REFILL refills every traffic class shaper with the rates of the active set. -/
theorem shaperRefill_refills (s : State) : Yields .shaperRefill s (fun d => d.shuts = s.dev.shuts ∧ ∀ p < 11, ∀ t < 8,
    mapGet d.reed.shTc (tcKey p t) = refillOne (mapGet s.dev.reed.shTc (tcKey p t)) (s.dev.sh (F.REED_TC_RATE p t)) (s.dev.sh (F.REED_TC_BURST p t)) 256) := by
  have hsame := s.dev.sameShapers_scaled
  refine .of _ rfl ?_
  generalize (List.range 11).foldl (fun d p => d.scaleOf p) s.dev.takeRecords = e at hsame
  refine ⟨hsame.shuts, fun p hp t ht => ?_⟩
  have hsh : ∀ f, e.sh f = s.dev.sh f := fun f => congrArg (fun c : Cfg => c.active.get f) hsame.cfg
  have hrefill : mapGet (refillMap e.reed.shTc e.tcShapers) (tcKey p t) = _ := mapGet_refillMap _ e.tcShapers_nodup (e.mem_tcShapers hp ht)
  rw [hsame.shTc, hsh, hsh] at hrefill
  rw [← hrefill, ← hsame.shTc]
  rfl

/-! ## What a port's gates show (R250) -/

/-- Fields whose registers lie apart. -/
theorem Fld.apart_of_far {f g : Fld} (h : f.addr + 4 < g.addr ∨ g.addr + 4 < f.addr) : f.apart g = true := by
  simp only [Fld.apart, Bool.or_eq_true, decide_eq_true_eq]
  exact .inl (.inl h)

/-- Reed's event register lies before the status register of a port's gates, and that before START_S. -/
theorem gateStatus_apart (n lo w : Nat) : F.REED_EVENT_GATE_CHANGE.apart ⟨0x902010 + 0x40 * n, lo, w⟩ = true ∧
    Fld.apart ⟨0x902010 + 0x40 * n, lo, w⟩ F.REED_EVENT_GATE_CHANGE = true ∧ Fld.apart ⟨0x902010 + 0x40 * n, lo, w⟩ (F.REED_GATE_START_S n) = true ∧
    F.REED_EVENT_GATE_CHANGE.apart (F.REED_GATE_START_S n) = true := by
  refine ⟨Fld.apart_of_far (.inl ?_), Fld.apart_of_far (.inr ?_), Fld.apart_of_far (.inl ?_), Fld.apart_of_far (.inl ?_)⟩
  all_goals
    simp only [F.REED_EVENT_GATE_CHANGE, F.REED_GATE_START_S]
    omega

/-- The registers of a port's gates with an entry's position and its gates. -/
def Dev.gateShown (d : Dev) (n k g : Nat) : Dev := (d.set (F.REED_GATE_STATUS_GATES n) g).set (F.REED_GATE_STATUS_CURRENT n) k

section
variable {d : Dev} {n : Nat}

theorem Dev.gateRefresh_of_list {l : GateList} (h : d.gatesOf n = some l) :
    d.gateRefresh n = d.gateShown n (l.at_ d.now).1 (l.at_ d.now).2.1 := by
  simp only [Dev.gateRefresh, h, Dev.gateShown]

theorem Dev.gateRefresh_of_none (h : d.gatesOf n = none) : d.gateRefresh n = d.gateShown n 0 0xFF := by
  simp only [Dev.gateRefresh, h, Dev.gateShown]

variable (d n) (k g : Nat)

theorem Dev.gateShown_gates : (d.gateShown n k g).get (F.REED_GATE_STATUS_GATES n) = g % 256 :=
  (Dev.get_set_disjoint _ _ (by decide) (by decide) (by decide)).trans (Dev.get_set_place _ _ (by decide))

theorem Dev.gateShown_current : (d.gateShown n k g).get (F.REED_GATE_STATUS_CURRENT n) = k % 1024 := Dev.get_set_place _ _ (by decide)

theorem Dev.gateShown_apart {f : Fld} (h : (F.REED_GATE_STATUS_GATES n).apart f = true) (h' : (F.REED_GATE_STATUS_CURRENT n).apart f = true) :
    (d.gateShown n k g).get f = d.get f := (Dev.get_set_apart _ _ _ _ h').trans (Dev.get_set_apart _ _ _ _ h)

theorem Dev.gateShown_reed : (d.gateShown n k g).reed = d.reed := rfl

theorem Dev.gateShown_words : SameWordsBut [0x902010 + 0x40 * n] (d.gateShown n k g) d := fun a ha =>
  (sameWordsBut_set _ _ (by decide) a ha).trans (sameWordsBut_set _ _ (by decide) a ha)

end

/-- GATE_ENTRY_CHANGE with a list in force shows its entry at this time. -/
theorem gateEntryChange_shows {s : State} {n : Nat} {l : GateList} (h : s.dev.gatesOf n = some l) :
    Yields (.gateEntryChange n) s (fun d => d.get (F.REED_GATE_STATUS_GATES n) = (l.at_ s.dev.now).2.1 % 256 ∧
      d.get (F.REED_GATE_STATUS_CURRENT n) = (l.at_ s.dev.now).1 % 1024 ∧ d.reed = s.dev.reed ∧ SameWordsBut [0x902010 + 0x40 * n] d s.dev) :=
  .of _ (congrArg (done s) (Dev.gateRefresh_of_list h))
    ⟨Dev.gateShown_gates _ _ _ _, Dev.gateShown_current _ _ _ _, rfl, Dev.gateShown_words _ _ _ _⟩

/-- GATE_ENTRY_CHANGE without a list shows every gate open. -/
theorem gateEntryChange_open {s : State} {n : Nat} (h : s.dev.gatesOf n = none) :
    Yields (.gateEntryChange n) s (fun d => d.get (F.REED_GATE_STATUS_GATES n) = 255 ∧ d.get (F.REED_GATE_STATUS_CURRENT n) = 0 ∧ d.reed = s.dev.reed) :=
  .of _ (congrArg (done s) (Dev.gateRefresh_of_none h)) ⟨Dev.gateShown_gates _ _ _ _, Dev.gateShown_current _ _ _ _, rfl⟩

/-! ## A pending list starts (R252) -/

/-- The device with a list in force that was pending, and START, PENDING and the event written. -/
def Dev.gateTaken (d : Dev) (n : Nat) (g : GateList) : Dev :=
  (((d.modReed (fun r => { r with gates := mapPut r.gates n g, nextGates := mapErase r.nextGates n })).set (F.REED_GATE_START_S n) g.start).set
    (F.REED_GATE_STATUS_PENDING n) 0).raise F.REED_EVENT_GATE_CHANGE

section
variable (d : Dev) (n : Nat) (g : GateList)

@[simp] theorem Dev.gateTaken_gatesOf : (d.gateTaken n g).gatesOf n = some g := mapGet_mapPut_self _ _ _

@[simp] theorem Dev.gateTaken_nextGatesOf : (d.gateTaken n g).nextGatesOf n = none := mapGet_mapErase_self _ _

theorem Dev.gateTaken_others {m : Nat} (h : m ≠ n) :
    (d.gateTaken n g).gatesOf m = d.gatesOf m ∧ (d.gateTaken n g).nextGatesOf m = d.nextGatesOf m :=
  ⟨mapGet_mapPut_ne _ _ h, mapGet_mapErase_ne _ h⟩

theorem Dev.gateTaken_event : (d.gateTaken n g).get F.REED_EVENT_GATE_CHANGE = 1 := Dev.get_set_place _ _ (by decide)

theorem Dev.gateTaken_pending : (d.gateTaken n g).get (F.REED_GATE_STATUS_PENDING n) = 0 := by
  obtain ⟨hevent, -⟩ := gateStatus_apart n 24 1
  exact (Dev.get_raise_apart _ _ _ hevent).trans (Dev.get_set_place _ _ (by decide))

theorem Dev.gateTaken_start : (d.gateTaken n g).get (F.REED_GATE_START_S n) = g.start % 2 ^ 64 := by
  obtain ⟨-, -, hpending, hevent⟩ := gateStatus_apart n 24 1
  exact (Dev.get_raise_apart _ _ _ hevent).trans ((Dev.get_set_apart _ _ _ _ hpending).trans (Dev.get_set_place _ _ (by decide)))

end

section
variable {s : State} {n : Nat} {g : GateList}

theorem gateListStart_none (h : s.dev.nextGatesOf n = none) : Yields (.gateListStart n) s (fun d => d = s.dev) := by
  have hstart : s.dev.gateStart n = s.dev := by simp only [Dev.gateStart, h]
  exact .of _ (congrArg (done s) hstart) rfl

theorem gateListStart_early (h : s.dev.nextGatesOf n = some g) (ht : s.dev.now < g.start * 65536) : Yields (.gateListStart n) s (fun d => d = s.dev) := by
  have hstart : s.dev.gateStart n = s.dev := by simp only [Dev.gateStart, h, if_pos ht]
  exact .of _ (congrArg (done s) hstart) rfl

/-- From its start on the pending list is in force, and shows its entry at this time. -/
theorem gateListStart_starts (h : s.dev.nextGatesOf n = some g) (ht : g.start * 65536 ≤ s.dev.now) :
    Yields (.gateListStart n) s (fun d => d.gatesOf n = some g ∧ d.nextGatesOf n = none ∧ d.get (F.REED_GATE_START_S n) = g.start % 2 ^ 64 ∧
      d.get (F.REED_GATE_STATUS_PENDING n) = 0 ∧ d.get F.REED_EVENT_GATE_CHANGE = 1 ∧ d.get (F.REED_GATE_STATUS_GATES n) = (g.at_ s.dev.now).2.1 % 256 ∧
      ∀ m, m ≠ n → d.gatesOf m = s.dev.gatesOf m ∧ d.nextGatesOf m = s.dev.nextGatesOf m) := by
  have hstart : s.dev.gateStart n = (s.dev.gateTaken n g).gateShown n (g.at_ s.dev.now).1 (g.at_ s.dev.now).2.1 := by
    simp only [Dev.gateStart, h, if_neg (Nat.not_lt.mpr ht)]
    exact Dev.gateRefresh_of_list (Dev.gateTaken_gatesOf _ _ _)
  obtain ⟨-, hgates, hgates', -⟩ := gateStatus_apart n 16 8
  obtain ⟨-, hcurrent, hcurrent', -⟩ := gateStatus_apart n 0 10
  have hreed := Dev.gateShown_reed (s.dev.gateTaken n g) n (g.at_ s.dev.now).1 (g.at_ s.dev.now).2.1
  refine .of _ (congrArg (done s) hstart) ⟨?inForce, ?notPending, ?start, ?pending, ?event, Dev.gateShown_gates _ _ _ _, fun m hm => ?others⟩
  case inForce => rw [Dev.gatesOf, hreed, ← Dev.gatesOf, Dev.gateTaken_gatesOf]
  case notPending => rw [Dev.nextGatesOf, hreed, ← Dev.nextGatesOf, Dev.gateTaken_nextGatesOf]
  case others =>
    rw [Dev.gatesOf, Dev.nextGatesOf, hreed]
    exact Dev.gateTaken_others _ _ _ hm
  case start => exact (Dev.gateShown_apart _ _ _ _ hgates' hcurrent').trans (Dev.gateTaken_start _ _ _)
  case pending =>
    exact (Dev.gateShown_apart _ _ _ _ (Fld.apart_of_disjoint (by decide) (by decide) (by decide))
      (Fld.apart_of_disjoint (by decide) (by decide) (by decide))).trans (Dev.gateTaken_pending _ _ _)
  case event => exact (Dev.gateShown_apart _ _ _ _ hgates hcurrent).trans (Dev.gateTaken_event _ _ _)

end

end Sys2Proof.Machine
end

section
/-! PROOFS. Queue and group records through Reed's indirect registers (R161, R257), and the statement on shapers, gates and Reed's tables. -/
namespace Sys2Proof.Machine
open Sys2Proof

/-! ## An operation of Reed's indirect registers begun (R161) -/

/-- The data window of Reed's indirect registers. -/
def reedWin : Nat := 0x900200

/-- What the start of an operation of Reed's indirect registers leaves: BUSY is set, and only REED_IND_CTRL and REED_IND_INDEX have changed. -/
structure Dev.ReedBegun (d b : Dev) : Prop where
  cfg : b.cfg = d.cfg
  reed : b.reed = d.reed
  shuts : b.shuts = d.shuts
  busy : b.get F.REED_IND_CTRL_BUSY = 1
  word : ∀ a, a ≠ 0x900100 → a ≠ 0x900104 → b.word a = d.word a

theorem Dev.reedBegun_indStarted (d : Dev) (op table set index : Nat) : d.ReedBegun (d.indStarted 0x900100 op table set index) :=
  ⟨rfl, rfl, rfl, d.indStarted_busy _ _ _ _ _, fun _ h h' => d.indStarted_word _ _ _ _ _ h h'⟩

namespace Dev.ReedBegun
variable {d b : Dev} (h : d.ReedBegun b)
include h

theorem setBy (x : Nat) : b.setBy x = d.setBy x := by rw [Dev.setBy, Dev.setBy, h.cfg]

/-- A queue record shows the same live fields. -/
theorem queueShow (k : Nat) (r : Rec) : b.queueShow k r = d.queueShow k r := by
  simp only [Dev.queueShow, Dev.queueDepth, Dev.rq, Dev.shut, h.reed, h.shuts]

/-- The data window is as it was. -/
theorem winRec (n : Nat) : b.winRec reedWin n = d.winRec reedWin n := by
  have hwords := Dev.words_congr (d := d) (e := b) (a := reedWin) (n := ceilDiv n 4) (fun a ha _ => by
    simp only [reedWin] at ha
    exact h.word a (by omega) (by omega))
  simp only [Dev.winRec, hwords]

end Dev.ReedBegun

/-- An operation that ends with a RESULT yields BUSY, that RESULT, and what holds of the device that its action left, where that does not speak of the
RESULT kept. -/
theorem Yields.of_reedAction {s : State} {c : Instr} {op table set index : Nat} {f : Dev → Dev × Nat} {code : Nat} {P : Dev → Prop}
    (h : s.dev.IndReady 0x900100) (hexec : exec c s = done s (s.dev.indirect 0x900100 op table set index f))
    (hact : ∀ b, s.dev.ReedBegun b → ∃ e, f b = (e, code) ∧ e.get F.REED_IND_CTRL_BUSY = 1 ∧ P e)
    (hind : ∀ (e : Dev) m, P e → P { e with ind := m }) : Yields c s (fun d => d.IndBusy 0x900100 code ∧ P d) := by
  obtain ⟨e, he, hbusy, hp⟩ := hact _ (s.dev.reedBegun_indStarted op table set index)
  rw [Dev.indirect_ready _ _ _ _ h, he] at hexec
  exact .of _ hexec ⟨Dev.indBusy_put code hbusy, hind e _ hp⟩

/-- A GO while BUSY is ignored (R161). -/
theorem Dev.indirect_busy {d : Dev} (h : d.get F.REED_IND_CTRL_BUSY = 1) (op table set index : Nat) (f : Dev → Dev × Nat) :
    d.indirect 0x900100 op table set index f = d := by
  have hb : d.get ⟨0x900100, 16, 1⟩ = 1 := h
  exact if_pos (by simp [hb])

/-! ## REED_READ and REED_WRITE (R257) -/

/-- A record shown in the data window. -/
theorem Dev.showRec_reedWin (d : Dev) (r : Rec) : (d.showRec reedWin 32 r).get F.REED_IND_CTRL_BUSY = d.get F.REED_IND_CTRL_BUSY ∧
    (d.showRec reedWin 32 r).words reedWin 8 = r.toNat % 2 ^ 256 ∧ (d.showRec reedWin 32 r).cfg = d.cfg := by
  refine ⟨Dev.get_putWords_outside _ _ _ _ (by decide) (.inl (by decide)), (Dev.words_putWords _ _ _ _).trans (Nat.mod_mod _ _), ?_⟩
  obtain ⟨w, hw⟩ := d.putWords_eq reedWin (ceilDiv 32 4) (r.toNat % 2 ^ (8 * 32))
  rw [Dev.showRec, hw]

/-- Staging a record leaves Reed (R157). -/
theorem Dev.stageRec_reed (d : Dev) (tab i : Nat) (r : Option Rec) (log : List Byte) : (d.stageRec tab i r log).1.reed = d.reed := by
  simp only [Dev.stageRec]
  repeat' split
  all_goals rfl

section
variable {s : State} (h : s.dev.IndReady 0x900100) {tab k : Nat}
include h

/-- An operation that shows a record ends with OK. -/
theorem Yields.of_reedShow {c : Instr} {op table set index : Nat} {f : Dev → Dev × Nat} {r : Rec}
    (hexec : exec c s = done s (s.dev.indirect 0x900100 op table set index f))
    (hf : ∀ b, s.dev.ReedBegun b → f b = (b.showRec reedWin 32 r, 0)) :
    Yields c s (fun d => d.IndBusy 0x900100 0 ∧ d.words reedWin 8 = r.toNat % 2 ^ 256 ∧ d.cfg = s.dev.cfg) := by
  refine .of_reedAction h hexec (fun b hb => ?_) (fun e m ⟨hw, hc⟩ => ⟨(e.words_withInd m _ _).trans hw, hc⟩)
  obtain ⟨hbusy, hwords, hcfg⟩ := b.showRec_reedWin r
  exact ⟨_, hf b hb, hbusy.trans hb.busy, hwords, hcfg.trans hb.cfg⟩

/-- An operation that stages a record of a table without a reserve ends with OK, the record's reserved bits 0 (R157). -/
theorem Yields.of_reedStage {c : Instr} {op table set index n : Nat} {f : Dev → Dev × Nat} {r : Rec} (hres : reserveOf tab k = none)
    (hexec : exec c s = done s (s.dev.indirect 0x900100 op table set index f))
    (hf : ∀ b, s.dev.ReedBegun b → f b = b.indWrite 0 tab k (some r) n) :
    Yields c s (fun d => d.IndBusy 0x900100 0 ∧ d.cfg.shadow.record tab k = keepRec tab r ∧ d.cfg.active = s.dev.cfg.active ∧ d.reed = s.dev.reed) := by
  refine .of_reedAction h hexec (fun b hb => ?_) (fun _ _ he => he)
  obtain ⟨e, hstage, hget, hactive, hrec⟩ := b.stageRec_without_reserve hres r (leBytes n ((some r).getD 0).toNat)
  have hreed : e.reed = b.reed := by simpa only [hstage] using b.stageRec_reed tab k (some r) (leBytes n ((some r).getD 0).toNat)
  refine ⟨e, ?_, (hget _ (by decide)).trans hb.busy, hrec, hactive.trans (congrArg Cfg.active hb.cfg), hreed.trans hb.reed⟩
  rw [hf b hb, Dev.indWrite, if_neg Nat.zero_ne_one, hstage]
  rfl

/-- An operation that ends with an error leaves the sets. -/
theorem Yields.of_reedRefused {c : Instr} {op table set index code : Nat} {f : Dev → Dev × Nat}
    (hexec : exec c s = done s (s.dev.indirect 0x900100 op table set index f)) (hf : ∀ b, f b = (b, code)) :
    Yields c s (fun d => d.IndBusy 0x900100 code ∧ d.cfg = s.dev.cfg) :=
  .of_reedAction h hexec (fun b hb => ⟨b, hf b, hb.busy, hb.cfg⟩) (fun _ _ he => he)

theorem reedRead_queue (hk : k < 32768) (x : Nat) : Yields (.reedRead 0 x k) s (fun d => d.IndBusy 0x900100 0 ∧
    d.words reedWin 8 = (s.dev.queueShow k ((s.dev.setBy x).record Tab.queue k)).toNat % 2 ^ 256 ∧ d.cfg = s.dev.cfg) := by
  refine .of_reedShow h rfl (fun b hb => ?_)
  rw [if_pos ⟨rfl, hk⟩, hb.queueShow, hb.setBy]
  rfl

theorem reedRead_group (hk : k < 8192) (x : Nat) : Yields (.reedRead 1 x k) s (fun d => d.IndBusy 0x900100 0 ∧
    d.words reedWin 8 = ((s.dev.setBy x).record Tab.group k).toNat % 2 ^ 256 ∧ d.cfg = s.dev.cfg) := by
  refine .of_reedShow h rfl (fun b hb => ?_)
  rw [if_neg (fun hz => Nat.one_ne_zero hz.1), if_pos ⟨rfl, hk⟩, hb.setBy]
  rfl

theorem reedWrite_queue (hk : k < 32768) : Yields (.reedWrite 0 0 k) s (fun d => d.IndBusy 0x900100 0 ∧
    d.cfg.shadow.record Tab.queue k = keepRec Tab.queue (BitVec.ofNat 2048 ((s.dev.winRec reedWin 32).toNat % 2 ^ 128)) ∧
    d.cfg.active = s.dev.cfg.active ∧ d.reed = s.dev.reed) := by
  refine .of_reedStage h rfl rfl (n := 16) (fun b hb => ?_)
  dsimp only
  rw [if_pos ⟨rfl, hk⟩, ← hb.winRec]
  rfl

theorem reedWrite_group (hk : k < 8192) : Yields (.reedWrite 1 0 k) s (fun d => d.IndBusy 0x900100 0 ∧
    d.cfg.shadow.record Tab.group k = keepRec Tab.group (BitVec.ofNat 2048 ((s.dev.winRec reedWin 32).toNat % 2 ^ 64)) ∧
    d.cfg.active = s.dev.cfg.active ∧ d.reed = s.dev.reed) := by
  refine .of_reedStage h rfl rfl (n := 8) (fun b hb => ?_)
  dsimp only
  rw [if_neg (fun hz => Nat.one_ne_zero hz.1), if_pos ⟨rfl, hk⟩, ← hb.winRec]
  rfl

theorem reedWrite_active (hk : k < 32768) : Yields (.reedWrite 0 1 k) s (fun d => d.IndBusy 0x900100 5 ∧ d.cfg = s.dev.cfg) := by
  refine .of_reedRefused h rfl (fun b => ?_)
  dsimp only
  rw [if_pos ⟨rfl, hk⟩, Dev.indWrite, if_pos rfl]
  rfl

theorem reedRead_range (hk : 32768 ≤ k) (x : Nat) : Yields (.reedRead 0 x k) s (fun d => d.IndBusy 0x900100 3 ∧ d.cfg = s.dev.cfg) := by
  refine .of_reedRefused h rfl (fun b => ?_)
  rw [if_neg (by omega), if_neg (by omega)]
  rfl

theorem reedWrite_range (hk : 32768 ≤ k) (x : Nat) : Yields (.reedWrite 0 x k) s (fun d => d.IndBusy 0x900100 3 ∧ d.cfg = s.dev.cfg) := by
  refine .of_reedRefused h rfl (fun b => ?_)
  dsimp only
  rw [if_neg (by omega), if_neg (by omega)]
  rfl

end

/-! ## The statement -/

/-- Settles O38: shapers by what one refill does, gates by whether a list is in force or pending, and the tables by the index and by BUSY. -/
theorem shapersGatesAndReedTables : Obligations.ShapersGatesAndReedTables := by
  unfold Obligations.ShapersGatesAndReedTables
  refine ⟨fun o _ burst k h => refillOne_in_use o burst k h, refillOne_unused, shaperRefill_refills, ?gates, ?tables, fun s t x k h => ?busy⟩
  case gates =>
    exact fun s n _ => ⟨fun _ h => gateEntryChange_shows h, gateEntryChange_open,
      fun _ h => ⟨gateListStart_early h, gateListStart_starts h⟩, gateListStart_none⟩
  case tables =>
    exact fun s x k h _ => ⟨fun hk => ⟨reedRead_queue h hk x, reedWrite_queue h hk, reedWrite_active h hk⟩,
      fun hk => ⟨reedRead_group h hk x, reedWrite_group h hk⟩, fun hk => ⟨reedRead_range h hk x, reedWrite_range h hk x⟩⟩
  case busy =>
    exact ⟨.of _ (congrArg (done s) (Dev.indirect_busy h 0 t x k _)) rfl, .of _ (congrArg (done s) (Dev.indirect_busy h 1 t x k _)) rfl⟩

end Sys2Proof.Machine
end

section
/-! PROOFS. What the discard of a frame whose end has not arrived leaves of Reed: the miss it declares and the SA it lets go touch neither Reed's books
and registers nor the host's failed accesses, and the shuttle stays (R56, R57, R118, R200). -/
namespace Sys2Proof.Machine
open Sys2Proof

/-! ## What a miss and the release of an SA leave -/

/-- A count that neither Ledger's streams nor the Loom's misses keep. -/
def missApart (k : Nat) : Prop := (k < 0x401000 ∨ 0x401400 ≤ k) ∧ (k < 0xA00100 ∨ 0xB00000 ≤ k)

/-- Two devices with the same Reed, its registers included, the same host interface and the same counts but Ledger's and those of misses; a shuttle
that stood is still there, its frame ended or not as before. -/
structure Dev.ReedKept (i : Nat) (d e : Dev) : Prop where
  reed : e.reed = d.reed
  hif : e.hif = d.hif
  ctr : ∀ k, missApart k → e.ctr k = d.ctr k
  word : ∀ a, 0x900000 ≤ a → a < 0xA00000 → e.word a = d.word a
  shut : ∀ x, d.shut i = some x → ∃ y, e.shut i = some y ∧ y.ended = x.ended

namespace Dev.ReedKept
variable {i : Nat} {d e f : Dev}

theorem refl (i : Nat) (d : Dev) : d.ReedKept i d := ⟨rfl, rfl, fun _ _ => rfl, fun _ _ _ => rfl, fun x hx => ⟨x, hx, rfl⟩⟩

theorem trans (h : d.ReedKept i e) (h' : e.ReedKept i f) : d.ReedKept i f := by
  refine ⟨h'.reed.trans h.reed, h'.hif.trans h.hif, fun k hk => (h'.ctr k hk).trans (h.ctr k hk),
    fun a h1 h2 => (h'.word a h1 h2).trans (h.word a h1 h2), fun x hx => ?_⟩
  obtain ⟨y, hy, hended⟩ := h.shut x hx
  obtain ⟨z, hz, hended'⟩ := h'.shut y hy
  exact ⟨z, hz, hended'.trans hended⟩

/-- A step that leaves Reed, the host interface, the counts and the shuttles, and writes no word of Reed. -/
theorem of_same (hreed : e.reed = d.reed) (hhif : e.hif = d.hif) (hctr : e.bus.ctr = d.bus.ctr) (hshuts : e.shuts = d.shuts)
    (hword : ∀ a, 0x900000 ≤ a → a < 0xA00000 → e.word a = d.word a) : d.ReedKept i e :=
  ⟨hreed, hhif, fun k _ => by rw [Dev.ctr, hctr, ← Dev.ctr], hword, fun x hx => ⟨x, by rw [Dev.shut, hshuts]; exact hx, rfl⟩⟩

/-- The shuttle itself stored, its frame ended or not as before. -/
theorem putShut {x s : Shut} (hx : d.shut i = some x) (h : s.ended = x.ended) : d.ReedKept i (d.putShut i s) :=
  ⟨rfl, rfl, fun _ _ => rfl, fun _ _ _ => rfl, fun y hy => ⟨s, Dev.shut_putShut_self _ _ _, by rw [h, Option.some.inj (hx.symm.trans hy)]⟩⟩

theorem set {g : Fld} (h : g.addr + 4 < 0x900000 ∨ 0xA00000 ≤ g.addr) (v : Nat) : d.ReedKept i (d.set g v) :=
  .of_same rfl rfl rfl rfl (fun a _ _ => d.word_set g v a (by omega) (by omega))

theorem logPut {ix win words : Nat} (h : ix < 0x900000 ∨ 0xA00000 ≤ ix) (hwin : win + 4 * words * 256 ≤ 0x900000 ∨ 0xA00000 ≤ win) (entry : Nat) :
    d.ReedKept i (d.logPut ix win words entry) := by
  have hword := fun a (h1 : 0x900000 ≤ a) (h2 : a < 0xA00000) => d.word_logPut ix win words entry (a := a) (by omega) (by omega)
  obtain ⟨w, hw⟩ := d.logPut_eq ix win words entry
  rw [hw] at hword ⊢
  exact .of_same rfl rfl rfl rfl hword

end Dev.ReedKept

/-- What Ledger's streams and the fault block note. -/
theorem Dev.NotedIn.reedKept {d e : Dev} (h : d.Noted e) (i : Nat) : d.ReedKept i e := by
  have hreed : e.reed = d.reed := by obtain ⟨⟨l, m, b, rfl⟩, -⟩ := h; rfl
  refine ⟨hreed, h.hif, fun k hk => ?_, fun a h1 h2 => h.word a ⟨by omega, by omega⟩, fun x hx => ⟨x, by rw [Dev.shut, h.shuts]; exact hx, rfl⟩⟩
  obtain ⟨hledger, -⟩ := hk
  exact h.ctr k hledger

section
variable (d : Dev) (i : Nat)

/-! ## A miss declared (R56, R57, R120) -/

theorem Dev.reedKept_wake (kind unit : Nat) : d.ReedKept i (d.wake kind unit) := by
  unfold Dev.wake
  split
  · exact .of_same rfl rfl rfl rfl (fun _ _ _ => rfl)
  · exact .refl i d

theorem Dev.reedKept_offerFrame {st : Nat} (h : st < 8) (n ns : Nat) (hash : Bool) (b : List Byte) : d.ReedKept i (d.offerFrame st n ns hash b) := by
  unfold Dev.offerFrame
  split
  · exact (d.reedKept_wake i 4 0).trans (.of_same rfl rfl rfl rfl (fun _ _ _ => rfl))
  · exact ((d.notedFor_offerRecord st n false ns _).mono (by omega) (by omega)).reedKept i

/-- A field of any word store is a number of its own width. -/
theorem fieldGet_lt (z : Nat → Word) (m : SMap Word) (f : Fld) : fieldGet z m f < 2 ^ f.width := by
  unfold fieldGet
  split <;> exact Nat.mod_lt _ (Nat.two_pow_pos _)

/-- Ledger has eight streams, and MISS_STREAM and a profile's STREAM name one of them. -/
theorem Dev.missStream_lt (s : Shut) : d.missStream s < 8 := by
  have hprofile : ∀ c : CfgSet, c.profile s.witness 5 3 < 8 := fun c => by
    unfold CfgSet.profile CfgSet.profileBits
    repeat' split
    · decide
    · decide
    · exact fieldGet_lt _ _ ⟨_, 5, 3⟩
    · decide
  unfold Dev.missStream
  split
  · exact hprofile _
  · exact fieldGet_lt _ _ F.LEDG_CTRL_MISS_STREAM

theorem Shut.mark_ended (s : Shut) (b : Nat) : (s.mark b).ended = s.ended := rfl

theorem Dev.reedKept_missFlush : d.ReedKept i (d.missFlush i) := by
  unfold Dev.missFlush
  split
  · exact .refl i d
  · next s hs =>
    split
    · exact .refl i d
    · refine .trans ?_ (Dev.reedKept_offerFrame _ _ (Dev.missStream_lt _ _) _ _ _ _)
      exact .putShut hs rfl

theorem Dev.reedKept_missRecord {x s : Shut} (hx : d.shut i = some x) (hs : s.ended = x.ended) (cause late : Nat) :
    d.ReedKept i (d.missRecord i s cause late) := by
  simp only [Dev.missRecord]
  split
  · exact .putShut hx hs
  · refine .trans ?_ (Dev.reedKept_missFlush _ i)
    exact .putShut hx hs

theorem Dev.reedKept_count {k : Nat} (h : ¬ missApart k) (n : Nat) : d.ReedKept i (d.count k n) :=
  ⟨rfl, rfl, fun _ hj => Dev.ctr_count_ne d k n (fun e => h (e ▸ hj)), fun _ _ _ => rfl, fun x hx => ⟨x, hx, rfl⟩⟩

/-- The causes of Table 9 have their counts among those of misses. -/
theorem not_missApart_loomMiss {cause : Nat} (h : cause < 16) : ¬ missApart (K.LOOM_MISS cause) := by
  simp only [missApart, K.LOOM_MISS]
  omega

theorem Dev.reedKept_declareMiss {x : Shut} (hx : d.shut i = some x) {cause : Nat} (hcause : cause < 16) (late : Nat) :
    d.ReedKept i (d.declareMiss i x cause late) := by
  unfold Dev.declareMiss
  split
  · exact .refl i d
  · extract_lets t e
    have hlog : d.ReedKept i e := by
      refine .trans ?_ (.logPut (by decide) (by decide) _)
      exact .putShut hx (x.mark_ended _)
    have hcount := hlog.trans (e.reedKept_count i (not_missApart_loomMiss hcause) 1)
    obtain ⟨y, hy, hended⟩ := hcount.shut x hx
    refine .trans (hcount.trans (Dev.reedKept_missRecord _ i hy (s := t) ?_ cause late)) (Dev.NotedIn.reedKept (Dev.notedIn_fault _ _ _ _ _ _ ?_) i)
    · exact (x.mark_ended _).trans hended.symm
    · decide

/-! ## An SA let go (R200) -/

theorem Dev.reedKept_freeSa (k : Nat) : d.ReedKept i (d.freeSa k) := by
  have hsas : ∀ (e : Dev) m, e.ReedKept i (e.modCiph m) := fun e m => .of_same rfl rfl rfl rfl (fun _ _ _ => rfl)
  simp only [Dev.freeSa]
  split
  · exact .refl i d
  · split
    · next a _ _ =>
      have hlog : d.ReedKept i ((d.modCiph (fun c => { c with sas := mapErase c.sas k })).ciphLog k 3) :=
        .trans (hsas d _) (.logPut (by decide) (by decide) _)
      split
      · exact hlog.trans (.set (by decide) _)
      · exact hlog
    · exact .refl i d

theorem Dev.reedKept_releaseSa : d.ReedKept i (d.releaseSa i) := by
  simp only [Dev.releaseSa]
  split
  · exact .refl i d
  · next s hs =>
    split
    · exact .refl i d
    · have hput : d.ReedKept i (d.putShut i { s with holdsSa := none }) := .putShut hs rfl
      refine .trans ?_ (Dev.reedKept_freeSa _ i _)
      split
      · exact hput.trans (.of_same rfl rfl rfl rfl (fun _ _ _ => rfl))
      · exact hput

/-! ## The discard (R118) -/

/-- A shuttle has left Reed and keeps its place, ended for a reason; the host interface, Reed's registers and the counts but Ledger's and those of misses
are as before. -/
structure Dev.Dropped (i reason : Nat) (d e : Dev) : Prop where
  reed : e.reed = (d.unqueue i).reed
  hif : e.hif = d.hif
  ctr : ∀ k, missApart k → e.ctr k = d.ctr k
  word : ∀ a, 0x900000 ≤ a → a < 0xA00000 → e.word a = d.word a
  shut : ∃ y, e.shut i = some y ∧ y.stage = .ended ∧ y.dropReason = some reason

variable {d i} {x : Shut} (hx : d.shut i = some x) (hended : x.ended = false)
include hx hended

/-- A frame whose end has not arrived leaves Reed, and its shuttle, marked with the reason, keeps its place until then. -/
theorem Dev.discard_dropped (reason : Nat) : d.Dropped i reason (d.discard i reason) := by
  have hstays : ∀ (e : Dev) (y : Shut), (d.unqueue i).ReedKept i e → d.Dropped i reason (e.putShut i (y.discarded reason)) := fun e y h =>
    ⟨h.reed, h.hif, h.ctr, h.word, _, Dev.shut_putShut_self _ _ _, rfl, rfl⟩
  have hcond : (x.ended && x.lane.isNone) = false := by rw [hended, Bool.false_and]
  simp only [Dev.discard, hx, hcond, Bool.false_eq_true, if_false]
  split
  · exact hstays _ _ (Dev.reedKept_releaseSa _ i)
  · exact hstays _ _ (.refl i _)

/-- A discard that may be a miss: the miss is declared before the frame leaves Reed. -/
theorem Dev.discardMiss_dropped (reason : Nat) {cause : Nat} (hcause : cause < 16) : d.Dropped i reason (d.discardMiss i reason cause) := by
  have hmiss := d.reedKept_declareMiss i hx hcause 0
  obtain ⟨z, hz, hz'⟩ := hmiss.shut x hx
  have hdrop := Dev.discard_dropped hz (hz'.trans hended) reason
  have heq : d.discardMiss i reason cause = (d.declareMiss i x cause 0).discard i reason := by simp only [Dev.discardMiss, hx]
  rw [heq]
  refine ⟨hdrop.reed.trans ?_, hdrop.hif.trans hmiss.hif, fun k hk => (hdrop.ctr k hk).trans (hmiss.ctr k hk),
    fun a h1 h2 => (hdrop.word a h1 h2).trans (hmiss.word a h1 h2), hdrop.shut⟩
  simp only [Dev.unqueue, Dev.modReed_reed, hmiss.reed]

end

end Sys2Proof.Machine
end

section
/-! PROOFS. REED_ENQUEUE (R18, R238, R239, R241, R310): where a shuttle that reaches Reed is placed, or why it is dropped. -/
namespace Sys2Proof.Machine
open Sys2Proof

/-! ## Reed's queues and deadline sets read back -/

/-- A table whose values are each changed alike. -/
theorem mapGet_map_snd {α β : Type} (f : α → β) (m : SMap α) (a : Nat) : mapGet (m.map (fun p => (p.1, f p.2))) a = (mapGet m a).map f := by
  induction m with
  | nil => rfl
  | cons p t ih =>
    obtain ⟨k, v⟩ := p
    rw [List.map_cons, mapGet, mapGet, ih]
    split <;> rfl

theorem Dev.PauseOnly.reed {d e : Dev} (h : d.PauseOnly e) : e.reed = d.reed := by obtain ⟨⟨p, o, rfl⟩, -⟩ := h; rfl

theorem Dev.rq_of_mapGet {d : Dev} {k : Nat} {q : RQueue} (h : mapGet d.reed.queues k = some q) : d.rq k = q := by rw [Dev.rq, mapGetD, h]; rfl

/-- A queue that a shuttle has left. -/
def RQueue.without (q : RQueue) (i : Nat) : RQueue :=
  { q with frames := q.frames.filter (fun j => j != i), deficit := if (q.frames.filter (fun j => j != i)).isEmpty then [0, 0, 0] else q.deficit }

section
variable (d : Dev) (i : Nat)

theorem Dev.mapGet_queues_unqueue (k : Nat) : mapGet (d.unqueue i).reed.queues k = (mapGet d.reed.queues k).map (fun q => q.without i) :=
  mapGet_map_snd (fun q : RQueue => q.without i) d.reed.queues k

/-- A shuttle that leaves Reed leaves every queue, whose drops stay. -/
theorem Dev.rq_unqueue (k : Nat) : ((d.unqueue i).rq k).frames = (d.rq k).frames.filter (fun j => j != i) ∧ ((d.unqueue i).rq k).drops = (d.rq k).drops := by
  rw [Dev.rq, Dev.rq, mapGetD, mapGetD, Dev.mapGet_queues_unqueue]
  cases mapGet d.reed.queues k with
  | none => exact ⟨rfl, rfl⟩
  | some q => exact ⟨rfl, rfl⟩

/-- A shuttle that leaves Reed leaves every deadline set. -/
theorem Dev.deadlineSet_unqueue (p : Nat) :
    mapGetD (d.unqueue i).reed.deadlineSet p [] = (mapGetD d.reed.deadlineSet p []).filter (fun j => j != i) := by
  have hget : mapGet (d.unqueue i).reed.deadlineSet p = _ := mapGet_map_snd _ d.reed.deadlineSet p
  rw [mapGetD, mapGetD, hget]
  cases mapGet d.reed.deadlineSet p with
  | none => rfl
  | some l => rfl

variable {d i}

/-- A shuttle that Reed does not hold is in no deadline set. -/
theorem Dev.not_mem_deadlineSet (h : d.inReed i = false) (p : Nat) : i ∉ mapGetD d.reed.deadlineSet p [] := by
  simp only [Dev.inReed, Bool.or_eq_false_iff, List.any_eq_false, List.contains_iff_mem] at h
  obtain ⟨-, hsets⟩ := h
  rw [mapGetD]
  cases hp : mapGet d.reed.deadlineSet p with
  | none => simp
  | some l => exact hsets _ (mem_of_mapGet hp)

end

/-! ## A guaranteed shuttle's place in its deadline set (R241) -/

/-- Whether a member of a deadline set reached Reed in the same cycle as a shuttle, and from a later pipeline. -/
def Dev.reachedLater (d : Dev) (i j : Nat) : Bool :=
  match d.shut i, d.shut j with
  | some a, some b => b.reedAt == a.reedAt && decide (pipeOrder a < pipeOrder b)
  | _, _ => false

section
variable {d : Dev} {i : Nat} {l : List Nat}

theorem Dev.reedPlace_last (h : ∀ j ∈ l, d.reachedLater i j = false) : d.reedPlace i l = l ++ [i] := by
  have hnone : l.filter (d.reachedLater i) = [] := List.filter_eq_nil_iff.mpr (fun j hj => by simp [h j hj])
  have hall : l.filter (fun j => !d.reachedLater i j) = l := List.filter_eq_self.mpr (fun j hj => by simp [h j hj])
  change l.filter (fun j => !d.reachedLater i j) ++ [i] ++ l.filter (d.reachedLater i) = _
  rw [hnone, hall, List.append_nil]

theorem Dev.reedPlace_first (h : ∀ j ∈ l, d.reachedLater i j = true) : d.reedPlace i l = i :: l := by
  have hnone : l.filter (fun j => !d.reachedLater i j) = [] := List.filter_eq_nil_iff.mpr (fun j hj => by simp [h j hj])
  have hall : l.filter (d.reachedLater i) = l := List.filter_eq_self.mpr h
  change l.filter (fun j => !d.reachedLater i j) ++ [i] ++ l.filter (d.reachedLater i) = _
  rw [hnone, hall]
  rfl

end

/-- A shuttle stamped with the cycle in which it reaches Reed, and in the deadline set of its egress point. -/
def Dev.guarPlaced (d : Dev) (i : Nat) (x : Shut) : Dev :=
  let e := d.putShut i { x with reedAt := d.time.cycles }
  e.modReed (fun r => { r with
    deadlineSet := mapPut r.deadlineSet (x.get S.DEST_PORT) (e.reedPlace i (mapGetD r.deadlineSet (x.get S.DEST_PORT) [])) })

section
variable (d : Dev) {i j : Nat} (x : Shut)

/-- A shuttle that has just reached Reed is before those of this cycle that came from a later pipeline. -/
theorem Dev.reachedLater_stamped (h : j ≠ i) : (d.putShut i { x with reedAt := d.time.cycles }).reachedLater i j =
    (d.shut j).any (fun y => y.reedAt == d.time.cycles && decide (pipeOrder x < pipeOrder y)) := by
  rw [Dev.reachedLater, Dev.shut_putShut_self, Dev.shut_putShut_ne _ _ h]
  cases d.shut j <;> rfl

variable (i)

theorem Dev.guarPlaced_set : mapGetD (d.guarPlaced i x).reed.deadlineSet (x.get S.DEST_PORT) [] =
    (d.putShut i { x with reedAt := d.time.cycles }).reedPlace i (mapGetD d.reed.deadlineSet (x.get S.DEST_PORT) []) := by
  rw [mapGetD, Dev.guarPlaced, Dev.modReed_reed, mapGet_mapPut_self]
  rfl

variable {i} (h : d.inReed i = false)
include h

theorem Dev.guarPlaced_last (hl : ∀ j ∈ mapGetD d.reed.deadlineSet (x.get S.DEST_PORT) [], ∀ y, d.shut j = some y →
      y.reedAt ≠ d.time.cycles ∨ pipeOrder y ≤ pipeOrder x) :
    mapGetD (d.guarPlaced i x).reed.deadlineSet (x.get S.DEST_PORT) [] = mapGetD d.reed.deadlineSet (x.get S.DEST_PORT) [] ++ [i] := by
  rw [Dev.guarPlaced_set]
  refine Dev.reedPlace_last (fun j hj => ?_)
  rw [Dev.reachedLater_stamped d x (fun e => Dev.not_mem_deadlineSet h _ (e ▸ hj))]
  cases hy : d.shut j with
  | none => rfl
  | some y =>
    have := hl j hj y hy
    simp only [Option.any_some, Bool.and_eq_false_iff, beq_eq_false_iff_ne, decide_eq_false_iff_not]
    omega

theorem Dev.guarPlaced_first (hl : ∀ j ∈ mapGetD d.reed.deadlineSet (x.get S.DEST_PORT) [], ∃ y, d.shut j = some y ∧
      y.reedAt = d.time.cycles ∧ pipeOrder x < pipeOrder y) :
    mapGetD (d.guarPlaced i x).reed.deadlineSet (x.get S.DEST_PORT) [] = i :: mapGetD d.reed.deadlineSet (x.get S.DEST_PORT) [] := by
  rw [Dev.guarPlaced_set]
  refine Dev.reedPlace_first (fun j hj => ?_)
  obtain ⟨y, hy, hat, hpipe⟩ := hl j hj
  rw [Dev.reachedLater_stamped d x (fun e => Dev.not_mem_deadlineSet h _ (e ▸ hj)), hy]
  simp [hat, hpipe]

end

/-! ## The queue of an AS or BE shuttle (R238, R239) -/

/-- DEST_QUEUE names the queue of a shuttle for a port when that is valid with a group on the port. -/
theorem CfgSet.queueFor_named {c : CfgSet} {p q : Nat} (hp : p ≤ 8) (hv : recGet (c.record Tab.queue q) QR.VALID = 1)
    (hg : recGet (c.record Tab.group (recGet (c.record Tab.queue q) QR.GROUP)) GR.PORT = p) : c.queueFor p q = (q, false) := by
  simp only [CfgSet.queueFor, if_pos hp, Nat.zero_add, if_pos (And.intro hv hg)]

/-- A queue that is not valid gives way to the port's default. -/
theorem CfgSet.queueFor_default {c : CfgSet} {p q : Nat} (hp : p ≤ 8) (hv : recGet (c.record Tab.queue q) QR.VALID = 0) :
    c.queueFor p q = (c.get (F.REED_PORT_CFG_DEFAULT_QUEUE p), true) := by
  simp only [CfgSet.queueFor, if_pos hp, Nat.zero_add, hv, Nat.zero_ne_one, false_and, if_false]

/-- A shuttle that takes its port's default queue is counted and raised. -/
def Dev.noQueueNoted (d : Dev) (p : Nat) (dflt : Bool) : Dev :=
  if dflt then (d.count (K.REED_NO_QUEUE p)).raise F.REED_EVENT_NO_QUEUE else d

section
variable (d : Dev) (p : Nat) (dflt : Bool)

@[simp] theorem Dev.noQueueNoted_reed : (d.noQueueNoted p dflt).reed = d.reed := by cases dflt <;> rfl
@[simp] theorem Dev.noQueueNoted_shuts : (d.noQueueNoted p dflt).shuts = d.shuts := by cases dflt <;> rfl
@[simp] theorem Dev.noQueueNoted_hif : (d.noQueueNoted p dflt).hif = d.hif := by cases dflt <;> rfl
@[simp] theorem Dev.noQueueNoted_shut (i : Nat) : (d.noQueueNoted p dflt).shut i = d.shut i := by cases dflt <;> rfl

theorem Dev.noQueueNoted_ctr {k : Nat} (h : k ≠ K.REED_NO_QUEUE p) : (d.noQueueNoted p dflt).ctr k = d.ctr k := by
  cases dflt with
  | false => rfl
  | true => exact Dev.ctr_count_ne d _ 1 h

end

/-- The device with a drop of one of its queues counted and raised (R239). -/
def Dev.queueDropNoted (d : Dev) (p k : Nat) (q : RQueue) : Dev :=
  ((d.modReed (fun r => { r with queues := mapPut r.queues k { q with drops := satAdd (2 ^ 32 - 1) q.drops 1 } })).count (K.REED_QUEUE_DROP p)).raise
    F.REED_EVENT_QUEUE_DROP

section
variable {d : Dev} {i p k : Nat} {x : Shut} {dflt : Bool} {q : RQueue} (hq : (d.cfgOf x).queueFor p (x.get S.DEST_QUEUE) = (k, dflt))
  (hk : mapGet d.reed.queues k = some q)
include hq hk

/-- A shuttle joins the tail of its queue, or is dropped at LIMIT. -/
theorem Dev.enqueue_of_queue : d.enqueue i p x =
    if x.get S.DIR = 0 ∧ recGet q.record QR.LIMIT < d.queueDepth q + x.queueSize then ((d.noQueueNoted p dflt).queueDropNoted p k q).discard i 6
    else (d.noQueueNoted p dflt).modReed (fun r => { r with queues := mapPut r.queues k { q with frames := q.frames ++ [i] } }) := by
  have hqueue : mapGet (d.noQueueNoted p dflt).reed.queues k = some q := by rw [Dev.noQueueNoted_reed, hk]
  have hdepth : (d.noQueueNoted p dflt).queueDepth q = d.queueDepth q := by simp only [Dev.queueDepth, Dev.noQueueNoted_shut]
  have hnote : (if dflt = true then (d.count (K.REED_NO_QUEUE p)).raise F.REED_EVENT_NO_QUEUE else d) = d.noQueueNoted p dflt := rfl
  simp only [Dev.enqueue, hq, hnote, hqueue, hdepth, Bool.and_eq_true, decide_eq_true_eq, gt_iff_lt]
  rfl

end

/-! ## REED_ENQUEUE (R18, R238, R239, R310) -/

/-- A shuttle that reaches Reed: it stands before Reed, which does not hold it yet, and no earlier frame of its flow is behind it (R18). -/
structure Dev.ReachesReed (d : Dev) (i : Nat) (x : Shut) : Prop where
  shut : d.shut i = some x
  stage : x.stage = .reed
  kept : x.dropReason = none
  new : d.inReed i = false
  first : d.flowBehind i x = false

/-- Whether a shuttle is bound for a function that may not receive (R310). -/
def Dev.hostRefuses (d : Dev) (x : Shut) : Bool :=
  decide (x.get S.DEST_PORT ≥ 9) && !d.mayReceive (d.rcf (d.ringFor x (x.get S.DEST_PORT)) RC.INSTANCE)

theorem Dev.hostRefuses_false {d : Dev} {x : Shut}
    (h : x.get S.DEST_PORT ≤ 8 ∨ d.mayReceive (d.rcf (d.ringFor x (x.get S.DEST_PORT)) RC.INSTANCE) = true) : d.hostRefuses x = false := by
  rw [Dev.hostRefuses]
  obtain hp | hm := h
  · rw [decide_eq_false (by omega), Bool.false_and]
  · rw [hm, Bool.not_true, Bool.and_false]

theorem execReedEnqueue_reaches {s : State} {i : Nat} {x : Shut} (h : s.dev.ReachesReed i x) : execReedEnqueue i s =
    if s.dev.hostRefuses x then doneH s (s.dev.fnDrop i) else if x.guaranteed then done s (s.dev.guarPlaced i x)
    else doneH s (s.dev.enqueue i (x.get S.DEST_PORT) x) := by
  obtain ⟨hshut, hstage, hkept, hnew, hfirst⟩ := h
  have hmod := Dev.modShut_of_shut hshut (fun t => { t with reedAt := s.dev.time.cycles })
  simp only [execReedEnqueue, hshut, hmod]
  rw [if_neg (by simp [hstage, hkept, hnew, hfirst])]
  rfl

/-- A shuttle that Reed holds, or that is behind an earlier frame of its flow, is left alone. -/
theorem reedEnqueue_waits {s : State} {i : Nat} {x : Shut} (h : s.dev.inReed i = true ∨ (s.dev.shut i = some x ∧ s.dev.flowBehind i x = true)) :
    Yields (.reedEnqueue i) s (fun d => d = s.dev) := by
  refine .of s.dev ?_ rfl
  change execReedEnqueue i s = _
  unfold execReedEnqueue
  dsimp only
  split
  · rfl
  · next y hy =>
    refine if_pos ?_
    obtain hin | ⟨hx, hbehind⟩ := h
    · simp [hin]
    · obtain rfl : y = x := Option.some.inj (hy.symm.trans hx)
      simp [hbehind]

section
variable {s : State} {i : Nat} {x : Shut} (h : s.dev.ReachesReed i x)
include h

/-- A host-bound frame of a function that may not receive is discarded and counted (R310). -/
theorem reedEnqueue_refused (hr : s.dev.hostRefuses x = true) (hended : x.ended = false) (hf : s.dev.hif.faulted = []) :
    Yields (.reedEnqueue i) s (fun d => d.ctr K.HIF_FN_DROP = (s.dev.ctr K.HIF_FN_DROP + 1) % 2 ^ 64 ∧
      ∃ y, d.shut i = some y ∧ y.stage = .ended ∧ y.dropReason = some 5) := by
  have hexec : exec (.reedEnqueue i) s = doneH s (s.dev.fnDrop i) := (execReedEnqueue_reaches h).trans (if_pos hr)
  have hcause : ∀ up : Bool, (if up then Miss.hostCredit else Miss.shed) < 16 := by decide
  have hdrop : (s.dev.count K.HIF_FN_DROP).Dropped i 5 (s.dev.fnDrop i) :=
    Dev.discardMiss_dropped (d := s.dev.count K.HIF_FN_DROP) h.shut hended 5 (hcause _)
  refine .of_doneH _ hexec (hdrop.hif ▸ hf) (fun e he => ⟨?_, ?_⟩)
  · rw [he.ctr, hdrop.ctr _ ⟨.inl (by decide), .inl (by decide)⟩, Dev.ctr_count_self]
  · rw [he.shut]
    exact hdrop.shut

/-- A guaranteed frame takes its place in the deadline set of its egress point (R241). -/
theorem reedEnqueue_guaranteed (hr : s.dev.hostRefuses x = false) (hg : x.guaranteed = true) :
    exec (.reedEnqueue i) s = done s (s.dev.guarPlaced i x) :=
  (execReedEnqueue_reaches h).trans (by rw [hr, hg]; rfl)

variable (hr : s.dev.hostRefuses x = false) (hg : x.guaranteed = false) {k : Nat} {dflt : Bool} {q : RQueue}
  (hq : (s.dev.cfgOf x).queueFor (x.get S.DEST_PORT) (x.get S.DEST_QUEUE) = (k, dflt)) (hk : mapGet s.dev.reed.queues k = some q)
  (hf : s.dev.hif.faulted = [])
include hr hg

theorem reedEnqueue_queued : exec (.reedEnqueue i) s = doneH s (s.dev.enqueue i (x.get S.DEST_PORT) x) :=
  (execReedEnqueue_reaches h).trans (by rw [hr, hg]; rfl)

include hq hk hf

/-- An AS or BE frame with room joins the tail of its queue; its default queue, when it takes that, is counted and raised. -/
theorem reedEnqueue_joins (hroom : x.get S.DIR = 1 ∨ s.dev.queueDepth q + x.queueSize ≤ recGet q.record QR.LIMIT) : Yields (.reedEnqueue i) s (fun d =>
    mapGet d.reed.queues k = some { q with frames := q.frames ++ [i] } ∧ d.shuts = s.dev.shuts ∧ d.reed.deadlineSet = s.dev.reed.deadlineSet ∧
    (dflt = true → d.ctr (K.REED_NO_QUEUE (x.get S.DEST_PORT)) = (s.dev.ctr (K.REED_NO_QUEUE (x.get S.DEST_PORT)) + 1) % 2 ^ 64 ∧
      d.get F.REED_EVENT_NO_QUEUE = 1) ∧
    (dflt = false → d.bus = s.dev.bus)) := by
  have hexec := reedEnqueue_queued h hr hg
  rw [Dev.enqueue_of_queue hq hk, if_neg (by omega)] at hexec
  refine .of_doneH _ hexec (by rwa [Dev.modReed_hif, Dev.noQueueNoted_hif]) (fun e he => ⟨?queue, ?shuts, ?sets, ?noted, ?same⟩)
  case queue =>
    rw [he.reed]
    exact mapGet_mapPut_self _ _ _
  case shuts => rw [he.shuts, Dev.modReed_shuts, Dev.noQueueNoted_shuts]
  case sets => rw [he.reed, Dev.modReed_reed, Dev.noQueueNoted_reed]
  case noted =>
    rintro rfl
    rw [he.ctr, he.get]
    exact ⟨Dev.ctr_count_self _ _ _, Dev.get_raise_self _ _ (by decide) (by decide)⟩
  case same =>
    rintro rfl
    exact he.bus

/-- A network frame that would pass LIMIT is dropped, counted and raised, and its queue is as before. -/
theorem reedEnqueue_dropped (hdir : x.get S.DIR = 0) (hfull : recGet q.record QR.LIMIT < s.dev.queueDepth q + x.queueSize) (hended : x.ended = false)
    (hi : i ∉ q.frames) : Yields (.reedEnqueue i) s (fun d =>
      (d.rq k).frames = q.frames ∧ (d.rq k).drops = min (2 ^ 32 - 1) (q.drops + 1) ∧ d.get F.REED_EVENT_QUEUE_DROP = 1 ∧
      d.ctr (K.REED_QUEUE_DROP (x.get S.DEST_PORT)) = (s.dev.ctr (K.REED_QUEUE_DROP (x.get S.DEST_PORT)) + 1) % 2 ^ 64 ∧
      ∃ y, d.shut i = some y ∧ y.stage = .ended ∧ y.dropReason = some 6) := by
  have hexec := reedEnqueue_queued h hr hg
  rw [Dev.enqueue_of_queue hq hk, if_pos ⟨hdir, hfull⟩] at hexec
  have hp : x.get S.DEST_PORT < 16 := Nat.mod_lt _ (by decide)
  generalize x.get S.DEST_PORT = p at *
  have hctr := s.dev.noQueueNoted_ctr p dflt (k := K.REED_QUEUE_DROP p) (by simp only [K.REED_QUEUE_DROP, K.REED_NO_QUEUE]; omega)
  have hshut : (s.dev.noQueueNoted p dflt).shut i = some x := (Dev.noQueueNoted_shut _ _ _ i).trans h.shut
  have hhif : (s.dev.noQueueNoted p dflt).hif = s.dev.hif := Dev.noQueueNoted_hif _ _ _
  generalize s.dev.noQueueNoted p dflt = d at *
  have hdrop := Dev.discard_dropped (d := d.queueDropNoted p k q) hshut hended 6
  have hqueue : (d.queueDropNoted p k q).rq k = { q with drops := satAdd (2 ^ 32 - 1) q.drops 1 } := Dev.rq_of_mapGet (mapGet_mapPut_self _ _ _)
  obtain ⟨hframes, hdrops⟩ := (d.queueDropNoted p k q).rq_unqueue i k
  refine .of_doneH _ hexec ?hif (fun e he => ⟨?frames, ?drops, ?event, ?count, ?shut⟩)
  case hif =>
    rw [hdrop.hif]
    exact (congrArg Hif.faulted hhif).trans hf
  case frames =>
    rw [Dev.rq, he.reed, hdrop.reed, ← Dev.rq, hframes, hqueue]
    exact List.filter_eq_self.mpr (fun j hj => bne_iff_ne.mpr (fun e => hi (e ▸ hj)))
  case drops =>
    rw [Dev.rq, he.reed, hdrop.reed, ← Dev.rq, hdrops, hqueue]
    rfl
  case event =>
    rw [he.get, Dev.get_eq_of_word_eq (by decide) (hdrop.word 0x900000 (by decide) (by decide))]
    exact Dev.get_raise_self _ _ (by decide) (by decide)
  case count =>
    rw [he.ctr, hdrop.ctr _ (by simp only [missApart, K.REED_QUEUE_DROP]; omega), ← hctr]
    exact Dev.ctr_count_self _ _ _
  case shut =>
    rw [he.shut]
    exact hdrop.shut

end

end Sys2Proof.Machine
end

section
/-! PROOFS. REED_CHOOSE from the deadline set (R240, R241, R246, R363). -/
namespace Sys2Proof.Machine
open Sys2Proof

/-! ## A word of the packet buffer that is known bad (R363) -/

/-- Bytes stored within a list leave its length, and the bytes outside their place. -/
theorem patchBytes_outside {l b : List Byte} {off : Nat} (h : off + b.length ≤ l.length) :
    (patchBytes l off b).length = l.length ∧ ∀ k, k < off ∨ off + b.length ≤ k → (patchBytes l off b)[k]? = l[k]? := by
  have hfits : b.take (l.length - off) = b := List.take_of_length_le (by omega)
  rw [patchBytes, hfits]
  have hhead : (l.take off).length = off := by rw [List.length_take]; omega
  refine ⟨by simp only [List.length_append, hhead, List.length_drop]; omega, fun k hk => ?_⟩
  rcases hk with hk | hk
  · rw [List.append_assoc, List.getElem?_append_left (by omega), List.getElem?_take_of_lt hk]
  · rw [List.getElem?_append_right (by simp only [List.length_append]; omega), List.getElem?_drop, List.length_append, hhead]
    congr 1
    omega

/-- A shuttle whose frame has free bytes in the 8-byte word of a cell that holds a byte of it, and knows them bad. -/
def Shut.cellBad (x : Shut) (a : Nat) (v : Dword) : Shut :=
  { x.status St.fcsBad with
    frame := patchBytes x.frame (a / 8 * 8) (leBytes (min 8 (x.frame.length - a / 8 * 8)) v.toNat)
    badAt := x.badAt ++ [(a / 8 * 8, min 8 (x.frame.length - a / 8 * 8))] }

theorem Shut.cellBad_frame (x : Shut) {a : Nat} (v : Dword) (ha : a < x.frame.length) : (x.cellBad a v).frame.length = x.frame.length ∧
    ∀ k, k / 8 ≠ a / 8 → (x.cellBad a v).frame[k]? = x.frame[k]? := by
  obtain ⟨hlen, hout⟩ := patchBytes_outside (l := x.frame) (b := leBytes (min 8 (x.frame.length - a / 8 * 8)) v.toNat) (off := a / 8 * 8)
    (by rw [length_leBytes]; omega)
  have hlen' : (x.cellBad a v).frame.length = x.frame.length := hlen
  refine ⟨hlen', fun k hk => ?_⟩
  by_cases hin : k < x.frame.length
  · exact hout k (by rw [length_leBytes]; omega)
  · rw [List.getElem?_eq_none (by omega), List.getElem?_eq_none (by omega)]

theorem Dev.cellBad_of_shut {d : Dev} {i a : Nat} {x : Shut} (hx : d.shut i = some x) (ha : a < x.frame.length) :
    d.cellBad i a = d.fresh.2.putShut i (x.cellBad a d.fresh.1) := by
  simp only [Dev.cellBad, hx, ge_iff_le, if_neg (Nat.not_le.mpr ha)]
  rfl

/-! ## A chosen frame leaves for the lands of its port (R246) -/

/-- A shuttle as it leaves Reed for a port: marked when its frame came from the network and has not ended. -/
def Shut.released (x : Shut) : Shut := if !x.ended && x.get S.DIR == 0 then x.mark Fl.CUT_THROUGH else x

theorem Shut.mark_bytes (x : Shut) (b : Nat) : (x.mark b).frame = x.frame ∧ (x.mark b).badAt = x.badAt := ⟨rfl, rfl⟩

theorem Shut.released_bytes (x : Shut) : x.released.frame = x.frame ∧ x.released.badAt = x.badAt := by
  unfold Shut.released
  split
  · exact x.mark_bytes _
  · exact ⟨rfl, rfl⟩

theorem Shut.released_cutThrough {x : Shut} (h : x.ended = false) (hdir : x.get S.DIR = 0) : x.released.flag Fl.CUT_THROUGH = true := by
  rw [Shut.released, if_pos (by simp [h, hdir])]
  exact x.flag_mark_self (by decide)

/-- A frame is at the lands of its port as it left Reed; Reed and the host interface are as before, and of the counts only CT_RELEASES may have moved. -/
structure Dev.Released (p i : Nat) (x : Shut) (d e : Dev) : Prop where
  reed : e.reed = d.reed
  hif : e.hif = d.hif
  ctr : ∀ k, k ≠ K.REED_CT_RELEASES p → e.ctr k = d.ctr k
  shut : ∃ n, e.shut i = some { x.released with stage := .toLands, seq := n }

theorem Dev.release_port {d : Dev} {p i : Nat} {x : Shut} (hp : p ≤ 8) (hx : d.shut i = some x) (ring : Nat) : d.Released p i x (d.release p i ring) := by
  have hport : ¬ p ≥ 9 := by omega
  simp only [Dev.release, hx, if_neg hport]
  by_cases hct : (!x.ended && x.get S.DIR == 0) = true
  · simp only [hct, if_true]
    exact ⟨rfl, rfl, fun k hk => Dev.ctr_count_ne d _ 1 hk, _, by rw [Shut.released, if_pos hct]; exact Dev.shut_putShut_self _ _ _⟩
  · simp only [Bool.not_eq_true] at hct
    simp only [hct, Bool.false_eq_true, if_false]
    exact ⟨rfl, rfl, fun _ _ => rfl, _, by rw [Shut.released, hct, if_neg Bool.false_ne_true]; exact Dev.shut_putShut_self _ _ _⟩

/-- A frame of a port's deadline set that is chosen leaves Reed and is counted. -/
theorem Dev.chooseGuar_port {d : Dev} {p i : Nat} {x : Shut} (hp : p ≤ 8) (hx : d.shut i = some x) (y : Shut) :
    ((d.unqueue i).count (K.REED_GUAR_FRAMES p)).Released p i x (d.chooseGuar p i y) := by
  have hport : (decide (p ≥ 9)) = false := decide_eq_false (by omega)
  simp only [Dev.chooseGuar, hport, Bool.false_and, Bool.false_eq_true, if_false]
  exact Dev.release_port (d := (d.unqueue i).count (K.REED_GUAR_FRAMES p)) hp hx _

/-! ## A shuttle lost to an uncorrectable error (R363) -/

theorem Shut.status_ended (x : Shut) (c : Nat) : (x.status c).ended = x.ended := by
  unfold Shut.status
  split <;> rfl

/-- The loss of a shuttle whose frame has not ended is counted, and the frame is dropped. -/
theorem Dev.shuttleLost_dropped {d : Dev} {i : Nat} {x : Shut} (hx : d.shut i = some x) (hended : x.ended = false) :
    (d.shuttleLost i).hif = d.hif ∧ (d.shuttleLost i).ctr K.DRAM_SHUTTLE_LOST = (d.ctr K.DRAM_SHUTTLE_LOST + 1) % 2 ^ 64 ∧
      ∃ y, (d.shuttleLost i).shut i = some y ∧ y.stage = .ended ∧ y.dropReason = some 6 := by
  have hdropped : ∀ (e : Dev) (y : Shut), e.shut i = some y → y.ended = false → e.hif = d.hif → e.ctr = (d.count K.DRAM_SHUTTLE_LOST).ctr →
      (e.discardMiss i 6 Miss.fault).hif = d.hif ∧
      (e.discardMiss i 6 Miss.fault).ctr K.DRAM_SHUTTLE_LOST = (d.ctr K.DRAM_SHUTTLE_LOST + 1) % 2 ^ 64 ∧
      ∃ y, (e.discardMiss i 6 Miss.fault).shut i = some y ∧ y.stage = .ended ∧ y.dropReason = some 6 := fun e y hy hopen hhif hctr => by
    have hdrop := Dev.discardMiss_dropped hy hopen 6 (cause := Miss.fault) (by decide)
    refine ⟨hdrop.hif.trans hhif, ?_, hdrop.shut⟩
    rw [hdrop.ctr _ ⟨.inr (by decide), .inr (by decide)⟩, hctr, Dev.ctr_count_self]
  simp only [Dev.shuttleLost, hx]
  split
  · have hstatus : (d.count K.DRAM_SHUTTLE_LOST).setStatus i St.fcsBad = (d.count K.DRAM_SHUTTLE_LOST).putShut i (x.status St.fcsBad) := by
      have hcounted : (d.count K.DRAM_SHUTTLE_LOST).shut i = some x := hx
      simp only [Dev.setStatus, hcounted]
    rw [hstatus]
    exact hdropped _ _ (Dev.shut_putShut_self _ _ _) ((x.status_ended _).trans hended) rfl rfl
  · exact hdropped _ x hx hended rfl rfl

/-! ## REED_CHOOSE (R240, R241, R363) -/

/-- A port may choose now (R240, R379). -/
structure Dev.MayChoose (d : Dev) (p : Nat) : Prop where
  deciding : d.deciding = true
  port : p ≤ 8
  free : d.choiceHeld p = false
  due : d.choiceTime p = true
  link : d.get (F.PORT_STATUS_LINK p) = 1

/-- With the link down, before the lead time, in a decision gap, or with a choice in its hands a port chooses nothing. -/
theorem reedChoose_idle {s : State} {p : Nat} (e : PbufError) (h : s.dev.deciding = false ∨
      (p ≤ 8 ∧ (s.dev.get (F.PORT_STATUS_LINK p) = 0 ∨ s.dev.choiceTime p = false)) ∨ s.dev.choiceHeld p = true) :
    Yields (.reedChoose ⟨p, e⟩) s (fun d => d = s.dev) := by
  refine .of s.dev ?_ rfl
  change execReedChoose ⟨p, e⟩ s = _
  refine if_pos ?_
  simp only [Bool.or_eq_true, Bool.and_eq_true, Bool.not_eq_true', decide_eq_true_eq]
  obtain h | ⟨hp, h | h⟩ | h := h
  all_goals simp [*]

section
variable {s : State} {p : Nat} (h : s.dev.MayChoose p) (e : PbufError)
include h

/-- A port that may choose passes the conditions of a choice. -/
theorem Dev.MayChoose.passes : (!s.dev.deciding || decide (p > 10) || s.dev.choiceHeld p ||
    (decide (p ≤ 8) && (decide (s.dev.get (F.PORT_STATUS_LINK p) = 0) || !s.dev.choiceTime p))) = false := by
  obtain ⟨hdec, hp, hfree, hdue, hlink⟩ := h
  have hpoint : decide (p > 10) = false := decide_eq_false (by omega)
  simp [hdec, hfree, hdue, hlink, hpoint]

/-- The one frame of a deadline set is taken when it may leave. -/
theorem execReedChoose_guaranteed {i : Nat} {x : Shut} (hx : s.dev.shut i = some x) (hset : mapGetD s.dev.reed.deadlineSet p [] = [i])
    (hr : s.dev.releasable p x = true) :
    execReedChoose ⟨p, e⟩ s = doneH s (s.dev.chooseRead i e (fun d => d.chooseGuar p i ((d.shut i).getD x))) := by
  have hpass := h.passes
  simp only [execReedChoose, hpass, Bool.false_eq_true, if_false, hset, List.filterMap_cons, List.filterMap_nil, hx, Option.map_some, List.filter_cons,
    List.filter_nil, hr, if_true, Dev.reedFirst, List.foldl_cons, List.foldl_nil]

/-- An empty deadline set leaves the choice to the rounds. -/
theorem execReedChoose_rounds {hd : Head} {d' : Dev} {r : Nat} (hset : mapGetD s.dev.reed.deadlineSet p [] = [])
    (hheads : s.dev.headsOf p ((s.dev.reed.queues.filter (fun (q : Nat × RQueue) => !q.2.frames.isEmpty)).map (·.1)) = (s.dev, [hd]))
    (hround : s.dev.rounds p [hd] roundOrder = some (d', hd, r)) : execReedChoose ⟨p, .none⟩ s = doneH s (d'.chooseHead p hd r) := by
  have hpass := h.passes
  simp only [execReedChoose, hpass, Bool.false_eq_true, if_false, hset, List.filterMap_nil, List.filter_nil, Dev.reedFirst, List.foldl_nil, hheads, hround]
  rfl

end

/-- A frame that was alone in a deadline set leaves it empty. -/
theorem Dev.deadlineSet_left {d e : Dev} {p i : Nat} (h : mapGetD d.reed.deadlineSet p [] = [i]) (he : e.reed = (d.unqueue i).reed) :
    mapGetD e.reed.deadlineSet p [] = [] := by
  rw [he, Dev.deadlineSet_unqueue, h]
  simp

section
variable {s : State} {p i : Nat} {x : Shut} (h : s.dev.MayChoose p) (hf : s.dev.hif.faulted = []) (hx : s.dev.shut i = some x)
  (hset : mapGetD s.dev.reed.deadlineSet p [] = [i]) (hr : s.dev.releasable p x = true)
include h hf hx hset hr

/-- The frame chosen, read whole. -/
theorem reedChoose_guaranteed : Yields (.reedChoose ⟨p, .none⟩) s (fun d => mapGetD d.reed.deadlineSet p [] = [] ∧
    d.ctr (K.REED_GUAR_FRAMES p) = (s.dev.ctr (K.REED_GUAR_FRAMES p) + 1) % 2 ^ 64 ∧
    ∃ y, d.shut i = some y ∧ y.stage = .toLands ∧ y.frame = x.frame ∧ (x.ended = false → x.get S.DIR = 0 → y.flag Fl.CUT_THROUGH = true)) := by
  have hrel := Dev.chooseGuar_port h.port hx ((s.dev.shut i).getD x)
  have hexec : exec (.reedChoose ⟨p, .none⟩) s = doneH s (s.dev.chooseGuar p i ((s.dev.shut i).getD x)) := execReedChoose_guaranteed h .none hx hset hr
  refine .of_doneH _ hexec (hrel.hif ▸ hf) (fun e he => ⟨Dev.deadlineSet_left hset (he.reed.trans hrel.reed), ?count, ?shut⟩)
  case count =>
    rw [he.ctr, hrel.ctr _ (by simp only [K.REED_GUAR_FRAMES, K.REED_CT_RELEASES]; omega)]
    exact Dev.ctr_count_self _ _ _
  case shut =>
    obtain ⟨n, hn⟩ := hrel.shut
    exact ⟨_, (he.shut i).trans hn, rfl, x.released_bytes.1, x.released_cutThrough⟩

/-- The frame chosen, with one word of its bytes read bad. -/
theorem reedChoose_cellBad {a : Nat} (ha : a < x.frame.length) : Yields (.reedChoose ⟨p, .cell a⟩) s (fun d => mapGetD d.reed.deadlineSet p [] = [] ∧
    ∃ y, d.shut i = some y ∧ y.stage = .toLands ∧ y.frame.length = x.frame.length ∧ (∀ k, k / 8 ≠ a / 8 → y.frame[k]? = x.frame[k]?) ∧
      y.badAt = x.badAt ++ [(a / 8 * 8, min 8 (x.frame.length - a / 8 * 8))]) := by
  have hbad : (s.dev.cellBad i a).shut i = some (x.cellBad a s.dev.fresh.1) := by rw [Dev.cellBad_of_shut hx ha, Dev.shut_putShut_self]
  have hkept : (s.dev.cellBad i a).reed = s.dev.reed ∧ (s.dev.cellBad i a).hif = s.dev.hif := by
    rw [Dev.cellBad_of_shut hx ha]
    exact ⟨rfl, rfl⟩
  have hexec : exec (.reedChoose ⟨p, .cell a⟩) s = doneH s ((s.dev.cellBad i a).chooseGuar p i (((s.dev.cellBad i a).shut i).getD x)) :=
    execReedChoose_guaranteed h (.cell a) hx hset hr
  generalize s.dev.cellBad i a = d at hbad hkept hexec
  obtain ⟨hreed, hhif⟩ := hkept
  have hrel := Dev.chooseGuar_port h.port hbad ((d.shut i).getD x)
  have hleft : (d.chooseGuar p i ((d.shut i).getD x)).reed = (s.dev.unqueue i).reed := by
    rw [hrel.reed]
    simp only [Dev.count_reed, Dev.unqueue, Dev.modReed_reed, hreed]
  refine .of_doneH _ hexec ?_ (fun e he => ⟨Dev.deadlineSet_left hset (he.reed.trans hleft), ?_⟩)
  · rw [hrel.hif]
    exact (congrArg Hif.faulted hhif).trans hf
  · obtain ⟨n, hn⟩ := hrel.shut
    obtain ⟨hframe, hbadAt⟩ := (x.cellBad a s.dev.fresh.1).released_bytes
    obtain ⟨hlen, hout⟩ := x.cellBad_frame s.dev.fresh.1 ha
    exact ⟨_, (he.shut i).trans hn, rfl, (congrArg List.length hframe).trans hlen,
      fun k hk => (congrArg (fun l : List Byte => l[k]?) hframe).trans (hout k hk), hbadAt⟩

/-- The shuttle lost to the packet buffer (R363). -/
theorem reedChoose_lost (hended : x.ended = false) : Yields (.reedChoose ⟨p, .shuttle⟩) s (fun d =>
    d.ctr K.DRAM_SHUTTLE_LOST = (s.dev.ctr K.DRAM_SHUTTLE_LOST + 1) % 2 ^ 64 ∧ ∃ y, d.shut i = some y ∧ y.stage = .ended ∧ y.dropReason = some 6) := by
  have hexec : exec (.reedChoose ⟨p, .shuttle⟩) s = doneH s (s.dev.shuttleLost i) := execReedChoose_guaranteed h .shuttle hx hset hr
  obtain ⟨hhif, hctr, hshut⟩ := Dev.shuttleLost_dropped hx hended
  refine .of_doneH _ hexec (hhif ▸ hf) (fun e he => ⟨(he.ctr _).trans hctr, ?_⟩)
  rw [he.shut]
  exact hshut

end

end Sys2Proof.Machine
end

section
/-! PROOFS. REED_CHOOSE from the queues: a round with one head (R241 to R243), and the statement on placing and choosing (R18, R238 to R243, R310, R363). -/
namespace Sys2Proof.Machine
open Sys2Proof

/-! ## A round with one head (R241) -/

/-- A turn among one key is that key's. -/
theorem drr_one (k : Nat) (size quantum : Nat → Nat) (n : Nat) (add : Bool) (u : SMap Int) : (drr [k] size quantum n 0 add u).1 = k := by
  induction n generalizing add u with
  | zero => rfl
  | succ n ih =>
    have hnext : (0 + 1) % [k].length = 0 := Nat.mod_one _
    simp only [drr, List.getD_cons_zero, hnext]
    generalize mapGetD u k 0 + (if add = true then (quantum k : Int) else 0) = v
    split
    · rfl
    · exact ih _ _

theorem drrPick_one (k : Nat) (size quantum : Nat → Nat) (last : Option Nat) (u : SMap Int) : (drrPick [k] size quantum last u).1 = k := by
  have hfirst : ∀ f : Nat → Bool, ([k].findIdx? f).getD 0 = 0 ∧ ∀ j, [k].findIdx? f = some j → j = 0 := fun f => by
    cases hk : f k <;> simp [List.findIdx?_cons, hk]
  simp only [drrPick]
  split
  · exact drr_one _ _ _ _ _ _
  · split
    · next j hj =>
      rw [(hfirst _).2 j hj]
      exact drr_one _ _ _ _ _ _
    · rw [(hfirst _).1]
      exact drr_one _ _ _ _ _ _

/-- Deficits written back change the books of groups alone. -/
theorem Dev.putG_eq (d : Dev) (r : Nat) (u : SMap Int) : ∃ g, d.putG r u = { d with reed := { d.reed with groups := g } } := by
  unfold Dev.putG
  induction u generalizing d with
  | nil => exact ⟨_, rfl⟩
  | cons p t ih => exact ih (d.modReed _)

/-- Deficits written back change the books of queues alone. -/
theorem Dev.putQ_eq (d : Dev) (r : Nat) (u : SMap Int) : ∃ q, d.putQ r u = { d with reed := { d.reed with queues := q } } := by
  unfold Dev.putQ
  induction u generalizing d with
  | nil => exact ⟨_, rfl⟩
  | cons p t ih => exact ih (d.modRq _ _)

/-- The device with the books of queues and groups and the turns of the rounds replaced: what a round moves on. -/
def Dev.turned (d : Dev) (q : SMap RQueue) (g : SMap RGroup) (l : SMap Nat) : Dev :=
  { d with reed := { d.reed with queues := q, groups := g, lastQueue := l } }

/-- A round with one head serves it, and moves the turns and deficits on. -/
theorem Dev.roundPick_one (d : Dev) (p r tc : Nat) (h : Head) : ∃ q g l, d.roundPick p r tc [h] = some (d.turned q g l, h) := by
  unfold Dev.roundPick
  extract_lets size gs inner
  have hgroup : (drrPick gs (fun g => size (inner g).1) (fun g => 256 * recGet (d.groupRec g) GR.WEIGHT) (mapGet d.reed.lastQueue (turnG p r tc))
    (d.gDef r gs)).1 = h.g := drrPick_one _ _ _ _ _
  have hinner : (inner h.g).1 = h.q := by
    have hqueues : ([h].filter (fun x => x.g == h.g)).foldl (fun a x => insertKey a x.q) [] = [h.q] := by simp [insertKey]
    simp only [inner, hqueues]
    exact drrPick_one _ _ _ _ _
  generalize drrPick gs (fun g => size (inner g).1) _ _ _ = picked at hgroup ⊢
  obtain ⟨g, gu⟩ := picked
  obtain rfl : g = h.g := hgroup
  dsimp only
  generalize inner h.g = served at hinner ⊢
  obtain ⟨k, qu⟩ := served
  obtain rfl : k = h.q := hinner
  dsimp only
  have hfind : [h].find? (fun x => x.q == h.q) = some h := by simp
  obtain ⟨g, hg⟩ := d.putG_eq r (mapPut gu h.g (mapGetD gu h.g 0 - (size h.q : Int)))
  obtain ⟨q, hq⟩ := Dev.putQ_eq { d with reed := { d.reed with groups := g } } r (mapPut qu h.q (mapGetD qu h.q 0 - (size h.q : Int)))
  rw [hfind, hg, hq]
  exact ⟨_, _, _, rfl⟩

/-- With one head, which the committed round may serve, the rounds begin and end there. -/
theorem Dev.rounds_committed (d : Dev) {p : Nat} {h : Head} (hok : d.roundOk p 0 h = true) (htc : h.tc < 8) :
    d.rounds p [h] roundOrder = (d.roundPick p 0 h.tc [h]).map (fun x => (x.1, x.2, 0)) := by
  have hclasses : ∀ (classes : List Nat) (rest : List (Nat × Nat)), h.tc ∈ classes →
      d.rounds p [h] (classes.map (fun tc => (0, tc)) ++ rest) = (d.roundPick p 0 h.tc [h]).map (fun x => (x.1, x.2, 0)) := by
    intro classes rest hmem
    induction classes with
    | nil => cases hmem
    | cons tc t ih =>
      rw [List.map_cons, List.cons_append, Dev.rounds]
      by_cases heq : h.tc = tc
      · subst heq
        simp [hok]
      · have hskip : [h].filter (fun x => x.tc == tc && d.roundOk p 0 x) = [] := by simp [heq]
        simp only [hskip, List.isEmpty_nil, if_true]
        exact ih ((List.mem_cons.mp hmem).resolve_left heq)
  exact hclasses [7, 6, 5, 4, 3, 2, 1, 0] _ (by simp only [List.mem_cons, List.not_mem_nil, or_false]; omega)

/-- A committed head is AS, and its MIN shaper holds no debt (R241, R242). -/
theorem Dev.roundOk_committed {d : Dev} {p : Nat} {h : Head} {sh : Shaper} (hclass : h.s.get S.CLASS = 2) (hsh : mapGet d.reed.shMin h.q = some sh)
    (hcount : 0 ≤ sh.count) : d.roundOk p 0 h = true := by
  simp [Dev.roundOk, hclass, hsh, hcount]

/-! ## The charge of a chosen head (R243) -/

theorem mapGet_addBits_self {m : SMap Shaper} {k : Nat} {x : Shaper} (h : mapGet m k = some x) (bits : Int) :
    mapGet (addBits m k bits) k = some { x with count := x.count + bits } := by
  simp only [addBits, h, mapGet_mapPut_self]

/-- An AS head of a port out of its queue, its wire bytes paid by its queue's shapers, MIN included, and its bytes counted. -/
def Dev.committedCharged (d : Dev) (p : Nat) (h : Head) : Dev :=
  ((d.unqueue h.i).chargeBits p h.q true (-(8 * ((h.s.get S.LENGTH + 20 : Nat) : Int)))).count (K.REED_AS_COMMITTED_BYTES p) (h.s.get S.LENGTH)

/-- Such a head, served as committed, is charged and leaves for its port. -/
theorem Dev.chooseHead_committed (d : Dev) {p : Nat} {h : Head} (hp : p ≤ 8) (hclass : h.s.get S.CLASS = 2) (hlen : h.s.get S.LENGTH ≠ 0) :
    d.chooseHead p h 0 = (d.committedCharged p h).release p h.i (ringOfQ h.q) := by
  have hcharge : d.chargeLen p h.s = h.s.get S.LENGTH := if_pos hlen
  have hover : overhead p = 20 := if_neg (by omega)
  have hknown : decide (h.s.get S.LENGTH ≠ 0) = true := decide_eq_true hlen
  simp only [Dev.chooseHead, hcharge, hover, hknown, if_true, Dev.countBytes, hclass]
  rfl

/-- The MIN shaper pays 8 times LENGTH and 20 bytes. -/
theorem Dev.committedCharged_shMin {d : Dev} (p : Nat) {h : Head} {sh : Shaper} (hsh : mapGet d.reed.shMin h.q = some sh) :
    mapGet (d.committedCharged p h).reed.shMin h.q = some { sh with count := sh.count - 8 * ((h.s.get S.LENGTH : Int) + 20) } := by
  have hpaid : -(8 * ((h.s.get S.LENGTH + 20 : Nat) : Int)) = -(8 * ((h.s.get S.LENGTH : Int) + 20)) := by push_cast; rfl
  exact (mapGet_addBits_self hsh _).trans (by rw [hpaid, ← Int.sub_eq_add_neg])

/-! ## The statement -/

/-- One AS head under its committed rate is served (R241 to R243). -/
theorem reedChoose_committed {s : State} {p : Nat} {h : Head} {sh : Shaper} (hm : s.dev.MayChoose p) (hf : s.dev.hif.faulted = [])
    (hset : mapGetD s.dev.reed.deadlineSet p [] = [])
    (hheads : s.dev.headsOf p ((s.dev.reed.queues.filter (fun (q : Nat × RQueue) => !q.2.frames.isEmpty)).map (·.1)) = (s.dev, [h]))
    (hs : s.dev.shut h.i = some h.s) (htc : h.tc < 8) (hclass : h.s.get S.CLASS = 2) (hlen : h.s.get S.LENGTH ≠ 0)
    (hsh : mapGet s.dev.reed.shMin h.q = some sh) (hcount : 0 ≤ sh.count) :
    Yields (.reedChoose ⟨p, .none⟩) s (fun d => mapGet d.reed.shMin h.q = some { sh with count := sh.count - 8 * ((h.s.get S.LENGTH : Int) + 20) } ∧
      h.i ∉ (d.rq h.q).frames ∧ d.ctr (K.REED_AS_COMMITTED_BYTES p) = (s.dev.ctr (K.REED_AS_COMMITTED_BYTES p) + h.s.get S.LENGTH) % 2 ^ 64 ∧
      ∃ y, d.shut h.i = some y ∧ y.stage = .toLands ∧ y.frame = h.s.frame) := by
  obtain ⟨q, g, l, hpick⟩ := s.dev.roundPick_one p 0 h.tc h
  have hround : s.dev.rounds p [h] roundOrder = some (s.dev.turned q g l, h, 0) := by
    rw [Dev.rounds_committed _ (Dev.roundOk_committed hclass hsh hcount) htc, hpick]
    rfl
  have hexec : exec (.reedChoose ⟨p, .none⟩) s = doneH s ((s.dev.turned q g l).chooseHead p h 0) := execReedChoose_rounds hm hset hheads hround
  rw [Dev.chooseHead_committed _ hm.port hclass hlen] at hexec
  have hrel := Dev.release_port (d := (s.dev.turned q g l).committedCharged p h) hm.port hs (ringOfQ h.q)
  refine .of_doneH _ hexec (hrel.hif ▸ hf) (fun e he => ⟨?min, ?queue, ?bytes, ?shut⟩)
  case min =>
    rw [he.reed, hrel.reed]
    exact Dev.committedCharged_shMin p hsh
  case queue =>
    have hleft : (e.rq h.q).frames = _ :=
      (congrArg (fun r : Reed => (mapGetD r.queues h.q {}).frames) (he.reed.trans hrel.reed)).trans ((s.dev.turned q g l).rq_unqueue h.i h.q).1
    simp [hleft]
  case bytes =>
    rw [he.ctr, hrel.ctr _ (by simp only [K.REED_AS_COMMITTED_BYTES, K.REED_CT_RELEASES]; omega)]
    exact Dev.ctr_count_self _ _ _
  case shut =>
    obtain ⟨n, hn⟩ := hrel.shut
    exact ⟨_, (he.shut h.i).trans hn, rfl, h.s.released_bytes.1⟩

/-- Settles O37: a shuttle that reaches Reed by the host's right to it, its class and its queue's room; a choice by what the port may do, by its deadline
set, and by what the read of the frame meets. -/
theorem reedPlacesAndChoosesFrames : Obligations.ReedPlacesAndChoosesFrames := by
  unfold Obligations.ReedPlacesAndChoosesFrames
  refine ⟨?enqueue, fun s i x h => reedEnqueue_waits h, fun c p q hp => ⟨CfgSet.queueFor_named hp, CfgSet.queueFor_default hp⟩, ?guaranteed, ?heads,
    fun s p e h => reedChoose_idle e h⟩
  case enqueue =>
    intro s i x hx hstage hkept hnew hfirst hf
    have h : s.dev.ReachesReed i x := ⟨hx, hstage, hkept, hnew, hfirst⟩
    refine ⟨fun hp hm hended => ?refused, fun hg hr => ?placed, fun k dflt q hg hr hq hk => ⟨?joins, ?dropped⟩⟩
    case refused => exact reedEnqueue_refused h (by simp [Dev.hostRefuses, hp, hm]) hended hf
    case placed =>
      exact .of _ (reedEnqueue_guaranteed h (Dev.hostRefuses_false hr) hg) ⟨s.dev.guarPlaced_last x hnew, s.dev.guarPlaced_first x hnew,
        fun p hp => mapGet_mapPut_ne _ _ hp, rfl, Dev.shut_putShut_self _ _ _, fun j hj => Dev.shut_putShut_ne _ _ hj, rfl⟩
    case joins => exact reedEnqueue_joins h (Dev.hostRefuses_false hr) hg hq hk hf
    case dropped => exact reedEnqueue_dropped h (Dev.hostRefuses_false hr) hg hq hk hf
  case guaranteed =>
    intro s p i x hdec hp hfree hdue hlink hf hx hset hr
    have h : s.dev.MayChoose p := ⟨hdec, hp, hfree, hdue, hlink⟩
    exact ⟨fun a ha => reedChoose_cellBad h hf hx hset hr ha, reedChoose_lost h hf hx hset hr, reedChoose_guaranteed h hf hx hset hr⟩
  case heads =>
    intro s p h sh hdec hp hfree hdue hlink hf hset hheads hs htc hclass hlen hsh hcount
    exact reedChoose_committed ⟨hdec, hp, hfree, hdue, hlink⟩ hf hset hheads hs htc hclass hlen hsh hcount

end Sys2Proof.Machine
end

section
/-! PROOFS. How an instruction of a thread issues, and what it leaves (R260, R262, R267, R278, R280). -/
namespace Sys2Proof.Machine
open Sys2Proof

/-! ## The registers of a thread (R260) -/

section
variable (t : Thread) (v : Dword) {r q : Nat}

theorem Thread.reg_setReg_self (h : r ≠ 0) : (t.setReg r v).reg r = v := by simp [Thread.reg, Thread.setReg, h, mapGetD]

theorem Thread.reg_setReg_ne (h : q ≠ r) : (t.setReg r v).reg q = t.reg q := by
  unfold Thread.setReg
  split
  · rfl
  · simp only [Thread.reg, mapGetD, mapGet_mapPut_ne _ _ h]

/-- A register written changes the registers alone. -/
theorem Thread.setReg_eq (r : Nat) : t.setReg r v = { t with regs := (t.setReg r v).regs } := by
  unfold Thread.setReg
  split <;> rfl

variable (r)

@[simp] theorem Thread.run_setReg : (t.setReg r v).run = t.run := by rw [t.setReg_eq]
@[simp] theorem Thread.pc_setReg : (t.setReg r v).pc = t.pc := by rw [t.setReg_eq]
@[simp] theorem Thread.events_setReg : (t.setReg r v).events = t.events := by rw [t.setReg_eq]
@[simp] theorem Thread.recv_setReg : (t.setReg r v).recv = t.recv := by rw [t.setReg_eq]

end

/-! ## Changes of one thread -/

namespace Dev.OnlyThread
variable {d e f : Dev} {n : Nat} {t : Thread}

theorem refl (d : Dev) (n : Nat) : d.OnlyThread n (d.thread n) d := ⟨rfl, fun _ _ => rfl, rfl, rfl⟩

/-- A further change of the same thread. -/
theorem modThread (h : d.OnlyThread n t e) (g : Thread → Thread) : d.OnlyThread n (g t) (e.modThread n g) := by
  obtain ⟨hself, hne, hbarb, hrest⟩ := h
  exact ⟨by rw [Dev.thread_modThread_self, hself], fun m hm => (Dev.thread_modThread_ne _ _ _ hm).trans (hne m hm), hbarb, hrest⟩

theorem wreg (h : d.OnlyThread n t e) (r : Nat) (v : Dword) : d.OnlyThread n (t.setReg r v) (e.wreg n r v) := h.modThread _

/-- A pause may be judged after it (R69). -/
theorem pause (h : d.OnlyThread n t e) (hp : e.PauseOnly f) : d.OnlyThread n t f := by
  obtain ⟨⟨ports, out, rfl⟩, -⟩ := hp
  exact h

theorem thread (h : d.OnlyThread n t e) : e.thread n = t := h.1

theorem hif (h : d.OnlyThread n t e) : e.hif = d.hif := by
  obtain ⟨-, -, -, hrest⟩ := h
  exact (congrArg Dev.hif hrest : Dev.hif { e with barb := d.barb, net := d.net, out := d.out } = d.hif)

end Dev.OnlyThread

/-! ## Issue (R262, R278, R280) -/

/-- A device whose thread has issued an instruction: the STEP is used and the cost charged. -/
def Dev.issued (d : Dev) (n cost : Nat) : Dev :=
  (d.modThread n (fun t => { t with stepDue := false })).modThread n (fun t => { t with budget := t.budget.map (fun b => b - cost) })

/-- What the effect of an instruction leaves: the next word, another word, a fault, or a thread that waits. -/
def Dev.after (d : Dev) (n wd : Nat) : Eff → Dev
  | .ok e => e.modThread n (fun t => { t with pc := t.pc + 1 })
  | .jump e pc => e.modThread n (fun t => { t with pc := pc })
  | .fault cause => d.progFault n cause
  | .wait e w => e.modThread n (fun t => { t with run := 2, wait := w, wd := wd, pc := t.pc + 1 })

theorem Dev.onlyThread_issued (d : Dev) (n cost : Nat) : d.OnlyThread n ((d.thread n).charged cost) (d.issued n cost) :=
  ((OnlyThread.refl d n).modThread _).modThread _

@[simp] theorem Dev.thread_issued_self (d : Dev) (n cost : Nat) : (d.issued n cost).thread n = (d.thread n).charged cost :=
  (d.onlyThread_issued n cost).thread

@[simp] theorem Dev.modThread_hif (d : Dev) (n : Nat) (f : Thread → Thread) : (d.modThread n f).hif = d.hif := rfl
@[simp] theorem Dev.wreg_hif (d : Dev) (n r : Nat) (v : Dword) : (d.wreg n r v).hif = d.hif := rfl
@[simp] theorem Dev.issued_hif (d : Dev) (n cost : Nat) : (d.issued n cost).hif = d.hif := rfl

@[simp] theorem Dev.modThread_bus (d : Dev) (n : Nat) (f : Thread → Thread) : (d.modThread n f).bus = d.bus := rfl
@[simp] theorem Dev.wreg_bus (d : Dev) (n r : Nat) (v : Dword) : (d.wreg n r v).bus = d.bus := rfl
@[simp] theorem Dev.issued_bus (d : Dev) (n cost : Nat) : (d.issued n cost).bus = d.bus := rfl

theorem Dev.thread_issued_ne (d : Dev) {n m : Nat} (cost : Nat) (h : m ≠ n) : (d.issued n cost).thread m = d.thread m := by
  obtain ⟨-, hne, -⟩ := d.onlyThread_issued n cost
  exact hne m h

namespace Dev.CanIssue
variable {d : Dev} {c th cost : Nat} (h : d.CanIssue c th cost)
include h

theorem mono {cost' : Nat} (hle : cost' ≤ cost) : d.CanIssue c th cost' := by
  obtain ⟨hc, hth, hf, hi, hb⟩ := h
  exact ⟨hc, hth, hf, hi, fun b hbudget => hle.trans (hb b hbudget)⟩

theorem core : c < 64 := h.1
theorem issues : (d.thread (8 * c + th)).issues = true := by obtain ⟨-, -, -, hi, -⟩ := h; exact hi
theorem quiet : d.hif.faulted = [] := by obtain ⟨-, -, hf, -⟩ := h; exact hf

/-- An instruction that the budget covers and the context allows issues, and its effect follows. -/
theorem instr {okG : Bool} (hg : okG = true ∨ (d.thread (8 * c + th)).guar = false) (wd : Nat) (f : Dev → Thread → Eff) :
    d.instr c th wd cost okG f =
      (d.issued (8 * c + th) cost).after (8 * c + th) wd (f (d.issued (8 * c + th) cost) ((d.thread (8 * c + th)).charged cost)) := by
  obtain ⟨hc, hth, -, hi, hb⟩ := h
  have hruns : ¬ (decide (c ≥ 64) || decide (th ≥ 8) || !(d.thread (8 * c + th)).issues) = true := by
    simp [Nat.not_le.2 hc, Nat.not_le.2 hth, hi]
  have hguar : ¬ ((d.thread (8 * c + th)).guar && !okG) = true := by
    obtain hg | hg := hg
    · simp [hg]
    · simp [hg]
  rw [← d.thread_issued_self]
  unfold Dev.instr
  refine (if_neg hruns).trans ((if_neg hguar).trans ((if_neg ?_).trans rfl))
  cases hbudget : (d.thread (8 * c + th)).budget with
  | none => simp
  | some b => simpa using hb b hbudget

end Dev.CanIssue

/-- A thread that does not issue leaves the device as it is. -/
theorem Dev.instr_idle {d : Dev} {c th : Nat} (h : (d.thread (8 * c + th)).issues = false) (wd cost : Nat) (okG : Bool) (f : Dev → Thread → Eff) :
    d.instr c th wd cost okG f = d := by
  simp [Dev.instr, h]

/-- A command is an instruction that thread `n` issues at a cost, with an effect. -/
structure Issues (i : Instr) (s : State) (n cost wd : Nat) (eff : Eff) : Prop where
  exec : exec i s = doneH s ((s.dev.issued n cost).after n wd eff)
  quiet : s.dev.hif.faulted = []

namespace Issues
variable {i : Instr} {s : State} {n cost wd : Nat}

theorem of_instr {c th : Nat} {okG : Bool} {f : Dev → Thread → Eff} {eff : Eff} (h : s.dev.CanIssue c th cost)
    (hg : okG = true ∨ (s.dev.thread (8 * c + th)).guar = false) (hexec : Machine.exec i s = doneH s (s.dev.instr c th wd cost okG f))
    (he : f (s.dev.issued (8 * c + th) cost) ((s.dev.thread (8 * c + th)).charged cost) = eff) : Issues i s (8 * c + th) cost wd eff :=
  ⟨by rw [hexec, h.instr hg, he], h.quiet⟩

/-- What an instruction that goes on yields. -/
theorem yields {e : Dev} {P : Dev → Prop} (h : Issues i s n cost wd (.ok e)) (hif : e.hif = s.dev.hif)
    (hp : ∀ u, (e.modThread n (fun t => { t with pc := t.pc + 1 })).PauseOnly u → P u) : Yields i s P :=
  .of_doneH _ h.exec ((congrArg Hif.faulted hif).trans h.quiet) hp

/-- An instruction that changes its thread alone and goes on. -/
theorem only {e : Dev} {t : Thread} (h : Issues i s n cost wd (.ok e)) (ho : s.dev.OnlyThread n t e) :
    Yields i s (s.dev.OnlyThread n { t with pc := t.pc + 1 }) :=
  h.yields ho.hif (fun _ hu => (ho.modThread _).pause hu)

/-- An instruction that writes one register. -/
theorem reg {rd : Nat} {v : Dword} (h : Issues i s n cost wd (.ok ((s.dev.issued n cost).wreg n rd v))) : Yields i s (s.dev.RegDone n cost rd v) := by
  have hdone := h.only ((s.dev.onlyThread_issued n cost).wreg rd v)
  rw [Thread.pc_setReg] at hdone
  exact hdone

/-- An instruction that changes its thread alone and jumps. -/
theorem jump {e : Dev} {t : Thread} {pc : Nat} (h : Issues i s n cost wd (.jump e pc)) (ho : s.dev.OnlyThread n t e) :
    Yields i s (s.dev.OnlyThread n { t with pc := pc }) :=
  .of_doneH _ h.exec ((congrArg Hif.faulted ho.hif).trans h.quiet) (fun _ hu => (ho.modThread _).pause hu)

/-- What an instruction that waits yields. -/
theorem yields_wait {e : Dev} {w : Wait} {P : Dev → Prop} (h : Issues i s n cost wd (.wait e w)) (hif : e.hif = s.dev.hif)
    (hp : ∀ u, (e.modThread n (fun t => { t with run := 2, wait := w, wd := wd, pc := t.pc + 1 })).PauseOnly u → P u) : Yields i s P :=
  .of_doneH _ h.exec ((congrArg Hif.faulted hif).trans h.quiet) hp

/-- The thread that an instruction leaves which waits. -/
theorem thread_waiting {e u : Dev} {t : Thread} {w : Wait}
    (hu : (e.modThread n (fun t => { t with run := 2, wait := w, wd := wd, pc := t.pc + 1 })).PauseOnly u) (ht : e.thread n = t) :
    u.thread n = { t with run := 2, wait := w, wd := wd, pc := t.pc + 1 } := by
  rw [hu.thread, Dev.thread_modThread_self, ht]

/-- An instruction that waits, and changes nothing else. -/
theorem wait {w : Wait} (h : Issues i s n cost wd (.wait (s.dev.issued n cost) w)) : Yields i s (s.dev.WaitDone n cost wd w) :=
  h.yields_wait rfl (fun _ hu => thread_waiting hu (s.dev.thread_issued_self _ _))

/-- The thread that an instruction leaves which goes on. -/
theorem thread_next {e u : Dev} {t : Thread} (hu : (e.modThread n (fun t => { t with pc := t.pc + 1 })).PauseOnly u) (ht : e.thread n = t) :
    u.thread n = { t with pc := t.pc + 1 } := by
  rw [hu.thread, Dev.thread_modThread_self, ht]

/-- The thread that an instruction leaves which writes a register and goes on. -/
theorem thread_reg {e u : Dev} {t : Thread} {r : Nat} {v : Dword}
    (hu : ((e.wreg n r v).modThread n (fun t => { t with pc := t.pc + 1 })).PauseOnly u) (ht : e.thread n = t) :
    u.thread n = { t.setReg r v with pc := t.pc + 1 } := by
  have hreg : (e.wreg n r v).thread n = t.setReg r v := by rw [Dev.wreg, Dev.thread_modThread_self, ht]
  rw [thread_next hu hreg, Thread.pc_setReg]

end Issues

/-- What changes no core leaves the thread that issued. -/
theorem Dev.thread_of_issued {d e : Dev} {n cost : Nat} (h : e.barb = (d.issued n cost).barb) : e.thread n = (d.thread n).charged cost := by
  rw [← d.thread_issued_self, Dev.thread, h]
  rfl

/-- An instruction that only writes its register. -/
theorem Yields.regInstr {i : Instr} {s : State} {c th cost wd : Nat} {v : Thread → Dword} {w : Dword} (h : s.dev.CanIssue c th cost)
    (hexec : exec i s = doneH s (s.dev.regInstr c th wd cost v)) (hv : v ((s.dev.thread (8 * c + th)).charged cost) = w) :
    Yields i s (s.dev.RegDone (8 * c + th) cost wd w) :=
  (Issues.of_instr h (.inl rfl) hexec (congrArg (fun x => Eff.ok (Dev.wreg _ _ wd x)) hv)).reg

end Sys2Proof.Machine
end

section
/-! PROOFS. The end of a thread, and the fault of a thread that holds no shuttle (R272, R276, R282). -/
namespace Sys2Proof.Machine
open Sys2Proof

/-! ## The end of a thread (R272) -/

/-- The device with another list of held locks. -/
def Dev.withLocks (d : Dev) (l : SMap Lock) : Dev := d.modBarb (fun b => { b with locks := l })

/-- A lock released changes the list of locks alone. -/
theorem Dev.unlock_eq (d : Dev) (k : Nat) : ∃ l, d.unlock k = d.withLocks l := by
  unfold Dev.unlock
  split
  · exact ⟨d.barb.locks, rfl⟩
  · split
    · exact ⟨_, rfl⟩
    · exact ⟨_, rfl⟩

/-- Locks released one after another change the list of locks alone. -/
theorem Dev.foldl_unlock_eq (d : Dev) (ks : List Nat) : ∃ l, ks.foldl (fun d k => d.unlock k) d = d.withLocks l :=
  foldl_rel (r := fun d e => ∃ l, e = Dev.withLocks d l) (fun d => ⟨d.barb.locks, rfl⟩) (by rintro _ _ _ ⟨_, rfl⟩ ⟨l, rfl⟩; exact ⟨l, rfl⟩) ks
    (fun e k _ => e.unlock_eq k) d

/-- What the end of a thread leaves: the other threads, the host interface, every word but the events of the cores, the events below LOCK_LEAK, and every
count but that of leaked locks. -/
structure Dev.EndKept (d e : Dev) : Prop where
  hif : e.hif = d.hif
  word : ∀ a, a ≠ 0xB00000 → e.word a = d.word a
  event : ∀ k < 4, e.get ⟨0xB00000, k, 1⟩ = d.get ⟨0xB00000, k, 1⟩
  ctr : ∀ k, k ≠ K.BARB_LOCK_LEAKED → e.ctr k = d.ctr k

/-- The locks of a thread dropped. -/
theorem Dev.dropLocks_kept (d : Dev) (n : Nat) : (d.dropLocks n).barb.threads = d.barb.threads ∧ d.EndKept (d.dropLocks n) := by
  obtain ⟨l, hl⟩ := (d.withdrawLocks n).foldl_unlock_eq (d.locksOf n)
  simp only [Dev.dropLocks, hl]
  split
  · exact ⟨rfl, rfl, fun _ _ => rfl, fun _ _ => rfl, fun _ _ => rfl⟩
  · exact ⟨rfl, rfl, fun a ha => Dev.word_set _ _ _ _ ha (.inl (by decide)),
      fun k hk => Dev.get_set_disjoint _ _ (by decide) (by omega) (.inr (by omega)), fun k hk => Dev.ctr_count_ne _ _ _ hk⟩

theorem Dev.endKept_endThread (d : Dev) (n : Nat) : d.EndKept (d.endThread n) := by
  obtain ⟨-, hif, word, event, ctr⟩ := d.dropLocks_kept n
  exact ⟨hif, word, event, ctr⟩

@[simp] theorem Dev.thread_dropLocks (d : Dev) (n m : Nat) : (d.dropLocks n).thread m = d.thread m := by
  simp only [Dev.thread, (d.dropLocks_kept n).1]

theorem Dev.thread_endThread_self (d : Dev) (n : Nat) : (d.endThread n).thread n = (d.thread n).ended :=
  (Dev.thread_modThread_self _ _ _).trans (congrArg Thread.ended (d.thread_dropLocks n n))

theorem Dev.thread_endThread_ne (d : Dev) {n m : Nat} (h : m ≠ n) : (d.endThread n).thread m = d.thread m :=
  (Dev.thread_modThread_ne _ _ _ h).trans (d.thread_dropLocks n m)

/-! ## An event given to a thread (R276) -/

/-- An event may wake a core, and changes its thread. -/
theorem Dev.threadEvent_eq (d : Dev) {n : Nat} (bit : Nat) (h : n < 512) :
    ∃ w, d.threadEvent n bit = { d with dom := w }.modThread n (fun t => { t with events := t.events ||| 2 ^ bit }) := by
  have hwake : ∃ w, d.wake 0 (n / 8) = { d with dom := w } := by
    unfold Dev.wake
    split
    · exact ⟨_, rfl⟩
    · exact ⟨d.dom, rfl⟩
  obtain ⟨w, hw⟩ := hwake
  exact ⟨w, by rw [Dev.threadEvent, if_pos h, hw]⟩

theorem Dev.thread_threadEvent_ne (d : Dev) {n m : Nat} (bit : Nat) (h : n < 512) (hm : m ≠ n) : (d.threadEvent n bit).thread m = d.thread m := by
  obtain ⟨w, hw⟩ := d.threadEvent_eq bit h
  rw [hw, Dev.thread_modThread_ne _ _ _ hm]
  rfl

theorem Dev.threadEvent_bus (d : Dev) {n : Nat} (bit : Nat) (h : n < 512) : (d.threadEvent n bit).bus = d.bus := by
  obtain ⟨w, hw⟩ := d.threadEvent_eq bit h
  rw [hw]
  rfl

theorem Dev.threadEvent_hif (d : Dev) {n : Nat} (bit : Nat) (h : n < 512) : (d.threadEvent n bit).hif = d.hif := by
  obtain ⟨w, hw⟩ := d.threadEvent_eq bit h
  rw [hw]
  rfl

/-- An event given to a thread is set. -/
theorem Dev.testBit_threadEvent (d : Dev) {n : Nat} (bit : Nat) (h : n < 512) : ((d.threadEvent n bit).thread n).events.testBit bit = true := by
  rw [d.thread_threadEvent_self bit h]
  simp [Nat.testBit_or]

/-! ## What a fault notes (R282) -/

/-- A word of the entry that a log takes stands in the place that HEAD named, whether the log is full or not. -/
theorem Dev.logPut_word (d : Dev) {ix win words w : Nat} (entry : Nat) (h : win + 4 * words * 256 ≤ ix ∨ ix + 4 ≤ win) (hw : w < words) :
    ((d.logPut ix win words entry).word (win + 4 * words * d.get ⟨ix, 0, 8⟩ + 4 * w)).toNat = entry / 2 ^ (32 * w) % 2 ^ 32 := by
  rw [← Dev.logPlaced_word d entry h hw]
  have hout := index_outside_entry h (d.get_lt ⟨ix, 0, 8⟩)
  have hne : win + 4 * words * d.get ⟨ix, 0, 8⟩ + 4 * w ∉ [ix] := by
    rw [List.mem_singleton]
    omega
  have hhead := d.get_lt ⟨ix, 0, 8⟩
  have htail := d.get_lt ⟨ix, 8, 8⟩
  by_cases hfull : (d.get ⟨ix, 0, 8⟩ + 256 - d.get ⟨ix, 8, 8⟩) % 256 = 255
  · rw [Dev.logPut_full d ix win words entry hfull, sameWordsBut_set _ _ (by decide) _ hne, sameWordsBut_set _ _ (by decide) _ hne]
  · rw [Dev.logPut_room d ix win words entry (by omega)]

/-- The word of a BARB_LOG entry that holds the core, the thread and the cause. -/
theorem Dev.barbLog_word (d : Dev) {c th cause : Nat} (hc : c < 64) (hth : th < 8) (hcause : cause < 2 ^ 16) (pc program : Nat) :
    ((d.barbLog (8 * c + th) cause pc program).word (0xB00808 + 16 * d.get F.BARB_LOG_INDEX_HEAD)).toNat = c + 256 * th + 65536 * cause := by
  have hword := d.logPut_word (ix := 0xB00008) (win := 0xB00800) (words := 4) (w := 2) (d.nowNs % 2 ^ 64 + 2 ^ 64 * ((8 * c + th) / 8 % 64) +
    2 ^ 72 * ((8 * c + th) % 8) + 2 ^ 80 * cause + 2 ^ 96 * (pc % 2 ^ 16) + 2 ^ 112 * (program % 2 ^ 16)) (.inr (by decide)) (by decide)
  rw [show 0xB00808 + 16 * d.get F.BARB_LOG_INDEX_HEAD = 0xB00800 + 4 * 4 * d.get ⟨0xB00008, 0, 8⟩ + 4 * 2 by
    simp only [F.BARB_LOG_INDEX_HEAD]; omega]
  refine hword.trans ?_
  have hcore : (8 * c + th) / 8 % 64 = c := by omega
  have hthread : (8 * c + th) % 8 = th := by omega
  simp only [hcore, hthread, Nat.reduceMul]
  omega

/-- What a noted fault leaves: the threads and the host interface as they were, with the fault counted, raised and logged. -/
structure Dev.FaultNoted (c th cause : Nat) (d e : Dev) : Prop where
  barb : e.barb = d.barb
  hif : e.hif = d.hif
  counted : e.ctr K.BARB_PROGRAM_FAULT = (d.ctr K.BARB_PROGRAM_FAULT + 1) % 2 ^ 64
  raised : e.get F.BARB_EVENT_FAULT = 1
  logged : (e.word (0xB00808 + 16 * d.get F.BARB_LOG_INDEX_HEAD)).toNat = c + 256 * th + 65536 * cause

section
variable (d : Dev) {c th cause : Nat} (hc : c < 64) (hth : th < 8)

/-- A log entry changes the words alone. -/
theorem Dev.barbLog_eq (n cause pc program : Nat) : ∃ w, d.barbLog n cause pc program = { d with bus := { d.bus with words := w } } :=
  d.logPut_eq _ _ _ _

include hc hth

/-- The log entry, the count and the event of every fault. -/
theorem Dev.faultNoted_logged (hcause : cause < 2 ^ 16) (pc program : Nat) :
    FaultNoted c th cause d (((d.barbLog (8 * c + th) cause pc program).count K.BARB_PROGRAM_FAULT).raise F.BARB_EVENT_FAULT) := by
  have hlogged := d.barbLog_word hc hth hcause pc program
  obtain ⟨w, hw⟩ := d.barbLog_eq (8 * c + th) cause pc program
  refine ⟨by rw [hw]; rfl, by rw [hw]; rfl, ?_, Dev.get_raise_self _ _ (by decide) (by decide), ?_⟩
  · rw [Dev.raise_ctr, Dev.ctr_count_self, hw]
    rfl
  · rw [Dev.raise, Dev.word_set _ _ _ _ (by simp only [F.BARB_EVENT_FAULT]; omega) (.inl (by decide)), Dev.word_count, hlogged]

/-- A fault is noted with its log entry, its count and its event; an overrun of the budget with its own count and event besides (R280, R282). -/
theorem Dev.faultNoted_faultNote (hcause : cause < 2 ^ 16) : FaultNoted c th cause d (d.faultNote (8 * c + th) cause) := by
  have hnoted := d.faultNoted_logged hc hth hcause (d.thread (8 * c + th)).pc (d.programOf (8 * c + th))
  unfold Dev.faultNote
  dsimp only
  split
  · obtain ⟨barb, hif, counted, raised, logged⟩ := hnoted
    refine ⟨barb, hif, ?_, (Dev.get_raise_apart _ _ _ (by decide)).trans raised, ?_⟩
    · rw [Dev.raise_ctr, Dev.ctr_count_ne _ _ _ (by decide), counted]
    · rw [Dev.raise, Dev.word_set _ _ _ _ (by simp only [F.BARB_EVENT_BUDGET]; omega) (.inl (by decide)), Dev.word_count, logged]
  · exact hnoted

omit hc hth in
/-- An overrun of the budget is counted and raised. -/
theorem Dev.faultNote_budget (n : Nat) : (d.faultNote n Cause.budget).ctr K.BARB_BUDGET_OVERRUN = (d.ctr K.BARB_BUDGET_OVERRUN + 1) % 2 ^ 64 ∧
    (d.faultNote n Cause.budget).get F.BARB_EVENT_BUDGET = 1 := by
  obtain ⟨w, hw⟩ := d.barbLog_eq n Cause.budget (d.thread n).pc (d.programOf n)
  refine ⟨?_, Dev.get_raise_self _ _ (by decide) (by decide)⟩
  change (Dev.raise _ _).ctr _ = _
  rw [Dev.raise_ctr, Dev.ctr_count_self, Dev.raise_ctr, Dev.ctr_count_ne _ _ _ (by decide), hw]
  rfl

end

/-! ## The fault of a thread without a shuttle (R282) -/

/-- A thread whose fault ends it alone: not thread 0 of its core, and without a shuttle. -/
structure Dev.FaultsAlone (d : Dev) (c th : Nat) : Prop where
  core : c < 64
  thread : th < 8
  child : th ≠ 0
  free : (d.thread (8 * c + th)).shuttle = none

theorem Dev.CanIssue.alone {d : Dev} {c th cost : Nat} (h : d.CanIssue c th cost) (h0 : th ≠ 0) (hs : (d.thread (8 * c + th)).shuttle = none) :
    d.FaultsAlone c th := by
  obtain ⟨hc, hth, -⟩ := h
  exact ⟨hc, hth, h0, hs⟩

/-- The fault of such a thread is noted, ends it, and tells thread 0. -/
theorem Dev.FaultsAlone.progFault_eq {d : Dev} {c th : Nat} (h : d.FaultsAlone c th) (cause : Nat) :
    d.progFault (8 * c + th) cause = ((d.faultNote (8 * c + th) cause).endThread (8 * c + th)).threadEvent (8 * c) 5 := by
  obtain ⟨-, hth, h0, hs⟩ := h
  simp only [Dev.progFault, hs]
  rw [if_neg (by omega), show 8 * ((8 * c + th) / 8) = 8 * c by omega]

/-- The end of a faulting thread and the event of thread 0 leave what the note of the fault shows. -/
theorem Dev.endKept_told (d : Dev) {c : Nat} (n bit : Nat) (hc : c < 64) : d.EndKept ((d.endThread n).threadEvent (8 * c) bit) := by
  obtain ⟨hif, word, event, ctr⟩ := d.endKept_endThread n
  have hbus := (d.endThread n).threadEvent_bus (n := 8 * c) bit (by omega)
  exact ⟨((d.endThread n).threadEvent_hif bit (by omega)).trans hif, fun a ha => by rw [Dev.word, hbus]; exact word a ha,
    fun k hk => by rw [Dev.get, hbus]; exact event k hk, fun k hk => by rw [Dev.ctr, hbus]; exact ctr k hk⟩

/-- The fault of such a thread makes it IDLE, tells thread 0, and is counted, raised and logged with its cause. -/
theorem Dev.FaultsAlone.faultDone {d : Dev} {c th cause : Nat} (h : d.FaultsAlone c th) (hcause : cause < 2 ^ 16) :
    d.FaultDone c th cause (d.progFault (8 * c + th) cause) := by
  have heq := h.progFault_eq cause
  obtain ⟨hc, hth, h0, -⟩ := h
  obtain ⟨-, -, counted, raised, logged⟩ := d.faultNoted_faultNote hc hth hcause
  rw [heq]
  generalize d.faultNote (8 * c + th) cause = e at counted raised logged ⊢
  obtain ⟨-, word, event, ctr⟩ := e.endKept_told (8 * c + th) 5 hc
  refine ⟨?_, Dev.testBit_threadEvent _ 5 (by omega), (ctr _ (by decide)).trans counted, (event 0 (by decide)).trans raised,
    (congrArg BitVec.toNat (word _ (by omega))).trans logged⟩
  rw [Dev.thread_threadEvent_ne _ _ (by omega) (by omega), Dev.thread_endThread_self]
  rfl

theorem Dev.FaultsAlone.progFault_hif {d : Dev} {c th cause : Nat} (h : d.FaultsAlone c th) (hcause : cause < 2 ^ 16) :
    (d.progFault (8 * c + th) cause).hif = d.hif := by
  rw [h.progFault_eq cause]
  exact (Dev.endKept_told _ _ _ h.core).hif.trans (d.faultNoted_faultNote h.core h.thread hcause).hif

/-- An overrun of the budget by such a thread is counted and raised. -/
theorem Dev.FaultsAlone.overrun {d : Dev} {c th : Nat} (h : d.FaultsAlone c th) :
    (d.progFault (8 * c + th) Cause.budget).ctr K.BARB_BUDGET_OVERRUN = (d.ctr K.BARB_BUDGET_OVERRUN + 1) % 2 ^ 64 ∧
      (d.progFault (8 * c + th) Cause.budget).get F.BARB_EVENT_BUDGET = 1 := by
  obtain ⟨counted, raised⟩ := d.faultNote_budget (8 * c + th)
  rw [h.progFault_eq]
  obtain ⟨-, -, event, ctr⟩ := (d.faultNote (8 * c + th) Cause.budget).endKept_told (8 * c + th) 5 h.core
  exact ⟨(ctr _ (by decide)).trans counted, (event 1 (by decide)).trans raised⟩

/-- What a fault shows does not depend on the threads before it, nor on the pauses judged after it. -/
theorem Dev.FaultDone.transfer {d d' e u : Dev} {c th cause : Nat} (h : d'.FaultDone c th cause e) (hbus : d'.bus = d.bus) (hp : e.PauseOnly u) :
    d.FaultDone c th cause u := by
  obtain ⟨hrun, htold, hctr, hget, hword⟩ := h
  have hcount : d'.ctr K.BARB_PROGRAM_FAULT = d.ctr K.BARB_PROGRAM_FAULT := by rw [Dev.ctr, hbus]; rfl
  have hhead : d'.get F.BARB_LOG_INDEX_HEAD = d.get F.BARB_LOG_INDEX_HEAD := by rw [Dev.get, hbus]; rfl
  rw [hcount] at hctr
  rw [hhead] at hword
  exact ⟨by rw [hp.thread]; exact hrun, by rw [hp.thread]; exact htold, (hp.ctr _).trans hctr, (hp.get _).trans hget,
    by rw [Dev.word, hp.bus]; exact hword⟩

section
variable {i : Instr} {s : State} {c th cost wd cause : Nat} (ha : s.dev.FaultsAlone c th)
include ha

/-- Such a thread may fault where it stands once its instruction has issued. -/
theorem Dev.FaultsAlone.issued (cost : Nat) : (s.dev.issued (8 * c + th) cost).FaultsAlone c th := by
  obtain ⟨hc, hth, h0, hs⟩ := ha
  exact ⟨hc, hth, h0, by rw [Dev.thread_issued_self]; exact hs⟩

/-- An instruction that faults. -/
theorem Issues.fault (h : Issues i s (8 * c + th) cost wd (.fault cause)) (hcause : cause < 2 ^ 16) : Yields i s (s.dev.FaultDone c th cause) := by
  have hi := ha.issued cost
  exact .of_doneH _ h.exec ((congrArg Hif.faulted (hi.progFault_hif hcause)).trans h.quiet) (fun _ hu => (hi.faultDone hcause).transfer rfl hu)

end

end Sys2Proof.Machine
end

section
/-! PROOFS. The values of the arithmetic instructions, and the statement on them (R260, R267, R268, Table 2). -/
namespace Sys2Proof.Machine
open Sys2Proof

/-! ## Bytes of a number (R19) -/

theorem leNat_lt (l : List Byte) : leNat l < 256 ^ l.length := by
  induction l with
  | nil => simp [leNat]
  | cons b t ih =>
    have hb : b.toNat < 256 := b.isLt
    rw [leNat, List.length_cons, pow_succ]
    omega

/-- Byte `k` of the number that bytes spell. -/
theorem leNat_byte (l : List Byte) (k : Nat) (h : k < l.length) : leNat l / 256 ^ k % 256 = l[k].toNat := by
  induction l generalizing k with
  | nil => simp at h
  | cons b t ih =>
    have hb : b.toNat < 256 := b.isLt
    cases k with
    | zero => simp only [leNat, pow_zero, Nat.div_one, List.getElem_cons_zero]; omega
    | succ k =>
      rw [List.getElem_cons_succ, ← ih k (by simpa using h), leNat, pow_succ', ← Nat.div_div_eq_div_mul]
      congr 2
      omega

/-- Byte `k` of the bytes of a number. -/
theorem getElem_leBytes (n x k : Nat) (h : k < (leBytes n x).length) : (leBytes n x)[k] = BitVec.ofNat 8 (x / 256 ^ k) := by
  induction n generalizing x k with
  | zero => simp [leBytes] at h
  | succ n ih =>
    cases k with
    | zero => simp [leBytes]
    | succ k =>
      have hk : k < (leBytes n (x / 256)).length := by simpa [leBytes] using h
      simp only [leBytes, List.getElem_cons_succ]
      rw [ih _ _ hk, Nat.div_div_eq_div_mul, pow_succ']

theorem two_pow_byte (k : Nat) : 2 ^ (8 * k) = 256 ^ k := pow_mul 2 8 k

/-- Byte `k` of the bytes of a register, as a number. -/
theorem toNat_leBytes (n x k : Nat) (h : k < (leBytes n x).length) : (leBytes n x)[k].toNat = x / 2 ^ (8 * k) % 256 := by
  rw [getElem_leBytes, two_pow_byte, BitVec.toNat_ofNat]

/-- BSWAP reverses the eight bytes of a register. -/
theorem bswap_byte (x : Dword) {k : Nat} (h : k < 8) :
    (BitVec.ofNat 64 (beNat (regBytes x))).toNat / 2 ^ (8 * k) % 256 = x.toNat / 2 ^ (8 * (7 - k)) % 256 := by
  have hlen : (regBytes x).reverse.length = 8 := by simp [regBytes]
  have hlt : leNat (regBytes x).reverse < 2 ^ 64 := by
    have := leNat_lt (regBytes x).reverse
    rwa [hlen] at this
  rw [BitVec.toNat_ofNat, beNat, Nat.mod_eq_of_lt hlt, two_pow_byte, leNat_byte _ _ (by omega), List.getElem_reverse]
  simp only [regBytes, toNat_leBytes, length_leBytes]

/-! ## Shifts and sums of registers -/

theorem shiftLeft_eq_ofNat (x : Dword) (k : Nat) : x <<< k = BitVec.ofNat 64 (x.toNat * 2 ^ k) :=
  BitVec.eq_of_toNat_eq (by rw [BitVec.toNat_shiftLeft, BitVec.toNat_ofNat, Nat.shiftLeft_eq])

theorem ushiftRight_eq_ofNat (x : Dword) (k : Nat) : x >>> k = BitVec.ofNat 64 (x.toNat / 2 ^ k) := by
  refine BitVec.eq_of_toNat_eq ?_
  rw [BitVec.toNat_ushiftRight, BitVec.toNat_ofNat, Nat.shiftRight_eq_div_pow, Nat.mod_eq_of_lt (Nat.lt_of_le_of_lt (Nat.div_le_self _ _) x.isLt)]

theorem sshiftRight_eq_ofInt (x : Dword) (k : Nat) : x.sshiftRight k = BitVec.ofInt 64 (x.toInt / 2 ^ k) := by
  rw [BitVec.sshiftRight, Int.shiftRight_eq_div_pow]
  norm_cast

theorem mul_eq_ofNat (x y : Dword) : x * y = BitVec.ofNat 64 (x.toNat * y.toNat) :=
  BitVec.eq_of_toNat_eq (by rw [BitVec.toNat_mul, BitVec.toNat_ofNat])

/-- SHIN makes room for 16 bits, and puts IMM16 there. -/
theorem shin_eq_ofNat (x : Dword) (imm : BitVec 16) : (x <<< 16) ||| zext16 imm = BitVec.ofNat 64 (x.toNat * 65536 + imm.toNat) := by
  have himm : zext16 imm = BitVec.ofNat 64 imm.toNat := (BitVec.ofNat_toNat 64 imm).symm
  have hshift : x <<< 16 = BitVec.ofNat 64 (x.toNat <<< 16) := by rw [shiftLeft_eq_ofNat, Nat.shiftLeft_eq]
  rw [himm, hshift, ← BitVec.ofNat_or, ← Nat.shiftLeft_add_eq_or_of_lt imm.isLt, Nat.shiftLeft_eq]

/-! ## The statement -/

/-- SHI by the selector of its immediate. -/
theorem execShi_eq (c th wd wa : Nat) (imm : BitVec 16) (s : State) :
    (imm.toNat / 64 % 4 = 0 → execShi c th wd wa imm s = doneH s (s.dev.regInstr c th wd 1 (fun t => t.reg wa <<< (imm.toNat % 64)))) ∧
    (imm.toNat / 64 % 4 = 1 → execShi c th wd wa imm s = doneH s (s.dev.regInstr c th wd 1 (fun t => t.reg wa >>> (imm.toNat % 64)))) ∧
    (imm.toNat / 64 % 4 = 2 → execShi c th wd wa imm s = doneH s (s.dev.regInstr c th wd 1 (fun t => (t.reg wa).sshiftRight (imm.toNat % 64)))) ∧
    (imm.toNat / 64 % 4 = 3 → execShi c th wd wa imm s = doneH s (s.dev.instr c th wd 0 true (fun _ _ => .fault Cause.illegal))) := by
  refine ⟨fun h => ?_, fun h => ?_, fun h => ?_, fun h => ?_⟩ <;> simp only [execShi, h]

/-- Settles O39: each arithmetic instruction only writes its register, and the values agree with those of Table 2. -/
theorem arithmeticWritesOneRegister : Obligations.ArithmeticWritesOneRegister := by
  unfold Obligations.ArithmeticWritesOneRegister
  refine ⟨?instructions, fun t r v => ⟨rfl, rfl, t.reg_setReg_self v, fun q => t.reg_setReg_ne v⟩⟩
  case instructions =>
    rintro s c th wd wa wb imm sel t h rfl
    obtain ⟨hshl, hshr, hsar, -⟩ := execShi_eq c th wd wa imm s
    refine ⟨.regInstr h rfl rfl, .regInstr h rfl rfl, .regInstr h rfl rfl, .regInstr h rfl rfl, .regInstr h rfl rfl, ?shl, ?shr, ?sar, ?slt, ?sltu,
      ?bswap, .regInstr h rfl rfl, .regInstr h rfl rfl, .regInstr h rfl rfl, ?shiLeft, ?shiRight, ?shiArith, ?shin, .regInstr h rfl rfl,
      fun h2 => .regInstr h2 rfl rfl, fun h3 => .regInstr h3 rfl (mul_eq_ofNat _ _)⟩
    case shl => exact .regInstr h rfl (shiftLeft_eq_ofNat _ _)
    case shr => exact .regInstr h rfl (ushiftRight_eq_ofNat _ _)
    case sar => exact .regInstr h rfl (sshiftRight_eq_ofInt _ _)
    case slt => exact .regInstr h rfl (by simp [BitVec.slt]; rfl)
    case sltu => exact .regInstr h rfl (by simp [BitVec.ult]; rfl)
    case bswap => exact ⟨_, .regInstr h rfl rfl, fun k hk => bswap_byte _ hk⟩
    case shiLeft => exact fun hsel => .regInstr h (hshl hsel) (shiftLeft_eq_ofNat _ _)
    case shiRight => exact fun hsel => .regInstr h (hshr hsel) (ushiftRight_eq_ofNat _ _)
    case shiArith => exact fun hsel => .regInstr h (hsar hsel) (sshiftRight_eq_ofInt _ _)
    case shin => exact .regInstr h rfl (shin_eq_ofNat _ _)

end Sys2Proof.Machine
end

section
/-! PROOFS. Branches and jumps, illegal instructions, overrun budgets, threads that do not issue, and the statement on them (R262, R267 to R269, R280,
R282). -/
namespace Sys2Proof.Machine
open Sys2Proof

/-! ## Jumps inside the code region and outside it (R260, R268, R269) -/

section
variable {d : Dev} {c pc : Nat} {imm : BitVec 16}

theorem Dev.jumpTo_inside (h : pc < d.codeWords c) : d.jumpTo c pc = .jump d pc := by simp [Dev.jumpTo, Dev.codePc, h]

theorem Dev.jumpTo_outside (h : d.codeWords c ≤ pc) : d.jumpTo c pc = .fault Cause.range := by simp [Dev.jumpTo, Dev.codePc, h]

/-- What a displacement leads to from a word: a jump from `d`, or the fault of a target outside the code region. -/
def Dev.jumpBy (d : Dev) (c pc : Nat) (imm : BitVec 16) : Eff := if relNeg pc imm then .fault Cause.range else d.jumpTo c (relPc pc imm)

theorem Dev.jumpBy_inside (h0 : 0 ≤ (pc : Int) + 1 + imm.toInt) (h : (pc : Int) + 1 + imm.toInt < d.codeWords c) :
    d.jumpBy c pc imm = .jump d ((pc : Int) + 1 + imm.toInt).toNat := by
  rw [Dev.jumpBy, if_neg (by simpa [relNeg] using h0), relPc, Dev.jumpTo_inside (by omega)]

theorem Dev.jumpBy_outside (h : (pc : Int) + 1 + imm.toInt < 0 ∨ (d.codeWords c : Int) ≤ (pc : Int) + 1 + imm.toInt) :
    d.jumpBy c pc imm = .fault Cause.range := by
  obtain h | h := h
  · exact if_pos (by simpa [relNeg] using h)
  · rw [Dev.jumpBy, if_neg (by simp only [relNeg, decide_eq_true_eq]; omega), relPc, Dev.jumpTo_outside (by omega)]

end

/-! ## Conditional branches (R268) -/

/-- The command is a branch of a thread, under a condition on its two registers. -/
def Branches (i : Instr) (s : State) (c th ra rb : Nat) (imm : BitVec 16) (cond : Dword → Dword → Bool) : Prop :=
  exec i s = doneH s (s.dev.branch c th ra rb imm cond)

section
variable (s : State) (c th wd wa : Nat) (imm : BitVec 16)

theorem branches_beq : Branches (.beq c th wd wa imm) s c th wd wa imm (fun a b => a == b) := rfl
theorem branches_bne : Branches (.bne c th wd wa imm) s c th wd wa imm (fun a b => a != b) := rfl
theorem branches_bltu : Branches (.bltu c th wd wa imm) s c th wd wa imm (fun a b => a.ult b) := rfl
theorem branches_bgeu : Branches (.bgeu c th wd wa imm) s c th wd wa imm (fun a b => !a.ult b) := rfl

end

theorem not_ult_of_le {a b : Dword} (h : b.toNat ≤ a.toNat) : a.ult b = false := by simpa [BitVec.ult] using h

theorem ult_of_lt {a b : Dword} (h : a.toNat < b.toNat) : a.ult b = true := by simpa [BitVec.ult] using h

section
variable {d : Dev} {c th ra rb : Nat} {imm : BitVec 16} {cond : Dword → Dword → Bool}

theorem Dev.branch_passed (h : cond ((d.thread (8 * c + th)).reg ra) ((d.thread (8 * c + th)).reg rb) = false) :
    d.branch c th ra rb imm cond = d.instr c th 0 1 true (fun d _ => .ok d) := by
  simp only [Dev.branch, h, Bool.false_eq_true, if_false]

theorem Dev.branch_taken (h : cond ((d.thread (8 * c + th)).reg ra) ((d.thread (8 * c + th)).reg rb) = true) :
    d.branch c th ra rb imm cond = d.instr c th 0 2 true (fun d t => d.jumpBy c t.pc imm) := by
  simp only [Dev.branch, h, if_true]
  rfl

end

section
variable {i : Instr} {s : State} {c th ra rb : Nat} {imm : BitVec 16} {cond : Dword → Dword → Bool} {t : Thread}
  (hb : Branches i s c th ra rb imm cond) (ht : t = s.dev.thread (8 * c + th))
include hb ht

/-- A branch that is not taken costs 1 and goes on. -/
theorem Branches.passes (h : s.dev.CanIssue c th 1) (hcond : cond (t.reg ra) (t.reg rb) = false) :
    Yields i s (s.dev.JumpDone (8 * c + th) 1 (t.pc + 1)) := by
  subst ht
  have hissues : Issues i s (8 * c + th) 1 0 (.ok (s.dev.issued (8 * c + th) 1)) :=
    .of_instr h (.inl rfl) (hb.trans (congrArg (doneH s) (Dev.branch_passed hcond))) rfl
  exact hissues.only (s.dev.onlyThread_issued _ _)

variable (h : s.dev.CanIssue c th 2) (hcond : cond (t.reg ra) (t.reg rb) = true)
include h hcond

/-- A branch that is taken costs 2 and jumps by its displacement. -/
theorem Branches.taken : Issues i s (8 * c + th) 2 0 ((s.dev.issued (8 * c + th) 2).jumpBy c t.pc imm) := by
  subst ht
  exact .of_instr h (.inl rfl) (hb.trans (congrArg (doneH s) (Dev.branch_taken hcond))) rfl

theorem Branches.jumps (h0 : 0 ≤ (t.pc : Int) + 1 + imm.toInt) (h1 : (t.pc : Int) + 1 + imm.toInt < s.dev.codeWords c) :
    Yields i s (s.dev.JumpDone (8 * c + th) 2 ((t.pc : Int) + 1 + imm.toInt).toNat) := by
  have htaken := hb.taken ht h hcond
  rw [Dev.jumpBy_inside (d := s.dev.issued (8 * c + th) 2) h0 h1] at htaken
  exact htaken.jump (s.dev.onlyThread_issued _ _)

theorem Branches.leaves (hout : (t.pc : Int) + 1 + imm.toInt < 0 ∨ (s.dev.codeWords c : Int) ≤ (t.pc : Int) + 1 + imm.toInt)
    (hchild : th ≠ 0) (hfree : t.shuttle = none) : Yields i s (s.dev.FaultDone c th Cause.range) := by
  have htaken := hb.taken ht h hcond
  rw [Dev.jumpBy_outside (d := s.dev.issued (8 * c + th) 2) hout] at htaken
  exact htaken.fault (h.alone hchild (ht ▸ hfree)) (by decide)

end

/-! ## JAL and JR (R268) -/

section
variable {s : State} {c th : Nat} {t : Thread} (h : s.dev.CanIssue c th 2) (ht : t = s.dev.thread (8 * c + th))
include h ht

/-- JAL writes the next word to its register and jumps by its displacement. -/
theorem jal_issues (wd : Nat) (imm : BitVec 16) : Issues (.jal c th wd imm) s (8 * c + th) 2 wd
    (((s.dev.issued (8 * c + th) 2).wreg (8 * c + th) wd (BitVec.ofNat 64 (t.pc + 1))).jumpBy c t.pc imm) := by
  subst ht
  exact .of_instr h (.inl rfl) rfl rfl

theorem jr_issues (wa : Nat) : Issues (.jr c th wa) s (8 * c + th) 2 0 ((s.dev.issued (8 * c + th) 2).jumpTo c (t.reg wa).toNat) := by
  subst ht
  exact .of_instr h (.inl rfl) rfl rfl

end

/-! ## Instructions that the budget does not cover (R280) -/

/-- An instruction that costs more than what the budget holds faults with BUDGET. -/
theorem yields_overrun {i : Instr} {s : State} {c th wd cost : Nat} {f : Dev → Thread → Eff} (h : s.dev.CanIssue c th 0)
    (hchild : th ≠ 0) (hfree : (s.dev.thread (8 * c + th)).shuttle = none) (hbudget : (s.dev.thread (8 * c + th)).budget = some 0)
    (hexec : exec i s = doneH s (s.dev.instr c th wd cost true f)) (hcost : cost ≠ 0) :
    Yields i s (fun e => s.dev.FaultDone c th Cause.budget e ∧ e.ctr K.BARB_BUDGET_OVERRUN = (s.dev.ctr K.BARB_BUDGET_OVERRUN + 1) % 2 ^ 64 ∧
      e.get F.BARB_EVENT_BUDGET = 1) := by
  obtain ⟨d, hd⟩ : ∃ d, d = s.dev.modThread (8 * c + th) (fun t => { t with stepDue := false }) := ⟨_, rfl⟩
  have halone : d.FaultsAlone c th := by
    obtain ⟨hc, hth, h0, hs⟩ := h.alone hchild hfree
    exact ⟨hc, hth, h0, by rw [hd, Dev.thread_modThread_self]; exact hs⟩
  have hfault : s.dev.instr c th wd cost true f = d.progFault (8 * c + th) Cause.budget := by
    have hruns := h.issues
    obtain ⟨hc, hth, -⟩ := h
    simp only [Dev.instr, ge_iff_le, Nat.not_le.2 hc, Nat.not_le.2 hth, hruns, hbudget, Nat.pos_of_ne_zero hcost, ← hd, decide_false, decide_true,
      Bool.not_true, Bool.or_false, Bool.and_false, Bool.false_eq_true, if_false, if_true]
  rw [hfault] at hexec
  have hbus : d.bus = s.dev.bus := by rw [hd]; rfl
  have hhif : d.hif = s.dev.hif := by rw [hd]; rfl
  obtain ⟨counted, raised⟩ := halone.overrun
  have hcount : d.ctr K.BARB_BUDGET_OVERRUN = s.dev.ctr K.BARB_BUDGET_OVERRUN := by rw [Dev.ctr, hbus]; rfl
  exact .of_doneH _ hexec ((congrArg Hif.faulted ((halone.progFault_hif (by decide)).trans hhif)).trans h.quiet) (fun u hu =>
    ⟨(halone.faultDone (by decide)).transfer hbus hu, by rw [hu.ctr, counted, hcount], (hu.get _).trans raised⟩)

/-- An instruction of a thread that does not issue changes nothing. -/
theorem yields_idle {i : Instr} {s : State} {c th wd cost : Nat} {okG : Bool} {f : Dev → Thread → Eff} (hq : s.dev.hif.faulted = [])
    (h : (s.dev.thread (8 * c + th)).issues = false) (hexec : exec i s = doneH s (s.dev.instr c th wd cost okG f)) :
    Yields i s (fun e => { e with net := s.dev.net, out := s.dev.out } = s.dev) := by
  rw [Dev.instr_idle h] at hexec
  exact .of_doneH _ hexec hq (fun _ he => he.eq)

/-! ## Illegal instructions (R268) -/

/-- An access of a reserved size is no instruction. -/
theorem Dev.memInstr_reserved (d : Dev) (c th wd wa : Nat) {sz : Nat} (disp : BitVec 13) (f : Dev → Thread → Nat → Nat → Eff) (h : 4 ≤ sz) :
    d.memInstr c th wd wa sz disp f = d.instr c th wd 0 true (fun _ _ => .fault Cause.illegal) := if_pos h

section
variable {i : Instr} {s : State} {c th wd : Nat} (h : s.dev.CanIssue c th 0) (ha : s.dev.FaultsAlone c th)
include h ha

theorem yields_illegal (hexec : exec i s = doneH s (s.dev.instr c th wd 0 true (fun _ _ => .fault Cause.illegal))) :
    Yields i s (s.dev.FaultDone c th Cause.illegal) :=
  Issues.fault ha (.of_instr h (.inl rfl) hexec rfl) (by decide)

theorem yields_reserved {wa sz : Nat} {disp : BitVec 13} {f : Dev → Thread → Nat → Nat → Eff} (hsz : 4 ≤ sz)
    (hexec : exec i s = doneH s (s.dev.memInstr c th wd wa sz disp f)) : Yields i s (s.dev.FaultDone c th Cause.illegal) :=
  yields_illegal h ha (hexec.trans (congrArg (doneH s) (s.dev.memInstr_reserved _ _ _ _ _ _ hsz)))

end

/-! ## The statement -/

/-- Settles O40: a branch or jump by where it leads, a fault by its cause, and a thread that does not issue. -/
theorem branchesJumpAndFaultsEndThreads : Obligations.BranchesJumpAndFaultsEndThreads := by
  unfold Obligations.BranchesJumpAndFaultsEndThreads
  refine ⟨?taken, ?passed, ?illegal, ?overrun, ?idle, fun _ => rfl⟩
  case taken =>
    rintro s c th wd wa imm t go h ht rfl
    refine ⟨fun h0 h1 => ⟨?_, ?_, ?_, ?_, ?_⟩, fun hout hchild hfree => ⟨?_, ?_, ?_, ?_, ?_⟩, fun hin => ?_, fun hout hchild hfree => ?_⟩
    · exact fun hc => (branches_beq s c th wd wa imm).jumps ht h (beq_iff_eq.2 hc) h0 h1
    · exact fun hc => (branches_bne s c th wd wa imm).jumps ht h (bne_iff_ne.2 hc) h0 h1
    · exact fun hc => (branches_bltu s c th wd wa imm).jumps ht h (ult_of_lt hc) h0 h1
    · exact fun hc => (branches_bgeu s c th wd wa imm).jumps ht h (by rw [not_ult_of_le hc]; rfl) h0 h1
    · have hjal := jal_issues h ht wd imm
      rw [Dev.jumpBy_inside (d := (s.dev.issued (8 * c + th) 2).wreg (8 * c + th) wd _) h0 h1, ht] at hjal
      exact ht ▸ hjal.jump ((s.dev.onlyThread_issued _ _).wreg _ _)
    · exact fun hc => (branches_beq s c th wd wa imm).leaves ht h (beq_iff_eq.2 hc) hout hchild hfree
    · exact fun hc => (branches_bne s c th wd wa imm).leaves ht h (bne_iff_ne.2 hc) hout hchild hfree
    · exact fun hc => (branches_bltu s c th wd wa imm).leaves ht h (ult_of_lt hc) hout hchild hfree
    · exact fun hc => (branches_bgeu s c th wd wa imm).leaves ht h (by rw [not_ult_of_le hc]; rfl) hout hchild hfree
    · have hjal := jal_issues h ht wd imm
      rw [Dev.jumpBy_outside (d := (s.dev.issued (8 * c + th) 2).wreg (8 * c + th) wd _) hout] at hjal
      exact hjal.fault (h.alone hchild (ht ▸ hfree)) (by decide)
    · have hjr := jr_issues h ht wa
      rw [Dev.jumpTo_inside (d := s.dev.issued (8 * c + th) 2) hin] at hjr
      exact hjr.jump (s.dev.onlyThread_issued _ _)
    · have hjr := jr_issues h ht wa
      rw [Dev.jumpTo_outside (d := s.dev.issued (8 * c + th) 2) hout] at hjr
      exact hjr.fault (h.alone hchild (ht ▸ hfree)) (by decide)
  case passed =>
    intro s c th wd wa imm t h ht
    refine ⟨fun hc => ?_, fun hc => ?_, fun hc => ?_, fun hc => ?_⟩
    · exact (branches_beq s c th wd wa imm).passes ht h (beq_eq_false_iff_ne.2 hc)
    · exact (branches_bne s c th wd wa imm).passes ht h (bne_eq_false_iff_eq.2 hc)
    · exact (branches_bltu s c th wd wa imm).passes ht h (not_ult_of_le hc)
    · exact (branches_bgeu s c th wd wa imm).passes ht h (by rw [ult_of_lt hc]; rfl)
  case illegal =>
    intro s c th wd wa sz imm disp i h hchild hfree hi
    have ha := h.alone hchild hfree
    obtain rfl | ⟨rfl, hsel⟩ | ⟨hsz, hi⟩ := hi
    · exact yields_illegal h ha rfl
    · obtain ⟨-, -, -, hshi⟩ := execShi_eq c th wd wa imm s
      exact yields_illegal h ha (hshi hsel)
    · simp only [List.mem_cons, List.not_mem_nil, or_false] at hi
      obtain rfl | rfl | rfl | rfl | rfl | rfl := hi
      all_goals exact yields_reserved h ha hsz rfl
  case overrun =>
    intro s c th wd wa wb imm i h hchild hfree hbudget hi
    simp only [List.mem_cons, List.not_mem_nil, or_false] at hi
    obtain rfl | rfl | rfl | rfl | rfl | rfl | rfl := hi
    on_goal 5 => exact yields_overrun h hchild hfree hbudget rfl (by split <;> decide)
    all_goals exact yields_overrun h hchild hfree hbudget rfl (by decide)
  case idle =>
    intro s c th wd wa wb imm i hq h hi
    simp only [List.mem_cons, List.not_mem_nil, or_false] at hi
    obtain rfl | rfl | rfl | rfl | rfl | rfl | rfl := hi
    all_goals exact yields_idle hq h rfl

end Sys2Proof.Machine
end

section
/-! PROOFS. Loads and stores, and the statement on them (R260, R265, R267, R269, Table 3). -/
namespace Sys2Proof.Machine
open Sys2Proof

/-! ## Bytes stored in a table -/

theorem mapGet_mapBytes_outside (m : SMap Byte) (a : Nat) (l : List Byte) {b : Nat} (h : b < a ∨ a + l.length ≤ b) :
    mapGet (mapBytes m a l) b = mapGet m b := by
  induction l generalizing m a with
  | nil => rfl
  | cons x t ih =>
    rw [List.length_cons] at h
    rw [mapBytes, ih _ _ (by omega), mapGet_mapPut_ne _ _ (by omega)]

theorem mapGet_mapBytes_inside (m : SMap Byte) (a : Nat) (l : List Byte) (k : Nat) (h : k < l.length) :
    mapGet (mapBytes m a l) (a + k) = some l[k] := by
  induction l generalizing m a k with
  | nil => simp at h
  | cons x t ih =>
    cases k with
    | zero => rw [mapBytes, mapGet_mapBytes_outside _ _ _ (by omega), Nat.add_zero, mapGet_mapPut_self, List.getElem_cons_zero]
    | succ k => rw [mapBytes, show a + (k + 1) = a + 1 + k by omega, ih, List.getElem_cons_succ]

/-! ## Local memory after a store (R260) -/

section
variable (d : Dev) (c a : Nat) (l : List Byte)

/-- A stored byte reads what was stored. -/
theorem Dev.localByte_localWrite_inside (k : Nat) (h : k < l.length) : (d.localWrite c a l).localByte c (a + k) = l[k] := by
  simp [Dev.localByte, Dev.localWrite, mapGetD, mapGet_mapBytes_inside _ _ _ _ h]

/-- Another byte of the core is as before. -/
theorem Dev.localByte_localWrite_outside {b : Nat} (h : b < a ∨ a + l.length ≤ b) : (d.localWrite c a l).localByte c b = d.localByte c b := by
  simp only [Dev.localByte, Dev.localWrite, Dev.modBarb_barb, mapGetD, mapGet_mapPut_self, Option.getD_some, mapGet_mapBytes_outside _ _ _ h]
  rfl

/-- Another core's memory is as before. -/
theorem Dev.localByte_localWrite_core {k : Nat} (b : Nat) (h : k ≠ c) : (d.localWrite c a l).localByte k b = d.localByte k b := by
  simp only [Dev.localByte, Dev.localWrite, Dev.modBarb_barb, mapGetD, mapGet_mapPut_ne _ _ h]
  rfl

end

theorem Dev.PauseOnly.localByte {d e : Dev} (h : d.PauseOnly e) (c a : Nat) : e.localByte c a = d.localByte c a := by
  obtain ⟨⟨ports, out, rfl⟩, -⟩ := h
  rfl

/-! ## The window of a thread (R265, R267) -/

/-- A place in the frame window, within bytes 0 to 127 in guaranteed context. -/
theorem Thread.frameCheck_inside {t : Thread} {k a n : Nat} (hs : t.shuttle = some k) (hin : a + n ≤ 256) (hguar : t.guar = true → a + n ≤ 128) :
    (t.charged 1).frameCheck a n = none := by
  have hsome : ¬ ((t.charged 1).shuttle.isNone || decide (a + n > 256)) = true := by simp [Thread.charged, hs, hin]
  have hplace : ¬ ((t.charged 1).guar && decide (a + n > 128)) = true := by simpa [Thread.charged] using hguar
  exact (if_neg hsome).trans (if_neg hplace)

/-- The shuttle of a thread that has issued. -/
theorem Dev.shut_issued {d : Dev} {t : Thread} {k : Nat} {x : Shut} (n : Nat) (hs : t.shuttle = some k) (hx : d.shut k = some x) :
    (d.issued n 1).shut ((t.charged 1).shuttle.getD 0) = some x := by
  have hget : (t.charged 1).shuttle.getD 0 = k := by simp [Thread.charged, hs]
  rw [hget]
  exact hx

theorem Shut.arrived_of {x : Shut} {stop : Nat} (h : x.ended = true ∨ stop ≤ x.frame.length) : x.arrived stop = true := by simpa [Shut.arrived] using h

/-! ## Accesses by their address (R267, R269) -/

section
variable {i : Instr} {s : State} {c th wd wa sz a : Nat} {disp : BitVec 13} {t : Thread} {f : Dev → Thread → Nat → Nat → Eff}
  (h : s.dev.CanIssue c th 1) (hsz : sz < 4) (ht : t = s.dev.thread (8 * c + th)) (haddr : a = (t.reg wa + disp.zeroExtend 64).toNat)
include h hsz ht haddr

/-- An aligned access has the effect of its space. -/
theorem Issues.of_mem {eff : Eff} (halign : a % 2 ^ sz = 0) (hexec : Machine.exec i s = doneH s (s.dev.memInstr c th wd wa sz disp f))
    (he : f (s.dev.issued (8 * c + th) 1) (t.charged 1) a (2 ^ sz) = eff) : Issues i s (8 * c + th) 1 wd eff := by
  subst ht haddr
  rw [Dev.memInstr, if_neg (by omega)] at hexec
  exact .of_instr h (.inl rfl) hexec ((if_neg (not_not_intro halign)).trans he)

/-- An access that is not aligned to its size faults. -/
theorem yields_misaligned (ha : s.dev.FaultsAlone c th) (halign : a % 2 ^ sz ≠ 0)
    (hexec : exec i s = doneH s (s.dev.memInstr c th wd wa sz disp f)) : Yields i s (s.dev.FaultDone c th Cause.align) := by
  subst ht haddr
  rw [Dev.memInstr, if_neg (by omega)] at hexec
  exact Issues.fault ha (.of_instr h (.inl rfl) hexec (if_pos halign)) (by decide)

variable (halign : a % 2 ^ sz = 0)
include halign

/-! ## LD and ST -/

theorem ld_loads (hok : s.dev.localOk c a (2 ^ sz) = true) :
    Yields (.ld c th wd wa sz disp) s (s.dev.RegDone (8 * c + th) 1 wd (BitVec.ofNat 64 (leNat (s.dev.localBytes c a (2 ^ sz))))) :=
  Issues.reg (.of_mem h hsz ht haddr halign rfl (if_pos hok))

/-- ST stores the low bytes of its register, and leaves every other byte of local memory. -/
theorem st_stores (hok : s.dev.localOk c a (2 ^ sz) = true) :
    Yields (.st c th wd wa sz disp) s (fun e => e.thread (8 * c + th) = { t.charged 1 with pc := t.pc + 1 } ∧
      (∀ k < 2 ^ sz, (e.localByte c (a + k)).toNat = (t.reg wd).toNat / 2 ^ (8 * k) % 256) ∧
      (∀ b, b < a ∨ a + 2 ^ sz ≤ b → e.localByte c b = s.dev.localByte c b) ∧ (∀ k b, k ≠ c → e.localByte k b = s.dev.localByte k b) ∧
      e.shuts = s.dev.shuts ∧ e.bus = s.dev.bus) := by
  have hst : Issues (.st c th wd wa sz disp) s (8 * c + th) 1 wd
      (.ok ((s.dev.issued (8 * c + th) 1).localWrite c a (leBytes (2 ^ sz) (t.reg wd).toNat))) := .of_mem h hsz ht haddr halign rfl (if_pos hok)
  have hlen := length_leBytes (2 ^ sz) (t.reg wd).toNat
  have hbytes := toNat_leBytes (2 ^ sz) (t.reg wd).toNat
  generalize leBytes (2 ^ sz) (t.reg wd).toNat = l at hst hlen hbytes
  obtain ⟨d, hd⟩ : ∃ d, d = s.dev.issued (8 * c + th) 1 := ⟨_, rfl⟩
  have hthread : d.thread (8 * c + th) = t.charged 1 := by rw [hd, ht, Dev.thread_issued_self]
  have hlocal : ∀ k b, s.dev.localByte k b = d.localByte k b := fun _ _ => by rw [hd]; rfl
  have hshuts : s.dev.shuts = d.shuts := by rw [hd]; rfl
  have hbus : s.dev.bus = d.bus := by rw [hd]; rfl
  have hhif : d.hif = s.dev.hif := by rw [hd]; rfl
  rw [← hd] at hst
  simp only [hlocal, hshuts, hbus]
  refine hst.yields hhif (fun u hu => ⟨Issues.thread_next hu hthread, fun k hk => ?_, fun b hb => ?_, fun k b hk => ?_, hu.shuts, hu.bus⟩)
  · have hbyte : u.localByte c (a + k) = l[k] := (hu.localByte _ _).trans (d.localByte_localWrite_inside c a l k (hlen.symm ▸ hk))
    rw [hbyte, hbytes]
  · exact (hu.localByte _ _).trans (d.localByte_localWrite_outside c a l (by rw [hlen]; exact hb))
  · exact (hu.localByte _ _).trans (d.localByte_localWrite_core c a l b hk)

/-- An access outside the data region faults. -/
theorem local_outside (ha : s.dev.FaultsAlone c th) (hout : s.dev.localOk c a (2 ^ sz) = false) :
    Yields (.ld c th wd wa sz disp) s (s.dev.FaultDone c th Cause.range) ∧ Yields (.st c th wd wa sz disp) s (s.dev.FaultDone c th Cause.range) :=
  have hne : ¬ s.dev.localOk c a (2 ^ sz) = true := by simp [hout]
  ⟨Issues.fault ha (.of_mem h hsz ht haddr halign rfl (if_neg hne)) (by decide),
    Issues.fault ha (.of_mem h hsz ht haddr halign rfl (if_neg hne)) (by decide)⟩

/-! ## SLD, SST, FLD and FST without a shuttle -/

/-- A thread without a shuttle has no shuttle copy and no frame window. -/
theorem shuttle_missing (ha : s.dev.FaultsAlone c th) (hs : t.shuttle = none) :
    Yields (.sld c th wd wa sz disp) s (s.dev.FaultDone c th Cause.range) ∧ Yields (.sst c th wd wa sz disp) s (s.dev.FaultDone c th Cause.range) ∧
    Yields (.fld c th wd wa sz disp) s (s.dev.FaultDone c th Cause.range) ∧ Yields (.fst c th wd wa sz disp) s (s.dev.FaultDone c th Cause.range) := by
  have hnone : (t.charged 1).shuttle.isNone = true := by simp [Thread.charged, hs]
  have hcheck : (t.charged 1).frameCheck a (2 ^ sz) = some Cause.range := by simp [Thread.frameCheck, hnone]
  refine ⟨?_, ?_, ?_, ?_⟩
  · exact Issues.fault ha (.of_mem h hsz ht haddr halign rfl (by simp [hnone])) (by decide)
  · exact Issues.fault ha (.of_mem h hsz ht haddr halign rfl (by simp [hnone])) (by decide)
  · exact Issues.fault ha (.of_mem h hsz ht haddr halign rfl (by simp only [hcheck])) (by decide)
  · exact Issues.fault ha (.of_mem h hsz ht haddr halign rfl (by simp only [hcheck])) (by decide)

/-! ## The shuttle copy (R22, R265) -/

section
variable {k : Nat} (hs : t.shuttle = some k) (hin : a + 2 ^ sz ≤ 128)
include hs hin

theorem sld_loads : Yields (.sld c th wd wa sz disp) s
    (s.dev.RegDone (8 * c + th) 1 wd (BitVec.ofNat 64 (bitsOf t.copy.toNat (8 * a) (8 * 2 ^ sz)))) := by
  have hcopy : ¬ ((t.charged 1).shuttle.isNone || decide (a + 2 ^ sz > 128)) = true := by simp [Thread.charged, hs, hin]
  exact Issues.reg (.of_mem h hsz ht haddr halign rfl (if_neg hcopy))

/-- SST of fields that a program may write changes the copy. -/
theorem sst_stores {w : ShuttleWord} (hw : w = BitVec.ofNat 1024 (bitsSet t.copy.toNat (8 * a) (8 * 2 ^ sz) (t.reg wd).toNat))
    (hmask : (w ^^^ t.copy) &&& ~~~ programMask = 0) :
    Yields (.sst c th wd wa sz disp) s (s.dev.OnlyThread (8 * c + th) { t.charged 1 with copy := w, pc := t.pc + 1 }) := by
  have hcopy : ¬ ((t.charged 1).shuttle.isNone || decide (a + 2 ^ sz > 128)) = true := by simp [Thread.charged, hs, hin]
  have hsst : Issues (.sst c th wd wa sz disp) s (8 * c + th) 1 wd
      (.ok ((s.dev.issued (8 * c + th) 1).modThread (8 * c + th) (fun t => { t with copy := w }))) := by
    subst hw
    exact .of_mem h hsz ht haddr halign rfl ((if_neg hcopy).trans (if_neg (not_not_intro hmask)))
  subst ht
  exact hsst.only ((s.dev.onlyThread_issued _ _).modThread _)

end

/-! ## The frame window (R265) -/

section
variable {k : Nat} {x : Shut} (hs : t.shuttle = some k) (hx : s.dev.shut k = some x) (hin : a + 2 ^ sz ≤ 256) (hguar : t.guar = true → a + 2 ^ sz ≤ 128)
include hs hx hin hguar

section
variable (harrived : x.ended = true ∨ a + 2 ^ sz ≤ x.frame.length)
include harrived

/-- FLD of bytes that have arrived reads them. -/
theorem fld_loads : Yields (.fld c th wd wa sz disp) s
    (s.dev.RegDone (8 * c + th) 1 wd (BitVec.ofNat 64 (leNat (t.frameBytes x a (2 ^ sz))))) := by
  have hcheck := Thread.frameCheck_inside hs hin hguar
  have hshut := Dev.shut_issued (8 * c + th) hs hx
  exact Issues.reg (.of_mem h hsz ht haddr halign rfl (by simp only [hcheck, hshut, Shut.arrived_of harrived, if_true]; rfl))

/-- FST of bytes that have arrived, within LENGTH, changes the window. -/
theorem fst_stores (hlen : a + 2 ^ sz ≤ x.window.length) : Yields (.fst c th wd wa sz disp) s (s.dev.OnlyThread (8 * c + th)
    { t.charged 1 with win := mapBytes t.win a (leBytes (2 ^ sz) (t.reg wd).toNat), pc := t.pc + 1 }) := by
  have hcheck := Thread.frameCheck_inside hs hin hguar
  have hshut := Dev.shut_issued (8 * c + th) hs hx
  have hfst : Issues (.fst c th wd wa sz disp) s (8 * c + th) 1 wd
      (.ok ((s.dev.issued (8 * c + th) 1).winStore (8 * c + th) a (2 ^ sz) (t.reg wd))) :=
    .of_mem h hsz ht haddr halign rfl (by
      simp only [hcheck, hshut, Shut.arrived_of harrived, Bool.not_true, Bool.false_eq_true, if_false, if_neg (Nat.not_lt.2 hlen), gt_iff_lt]; rfl)
  subst ht
  exact hfst.only ((s.dev.onlyThread_issued _ _).modThread _)

end

/-- FLD and FST of bytes that have not arrived wait for them. -/
theorem window_waits (hopen : x.ended = false) (hshort : x.frame.length < a + 2 ^ sz) :
    Yields (.fld c th wd wa sz disp) s (s.dev.WaitDone (8 * c + th) 1 wd (.load a (2 ^ sz))) ∧
    Yields (.fst c th wd wa sz disp) s (s.dev.WaitDone (8 * c + th) 1 wd (.store a (2 ^ sz) (t.reg wd))) := by
  have hcheck := Thread.frameCheck_inside hs hin hguar
  have hshut := Dev.shut_issued (8 * c + th) hs hx
  have hmissing : x.arrived (a + 2 ^ sz) = false := by simpa [Shut.arrived, hopen] using hshort
  refine ⟨Issues.wait (.of_mem h hsz ht haddr halign rfl ?_), Issues.wait (.of_mem h hsz ht haddr halign rfl ?_)⟩
  · simp only [hcheck, hshut, hmissing, Bool.false_eq_true, if_false]
  · simp only [hcheck, hshut, hmissing, Bool.not_false, if_true]
    rfl

end

end

/-! ## The statement -/

/-- Settles O41: each access by its space, its alignment and its place. -/
theorem loadsAndStoresReachTheirSpaces : Obligations.LoadsAndStoresReachTheirSpaces := by
  unfold Obligations.LoadsAndStoresReachTheirSpaces
  refine ⟨?aligned, ?misaligned, ?region⟩
  case aligned =>
    intro s c th wd wa sz a disp t h hsz ht haddr halign
    refine ⟨fun hok => ⟨ld_loads h hsz ht haddr halign hok, st_stores h hsz ht haddr halign hok⟩,
      fun hout hchild hfree => local_outside h hsz ht haddr halign (h.alone hchild (ht ▸ hfree)) hout,
      fun hfree hchild => shuttle_missing h hsz ht haddr halign (h.alone hchild (ht ▸ hfree)) hfree,
      fun i hs hin => ⟨sld_loads h hsz ht haddr halign hs hin, fun w => sst_stores h hsz ht haddr halign hs hin⟩,
      fun i x hs hx hin hguar => ⟨fun harrived => ⟨?load, ?store⟩, ?waits⟩⟩
    case load => exact fld_loads h hsz ht haddr halign hs hx hin hguar harrived
    case store => exact fst_stores h hsz ht haddr halign hs hx hin hguar harrived
    case waits => exact window_waits h hsz ht haddr halign hs hx hin hguar
  case misaligned =>
    intro s c th wd wa sz disp t i h hsz hchild ht hfree halign hi
    have ha := h.alone hchild (ht ▸ hfree)
    simp only [List.mem_cons, List.not_mem_nil, or_false] at hi
    obtain rfl | rfl | rfl | rfl | rfl | rfl := hi
    all_goals exact yields_misaligned h hsz ht rfl ha halign rfl
  case region =>
    intro d c a n
    simp [Dev.localOk]

end Sys2Proof.Machine
end

section
/-! PROOFS. LKF and LKK, and the check-value units that threads use (R143, R163, R233, R269, R386, Table 4). -/
namespace Sys2Proof.Machine
open Sys2Proof

/-! ## LKF (R163, R171, R182) -/

/-- A refresh leaves the cores and the host interface. -/
theorem Dev.refresh_kept (d : Dev) (i : Nat) (counted : Bool) : (d.refresh i counted).barb = d.barb ∧ (d.refresh i counted).hif = d.hif := by
  unfold Dev.refresh
  dsimp only
  repeat' split
  all_goals exact ⟨rfl, rfl⟩

/-- The effect of LKF by what the on-die stage of its lookup finds. -/
def Dev.lkfEff (d : Dev) (n wd : Nat) (key : Dword) : FwdFound → Eff
  | .hit i => .ok (d.lkfHit n wd i)
  | .miss => .ok (d.wreg n wd 0)
  | .ddr5 => .wait d (.lkf key)

section
variable {s : State} {c th wd wa sel : Nat} {t : Thread} (ht : t = s.dev.thread (8 * c + th)) (hg : t.guar = false)
include ht hg

theorem lkf_issues (h : s.dev.CanIssue c th 24) : Issues (.lkf c th wd wa ⟨sel, none⟩) s (8 * c + th) 24 wd
    ((s.dev.issued (8 * c + th) 24).lkfEff (8 * c + th) wd (t.reg wa) (s.dev.lookupOndie (sel % 4) (keyMac (t.reg wa)) (keyFd (t.reg wa)))) := by
  subst ht
  exact .of_instr h (.inr hg) rfl rfl

/-- LKF of a key on-die gives its entry. -/
theorem lkf_hit (h : s.dev.CanIssue c th 24) {i : Nat} (hl : s.dev.lookupOndie (sel % 4) (keyMac (t.reg wa)) (keyFd (t.reg wa)) = .hit i) :
    Yields (.lkf c th wd wa ⟨sel, none⟩) s (fun e => e.thread (8 * c + th) = { (t.charged 24).setReg wd (s.dev.lkfResult i) with pc := t.pc + 1 }) := by
  have hlkf := lkf_issues (wd := wd) (wa := wa) (sel := sel) ht hg h
  rw [hl] at hlkf
  obtain ⟨hbarb, hhif⟩ := (s.dev.issued (8 * c + th) 24).refresh_kept i true
  exact hlkf.yields hhif (fun u hu => ht ▸ Issues.thread_reg hu (Dev.thread_of_issued hbarb))

/-! ## LKK (R143) -/

/-- The effect of LKK by the flow that the on-die tier gives. -/
def Dev.lkkEff (d : Dev) (n wd : Nat) (key : List Byte) (both : Bool) : Option Nat → Eff
  | some f => .ok (d.wreg n wd (BitVec.ofNat 64 f))
  | none => if both then .wait d (.lkk key) else .ok (d.wreg n wd 0)

theorem lkk_issues (h : s.dev.CanIssue c th 28) {a : Nat} (ha : a = (t.reg wa).toNat) (hok : s.dev.localOk c a 40 = true) :
    Issues (.lkk c th wd wa sel) s (8 * c + th) 28 wd ((s.dev.issued (8 * c + th) 28).lkkEff (8 * c + th) wd (s.dev.localBytes c a 40) (sel % 2 == 1)
      (s.dev.lkkFind (s.dev.threadSet t) (s.dev.localBytes c a 40) false)) := by
  subst ht ha
  have hin : (s.dev.issued (8 * c + th) 28).localOk c (((s.dev.thread (8 * c + th)).charged 28).reg wa).toNat 40 = true := hok
  exact .of_instr h (.inr hg) rfl ((if_neg (by simp [hin])).trans rfl)

end

/-! ## What the spare of a unit leaves when it takes over (R386, R387) -/

/-- Two devices with the same cores, host interface and check-value units, and the same words but those of Ledger's and the fault block's notes. -/
structure Dev.UnitsKept (d e : Dev) : Prop where
  barb : e.barb = d.barb
  hif : e.hif = d.hif
  stor : e.stor = d.stor
  word : ∀ a, noteApart a → e.word a = d.word a

namespace Dev.UnitsKept
variable {d e f : Dev}

theorem trans (h : d.UnitsKept e) (h' : e.UnitsKept f) : d.UnitsKept f :=
  ⟨h'.barb.trans h.barb, h'.hif.trans h.hif, h'.stor.trans h.stor, fun a ha => (h'.word a ha).trans (h.word a ha)⟩

theorem of_noted {lo hi : Nat} (h : Dev.NotedIn lo hi d e) : d.UnitsKept e := by
  have hword := h.word
  obtain ⟨⟨l, m, b, rfl⟩, -⟩ := h
  exact ⟨rfl, rfl, rfl, hword⟩

theorem get (h : d.UnitsKept e) {g : Fld} (hg : g.lo + g.width ≤ 32) (ha : noteApart g.addr) : e.get g = d.get g :=
  Dev.get_eq_of_word_eq hg (h.word _ ha)

end Dev.UnitsKept

theorem Dev.unitsKept_crcTakeover (d : Dev) (u : Nat) : d.UnitsKept (d.crcTakeover u) := by
  unfold Dev.crcTakeover
  split
  · exact ⟨rfl, rfl, rfl, fun _ _ => rfl⟩
  · have hcount : ∀ f, d.UnitsKept (Dev.count (d.modFlt f) K.FLT_SPARES_USED) := fun _ => ⟨rfl, rfl, rfl, fun _ _ => rfl⟩
    exact (hcount _).trans ((UnitsKept.of_noted (Dev.notedIn_fault 0 0 _ _ _ _ (by decide))).trans (.of_noted (Dev.noted_health _ _ _ _)))

theorem noteApart_crc {u : Nat} (hu : u < 32) : noteApart (0x801004 + 0x20 * u) := ⟨by omega, by omega⟩

/-! ## START, FEED, END and STOP of a unit (R233) -/

@[simp] theorem Dev.crcUnit_putCrc (d : Dev) (u : Nat) (x : CrcUnit) : (d.putCrc u x).crcUnit u = x := by simp [Dev.crcUnit, Dev.putCrc, mapGetD]

/-- The registers of a unit that a source has just got. -/
def Dev.crcShown (d : Dev) (u kind owner poly : Nat) (alive : Option Nat) : Dev :=
  let d := ((d.set (F.STOR_CRC_STATUS_STATE u) 1).set (F.STOR_CRC_STATUS_POLY u) poly).set (F.STOR_CRC_STATUS_MSG_COUNT u) 0
  let d := (d.set (F.STOR_CRC_STATUS_OWNER_KIND u) kind).set (F.STOR_CRC_STATUS_OWNER u) (if kind = 0 then owner / 8 else owner)
  let d := (d.set (F.STOR_CRC_STATUS_ERROR u) 0).set (F.STOR_CRC_STATUS_NO_FIELD u) 0
  (d.set (F.STOR_CRC_STATUS_ALIVE_EN u) (if alive.isSome then 1 else 0)).putWord (0x801008 + 0x20 * u) 0

/-- The registers of a unit leave the cores, the host interface and the units. -/
theorem Dev.crcShown_kept (d : Dev) (u kind owner poly : Nat) (alive : Option Nat) : (d.crcShown u kind owner poly alive).barb = d.barb ∧
    (d.crcShown u kind owner poly alive).hif = d.hif ∧ (d.crcShown u kind owner poly alive).stor = d.stor := by
  simp [Dev.crcShown]

theorem Dev.crcShown_state (d : Dev) (u kind owner poly : Nat) (alive : Option Nat) :
    (d.crcShown u kind owner poly alive).get (F.STOR_CRC_STATUS_STATE u) = 1 := by
  have hset : ∀ (e : Dev) (lo w v : Nat), lo + w ≤ 14 ∨ 16 ≤ lo → lo + w ≤ 32 →
      (e.set ⟨0x801004 + 0x20 * u, lo, w⟩ v).get (F.STOR_CRC_STATUS_STATE u) = e.get (F.STOR_CRC_STATUS_STATE u) :=
    fun e lo w v h hw => Dev.get_set_disjoint e v hw (by decide) (by omega)
  have hput : ∀ e : Dev, (e.putWord (0x801008 + 0x20 * u) 0).get (F.STOR_CRC_STATUS_STATE u) = e.get (F.STOR_CRC_STATUS_STATE u) :=
    fun e => Dev.get_eq_of_word_eq (show 14 + 2 ≤ 32 by decide) (Dev.word_putWord_ne _ _ _ (by simp only [F.STOR_CRC_STATUS_STATE]; omega))
  have hstate : (d.set (F.STOR_CRC_STATUS_STATE u) 1).get (F.STOR_CRC_STATUS_STATE u) = 1 := Dev.get_set_self _ _ _ (show 14 + 2 ≤ 64 by decide)
  unfold Dev.crcShown
  rw [hput]
  simp only [F.STOR_CRC_STATUS_POLY, F.STOR_CRC_STATUS_MSG_COUNT, F.STOR_CRC_STATUS_OWNER_KIND, F.STOR_CRC_STATUS_OWNER, F.STOR_CRC_STATUS_ERROR,
    F.STOR_CRC_STATUS_NO_FIELD, F.STOR_CRC_STATUS_ALIVE_EN]
  rw [hset _ _ _ _ (by decide) (by decide), hset _ _ _ _ (by decide) (by decide), hset _ _ _ _ (by decide) (by decide),
    hset _ _ _ _ (by decide) (by decide), hset _ _ _ _ (by decide) (by decide), hset _ _ _ _ (by decide) (by decide),
    hset _ _ _ _ (by decide) (by decide), hstate]

section
variable {d : Dev} {u kind owner : Nat}

/-- START of a unit that no source runs, and that is not OUT. -/
theorem Dev.crcStart_granted (hu : u < 32) (hin : d.flt.outUnits.contains (4, u) = false) (hfree : d.get (F.STOR_CRC_STATUS_STATE u) ≠ 1) (poly : Nat)
    (alive : Option Nat) : ∃ e, d.crcStart u kind owner poly alive = (e, true) ∧ e.barb = d.barb ∧ e.hif = d.hif ∧
      e.get (F.STOR_CRC_STATUS_STATE u) = 1 ∧
      e.crcUnit u = { owner := some (kind, owner), poly := poly % 4, alive := alive, result := (d.crcUnit u).result } := by
  obtain ⟨hbarb, hhif, hstor, -⟩ := d.unitsKept_crcTakeover u
  obtain ⟨e, he⟩ : ∃ e, e = (d.crcTakeover u).putCrc u
      { owner := some (kind, owner), poly := poly % 4, alive := alive, result := ((d.crcTakeover u).crcUnit u).result } := ⟨_, rfl⟩
  obtain ⟨sbarb, shif, sstor⟩ := e.crcShown_kept u kind owner poly alive
  refine ⟨e.crcShown u kind owner poly alive, ?_, ?_, ?_, e.crcShown_state _ _ _ _ _, ?_⟩
  · simp only [Dev.crcStart, ge_iff_le, if_neg (Nat.not_le.2 hu), hin, hfree, Bool.false_eq_true, false_and, or_self, if_false, ← he]
    rfl
  · rw [sbarb, he]
    exact hbarb
  · rw [shif, he]
    exact hhif
  · rw [Dev.crcUnit, sstor, ← Dev.crcUnit, he, Dev.crcUnit_putCrc, Dev.crcUnit, hstor]
    rfl

/-- START of a unit that is OUT, or that another source runs. -/
theorem Dev.crcStart_refused (hu : u < 32) (hbusy : d.flt.outUnits.contains (4, u) = true ∨
    (d.get (F.STOR_CRC_STATUS_STATE u) = 1 ∧ (d.crcUnit u).owner ≠ some (kind, owner))) (poly : Nat) (alive : Option Nat) :
    d.crcStart u kind owner poly alive = (d.count K.STOR_REFUSED, false) := by
  rw [Dev.crcStart, if_neg (Nat.not_le.2 hu), if_pos hbusy]

variable (ho : d.crcOwns u kind owner = true)
include ho

/-- Bytes from the owner join the open message. -/
theorem Dev.crcFeed_owned (b : List Byte) :
    d.crcFeed u kind owner b = d.putCrc u { d.crcUnit u with message := (d.crcUnit u).message ++ b } := if_pos ho

/-- The owner still owns the unit after its bytes. -/
theorem Dev.crcOwns_crcFeed (b : List Byte) : (d.crcFeed u kind owner b).crcOwns u kind owner = true := by
  have howner := ho
  rw [Dev.crcOwns] at howner
  rw [Dev.crcFeed_owned ho, Dev.crcOwns, Dev.crcUnit_putCrc]
  exact howner

omit ho in
theorem Dev.crcAlive_kept (d : Dev) (u : Nat) : (d.crcAlive u).barb = d.barb ∧ (d.crcAlive u).hif = d.hif := by
  unfold Dev.crcAlive
  dsimp only
  repeat' split
  all_goals exact ⟨rfl, rfl⟩

/-- END closes the message: RESULT is its check value, and the next message is empty. -/
theorem Dev.crcEnd_owned : (d.crcEnd u kind owner).barb = d.barb ∧ (d.crcEnd u kind owner).hif = d.hif ∧
    ((d.crcEnd u kind owner).crcUnit u).message = [] ∧
    ((d.crcEnd u kind owner).crcUnit u).result = crcOf (d.crcUnit u).poly (d.crcUnit u).message := by
  obtain ⟨hbarb, hhif⟩ := d.crcAlive_kept u
  rw [Dev.crcEnd, if_neg (by simp [ho])]
  exact ⟨hbarb, hhif, by rw [Dev.crcUnit_putCrc], by rw [Dev.crcUnit_putCrc]⟩

/-- STOP from the owner frees the unit. -/
theorem Dev.crcStop_owned (hu : u < 32) : (d.crcStop u kind owner).barb = d.barb ∧ (d.crcStop u kind owner).hif = d.hif ∧
    (d.crcStop u kind owner).get (F.STOR_CRC_STATUS_STATE u) = 0 ∧ ((d.crcStop u kind owner).crcUnit u).owner = none := by
  rw [Dev.crcStop, if_pos ho, Dev.crcFree]
  have hkept := Dev.unitsKept_crcTakeover ((d.set (F.STOR_CRC_STATUS_STATE u) 0).putCrc u { d.crcUnit u with owner := none, message := [] }) u
  have hstate := hkept.get (g := F.STOR_CRC_STATUS_STATE u) (show 14 + 2 ≤ 32 by decide) (noteApart_crc hu)
  refine ⟨hkept.barb, hkept.hif, hstate.trans (Dev.get_set_self _ _ _ (show 14 + 2 ≤ 64 by decide)), ?_⟩
  rw [Dev.crcUnit, hkept.stor]
  exact congrArg CrcUnit.owner (Dev.crcUnit_putCrc _ _ _)

end

end Sys2Proof.Machine
end

section
/-! PROOFS. The instructions of the check-value units (R233, R269, Table 4). -/
namespace Sys2Proof.Machine
open Sys2Proof

/-! ## CRCS (R233, Table 4) -/

/-- The alive offset that CRCS asks for (R235). -/
def crcsAlive (v : Dword) (imm : BitVec 8) : Option Nat := if imm.toNat.testBit 2 then some (v.toNat % 65536) else none

section
variable {s : State} {c th wd wa sel u : Nat} {imm : BitVec 8} {t : Thread} (h : s.dev.CanIssue c th 16) (ht : t = s.dev.thread (8 * c + th))
  (hu : u = sel % 32)
include h hu

/-- CRCS of a gated unit starts its wake, and issues once it is awake (R29). -/
theorem crcs_wakes (hgate : s.dev.isGated 2 u = true) : Yields (.crcs c th wd wa sel imm) s (fun e => e = s.dev.wake 2 u) := by
  subst hu
  refine .of _ ?_ rfl
  change execCrcs c th wd wa sel imm s = _
  simp only [execCrcs, hgate, h.issues, Bool.and_self, if_true]

include ht

/-- CRCS of a unit that is awake starts it, and tells whether the thread got it. -/
theorem crcs_issues (hawake : s.dev.isGated 2 u = false) {e : Dev} {got : Bool}
    (hstart : (s.dev.issued (8 * c + th) 16).crcStart u 0 (8 * c + th) (imm.toNat % 4) (crcsAlive (t.reg wa) imm) = (e, got)) :
    Issues (.crcs c th wd wa sel imm) s (8 * c + th) 16 wd (.ok (e.wreg (8 * c + th) wd (if got then 0 else 1))) := by
  subst ht hu
  refine .of_instr h (.inl rfl) (if_neg (by simp [hawake])) ?_
  exact congrArg (fun p : Dev × Bool => Eff.ok (p.1.wreg (8 * c + th) wd (if p.2 then 0 else 1))) hstart

/-- CRCS of a unit that no source runs starts it for the thread; its RESULT stays that of the last message. -/
theorem crcs_starts (hawake : s.dev.isGated 2 u = false) (hin : s.dev.flt.outUnits.contains (4, u) = false)
    (hfree : s.dev.get (F.STOR_CRC_STATUS_STATE u) ≠ 1) : Yields (.crcs c th wd wa sel imm) s (fun e =>
      e.thread (8 * c + th) = { (t.charged 16).setReg wd 0 with pc := t.pc + 1 } ∧ e.get (F.STOR_CRC_STATUS_STATE u) = 1 ∧
      (e.crcUnit u).owner = some (0, 8 * c + th) ∧ (e.crcUnit u).poly = imm.toNat % 4 ∧ (e.crcUnit u).message = [] ∧
      (e.crcUnit u).result = (s.dev.crcUnit u).result) := by
  have hlt : u < 32 := hu ▸ Nat.mod_lt _ (by decide)
  obtain ⟨e, hstart, hbarb, hhif, hstate, hunit⟩ := Dev.crcStart_granted (d := s.dev.issued (8 * c + th) 16) (kind := 0) (owner := 8 * c + th)
    hlt hin hfree (imm.toNat % 4) (crcsAlive (t.reg wa) imm)
  have hthread := Dev.thread_of_issued hbarb
  refine (crcs_issues h ht hu hawake hstart).yields hhif (fun v hv => ⟨ht ▸ Issues.thread_reg hv hthread, (hv.get _).trans hstate, ?_⟩)
  have hsame : v.crcUnit u = e.crcUnit u := by rw [Dev.crcUnit, hv.stor]; rfl
  rw [hsame, hunit]
  exact ⟨rfl, Nat.mod_mod _ _, rfl, rfl⟩

/-- CRCS of a unit that is OUT, or that another source runs, answers BUSY. -/
theorem crcs_busy (hawake : s.dev.isGated 2 u = false) (hbusy : s.dev.flt.outUnits.contains (4, u) = true ∨
    (s.dev.get (F.STOR_CRC_STATUS_STATE u) = 1 ∧ (s.dev.crcUnit u).owner ≠ some (0, 8 * c + th))) :
    Yields (.crcs c th wd wa sel imm) s (fun e => e.thread (8 * c + th) = { (t.charged 16).setReg wd 1 with pc := t.pc + 1 } ∧ e.stor = s.dev.stor) := by
  have hlt : u < 32 := hu ▸ Nat.mod_lt _ (by decide)
  have hstart := Dev.crcStart_refused (d := s.dev.issued (8 * c + th) 16) hlt hbusy (imm.toNat % 4) (crcsAlive (t.reg wa) imm)
  exact (crcs_issues h ht hu hawake hstart).yields rfl (fun v hv => ⟨ht ▸ Issues.thread_reg hv (Dev.thread_of_issued rfl), hv.stor⟩)

end

/-! ## CRCF, CRCX_READ and CRCX_STOP (R233, Table 4) -/

/-- Who owns a running unit owns it as a thread. -/
theorem Dev.threadOwns_of_crcOwns {d : Dev} {u n : Nat} (h : d.crcOwns u 0 n = true) : d.threadOwns u n = true := by
  simp only [Dev.crcOwns, Bool.and_eq_true] at h
  exact h.2

/-- The bytes that CRCF feeds. -/
def crcfBytes (v : Dword) (imm : BitVec 8) : List Byte := (leBytes 8 v.toNat).take (imm.toNat % 8 + 1)

section
variable {s : State} {c th wd wa sel u : Nat} {imm : BitVec 8} {t : Thread} (h : s.dev.CanIssue c th 16) (ht : t = s.dev.thread (8 * c + th))
  (hu : u = sel % 32)
include h ht hu

section
variable (ho : s.dev.crcOwns u 0 (8 * c + th) = true)
include ho

theorem crcf_issues : Issues (.crcf c th wa sel imm) s (8 * c + th) 1 0 (.ok (if imm.toNat.testBit 3
    then ((s.dev.issued (8 * c + th) 1).crcFeed u 0 (8 * c + th) (crcfBytes (t.reg wa) imm)).crcEnd u 0 (8 * c + th)
    else (s.dev.issued (8 * c + th) 1).crcFeed u 0 (8 * c + th) (crcfBytes (t.reg wa) imm))) := by
  subst ht hu
  have howns : (s.dev.issued (8 * c + th) 1).threadOwns (sel % 32) (8 * c + th) = true := Dev.threadOwns_of_crcOwns ho
  exact .of_instr (h.mono (by decide)) (.inl rfl) rfl (if_neg (by simp [howns]))

/-- CRCF adds its bytes to the open message. -/
theorem crcf_feeds (hopen : imm.toNat.testBit 3 = false) : Yields (.crcf c th wa sel imm) s (fun e =>
    e.thread (8 * c + th) = { t.charged 1 with pc := t.pc + 1 } ∧
    e.crcUnit u = { s.dev.crcUnit u with message := (s.dev.crcUnit u).message ++ crcfBytes (t.reg wa) imm }) := by
  have hcrcf := crcf_issues (wa := wa) (imm := imm) h ht hu ho
  rw [hopen, if_neg Bool.false_ne_true, Dev.crcFeed_owned (d := s.dev.issued (8 * c + th) 1) ho] at hcrcf
  refine hcrcf.yields rfl (fun v hv => ⟨ht ▸ Issues.thread_next hv (Dev.thread_of_issued rfl), ?_⟩)
  rw [Dev.crcUnit, hv.stor]
  exact Dev.crcUnit_putCrc _ _ _

/-- CRCF with END closes the message behind its bytes. -/
theorem crcf_ends (hend : imm.toNat.testBit 3 = true) : Yields (.crcf c th wa sel imm) s (fun e => (e.crcUnit u).message = [] ∧
    (e.crcUnit u).result = crcOf (s.dev.crcUnit u).poly ((s.dev.crcUnit u).message ++ crcfBytes (t.reg wa) imm)) := by
  have hcrcf := crcf_issues (wa := wa) (imm := imm) h ht hu ho
  obtain ⟨-, hhif, hmessage, hresult⟩ := Dev.crcEnd_owned (Dev.crcOwns_crcFeed (d := s.dev.issued (8 * c + th) 1) ho (crcfBytes (t.reg wa) imm))
  rw [hend, if_pos rfl] at hcrcf
  rw [Dev.crcFeed_owned (d := s.dev.issued (8 * c + th) 1) ho] at hcrcf hhif hmessage hresult
  rw [Dev.crcUnit_putCrc] at hresult
  refine hcrcf.yields hhif (fun v hv => ?_)
  rw [show v.crcUnit u = _ from congrArg (fun m : Stor => mapGetD m.units u {}) hv.stor]
  exact ⟨hmessage, hresult⟩

omit ht in
/-- CRCX_READ gives the RESULT of the last message. -/
theorem crcxRead_reads : Yields (.crcxRead c th wd sel) s (s.dev.RegDone (8 * c + th) 16 wd (BitVec.ofNat 64 (s.dev.crcUnit u).result)) := by
  subst hu
  have howns : (s.dev.issued (8 * c + th) 16).threadOwns (sel % 32) (8 * c + th) = true := Dev.threadOwns_of_crcOwns ho
  exact Issues.reg (.of_instr h (.inl rfl) rfl (if_pos howns))

/-- CRCX_STOP frees the unit. -/
theorem crcxStop_frees : Yields (.crcxStop c th sel) s (fun e => e.get (F.STOR_CRC_STATUS_STATE u) = 0 ∧ (e.crcUnit u).owner = none ∧
    e.thread (8 * c + th) = { t.charged 1 with pc := t.pc + 1 }) := by
  have hlt : u < 32 := hu ▸ Nat.mod_lt _ (by decide)
  obtain ⟨hbarb, hhif, hstate, howner⟩ := Dev.crcStop_owned (d := s.dev.issued (8 * c + th) 1) ho hlt
  subst ht hu
  have howns : (s.dev.issued (8 * c + th) 1).threadOwns (sel % 32) (8 * c + th) = true := Dev.threadOwns_of_crcOwns ho
  have hstop : Issues (.crcxStop c th sel) s (8 * c + th) 1 0 (.ok ((s.dev.issued (8 * c + th) 1).crcStop (sel % 32) 0 (8 * c + th))) :=
    .of_instr (h.mono (by decide)) (.inl rfl) rfl (if_pos howns)
  refine hstop.yields hhif (fun v hv => ⟨(hv.get _).trans hstate, ?_, Issues.thread_next hv (Dev.thread_of_issued hbarb)⟩)
  rw [Dev.crcUnit, hv.stor]
  exact howner

end

omit ht in
/-- From a thread that does not own the unit, CRCF, CRCX_READ and CRCX_STOP fault with OWNER. -/
theorem crc_notOwner (ha : s.dev.FaultsAlone c th) (ho : (s.dev.crcUnit u).owner ≠ some (0, 8 * c + th)) :
    Yields (.crcf c th wa sel imm) s (s.dev.FaultDone c th Cause.owner) ∧ Yields (.crcxRead c th wd sel) s (s.dev.FaultDone c th Cause.owner) ∧
    Yields (.crcxStop c th sel) s (s.dev.FaultDone c th Cause.owner) := by
  subst hu
  have hnot : ∀ cost, (s.dev.issued (8 * c + th) cost).threadOwns (sel % 32) (8 * c + th) = false := fun _ => beq_eq_false_iff_ne.2 ho
  refine ⟨Issues.fault ha (.of_instr (h.mono (by decide)) (.inl rfl) rfl (if_pos ?_)) (by decide),
    Issues.fault ha (.of_instr h (.inl rfl) rfl (if_neg ?_)) (by decide),
    Issues.fault ha (.of_instr (h.mono (by decide)) (.inl rfl) rfl (if_neg ?_)) (by decide)⟩
  · simp [hnot]
  · simp [hnot]
  · simp [hnot]

end

end Sys2Proof.Machine
end

section
/-! PROOFS. The locks (R270, R271, Table 5). -/
namespace Sys2Proof.Machine
open Sys2Proof

/-! ## A place in a queue, and an entry changed where it stands -/

/-- A queue with a newcomer placed behind all but those that come later. -/
theorem behind_all {α : Type} (later : α → Bool) (l : List α) (x : α) (h : ∀ y ∈ l, later y = false) :
    l.filter (fun y => !later y) ++ [x] ++ l.filter later = l ++ [x] := by
  rw [List.filter_eq_self.2 (fun y hy => by simp [h y hy]), List.filter_eq_nil_iff.2 (fun y hy => by simp [h y hy]), List.append_nil]

theorem before_all {α : Type} (later : α → Bool) (l : List α) (x : α) (h : ∀ y ∈ l, later y = true) :
    l.filter (fun y => !later y) ++ [x] ++ l.filter later = x :: l := by
  rw [List.filter_eq_self.2 h, List.filter_eq_nil_iff.2 (fun y hy => by simp [h y hy])]
  rfl

theorem mapGet_map_at {α : Type} (m : SMap α) (k : Nat) (f : α → α) {x : α} (h : mapGet m k = some x) :
    mapGet (m.map (fun p => if p.1 = k then (p.1, f p.2) else p)) k = some (f x) := by
  induction m with
  | nil => simp at h
  | cons p l ih =>
    obtain ⟨a, y⟩ := p
    by_cases ha : a = k
    · subst ha
      simp only [mapGet, if_true, Option.some.injEq] at h
      simp [mapGet, h]
    · rw [mapGet, if_neg (Ne.symm ha)] at h
      rw [List.map_cons, if_neg ha, mapGet, if_neg (Ne.symm ha), ih h]

/-! ## A request that joins the FIFO of a lock (R271) -/

/-- Whether a waiting request comes behind one that thread `n` makes now: of the same cycle, and of a higher thread number. -/
def Dev.asksLater (d : Dev) (n w : Nat) : Bool := (d.thread w).askedAt == d.time.cycles && decide (w > n)

/-- A FIFO that thread `n` has joined. -/
def Dev.joined (d : Dev) (n : Nat) (l : Lock) : Lock :=
  { l with waiters := l.waiters.filter (fun w => !d.asksLater n w) ++ [n] ++ l.waiters.filter (d.asksLater n) }

theorem Dev.joinLock_lock (d : Dev) (n : Nat) {k : Nat} {l : Lock} (h : mapGet d.barb.locks k = some l) :
    mapGet (d.joinLock n k).barb.locks k = some (d.joined n l) := mapGet_map_at d.barb.locks k (d.joined n) h

theorem Dev.thread_joinLock_self (d : Dev) (n k : Nat) : (d.joinLock n k).thread n = { d.thread n with askedAt := d.time.cycles } :=
  d.thread_modThread_self n (fun t => { t with askedAt := d.time.cycles })

@[simp] theorem Dev.takeLock_hif (d : Dev) (n k : Nat) : (d.takeLock n k).hif = d.hif := rfl
@[simp] theorem Dev.joinLock_hif (d : Dev) (n k : Nat) : (d.joinLock n k).hif = d.hif := rfl

/-- When a request was made does not change as another instruction issues. -/
theorem Dev.asksLater_issued (d : Dev) (n cost w : Nat) : (d.issued n cost).asksLater n w = d.asksLater n w := by
  have hasked : ((d.issued n cost).thread w).askedAt = (d.thread w).askedAt := by
    by_cases hw : w = n
    · rw [hw, Dev.thread_issued_self]
      rfl
    · rw [Dev.thread_issued_ne _ _ hw]
  rw [Dev.asksLater, hasked]
  rfl

/-! ## A lock released (R271) -/

/-- A lock released goes to the head of its FIFO, or is free. -/
theorem Dev.unlock_lock {d : Dev} {k : Nat} {l : Lock} (hheld : mapGet d.barb.locks k = some l) :
    (l.waiters = [] → mapGet (d.unlock k).barb.locks k = none) ∧ ∀ w r, l.waiters = w :: r → mapGet (d.unlock k).barb.locks k = some ⟨w, r⟩ := by
  refine ⟨fun hl => ?_, fun w r hl => ?_⟩
  · simp only [Dev.unlock, hheld, hl]
    exact mapGet_mapErase_self _ _
  · simp only [Dev.unlock, hheld, hl]
    exact mapGet_mapPut_self _ _ _

/-! ## LOCK and TRYL -/

section
variable {s : State} {c th wd wa k n : Nat} {t : Thread} (h : s.dev.CanIssue c th 16) (hn : n = 8 * c + th) (ht : t = s.dev.thread n)
  (hk : k = (t.reg wa).toNat % 4096)
include h hn ht hk

section
variable (hgood : s.dev.lockBad n k = false)
include hgood

/-- What TRYL of a lock does that is not the thread's own. -/
theorem tryl_issues {eff : Eff} (he : (if (mapGet s.dev.barb.locks k).isSome then Eff.ok ((s.dev.issued n 16).wreg n wd 1)
    else if (s.dev.locksOf n).length ≥ 16 then .fault Cause.lock else .ok (((s.dev.issued n 16).takeLock n k).wreg n wd 0)) = eff) :
    Issues (.tryl c th wd wa) s n 16 wd eff := by
  subst hn ht hk
  exact .of_instr h (.inl rfl) rfl ((if_neg (by rw [Bool.not_eq_true]; exact hgood)).trans he)

section
variable (hg : t.guar = false) (hroom : (s.dev.locksOf n).length < 16)
include hg hroom

/-- What LOCK of a lock does that the thread may ask for. -/
theorem lock_issues {eff : Eff} (he : (if (mapGet s.dev.barb.locks k).isSome then Eff.wait ((s.dev.issued n 16).joinLock n k) (.lock k)
    else .ok ((s.dev.issued n 16).takeLock n k)) = eff) : Issues (.lock c th wa) s n 16 0 eff := by
  subst hn ht hk
  have hmay : ¬ ((s.dev.issued (8 * c + th) 16).lockBad (8 * c + th) (lockIndex (((s.dev.thread (8 * c + th)).charged 16).reg wa)) ||
      decide (((s.dev.issued (8 * c + th) 16).locksOf (8 * c + th)).length ≥ 16)) = true := by
    rw [show (s.dev.issued (8 * c + th) 16).lockBad (8 * c + th) (lockIndex (((s.dev.thread (8 * c + th)).charged 16).reg wa)) = false from hgood,
      show (s.dev.issued (8 * c + th) 16).locksOf (8 * c + th) = s.dev.locksOf (8 * c + th) from rfl]
    simpa using hroom
  exact .of_instr h (.inr hg) rfl ((if_neg hmay).trans he)

/-- LOCK of a free lock takes it. -/
theorem lock_takes (hfree : mapGet s.dev.barb.locks k = none) : Yields (.lock c th wa) s (fun e =>
    e.thread n = { t.charged 16 with pc := t.pc + 1 } ∧ mapGet e.barb.locks k = some ⟨n, []⟩ ∧
    ∀ j, j ≠ k → mapGet e.barb.locks j = mapGet s.dev.barb.locks j) := by
  have hlock := lock_issues h hn ht hk hgood hg hroom (if_neg (by simp [hfree]))
  refine hlock.yields (by simp) (fun u hu => ⟨ht ▸ Issues.thread_next hu (Dev.thread_issued_self _ _ _), ?_⟩)
  rw [hu.barb]
  exact ⟨mapGet_mapPut_self _ _ _, fun j hj => mapGet_mapPut_ne _ _ hj⟩

/-- LOCK of a held lock waits in its FIFO (R271). -/
theorem lock_waits {l : Lock} (hheld : mapGet s.dev.barb.locks k = some l) : Yields (.lock c th wa) s (fun e =>
    e.thread n = { t.charged 16 with run := 2, wait := .lock k, wd := 0, pc := t.pc + 1, askedAt := s.dev.time.cycles } ∧
    ((∀ w ∈ l.waiters, (s.dev.thread w).askedAt ≠ s.dev.time.cycles ∨ w ≤ n) →
      mapGet e.barb.locks k = some { l with waiters := l.waiters ++ [n] }) ∧
    ((∀ w ∈ l.waiters, (s.dev.thread w).askedAt = s.dev.time.cycles ∧ n < w) → mapGet e.barb.locks k = some { l with waiters := n :: l.waiters })) := by
  have hlock := lock_issues h hn ht hk hgood hg hroom (if_pos (by simp [hheld]))
  have hthread : ((s.dev.issued n 16).joinLock n k).thread n = { t.charged 16 with askedAt := s.dev.time.cycles } := by
    rw [Dev.thread_joinLock_self, Dev.thread_issued_self, ht]
    rfl
  have hjoined : mapGet ((s.dev.issued n 16).joinLock n k).barb.locks k = some ((s.dev.issued n 16).joined n l) := Dev.joinLock_lock _ n hheld
  refine hlock.yields_wait (by simp) (fun u hu => ⟨Issues.thread_waiting hu hthread, fun hl => ?_, fun hl => ?_⟩)
  · rw [hu.barb]
    refine hjoined.trans (congrArg (fun ws => some { l with waiters := ws }) (behind_all _ _ _ (fun w hw => ?_)))
    rw [Dev.asksLater_issued]
    obtain hasked | hlow := hl w hw
    · simp [Dev.asksLater, hasked]
    · simp [Dev.asksLater, Nat.not_lt.2 hlow]
  · rw [hu.barb]
    refine hjoined.trans (congrArg (fun ws => some { l with waiters := ws }) (before_all _ _ _ (fun w hw => ?_)))
    rw [Dev.asksLater_issued]
    simp [Dev.asksLater, hl w hw]

omit hg in
/-- TRYL of a free lock takes it and writes 0. -/
theorem tryl_takes (hfree : mapGet s.dev.barb.locks k = none) : Yields (.tryl c th wd wa) s (fun e =>
    e.thread n = { (t.charged 16).setReg wd 0 with pc := t.pc + 1 } ∧ mapGet e.barb.locks k = some ⟨n, []⟩) := by
  have htryl := tryl_issues (wd := wd) h hn ht hk hgood rfl
  rw [if_neg (by simp [hfree]), if_neg (Nat.not_le.2 hroom)] at htryl
  refine htryl.yields (by simp) (fun u hu => ⟨ht ▸ Issues.thread_reg hu (Dev.thread_issued_self _ _ _), ?_⟩)
  rw [hu.barb]
  exact mapGet_mapPut_self _ _ _

end

/-- TRYL of a held lock writes 1. -/
theorem tryl_held {l : Lock} (hheld : mapGet s.dev.barb.locks k = some l) : Yields (.tryl c th wd wa) s (s.dev.RegDone n 16 wd 1) := by
  have htryl := tryl_issues (wd := wd) h hn ht hk hgood rfl
  rw [if_pos (by simp [hheld])] at htryl
  exact htryl.reg

end

/-- A firmware lock named by an action program faults. -/
theorem lock_firmware (ha : s.dev.FaultsAlone c th) (hg : t.guar = false) (hbad : s.dev.lockBad n k = true) :
    Yields (.lock c th wa) s (s.dev.FaultDone c th Cause.lock) ∧ Yields (.tryl c th wd wa) s (s.dev.FaultDone c th Cause.lock) := by
  subst hn ht hk
  have hfault : (s.dev.issued (8 * c + th) 16).lockBad (8 * c + th) (lockIndex (((s.dev.thread (8 * c + th)).charged 16).reg wa)) = true := hbad
  exact ⟨Issues.fault ha (.of_instr h (.inr hg) rfl (if_pos (by simp [hfault]))) (by decide),
    Issues.fault ha (.of_instr h (.inl rfl) rfl (if_pos hfault)) (by decide)⟩

/-! ## ULK -/

/-- What ULK does by the entry of its lock. -/
def Dev.ulkEff (d : Dev) (n k : Nat) : Option Lock → Eff
  | some l => if l.owner = n then .ok (d.unlock k) else .fault Cause.lock
  | none => .fault Cause.lock

theorem ulk_issues : Issues (.ulk c th wa) s n 2 0 ((s.dev.issued n 2).ulkEff n k (mapGet s.dev.barb.locks k)) := by
  subst hn ht hk
  exact .of_instr (h.mono (by decide)) (.inl rfl) rfl rfl

/-- ULK by the owner frees the lock, or passes it to the head of its FIFO. -/
theorem ulk_passes {l : Lock} (hheld : mapGet s.dev.barb.locks k = some l) (howner : l.owner = n) : Yields (.ulk c th wa) s (fun e =>
    e.thread n = { t.charged 2 with pc := t.pc + 1 } ∧ (l.waiters = [] → mapGet e.barb.locks k = none) ∧
    ∀ w r, l.waiters = w :: r → mapGet e.barb.locks k = some ⟨w, r⟩) := by
  have hulk := ulk_issues h hn ht hk
  rw [hheld, Dev.ulkEff, if_pos howner] at hulk
  have hlock := Dev.unlock_lock (d := s.dev.issued n 2) hheld
  have hkeeps := (s.dev.issued n 2).unlock_eq k
  generalize (s.dev.issued n 2).unlock k = e at hulk hlock hkeeps
  obtain ⟨ls, rfl⟩ := hkeeps
  exact hulk.yields rfl (fun u hu => ⟨ht ▸ Issues.thread_next hu (Dev.thread_issued_self _ _ _), by rw [hu.barb]; exact hlock⟩)

/-- ULK by any other thread faults. -/
theorem ulk_notOwner (ha : s.dev.FaultsAlone c th) (hnot : ∀ l, mapGet s.dev.barb.locks k = some l → l.owner ≠ n) :
    Yields (.ulk c th wa) s (s.dev.FaultDone c th Cause.lock) := by
  have hulk := ulk_issues h hn ht hk
  subst hn
  cases hlock : mapGet s.dev.barb.locks k with
  | none =>
    rw [hlock] at hulk
    exact hulk.fault ha (by decide)
  | some l =>
    rw [hlock, Dev.ulkEff, if_neg (hnot l hlock)] at hulk
    exact hulk.fault ha (by decide)

end

end Sys2Proof.Machine
end

section
/-! PROOFS. The channels (R273 to R275, Table 6), and the statement on lookups, check values, locks and channels. -/
namespace Sys2Proof.Machine
open Sys2Proof

/-! ## CHW and CHS (R273, R274) -/

/-- A message enters the way behind those that were sent before it, or in its cycle by a thread of no higher number (R273). -/
theorem sendBehind_last (l : List ChanMsg) (m : ChanMsg) (h : ∀ x ∈ l, x.cycle ≠ m.cycle ∨ x.sender ≤ m.sender) : sendBehind l m = l ++ [m] :=
  behind_all _ l m (fun x hx => by
    obtain hcycle | hsender := h x hx
    · simp [hcycle]
    · simp [Nat.not_lt.2 hsender])

theorem sendBehind_first (l : List ChanMsg) (m : ChanMsg) (h : ∀ x ∈ l, x.cycle = m.cycle ∧ m.sender < x.sender) : sendBehind l m = m :: l :=
  before_all _ l m (fun x hx => by simp [h x hx])

@[simp] theorem Dev.chanSend_hif (d : Dev) (n q : Nat) (m : List Dword) : (d.chanSend n q m).hif = d.hif := rfl

/-- What CHS does with the words of its count. -/
def Dev.chsEff (d : Dev) (n wd q : Nat) (words : List Dword) (block : Bool) : Eff :=
  if (d.chanThread q).isNone then .ok (d.wreg n wd 2)
  else if d.chanRoom q then .ok ((d.chanSend n q words).wreg n wd 0)
  else if block then .wait d (.send q words)
  else .ok ((d.count K.BARB_CHAN_FULL).wreg n wd 1)

section
variable {s : State} {c th wd wa q n w : Nat} {imm : BitVec 8} {t : Thread} (h : s.dev.CanIssue c th 4) (hn : n = 8 * c + th)
  (ht : t = s.dev.thread n)
include h hn ht

theorem chw_stages : Yields (.chw c th wa imm) s
    (s.dev.OnlyThread n { t.charged 1 with staging := mapPut t.staging (imm.toNat % 8) (t.reg wa), pc := t.pc + 1 }) := by
  subst hn ht
  have hchw : Issues (.chw c th wa imm) s (8 * c + th) 1 0 (.ok ((s.dev.issued (8 * c + th) 1).modThread (8 * c + th)
      (fun x => { x with staging := mapPut x.staging (imm.toNat % 8) (((s.dev.thread (8 * c + th)).charged 1).reg wa) }))) :=
    .of_instr (h.mono (by decide)) (.inl rfl) rfl rfl
  exact hchw.only ((s.dev.onlyThread_issued _ _).modThread _)

variable (hg : t.guar = false) (hq : q = (t.reg wa).toNat % 1024) (hw : w = imm.toNat % 16) (h1 : 1 ≤ w) (h8 : w ≤ 8)
include hg hq hw h1 h8

theorem chs_issues : Issues (.chs c th wd wa imm) s n 4 wd ((s.dev.issued n 4).chsEff n wd q (t.staged w) (imm.toNat.testBit 7)) := by
  subst hn ht hq hw
  have hcount : ¬ (imm.toNat % 16 = 0 ∨ imm.toNat % 16 > 8) := by omega
  have hcost : (if imm.toNat % 16 = 0 ∨ imm.toNat % 16 > 8 then 0 else 4) = 4 := if_neg hcount
  refine .of_instr h (.inr hg) (congrArg (fun cost => doneH s (s.dev.instr c th wd cost _ _)) hcost) ?_
  exact if_neg hcount

/-- CHS to a channel without a thread writes 2. -/
theorem chs_unbound (hb : s.dev.chanThread q = none) : Yields (.chs c th wd wa imm) s (s.dev.RegDone n 4 wd 2) := by
  have hchs := chs_issues (wd := wd) h hn ht hg hq hw h1 h8
  have hnone : ((s.dev.issued n 4).chanThread q).isNone = true := Option.isNone_iff_eq_none.2 hb
  rw [Dev.chsEff, if_pos hnone] at hchs
  exact hchs.reg

variable (hb : (s.dev.chanThread q).isSome = true)
include hb

/-- CHS to a bound channel, by whether it has a place. -/
theorem chs_bound {room : Bool} (hroom : s.dev.chanRoom q = room) : Issues (.chs c th wd wa imm) s n 4 wd (if room
    then .ok (((s.dev.issued n 4).chanSend n q (t.staged w)).wreg n wd 0)
    else if imm.toNat.testBit 7 then .wait (s.dev.issued n 4) (.send q (t.staged w))
    else .ok (((s.dev.issued n 4).count K.BARB_CHAN_FULL).wreg n wd 1)) := by
  have hchs := chs_issues (wd := wd) h hn ht hg hq hw h1 h8
  have hsome : ¬ ((s.dev.issued n 4).chanThread q).isNone = true := by
    rw [show (s.dev.issued n 4).chanThread q = s.dev.chanThread q from rfl, Option.isNone_iff_eq_none]
    exact Option.isSome_iff_ne_none.1 hb
  rw [Dev.chsEff, if_neg hsome, show (s.dev.issued n 4).chanRoom q = room from hroom] at hchs
  exact hchs

/-- CHS to a channel with a place sends the staged words and writes 0. -/
theorem chs_sends (hroom : s.dev.chanRoom q = true) : Yields (.chs c th wd wa imm) s (fun e =>
    e.thread n = { (t.charged 4).setReg wd 0 with pc := t.pc + 1 } ∧
    e.barb.flight = sendBehind s.dev.barb.flight ⟨q, t.staged w, n, s.dev.time.cycles⟩ ∧ e.barb.chans = s.dev.barb.chans) := by
  have hchs := chs_bound (wd := wd) h hn ht hg hq hw h1 h8 hb hroom
  refine hchs.yields (by simp) (fun u hu => ⟨ht ▸ Issues.thread_reg hu (Dev.thread_issued_self _ _ _), ?_⟩)
  rw [hu.barb]
  exact ⟨rfl, rfl⟩

variable (hroom : s.dev.chanRoom q = false)
include hroom

/-- CHS to a full channel writes 1, and counts. -/
theorem chs_full (hblock : imm.toNat.testBit 7 = false) : Yields (.chs c th wd wa imm) s (fun e =>
    e.thread n = { (t.charged 4).setReg wd 1 with pc := t.pc + 1 } ∧ e.barb.flight = s.dev.barb.flight ∧
    e.ctr K.BARB_CHAN_FULL = (s.dev.ctr K.BARB_CHAN_FULL + 1) % 2 ^ 64) := by
  have hchs := chs_bound (wd := wd) h hn ht hg hq hw h1 h8 hb hroom
  rw [hblock] at hchs
  refine hchs.yields (by simp) (fun u hu => ⟨ht ▸ Issues.thread_reg hu (Dev.thread_issued_self _ _ _), ?_, ?_⟩)
  · rw [hu.barb]
    rfl
  · rw [hu.ctr]
    exact Dev.ctr_count_self _ _ _

/-- CHS with BLOCK to a full channel waits for a place. -/
theorem chs_blocks (hblock : imm.toNat.testBit 7 = true) : Yields (.chs c th wd wa imm) s (s.dev.WaitDone n 4 wd (.send q (t.staged w))) := by
  have hchs := chs_bound (wd := wd) h hn ht hg hq hw h1 h8 hb hroom
  rw [hblock] at hchs
  exact hchs.wait

end

/-! ## CHANNEL_MESSAGE_ARRIVE (R273) -/

/-- What a wake leaves. -/
theorem Dev.wake_kept (d : Dev) (kind unit : Nat) : (d.wake kind unit).barb = d.barb ∧ (d.wake kind unit).bus = d.bus := by
  unfold Dev.wake
  split <;> exact ⟨rfl, rfl⟩

/-- A message on its way that has become visible at the end of its channel. -/
def Dev.messageShown (d : Dev) (q : Nat) (m : ChanMsg) : Dev :=
  d.modBarb (fun b => { b with flight := b.flight.erase m, chans := mapPut b.chans q (mapGetD b.chans q [] ++ [m.words]) })

theorem Dev.chan_messageShown (d : Dev) (q : Nat) (m : ChanMsg) : (d.messageShown q m).chan q = d.chan q ++ [m.words] := by
  simp [Dev.chan, Dev.messageShown, mapGetD]

theorem Dev.chan_messageShown_ne (d : Dev) {q p : Nat} (m : ChanMsg) (h : p ≠ q) : (d.messageShown q m).chan p = d.chan p := by
  simp [Dev.chan, Dev.messageShown, mapGetD, mapGet_mapPut_ne _ _ h]

/-- The oldest message on its way to a channel becomes visible at its end. -/
theorem channelMessageArrive_shows {s : State} {q : Nat} {a f : List ChanMsg} {m : ChanMsg} (hf : s.dev.barb.flight = a ++ m :: f)
    (ha : ∀ x ∈ a, x.chan ≠ q) (hm : m.chan = q) : Yields (.channelMessageArrive q) s (fun e =>
      e.chan q = s.dev.chan q ++ [m.words] ∧ e.barb.flight = a ++ f ∧ (∀ p, p ≠ q → e.chan p = s.dev.chan p) ∧
      e.barb.threads = s.dev.barb.threads ∧ e.bus = s.dev.bus) := by
  have hfind : s.dev.barb.flight.find? (fun x => x.chan == q) = some m := by
    rw [hf, List.find?_append, List.find?_eq_none.2 (fun x hx => by simpa using ha x hx)]
    simp [hm]
  have herase : s.dev.barb.flight.erase m = a ++ f := by
    rw [hf, List.erase_append_right _ (fun hx => ha m hx hm), List.erase_cons_head]
  have hexec : exec (.channelMessageArrive q) s = done s ((s.dev.messageShown q m).wake 0 (q / 16)) := by
    change execChannelMessageArrive q s = _
    simp only [execChannelMessageArrive, hfind]
    rfl
  obtain ⟨hbarb, hbus⟩ := (s.dev.messageShown q m).wake_kept 0 (q / 16)
  refine .of _ hexec ?_
  simp only [Dev.chan, hbarb, hbus]
  exact ⟨s.dev.chan_messageShown q m, herase, fun p hp => s.dev.chan_messageShown_ne m hp, rfl, rfl⟩

/-! ## CHR (R274) -/

/-- A queue without its head message, of which `r` is the rest. -/
def Dev.popped (d : Dev) (q : Nat) (r : List (List Dword)) : Dev :=
  d.modBarb (fun b => { b with chans := if r.isEmpty then mapErase b.chans q else mapPut b.chans q r })

theorem Dev.chan_popped (d : Dev) (q : Nat) (r : List (List Dword)) : (d.popped q r).chan q = r := by
  cases r with
  | nil => simp [Dev.popped, Dev.chan, mapGetD]
  | cons m r => simp [Dev.popped, Dev.chan, mapGetD]

/-- A message as the receive buffer holds it. -/
def received (m : List Dword) : SMap Dword := (List.range m.length).map (fun k => (k, m.getD k 0))

/-- A table with an entry for each of the first keys. -/
theorem mapGet_map_range {α : Type} (f : Nat → α) (n k : Nat) : mapGet ((List.range n).map (fun k => (k, f k))) k = if k < n then some (f k) else none := by
  induction n with
  | zero => rfl
  | succ n ih =>
    rw [List.range_succ, List.map_append, mapGet_append, ih]
    by_cases hk : k < n
    · simp [hk, Nat.lt_succ_of_lt hk]
    · by_cases he : k = n
      · simp [he, mapGet]
      · simp [hk, he, mapGet, show ¬ k < n + 1 by omega]

section
variable {d : Dev} {n q : Nat}

theorem Dev.chanTake_head (wd : Nat) {m : List Dword} {r : List (List Dword)} (hq : d.chanThread q = some n) (hc : d.chan q = m :: r) :
    d.chanTake n wd q = some (((d.popped q r).modThread n (fun t => { t with recv := received m })).wreg n wd (BitVec.ofNat 64 m.length)) := by
  rw [Dev.chanTake, if_neg (not_not_intro hq), hc]
  rfl

theorem Dev.chanTake_none (wd : Nat) (h : d.chanThread q ≠ some n ∨ d.chan q = []) : d.chanTake n wd q = none := by
  rw [Dev.chanTake]
  split
  · rfl
  next hq =>
    rw [h.resolve_left hq]

end

/-- What CHR does by the message that it takes. -/
def Dev.chrEff (d : Dev) (n wd q : Nat) (block : Bool) : Option Dev → Eff
  | some e => .ok e
  | none => if block then .wait d (.recv q) else .ok (d.wreg n wd 0)

section
variable {s : State} {c th wd sel q n : Nat} {imm : BitVec 8} {t : Thread} (h : s.dev.CanIssue c th 2) (hn : n = 8 * c + th)
  (ht : t = s.dev.thread n) (hg : t.guar = false) (hq : q = 16 * c + sel % 16)
include h hn ht hg hq

theorem chr_issues : Issues (.chr c th wd sel imm) s n 2 wd
    ((s.dev.issued n 2).chrEff n wd q (imm.toNat.testBit 7) ((s.dev.issued n 2).chanTake n wd q)) := by
  subst hn ht hq
  exact .of_instr h (.inr hg) rfl rfl

/-- CHR takes the head message of its own queue, and writes its length. -/
theorem chr_takes {m : List Dword} {r : List (List Dword)} (hown : s.dev.chanThread q = some n) (hc : s.dev.chan q = m :: r) :
    Yields (.chr c th wd sel imm) s (fun e => e.chan q = r ∧ (e.thread n).pc = t.pc + 1 ∧
      (wd ≠ 0 → (e.thread n).reg wd = BitVec.ofNat 64 m.length) ∧ ∀ k < m.length, mapGetD (e.thread n).recv k 0 = m.getD k 0) := by
  have hchr := chr_issues (wd := wd) (imm := imm) h hn ht hg hq
  rw [Dev.chanTake_head (d := s.dev.issued n 2) wd hown hc] at hchr
  have hpopped : ((s.dev.issued n 2).popped q r).thread n = t.charged 2 := ht ▸ Dev.thread_issued_self _ _ _
  have hchan := (s.dev.issued n 2).chan_popped q r
  have hhif : ((s.dev.issued n 2).popped q r).hif = s.dev.hif := rfl
  generalize (s.dev.issued n 2).popped q r = d at hchr hpopped hchan hhif
  have hthread : (d.modThread n (fun t => { t with recv := received m })).thread n = { t.charged 2 with recv := received m } := by
    rw [Dev.thread_modThread_self, hpopped]
  refine hchr.yields hhif (fun u hu => ?_)
  rw [Issues.thread_reg hu hthread]
  refine ⟨(hu.chan q).trans hchan, rfl, fun hwd => Thread.reg_setReg_self _ _ hwd, fun k hk => ?_⟩
  change mapGetD (Thread.setReg _ _ _).recv k 0 = _
  rw [Thread.recv_setReg, mapGetD, received, mapGet_map_range (fun k => m.getD k 0), if_pos hk]
  rfl

/-- CHR of a queue that is empty, or not the thread's own, writes 0, or waits with BLOCK. -/
theorem chr_none (hnone : s.dev.chanThread q ≠ some n ∨ s.dev.chan q = []) :
    (imm.toNat.testBit 7 = false → Yields (.chr c th wd sel imm) s (s.dev.RegDone n 2 wd 0)) ∧
    (imm.toNat.testBit 7 = true → Yields (.chr c th wd sel imm) s (s.dev.WaitDone n 2 wd (.recv q))) := by
  have hchr := chr_issues (wd := wd) (imm := imm) h hn ht hg hq
  rw [Dev.chanTake_none (d := s.dev.issued n 2) wd hnone] at hchr
  refine ⟨fun hblock => ?_, fun hblock => ?_⟩
  · rw [hblock] at hchr
    exact hchr.reg
  · rw [hblock] at hchr
    exact hchr.wait

end

/-! ## The statement -/

/-- Settles O42: lookups by what they find, check-value units by who owns them, locks by who holds them, and channels by their place and their messages. -/
theorem lookupsCheckValuesLocksAndChannels : Obligations.LookupsCheckValuesLocksAndChannels := by
  unfold Obligations.LookupsCheckValuesLocksAndChannels
  refine ⟨?lookups, ?units, ?locks, ?sends, fun s q a f m hf ha hm => channelMessageArrive_shows hf ha hm,
    fun l m => ⟨sendBehind_last l m, sendBehind_first l m⟩, ?receives⟩
  case lookups =>
    intro s c th wd wa sel t h ht hg
    have h24 := h.mono (show 24 ≤ 28 by decide)
    have hlkf := lkf_issues (wd := wd) (wa := wa) (sel := sel) ht hg h24
    refine ⟨fun i hi => lkf_hit ht hg h24 hi, fun hmiss => ?_, fun hddr => ?_,
      fun a key ha hok hkey => ⟨fun f hf => ?_, fun hnone hsel => ?_, fun hnone hsel => ?_⟩⟩
    · rw [hmiss] at hlkf
      exact hlkf.reg
    · rw [hddr] at hlkf
      exact hlkf.wait
    · have hlkk := lkk_issues (wd := wd) (sel := sel) ht hg h ha hok
      rw [← hkey, hf] at hlkk
      exact hlkk.reg
    · have hlkk := lkk_issues (wd := wd) (sel := sel) ht hg h ha hok
      rw [← hkey, hnone, hsel] at hlkk
      exact hlkk.reg
    · have hlkk := lkk_issues (wd := wd) (sel := sel) ht hg h ha hok
      rw [← hkey, hnone, hsel] at hlkk
      exact hlkk.wait
  case units =>
    intro s c th wd wa sel u imm t x h ht hu hx
    subst hx
    exact ⟨crcs_wakes h hu, crcs_starts h ht hu, crcs_busy h ht hu, fun ho => ⟨crcf_feeds h ht hu ho, crcf_ends h ht hu ho, crcxRead_reads h hu ho,
      crcxStop_frees h ht hu ho⟩, fun ho hchild hfree => crc_notOwner h hu (h.alone hchild (ht ▸ hfree)) ho⟩
  case locks =>
    intro s c th wd wa k n t h hn ht hg hk
    refine ⟨fun hgood hroom hfree => ⟨lock_takes h hn ht hk hgood hg hroom hfree, tryl_takes h hn ht hk hgood hroom hfree⟩,
      fun l hgood hroom hheld _ => ⟨lock_waits h hn ht hk hgood hg hroom hheld, tryl_held h hn ht hk hgood hheld⟩,
      fun l hheld howner => ulk_passes h hn ht hk hheld howner, fun hn64 hk1024 hchild hfree => ?firmware, fun hnot hchild hfree => ?notOwner⟩
    case firmware =>
      exact lock_firmware h hn ht hk (h.alone hchild (by rw [← hn, ← ht, hfree])) hg (by simp [Dev.lockBad, hn64, hk1024])
    case notOwner => exact ulk_notOwner h hn ht hk (h.alone hchild (by rw [← hn, ← ht, hfree])) hnot
  case sends =>
    intro s c th wd wa q n w imm t h hn ht hg hq hw h1 h8
    exact ⟨chw_stages h hn ht, chs_unbound h hn ht hg hq hw h1 h8, chs_sends h hn ht hg hq hw h1 h8, chs_full h hn ht hg hq hw h1 h8,
      chs_blocks h hn ht hg hq hw h1 h8⟩
  case receives =>
    intro s c th wd sel q n imm t h hn ht hg hq
    exact ⟨fun m r hown hc => chr_takes h hn ht hg hq hown hc, chr_none h hn ht hg hq⟩

end Sys2Proof.Machine
end

section
/-! PROOFS. Waits and wakes (R276, R277, Table 7). -/
namespace Sys2Proof.Machine
open Sys2Proof

/-! ## The wake word (R277) -/

theorem Dev.thread_giveWake (d : Dev) (n wd ev : Nat) (timer : Bool) : (d.giveWake n wd ev timer).thread n =
    ({ d.thread n with wake := wakeWord ev timer, events := (d.thread n).events &&& (255 - ev) } : Thread).setReg wd
      (BitVec.ofNat 64 (wakeWord ev timer)) := by
  simp [Dev.giveWake, Dev.wreg]

@[simp] theorem Dev.giveWake_hif (d : Dev) (n wd ev : Nat) (timer : Bool) : (d.giveWake n wd ev timer).hif = d.hif := rfl

/-- An instruction that returns at once gives its wake word. -/
theorem Issues.gives {i : Instr} {s : State} {n wd ev : Nat} {timer : Bool} {t : Thread} (ht : t = s.dev.thread n)
    (h : Issues i s n 2 wd (.ok ((s.dev.issued n 2).giveWake n wd ev timer))) : Yields i s (fun e => (e.thread n).run = t.run ∧
      (e.thread n).pc = t.pc + 1 ∧ (e.thread n).wake = wakeWord ev timer ∧ (wd ≠ 0 → (e.thread n).reg wd = BitVec.ofNat 64 (wakeWord ev timer)) ∧
      (e.thread n).events = t.events &&& (255 - ev)) := by
  refine h.yields (by simp) (fun u hu => ?_)
  rw [Issues.thread_next hu (Dev.thread_giveWake _ _ _ _ _), Dev.thread_issued_self, ← ht]
  refine ⟨Thread.run_setReg _ _ _, congrArg (· + 1) (Thread.pc_setReg _ _ _), Thread.wake_setReg _ _ _, fun hwd => ?_, Thread.events_setReg _ _ _⟩
  exact Thread.reg_setReg_self _ _ hwd

/-! ## WAITT and WAITE (R276, R277) -/

section
variable {s : State} {c th wd wa n : Nat} {imm : BitVec 8} {t : Thread} {T : Nat} (h : s.dev.CanIssue c th 2) (hn : n = 8 * c + th)
  (ht : t = s.dev.thread n) (hg : t.guar = false) (hT : T = (t.reg wa).toNat)
include h hn ht hg hT

theorem waitt_issues {eff : Eff} (he : (if s.dev.nowNs ≥ T then Eff.ok ((s.dev.issued n 2).giveWake n wd 0 true)
    else .wait (s.dev.issued n 2) (.time T)) = eff) : Issues (.waitt c th wd wa) s n 2 wd eff := by
  subst hn ht hT
  exact .of_instr h (.inr hg) rfl he

theorem waite_issues {ev : Nat} {due : Bool} {eff : Eff} (hev : ev = s.dev.threadEvents n &&& imm.toNat)
    (hdue : due = (decide (T ≠ 0) && decide (s.dev.nowNs ≥ T))) (he : (if ev ≠ 0 ∨ due = true then Eff.ok ((s.dev.issued n 2).giveWake n wd ev due)
    else .wait (s.dev.issued n 2) (.event imm.toNat (if T = 0 then none else some T))) = eff) : Issues (.waite c th wd wa imm) s n 2 wd eff := by
  have hevents : (s.dev.issued n 2).threadEvents n = s.dev.threadEvents n := by
    simp only [Dev.threadEvents, Dev.thread_issued_self]
    rfl
  subst hn ht hT hdue
  rw [← hevents] at hev
  subst hev
  exact .of_instr h (.inr hg) rfl he

end

/-! ## THREAD_WAKE (R277, R278) -/

section
variable {d : Dev} {n : Nat} (hr : (d.thread n).run = 2)
include hr

theorem Dev.threadWake_time {T : Nat} (hw : (d.thread n).wait = .time T) :
    d.threadWake n = if d.nowNs ≥ T then (d.giveWake n (d.thread n).wd 0 true).rouse n else d := by
  simp [Dev.threadWake, hr, hw]

theorem Dev.threadWake_lock {k : Nat} {l : Lock} (hw : (d.thread n).wait = .lock k) (hl : mapGet d.barb.locks k = some l) :
    d.threadWake n = if l.owner = n then d.rouse n else d := by
  simp [Dev.threadWake, hr, hw, hl]

end

section
variable {s : State} {c th n : Nat} {t : Thread} (hc : c < 64) (hth : th < 8) (hn : n = 8 * c + th) (hgate : s.dev.isGated 0 c = false)
  (hq : s.dev.hif.faulted = [])
include hc hth hn hgate

theorem exec_threadWake : exec (.threadWake c th) s = doneH s (s.dev.threadWake n) := by
  subst hn
  change execThreadWake c th s = _
  simp [execThreadWake, Nat.not_le.2 hc, Nat.not_le.2 hth, hgate]

include hq

/-- A thread that a wake leaves RUNNING, with its wake word. -/
theorem threadWake_gives {ev : Nat} {timer : Bool} (hwake : s.dev.threadWake n = (s.dev.giveWake n t.wd ev timer).rouse n) :
    Yields (.threadWake c th) s (fun e => (e.thread n).run = 1 ∧ (e.thread n).wait = .none ∧
      (t.wd ≠ 0 → (e.thread n).reg t.wd = BitVec.ofNat 64 (wakeWord ev timer))) := by
  refine .of_doneH _ ((exec_threadWake hc hth hn hgate).trans (congrArg (doneH s) hwake)) hq (fun u hu => ?_)
  rw [hu.thread, Dev.thread_woken]
  exact ⟨rfl, rfl, fun hwd => Thread.reg_setReg_self _ _ hwd⟩

/-- A thread whose condition has not come is left alone. -/
theorem threadWake_idle (hwake : s.dev.threadWake n = s.dev) : Yields (.threadWake c th) s (fun e => e.barb = s.dev.barb) :=
  .of_doneH _ ((exec_threadWake hc hth hn hgate).trans (congrArg (doneH s) hwake)) hq (fun _ hu => hu.barb)

/-- A thread to which its lock has passed runs again. -/
theorem threadWake_lock_passed {k : Nat} {l : Lock} (ht : t = s.dev.thread n) (hr : t.run = 2) (hw : t.wait = .lock k) (hl : mapGet s.dev.barb.locks k = some l) (ho : l.owner = n) :
    Yields (.threadWake c th) s (s.dev.OnlyThread n { t with run := 1, wait := .none }) := by
  subst ht
  have hwake := (Dev.threadWake_lock hr hw hl).trans (if_pos ho)
  exact .of_doneH _ ((exec_threadWake hc hth hn hgate).trans (congrArg (doneH s) hwake)) hq
    (fun _ hu => ((Dev.OnlyThread.refl s.dev n).modThread _).pause hu)

end

end Sys2Proof.Machine
end

section
/-! PROOFS. Signals, the control of threads, their budgets and their ends, and the statement on them (R272, R276 to R278, R280, Table 7). -/
namespace Sys2Proof.Machine
open Sys2Proof

/-! ## SIG (R276) -/

/-- The next word of one thread leaves the events of every thread. -/
theorem Dev.events_nextWord (d : Dev) (n m : Nat) : ((d.modThread n (fun t => { t with pc := t.pc + 1 })).thread m).events = (d.thread m).events := by
  by_cases h : m = n
  · rw [h, Dev.thread_modThread_self]
  · rw [Dev.thread_modThread_ne _ _ _ h]

/-- An event given to one thread leaves the word of every thread. -/
theorem Dev.pc_threadEvent (d : Dev) {m : Nat} (n bit : Nat) (h : m < 512) : ((d.threadEvent m bit).thread n).pc = (d.thread n).pc := by
  by_cases hn : n = m
  · rw [hn, Dev.thread_threadEvent_self _ _ h]
  · rw [Dev.thread_threadEvent_ne _ _ h hn]

/-- SIG sets SIGNAL of a thread of its core. -/
theorem sig_signals {s : State} {c th : Nat} (sel : Nat) (h : s.dev.CanIssue c th 1) : Yields (.sig c th sel) s (fun e =>
    (e.thread (8 * c + sel % 8)).events.testBit 3 = true ∧ (e.thread (8 * c + th)).pc = (s.dev.thread (8 * c + th)).pc + 1) := by
  have hlt : 8 * c + sel % 8 < 512 := by have := h.core; omega
  have hsig : Issues (.sig c th sel) s (8 * c + th) 1 0 (.ok ((s.dev.issued (8 * c + th) 1).threadEvent (8 * c + sel % 8) 3)) :=
    .of_instr h (.inl rfl) rfl rfl
  refine hsig.yields ((Dev.threadEvent_hif _ 3 hlt).trans (by simp)) (fun u hu => ⟨?_, ?_⟩)
  · rw [hu.thread, Dev.events_nextWord]
    exact Dev.testBit_threadEvent _ 3 hlt
  · rw [hu.thread, Dev.thread_modThread_self]
    refine congrArg (· + 1) ((Dev.pc_threadEvent _ _ _ hlt).trans ?_)
    rw [Dev.thread_issued_self]
    rfl

/-! ## TSET, TGO, TSTOP and BARM (R278, R280) -/

/-- What an instruction leaves of its own thread and of another one that it changes. -/
theorem Issues.pair {i : Instr} {s : State} {n m cost wd : Nat} {e : Dev} {t x : Thread} (h : Issues i s n cost wd (.ok e)) (hne : m ≠ n)
    (hif : e.hif = s.dev.hif) (hself : e.thread n = t) (hother : e.thread m = x) :
    Yields i s (fun u => u.thread m = x ∧ u.thread n = { t with pc := t.pc + 1 }) :=
  h.yields hif (fun u hu => ⟨by rw [hu.thread, Dev.thread_modThread_ne _ _ _ hne, hother], Issues.thread_next hu hself⟩)

/-- The same where the instruction also writes a register of its own. -/
theorem Issues.pair_reg {i : Instr} {s : State} {n m cost wd r : Nat} {v : Dword} {e : Dev} {t x : Thread}
    (h : Issues i s n cost wd (.ok (e.wreg n r v))) (hne : m ≠ n) (hif : e.hif = s.dev.hif) (hself : e.thread n = t) (hother : e.thread m = x) :
    Yields i s (fun u => u.thread m = x ∧ u.thread n = { t.setReg r v with pc := t.pc + 1 }) :=
  h.yields hif (fun u hu => ⟨by rw [hu.thread, Dev.thread_modThread_ne _ _ _ hne, Dev.wreg, Dev.thread_modThread_ne _ _ _ hne, hother],
    Issues.thread_reg hu hself⟩)

/-- The named thread is another one than thread 0. -/
theorem named_ne {c m sel : Nat} (hm : m = 8 * c + sel % 8) (hsel : sel % 8 ≠ 0) : m ≠ 8 * c := by omega

/-- The named thread is as it was when the instruction issued. -/
theorem named_thread {s : State} {c m sel : Nat} {x : Thread} (hm : m = 8 * c + sel % 8) (hsel : sel % 8 ≠ 0) (hx : x = s.dev.thread m) (cost : Nat) :
    (s.dev.issued (8 * c) cost).thread m = x := hx ▸ Dev.thread_issued_ne _ _ (named_ne hm hsel)

/-- A thread that TGO has started. -/
def Thread.started (x : Thread) (pc : Nat) : Thread :=
  { x with run := 1, halted := false, pc := pc, wait := .none, staging := [], budget := if x.armed = 0 then none else some x.armed }

section
variable {s : State} {c wd wa sel m : Nat} {imm : BitVec 8} {t x : Thread} (h : s.dev.CanIssue c 0 2) (ht : t = s.dev.thread (8 * c))
  (hm : m = 8 * c + sel % 8) (hsel : sel % 8 ≠ 0) (hd : s.dev.isDispatch m = false)
include h ht hm hsel hd

/-- Thread 0 may name a thread that is not a DISPATCH thread. -/
theorem Issues.of_master {i : Instr} {cost : Nat} {f : Dev → Thread → Nat → Eff} {eff : Eff} (hcost : cost ≤ 2)
    (hexec : Machine.exec i s = doneH s (s.dev.masterInstr c 0 wd sel cost f)) (he : f (s.dev.issued (8 * c) cost) (t.charged cost) m = eff) :
    Issues i s (8 * c) cost wd eff := by
  subst ht hm
  have hmay : ¬ (0 ≠ 0 ∨ sel % 8 = 0 ∨ (s.dev.issued (8 * c) cost).isDispatch (8 * c + sel % 8) = true) := by
    rw [show (s.dev.issued (8 * c) cost).isDispatch (8 * c + sel % 8) = false from hd]
    simpa using hsel
  exact .of_instr (th := 0) (h.mono hcost) (.inl rfl) hexec ((if_neg hmay).trans he)

variable (hx : x = s.dev.thread m)
include hx

/-- BARM sets the budget of the next TGO. -/
theorem barm_arms : Yields (.barm c 0 wa sel) s (fun e => e.thread m = { x with armed := (t.reg wa).toNat % 65536 } ∧
    e.thread (8 * c) = { t.charged 1 with pc := t.pc + 1 }) := by
  have hne := named_ne hm hsel
  have hbarm : Issues (.barm c 0 wa sel) s (8 * c) 1 0 (.ok ((s.dev.issued (8 * c) 1).modThread m
      (fun x => { x with armed := (t.reg wa).toNat % 65536 }))) := .of_master h ht hm hsel hd (by decide) rfl rfl
  refine hbarm.pair hne (by simp) ?_ ?_
  · rw [Dev.thread_modThread_ne _ _ _ hne.symm, Dev.thread_issued_self, ht]
  · rw [Dev.thread_modThread_self, named_thread hm hsel hx]

section
variable (hidle : x.run = 0)
include hidle

/-- TSET of an IDLE thread writes its register. -/
theorem tset_writes : Yields (.tset c 0 wa sel imm) s (fun e => e.thread m = x.setReg (imm.toNat % 32) (t.reg wa) ∧
    e.thread (8 * c) = { t.charged 1 with pc := t.pc + 1 }) := by
  have hne := named_ne hm hsel
  have hrun : ((s.dev.issued (8 * c) 1).thread m).run = 0 := by rw [named_thread hm hsel hx, hidle]
  have htset : Issues (.tset c 0 wa sel imm) s (8 * c) 1 0 (.ok ((s.dev.issued (8 * c) 1).wreg m (imm.toNat % 32) (t.reg wa))) :=
    .of_master h ht hm hsel hd (by decide) rfl (congrArg Eff.ok (if_pos hrun))
  refine htset.pair hne (by simp) ?_ ?_
  · rw [Dev.wreg, Dev.thread_modThread_ne _ _ _ hne.symm, Dev.thread_issued_self, ht]
  · rw [Dev.wreg, Dev.thread_modThread_self, named_thread hm hsel hx]

/-- TSTOP of an IDLE thread writes 1. -/
theorem tstop_idle : Yields (.tstop c 0 wd sel) s (s.dev.RegDone (8 * c) 2 wd 1) := by
  have hrun : ((s.dev.issued (8 * c) 2).thread m).run = 0 := by rw [named_thread hm hsel hx, hidle]
  exact Issues.reg (.of_master h ht hm hsel hd (by decide) rfl (if_pos hrun))

/-- TGO of an IDLE thread starts it at a word of the code region, with the budget of BARM, and writes 0. -/
theorem tgo_starts (hpc : (t.reg wa).toNat < s.dev.codeWords c) : Yields (.tgo c 0 wd wa sel) s (fun e =>
    e.thread m = x.started (t.reg wa).toNat ∧ e.thread (8 * c) = { (t.charged 2).setReg wd 0 with pc := t.pc + 1 }) := by
  have hne := named_ne hm hsel
  have hrun : ¬ ((s.dev.issued (8 * c) 2).thread m).run ≠ 0 := by rw [named_thread hm hsel hx, hidle]; decide
  have hcode : (s.dev.issued (8 * c) 2).codePc c ((t.charged 2).reg wa).toNat = true := decide_eq_true hpc
  have htgo : Issues (.tgo c 0 wd wa sel) s (8 * c) 2 wd (.ok (((s.dev.issued (8 * c) 2).modThread m (fun x => x.started (t.reg wa).toNat)).wreg
      (8 * c) wd 0)) := .of_master h ht hm hsel hd (by decide) rfl ((if_neg hrun).trans (if_neg (by simp [hcode])))
  refine htgo.pair_reg hne (by simp) ?_ ?_
  · rw [Dev.thread_modThread_ne _ _ _ hne.symm, Dev.thread_issued_self, ht]
  · rw [Dev.thread_modThread_self, named_thread hm hsel hx]

end

section
variable (hbusy : x.run ≠ 0)
include hbusy

/-- TSET of a thread that is not IDLE changes nothing. -/
theorem tset_busy : Yields (.tset c 0 wa sel imm) s (s.dev.OnlyThread (8 * c) { t.charged 1 with pc := t.pc + 1 }) := by
  have hrun : ¬ ((s.dev.issued (8 * c) 1).thread m).run = 0 := by rw [named_thread hm hsel hx]; exact hbusy
  have htset : Issues (.tset c 0 wa sel imm) s (8 * c) 1 0 (.ok (s.dev.issued (8 * c) 1)) :=
    .of_master h ht hm hsel hd (by decide) rfl (congrArg Eff.ok (if_neg hrun))
  exact ht ▸ htset.only (s.dev.onlyThread_issued _ _)

/-- TGO of a thread that is not IDLE writes 1. -/
theorem tgo_busy : Yields (.tgo c 0 wd wa sel) s (s.dev.RegDone (8 * c) 2 wd 1) := by
  have hrun : ((s.dev.issued (8 * c) 2).thread m).run ≠ 0 := by rw [named_thread hm hsel hx]; exact hbusy
  exact Issues.reg (.of_master h ht hm hsel hd (by decide) rfl (if_pos hrun))

/-- TSTOP of a thread that is not IDLE ends it, and writes 0. -/
theorem tstop_stops : Yields (.tstop c 0 wd sel) s (fun e => e.thread m = x.ended ∧
    e.thread (8 * c) = { (t.charged 2).setReg wd 0 with pc := t.pc + 1 }) := by
  have hne := named_ne hm hsel
  have hrun : ¬ ((s.dev.issued (8 * c) 2).thread m).run = 0 := by rw [named_thread hm hsel hx]; exact hbusy
  have htstop : Issues (.tstop c 0 wd sel) s (8 * c) 2 wd (.ok (((s.dev.issued (8 * c) 2).endThread m).wreg (8 * c) wd 0)) :=
    .of_master h ht hm hsel hd (by decide) rfl (if_neg hrun)
  refine htstop.pair_reg hne ((Dev.endKept_endThread _ _).hif.trans (by simp)) ?_ ?_
  · rw [Dev.thread_endThread_ne _ hne.symm, Dev.thread_issued_self, ht]
  · rw [Dev.thread_endThread_self, named_thread hm hsel hx]

end

end

/-- From any other thread, TSET, TGO, TSTOP and BARM fault with MASTER_ONLY. -/
theorem yields_masterOnly {i : Instr} {s : State} {c th wd sel cost : Nat} {f : Dev → Thread → Nat → Eff} (h : s.dev.CanIssue c th cost)
    (ha : s.dev.FaultsAlone c th) (hexec : exec i s = doneH s (s.dev.masterInstr c th wd sel cost f)) :
    Yields i s (s.dev.FaultDone c th Cause.masterOnly) :=
  Issues.fault ha (.of_instr h (.inl rfl) hexec (if_pos (.inl ha.child))) (by decide)

/-! ## BRD (R280) -/

section
variable {s : State} {c th wd n : Nat} {t : Thread} (h : s.dev.CanIssue c th 1) (hn : n = 8 * c + th) (ht : t = s.dev.thread n)
include h hn ht

/-- BRD reads the budget after its own cost. -/
theorem brd_budgeted {b : Nat} (hb : t.budget = some b) : Yields (.brd c th wd) s (s.dev.RegDone n 1 wd (BitVec.ofNat 64 (b - 1))) := by
  subst hn ht
  have hleft : ((s.dev.thread (8 * c + th)).charged 1).budget = some (b - 1) := by simp [Thread.charged, hb]
  exact Issues.reg (.of_instr h (.inl rfl) rfl (by simp only [hleft]))

/-- BRD of a thread without a budget reads a free value. -/
theorem brd_unbudgeted (hb : t.budget = none) : Yields (.brd c th wd) s (fun e =>
    e.thread n = { (t.charged 1).setReg wd (Config.freeValue s.dev.free) with pc := t.pc + 1 } ∧ e.free = s.dev.free + 1 ∧ e.bus = s.dev.bus) := by
  subst hn ht
  have hleft : ((s.dev.thread (8 * c + th)).charged 1).budget = none := by simp [Thread.charged, hb]
  have hbrd : Issues (.brd c th wd) s (8 * c + th) 1 wd (.ok ((s.dev.issued (8 * c + th) 1).fresh.2.wreg (8 * c + th) wd (Config.freeValue s.dev.free))) :=
    .of_instr h (.inl rfl) rfl (by simp only [hleft]; rfl)
  have hself := Dev.thread_of_issued (d := s.dev) (e := (s.dev.issued (8 * c + th) 1).fresh.2) (n := 8 * c + th) rfl
  refine hbrd.yields (by simp [Dev.fresh]) (fun u hu => ⟨Issues.thread_reg hu hself, ?_, hu.bus.trans (by simp [Dev.fresh])⟩)
  obtain ⟨⟨ports, out, rfl⟩, -⟩ := hu
  rfl

/-! ## TEND of a thread without a shuttle (R266, R272) -/

variable (hs : t.shuttle = none)
include hs

theorem exec_tend : exec (.tend c th) s = doneH s (s.dev.instr c th 0 1 true (fun d _ =>
    if !(s.dev.locksOf n).isEmpty then .fault Cause.lockLeak else .ok (d.endThread n))) := by
  have hruns := h.issues
  obtain ⟨hc, hth, -⟩ := h
  subst hn ht
  change execTend c th s = _
  simp only [execTend, ge_iff_le, Nat.not_le.2 hc, Nat.not_le.2 hth, hruns, hs, decide_false, Bool.not_true, Bool.or_false, Bool.false_eq_true, if_false]

/-- TEND of a thread without a lock makes it IDLE. -/
theorem tend_ends (hl : s.dev.locksOf n = []) : Yields (.tend c th) s (fun e => (e.thread n).run = 0 ∧ (e.thread n).regs = t.regs ∧ e.bus = s.dev.bus) := by
  have hexec := exec_tend h hn ht hs
  subst hn ht
  have htend : Issues (.tend c th) s (8 * c + th) 1 0 (.ok ((s.dev.issued (8 * c + th) 1).endThread (8 * c + th))) :=
    .of_instr h (.inl rfl) hexec (if_neg (by simp [hl]))
  rw [Dev.endThread_unlocked (d := s.dev.issued (8 * c + th) 1) hl] at htend
  have hself : ((s.dev.issued (8 * c + th) 1).withdrawLocks (8 * c + th)).thread (8 * c + th) = (s.dev.thread (8 * c + th)).charged 1 :=
    Dev.thread_issued_self _ _ _
  have hhif : ((s.dev.issued (8 * c + th) 1).withdrawLocks (8 * c + th)).hif = s.dev.hif := by simp [Dev.withdrawLocks]
  have hbus : ((s.dev.issued (8 * c + th) 1).withdrawLocks (8 * c + th)).bus = s.dev.bus := by simp [Dev.withdrawLocks]
  generalize (s.dev.issued (8 * c + th) 1).withdrawLocks (8 * c + th) = d at htend hself hhif hbus
  refine htend.yields hhif (fun u hu => ?_)
  rw [Issues.thread_next hu (d.thread_modThread_self _ _), hself]
  exact ⟨rfl, rfl, hu.bus.trans hbus⟩

/-- TEND of a thread that holds a lock faults (R272). -/
theorem tend_leaks (ha : s.dev.FaultsAlone c th) (hl : s.dev.locksOf n ≠ []) : Yields (.tend c th) s (s.dev.FaultDone c th Cause.lockLeak) :=
  Issues.fault ha (.of_instr h (.inl rfl) (exec_tend h hn ht hs) (if_pos (by simpa using hl))) (by decide)

end

/-! ## The statement -/

/-- Settles O43: a wait by whether its condition has come, a wake likewise, the control of threads by the state of the named thread, and the end of a
thread by its locks. -/
theorem waitsWakesAndThreadControl : Obligations.WaitsWakesAndThreadControl := by
  unfold Obligations.WaitsWakesAndThreadControl
  refine ⟨?waits, ?wakes, fun s c th sel h => sig_signals sel h, ?control, ?masterOnly, ?ends⟩
  case waits =>
    intro s c th wd wa n imm t T h hn ht hg hT
    refine ⟨fun hdue => ?_, fun hearly => ?_, fun hev h0 => ?_, fun hev h0 => ?_, fun hev hearly => ?_⟩
    · refine ((waitt_issues (wd := wd) h hn ht hg hT (if_pos hdue)).gives ht).mono ?_
      rintro e ⟨hrun, hpc, hwake, hreg, -⟩
      exact ⟨hreg, hrun, hpc, hwake⟩
    · exact (waitt_issues h hn ht hg hT (if_neg (Nat.not_le.2 hearly))).wait
    · refine ((waite_issues (wd := wd) (due := false) h hn ht hg hT rfl (by simp [h0]) (if_pos (.inl hev))).gives ht).mono ?_
      rintro e ⟨hrun, hpc, hwake, hreg, hevents⟩
      rw [wakeWord, if_neg hev] at hwake hreg
      exact ⟨hrun, hpc, hwake, hreg, hevents⟩
    · have hwaite := waite_issues (wd := wd) (imm := imm) (due := false) h hn ht hg hT hev.symm (by simp [h0]) (if_neg (by simp))
      rw [if_pos h0] at hwaite
      exact hwaite.wait
    · have hwaite := waite_issues (wd := wd) (imm := imm) (due := false) h hn ht hg hT hev.symm (by simp [hearly]) (if_neg (by simp))
      rw [if_neg (by omega)] at hwaite
      exact hwaite.wait
  case wakes =>
    intro s c th n t hc hth hn hgate hq ht hr
    refine ⟨fun T hw hdue => ?_, fun T hw hearly => ?_, fun m hw hev => ?_, fun k l hw hl => ⟨fun ho => ?_, fun ho => ?_⟩⟩
    · subst ht
      exact threadWake_gives hc hth hn hgate hq ((Dev.threadWake_time hr hw).trans (if_pos hdue))
    · subst ht
      exact threadWake_idle hc hth hn hgate hq ((Dev.threadWake_time hr hw).trans (if_neg (Nat.not_le.2 hearly)))
    · subst ht
      have hgives := threadWake_gives hc hth hn hgate hq (Dev.threadWake_event hr hw hev)
      rw [wakeWord, if_neg hev] at hgives
      exact hgives
    · exact threadWake_lock_passed hc hth hn hgate hq ht hr hw hl ho
    · subst ht
      exact threadWake_idle hc hth hn hgate hq ((Dev.threadWake_lock hr hw hl).trans (if_neg ho))
  case control =>
    intro s c wd wa sel m imm t x h ht hm hsel hd hx
    refine ⟨fun hidle => ⟨tset_writes h ht hm hsel hd hx hidle, tstop_idle h ht hm hsel hd hx hidle, fun hpc => ?_⟩,
      fun hbusy => ⟨tset_busy h ht hm hsel hd hx hbusy, tgo_busy h ht hm hsel hd hx hbusy, ?_⟩, barm_arms h ht hm hsel hd hx⟩
    · refine (tgo_starts h ht hm hsel hd hx hidle hpc).mono ?_
      rintro e ⟨hstarted, hself⟩
      rw [hstarted]
      exact ⟨hself, rfl, rfl, rfl, rfl⟩
    · refine (tstop_stops h ht hm hsel hd hx hbusy).mono ?_
      rintro e ⟨hended, hself⟩
      rw [hended]
      exact ⟨hself, rfl, rfl⟩
  case masterOnly =>
    intro s c th wd wa sel imm i h hchild hfree hi
    have ha := h.alone hchild hfree
    simp only [List.mem_cons, List.not_mem_nil, or_false] at hi
    obtain rfl | rfl | rfl | rfl := hi
    · exact yields_masterOnly (h.mono (by decide)) ha rfl
    · exact yields_masterOnly h ha rfl
    · exact yields_masterOnly h ha rfl
    · exact yields_masterOnly (h.mono (by decide)) ha rfl
  case ends =>
    intro s c th wd n t h hn ht
    exact ⟨fun b hb => brd_budgeted h hn ht hb, brd_unbudgeted h hn ht, tend_ends h hn ht,
      fun hs hl hchild => tend_leaks h hn ht hs (h.alone hchild (by rw [← hn, ← ht, hs])) hl⟩

end Sys2Proof.Machine
end
